-- ==== Sys2Proof/Word.lean ====
section
/-!
DEFINITION. The plain data types every other file of the model uses: bytes and sparse tables.
-/
namespace Sys2Proof

/-- One byte. -/
abbrev Byte := BitVec 8

/-- A sparse table: pairs of a key and a value, keys strictly rising. A key that is not listed holds the default
its reader names. -/
abbrev Tab (α : Type) := List (Nat × α)

end Sys2Proof
end

