-- ==== Sys2Proof/Syntax.lean ====
section
/-!
DEFINITION. The commands of the block: one constructor per row of spec/opcode_table.json, with the row's operands. A
command is one occurrence: a host or monitor access, an operation of a link, a pin event, or a step of the block's own
hardware or firmware that the table lists. What comes from outside the block (packet bodies, host memory, measurements,
flash contents) is an operand.
-/
namespace Sys2Proof

/-- A copy of the boot directory as the device reads it from QSPI: generation, firmware slot, bit-stream slot, and
whether its CRC-32C is correct (R44). -/
structure DirCopy where
  gen : Nat
  fw : Fin 2
  bs : Fin 2
  crcOk : Bool
  deriving DecidableEq, Repr

/-- A received Ethernet frame, as the block sees it (R369, R370). -/
inductive PtpMsg where
  /-- An ARP request for the port's address, or an ICMP echo request. -/
  | echo (port : Fin 2) (icmp : Bool)
  /-- An IGMP membership query. -/
  | query (port : Fin 2)
  /-- An Announce of a domain: the grandmaster that the best-master algorithm of IEEE 1588 then selects, the UTC offset,
  the port state the algorithm gives, and the SMPTE daily jam time if the TLV is present. -/
  | announce (port : Fin 2) (domain gm utc portState : Nat) (jam : Option Nat)
  /-- A Sync or a Delay_Resp of a domain, with the mean path delay it yields in units of 0.5 ns. -/
  | sync (port : Fin 2) (domain path : Nat)
  /-- A Delay_Req of a domain for which the port is master. -/
  | delayReq (port : Fin 2) (domain : Nat)
  /-- A management message of a domain. -/
  | management (port : Fin 2) (domain : Nat)
  /-- Any other frame, or a PTP message outside the scope of Table 14-3. -/
  | other (port : Fin 2)
  deriving DecidableEq, Repr

/-- What an SPS says of a stream: profile (0 Main, 1 Main 10, 2 Main 4:2:2 10, 3 any other), picture size, luma sample rate,
sps_max_dec_pic_buffering_minus1 + 1, chroma format (1 for 4:2:0, 2 for 4:2:2), 8-bit samples, and the base-2 logarithm of its
CTB size (R233). -/
structure Sps where
  profile : Nat
  w : Nat
  h : Nat
  rate : Nat
  dpb : Nat
  chroma : Nat
  depth8 : Bool
  ctb : Nat
  deriving DecidableEq, Repr

/-- What a decoder finds in the next access unit (R233, R235). -/
inductive DecPic where
  /-- A picture: the SPS that it activates when it is an IRAP, its POC, the POCs of the references that an RPS names and the
  DPB does not hold, and the CTUs, in raster order, of slice segments that fail to parse. -/
  | picture (sps : Option Sps) (poc : Nat) (missing lost : List Nat)
  /-- A RASL picture that H.265 prescribes neither to decode nor to output. -/
  | rasl
  deriving DecidableEq, Repr

/-- A link that runs the Hyhaod rules at the word level: a bundle, or hop 0 of a magazine lane (R242). -/
inductive Link where
  | bundle (b : Fin 8)
  | hop (l : Fin 16)
  deriving DecidableEq, Repr

/-- What a command's transfer finds in host memory: whether every access succeeded, the segment list when SGL is 1, and the
bytes read from the buffer when the command reads it (R301). -/
structure HostData where
  ok : Bool
  segs : List (Nat × Nat)
  data : List Byte
  deriving DecidableEq, Repr

/-- A unit of TYPE 6 to 9 of Table 15-2. -/
inductive FaultUnit where
  | ce (n : Fin 2)
  | pak
  | enc (n : Fin 2)
  | dec
  deriving DecidableEq, Repr

/-- An internal fault of PAK, an encoder core or the decoder core; the decoder's names the access unit in progress: its bytes
and what they hold. -/
inductive CoreFault where
  | pak
  | enc (n : Fin 2)
  | dec (au : Option (Nat × DecPic))
  deriving DecidableEq, Repr

/-- The traffic that a DRAM request belongs to (Table 01-3). -/
inductive Traffic where
  /-- Class 0: ITK's writes to the recording polder, also of frames that are interpreted and not recorded (R15); MAG's reads;
  cross-channel parity; PAK in Packed mode. -/
  | intakeWrite | magazineRead | crossParity | packing
  /-- Class 1: display outlets, composers, feed and viewfinder reads, audio. -/
  | displayOutlet | composer | feedRead | viewfinderRead | audio
  /-- Class 2: codec references, coding and vision outlets, frame-mode context reads. -/
  | codecReference | codingOutlet | visionOutlet | frameModeRead
  /-- Class 3: DMA programs, host access through BAR2, reader-mode offload. -/
  | dmaProgram | bar2 | offload
  deriving DecidableEq, Repr

/-- The commands. -/
inductive Instr where
  /-- REGISTER_WRITE: A host or monitor write to a BAR0 register field that has no row of its own takes effect under its access code, or is ignored and raises GLB event 9. (R4) -/
  | registerWrite (off : Nat) (wide : Bool) (v : Nat)
  /-- LOW_WORD_DISCARD: A held low word of a 64-bit register whose high word has not followed within 1024 CCLK cycles is discarded and GLB event 9 is raised. (R3) -/
  | lowWordDiscard (off : Nat)
  /-- LATCH_RELEASE: The latched upper words of a wide RO register are released when not read within 1024 CCLK cycles. (R442) -/
  | latchRelease (off : Nat)
  /-- REFERENCE_LOST: The active reference clock is declared lost after 100 ns without an edge or a 10 µs frequency error above 500 ppm, and the root PLL enters holdover. (R36) -/
  | referenceLost (ref : Fin 2)
  /-- REFERENCE_SWITCH: The root PLL completes its relock to the other good reference, raises GLB event 1 and increments SWITCH_COUNT. (R37) -/
  | referenceSwitch
  /-- REFERENCE_GOOD: A reference that has met neither loss condition for 10 ms is declared good again. (R36) -/
  | referenceGood (ref : Fin 2)
  /-- PREF: A write of CLK_REF_CTL.PREF while both references are good switches the PLL as under R37. (R38) -/
  | pref (ref : Fin 2)
  /-- POWER_ON_RESET: A supply rising through its threshold, or a rail below 94 % for 200 ns, resets the whole device. (R429) -/
  | powerOnReset
  /-- POR_RELEASE: The power-on reset ends once every rail has been above 95 % of nominal for 1 ms. (R429) -/
  | porRelease (straps : Fin 8)
  /-- RESET_N_ASSERT: RESET_N low for at least 1 µs causes a cold reset, and shorter pulses are ignored. (R432) -/
  | resetNAssert (ns : Nat)
  /-- RESET_N_RISE: RESET_N rising ends a power-on or cold reset, samples the straps and starts the cold boot sequence. (R45) -/
  | resetNRise (straps : Fin 8)
  /-- COLD: A write of GLB_RESET_CTL.COLD with the correct KEY performs a cold reset. (R39) -/
  | cold (key : Nat)
  /-- WARM: A write of GLB_RESET_CTL.WARM with the correct KEY starts a warm reset in the order of Table 02-5. (R41) -/
  | warm (key : Nat)
  /-- PCIE_PERST_N_ASSERT: PCIE_PERST_N going low while RESET_N is high starts a warm reset. (R433) -/
  | pciePerstNAssert
  /-- PCIE_HOT_RESET: A PCIe hot reset or link-down reset starts a warm reset. (R39) -/
  | pcieHotReset
  /-- FUNCTION_LEVEL_RESET: A Function Level Reset starts a warm reset. (R293) -/
  | functionLevelReset
  /-- FIRMWARE_WATCHDOG: The firmware watchdog, triggered by a second warden-core fault, starts a warm reset. (R400) -/
  | firmwareWatchdog
  /-- WARM_DRIVE_DRAIN_END: During a warm reset MAG's wait for outstanding drive commands ends or reaches 2 ms, and DRAM enters self-refresh while the listed units reset. (R41) -/
  | warmDriveDrainEnd
  /-- WARM_FIRMWARE_RESTART: W_0 finishes re-verifying the preserved firmware image and restarts the warden cores. (R41) -/
  | warmFirmwareRestart
  /-- SELF_REFRESH_EXIT: DRAM leaves self-refresh after a warm reset and is retrained when the temperature has changed by more than 10 °C. (R41) -/
  | selfRefreshExit (failed : Nat)
  /-- ROOT_PLL_LOCK: The root PLL locks after RESET_N rises and the ROM on W_0 reads the straps and the boot directory. (R45) -/
  | rootPllLock (dir : List DirCopy)
  /-- FIRMWARE_LOAD_DONE: The firmware image read from QSPI finishes its checks and starts on the warden cores, or falls back to the other slot or to recovery. (R46) -/
  | firmwareLoadDone (image : List Byte)
  /-- DRAM_TRAINING_DONE: DRAM initialisation and training on all channels completes, retiring channels that fail. (R342) -/
  | dramTrainingDone (failed : Nat)
  /-- BITSTREAM_READ_DONE: The boot bit-stream read from QSPI finishes its checks and is woven, or falls back to the other slot. (R46) -/
  | bitstreamReadDone (image : List Byte)
  /-- READY: The boot or warm-reset weave completes, GLB_BOOT_STATUS.READY is set, GLB event 0 is raised and lanes leave OFF. (R45) -/
  | ready
  /-- PCIE_LINK_UP: PCIe link training reaches L0 and configuration requests complete successfully. (R433) -/
  | pcieLinkUp
  /-- LEN: A write of GLB_RECOVERY.LEN in recovery starts the check of the firmware image written to BAR2. (R47) -/
  | len (n : Nat)
  /-- RECOVERY_CHECK_DONE: The recovery image check ends, running the image or staying in recovery with the reason code in ERROR. (R47) -/
  | recoveryCheckDone
  /-- CLIP_RESCUE: After READY, W_1 trains the magazine lanes and starts the rescue of the clip open at the warm reset. (R269) -/
  | clipRescue
  /-- RESCUE_WAIT_TIMEOUT: The named magazine has not become READY within 2 s, so the rescue is abandoned with STOP_CAUSE 6. (R269) -/
  | rescueWaitTimeout
  /-- LOAD_BITSTREAM: LOAD-BITSTREAM copies an image and checks it under R54, then weaves, stores it to QSPI, or acts on a key-management bit-stream. (R311) -/
  | loadBitstream (h : HostData)
  /-- REWEAVE_CHECK_DONE: The check of the new bit-stream on its DRAM copy ends and quiescence begins: fetching stops and units stop at their next frame boundaries. (R56) -/
  | reweaveCheckDone
  /-- REWEAVE_QUIESCENCE_TIMEOUT: A unit that has reached no frame boundary within 100 ms is stopped and its partial frame discarded. (R56) -/
  | reweaveQuiescenceTimeout
  /-- REWEAVE_QUIESCENT: All units have stopped and the device weaves the new bit-stream, or re-weaves the previous one on failure. (R56) -/
  | reweaveQuiescent (failure : Nat)
  /-- REWEAVE_DONE: The weave ends, fetching resumes, LOAD-BITSTREAM completes and GLB event 3 is raised. (R56) -/
  | reweaveDone
  /-- DELTA_WOVEN: Every context affected by an outlet delta has passed its boundary, LOAD-BITSTREAM completes and GLB event 11 is raised. (R58) -/
  | deltaWoven
  /-- OK: A write of 1 to GLB_FEAT_CTL.OK submits the driver's feature set, which is locked or refused within 64 CCLK cycles. (R59) -/
  | ok
  /-- NEGOTIATE_FEATURES: NEGOTIATE-FEATURES performs the evaluation of R59 and completes OK, FEATURES_REFUSED or FEATURES_LOCKED. (R307) -/
  | negotiateFeatures
  /-- ACTIVATE_FIRMWARE: ACTIVATE-FIRMWARE stops fetching, waits for fetched commands, then loads and self-tests the stored image. (R62) -/
  | activateFirmware
  /-- FW_ACTIVATED: The new firmware passes its self-test, fetching resumes, the boot directory is updated and GLB event 7 is raised. (R62) -/
  | fwActivated (image : List Byte)
  /-- FW_ROLLED_BACK: New firmware that fails or has not resumed fetching within 400 ms is replaced by the previous image and GLB event 8 is raised. (R63) -/
  | fwRolledBack (image : List Byte)
  /-- GPIO_EDGE: A selected edge on a GPIO input is timestamped, sets its EDGE bit (or OVER) and raises GLB event 22. (R66) -/
  | gpioEdge (n : Fin 16) (level : Bool)
  /-- SMCLK_CTL: A write of GLB_SMCLK_n_CTL starts, stops or retunes a sensor master clock. (R67) -/
  | smclkCtl (n : Fin 8) (v : Nat)
  /-- PRIVATE_WRITE: GO with KIND 0 starts an I3C private write transfer. (R68) -/
  | privateWrite (b : Fin 4) (addr len : Nat)
  /-- PRIVATE_READ: GO with KIND 1 starts an I3C private read transfer. (R68) -/
  | privateRead (b : Fin 4) (addr len : Nat)
  /-- BROADCAST_CCC: GO with KIND 2 starts a broadcast CCC. (R68) -/
  | broadcastCcc (b : Fin 4) (ccc len : Nat)
  /-- DIRECT_CCC_WRITE: GO with KIND 3 starts a direct CCC write. (R68) -/
  | directCccWrite (b : Fin 4) (addr ccc len : Nat)
  /-- DIRECT_CCC_READ: GO with KIND 4 starts a direct CCC read. (R68) -/
  | directCccRead (b : Fin 4) (addr ccc len : Nat)
  /-- ENTDAA: GO with KIND 5 runs dynamic address assignment for up to 8 targets. (R68) -/
  | entdaa (b : Fin 4) (addr : Nat)
  /-- I2C_WRITE: GO with KIND 6 starts a legacy I2C write. (R68) -/
  | i2cWrite (b : Fin 4) (addr len : Nat)
  /-- I2C_READ: GO with KIND 7 starts a legacy I2C read. (R68) -/
  | i2cRead (b : Fin 4) (addr len : Nat)
  /-- I3C_TRANSFER_END: An I3C transfer ends, ERR and RX_LEN are set and GLB event 23 + b is raised. (R68) -/
  | i3cTransferEnd (b : Fin 4) (err : Fin 5) (data : List Byte)
  /-- I2C_STRETCH_TIMEOUT: An I2C target stretches SCL for more than 25 ms and the transfer ends with ERR 5. (R68) -/
  | i2cStretchTimeout (b : Fin 4) (data : List Byte)
  /-- IBI_REQUEST: A target's in-band interrupt wins arbitration and is acknowledged into IBI_DATA or NAKed while VALID is 1. (R68) -/
  | ibiRequest (b : Fin 4) (addr : Nat) (data : List Byte)
  /-- HOT_JOIN: A Hot-Join request is acknowledged as an IBI with ADDR 0x02 when HJ_EN is 1, otherwise NAKed. (R68) -/
  | hotJoin (b : Fin 4)
  /-- IBI_DATA_READ: A read of GLB_I3C_b_IBI_DATA returns the payload and clears VALID. (R68) -/
  | ibiDataRead (b : Fin 4)
  /-- TXDATA: A write of GLB_UART_u_TXDATA appends a character to the transmit FIFO or sets TX_OVF when full. (R69) -/
  | txdata (u : Fin 4) (c : Byte)
  /-- UART_CHARACTER_SENT: The UART transmitter finishes sending a character and takes the next from its FIFO. (R69) -/
  | uartCharacterSent (u : Fin 4)
  /-- UART_CHARACTER_RECEIVED: A received character enters the receive FIFO, or sets RX_OVERRUN, and may set RX_READY and raise GLB event 27. (R69) -/
  | uartCharacterReceived (u : Fin 4) (c : Byte) (framing brk : Bool)
  /-- RXDATA_READ: A read of GLB_UART_u_RXDATA returns and removes the oldest received character. (R69) -/
  | rxdataRead (u : Fin 4)
  /-- RX_IDLE: Characters have waited while the line was idle for RX_IDLE character times, so RX_READY is set. (R69) -/
  | rxIdle (u : Fin 4)
  /-- SMB_STATUS: SMBus Read Word of STATUS returns the device summary and clears the pending alert bits. (R70) -/
  | smbStatus (pec : Bool)
  /-- TEMP: SMBus Read Word of TEMP returns THM_STATUS.MAX. (R70) -/
  | temp (pec : Bool)
  /-- HOT: SMBus Read Byte of HOT returns THM_STATUS.HOT. (R70) -/
  | hot (pec : Bool)
  /-- SMB_MODE: SMBus Read Byte of MODE returns GLB_MODE[3:0]. (R70) -/
  | smbMode (pec : Bool)
  /-- IDENT: SMBus Block Read of IDENT returns PART_ID, STEPPING and FW_VERSION. (R70) -/
  | ident (pec : Bool)
  /-- SERIAL: SMBus Block Read of SERIAL returns the certificate serial. (R70) -/
  | serial (pec : Bool)
  /-- SMB_WARM: SMBus Write Byte of WARM with 0xA5 and a correct PEC causes a warm reset after the stop condition. (R70) -/
  | smbWarm (data : Byte) (pec : Option Bool)
  /-- ALERT_MASK: SMBus Write Byte of ALERT_MASK sets which alert conditions drive SMB_ALERT_N. (R70) -/
  | alertMask (data : Byte) (pec : Option Bool)
  /-- ALERT_MASK_READ: SMBus Read Byte of ALERT_MASK returns the mask. (R70) -/
  | alertMaskRead (pec : Bool)
  /-- ALERT_RESPONSE: A read of the Alert Response Address returns 0xB8 and releases SMB_ALERT_N. (R70) -/
  | alertResponse
  /-- SMB_NAK: An unlisted command code or a wrong PEC is NAKed and counted. (R70) -/
  | smbNak (code : Byte) (badPec : Bool)
  /-- CDR_LOCK: The clock-data recovery of a lane in ACQUIRE locks and the lane enters ALIGN. (R91) -/
  | cdrLock (n : Fin 48)
  /-- REACH_RECEIVED: A received reach's comma and header are checked, its payload destuffed, descrambled and delivered, or a miss is counted. (R82) -/
  | reachReceived (n : Fin 48) (sym : List Nat)
  /-- COMMA_LOCK: A receiver in ALIGN sees its fourth spaced comma with a valid header, declares lock and enters TRAIN or LINKED. (R81) -/
  | commaLock (n : Fin 48)
  /-- LOSS_OF_LOCK: The fourth consecutive miss loses comma lock, the lane returns to ALIGN and its state event is raised. (R82) -/
  | lossOfLock (n : Fin 48)
  /-- ALIGN_TIMEOUT: A trained lane that has not regained lock within 100 µs in ALIGN clears TRAINED and returns to ACQUIRE. (R83) -/
  | alignTimeout (n : Fin 48)
  /-- TRAINING_MESSAGE: Two identical accepted copies of a training message are acted on: tap requests applied, echoes checked, or training completes. (R86) -/
  | trainingMessage (n : Fin 48) (msg : Nat)
  /-- ECHO_TIMEOUT: No echo arrives within 1 ms of a request, ECHO_FAILS increments, and the fourth failure sends the lane to FAILED. (R88) -/
  | echoTimeout (n : Fin 48)
  /-- TRAIN_TIMEOUT: A lane that has not reached LINKED when TRAIN_TIMEOUT expires goes to FAILED with LAST_RESULT 2. (R90) -/
  | trainTimeout (n : Fin 48)
  /-- BITSLIP: A write of 1 to BITSLIP moves the software-alignment boundary one UI later. (R84) -/
  | bitslip (n : Fin 48)
  /-- SLIP_DONE: A requested slip takes effect and SLIP_BUSY clears. (R84) -/
  | slipDone (n : Fin 48)
  /-- ACCEPT: A write of 1 to ACCEPT while HDR_OK is 1 declares comma lock at BOUNDARY. (R84) -/
  | accept (n : Fin 48)
  /-- RETRAIN: A write of 1 to RETRAIN sends an eligible lane back to ACQUIRE with TRAINED cleared. (R96) -/
  | retrain (n : Fin 48)
  /-- LOOP: A write of LNK_LANE_n_LOOP on a free, FAILED or retired lane selects a test loop and puts it in TEST. (R95) -/
  | loop (n : Fin 48) (v : Nat)
  /-- PRBS_CTL: A write of GEN_SEL, CHK_SEL or CHK_CLEAR selects PRBS generation or checking, or clears the counts. (R95) -/
  | prbsCtl (n : Fin 48) (v : Nat)
  /-- START: A write of 1 to LNK_LANE_n_EYE_CTL.START starts an eye-scan point. (R97) -/
  | start (n : Fin 48)
  /-- EYE_DONE: An eye-scan point finishes its compared symbols and sets DONE and ERRORS. (R97) -/
  | eyeDone (n : Fin 48) (errors : Nat)
  /-- FS: An accepted FS opens a frame, is presented for admission, reserves polder space, dispatches queued SETs and re-arms the watchdog. (R114) -/
  | fs (b : Fin 8) (seq : Nat) (vs : Fin 16) (fn tag ts tns tf : Nat) (left0 left1 : Nat)
  /-- LP: An accepted LP writes its samples to the recording polder and a stripe-mode store and can make a band ready. (R114) -/
  | lp (b : Fin 8) (seq : Nat) (vs : Fin 16) (y x : Nat) (samples : List Nat)
  /-- FE: An accepted FE closes the frame, or loses it whole for a cause of Table 04-7, and makes it available to MAG. (R115) -/
  | fe (b : Fin 8) (seq : Nat) (vs : Fin 16) (fn lines : Nat)
  /-- EMB: An accepted EMB adds metadata to the open frame or is counted as orphan. (R114) -/
  | emb (b : Fin 8) (seq : Nat) (vs : Fin 16) (fn off : Nat) (data : List Byte)
  /-- ST: An accepted ST updates ITK_VS_n_ST and raises LINK when ALARM rises. (R124) -/
  | st (b : Fin 8) (seq : Nat) (vs : Fin 16) (status : Nat) (alarm : Bool) (temp : Nat)
  /-- RESERVED_TYPE: A packet of a reserved sequenced type advances the expected SEQ, is ignored and counted. (R100) -/
  | reservedType (b : Fin 8) (seq : Nat)
  /-- PACKET_ERROR: A packet error makes the receiver send NAK, discard words until the next resync point and enter RESYNC. (R108) -/
  | packetError (l : Link) (crc : Bool) (lp : Option (Nat × Nat × Nat × List Nat))
  /-- ACK: A received ACK releases kept packets up to its SEQ. (R109) -/
  | ack (l : Link) (seq : Nat)
  /-- NAK: A received NAK makes the sender start an all-IDLE reach and replay kept packets from the NAKed SEQ, or restart the return stream at the fourth. (R109) -/
  | nak (l : Link) (seq : Nat)
  /-- ACK_SEND: The 1 µs acknowledgement interval expires while accepted packets are unacknowledged, so an ACK is sent. (R108) -/
  | ackSend (b : Fin 8)
  /-- NAK_RESEND: No packet with the expected SEQ is accepted within 10 µs of a NAK, so the NAK is sent again. (R108) -/
  | nakResend (b : Fin 8)
  /-- NAK_RESTART: The expected packet has not arrived 10 µs after the fourth NAK, so a NAK with RESTART is sent and open frames are lost. (R108) -/
  | nakRestart (b : Fin 8)
  /-- RESYNC_POINT: A resync point is reached on a bundle, resuming word delivery or advancing DESKEW toward UP. (R105) -/
  | resyncPoint (l : Link)
  /-- DESKEW_DONE: The skew over the 4 reaches after the resync point is measured and the bundle enters UP or FAILED with cause 2. (R107) -/
  | deskewDone (b : Fin 8) (skew : Nat)
  /-- MAP_RESEND: 100 µs pass in DESKEW without a resync point, so the MAP is resent or the bundle fails with cause 3. (R107) -/
  | mapResend (b : Fin 8)
  /-- RELOCK_WAIT_TIMEOUT: A position lane out of lock for 40 µs with no spare makes the bundle FAILED with cause 4. (R112) -/
  | relockWaitTimeout (b : Fin 8)
  /-- RESTART: A write of ITK_BND_n_CTL.RESTART returns a FAILED bundle to LINKING. (R107) -/
  | restart (b : Fin 8)
  /-- FS_TIMEOUT: The frame-start watchdog expires, STALLED is set, FS_TIMEOUT is raised and an open frame is lost with cause 1. (R117) -/
  | fsTimeout (v : Fin 16)
  /-- GO: A write of ITK_VS_n_SET_CTL.GO queues a SET and dispatches it at once when its target allows. (R119) -/
  | go (v : Fin 16)
  /-- SYNC_SEND: Every SYNC_PERIOD µs a SYNC with TIME and optionally NEXT is sent for each bound virtual stream. (R373) -/
  | syncSend (b : Fin 8)
  /-- TURN_END: A colour-engine turn ends, completing bands, frames and outlet publications, and the scheduler grants the next turn. (R136) -/
  | turnEnd (ce : Fin 2)
  /-- STATS_RECORD_WRITE: A completed frame's statistics record is written to its ring and STATS_SEQ advances. (R171) -/
  | statsRecordWrite (ctx : Fin 16)
  /-- ENGINE_FAULT: An internal fault in a colour engine loses its started frames with cause 5, moves unstarted frames and resets or retires the engine. (R139) -/
  | engineFault (ce : Fin 2) (spent : Nat)
  /-- INTERNAL_FAULT_RESET_DONE: A colour engine, PAK, encoder or decoder completes its reset after a transient internal fault. (R395) -/
  | internalFaultResetDone (u : FaultUnit)
  /-- GLB_TIDE_COMMIT: A write of GLB_TIDE_COMMIT snapshots the shadows of the selected units. (R142) -/
  | glbTideCommit (mask : Nat)
  /-- TIDE_IDLE_APPLY: At cycle w + 65 a selected unit with no boundary running applies its snapshot. (R145) -/
  | tideIdleApply
  /-- PIX_TBL_GO: A write of PIX_TBL_CTL.GO checks and starts a table load. (R167) -/
  | pixTblGo
  /-- TABLE_LOAD_DONE: A table load finishes its remaining checks and leaves the table VALID or EMPTY. (R167) -/
  | tableLoadDone
  /-- FEED_BOUNDARY: At a composer group's boundary the newest completed composition is sent, or the last frame is repeated on underrun. (R184) -/
  | feedBoundary (g : Fin 3)
  /-- RXS: A received RXS from a feed receiver updates FED_GRP_g_RXS. (R181) -/
  | rxs (g : Fin 3) (v : Nat) (good : Bool)
  /-- TE_EDGE: An active TE edge starts a viewfinder composition, counts toward self-refresh, or is counted late. (R198) -/
  | teEdge (n : Fin 2)
  /-- FEED_COMPOSITION_START: At TSEL time PHASE + k × PERIOD − LEAD a feed composer starts a composition. (R198) -/
  | feedCompositionStart (n : Fin 4)
  /-- COMPOSITION_DONE: A composition completes, releasing held buffers, sending waiting panel commands or counting as late. (R200) -/
  | compositionDone (n : Fin 4)
  /-- READBACK_CHECK: The read-back CRC of a region is compared with the sent CRC, with mismatch handling under R211. (R210) -/
  | readbackCheck (n : Fin 2) (crc : Nat)
  /-- TE_TIMEOUT: No TE edge for TE_TIMEOUT ms raises VF_TE_LOST, clears TE_OK and starts the internal timer. (R207) -/
  | teTimeout (n : Fin 2)
  /-- INTERNAL_TE: The internal timer of period 1,000 / REFRESH s starts a composition while TE is lost. (R207) -/
  | internalTe (n : Fin 2)
  /-- WAKE_DONE: After WAKE × 100 µs of Mark-1 the link enters LP-11, LINK_STATE 2 and raises VF_SR. (R209) -/
  | wakeDone (n : Fin 2)
  /-- FORCE_FULL: A write of 1 to VFD_n_CTL.FORCE_FULL makes the whole canvas dirty and wakes the link. (R202) -/
  | forceFull (n : Fin 2)
  /-- VFD_CMD_GO: A write of VFD_n_CMD_CTL.GO sends a panel command packet, optionally with bus turn-around. (R212) -/
  | vfdCmdGo (n : Fin 2)
  /-- PANEL_RESPONSE: A panel response arrives into VFD_n_RSP or reports an error. (R212) -/
  | panelResponse (n : Fin 2) (bad : Bool) (data : List Byte)
  /-- PANEL_RESPONSE_TIMEOUT: No response within 10 ms sets ERR to 1. (R212) -/
  | panelResponseTimeout (n : Fin 2)
  /-- OPEN: A write of COD_ENC_n_CTL.OPEN makes W_2 check and open an encoder sequence. (R219) -/
  | encOpen (n : Fin 2)
  /-- CLOSE: A write of COD_ENC_n_CTL.CLOSE ends the sequence after the picture in progress. (R222) -/
  | close (n : Fin 2)
  /-- PICTURE_START: The encoder starts a picture from the next publication, coding repeat pictures or restarting for missing frames or a full ring. (R220) -/
  | pictureStart (n : Fin 2)
  /-- CTU_CODED: A staged CTU is committed or the picture falls back to minimum cost under the freeboard rule. (R228) -/
  | ctuCoded (n : Fin 2) (beta coded : Nat)
  /-- PICTURE_DONE: A coded picture is written as an access-unit record with filler and OUT_WR advances. (R230) -/
  | pictureDone (n : Fin 2) (size : Nat)
  /-- OUT_RD: A host write of COD_ENC_n_OUT_RD frees output-ring space or is ignored. (R231) -/
  | outRd (n : Fin 2) (v : Nat)
  /-- DEC_START: A write of COD_DEC_CTL.START starts DEC_0 when no record is armed or active. (R234) -/
  | decStart
  /-- DEC_STOP: A write of COD_DEC_CTL.STOP stops DEC_0 after the picture in progress. (R234) -/
  | decStop
  /-- DEC_IN_WR: A write of COD_DEC_IN_WR gives DEC_0 more input bytes. (R233) -/
  | decInWr (v : Nat)
  /-- DEC_STARVED: No write of DEC_IN_WR for IN_TIMEOUT ms raises DEC_STARVED. (R234) -/
  | decStarved
  /-- DECODED_PICTURE: DEC_0 finishes a picture, with concealment, and writes it to a free output buffer. (R236) -/
  | decodedPicture (n : Nat) (p : DecPic)
  /-- CPL: A drive completion is accepted and stripes, frames, seals and host writes become durable or a drive is removed. (R256) -/
  | cpl (l : Fin 16) (seq : Nat) (p : Fin 4) (tag status blocks info : Nat)
  /-- MAG_DATA: An upstream DATA packet of a READ or IDENTIFY is accepted. (R243) -/
  | magData (l : Fin 16) (seq : Nat) (p : Fin 4) (tag off : Nat) (data : List Byte)
  /-- DRV_STATUS: An accepted DRV_STATUS restarts the drive's heartbeat window and may remove it or finish a sanitise or format. (R246) -/
  | drvStatus (l : Fin 16) (p : Fin 4) (st : Fin 5) (alarm : Bool) (progress qfree temp : Nat)
  /-- HOP_ACK_SEND: The 0.5 µs hop acknowledgement interval expires and an ACK is sent. (R245) -/
  | hopAckSend (l : Fin 16)
  /-- HOP_NAK_RESEND: The expected packet has not arrived 1.5 µs after a hop NAK, so the NAK is sent again. (R245) -/
  | hopNakResend (l : Fin 16)
  /-- REPLAY_EXHAUSTED: Hop replay is exhausted after the eighth NAK or 13 µs unacknowledged, and the lane's drives are removed. (R245) -/
  | replayExhausted (l : Fin 16)
  /-- RELOCK_WINDOW: A hop out of comma lock for 16 µs removes every drive on the lane. (R262) -/
  | relockWindow (l : Fin 16)
  /-- HEARTBEAT_LOST: 20 µs without a DRV_STATUS removes the drive. (R262) -/
  | heartbeatLost (d : Fin 64)
  /-- COMMAND_TIMEOUT: A drive command without a CPL after 2 ms removes the drive. (R262) -/
  | commandTimeout (d : Fin 64) (tag : Fin 64)
  /-- MAGAZINE_IDENTIFIED: MAG reads IDENTIFY and labels of a magazine after its lanes link and sets PRESENT and READY. (R267) -/
  | magazineIdentified (m : Fin 2)
  /-- FAILED_LANE_RETRY: Every 100 ms a FAILED lane of an idle magazine returns to ACQUIRE. (R268) -/
  | failedLaneRetry (l : Fin 16)
  /-- STRIPE_ISSUE: A full magazine stripe is issued as chunk WRITEs with parity, possibly finding the magazine full. (R256) -/
  | stripeIssue
  /-- CHANGE_NOW: A write of MAG_CTL.CHANGE_NOW triggers a changeover to the other magazine. (R260) -/
  | changeNow
  /-- ARM_RECORD: ARM-RECORD checks and arms a record on the target magazine with per-context pre-roll. (R254) -/
  | armRecord
  /-- RECORD_START: RECORD-START opens a clip from the pre-roll start point and returns the CLIP_ID. (R257) -/
  | recordStart
  /-- RECORD_STOP: RECORD-STOP disarms an armed record or fixes the stop point and enters STOPPING. (R257) -/
  | recordStop
  /-- MARK: MARK latches TSEL and each context's newest FN into the mark list. (R258) -/
  | mark
  /-- PACK_SLICE: PAK codes a slice once its rows are in the recording polder, completing or failing the frame's packing job. (R287) -/
  | packSlice
  /-- OFFLOAD: OFFLOAD reads a clip segment, restores chunks, applies verification or recovery and delivers extents. (R320) -/
  | offload (h : HostData)
  /-- REBUILD: A rebuild restores a removed slot onto a new drive stripe by stripe, writing labels every 256 stripes. (R291) -/
  | rebuild (m : Fin 2) (ring : Fin 4) (slot : Fin 32) (d : Fin 64)
  /-- SQ_TAIL: A write of QIF_SQ_TAIL_q gives the fetcher new submission entries or is ignored and recorded. (R297) -/
  | sqTail (q : Fin 64) (v : Nat)
  /-- CQ_HEAD: A write of QIF_CQ_HEAD_q releases completions or is ignored and recorded. (R297) -/
  | cqHead (q : Fin 64) (v : Nat)
  /-- EN: A write of QIF_CTL.EN = 1 creates the admin queue and sets RDY. (R296) -/
  | en
  /-- QIF_DISABLE: A write of QIF_CTL.EN = 0 resets and deletes every queue. (R327) -/
  | qifDisable
  /-- ADMIN_RESET: A write of QIF_CTL.ADMIN_RESET resets the admin queue. (R327) -/
  | adminReset
  /-- FETCH_READ: With no read outstanding the fetcher arbitrates and issues a read of up to 8 submission entries. (R304) -/
  | fetchRead
  /-- ENTRIES_FETCHED: A submission-entry read returns, queuing commands for dispatch or putting the queue in error on failure. (R304) -/
  | entriesFetched (data : Option (List Byte))
  /-- COMMAND_DISPATCH: W_0 dispatches the next command, checks it under R302 and starts it or completes it with an error. (R305) -/
  | commandDispatch
  /-- COALESCE_TIMEOUT: COAL_T µs after the first pending completion a coalesced MSI-X message is sent. (R300) -/
  | coalesceTimeout (q : Fin 64)
  /-- MSIX_UNMASK: Unmasking a vector sends the message whose PBA bit is pending. (R300) -/
  | msixUnmask (v : Fin 64)
  /-- IDENTIFY: IDENTIFY returns the device data, the certificate or a signed challenge. (R306) -/
  | identify (h : HostData)
  /-- CREATE_QUEUE: CREATE-QUEUE creates an I/O queue with its class, vector and coalescing. (R308) -/
  | createQueue
  /-- DELETE_QUEUE: DELETE-QUEUE resets a queue under R327 and removes it. (R327) -/
  | deleteQueue
  /-- RESET_QUEUE: RESET-QUEUE aborts, finishes and discards a queue's work and returns its indices to 0. (R327) -/
  | resetQueue
  /-- GET_LOG: GET-LOG returns bytes of a log page. (R309) -/
  | getLog (h : HostData)
  /-- SET_EVENT_ROUTE: SET-EVENT-ROUTE replaces one event source's route. (R310) -/
  | setEventRoute
  /-- SANITISE: SANITISE sends the sanitise opcode to every drive of a magazine. (R319) -/
  | sanitise
  /-- FORMAT: FORMAT formats a magazine's drives, or with LABEL_ONLY writes only the GEN 1 label. (R319) -/
  | format
  /-- CLIP_OPEN: CLIP-OPEN opens a read or write handle on a clip-table entry or closes one, sealing a written segment. (R313) -/
  | clipOpen
  /-- READ_EXTENT: READ-EXTENT copies bytes of an open segment to the host, restoring missing chunks. (R314) -/
  | readExtent (h : HostData)
  /-- WRITE_EXTENT: WRITE-EXTENT stages host data and writes whole stripes to a write handle's segment. (R315) -/
  | writeExtent (h : HostData)
  /-- FLUSH: FLUSH completes once every earlier completed WRITE-EXTENT is durable. (R322) -/
  | flush
  /-- VISION_FETCH: VISION-FETCH copies one vision slot to the host, or completes STALE. (R317) -/
  | visionFetch (h : HostData) (changed : Bool)
  /-- PROXY_FETCH: PROXY-FETCH copies whole access-unit records and advances OUT_RD. (R318) -/
  | proxyFetch (h : HostData)
  /-- BLOCK_ACCESS: The DRAM controller issues the next 256-byte block access of the highest pending class on a channel, with neighbour-row refresh. (R339) -/
  | blockAccess (c : Fin 16) (arrived : List (Traffic × Bool × Nat)) (busy : List (Fin 16)) (waited : Bool) (result : Fin 4)
  /-- REFRESH: A per-bank refresh falls due and is issued, ahead of requests at its postponement limit. (R340) -/
  | refresh (c : Fin 16) (bank : Fin 16)
  /-- DRIFT_CHECK: Every 1 ms each channel's WCK-to-DQ oscillator is read and drift corrected. (R343) -/
  | driftCheck (c : Fin 16)
  /-- MEM_RETRAIN: A write of MEM_RETRAIN requests a channel retraining. (R343) -/
  | memRetrain (v : Nat)
  /-- RETRAIN_STEP_DONE: A retraining step of a channel ends, continuing, completing or retiring the channel after a second failure. (R343) -/
  | retrainStepDone (c : Fin 16) (ok last : Bool)
  /-- DMA_GO: A write of DMA_CH_n_CTL.GO starts a channel at DMA_CH_n_PC. (R360) -/
  | dmaGo (n : Fin 32)
  /-- DMA_STOP: A write of DMA_CH_n_CTL.STOP ends a running or waiting channel with cause 7. (R360) -/
  | dmaStop (n : Fin 32) (moved : List Nat)
  /-- MOVE: A MOVE instruction checks its ranges and starts copying or filling bytes. (R352) -/
  | move (n : Fin 32)
  /-- MOVE_DONE: A MOVE in flight completes, releasing held-back MOVEs and fetches, or faults the channel on a host error. (R356) -/
  | moveDone (n : Fin 32) (k : Fin 4) (data : Option (List Byte))
  /-- LOOP_INSTR: A LOOP instruction steps its counter and offsets and jumps back or falls through. (R353) -/
  | loopInstr (n : Fin 32)
  /-- WAIT: A WAIT instruction decrements its semaphore or puts the channel in WAITING. (R357) -/
  | wait (n : Fin 32)
  /-- SIGNAL: A SIGNAL instruction, after earlier MOVEs complete, increments its semaphore and may raise the channel event. (R357) -/
  | signal (n : Fin 32)
  /-- END: An END instruction puts the channel in DONE and may raise its event. (R359) -/
  | endInstr (n : Fin 32)
  /-- DMA_SEM: A host write of DMA_SEM_s adds to the semaphore and may satisfy waiting channels. (R357) -/
  | dmaSem (k : Fin 64) (v : Nat)
  /-- WAIT_TIMEOUT: A WAIT unsatisfied after TIMEOUT µs faults the channel with cause 6. (R358) -/
  | waitTimeout (n : Fin 32)
  /-- INCR: A host write of TIM_TB_n_INCR sets a base's increment or is ignored. (R365) -/
  | incr (n : Fin 4) (v : Nat)
  /-- STEP: A write of TIM_TB_n_STEP steps a base, adjusting Δ once TSEL is established. (R365) -/
  | step (n : Fin 4) (v : Nat)
  /-- COMP_UPDATE: Every 1 ms the compensation correction c is recomputed from the selected sensor or held. (R366) -/
  | compUpdate
  /-- SERVO_MEASUREMENT: W_3 measures a base's offset from its source and steps, steers or changes the base state. (R367) -/
  | servoMeasurement (n : Fin 4) (offset : Int)
  /-- SOURCE_LOST: A base's PTP, genlock or PPS source is lost and the base enters HOLDOVER. (R368) -/
  | sourceLost (n : Fin 4)
  /-- PTP_MESSAGE: A PTP or other Ethernet frame is received, timestamped and processed or discarded. (R370) -/
  | ptpMessage (m : PtpMsg)
  /-- ETH_LINK: An Ethernet port's link changes and event 473 + n is raised. (R390) -/
  | ethLink (n : Fin 2) (up : Bool)
  /-- GENLOCK_EDGE: A rising edge on GENLOCK_IN is timestamped into TIM_GL_TS. (R372) -/
  | genlockEdge
  /-- PPS_EDGE: A rising edge on PPS_IN is timestamped into TIM_PPS_TS. (R372) -/
  | ppsEdge
  /-- SYNC_OUT_PULSE: SYNC_OUT rises at a TSEL grid time for SO_WIDTH µs. (R372) -/
  | syncOutPulse
  /-- PPS_OUT_PULSE: PPS_OUT rises at each whole TSEL second for PPS_WIDTH ms. (R372) -/
  | ppsOutPulse
  /-- SRC: A host write of TIM_TSEL_CTL.SRC selects another base and switches TSEL. (R376) -/
  | src (b : Fin 4)
  /-- TSEL_REVERT: With AUTO and REVERT, PRIMARY LOCKED for REVERT_S seconds switches TSEL back. (R376) -/
  | tselRevert
  /-- SLEW_DONE: Δ reaches 0 after slewing and event 468 is raised. (R375) -/
  | slewDone
  /-- RESYNC: A write of TIM_TSEL_CTL.RESYNC sets Δ to 0, stepping TSEL. (R376) -/
  | resync
  /-- FORCE_EST: A write of TIM_TSEL_CTL.FORCE_EST makes TSEL ESTABLISHED. (R374) -/
  | forceEst
  /-- TIM_SNAP: A write of TIM_SNAP.GO captures all five time snapshots in one TCLK cycle. (R362) -/
  | timSnap
  /-- AUD_START: A write of AUD_AU_p_CTL.START moves an OFF port to CLOCKING. (R385) -/
  | audStart (p : Fin 8)
  /-- AUD_STOP: A write of AUD_AU_p_CTL.STOP drains or stops a port. (R385) -/
  | audStop (p : Fin 8)
  /-- TDM_FRAME: A port's TDM frame sync passes, counting LEAD frames, committing the mask and exchanging slot data. (R381) -/
  | tdmFrame (p : Fin 8) (maskAge : Nat) (words : List Nat)
  /-- FRAME_SYNC_LOST: A slave port sees no frame sync for 4 nominal periods and enters FAULT. (R385) -/
  | frameSyncLost (p : Fin 8)
  /-- RATIO_UPDATE: Every 1 ms W_3 updates a port's rate ratio and divider, detecting rate errors. (R383) -/
  | ratioUpdate (p : Fin 8) (ratio : Nat)
  /-- MEDIA_FRAME: A port's media instant passes and a media frame is produced, recorded, fed or played, with underrun. (R383) -/
  | mediaFrame (p : Fin 8)
  /-- AUD_WR: A write of AUD_AU_p_WR advances a playback ring's write count. (R386) -/
  | audWr (p : Fin 8) (v : Nat)
  /-- THERMAL_READING: Every 1 ms THM reads each sensor, raising levees, retiring sensors and triggering DRAM retraining. (R403) -/
  | thermalReading (readings : List (Option Int))
  /-- LEVEE_FALL: After 100 ms below the thresholds the levee falls one level. (R405) -/
  | leveeFall
  /-- THERMAL_TRIP: An on-die reading at or above 135 °C drives THERM_TRIP_N low, a cold reset. (R407) -/
  | thermalTrip
  /-- TRIP_RELEASE: Every sensor below 120 °C for 100 ms releases THERM_TRIP_N and the reset. (R407) -/
  | tripRelease (straps : Fin 8)
  /-- WARDEN_WATCHDOG: A warden core's watchdog runs 200 µs without a restart and the core is halted and retired. (R400) -/
  | wardenWatchdog (k : Fin 4)
  /-- WARDEN_FAULT: A warden core reads an uncorrectable error or traps an access and is halted and retired. (R400) -/
  | wardenFault (k : Fin 4)
  /-- WARDEN_FAILOVER: The faulty core's duties resume on its partner and GLB event 20 is raised. (R400) -/
  | wardenFailover (k : Fin 4)
  /-- EVT_ENABLE: Setting an enable bit while its status is 1 delivers the event. (R408) -/
  | evtEnable (k : Fin 16) (v : Nat)
  /-- EVT_STATUS_CLEAR: A W1C write of EVT_STATUS clears status bits and can drop EVENT_OUT pins. (R408) -/
  | evtStatusClear (k : Fin 16) (v : Nat)
  /-- EVT_INJECT: A write of EVT_INJECT.GO sets an event's status as an occurrence. (R408) -/
  | evtInject (e : Fin 512)
  /-- EVENT_CROSSING_ACK: A clock-domain event toggle is acknowledged back in its source domain. (R409) -/
  | eventCrossingAck (e : Fin 512)
  /-- MONITOR_LINE: A complete monitor line arrives and is parsed, refused or passed to its command. (R413) -/
  | monitorLine (line : List Byte) (abort : Option Nat)
  /-- HELP: HELP prints one line per command. (R413) -/
  | help
  /-- VER: VER prints the part, firmware, stream and lock state. (R413) -/
  | ver
  /-- BAUD: BAUD changes the monitor UART rate after its OK. (R412) -/
  | baud (c : Nat)
  /-- BAUD_TIMEOUT: No complete line at the new rate within 2 s returns the UART to 115,200 baud. (R412) -/
  | baudTimeout
  /-- UNLOCK: UNLOCK s draws and prints a nonce for key slot s. (R415) -/
  | unlock (slot : Nat)
  /-- UNLOCK_RESP: UNLOCK RESP verifies the signature and unlocks the monitor or counts a failure. (R415) -/
  | unlockResp (sig : List Byte)
  /-- UNLOCK_BAR_END: 60 s after the third failed unlock UNLOCK is accepted again. (R415) -/
  | unlockBarEnd
  /-- LOCK: LOCK locks the monitor. (R414) -/
  | lock
  /-- IDLE_LOCK: 600 s without a complete line locks the monitor. (R414) -/
  | idleLock
  /-- DISABLE: A write of MON_CTL.DISABLE locks the monitor and aborts the running command. (R414) -/
  | disable (v : Fin 2)
  /-- PEEK: PEEK performs n aligned 32-bit BAR0 reads. (R415) -/
  | peek (off n : Nat)
  /-- POKE: POKE performs one aligned BAR0 write and raises event 510. (R418) -/
  | poke (off v : Nat)
  /-- MEMRD: MEMRD reads DRAM words as requester 13. (R415) -/
  | memrd (addr n : Nat) (abort : Option Nat)
  /-- TRACE_ON: TRACE ON arms an event trace over an event range. (R417) -/
  | traceOn (lo hi : Nat) (post : Option Nat)
  /-- TRACE_OFF: TRACE OFF stops the trace. (R417) -/
  | traceOff
  /-- TRACE_DUMP: TRACE DUMP prints the trace entries and the lost count. (R417) -/
  | traceDump
  /-- EYE: EYE sweeps a lane's eye over 496 points and prints the grid. (R416) -/
  | eye (lane : Nat) (sel : Fin 3) (dwell : Nat)
  /-- BREACH_DUMP: BREACH prints the newest breach records. (R415) -/
  | breachDump (n : Nat) (abort : Option Nat)
  /-- INJECT: INJECT writes EVT_INJECT for an event unless barred during a record. (R418) -/
  | inject (e : Nat)
  /-- ABORT_CHARACTER: A received 0x03 aborts a running EYE, MEMRD or BREACH with ERR 11. (R413) -/
  | abortCharacter
  /-- REGISTER_READ: A host or monitor read of a BAR0 register with behaviour of its own clears RC fields or latches the upper words of a wide RO register. (R442) -/
  | registerRead (off : Nat) (wide : Bool)
  /-- BAR2_ACCESS: A host read or write through BAR2 reaches an exposed polder under its rights, or returns zeros and raises BAR2_VIOLATION, or loads the recovery image. (R294) -/
  | bar2Access (off len : Nat) (data : Option (List Byte))
  /-- PCIE_PERST_N_RELEASE: PCIE_PERST_N rising starts PCIe link training 50 µs later and bounds when READY may be set. (R433) -/
  | pciePerstNRelease
  /-- CONFIGURATION_REQUEST: A host configuration write changes Bus Master Enable or the D0/D3hot power state, gating device requests, admin-queue enabling and DMA HOST accesses. (R293) -/
  | configurationRequest (busMaster d3hot : Bool)
  /-- INTERNAL_FAULT: An internal fault in PAK, an encoder core or the decoder core fails the job, discards or conceals the picture, and starts the unit's reset or retirement. (R395) -/
  | internalFault (f : CoreFault)
  /-- TIME_BASE_FAULT: A parity error in a time base's counter or INCR retires the base, clears SERVO_EN and switches TSEL away from it. (R394) -/
  | timeBaseFault (n : Fin 4)
  /-- LANE_SELF_CHECK_END: The 1 ms near-end PRBS31 self-check of a FAILED magazine or feed lane ends, retiring the lane or returning it to FAILED. (R396) -/
  | laneSelfCheckEnd (n : Fin 48)
  /-- FEED_LANE_RETRY: Every 100 ms FED returns a FAILED feed lane to ACQUIRE. (R396) -/
  | feedLaneRetry (j : Fin 8)
  /-- PRBS_CHECK: Received bits of a lane in TEST are compared by the PRBS checker, which locks, counts errors, loses lock and sets ERR_SEEN. (R95) -/
  | prbsCheck (n : Fin 48) (received : List Bool)
  /-- PTP_MESSAGE_TRANSMIT: At its message interval the device sends a PTP event message (Sync as master, Delay_Req as slave) and timestamps it at the pins with TX_ADJ. (R370) -/
  | ptpMessageTransmit (d : Fin 2) (delayReq : Bool)
  deriving DecidableEq, Repr

end Sys2Proof
end

