-- ==== Sys2Proof/Config.lean ====
section
/-!
DEFINITION. What one unit of the part fixes, the free values, and the external standards the manual refers to without
giving their arithmetic. Every constant here has no body, so no proof can lean on a value of it (assumption 5).
-/
namespace Sys2Proof.Config

/-- The free value drawn at count `k` of State.fresh: nothing constrains it (assumption 4). -/
opaque free : Nat → Nat

/-- The private half of the identity key of this unit, generated inside the device at manufacture (R53). -/
opaque identitySeed : List Byte

/-- The Ovryn public key of slot 0, held in ROM (R52). -/
opaque ovrynKey : List Byte

/-- The certificate of this unit as IDENTIFY returns it (R306). -/
opaque certificate : List Byte

/-- SERIAL of the certificate, 16 bytes (Table 12-7, R70). -/
opaque serial : List Byte

/-- The fused MAC address of Ethernet port n (R369). -/
opaque fuseMac : Nat → Nat

/-- Fitted DRAM in bytes (Table 13-1). -/
opaque dramBytes : Nat

/-- The fitted devices are LPDDR5X (Table 13-12). -/
opaque dramX : Bool

/-- Each channel has two ranks (Table 13-12). -/
opaque dramTwoRanks : Bool

/-- What firmware and core of an encoder decide for a picture: the properties its headers state, the source samples and those of
the references (component, column, row), the final vectors, the QP of each 16 x 16 group, the coding decisions of each CTU, and
the first CTU at minimum cost (R215, R216). -/
structure Coding where
  props : List Nat
  src : Nat → Nat → Nat → Nat
  refs : List (Nat → Nat → Nat → Nat)
  vecs : List (Int × Int)
  qp : Nat → Nat → Int
  modes : Nat → Nat → List Nat
  first : Nat

/-- The bytes H.265 gives an access unit coded so, by their number (R215). -/
opaque accessUnit : Coding → Nat → List Byte

/-- A reconstructed sample of a picture coded so, as H.265 defines it: component, column and row (R215). -/
opaque recon : Coding → Nat → Nat → Nat → Nat

/-- SSE and bits of a trial: the coding block at column and row of a size in a mode, of a picture without coding decisions yet
(R225). -/
opaque trial : Coding → Nat → Nat → Nat → List Nat → Nat × Nat

/-- An intra prediction sample of H.265 from source samples: column, row, size, mode, and the place in the block (R225). -/
opaque intraPred : (Nat → Nat → Nat → Nat) → Nat → Nat → Nat → Nat → Nat → Nat → Nat

/-- LAMBDA_ME[QP], U12.4, and LAMBDA_MODE[QP], U16.8: tables that W_2 sets and no host sees (R224, R225). -/
opaque lambdaMe : Nat → Nat
opaque lambdaMode : Nat → Nat

/-- The bits of the delimiter, parameter sets and SEI of a picture with some properties, and of the header of its slice k (R215,
R227). -/
opaque headBits : List Nat → Nat
opaque sliceBits : List Nat → Nat → Nat

/-- A sample an HEVC decoder reconstructs, as H.265 defines it: the bytes decoded so far, the POCs of references that the most
recent decoded picture replaces and the bytes of that picture, then component, column and row of the stream's own sampling grid
(R233, R235). -/
opaque decodedSample : List Byte → List Nat → List Byte → Nat → Nat → Nat → Nat

/-- The samples that fill a feed line beyond its picture's width up to a multiple of 32 pixels, and the lines of a FILL frame
that a composer group sends before its first frame: group, line, column and component; the manual gives none (R182, R185). -/
opaque padSample : Nat → Nat → Nat → Nat → Nat

/-- The bytes VESA DSC 1.2a gives for one line's chunk of a slice: slice width and height, bits per pixel times 16, bits per
component, the slice's component values in raster order, and the line (R205). -/
opaque dscChunk : Nat → Nat → Nat → Nat → List Nat → Nat → List Byte

/-- The rate-control bytes 16 to 87 of the Picture Parameter Set that VESA DSC 1.2a recommends for a slice size, bits per pixel
times 16 and bits per component, by byte number; byte 3 gives the line buffer depth (R205). -/
opaque dscRc : Nat → Nat → Nat → Nat → Nat → Byte

/-- The mark number of the first MARK of a clip; the manual does not say where the numbers start (Table 11-6, R258). -/
opaque markBase : Nat

end Sys2Proof.Config
end

