-- ==== Sys2Proof/Machine/Bits.lean ====
section
/-!
DEFINITION. Byte order, bit fields, signed numbers, rounding, saturation, the CRCs and the sparse-table operations that
every other file of the machine uses (R1, R7, R8, R9, R13).
-/
namespace Sys2Proof

/-- The value of key `n` in a sparse table, or the default `d` (Word.lean, Tab). -/
def Tab.look {α : Type} (t : Tab α) (n : Nat) (d : α) : α :=
  match t with
  | [] => d
  | (k, v) :: t => if k = n then v else Tab.look t n d

/-- The value listed under key `n`, if any. -/
def Tab.find {α : Type} (t : Tab α) (n : Nat) : Option α :=
  match t with
  | [] => none
  | (k, v) :: t => if k = n then some v else Tab.find t n

/-- The table with key `n` holding `v`; the keys stay in rising order. -/
def Tab.put {α : Type} (t : Tab α) (n : Nat) (v : α) : Tab α :=
  match t with
  | [] => [(n, v)]
  | (k, w) :: t => if n < k then (n, v) :: (k, w) :: t else if n = k then (n, v) :: t else (k, w) :: Tab.put t n v

/-- The table without key `n`. -/
def Tab.drop {α : Type} (t : Tab α) (n : Nat) : Tab α :=
  match t with
  | [] => []
  | (k, w) :: t => if k = n then t else (k, w) :: Tab.drop t n

/-- Every key of the table is above `n`. -/
def Tab.above {α : Type} (n : Nat) (t : Tab α) : Bool := t.all fun p => n < p.1

/-- The keys of the table rise strictly. -/
def Tab.rising {α : Type} : Tab α → Bool
  | [] => true
  | (k, _) :: t => Tab.above k t && Tab.rising t

namespace Machine

/-- Bits `lo` to `lo + w - 1` of `v`. -/
def bits (v lo w : Nat) : Nat := v / 2 ^ lo % 2 ^ w

/-- Whether bit `n` of `v` is 1. -/
def bit (v n : Nat) : Bool := v / 2 ^ n % 2 == 1

/-- 1 for true, 0 for false. -/
def b2n (b : Bool) : Nat := if b then 1 else 0

/-- `v` with bits `lo` to `lo + w - 1` replaced by `x`. -/
def putBits (v lo w x : Nat) : Nat := v - bits v lo w * 2 ^ lo + x % 2 ^ w * 2 ^ lo

/-- The number of 1 bits among the low `w` bits of `v`. -/
def popcount : Nat → Nat → Nat
  | 0, _ => 0
  | w + 1, v => v % 2 + popcount w (v / 2)

/-- The low `n` bytes of `v`, little-endian (R1). -/
def le : Nat → Nat → List Byte
  | 0, _ => []
  | n + 1, v => BitVec.ofNat 8 v :: le n (v / 256)

/-- The number that little-endian bytes hold (R1). -/
def ofLe : List Byte → Nat
  | [] => 0
  | b :: bs => b.toNat + 256 * ofLe bs

/-- `n` bytes of `l` from byte `off` as a little-endian number; bytes past the end read 0. -/
def field (l : List Byte) (off n : Nat) : Nat := ofLe ((l.drop off).take n)

/-- The two's-complement value of the low `w` bits of `v`. -/
def signed (w v : Nat) : Int :=
  if v % 2 ^ w < 2 ^ (w - 1) then (v % 2 ^ w : Nat) else (v % 2 ^ w : Nat) - (2 ^ w : Nat)

/-- The low `w` bits of an integer, two's complement. -/
def unsigned (w : Nat) (v : Int) : Nat := (v % (2 ^ w : Nat)).toNat

/-- Floor division of an integer by a power of two: the arithmetic shift right of the manual. -/
def asr (v : Int) (k : Nat) : Int := v / (2 ^ k : Nat)

/-- Rounding half up of a reduction by `k` bits (R7). -/
def roundShift (v : Int) (k : Nat) : Int := if k = 0 then v else asr (v + (2 ^ (k - 1) : Nat)) k

/-- Saturation between two bounds (R8). -/
def clamp (lo hi v : Int) : Int := if v < lo then lo else if hi < v then hi else v

/-- Saturation to a two's-complement format of `w` bits (R8). -/
def satS (w : Nat) (v : Int) : Int := clamp (-(2 ^ (w - 1) : Nat)) ((2 ^ (w - 1) : Nat) - 1) v

/-- Saturation to an unsigned format of `w` bits (R8). -/
def satU (w : Nat) (v : Int) : Int := clamp 0 ((2 ^ w : Nat) - 1) v

/-- `a` is later than `b` modulo `2 ^ w` (R9). -/
def laterThan (w a b : Nat) : Bool :=
  let d := (a + 2 ^ w - b % 2 ^ w) % 2 ^ w
  0 < d && d < 2 ^ (w - 1)

/-- The difference `a - b` modulo `2 ^ w`. -/
def subMod (w a b : Nat) : Nat := (a % 2 ^ w + 2 ^ w - b % 2 ^ w) % 2 ^ w

/-- `a / b` rounded up. -/
def ceilDiv (a b : Nat) : Nat := if b = 0 then 0 else (a + b - 1) / b

/-- Eight steps of a reflected CRC over one byte already folded in. -/
def crcReflByte (poly : Nat) : Nat → Nat → Nat
  | 0, c => c
  | n + 1, c => crcReflByte poly n (if c % 2 = 1 then (c / 2) ^^^ poly else c / 2)

/-- CRC-32C of bytes: polynomial 0x1EDC_6F41 reflected, initial value and final exclusive-or all ones (Table 00-6). -/
def crc32c (l : List Byte) : Nat :=
  (l.foldl (fun c b => crcReflByte 0x82F63B78 8 (c ^^^ b.toNat)) 0xFFFFFFFF) ^^^ 0xFFFFFFFF

/-- One bit of a most-significant-bit-first CRC of width `w`. -/
def crcMsbBit (w poly c : Nat) (b : Bool) : Nat :=
  let top := bit c (w - 1) != b
  let s := c * 2 % 2 ^ w
  if top then s ^^^ poly else s

/-- A CRC of width `w` over bits sent in list order. -/
def crcMsb (w poly init : Nat) (l : List Bool) : Nat := l.foldl (crcMsbBit w poly) init

/-- The low `w` bits of `v`, most significant first. -/
def msbBits : Nat → Nat → List Bool
  | 0, _ => []
  | w + 1, v => bit v w :: msbBits w v

/-- The low `w` bits of `v`, least significant first. -/
def lsbBits : Nat → Nat → List Bool
  | 0, _ => []
  | w + 1, v => bit v 0 :: lsbBits w (v / 2)

/-- The number whose bits, most significant first, are the list. -/
def ofMsb (l : List Bool) : Nat := l.foldl (fun a b => a * 2 + b2n b) 0

/-- The number whose bits, least significant first, are the list. -/
def ofLsb : List Bool → Nat
  | [] => 0
  | b :: l => b2n b + 2 * ofLsb l

/-- The largest number whose square is at most `n`, found bit by bit from bit `k` down. -/
def isqrtFrom : Nat → Nat → Nat → Nat
  | 0, n, a => if (a + 1) * (a + 1) ≤ n then a + 1 else a
  | k + 1, n, a => isqrtFrom k n (if (a + 2 ^ (k + 1)) * (a + 2 ^ (k + 1)) ≤ n then a + 2 ^ (k + 1) else a)

/-- The lowest number below `n` that satisfies `p`. -/
def lowest (p : Nat → Bool) (n : Nat) : Option Nat := (List.range n).find? p

/-- `f` applied for every element of a list in order. -/
def each {α σ : Type} (l : List α) (f : α → σ → σ) (s : σ) : σ := l.foldl (fun s a => f a s) s

/-- The list with element `n` replaced, where it exists. -/
def setAt {α : Type} (l : List α) (n : Nat) (v : α) : List α := l.set n v

/-- `l` padded with zero bytes to `n` bytes, and cut there. -/
def padTo (n : Nat) (l : List Byte) : List Byte := (l ++ List.replicate (n - l.length) 0#8).take n

/-- `l` with the bytes `b` laid over it from byte `off`. -/
def overlay (l : List Byte) (off : Nat) (b : List Byte) : List Byte :=
  l.take off ++ b ++ l.drop (off + b.length)

end Machine
end Sys2Proof
end

