-- ==== Sys2Proof/Machine/RegDesc.lean ====
section
/-!
DEFINITION. What a register field is: its place in BAR0, its width, its reset value and its access code (R4, R440), and
FW_REQ of every event source (R444, Table 18-10).
-/
namespace Sys2Proof.Machine

/-- One field of a BAR0 register: the register's byte offset, the field's lowest bit, its width and its reset value. -/
structure Fld where
  off : Nat
  lo : Nat
  w : Nat
  rst : Nat
  deriving DecidableEq, Repr

/-- The key under which the register file holds the field: its absolute bit address in BAR0. -/
def Fld.key (f : Fld) : Nat := f.off * 8 + f.lo

/-- The access codes of Table 00-2. -/
inductive Acc where
  | rw | ro | wo | w1c | w1s | rc | sh
  deriving DecidableEq, Repr

/-- One row of the register index (R440): the name, the offset of the first unit, the count and stride of up to two unit
indices, the width in bits, and the fields of unit i, j, each with its access code and whether a command of its own acts
on a write of it. -/
structure RegD where
  name : String
  base : Nat
  n1 : Nat
  s1 : Nat
  n2 : Nat
  s2 : Nat
  width : Nat
  fields : Nat → Nat → List (Fld × Acc × Bool)

/-- FW_REQ of event e (R444, Table 18-10). -/
def fwReq (e : Nat) : Nat :=
  if e = 0 then 3
  else if e ≤ 2 then 8
  else if e ≤ 8 then 1
  else if e = 9 then 0
  else if e = 10 then 2
  else if e = 11 then 1
  else if e ≤ 17 then 2
  else if e ≤ 21 then 8
  else if e ≤ 31 then 0
  else if e ≤ 79 then 8
  else if e ≤ 111 then 2
  else if e ≤ 127 then 8
  else if e ≤ 191 then (if e % 4 = 1 then 2 else if e % 4 = 3 then 8 else 0)
  else if e ≤ 265 then 0
  else if e ≤ 267 then 8
  else if e = 281 ∨ e = 283 ∨ e = 285 then 8
  else if e ≤ 287 then 0
  else if e ≤ 292 then 4
  else if e ≤ 295 then 0
  else if e ≤ 300 then 4
  else if e ≤ 303 then 0
  else if e ≤ 308 then 4
  else if e ≤ 319 then 0
  else if e = 320 ∨ e = 323 ∨ e = 324 then 2
  else if e ≤ 335 then 0
  else if e ≤ 399 then 2
  else if e = 400 then 9
  else if e = 401 then 0
  else if e ≤ 403 then 1
  else if e = 404 then 8
  else if e ≤ 447 then 0
  else if e ≤ 463 then 8
  else if e ≤ 475 then 8
  else if e ≤ 479 then 0
  else if e ≤ 500 then 8
  else if e = 504 then 1
  else if 508 ≤ e then 8
  else 0

end Sys2Proof.Machine
end

