-- ==== Sys2Proof/Machine/State.lean ====
section
/-!
DEFINITION. The state of the block: the register file, DRAM, the record of what left the block, and the state each unit
holds beside its registers. Every field is plain data.
-/
namespace Sys2Proof.Machine

/-- What leaves the block, in the order in which it leaves: bus answers, messages, link packets, pins. The record only
grows; no command reads it. -/
inductive Out where
  /-- The value a register, BAR2 or SMBus access returns. -/
  | answer (v : Nat)
  /-- Bytes a block access returns. -/
  | answerBytes (bs : List Byte)
  /-- Bytes that a BAR2 read returns as a poisoned completion (R346). -/
  | poisoned (bs : List Byte)
  /-- An access or byte that the block does not acknowledge. -/
  | nak
  /-- An MSI-X message of a vector (R300, R408). -/
  | msix (v : Nat)
  /-- An event delivered to warden core k (R408). -/
  | warden (k e : Nat)
  /-- The packet error check byte that ends an SMBus read (R70). -/
  | pec (c : Byte)
  /-- A write of bytes to host memory, and its No-Snoop attribute (R324). -/
  | hostWrite (addr : Nat) (bs : List Byte) (noSnoop : Bool := false)
  /-- A read request to host memory; its No-Snoop attribute is 0 (R324). -/
  | hostRead (addr len : Nat)
  /-- A level driven on a pin. -/
  | pin (name : String) (level : Bool)
  /-- A pin that the block stops driving. -/
  | released (name : String)
  /-- A sensor master clock: its divider in U13.11, or stopped (R67). -/
  | smclk (n : Nat) (div : Option Nat)
  /-- A transfer started on I3C bus b: kind, address, CCC and bytes sent (R68). -/
  | i3c (b kind addr ccc : Nat) (bs : List Byte)
  /-- An in-band request acknowledged or refused on bus b (R68). -/
  | ibi (b : Nat) (ack : Bool)
  /-- A character sent by UART u; port 4 is the monitor (R69, R412). -/
  | uart (u : Nat) (c : Byte)
  /-- A line of text of the monitor (R413). -/
  | text (s : String)
  /-- Bytes written to the QSPI flash at an offset (R44, R61). -/
  | flash (off : Nat) (bs : List Byte)
  /-- A boot directory is written to a copy: generation, firmware slot, bit-stream slot (R44). -/
  | bootDir (copy gen fw bs : Nat)
  /-- A packet: destination, packet type, fields in the order of the packet's table, bytes. Destinations: 0 to 47 a serial
  lane, 64 + b the return stream of bundle b, 80 + g feed group g, 96 + n viewfinder link n, 128 + l magazine lane l, 160 + c
  DRAM channel c. -/
  | packet (dest kind : Nat) (fields : List Nat) (bs : List Byte)
  /-- The symbols a lane's transmit half sends at its pins in one reach, or in one stretch of a test (R74, R95). -/
  | reach (n : Nat) (symbols : List Nat)
  /-- A frame sent on an Ethernet port: kind and fields. Kinds: the messageType of a PTP message; 16 an ARP reply, 17 an ICMP echo reply,
  18 an IGMPv2 membership report (R369). -/
  | ether (n kind : Nat) (fields : List Nat)
  /-- A line-state sequence of viewfinder link n on its four data lanes and its clock lane: 0 the ULPS entry, 1 Mark-1, 2 LP-11,
  3 the initial deskew sequence (R208, R209, R213, R436). -/
  | dphy (n sequence : Nat)
  /-- The slots an output port drives in one TDM frame; none for a slot at high impedance (R381, R384). -/
  | tdm (p : Nat) (words : List (Option Nat))
  deriving DecidableEq, Repr

/-- A record of the woven bit-stream: section type, REC_TYPE, INDEX and the record's bytes from its header on (R49). -/
structure CfgRec where
  sec : Nat
  type : Nat
  index : Nat
  body : List Byte
  deriving DecidableEq, Repr

/-- The state of a customer key slot (R52, R64). -/
inductive KeyState where
  | empty | enrolled | revoked
  deriving DecidableEq, Repr

/-- A customer key slot: its state and the key bytes its fuses hold (R64). -/
structure KeySlot where
  state : KeyState := .empty
  key : List Byte := []
  deriving DecidableEq, Repr

/-- Where the start-up, warm reset, re-weave and activation sequences stand (Tables 02-5 and 02-10, R56, R62). -/
inductive Phase where
  /-- A reset is held. -/
  | held
  /-- RESET_N has risen; the root PLL locks. -/
  | pll
  /-- The firmware image is read and checked. -/
  | fwLoad
  /-- DRAM is initialised and trained. -/
  | dram
  /-- The bit-stream is read and checked. -/
  | bsLoad
  /-- A checked bit-stream is woven at boot or after a warm reset. -/
  | weave
  /-- The device runs. -/
  | run
  /-- Recovery (R47). -/
  | recovery
  /-- Test halt (Table 02-8). -/
  | halt
  /-- A warm reset waits for drive commands. -/
  | warmDrain
  /-- A warm reset re-verifies the firmware. -/
  | warmFw
  /-- A warm reset takes DRAM out of self-refresh. -/
  | warmDram
  deriving DecidableEq, Repr

/-- A re-weave or an activation in progress (R56, R58, R62). -/
inductive Change where
  | none
  /-- The new bit-stream is being checked on its copy. -/
  | check
  /-- Units stop at their frame boundaries. -/
  | quiesce
  /-- The bit-stream is being woven. -/
  | weaving
  /-- An outlet delta waits for its contexts' boundaries. -/
  | delta
  /-- Firmware is being activated. -/
  | activate
  deriving DecidableEq, Repr

/-- A firmware image as the device knows it: version, security version, slot (Table 02-20). -/
structure FwImage where
  version : Nat := 0
  secVer : Nat := 0
  slot : Nat := 0
  deriving DecidableEq, Repr

/-- An I3C bus beside its registers: the transfer in progress (R68). -/
structure I3cBus where
  kind : Nat := 0
  len : Nat := 0
  deriving DecidableEq, Repr

/-- A received UART character: byte, framing error, break (R69). -/
structure RxChar where
  c : Nat
  framing : Bool
  brk : Bool
  deriving DecidableEq, Repr

/-- The FIFOs of a UART, oldest first (R69). -/
structure Uart where
  tx : List Nat := []
  rx : List RxChar := []
  /-- The character in the transmitter. -/
  sending : Option Nat := none
  deriving DecidableEq, Repr

/-- A held low word of a 64-bit register: the word and the cycle of its write (R3). -/
structure Held where
  v : Nat
  at_ : Nat
  deriving DecidableEq, Repr

/-- A breach record (Table 15-7); the bytes of the log are made from it. -/
structure Breach where
  seq : Nat := 0
  time : Nat := 0
  type : Nat := 0
  index : Nat := 0
  cls : Nat := 0
  detector : Nat := 0
  action : Nat := 0
  inner : Nat := 0
  count : Nat := 0
  event : Nat := 0xFFFFFFFF
  late : Nat := 0
  detail0 : Nat := 0
  detail1 : Nat := 0
  duration : Nat := 0
  deriving DecidableEq, Repr

/-- The global unit beside its registers: keys, firmware, start-up, bit-stream, board I/O. -/
structure Glb where
  phase : Phase := .held
  change : Change := .none
  /-- Rails good since the power-on reset began (R429). -/
  railsGood : Bool := false
  keys : Tab KeySlot := []
  secVerMin : Nat := 0
  fw : FwImage := {}
  /-- The firmware image that runs, as bytes (R46). -/
  fwBytes : List Byte := []
  /-- The boot directory in force: its copy, generation, firmware slot, bit-stream slot (R44). -/
  dirCopy : Nat := 0
  dirGen : Nat := 0
  dirFw : Nat := 0
  dirBs : Nat := 0
  /-- The slot whose image is being read at boot; 2 for the bit-stream when none is to be read. -/
  tryFw : Nat := 0
  tryBs : Nat := 0
  /-- The woven bit-stream, its bytes and its records (R48, R49). -/
  woven : List Byte := []
  cfg : List CfgRec := []
  /-- STREAM_ID of the woven bit-stream, or of the last outlet delta (R48, R58). -/
  streamId : Nat := 0
  /-- The checked bit-stream about to be woven. -/
  next : List Byte := []
  nextCfg : List CfgRec := []
  /-- The LOAD-BITSTREAM or ACTIVATE-FIRMWARE in progress, by the model's number of the command, and its outcome so far; and the
  COMMIT option. -/
  job : Option (Nat × Nat) := none
  commit : Bool := false
  /-- Contexts that an outlet delta still waits for (R58). -/
  deltaWait : List Nat := []
  /-- The recovery image written through BAR2, and the length under check (R47). -/
  recov : Tab Byte := []
  recovLen : Nat := 0
  /-- Low words held for their high words, and latched upper words (R3, R442). -/
  heldWords : Tab Held := []
  latched : Tab Held := []
  i3c : Tab I3cBus := []
  uarts : Tab Uart := []
  /-- The SMBus alert line has been released by an alert response (R70). -/
  smbReleased : Bool := false
  smbLow : Bool := false
  /-- RESET_N is high (R432); the DRAM_SEL strap as sampled (R334); channels retired at boot (R335). -/
  resetN : Bool := false
  dramFast : Bool := false
  bootRetired : Nat := 0
  /-- PCIe: reset pin high, link up, Bus Master Enable, D3hot (R293, R433). -/
  perstHigh : Bool := false
  linkUp : Bool := false
  busMaster : Bool := false
  d3hot : Bool := false
  /-- Temperature of each DRAM PHY sensor when DRAM entered self-refresh (Table 02-4). -/
  warmTemp : List Int := []
  /-- The locked feature set (R59). -/
  feat : Nat := 0
  /-- A second warden-core fault has triggered the firmware watchdog (R400). -/
  watchdogDue : Bool := false
  /-- The root PLL relocks to the reference that is not active (R37). -/
  refSwitching : Bool := false
  deriving DecidableEq, Repr

/-- Events, breach records, trace (chapters 15 and 16). -/
structure Evt where
  /-- The breach log, newest first, at most 1,024 (R401). -/
  log : List Breach := []
  /-- Events whose clock-domain toggle is not yet acknowledged (R409). -/
  crossing : List Nat := []
  /-- The trace ring (R417): entries newest first as (number, event, seconds, ns, CCLK cycle), armed range, POST count left. -/
  trace : List (Nat × Nat × Nat × Nat × Nat) := []
  traceN : Nat := 0
  traceLo : Nat := 0
  traceHi : Nat := 0
  tracePost : Option Nat := none
  traceLeft : Option Nat := none
  /-- Cofferdams that requested service (R394). -/
  service : List (Nat × Nat) := []
  /-- Internal faults of each unit: cycles of the last ones (R393, R395). -/
  faults : Tab (List Nat) := []
  /-- Units that reset after a transient internal fault (R395). -/
  resetting : List Nat := []
  /-- Halted warden cores whose duties have not yet resumed on their partners (R400). -/
  failing : List Nat := []
  /-- Levels of EVENT_OUT_0 to EVENT_OUT_3, and for each vector one more than the cycle of its last event message. -/
  pins : Nat := 0
  sent : Tab Nat := []
  /-- One more than the last cycle in which hardware set a W1C bit, and the bits it set in that cycle: bit address, and whether the
  bit was 1 already (R6). -/
  setCycle : Nat := 0
  setBits : List (Nat × Bool) := []
  deriving DecidableEq, Repr

/-- Thermal supervision beside its registers (R403 to R407). -/
structure Thm where
  /-- For each sensor its readings, newest first, at most 101. -/
  hist : Tab (List Int) := []
  /-- For each sensor the readings counted back since each recent invalid one. -/
  bad : Tab (List Nat) := []
  /-- Readings since the levee's fall condition last failed. -/
  calm : Nat := 0
  /-- Readings since an on-die sensor was last at or above 120 °C. -/
  cool : Nat := 0
  trip : Bool := false
  /-- A sensor has given a valid reading since the power-on reset (Table 02-24). -/
  valid : Bool := false
  near : List Nat := []
  /-- Temperature at the last training of each DRAM channel (R343). -/
  trained : Tab Int := []
  deriving DecidableEq, Repr

/-- A time base beside its registers (R362, R367): the count in units of 2^-32 ns and the servo's counters. -/
structure Tb where
  t : Nat := 0
  good : Nat := 0
  far : Nat := 0
  incrs : List Nat := []
  present : Bool := false
  /-- Stamp of the last genlock or PPS edge against the base (R372). -/
  edge : Nat := 0
  deriving DecidableEq, Repr

/-- An audio port beside its registers (R381 to R388). -/
structure AuPort where
  /-- The port has been RUNNING since it left OFF (R387). -/
  wasRunning : Bool := false
  /-- Input: the slot words of the newest TDM frame. -/
  slots : List Nat := []
  /-- The channel words of the newest media frame. -/
  cur : List Nat := []
  /-- The number of the media frame that the next instant belongs to (R383). -/
  media : Nat := 0
  /-- For each feed group the media frames produced since its last boundary, newest first: number and words (R389). -/
  feed : Tab (List (Nat × List Nat)) := []
  /-- Spans of media frames that hold silence inserted in a fault, newest first: first frame, count (R387). -/
  gaps : List (Nat × Nat) := []
  deriving DecidableEq, Repr

/-- Time, PTP and audio beside their registers. -/
structure Tim where
  tb : Tab Tb := []
  /-- Δ of TSEL in units of 2^-32 ns (R374). -/
  delta : Int := 0
  /-- The compensation correction c (R366). -/
  c : Int := 0
  primLocked : Nat := 0
  au : Tab AuPort := []
  deriving DecidableEq, Repr

/-- A sweep of the monitor (R416): lane, eye, DWELL, and the error counts so far, newest first. -/
structure Sweep where
  lane : Nat
  sel : Nat
  dwell : Nat
  counts : List Nat := []
  deriving DecidableEq, Repr

/-- The monitor beside its registers (chapter 16). -/
structure Mon where
  /-- The nonce in force: its slot, the cycle in which it was drawn, its bytes (R415). -/
  nonce : Option (Nat × Nat × List Byte) := none
  /-- Failed unlocks without a success between them, and whether UNLOCK is barred (R415). -/
  wrongRow : Nat := 0
  barred : Bool := false
  /-- The sweep that runs, the lines that arrived meanwhile, and whether characters were discarded (R413, R416). -/
  sweep : Option Sweep := none
  held : List (List Byte) := []
  lostChars : Bool := false
  /-- The rate has changed and no complete line has arrived since (R412). -/
  baudWait : Bool := false
  deriving DecidableEq, Repr

/-- A request that waits at the DRAM controller (R339): class, direction, row, bank and whether it has waited 1 µs. -/
structure MemReq where
  cls : Nat
  write : Bool
  addr : Nat
  deriving DecidableEq, Repr

/-- One channel of the DRAM controller beside its registers (R339, R341, R343). -/
structure MemCh where
  /-- Pending requests, oldest first. -/
  queue : List MemReq := []
  /-- Direction of the current batch and its blocks so far. -/
  batchWrite : Bool := false
  batch : Nat := 0
  /-- The neighbour-row generator, once seeded. -/
  lfsr : Option Nat := none
  /-- Retraining steps done, and failures of the retraining in progress. -/
  steps : Nat := 0
  fails : Nat := 0
  /-- Distinct blocks with uncorrectable reads and their times in ns (Table 15-2, TYPE 5). -/
  bad : List (Nat × Nat) := []
  deriving DecidableEq, Repr

/-- The DRAM controller. -/
structure MemU where
  ch : Tab MemCh := []
  /-- Blocks whose last read was uncorrectable and that have not been written since (R346). -/
  poison : List Nat := []
  /-- Channels whose retraining is due, in the order of the requests (R343). -/
  due : List Nat := []
  deriving DecidableEq, Repr

/-- A MOVE in flight (R356): its ranges, its spaces and the bytes it read. -/
structure DmaMove where
  pc : Nat
  sspace : Nat
  dspace : Nat
  src : Nat
  dst : Nat
  len : Nat
  data : List Byte
  deriving DecidableEq, Repr

/-- A DMA channel beside its registers (R352, R353, R356). -/
structure DmaCh where
  os : Tab Nat := []
  od : Tab Nat := []
  cnt : Tab Nat := []
  loopPc : Tab Nat := []
  flight : List DmaMove := []
  deriving DecidableEq, Repr

/-- The DMA engine: channels, the DMA region of SRAM, and the channels that wait, in the order in which they began. -/
structure DmaU where
  ch : Tab DmaCh := []
  sram : Tab Byte := []
  waiting : List Nat := []
  deriving DecidableEq, Repr

/-- A serial lane beside its registers (chapter 3). -/
structure LaneU where
  /-- MODE, PRESET and POLARITY of the LANE record in force; MODE 0 is OFF. -/
  mode : Nat := 0
  preset : Nat := 0
  polarity : Nat := 0
  /-- The position the device's own map gives the lane; 15 for a spare or unclaimed lane (R106). -/
  pos : Nat := 15
  /-- Consecutive misses (R82). -/
  misses : Nat := 0
  /-- TYPE of the last valid header. -/
  type : Nat := 0
  /-- Received bits of a word not yet complete, and the words that the last received reach completed. -/
  acc : List Bool := []
  words : List Nat := []
  /-- Training (R86, R88, R89): own SEQ, the request sent under it and whether its echo is awaited, the last SEQ acted on, the STAT bits sent, whether
  the receiver has adapted, reaches sent and received with RX_READY, and whether TRAIN reaches have stopped. -/
  seq : Nat := 0
  pending : Nat := 0
  waiting : Bool := false
  acted : Option Nat := none
  stat : Nat := 0
  ready : Bool := false
  sentReady : Nat := 0
  gotReady : Nat := 0
  trained : Bool := false
  /-- SENDER_LANE of the far end. -/
  sender : Nat := 0
  /-- The state TEST was entered from (R95). -/
  back : Nat := 0
  /-- In ALIGN: symbols received, the last of them, and the place and count of the spaced commas seen (R80, R81). -/
  count : Nat := 0
  tail : List Nat := []
  comma : Nat := 0
  commas : Nat := 0
  /-- The transmit half: the bits still to send of a word begun in an earlier reach (R78), and the last bits of the PRBS
  generator, newest first (R95). -/
  left : List Bool := []
  gen : List Bool := []
  /-- PRBS checker (R95): the last bits, newest first, correct bits in a row, and the bits and errors of the window. -/
  prbs : List Bool := []
  good : Nat := 0
  win : Nat := 0
  winErr : Nat := 0
  /-- An eye-scan point runs (R97); a slip is in progress; a self-check runs or waits for the record's end (R396). -/
  eye : Bool := false
  checking : Bool := false
  checkLater : Bool := false
  /-- The 1 ms windows of TSEL, newest first, in which CODE_ERR rose (Table 15-2). -/
  codeWin : List Nat := []
  deriving DecidableEq, Repr

/-- A stream of words that lanes send: the words not yet sent, and whether it runs on in DATA reaches after the IDLE reach
that opens it (R102, R105). -/
structure TxU where
  words : List Nat := []
  going : Bool := false
  deriving DecidableEq, Repr

/-- What an outlet knows of a frame in one of its buffers: FN, TAG and TIME from the FS. -/
structure PubInfo where
  fn : Nat := 0
  tag : Nat := 0
  ts : Nat := 0
  tns : Nat := 0
  tf : Nat := 0
  /-- The number of the publication, from 1. -/
  no : Nat := 0
  deriving DecidableEq, Repr

/-- An outlet beside its registers (R177, R180). -/
structure OutU where
  /-- Published buffers, oldest first, and what each holds. -/
  order : List Nat := []
  info : Tab PubInfo := []
  /-- Publications since the weave, and frames of a vision outlet since the weave. -/
  pubs : Nat := 0
  count : Nat := 0
  deriving DecidableEq, Repr


/-- A snapshot of a group of units (R142): its CCLK cycle, the selected units as mask bits, the shadow values, and whether
R145 has judged it. -/
structure Snap where
  at_ : Nat
  units : List Nat
  vals : Tab Nat
  /-- The unit of each value that the commit replaces (R142). -/
  fixes : List Nat := []
  judged : Bool := false
  deriving DecidableEq, Repr

/-- The tide gate beside its registers: the snapshots of each boundary group not yet applied, newest first. -/
structure TideU where
  snaps : Tab (List Snap) := []
  deriving DecidableEq, Repr

/-- A region of a viewfinder composition (R203, R210): first and last column, first and last row, and the CRC over the
payload bytes sent. -/
structure Region where
  x0 : Nat
  x1 : Nat
  y0 : Nat
  y1 : Nat
  crc : Nat := 0
  deriving DecidableEq, Repr

/-- A composer and its viewfinder link beside their registers. -/
structure CmpU where
  /-- Dirty tiles, rising; tile (i, j) has number j * 128 + i. -/
  dirty : List Nat := []
  /-- Regions of the composition on the link whose read-back is not yet compared. -/
  regions : List Region := []
  /-- The composition holds a mismatch; consecutive compositions that held one (R211). -/
  mismatch : Bool := false
  bad : Nat := 0
  /-- TE edges toward self-refresh (R208). -/
  idle : Nat := 0
  /-- A Picture Parameter Set is due (R205); a command waits for the composition's end, or for its response (R212). -/
  ppsDue : Bool := true
  cmdWait : Bool := false
  cmdResp : Bool := false
  /-- Feed composers: the output buffer completed last, compositions completed since the group's last VFS, and whether the
  running one has been counted late (R184, R185, R200). -/
  newest : Option Nat := none
  done : Nat := 0
  late : Bool := false
  /-- The link has raised VF_TE_LOST, and its internal timer starts compositions (R207). -/
  teLost : Bool := false
  deriving DecidableEq, Repr

/-- A frame that ITK has opened and that still has a slot in the recording polder or a user (R114, R251, R255). -/
structure IFrame where
  /-- The model's serial number, in order of the frames' FS. -/
  sn : Nat := 0
  vs : Nat := 0
  ctx : Nat := 0
  fn : Nat := 0
  tag : Nat := 0
  ts : Nat := 0
  tns : Nat := 0
  tf : Nat := 0
  w : Nat := 0
  h : Nat := 0
  embMax : Nat := 0
  /-- Metadata words accepted, and whether words beyond EMB_MAX were discarded (R115). -/
  emb : Nat := 0
  trunc : Bool := false
  /-- The slot: runs of parity rows (first row, rows); empty when the frame has none. -/
  exts : List (Nat × Nat) := []
  /-- The next sample that R113 expects. -/
  nextY : Nat := 0
  nextX : Nat := 0
  /-- The FE has been accepted; the cycle in which it was. -/
  complete : Bool := false
  feAt : Nat := 0
  /-- The slot is laid out for packing (R282); the frame's CRC-32C so far (R275). -/
  packed : Bool := false
  crc : Nat := 0xFFFFFFFF
  /-- The frame belongs to an open clip; it is durable (R255, R256). -/
  inClip : Bool := false
  durable : Bool := false
  /-- The packing job: slices coded, their offsets, and once it has ended the fallback cause, 0 for a packed frame. -/
  slices : Nat := 0
  offs : List Nat := []
  /-- Raw bytes that the job has coded, which after a failure the unpacker gives back; payload bytes so far, and how many of
  them, in whole parity rows, are written. -/
  pakRaw : List Byte := []
  pakOut : List Byte := []
  pakPut : Nat := 0
  /-- A row of the frame was found unrecoverable while packing (R252). -/
  unreadable : Bool := false
  pakDone : Option Nat := none
  stored : Nat := 0
  deriving DecidableEq, Repr

/-- A stripe of an admitted frame (R127): its engine, 0 left or only and 1 right, the columns it reads, bands completed and
whether a turn of it has started. -/
structure PStripe where
  ce : Nat
  idx : Nat
  cols : Nat
  done : Nat := 0
  started : Bool := false
  deriving DecidableEq, Repr

/-- A frame admitted to the engines (R130 to R138). -/
structure PFrame where
  sn : Nat
  ctx : Nat
  fn : Nat
  info : PubInfo
  w : Nat
  h : Nat
  band : Nat
  frameMode : Bool
  paired : Bool
  /-- The parameter version (R144): its number and the active values it holds. -/
  verNo : Nat
  ver : Tab Nat
  /-- The outlets that the version covers. -/
  outs : List Nat := []
  stripes : List PStripe
  /-- Rows that have arrived; for a stripe-mode frame the lines written and their samples. -/
  rows : Nat := 0
  written : Nat := 0
  lines : Tab (List Nat) := []
  /-- For each outlet that processes the frame, the buffer it chose at the first band. -/
  bufs : List (Nat × Option Nat) := []
  deriving DecidableEq, Repr

/-- A turn in progress: frame, context, stripe, row cost, rows not yet done, and cost (R129, R132). -/
structure PTurn where
  sn : Nat
  ctx : Nat
  idx : Nat
  rc : Nat
  left : Nat
  cost : Nat
  deriving DecidableEq, Repr

/-- A colour engine beside its registers (R129, R131, R136). -/
structure CeU where
  turn : Option PTurn := none
  prev : Option (Nat × Nat) := none
  lastServed : Nat := 15
  deficit : Tab Int := []
  queue : List Nat := []
  deriving DecidableEq, Repr

/-- A statistics record due to be written: context, frame version's base and slots, the record's bytes by its SEQ. -/
structure StatsDue where
  ctx : Nat
  base : Nat
  slots : Nat
  version : Nat
  fn : Nat
  body : List Byte
  head : List Byte
  deriving DecidableEq, Repr

/-- The colour engines' unit: admitted frames in admission order, engines, tables, and whether no engine remains (R140). -/
structure PixU where
  frames : List PFrame := []
  ce : Tab CeU := []
  /-- Table images, keyed by type * 16 + index; a missing one holds the content of Table 06-7. -/
  tables : Tab (List Byte) := []
  dead : Bool := false
  /-- In Cool engine 1 carries the load of a faulted engine 0 (R139). -/
  spare : Bool := false
  stats : List StatsDue := []
  /-- Statistics records of each context since the weave (R171). -/
  statN : Tab Nat := []
  /-- The table load in progress: type, index, source, length, CRC-32C (R167). -/
  load : Option (Nat × Nat × Nat × Nat × Nat) := none
  deriving DecidableEq, Repr

/-- A feed group beside its registers (R181, R184): the buffer it sends, whether it ever sent a frame, its composition
number, and its packet count. -/
structure FedU where
  sending : Option Nat := none
  sent : Bool := false
  comp : Nat := 0
  seq : Nat := 0
  deriving DecidableEq, Repr

/-- The sluice path (R186 to R190): the frame it sends, the raw rows it holds, row and first column of the LPs in them that
failed their CRC, and the next output row. -/
structure SluU where
  frame : Option PubInfo := none
  rows : Tab (List Nat) := []
  bad : List (Nat × Nat) := []
  next : Nat := 0
  deriving DecidableEq, Repr

/-- A picture in progress in an encoder (R220 to R229). -/
structure EncPic where
  /-- 0 I, 1 P, 2 B. -/
  type : Nat
  irap : Bool
  idr : Bool
  repeated : Bool
  restart : Bool
  info : PubInfo
  /-- The outlet buffer held, none for a repeat picture. -/
  buf : Option Nat
  limit : Nat
  target : Nat
  qp : Nat
  /-- U: the bits so far, headers included; CTUs coded; d_r of the rows begun, newest first; whether the budget is spent (R226,
  R228). -/
  bits : Nat := 0
  ctu : Nat := 0
  rows : List Int := [0]
  minCost : Bool := false
  /-- The bytes of the outlet buffer it reads (R220). -/
  src : List Byte := []
  /-- The reference buffer marked CURRENT. -/
  cur : Nat := 0
  deriving DecidableEq, Repr

/-- An encoder beside its registers. -/
structure EncU where
  pic : Option EncPic := none
  /-- F_n in units of 2^-16 bit, and whether the next picture opens a buffering period (R227). -/
  full : Nat := 0
  /-- The next picture is the first of a sequence; an IRAP is due; pictures since the count of R222 began; pictures since the
  last IDR. -/
  first : Bool := false
  irapDue : Bool := false
  since : Nat := 0
  poc : Nat := 0
  /-- FN of the last coded frame, once there is one; the number of the last publication taken; the last picture's time. -/
  lastFn : Option Nat := none
  taken : Nat := 0
  last : PubInfo := {}
  /-- Last base QP and bits of each picture type (R227). -/
  qps : Tab (Nat × Nat) := []
  /-- Marks of the reference buffers (R223): REF buffers with their POC, newest first; FREE buffers oldest first. -/
  refs : List (Nat × Nat) := []
  free : List Nat := []
  /-- The output ring had no room; records written (R230, R231). -/
  stalled : Bool := false
  records : Nat := 0
  deriving DecidableEq, Repr

/-- The decoder beside its registers (R233 to R236). -/
structure DecU where
  /-- Bytes decoded since START, the output buffer tried first, a decoded picture exists, NAL units are discarded until an IRAP
  activates a supported SPS (R233), a stop is due and its cause, DEC_STARVED was raised; the active SPS, the most recent decoded
  picture with its size, in 4:2:2 planes of 10 bits, and whether a picture has been started. -/
  hist : List Byte := []
  nextOut : Nat := 0
  any : Bool := false
  deaf : Bool := false
  sps : Option Sps := none
  last : List Byte := []
  lastW : Nat := 0
  lastH : Nat := 0
  begun : Bool := false
  stop : Option Nat := none
  starved : Bool := false
  deriving DecidableEq, Repr

/-- A clip table entry (Table 11-2). -/
structure Clip where
  id : Nat := 0
  seg : Nat := 0
  state : Nat := 0
  startG : Nat := 0
  endG : Nat := 0
  manifest : Nat := 0
  startS : Nat := 0
  deriving DecidableEq, Repr

/-- A label of a magazine member (Table 11-1): 0xFF in `rebSlot` when no slot is under rebuild. -/
structure Label where
  gen : Nat := 0
  magId : Nat := 0
  k : Nat := 0
  m : Nat := 0
  rings : Nat := 0
  layout : Nat := 0
  ring : Nat := 0
  slot : Nat := 0
  nextG : Nat := 0
  removed : Tab Nat := []
  clips : List Clip := []
  rebRing : Nat := 0xFF
  rebSlot : Nat := 0xFF
  rebPos : Nat := 0
  serials : Tab (List Byte) := []
  deriving DecidableEq, Repr

/-- What a command to a drive is for: its IDENTIFY data, one of its label copies read, a chunk of magazine stripe g, a label
generation, SANITISE or FORMAT of a magazine, a chunk of stripe g read for a job, or a rebuilt chunk. -/
inductive Purpose where
  | ident
  | labelRead (copy : Nat)
  | chunk (m g : Nat)
  | label (m gen copy : Nat)
  | op (m : Nat)
  | read (job g c : Nat)
  | rebuild (job : Nat)
  deriving DecidableEq, Repr

/-- A command to a drive (Tables 10-3 and 10-4): its data, written or read so far. -/
structure DCmd where
  tag : Nat := 0
  opc : Nat
  lba : Nat
  count : Nat
  why : Purpose
  data : List Byte := []
  deriving DecidableEq, Repr

/-- A drive beside its registers: what IDENTIFY gave, its label copies, body word 1 of its last DRV_STATUS, the copy that
does not hold the newest valid generation, and its commands, outstanding and waiting for a tag. -/
structure DrvU where
  ident : Bool := false
  cap : Nat := 0
  swr : Nat := 0
  serial : List Byte := []
  copy0 : List Byte := []
  copy1 : List Byte := []
  copy : Nat := 0
  word1 : Nat := 0
  out : List DCmd := []
  wait : List DCmd := []
  deriving DecidableEq, Repr

/-- A packet of a magazine hop: TYPE, DRV, body. -/
structure HopPkt where
  type : Nat
  drv : Nat
  body : List Byte
  deriving DecidableEq, Repr

/-- Hop 0 of a magazine lane (R242, R245): next SEQ to send, packets kept for replay, packets that wait for room, whether
sending has stopped, the expected SEQ, whether an accepted packet is unacknowledged, and whether words are discarded until
the next resync point. -/
structure HopU where
  tx : Nat := 0
  kept : List (Nat × HopPkt) := []
  queue : List HopPkt := []
  stopped : Bool := false
  rx : Nat := 0
  owed : Bool := false
  discard : Bool := false
  deriving DecidableEq, Repr

/-- A ring's geometry: INDEX, K, M and the drives of its slots. -/
structure Geo where
  idx : Nat
  k : Nat
  m : Nat
  members : List Nat
  deriving DecidableEq, Repr

/-- An issued stripe that is not durable (R256): drives whose chunks are outstanding, chunks completed, whether the chunk of a
drive that was not removed failed, and whether it can never become durable. -/
structure StripeU where
  left : List Nat
  ok : Nat := 0
  failed : Bool := false
  dead : Bool := false
  deriving DecidableEq, Repr

/-- A magazine: rings, the label in force, whether its labels were read and are valid, stripes in flight, drives that have
not completed each label generation, generations that failed on a member, SANITISE or FORMAT in progress (opcode, drives
whose CPL is awaited, whether READY of every member is awaited), and the first stripe after every reservation. -/
structure MagzU where
  geo : List Geo := []
  label : Label := {}
  identified : Bool := false
  valid : Bool := false
  stripes : Tab StripeU := []
  labels : Tab (List Nat) := []
  labelBad : List Nat := []
  op : Nat := 0
  opLeft : List Nat := []
  follow : Bool := false
  resv : Nat := 0
  /-- The command that asked for the operation. -/
  opCmd : Option Nat := none
  deriving DecidableEq, Repr

/-- A clip segment being written (R271 to R281). -/
structure Seg where
  mag : Nat
  /-- MAG_ID and rings of the magazine as the segment opened (R269). -/
  magId : Nat := 0
  geo : List Geo := []
  clip : Nat
  seg : Nat
  g0 : Nat
  /-- Clip bytes so far, which the hash covers, and stripes issued. -/
  bytes : List Byte := []
  issued : Nat := 0
  /-- Frames appended: serial number, first byte, byte after the last. -/
  frames : List (Nat × Nat × Nat) := []
  entries : List (List Byte) := []
  nFrames : Nat := 0
  nGaps : Nat := 0
  /-- Degraded ranges that are open: ring, removed slots, first ring stripe. -/
  degr : List (Nat × Nat × Nat) := []
  /-- Frames that wait to be appended. -/
  todo : List Nat := []
  /-- For each recorded audio port the next media frame, and the time at which its audio ends. -/
  aud : Tab Nat := []
  /-- The stop point: no later frame belongs to the segment. -/
  stop : Option Nat := none
  manifest : Option Nat := none
  /-- The label generation that seals it. -/
  sealGen : Option Nat := none
  continues : Bool := false
  continued : Bool := false
  rescued : Bool := false
  /-- The segment is left unsealed (R260, R266). -/
  dead : Bool := false
  deriving DecidableEq, Repr

/-- MAG beside its registers: drives, hops, magazines, the segments being written, oldest first, pre-rolls, the frames of each
context in order of their FEs, newest first, and the record's start and marks. -/
structure MagU where
  drv : Tab DrvU := []
  hop : Tab HopU := []
  mag : Tab MagzU := []
  segs : List Seg := []
  prerolls : List Nat := []
  recent : Tab (List Nat) := []
  start : Nat := 0
  startTc : Nat := 0
  marks : Nat := 0
  /-- A rescue writes its clip: the magazine has been found (R269). -/
  resume : Bool := false
  deriving DecidableEq, Repr

/-- A queue beside its registers (R297 to R300): depth, ring bases, coalescing, tail and head doorbells, commands fetched and
not completed, and completions since its last message. -/
structure QueueU where
  depth : Nat := 0
  sq : Nat := 0
  cq : Nat := 0
  coalN : Nat := 0
  coalT : Nat := 0
  tail : Nat := 0
  head : Nat := 0
  cqTail : Nat := 0
  cqHead : Nat := 0
  phase : Bool := true
  fetched : Nat := 0
  unsent : Nat := 0
  deriving DecidableEq, Repr

/-- A command that was fetched and has not completed: a number of the model's, its queue, its entry, whether its dispatch has
ended, and whether its queue was reset meanwhile (R327). -/
structure Cmd where
  no : Nat := 0
  q : Nat
  urgent : Bool
  entry : List Byte
  started : Bool := false
  aborted : Bool := false
  /-- The command has begun its work and waits for its end; commands sent to drives and not yet ended. -/
  running : Bool := false
  deriving DecidableEq, Repr

/-- An entry of the error log (R303). -/
structure ErrEntry where
  seq : Nat
  q : Nat
  cid : Nat
  opc : Nat
  status : Nat
  time : Nat
  detail : Nat
  deriving DecidableEq, Repr

/-- An open handle (R313): its magazine, clip table entry, first stripe and length; for a write handle the bytes written, by
4,096-byte block of the segment. -/
structure Handle where
  mag : Nat
  id : Nat
  seg : Nat
  startG : Nat
  len : Nat
  write : Bool
  blocks : Tab (List Byte) := []
  deriving DecidableEq, Repr

/-- Stripes read from a magazine for a command, or for a rebuild (R291, R314, R320): the command's number, the segment, where
its bytes go, the segment's stripes still to be read, the one being read, the chunks tried and outstanding, the chunks read, and
the stripes read so far. -/
structure Job where
  no : Nat
  mag : Nat
  startG : Nat := 0
  segs : List (Nat × Nat) := []
  todo : List Nat := []
  cur : Option Nat := none
  tried : List Nat := []
  left : List Nat := []
  got : Tab (List Byte) := []
  data : Tab (List Byte) := []
  deriving DecidableEq, Repr

/-- A WRITE-EXTENT whose data is not yet durable (R315): its number, bytes, magazine and stripes, and whether its command still
waits for durability. -/
structure Staged where
  no : Nat
  len : Nat
  mag : Nat
  stripes : List Nat
  fua : Bool
  deriving DecidableEq, Repr

/-- The close of a write handle in progress (R313): the command, the handle, the outcome of the checks, the manifest's offset,
and the label generation that ends it. -/
structure Close where
  no : Nat
  handle : Nat
  outcome : Nat
  manifest : Nat
  gen : Option Nat := none
  deriving DecidableEq, Repr

/-- A rebuild in progress (R291): magazine, ring, slot, drive, next ring stripe and the number of ring stripes to rebuild. -/
structure Rebuild where
  mag : Nat
  ring : Nat
  slot : Nat
  d : Nat
  pos : Nat
  stop : Nat
  deriving DecidableEq, Repr

/-- SQI beside its registers: queues, commands in fetch order, the read of entries outstanding (queue, first index, count,
still wanted), credits and the last queue chosen of each class, the error log, handles, and jobs. -/
structure QifU where
  q : Tab QueueU := []
  cmds : List Cmd := []
  next : Nat := 0
  reading : Option (Nat × Nat × Nat × Bool) := none
  credit : Tab Nat := []
  last : Tab Nat := []
  log : List ErrEntry := []
  errSeq : Nat := 0
  handles : Tab Handle := []
  jobs : List Job := []
  staged : List Staged := []
  closes : List Close := []
  /-- FLUSH commands and the writes that each waits for. -/
  flushes : List (Nat × List Nat) := []
  rebuild : Option Rebuild := none
  /-- Queues whose reset or deletion waits for their commands: queue, delete, the admin command that asked, commands aborted
  before they started, and commands that finished DURABLE (R327). -/
  resets : List (Nat × Bool × Option Nat × Nat × Nat) := []
  /-- Requests to host memory that wait for Bus Master Enable and D0, in order (R293). -/
  gated : List Out := []
  deriving DecidableEq, Repr

/-- A SET that waits for its dispatch or for its echo (R119, R120): TARGET_FN, TAG, data words, and LAST_FN at dispatch. -/
structure SetReq where
  fn : Nat
  tag : Nat
  data : List Nat
  d : Nat := 0
  deriving DecidableEq, Repr

/-- A virtual stream beside its registers: SETs queued and pending, oldest first; whether the next FS is the first after the
bundle's entry into UP from DESKEW (R116); whether an FS was accepted since the bundle entered UP (R119); whether its watchdog
runs (R117); and the frame that is open. -/
structure VsU where
  queue : List SetReq := []
  pend : List SetReq := []
  first : Bool := false
  seen : Bool := false
  armed : Bool := false
  open_ : Option Nat := none
  deriving DecidableEq, Repr

/-- A return packet that is kept for replay (R109): TYPE, VS, FLAGS, body. -/
structure RetPkt where
  type : Nat
  vs : Nat
  flags : Nat
  body : List Byte
  deriving DecidableEq, Repr

/-- A bundle beside its registers (R107 to R112): the lane of each position; whether words are discarded until the next resync
point; whether an accepted packet is unacknowledged; whether DESKEW has reached its resync point; whether a NAK with RESTART was
sent and UP waits for the next resync point; MAPs resent; the generation of the next map; return packets kept; the RSEQ NAKed
last and how often; and position lanes out of lock with the time of the loss. -/
structure BndU where
  map : List Nat := []
  discard : Bool := false
  owed : Bool := false
  synced : Bool := false
  restart : Bool := false
  resends : Nat := 0
  gen : Nat := 0
  kept : List (Nat × RetPkt) := []
  nakSeq : Nat := 0
  nakN : Nat := 0
  wait : List (Nat × Nat) := []
  /-- Reaches of the position lanes not yet paired: TYPE and words, oldest first; whether the last set of paired reaches was
  all IDLE; and the stream words of the last set that was all DATA (R102, R103, R105). -/
  parts : Tab (List (Nat × List Nat)) := []
  idle : Bool := false
  stream : List Nat := []
  deriving DecidableEq, Repr

/-- ITK beside its registers: bundles, virtual streams, the number of the next frame, and whether it has stopped
accepting FS packets (R41, R56). -/
structure ItkU where
  bnd : Tab BndU := []
  vs : Tab VsU := []
  sn : Nat := 0
  stop : Bool := false
  deriving DecidableEq, Repr

/-- What each unit holds beside its registers. -/
structure Units where
  glb : Glb := {}
  evt : Evt := {}
  thm : Thm := {}
  tim : Tim := {}
  mon : Mon := {}
  mem : MemU := {}
  dma : DmaU := {}
  lane : Tab LaneU := []
  tx : Tab TxU := []
  out : Tab OutU := []
  tide : TideU := {}
  cmp : Tab CmpU := []
  frames : List IFrame := []
  pix : PixU := {}
  fed : Tab FedU := []
  slu : SluU := {}
  enc : Tab EncU := []
  dec : DecU := {}
  magu : MagU := {}
  qif : QifU := {}
  itk : ItkU := {}
  deriving DecidableEq, Repr

/-- The machine. -/
structure State where
  /-- Register fields that differ from their reset values or have been written, keyed by bit address in BAR0. -/
  regs : Tab Nat
  /-- The active values of SH fields, under the same keys (R5). -/
  act : Tab Nat
  /-- DRAM: addresses rising, no byte equal to what an unlisted address reads as. -/
  mem : List Host.Cell
  /-- What each unit holds beside its registers. -/
  u : Units
  /-- The model's own count of CCLK cycles. -/
  now : Nat
  /-- The model's own count of free values drawn (assumption 4). -/
  fresh : Nat
  /-- What has left the block, newest first. -/
  out : List Out
  /-- Commands that wait, first in first out. -/
  pending : List Instr
  deriving DecidableEq, Repr

/-- The machine right after a power-on reset: every register at the value chapter 18 lists, DRAM with nothing listed,
no command waiting (R443). -/
def State.reset : State :=
  { regs := [], act := [], mem := [], u := {}, now := 0, fresh := 0, out := [], pending := [] }

/-- Why the machine stops. -/
inductive Fault where
  /-- Raised by an access whose address is not a multiple of its size, or a POKE or PEEK so formed: R3 gives such an
  access no effect. The stop is on the safe side. -/
  | unalignedAccess
  deriving DecidableEq, Repr

/-- Why a command has no meaning. -/
inductive Refusal where
  /-- Raised by an arm of exec whose command is not modelled. The stop is on the safe side. -/
  | notModelled (mnemonic : String)
  deriving DecidableEq, Repr

end Sys2Proof.Machine
end

