-- ==== Sys2Proof/Machine/Ops.lean ====
section
/-!
DEFINITION. The named operations over the state. The primitives of this file are the only ways a command may change the
state: `Reach s t` says that t comes from s by primitives alone, and a `Run s` is a state together with that fact, so
every meaning, which maps a `Run s` to a `Run s`, carries it by its type.
-/
namespace Sys2Proof.Machine

/-! ## Primitives -/

/-- The value of a register field: what was last stored, or its reset value. -/
def State.rd (s : State) (f : Fld) : Nat := s.regs.look f.key f.rst

/-- The active value of an SH field (R5). -/
def State.rdA (s : State) (f : Fld) : Nat := s.act.look f.key f.rst

/-- Store a field; bits beyond its width are dropped. -/
def State.wr (s : State) (f : Fld) (v : Nat) : State := { s with regs := s.regs.put f.key (v % 2 ^ f.w) }

/-- Set the active value of an SH field. -/
def State.wrA (s : State) (f : Fld) (v : Nat) : State := { s with act := s.act.put f.key (v % 2 ^ f.w) }

/-- What an unlisted byte of DRAM reads as (assumption 1). -/
def memDefault : Byte := 0#8

/-- One byte of DRAM. -/
def Mem.get (m : List Host.Cell) (a : Nat) : Byte := Tab.look m a memDefault

/-- DRAM with one byte written, in canonical form. -/
def Mem.set (m : List Host.Cell) (a : Nat) (b : Byte) : List Host.Cell :=
  if b = memDefault then Tab.drop m a else Tab.put m a b

/-- The canonical form of DRAM: addresses rise strictly, and no byte equals what an unlisted address reads as. -/
def Mem.wf (m : List Host.Cell) : Bool := Tab.rising m && m.all fun c => c.2 != memDefault

/-- DRAM with one byte written. -/
def State.store (s : State) (a : Nat) (b : Byte) : State := { s with mem := Mem.set s.mem a b }

/-- Something leaves the block. -/
def State.emit (s : State) (o : Out) : State := { s with out := o :: s.out }

/-- CCLK cycles pass. -/
def State.tick (s : State) (n : Nat) : State := { s with now := s.now + n }

/-- One free value is drawn. -/
def State.draw (s : State) : State := { s with fresh := s.fresh + 1 }

/-- The state the units hold beside their registers changes. -/
def State.modify (s : State) (f : Units → Units) : State := { s with u := f s.u }

/-- Registers whose keys fail `p` return to their reset values. -/
def State.keepRegs (s : State) (p : Nat → Bool) : State :=
  { s with regs := s.regs.filter (fun e => p e.1), act := s.act.filter (fun e => p e.1) }

/-- DRAM loses its contents. -/
def State.clearMem (s : State) : State := { s with mem := [] }

/-- `t` comes from `s` by primitives alone. -/
inductive Reach : State → State → Prop where
  | refl (s : State) : Reach s s
  | wr {s t : State} (h : Reach s t) (f : Fld) (v : Nat) : Reach s (t.wr f v)
  | wrA {s t : State} (h : Reach s t) (f : Fld) (v : Nat) : Reach s (t.wrA f v)
  | store {s t : State} (h : Reach s t) (a : Nat) (b : Byte) : Reach s (t.store a b)
  | emit {s t : State} (h : Reach s t) (o : Out) : Reach s (t.emit o)
  | tick {s t : State} (h : Reach s t) (n : Nat) : Reach s (t.tick n)
  | draw {s t : State} (h : Reach s t) : Reach s t.draw
  | modify {s t : State} (h : Reach s t) (f : Units → Units) : Reach s (t.modify f)
  | keepRegs {s t : State} (h : Reach s t) (p : Nat → Bool) : Reach s (t.keepRegs p)
  | clearMem {s t : State} (h : Reach s t) : Reach s t.clearMem

/-- A state reached from `s₀` by primitives. -/
structure Run (s₀ : State) where
  st : State
  ok : Reach s₀ st

variable {s₀ : State}

/-- The run that has done nothing yet. -/
def Run.start (s : State) : Run s := ⟨s, .refl s⟩

/-- A meaning that always answers a next state. -/
def done (s : State) (f : Run s → Run s) : Host.Outcome State Fault Refusal := .next (f (.start s)).st

/-! ## Reading -/

/-- A register field. -/
def Run.rd (r : Run s₀) (f : Fld) : Nat := r.st.rd f

/-- A one-bit register field as a Bool, or whether a field is not 0. -/
def Run.on (r : Run s₀) (f : Fld) : Bool := r.st.rd f != 0

/-- The active value of an SH field. -/
def Run.rdA (r : Run s₀) (f : Fld) : Nat := r.st.rdA f

/-- A field as a two's-complement number of the field's width. -/
def Run.rdS (r : Run s₀) (f : Fld) : Int := signed f.w (r.st.rd f)

/-- An active value as a two's-complement number. -/
def Run.rdAS (r : Run s₀) (f : Fld) : Int := signed f.w (r.st.rdA f)

/-- The units. -/
def Run.u (r : Run s₀) : Units := r.st.u

/-- The CCLK cycle. -/
def Run.now (r : Run s₀) : Nat := r.st.now

/-- One byte of DRAM. -/
def Run.byte (r : Run s₀) (a : Nat) : Byte := Mem.get r.st.mem a

/-- `n` bytes of DRAM from address `a`. -/
def Run.bytes (r : Run s₀) (a n : Nat) : List Byte := (List.range n).map fun k => r.byte (a + k)

/-- `n` bytes of DRAM from address `a` as a little-endian number (R1). -/
def Run.load (r : Run s₀) (a n : Nat) : Nat := ofLe (r.bytes a n)

/-! ## Changing -/

/-- Store a field. -/
def Run.wr (r : Run s₀) (f : Fld) (v : Nat) : Run s₀ := ⟨r.st.wr f v, .wr r.ok f v⟩

/-- Store the two's complement of an integer in a field. -/
def Run.wrS (r : Run s₀) (f : Fld) (v : Int) : Run s₀ := r.wr f (unsigned f.w v)

/-- Set the active value of an SH field. -/
def Run.wrA (r : Run s₀) (f : Fld) (v : Nat) : Run s₀ := ⟨r.st.wrA f v, .wrA r.ok f v⟩

/-- Set an SH field's shadow and active value together (R51). -/
def Run.wrBoth (r : Run s₀) (f : Fld) (v : Nat) : Run s₀ := (r.wr f v).wrA f v

/-- Count `n` in a field that saturates. -/
def Run.sat (r : Run s₀) (f : Fld) (n : Nat := 1) : Run s₀ := r.wr f (min (r.rd f + n) (2 ^ f.w - 1))

/-- Count `n` in a field that wraps. -/
def Run.inc (r : Run s₀) (f : Fld) (n : Nat := 1) : Run s₀ := r.wr f (r.rd f + n)

/-- Set the bits of `m` in a field. -/
def Run.set (r : Run s₀) (f : Fld) (m : Nat) : Run s₀ := r.wr f (r.rd f ||| m)

/-- Clear the bits of `m` in a field. -/
def Run.clear (r : Run s₀) (f : Fld) (m : Nat) : Run s₀ := r.wr f (r.rd f - (r.rd f &&& m))

/-- Write one byte of DRAM. -/
def Run.poke (r : Run s₀) (a : Nat) (b : Byte) : Run s₀ := ⟨r.st.store a b, .store r.ok a b⟩

/-- Write bytes of DRAM from address `a`. -/
def Run.storeBytes (r : Run s₀) (a : Nat) : List Byte → Run s₀
  | [] => r
  | b :: bs => Run.storeBytes (r.poke a b) (a + 1) bs

/-- Write `n` little-endian bytes of `v` (R1). -/
def Run.storeLe (r : Run s₀) (a n v : Nat) : Run s₀ := r.storeBytes a (le n v)

/-- Something leaves the block. -/
def Run.emit (r : Run s₀) (o : Out) : Run s₀ := ⟨r.st.emit o, .emit r.ok o⟩

/-- Several things leave the block, in list order. -/
def Run.emits (r : Run s₀) (l : List Out) : Run s₀ := l.foldl Run.emit r

/-- CCLK cycles pass. -/
def Run.tick (r : Run s₀) (n : Nat) : Run s₀ := ⟨r.st.tick n, .tick r.ok n⟩

/-- Change what the units hold. -/
def Run.mod (r : Run s₀) (f : Units → Units) : Run s₀ := ⟨r.st.modify f, .modify r.ok f⟩

/-- Registers whose keys fail `p` return to their reset values. -/
def Run.keepRegs (r : Run s₀) (p : Nat → Bool) : Run s₀ := ⟨r.st.keepRegs p, .keepRegs r.ok p⟩

/-- DRAM loses its contents. -/
def Run.clearMem (r : Run s₀) : Run s₀ := ⟨r.st.clearMem, .clearMem r.ok⟩

/-- Draw a free value below `2 ^ w`, and go on with it (assumption 4). -/
def Run.free (r : Run s₀) (w : Nat) (f : Nat → Run s₀ → Run s₀) : Run s₀ :=
  f (Config.free r.st.fresh % 2 ^ w) ⟨r.st.draw, .draw r.ok⟩

/-- Store an integer in a signed field, saturated to the field's width (R8). -/
def Run.wrSat (r : Run s₀) (f : Fld) (v : Int) : Run s₀ := r.wrS f (satS f.w v)

/-- `f` when `c` holds, else nothing. -/
def Run.when (r : Run s₀) (c : Bool) (f : Run s₀ → Run s₀) : Run s₀ := if c then f r else r

/-- `f` for each element of a list in order. -/
def Run.each {α : Type} (r : Run s₀) (l : List α) (f : α → Run s₀ → Run s₀) : Run s₀ := l.foldl (fun r a => f a r) r

/-- Change the global unit. -/
def Run.glb (r : Run s₀) (f : Glb → Glb) : Run s₀ := r.mod fun u => { u with glb := f u.glb }

/-- Change the event unit. -/
def Run.evt (r : Run s₀) (f : Evt → Evt) : Run s₀ := r.mod fun u => { u with evt := f u.evt }

/-- The W1C bits that hardware set in this CCLK cycle (R6). -/
def Run.setNow (r : Run s₀) : List (Nat × Bool) := if r.u.evt.setCycle = r.now + 1 then r.u.evt.setBits else []

/-- Hardware sets the bits of `m` in a W1C field; a write that clears them in the same CCLK cycle leaves them 1 (R6). -/
def Run.hwSet (r : Run s₀) (f : Fld) (m : Nat) : Run s₀ :=
  let old := r.setNow
  let new := ((List.range f.w).filter fun k => bit m k && !old.any fun x => x.1 == f.key + k).map fun k => (f.key + k, bit (r.rd f) k)
  (r.evt fun e => { e with setCycle := r.now + 1, setBits := new ++ old }).set f m

/-- A write clears the bits of `m` in a W1C field, but for those that hardware sets in the same CCLK cycle (R6). -/
def Run.w1c (r : Run s₀) (f : Fld) (m : Nat) : Run s₀ :=
  let hw := r.setNow
  let keep := ((List.range f.w).filter fun k => hw.any fun x => x.1 == f.key + k).foldl (fun a k => a + 2 ^ k) 0
  r.clear f (m % 2 ^ f.w - (m % 2 ^ f.w &&& keep))

/-- Change thermal supervision. -/
def Run.thm (r : Run s₀) (f : Thm → Thm) : Run s₀ := r.mod fun u => { u with thm := f u.thm }

/-- Change the time bases. -/
def Run.tim (r : Run s₀) (f : Tim → Tim) : Run s₀ := r.mod fun u => { u with tim := f u.tim }

/-- Change the monitor. -/
def Run.mon (r : Run s₀) (f : Mon → Mon) : Run s₀ := r.mod fun u => { u with mon := f u.mon }

/-- Change the DRAM controller. -/
def Run.memu (r : Run s₀) (f : MemU → MemU) : Run s₀ := r.mod fun u => { u with mem := f u.mem }

/-- Change the DMA engine. -/
def Run.dma (r : Run s₀) (f : DmaU → DmaU) : Run s₀ := r.mod fun u => { u with dma := f u.dma }

end Sys2Proof.Machine
end

