-- ==== Sys2Proof/Machine/RegsA.lean ====
section
/-!
DEFINITION. Registers: Clocks, resets, boot, features, board I/O, events, thermal supervision, the monitor. One descriptor per field, as the tables of the spec lay them out
(R440, R443), and the list from which BAR0 accesses find them.
-/
namespace Sys2Proof.Machine

/-- CLK_REF_CTL.REVERT (Table 02-1), RW. -/
def CLK_REF_CTL_REVERT : Fld := ⟨0x200000, 2, 1, 0⟩
/-- CLK_REF_CTL.AUTO_SWITCH (Table 02-1), RW. -/
def CLK_REF_CTL_AUTO_SWITCH : Fld := ⟨0x200000, 1, 1, 1⟩
/-- CLK_REF_CTL.PREF (Table 02-1), RW, acted on by a command of its own. -/
def CLK_REF_CTL_PREF : Fld := ⟨0x200000, 0, 1, 0⟩
/-- CLK_REF_STATUS.SWITCH_COUNT (Table 02-2), RO. -/
def CLK_REF_STATUS_SWITCH_COUNT : Fld := ⟨0x200004, 8, 8, 0⟩
/-- CLK_REF_STATUS.HOLDOVER (Table 02-2), RO. -/
def CLK_REF_STATUS_HOLDOVER : Fld := ⟨0x200004, 4, 1, 0⟩
/-- CLK_REF_STATUS.ACTIVE (Table 02-2), RO. -/
def CLK_REF_STATUS_ACTIVE : Fld := ⟨0x200004, 3, 1, 0⟩
/-- CLK_REF_STATUS.B_OK (Table 02-2), RO. -/
def CLK_REF_STATUS_B_OK : Fld := ⟨0x200004, 2, 1, 0⟩
/-- CLK_REF_STATUS.A_OK (Table 02-2), RO. -/
def CLK_REF_STATUS_A_OK : Fld := ⟨0x200004, 1, 1, 0⟩
/-- CLK_REF_STATUS.ROOT_LOCK (Table 02-2), RO. -/
def CLK_REF_STATUS_ROOT_LOCK : Fld := ⟨0x200004, 0, 1, 0⟩
/-- GLB_BOOT_STATUS.READY (Table 02-11), RO. -/
def GLB_BOOT_STATUS_READY : Fld := ⟨0x10, 31, 1, 0⟩
/-- GLB_BOOT_STATUS.STAGE (Table 02-11), RO. -/
def GLB_BOOT_STATUS_STAGE : Fld := ⟨0x10, 24, 4, 0⟩
/-- GLB_BOOT_STATUS.FW_SLOT (Table 02-11), RO. -/
def GLB_BOOT_STATUS_FW_SLOT : Fld := ⟨0x10, 15, 1, 0⟩
/-- GLB_BOOT_STATUS.NARRIC_SLOT (Table 02-11), RO. -/
def GLB_BOOT_STATUS_NARRIC_SLOT : Fld := ⟨0x10, 14, 1, 0⟩
/-- GLB_BOOT_STATUS.FW_FALLBACK (Table 02-11), RO. -/
def GLB_BOOT_STATUS_FW_FALLBACK : Fld := ⟨0x10, 13, 1, 0⟩
/-- GLB_BOOT_STATUS.NARRIC_FALLBACK (Table 02-11), RO. -/
def GLB_BOOT_STATUS_NARRIC_FALLBACK : Fld := ⟨0x10, 12, 1, 0⟩
/-- GLB_BOOT_STATUS.BOOT_SEL (Table 02-11), RO. -/
def GLB_BOOT_STATUS_BOOT_SEL : Fld := ⟨0x10, 10, 2, 0⟩
/-- GLB_BOOT_STATUS.WARM (Table 02-11), RO. -/
def GLB_BOOT_STATUS_WARM : Fld := ⟨0x10, 9, 1, 0⟩
/-- GLB_BOOT_STATUS.ERROR (Table 02-11), RO. -/
def GLB_BOOT_STATUS_ERROR : Fld := ⟨0x10, 0, 8, 0⟩
/-- GLB_RECOVERY.LEN (R47), WO, acted on by a command of its own. -/
def GLB_RECOVERY_LEN : Fld := ⟨0x14, 0, 23, 0⟩
/-- GLB_RESET_CTL.KEY (Table 02-6), WO, acted on by a command of its own. -/
def GLB_RESET_CTL_KEY : Fld := ⟨0x20, 16, 16, 0⟩
/-- GLB_RESET_CTL.COLD (Table 02-6), WO, acted on by a command of its own. -/
def GLB_RESET_CTL_COLD : Fld := ⟨0x20, 1, 1, 0⟩
/-- GLB_RESET_CTL.WARM (Table 02-6), WO, acted on by a command of its own. -/
def GLB_RESET_CTL_WARM : Fld := ⟨0x20, 0, 1, 0⟩
/-- GLB_RESET_CAUSE.CLIP_RESCUE_DONE (Table 02-7), W1C. -/
def GLB_RESET_CAUSE_CLIP_RESCUE_DONE : Fld := ⟨0x24, 17, 1, 0⟩
/-- GLB_RESET_CAUSE.CLIP_RESCUE_PENDING (Table 02-7), RO. -/
def GLB_RESET_CAUSE_CLIP_RESCUE_PENDING : Fld := ⟨0x24, 16, 1, 0⟩
/-- GLB_RESET_CAUSE.SMBUS (Table 02-7), W1C. -/
def GLB_RESET_CAUSE_SMBUS : Fld := ⟨0x24, 9, 1, 0⟩
/-- GLB_RESET_CAUSE.WATCHDOG (Table 02-7), W1C. -/
def GLB_RESET_CAUSE_WATCHDOG : Fld := ⟨0x24, 8, 1, 0⟩
/-- GLB_RESET_CAUSE.PERST (Table 02-7), W1C. -/
def GLB_RESET_CAUSE_PERST : Fld := ⟨0x24, 7, 1, 0⟩
/-- GLB_RESET_CAUSE.FLR (Table 02-7), W1C. -/
def GLB_RESET_CAUSE_FLR : Fld := ⟨0x24, 6, 1, 0⟩
/-- GLB_RESET_CAUSE.PCIE_HOT (Table 02-7), W1C. -/
def GLB_RESET_CAUSE_PCIE_HOT : Fld := ⟨0x24, 5, 1, 0⟩
/-- GLB_RESET_CAUSE.WARM_SW (Table 02-7), W1C. -/
def GLB_RESET_CAUSE_WARM_SW : Fld := ⟨0x24, 4, 1, 0⟩
/-- GLB_RESET_CAUSE.THERM_TRIP (Table 02-7), W1C. -/
def GLB_RESET_CAUSE_THERM_TRIP : Fld := ⟨0x24, 3, 1, 0⟩
/-- GLB_RESET_CAUSE.COLD_SW (Table 02-7), W1C. -/
def GLB_RESET_CAUSE_COLD_SW : Fld := ⟨0x24, 2, 1, 0⟩
/-- GLB_RESET_CAUSE.PIN (Table 02-7), W1C. -/
def GLB_RESET_CAUSE_PIN : Fld := ⟨0x24, 1, 1, 0⟩
/-- GLB_RESET_CAUSE.POR (Table 02-7), W1C. -/
def GLB_RESET_CAUSE_POR : Fld := ⟨0x24, 0, 1, 1⟩
/-- GLB_MODE.VALID (Table 01-7), RO. -/
def GLB_MODE_VALID : Fld := ⟨0x100, 31, 1, 0⟩
/-- GLB_MODE.RATE_CEIL (Table 01-7), RO. -/
def GLB_MODE_RATE_CEIL : Fld := ⟨0x100, 16, 12, 0⟩
/-- GLB_MODE.DUAL_MAG (Table 01-7), RO. -/
def GLB_MODE_DUAL_MAG : Fld := ⟨0x100, 3, 1, 0⟩
/-- GLB_MODE.ROLE (Table 01-7), RO. -/
def GLB_MODE_ROLE : Fld := ⟨0x100, 2, 1, 0⟩
/-- GLB_MODE.MODE (Table 01-7), RO. -/
def GLB_MODE_MODE : Fld := ⟨0x100, 0, 2, 0⟩
/-- GLB_NARRIC_ID.STREAM_ID (R48), RO. -/
def GLB_NARRIC_ID_STREAM_ID : Fld := ⟨0x108, 0, 64, 0⟩
/-- GLB_FEAT_DEV.FEAT (R59), RO. -/
def GLB_FEAT_DEV_FEAT (i : Nat) : Fld := ⟨0x200 + 0x4 * i, 0, 32, (if i = 0 then 0x00FFFEFF else 0)⟩
/-- GLB_FEAT_DRV.FEAT (R59), RW. -/
def GLB_FEAT_DRV_FEAT (i : Nat) : Fld := ⟨0x210 + 0x4 * i, 0, 32, 0⟩
/-- GLB_FEAT_CTL.FIRST_BAD (Table 02-19), RO. -/
def GLB_FEAT_CTL_FIRST_BAD : Fld := ⟨0x220, 8, 8, 0⟩
/-- GLB_FEAT_CTL.REASON (Table 02-19), RO. -/
def GLB_FEAT_CTL_REASON : Fld := ⟨0x220, 4, 4, 0⟩
/-- GLB_FEAT_CTL.REFUSED (Table 02-19), RO. -/
def GLB_FEAT_CTL_REFUSED : Fld := ⟨0x220, 2, 1, 0⟩
/-- GLB_FEAT_CTL.LOCKED (Table 02-19), RO. -/
def GLB_FEAT_CTL_LOCKED : Fld := ⟨0x220, 1, 1, 0⟩
/-- GLB_FEAT_CTL.OK (Table 02-19), W1S, acted on by a command of its own. -/
def GLB_FEAT_CTL_OK : Fld := ⟨0x220, 0, 1, 0⟩
/-- GLB_TIDE_COMMIT (Table 05-8), WO, acted on by a command of its own. -/
def GLB_TIDE_COMMIT : Fld := ⟨0x300, 0, 64, 0⟩
/-- GLB_TIDE_PENDING (R142), RO. -/
def GLB_TIDE_PENDING : Fld := ⟨0x308, 0, 64, 0⟩
/-- GLB_TIDE_APPLIED (R142), W1C. -/
def GLB_TIDE_APPLIED : Fld := ⟨0x310, 0, 64, 0⟩
/-- GLB_TIDE_DEFERRED (R142), W1C. -/
def GLB_TIDE_DEFERRED : Fld := ⟨0x318, 0, 64, 0⟩
/-- GLB_GPIO_DIR.DIR (R66), RW. -/
def GLB_GPIO_DIR_DIR : Fld := ⟨0x1000, 0, 16, 0⟩
/-- GLB_GPIO_OUT.OUT (R66), RW. -/
def GLB_GPIO_OUT_OUT : Fld := ⟨0x1004, 0, 16, 0⟩
/-- GLB_GPIO_IN.IN (R66), RO. -/
def GLB_GPIO_IN_IN : Fld := ⟨0x1008, 0, 16, 0⟩
/-- GLB_GPIO_FUNC.EVOUT (R66), RW. -/
def GLB_GPIO_FUNC_EVOUT : Fld := ⟨0x100C, 0, 4, 0⟩
/-- GLB_GPIO_EDGE_CFG.EDGE (R66), RW. -/
def GLB_GPIO_EDGE_CFG_EDGE : Fld := ⟨0x1010, 0, 32, 0⟩
/-- GLB_GPIO_EDGE.EDGE (R66), W1C. -/
def GLB_GPIO_EDGE_EDGE : Fld := ⟨0x1014, 0, 16, 0⟩
/-- GLB_GPIO_OVER.OVER (R66), W1C. -/
def GLB_GPIO_OVER_OVER : Fld := ⟨0x1018, 0, 16, 0⟩
/-- GLB_GPIO_TS (R66), RO. -/
def GLB_GPIO_TS (i : Nat) : Fld := ⟨0x1100 + 0x8 * i, 0, 64, 0⟩
/-- GLB_SMCLK_CTL.EN (R67), RW, acted on by a command of its own. -/
def GLB_SMCLK_CTL_EN (i : Nat) : Fld := ⟨0x1200 + 0x4 * i, 0, 1, 0⟩
/-- GLB_SMCLK_CTL.DIV (R67), RW, acted on by a command of its own. -/
def GLB_SMCLK_CTL_DIV (i : Nat) : Fld := ⟨0x1200 + 0x4 * i, 8, 24, 0x78000⟩
/-- GLB_I3C_CTL.EN (R68), RW. -/
def GLB_I3C_CTL_EN (i : Nat) : Fld := ⟨0x1400 + 0x100 * i, 0, 1, 0⟩
/-- GLB_I3C_CTL.HJ_EN (R68), RW. -/
def GLB_I3C_CTL_HJ_EN (i : Nat) : Fld := ⟨0x1400 + 0x100 * i, 1, 1, 0⟩
/-- GLB_I3C_CTL.PP_DIV (R68), RW. -/
def GLB_I3C_CTL_PP_DIV (i : Nat) : Fld := ⟨0x1400 + 0x100 * i, 8, 8, 0x14⟩
/-- GLB_I3C_CTL.OD_DIV (R68), RW. -/
def GLB_I3C_CTL_OD_DIV (i : Nat) : Fld := ⟨0x1400 + 0x100 * i, 16, 8, 0xC8⟩
/-- GLB_I3C_CTL.I2C_DIV (R68), RW. -/
def GLB_I3C_CTL_I2C_DIV (i : Nat) : Fld := ⟨0x1400 + 0x100 * i, 24, 8, 0x9D⟩
/-- GLB_I3C_CMD.GO (Table 02-23), WO, acted on by a command of its own. -/
def GLB_I3C_CMD_GO (i : Nat) : Fld := ⟨0x1404 + 0x100 * i, 31, 1, 0⟩
/-- GLB_I3C_CMD.KIND (Table 02-23), WO, acted on by a command of its own. -/
def GLB_I3C_CMD_KIND (i : Nat) : Fld := ⟨0x1404 + 0x100 * i, 27, 4, 0⟩
/-- GLB_I3C_CMD.ADDR (Table 02-23), WO, acted on by a command of its own. -/
def GLB_I3C_CMD_ADDR (i : Nat) : Fld := ⟨0x1404 + 0x100 * i, 16, 7, 0⟩
/-- GLB_I3C_CMD.CCC (Table 02-23), WO, acted on by a command of its own. -/
def GLB_I3C_CMD_CCC (i : Nat) : Fld := ⟨0x1404 + 0x100 * i, 8, 8, 0⟩
/-- GLB_I3C_CMD.LEN (Table 02-23), WO, acted on by a command of its own. -/
def GLB_I3C_CMD_LEN (i : Nat) : Fld := ⟨0x1404 + 0x100 * i, 0, 7, 0⟩
/-- GLB_I3C_STATUS.BUSY (R68), RO. -/
def GLB_I3C_STATUS_BUSY (i : Nat) : Fld := ⟨0x1408 + 0x100 * i, 0, 1, 0⟩
/-- GLB_I3C_STATUS.ERR (R68), RO. -/
def GLB_I3C_STATUS_ERR (i : Nat) : Fld := ⟨0x1408 + 0x100 * i, 4, 4, 0⟩
/-- GLB_I3C_STATUS.RX_LEN (R68), RO. -/
def GLB_I3C_STATUS_RX_LEN (i : Nat) : Fld := ⟨0x1408 + 0x100 * i, 8, 7, 0⟩
/-- GLB_I3C_IBI.ADDR (R68), RO. -/
def GLB_I3C_IBI_ADDR (i : Nat) : Fld := ⟨0x1410 + 0x100 * i, 0, 7, 0⟩
/-- GLB_I3C_IBI.VALID (R68), RO. -/
def GLB_I3C_IBI_VALID (i : Nat) : Fld := ⟨0x1410 + 0x100 * i, 7, 1, 0⟩
/-- GLB_I3C_IBI.LEN (R68), RO. -/
def GLB_I3C_IBI_LEN (i : Nat) : Fld := ⟨0x1410 + 0x100 * i, 8, 3, 0⟩
/-- GLB_I3C_IBI_DATA (R68), RO. -/
def GLB_I3C_IBI_DATA (i : Nat) : Fld := ⟨0x1414 + 0x100 * i, 0, 32, 0⟩
/-- GLB_I3C_DATA (R68), RW. -/
def GLB_I3C_DATA (i j : Nat) : Fld := ⟨0x1440 + 0x100 * i + 0x4 * j, 0, 32, 0⟩
/-- GLB_UART_CTL.EN (R69), RW. -/
def GLB_UART_CTL_EN (i : Nat) : Fld := ⟨0x1800 + 0x100 * i, 0, 1, 0⟩
/-- GLB_UART_CTL.DIV (R69), RW. -/
def GLB_UART_CTL_DIV (i : Nat) : Fld := ⟨0x1800 + 0x100 * i, 8, 24, 0x10F447⟩
/-- GLB_UART_TXDATA.BYTE (R69), WO, acted on by a command of its own. -/
def GLB_UART_TXDATA_BYTE (i : Nat) : Fld := ⟨0x1804 + 0x100 * i, 0, 8, 0⟩
/-- GLB_UART_RXDATA.BYTE (R69), RO. -/
def GLB_UART_RXDATA_BYTE (i : Nat) : Fld := ⟨0x1808 + 0x100 * i, 0, 8, 0⟩
/-- GLB_UART_RXDATA.VALID (R69), RO. -/
def GLB_UART_RXDATA_VALID (i : Nat) : Fld := ⟨0x1808 + 0x100 * i, 8, 1, 0⟩
/-- GLB_UART_RXDATA.FRAMING (R69), RO. -/
def GLB_UART_RXDATA_FRAMING (i : Nat) : Fld := ⟨0x1808 + 0x100 * i, 9, 1, 0⟩
/-- GLB_UART_RXDATA.BREAK (R69), RO. -/
def GLB_UART_RXDATA_BREAK (i : Nat) : Fld := ⟨0x1808 + 0x100 * i, 10, 1, 0⟩
/-- GLB_UART_STATUS.TX_LEVEL (R69), RO. -/
def GLB_UART_STATUS_TX_LEVEL (i : Nat) : Fld := ⟨0x180C + 0x100 * i, 0, 9, 0⟩
/-- GLB_UART_STATUS.RX_LEVEL (R69), RO. -/
def GLB_UART_STATUS_RX_LEVEL (i : Nat) : Fld := ⟨0x180C + 0x100 * i, 16, 9, 0⟩
/-- GLB_UART_STATUS.RX_READY (R69), W1C. -/
def GLB_UART_STATUS_RX_READY (i : Nat) : Fld := ⟨0x180C + 0x100 * i, 28, 1, 0⟩
/-- GLB_UART_STATUS.RX_OVERRUN (R69), W1C. -/
def GLB_UART_STATUS_RX_OVERRUN (i : Nat) : Fld := ⟨0x180C + 0x100 * i, 29, 1, 0⟩
/-- GLB_UART_STATUS.FRAMING (R69), W1C. -/
def GLB_UART_STATUS_FRAMING (i : Nat) : Fld := ⟨0x180C + 0x100 * i, 30, 1, 0⟩
/-- GLB_UART_STATUS.TX_OVF (R69), W1C. -/
def GLB_UART_STATUS_TX_OVF (i : Nat) : Fld := ⟨0x180C + 0x100 * i, 31, 1, 0⟩
/-- GLB_UART_THRESH.RX_THRESH (R69), RW. -/
def GLB_UART_THRESH_RX_THRESH (i : Nat) : Fld := ⟨0x1810 + 0x100 * i, 0, 9, 1⟩
/-- GLB_UART_THRESH.RX_IDLE (R69), RW. -/
def GLB_UART_THRESH_RX_IDLE (i : Nat) : Fld := ⟨0x1810 + 0x100 * i, 16, 8, 4⟩
/-- GLB_SMB_STATUS.PENDING (R70), RO. -/
def GLB_SMB_STATUS_PENDING : Fld := ⟨0x1C00, 0, 4, 0⟩
/-- GLB_SMB_STATUS.ALERT_MASK (R70), RO. -/
def GLB_SMB_STATUS_ALERT_MASK : Fld := ⟨0x1C00, 8, 4, 0⟩
/-- GLB_SMB_STATUS.LAST_CMD (R70), RO. -/
def GLB_SMB_STATUS_LAST_CMD : Fld := ⟨0x1C00, 16, 8, 0⟩
/-- GLB_SMB_COUNT.WARM (R70), RC. -/
def GLB_SMB_COUNT_WARM : Fld := ⟨0x1C04, 0, 8, 0⟩
/-- GLB_SMB_COUNT.PEC_ERR (R70), RC. -/
def GLB_SMB_COUNT_PEC_ERR : Fld := ⟨0x1C04, 8, 8, 0⟩
/-- GLB_SMB_COUNT.NAK (R70), RC. -/
def GLB_SMB_COUNT_NAK : Fld := ⟨0x1C04, 16, 8, 0⟩
/-- EVT_STATUS (R408), W1C, acted on by a command of its own. -/
def EVT_STATUS (i : Nat) : Fld := ⟨0x100000 + 0x4 * i, 0, 32, 0⟩
/-- EVT_ENABLE (R408), RW, acted on by a command of its own. -/
def EVT_ENABLE (i : Nat) : Fld := ⟨0x100040 + 0x4 * i, 0, 32, 0⟩
/-- EVT_OVERRUN (R409), W1C. -/
def EVT_OVERRUN (i : Nat) : Fld := ⟨0x100080 + 0x4 * i, 0, 32, 0⟩
/-- EVT_INJECT.EVENT (R411), WO, acted on by a command of its own. -/
def EVT_INJECT_EVENT : Fld := ⟨0x100100, 0, 9, 0⟩
/-- EVT_INJECT.GO (R411), WO, acted on by a command of its own. -/
def EVT_INJECT_GO : Fld := ⟨0x100100, 31, 1, 0⟩
/-- EVT_BREACH_SEQ.SEQ (R401), RO. -/
def EVT_BREACH_SEQ_SEQ : Fld := ⟨0x100110, 0, 32, 0⟩
/-- EVT_COFFERDAM_LANES (R394), RO. -/
def EVT_COFFERDAM_LANES : Fld := ⟨0x100118, 0, 48, 0⟩
/-- EVT_COFFERDAM_UNITS.MC (R394), RO. -/
def EVT_COFFERDAM_UNITS_MC : Fld := ⟨0x100120, 0, 16, 0⟩
/-- EVT_COFFERDAM_UNITS.CE (R394), RO. -/
def EVT_COFFERDAM_UNITS_CE : Fld := ⟨0x100120, 16, 2, 0⟩
/-- EVT_COFFERDAM_UNITS.PAK (R394), RO. -/
def EVT_COFFERDAM_UNITS_PAK : Fld := ⟨0x100120, 18, 1, 0⟩
/-- EVT_COFFERDAM_UNITS.ENC (R394), RO. -/
def EVT_COFFERDAM_UNITS_ENC : Fld := ⟨0x100120, 19, 2, 0⟩
/-- EVT_COFFERDAM_UNITS.DEC (R394), RO. -/
def EVT_COFFERDAM_UNITS_DEC : Fld := ⟨0x100120, 21, 1, 0⟩
/-- EVT_COFFERDAM_UNITS.TB (R394), RO. -/
def EVT_COFFERDAM_UNITS_TB : Fld := ⟨0x100120, 24, 4, 0⟩
/-- EVT_COFFERDAM_UNITS.W (R394), RO. -/
def EVT_COFFERDAM_UNITS_W : Fld := ⟨0x100120, 28, 4, 0⟩
/-- EVT_SERVICE.REQ (R394), RO. -/
def EVT_SERVICE_REQ : Fld := ⟨0x100124, 0, 1, 0⟩
/-- EVT_ROUTE.VECTOR (Table 15-13), RW. -/
def EVT_ROUTE_VECTOR (i : Nat) : Fld := ⟨0x101000 + 0x4 * i, 0, 6, 0⟩
/-- EVT_ROUTE.MSIX (Table 15-13), RW. -/
def EVT_ROUTE_MSIX (i : Nat) : Fld := ⟨0x101000 + 0x4 * i, 6, 1, 0⟩
/-- EVT_ROUTE.WARDEN (Table 15-13), RW. -/
def EVT_ROUTE_WARDEN (i : Nat) : Fld := ⟨0x101000 + 0x4 * i, 8, 4, 0⟩
/-- EVT_ROUTE.PIN (Table 15-13), RW. -/
def EVT_ROUTE_PIN (i : Nat) : Fld := ⟨0x101000 + 0x4 * i, 12, 4, 0⟩
/-- EVT_ROUTE.FW_REQ (Table 15-13), RO. -/
def EVT_ROUTE_FW_REQ (i : Nat) : Fld := ⟨0x101000 + 0x4 * i, 16, 4, (fwReq i)⟩
/-- THM_CTL.TD_EN (R404), RW. -/
def THM_CTL_TD_EN : Fld := ⟨0x300000, 0, 4, 0⟩
/-- THM_STATUS.LEVEE (R405), RO. -/
def THM_STATUS_LEVEE : Fld := ⟨0x300004, 0, 2, 0⟩
/-- THM_STATUS.HOT (R405), RO. -/
def THM_STATUS_HOT : Fld := ⟨0x300004, 8, 5, 0⟩
/-- THM_STATUS.MAX (R405), RO. -/
def THM_STATUS_MAX : Fld := ⟨0x300004, 16, 16, 0⟩
/-- THM_LEVEE.T_UP (Table 15-14), RW. -/
def THM_LEVEE_T_UP (i : Nat) : Fld := ⟨0x300010 + 0x4 * i, 0, 16, (if i = 0 then 420 else if i = 1 then 448 else 472)⟩
/-- THM_LEVEE.RATE (Table 15-14), RW. -/
def THM_LEVEE_RATE (i : Nat) : Fld := ⟨0x300010 + 0x4 * i, 16, 8, (16 * (i + 1))⟩
/-- THM_LEVEE.PAUSE (Table 15-14), RW. -/
def THM_LEVEE_PAUSE (i : Nat) : Fld := ⟨0x300010 + 0x4 * i, 24, 8, (if i = 0 then 4 else if i = 1 then 16 else 48)⟩
/-- THM_HYST.HYST (R405), RW. -/
def THM_HYST_HYST : Fld := ⟨0x300020, 0, 8, 12⟩
/-- THM_TS.TEMP (R403), RO. -/
def THM_TS_TEMP (i : Nat) : Fld := ⟨0x300100 + 0x4 * i, 0, 16, 0⟩
/-- THM_TS.RISE (R403), RO. -/
def THM_TS_RISE (i : Nat) : Fld := ⟨0x300100 + 0x4 * i, 16, 12, 0⟩
/-- THM_TS.RETIRED (R403), RO. -/
def THM_TS_RETIRED (i : Nat) : Fld := ⟨0x300100 + 0x4 * i, 30, 1, 0⟩
/-- THM_TS.VALID (R403), RO. -/
def THM_TS_VALID (i : Nat) : Fld := ⟨0x300100 + 0x4 * i, 31, 1, 0⟩
/-- THM_RETIRED (R403), RO. -/
def THM_RETIRED : Fld := ⟨0x300200, 0, 28, 0⟩
/-- MON_CTL.DISABLE (Table 16-3), RW, acted on by a command of its own. -/
def MON_CTL_DISABLE : Fld := ⟨0x1B00000, 0, 1, 0⟩
/-- MON_STATUS.FAILS (Table 16-4), RO. -/
def MON_STATUS_FAILS : Fld := ⟨0x1B00004, 8, 8, 0⟩
/-- MON_STATUS.TRACE (Table 16-4), RO. -/
def MON_STATUS_TRACE : Fld := ⟨0x1B00004, 7, 1, 0⟩
/-- MON_STATUS.BAUD (Table 16-4), RO. -/
def MON_STATUS_BAUD : Fld := ⟨0x1B00004, 4, 3, 0⟩
/-- MON_STATUS.KEY_SLOT (Table 16-4), RO. -/
def MON_STATUS_KEY_SLOT : Fld := ⟨0x1B00004, 1, 3, 0⟩
/-- MON_STATUS.UNLOCKED (Table 16-4), RO. -/
def MON_STATUS_UNLOCKED : Fld := ⟨0x1B00004, 0, 1, 0⟩

/-- Rows of the register index. -/
def regA0 : List RegD := [
  ⟨"CLK_REF_CTL", 0x200000, 1, 0x10000000, 1, 0x10000000, 32, fun _ _ => [(CLK_REF_CTL_REVERT, .rw, false), (CLK_REF_CTL_AUTO_SWITCH, .rw, false), (CLK_REF_CTL_PREF, .rw, true)]⟩,
  ⟨"CLK_REF_STATUS", 0x200004, 1, 0x10000000, 1, 0x10000000, 32, fun _ _ => [(CLK_REF_STATUS_SWITCH_COUNT, .ro, false), (CLK_REF_STATUS_HOLDOVER, .ro, false), (CLK_REF_STATUS_ACTIVE, .ro, false), (CLK_REF_STATUS_B_OK, .ro, false), (CLK_REF_STATUS_A_OK, .ro, false), (CLK_REF_STATUS_ROOT_LOCK, .ro, false)]⟩,
  ⟨"GLB_BOOT_STATUS", 0x10, 1, 0x10000000, 1, 0x10000000, 32, fun _ _ => [(GLB_BOOT_STATUS_READY, .ro, false), (GLB_BOOT_STATUS_STAGE, .ro, false), (GLB_BOOT_STATUS_FW_SLOT, .ro, false), (GLB_BOOT_STATUS_NARRIC_SLOT, .ro, false), (GLB_BOOT_STATUS_FW_FALLBACK, .ro, false), (GLB_BOOT_STATUS_NARRIC_FALLBACK, .ro, false), (GLB_BOOT_STATUS_BOOT_SEL, .ro, false), (GLB_BOOT_STATUS_WARM, .ro, false), (GLB_BOOT_STATUS_ERROR, .ro, false)]⟩,
  ⟨"GLB_RECOVERY", 0x14, 1, 0x10000000, 1, 0x10000000, 32, fun _ _ => [(GLB_RECOVERY_LEN, .wo, true)]⟩,
  ⟨"GLB_RESET_CTL", 0x20, 1, 0x10000000, 1, 0x10000000, 32, fun _ _ => [(GLB_RESET_CTL_KEY, .wo, true), (GLB_RESET_CTL_COLD, .wo, true), (GLB_RESET_CTL_WARM, .wo, true)]⟩,
  ⟨"GLB_RESET_CAUSE", 0x24, 1, 0x10000000, 1, 0x10000000, 32, fun _ _ => [(GLB_RESET_CAUSE_CLIP_RESCUE_DONE, .w1c, false), (GLB_RESET_CAUSE_CLIP_RESCUE_PENDING, .ro, false), (GLB_RESET_CAUSE_SMBUS, .w1c, false), (GLB_RESET_CAUSE_WATCHDOG, .w1c, false), (GLB_RESET_CAUSE_PERST, .w1c, false), (GLB_RESET_CAUSE_FLR, .w1c, false), (GLB_RESET_CAUSE_PCIE_HOT, .w1c, false), (GLB_RESET_CAUSE_WARM_SW, .w1c, false), (GLB_RESET_CAUSE_THERM_TRIP, .w1c, false), (GLB_RESET_CAUSE_COLD_SW, .w1c, false), (GLB_RESET_CAUSE_PIN, .w1c, false), (GLB_RESET_CAUSE_POR, .w1c, false)]⟩,
  ⟨"GLB_MODE", 0x100, 1, 0x10000000, 1, 0x10000000, 32, fun _ _ => [(GLB_MODE_VALID, .ro, false), (GLB_MODE_RATE_CEIL, .ro, false), (GLB_MODE_DUAL_MAG, .ro, false), (GLB_MODE_ROLE, .ro, false), (GLB_MODE_MODE, .ro, false)]⟩,
  ⟨"GLB_NARRIC_ID", 0x108, 1, 0x10000000, 1, 0x10000000, 64, fun _ _ => [(GLB_NARRIC_ID_STREAM_ID, .ro, false)]⟩,
  ⟨"GLB_FEAT_DEV", 0x200, 4, 0x4, 1, 0x4, 32, fun i _ => [(GLB_FEAT_DEV_FEAT i, .ro, false)]⟩,
  ⟨"GLB_FEAT_DRV", 0x210, 4, 0x4, 1, 0x4, 32, fun i _ => [(GLB_FEAT_DRV_FEAT i, .rw, false)]⟩,
  ⟨"GLB_FEAT_CTL", 0x220, 1, 0x10000000, 1, 0x10000000, 32, fun _ _ => [(GLB_FEAT_CTL_FIRST_BAD, .ro, false), (GLB_FEAT_CTL_REASON, .ro, false), (GLB_FEAT_CTL_REFUSED, .ro, false), (GLB_FEAT_CTL_LOCKED, .ro, false), (GLB_FEAT_CTL_OK, .w1s, true)]⟩,
  ⟨"GLB_TIDE_COMMIT", 0x300, 1, 0x10000000, 1, 0x10000000, 64, fun _ _ => [(GLB_TIDE_COMMIT, .wo, true)]⟩,
  ⟨"GLB_TIDE_PENDING", 0x308, 1, 0x10000000, 1, 0x10000000, 64, fun _ _ => [(GLB_TIDE_PENDING, .ro, false)]⟩,
  ⟨"GLB_TIDE_APPLIED", 0x310, 1, 0x10000000, 1, 0x10000000, 64, fun _ _ => [(GLB_TIDE_APPLIED, .w1c, false)]⟩,
  ⟨"GLB_TIDE_DEFERRED", 0x318, 1, 0x10000000, 1, 0x10000000, 64, fun _ _ => [(GLB_TIDE_DEFERRED, .w1c, false)]⟩,
  ⟨"GLB_GPIO_DIR", 0x1000, 1, 0x10000000, 1, 0x10000000, 32, fun _ _ => [(GLB_GPIO_DIR_DIR, .rw, false)]⟩,
  ⟨"GLB_GPIO_OUT", 0x1004, 1, 0x10000000, 1, 0x10000000, 32, fun _ _ => [(GLB_GPIO_OUT_OUT, .rw, false)]⟩,
  ⟨"GLB_GPIO_IN", 0x1008, 1, 0x10000000, 1, 0x10000000, 32, fun _ _ => [(GLB_GPIO_IN_IN, .ro, false)]⟩,
  ⟨"GLB_GPIO_FUNC", 0x100C, 1, 0x10000000, 1, 0x10000000, 32, fun _ _ => [(GLB_GPIO_FUNC_EVOUT, .rw, false)]⟩,
  ⟨"GLB_GPIO_EDGE_CFG", 0x1010, 1, 0x10000000, 1, 0x10000000, 32, fun _ _ => [(GLB_GPIO_EDGE_CFG_EDGE, .rw, false)]⟩]
/-- Rows of the register index. -/
def regA1 : List RegD := [
  ⟨"GLB_GPIO_EDGE", 0x1014, 1, 0x10000000, 1, 0x10000000, 32, fun _ _ => [(GLB_GPIO_EDGE_EDGE, .w1c, false)]⟩,
  ⟨"GLB_GPIO_OVER", 0x1018, 1, 0x10000000, 1, 0x10000000, 32, fun _ _ => [(GLB_GPIO_OVER_OVER, .w1c, false)]⟩,
  ⟨"GLB_GPIO_TS", 0x1100, 16, 0x8, 1, 0x8, 64, fun i _ => [(GLB_GPIO_TS i, .ro, false)]⟩,
  ⟨"GLB_SMCLK_CTL", 0x1200, 8, 0x4, 1, 0x4, 32, fun i _ => [(GLB_SMCLK_CTL_EN i, .rw, true), (GLB_SMCLK_CTL_DIV i, .rw, true)]⟩,
  ⟨"GLB_I3C_CTL", 0x1400, 4, 0x100, 1, 0x100, 32, fun i _ => [(GLB_I3C_CTL_EN i, .rw, false), (GLB_I3C_CTL_HJ_EN i, .rw, false), (GLB_I3C_CTL_PP_DIV i, .rw, false), (GLB_I3C_CTL_OD_DIV i, .rw, false), (GLB_I3C_CTL_I2C_DIV i, .rw, false)]⟩,
  ⟨"GLB_I3C_CMD", 0x1404, 4, 0x100, 1, 0x100, 32, fun i _ => [(GLB_I3C_CMD_GO i, .wo, true), (GLB_I3C_CMD_KIND i, .wo, true), (GLB_I3C_CMD_ADDR i, .wo, true), (GLB_I3C_CMD_CCC i, .wo, true), (GLB_I3C_CMD_LEN i, .wo, true)]⟩,
  ⟨"GLB_I3C_STATUS", 0x1408, 4, 0x100, 1, 0x100, 32, fun i _ => [(GLB_I3C_STATUS_BUSY i, .ro, false), (GLB_I3C_STATUS_ERR i, .ro, false), (GLB_I3C_STATUS_RX_LEN i, .ro, false)]⟩,
  ⟨"GLB_I3C_IBI", 0x1410, 4, 0x100, 1, 0x100, 32, fun i _ => [(GLB_I3C_IBI_ADDR i, .ro, false), (GLB_I3C_IBI_VALID i, .ro, false), (GLB_I3C_IBI_LEN i, .ro, false)]⟩,
  ⟨"GLB_I3C_IBI_DATA", 0x1414, 4, 0x100, 1, 0x100, 32, fun i _ => [(GLB_I3C_IBI_DATA i, .ro, false)]⟩,
  ⟨"GLB_I3C_DATA", 0x1440, 4, 0x100, 16, 0x4, 32, fun i j => [(GLB_I3C_DATA i j, .rw, false)]⟩,
  ⟨"GLB_UART_CTL", 0x1800, 4, 0x100, 1, 0x100, 32, fun i _ => [(GLB_UART_CTL_EN i, .rw, false), (GLB_UART_CTL_DIV i, .rw, false)]⟩,
  ⟨"GLB_UART_TXDATA", 0x1804, 4, 0x100, 1, 0x100, 32, fun i _ => [(GLB_UART_TXDATA_BYTE i, .wo, true)]⟩,
  ⟨"GLB_UART_RXDATA", 0x1808, 4, 0x100, 1, 0x100, 32, fun i _ => [(GLB_UART_RXDATA_BYTE i, .ro, false), (GLB_UART_RXDATA_VALID i, .ro, false), (GLB_UART_RXDATA_FRAMING i, .ro, false), (GLB_UART_RXDATA_BREAK i, .ro, false)]⟩,
  ⟨"GLB_UART_STATUS", 0x180C, 4, 0x100, 1, 0x100, 32, fun i _ => [(GLB_UART_STATUS_TX_LEVEL i, .ro, false), (GLB_UART_STATUS_RX_LEVEL i, .ro, false), (GLB_UART_STATUS_RX_READY i, .w1c, false), (GLB_UART_STATUS_RX_OVERRUN i, .w1c, false), (GLB_UART_STATUS_FRAMING i, .w1c, false), (GLB_UART_STATUS_TX_OVF i, .w1c, false)]⟩,
  ⟨"GLB_UART_THRESH", 0x1810, 4, 0x100, 1, 0x100, 32, fun i _ => [(GLB_UART_THRESH_RX_THRESH i, .rw, false), (GLB_UART_THRESH_RX_IDLE i, .rw, false)]⟩,
  ⟨"GLB_SMB_STATUS", 0x1C00, 1, 0x10000000, 1, 0x10000000, 32, fun _ _ => [(GLB_SMB_STATUS_PENDING, .ro, false), (GLB_SMB_STATUS_ALERT_MASK, .ro, false), (GLB_SMB_STATUS_LAST_CMD, .ro, false)]⟩,
  ⟨"GLB_SMB_COUNT", 0x1C04, 1, 0x10000000, 1, 0x10000000, 32, fun _ _ => [(GLB_SMB_COUNT_WARM, .rc, false), (GLB_SMB_COUNT_PEC_ERR, .rc, false), (GLB_SMB_COUNT_NAK, .rc, false)]⟩,
  ⟨"EVT_STATUS", 0x100000, 16, 0x4, 1, 0x4, 32, fun i _ => [(EVT_STATUS i, .w1c, true)]⟩,
  ⟨"EVT_ENABLE", 0x100040, 16, 0x4, 1, 0x4, 32, fun i _ => [(EVT_ENABLE i, .rw, true)]⟩,
  ⟨"EVT_OVERRUN", 0x100080, 16, 0x4, 1, 0x4, 32, fun i _ => [(EVT_OVERRUN i, .w1c, false)]⟩]
/-- Rows of the register index. -/
def regA2 : List RegD := [
  ⟨"EVT_INJECT", 0x100100, 1, 0x10000000, 1, 0x10000000, 32, fun _ _ => [(EVT_INJECT_EVENT, .wo, true), (EVT_INJECT_GO, .wo, true)]⟩,
  ⟨"EVT_BREACH_SEQ", 0x100110, 1, 0x10000000, 1, 0x10000000, 32, fun _ _ => [(EVT_BREACH_SEQ_SEQ, .ro, false)]⟩,
  ⟨"EVT_COFFERDAM_LANES", 0x100118, 1, 0x10000000, 1, 0x10000000, 64, fun _ _ => [(EVT_COFFERDAM_LANES, .ro, false)]⟩,
  ⟨"EVT_COFFERDAM_UNITS", 0x100120, 1, 0x10000000, 1, 0x10000000, 32, fun _ _ => [(EVT_COFFERDAM_UNITS_MC, .ro, false), (EVT_COFFERDAM_UNITS_CE, .ro, false), (EVT_COFFERDAM_UNITS_PAK, .ro, false), (EVT_COFFERDAM_UNITS_ENC, .ro, false), (EVT_COFFERDAM_UNITS_DEC, .ro, false), (EVT_COFFERDAM_UNITS_TB, .ro, false), (EVT_COFFERDAM_UNITS_W, .ro, false)]⟩,
  ⟨"EVT_SERVICE", 0x100124, 1, 0x10000000, 1, 0x10000000, 32, fun _ _ => [(EVT_SERVICE_REQ, .ro, false)]⟩,
  ⟨"EVT_ROUTE", 0x101000, 512, 0x4, 1, 0x4, 32, fun i _ => [(EVT_ROUTE_VECTOR i, .rw, false), (EVT_ROUTE_MSIX i, .rw, false), (EVT_ROUTE_WARDEN i, .rw, false), (EVT_ROUTE_PIN i, .rw, false), (EVT_ROUTE_FW_REQ i, .ro, false)]⟩,
  ⟨"THM_CTL", 0x300000, 1, 0x10000000, 1, 0x10000000, 32, fun _ _ => [(THM_CTL_TD_EN, .rw, false)]⟩,
  ⟨"THM_STATUS", 0x300004, 1, 0x10000000, 1, 0x10000000, 32, fun _ _ => [(THM_STATUS_LEVEE, .ro, false), (THM_STATUS_HOT, .ro, false), (THM_STATUS_MAX, .ro, false)]⟩,
  ⟨"THM_LEVEE", 0x300010, 3, 0x4, 1, 0x4, 32, fun i _ => [(THM_LEVEE_T_UP i, .rw, false), (THM_LEVEE_RATE i, .rw, false), (THM_LEVEE_PAUSE i, .rw, false)]⟩,
  ⟨"THM_HYST", 0x300020, 1, 0x10000000, 1, 0x10000000, 32, fun _ _ => [(THM_HYST_HYST, .rw, false)]⟩,
  ⟨"THM_TS", 0x300100, 28, 0x4, 1, 0x4, 32, fun i _ => [(THM_TS_TEMP i, .ro, false), (THM_TS_RISE i, .ro, false), (THM_TS_RETIRED i, .ro, false), (THM_TS_VALID i, .ro, false)]⟩,
  ⟨"THM_RETIRED", 0x300200, 1, 0x10000000, 1, 0x10000000, 32, fun _ _ => [(THM_RETIRED, .ro, false)]⟩,
  ⟨"MON_CTL", 0x1B00000, 1, 0x10000000, 1, 0x10000000, 32, fun _ _ => [(MON_CTL_DISABLE, .rw, true)]⟩,
  ⟨"MON_STATUS", 0x1B00004, 1, 0x10000000, 1, 0x10000000, 32, fun _ _ => [(MON_STATUS_FAILS, .ro, false), (MON_STATUS_TRACE, .ro, false), (MON_STATUS_BAUD, .ro, false), (MON_STATUS_KEY_SLOT, .ro, false), (MON_STATUS_UNLOCKED, .ro, false)]⟩]
/-- The registers of this file. -/
def tabRegsA : List RegD := regA0 ++ regA1 ++ regA2

end Sys2Proof.Machine
end

