-- ==== Sys2Proof/Machine/RegsB.lean ====
section
/-!
DEFINITION. Registers: Time bases, network time and audio ports. One descriptor per field, as the tables of the spec lay them out
(R440, R443), and the list from which BAR0 accesses find them.
-/
namespace Sys2Proof.Machine

/-- TIM_TB_CTL.TAU (Table 14-9), RW. -/
def TIM_TB_CTL_TAU (i : Nat) : Fld := ⟨0x400000 + 0x40 * i, 8, 8, 16⟩
/-- TIM_TB_CTL.STATE (Table 14-9), RO. -/
def TIM_TB_CTL_STATE (i : Nat) : Fld := ⟨0x400000 + 0x40 * i, 4, 2, 0⟩
/-- TIM_TB_CTL.COMP_EN (Table 14-9), RW. -/
def TIM_TB_CTL_COMP_EN (i : Nat) : Fld := ⟨0x400000 + 0x40 * i, 1, 1, 0⟩
/-- TIM_TB_CTL.SERVO_EN (Table 14-9), RW. -/
def TIM_TB_CTL_SERVO_EN (i : Nat) : Fld := ⟨0x400000 + 0x40 * i, 0, 1, 0⟩
/-- TIM_TB_INCR.INCR (R365), RW, acted on by a command of its own. -/
def TIM_TB_INCR_INCR (i : Nat) : Fld := ⟨0x400004 + 0x40 * i, 0, 32, 0x4000000⟩
/-- TIM_TB_STEP (R365), WO, acted on by a command of its own. -/
def TIM_TB_STEP (i : Nat) : Fld := ⟨0x400008 + 0x40 * i, 0, 64, 0⟩
/-- TIM_TB_SNAP_S.SEC (Table 14-8), RO. -/
def TIM_TB_SNAP_S_SEC (i : Nat) : Fld := ⟨0x400010 + 0x40 * i, 0, 48, 0⟩
/-- TIM_TB_SNAP_NS.NS (Table 14-8), RO. -/
def TIM_TB_SNAP_NS_NS (i : Nat) : Fld := ⟨0x400018 + 0x40 * i, 0, 30, 0⟩
/-- TIM_TB_SNAP_NS.FRAC (Table 14-8), RO. -/
def TIM_TB_SNAP_NS_FRAC (i : Nat) : Fld := ⟨0x400018 + 0x40 * i, 32, 32, 0⟩
/-- TIM_TB_OFFSET (R367), RO. -/
def TIM_TB_OFFSET (i : Nat) : Fld := ⟨0x400020 + 0x40 * i, 0, 32, 0⟩
/-- TIM_TB_EFF_INCR (R366), RO. -/
def TIM_TB_EFF_INCR (i : Nat) : Fld := ⟨0x400024 + 0x40 * i, 0, 32, 0x4000000⟩
/-- TIM_TSEL_CTL.RESYNC (Table 14-10), WO, acted on by a command of its own. -/
def TIM_TSEL_CTL_RESYNC : Fld := ⟨0x400100, 31, 1, 0⟩
/-- TIM_TSEL_CTL.FORCE_EST (Table 14-10), WO, acted on by a command of its own. -/
def TIM_TSEL_CTL_FORCE_EST : Fld := ⟨0x400100, 30, 1, 0⟩
/-- TIM_TSEL_CTL.SLEW (Table 14-10), RW. -/
def TIM_TSEL_CTL_SLEW : Fld := ⟨0x400100, 12, 18, 171798⟩
/-- TIM_TSEL_CTL.ALT (Table 14-10), RW. -/
def TIM_TSEL_CTL_ALT : Fld := ⟨0x400100, 10, 2, 1⟩
/-- TIM_TSEL_CTL.PRIMARY (Table 14-10), RW. -/
def TIM_TSEL_CTL_PRIMARY : Fld := ⟨0x400100, 8, 2, 0⟩
/-- TIM_TSEL_CTL.REVERT (Table 14-10), RW. -/
def TIM_TSEL_CTL_REVERT : Fld := ⟨0x400100, 7, 1, 0⟩
/-- TIM_TSEL_CTL.AUTO (Table 14-10), RW. -/
def TIM_TSEL_CTL_AUTO : Fld := ⟨0x400100, 6, 1, 0⟩
/-- TIM_TSEL_CTL.REVERT_S (Table 14-10), RW. -/
def TIM_TSEL_CTL_REVERT_S : Fld := ⟨0x400100, 2, 4, 4⟩
/-- TIM_TSEL_CTL.SRC (Table 14-10), RW, acted on by a command of its own. -/
def TIM_TSEL_CTL_SRC : Fld := ⟨0x400100, 0, 2, 0⟩
/-- TIM_TSEL_STATUS.SRC_USED (R374), RO. -/
def TIM_TSEL_STATUS_SRC_USED : Fld := ⟨0x400104, 0, 2, 0⟩
/-- TIM_TSEL_STATUS.SLEWING (R374), RO. -/
def TIM_TSEL_STATUS_SLEWING : Fld := ⟨0x400104, 4, 1, 0⟩
/-- TIM_TSEL_STATUS.ESTABLISHED (R374), RO. -/
def TIM_TSEL_STATUS_ESTABLISHED : Fld := ⟨0x400104, 5, 1, 0⟩
/-- TIM_TSEL_DELTA (R375), RO. -/
def TIM_TSEL_DELTA : Fld := ⟨0x400108, 0, 64, 0⟩
/-- TIM_TSEL_SNAP_S.SEC (Table 14-8), RO. -/
def TIM_TSEL_SNAP_S_SEC : Fld := ⟨0x400110, 0, 48, 0⟩
/-- TIM_TSEL_SNAP_NS.NS (Table 14-8), RO. -/
def TIM_TSEL_SNAP_NS_NS : Fld := ⟨0x400118, 0, 30, 0⟩
/-- TIM_TSEL_SNAP_NS.FRAC (Table 14-8), RO. -/
def TIM_TSEL_SNAP_NS_FRAC : Fld := ⟨0x400118, 32, 32, 0⟩
/-- TIM_SNAP.GO (Table 14-8), WO, acted on by a command of its own. -/
def TIM_SNAP_GO : Fld := ⟨0x400120, 0, 1, 0⟩
/-- TIM_COMP_CTL.SENSOR (R366), RW. -/
def TIM_COMP_CTL_SENSOR : Fld := ⟨0x400200, 0, 5, 0⟩
/-- TIM_COMP_STATUS.TEMP (R366), RO. -/
def TIM_COMP_STATUS_TEMP : Fld := ⟨0x400204, 0, 16, 0⟩
/-- TIM_COMP_STATUS.COMP_HELD (R366), RO. -/
def TIM_COMP_STATUS_COMP_HELD : Fld := ⟨0x400204, 16, 1, 0⟩
/-- TIM_COMP (R366), RW. -/
def TIM_COMP (i : Nat) : Fld := ⟨0x400240 + 0x4 * i, 0, 32, 0⟩
/-- TIM_GL_PERIOD.PERIOD (R367), RW. -/
def TIM_GL_PERIOD_PERIOD : Fld := ⟨0x400300, 0, 48, 0⟩
/-- TIM_GL_PHASE.PHASE (R367), RW. -/
def TIM_GL_PHASE_PHASE : Fld := ⟨0x400308, 0, 32, 0⟩
/-- TIM_GL_TS.SEC (R372), RO. -/
def TIM_GL_TS_SEC : Fld := ⟨0x400310, 0, 48, 0⟩
/-- TIM_GL_TS.NS (R372), RO. -/
def TIM_GL_TS_NS : Fld := ⟨0x400310, 64, 30, 0⟩
/-- TIM_PPS_TS.SEC (R372), RO. -/
def TIM_PPS_TS_SEC : Fld := ⟨0x400320, 0, 48, 0⟩
/-- TIM_PPS_TS.NS (R372), RO. -/
def TIM_PPS_TS_NS : Fld := ⟨0x400320, 64, 30, 0⟩
/-- TIM_PPS_PHASE.PHASE (R367), RW. -/
def TIM_PPS_PHASE_PHASE : Fld := ⟨0x400330, 0, 32, 0⟩
/-- TIM_SO_PERIOD.PERIOD (R372), RW. -/
def TIM_SO_PERIOD_PERIOD : Fld := ⟨0x400338, 0, 48, 0⟩
/-- TIM_SO_PHASE.PHASE (R372), RW. -/
def TIM_SO_PHASE_PHASE : Fld := ⟨0x400340, 0, 32, 0⟩
/-- TIM_PULSE_CTL.SO_EN (R372), RW. -/
def TIM_PULSE_CTL_SO_EN : Fld := ⟨0x400344, 0, 1, 1⟩
/-- TIM_PULSE_CTL.PPS_EN (R372), RW. -/
def TIM_PULSE_CTL_PPS_EN : Fld := ⟨0x400344, 1, 1, 0⟩
/-- TIM_PULSE_CTL.SO_WIDTH (R372), RW. -/
def TIM_PULSE_CTL_SO_WIDTH : Fld := ⟨0x400344, 8, 8, 0⟩
/-- TIM_PULSE_CTL.PPS_WIDTH (R372), RW. -/
def TIM_PULSE_CTL_PPS_WIDTH : Fld := ⟨0x400344, 16, 8, 100⟩
/-- TIM_TC_CTL.RATE (R378), SH. -/
def TIM_TC_CTL_RATE : Fld := ⟨0x400400, 0, 4, 0⟩
/-- TIM_TC_CTL.DF (R378), SH. -/
def TIM_TC_CTL_DF : Fld := ⟨0x400400, 4, 1, 0⟩
/-- TIM_TC_CTL.JAM_SM (R378), SH. -/
def TIM_TC_CTL_JAM_SM : Fld := ⟨0x400400, 5, 1, 0⟩
/-- TIM_TC_CTL.OFFSET (R378), SH. -/
def TIM_TC_CTL_OFFSET : Fld := ⟨0x400400, 8, 24, 0⟩
/-- TIM_TC_JAM (R378), RW. -/
def TIM_TC_JAM : Fld := ⟨0x400408, 0, 64, 0⟩
/-- TIM_TC_NOW (Table 14-4), RO. -/
def TIM_TC_NOW : Fld := ⟨0x400410, 0, 32, 0⟩
/-- TIM_PORT_LOOP (R371), RO. -/
def TIM_PORT_LOOP (i : Nat) : Fld := ⟨0x401000 + 0x8 * i, 0, 32, 0⟩
/-- TIM_PORT_ASYM (R371), RW. -/
def TIM_PORT_ASYM (i : Nat) : Fld := ⟨0x401004 + 0x8 * i, 0, 32, 0⟩
/-- TIM_VS_NEXT_PERIOD.PERIOD (R373), RW. -/
def TIM_VS_NEXT_PERIOD_PERIOD (i : Nat) : Fld := ⟨0x402000 + 0x10 * i, 0, 48, 0⟩
/-- TIM_VS_NEXT_PHASE.PHASE (R373), RW. -/
def TIM_VS_NEXT_PHASE_PHASE (i : Nat) : Fld := ⟨0x402008 + 0x10 * i, 0, 32, 0⟩
/-- TIM_VS_NEXT_CTL.EN (R373), RW. -/
def TIM_VS_NEXT_CTL_EN (i : Nat) : Fld := ⟨0x40200C + 0x10 * i, 0, 1, 0⟩
/-- TIM_VS_NEXT_CTL.LEAD (R373), RW. -/
def TIM_VS_NEXT_CTL_LEAD (i : Nat) : Fld := ⟨0x40200C + 0x10 * i, 8, 24, 0x64⟩
/-- NET_ETH_STATUS.LINK (R369), RO. -/
def NET_ETH_STATUS_LINK (i : Nat) : Fld := ⟨0x1900000 + 0x100 * i, 0, 1, 0⟩
/-- NET_ETH_STATUS.DISCARDS (R369), RC. -/
def NET_ETH_STATUS_DISCARDS (i : Nat) : Fld := ⟨0x1900000 + 0x100 * i, 16, 16, 0⟩
/-- NET_ETH_MAC (R369), RO. -/
def NET_ETH_MAC (i : Nat) : Fld := ⟨0x1900008 + 0x100 * i, 0, 64, (Config.fuseMac i)⟩
/-- NET_ETH_IP.ADDR (R369), RW. -/
def NET_ETH_IP_ADDR (i : Nat) : Fld := ⟨0x1900010 + 0x100 * i, 0, 32, 0⟩
/-- NET_ETH_IP.MASK (R369), RW. -/
def NET_ETH_IP_MASK (i : Nat) : Fld := ⟨0x1900010 + 0x100 * i, 32, 32, 0⟩
/-- NET_ETH_TX_ADJ (R370), RW. -/
def NET_ETH_TX_ADJ (i : Nat) : Fld := ⟨0x1900018 + 0x100 * i, 0, 32, 0⟩
/-- NET_ETH_RX_ADJ (R370), RW. -/
def NET_ETH_RX_ADJ (i : Nat) : Fld := ⟨0x190001C + 0x100 * i, 0, 32, 0⟩
/-- NET_PTP_CFG.DOMAIN (Table 14-3), RW. -/
def NET_PTP_CFG_DOMAIN (i : Nat) : Fld := ⟨0x1901000 + 0x100 * i, 0, 7, 127⟩
/-- NET_PTP_CFG.SLAVE_ONLY (Table 14-3), RW. -/
def NET_PTP_CFG_SLAVE_ONLY (i : Nat) : Fld := ⟨0x1901000 + 0x100 * i, 8, 1, 1⟩
/-- NET_PTP_CFG.PORT (Table 14-3), RW. -/
def NET_PTP_CFG_PORT (i : Nat) : Fld := ⟨0x1901000 + 0x100 * i, 9, 1, 0⟩
/-- NET_PTP_CFG.EN (Table 14-3), RW. -/
def NET_PTP_CFG_EN (i : Nat) : Fld := ⟨0x1901000 + 0x100 * i, 10, 1, 0⟩
/-- NET_PTP_CFG.PRIORITY1 (Table 14-3), RW. -/
def NET_PTP_CFG_PRIORITY1 (i : Nat) : Fld := ⟨0x1901000 + 0x100 * i, 16, 8, 0⟩
/-- NET_PTP_CFG.ARTO (Table 14-3), RW. -/
def NET_PTP_CFG_ARTO (i : Nat) : Fld := ⟨0x1901000 + 0x100 * i, 24, 4, 3⟩
/-- NET_PTP_STATUS.PORT_STATE (Table 14-8), RO. -/
def NET_PTP_STATUS_PORT_STATE (i : Nat) : Fld := ⟨0x1901004 + 0x100 * i, 0, 4, 0⟩
/-- NET_PTP_STATUS.UTC_OFFSET (Table 14-8), RO. -/
def NET_PTP_STATUS_UTC_OFFSET (i : Nat) : Fld := ⟨0x1901004 + 0x100 * i, 16, 16, 0⟩
/-- NET_PTP_GM (Table 14-8), RO. -/
def NET_PTP_GM (i : Nat) : Fld := ⟨0x1901008 + 0x100 * i, 0, 64, 0⟩
/-- NET_PTP_PATH (Table 14-8), RO. -/
def NET_PTP_PATH (i : Nat) : Fld := ⟨0x1901010 + 0x100 * i, 0, 32, 0⟩
/-- NET_PTP_JAM (R378), RO. -/
def NET_PTP_JAM (i : Nat) : Fld := ⟨0x1901018 + 0x100 * i, 0, 64, 0⟩
/-- AUD_CTL.START (R385), WO, acted on by a command of its own. -/
def AUD_CTL_START (i : Nat) : Fld := ⟨0x1800000 + 0x100 * i, 0, 1, 0⟩
/-- AUD_CTL.STOP (R385), WO, acted on by a command of its own. -/
def AUD_CTL_STOP (i : Nat) : Fld := ⟨0x1800000 + 0x100 * i, 1, 1, 0⟩
/-- AUD_STATUS.LEAD_LEFT (Table 14-11), RO. -/
def AUD_STATUS_LEAD_LEFT (i : Nat) : Fld := ⟨0x1800004 + 0x100 * i, 8, 8, 0⟩
/-- AUD_STATUS.FAULT_CAUSE (Table 14-11), RO. -/
def AUD_STATUS_FAULT_CAUSE (i : Nat) : Fld := ⟨0x1800004 + 0x100 * i, 4, 2, 0⟩
/-- AUD_STATUS.UNDERRUN (Table 14-11), RO. -/
def AUD_STATUS_UNDERRUN (i : Nat) : Fld := ⟨0x1800004 + 0x100 * i, 3, 1, 0⟩
/-- AUD_STATUS.STATE (Table 14-11), RO. -/
def AUD_STATUS_STATE (i : Nat) : Fld := ⟨0x1800004 + 0x100 * i, 0, 3, 0⟩
/-- AUD_MASK (R384), SH. -/
def AUD_MASK (i : Nat) : Fld := ⟨0x1800008 + 0x100 * i, 0, 32, 0⟩
/-- AUD_RATIO (R383), RO. -/
def AUD_RATIO (i : Nat) : Fld := ⟨0x180000C + 0x100 * i, 0, 32, 0⟩
/-- AUD_WR (R386), RW, acted on by a command of its own. -/
def AUD_WR (i : Nat) : Fld := ⟨0x1800010 + 0x100 * i, 0, 32, 0⟩
/-- AUD_RD (R386), RO. -/
def AUD_RD (i : Nat) : Fld := ⟨0x1800014 + 0x100 * i, 0, 32, 0⟩
/-- AUD_COUNT.UNDERRUN (R386), RC. -/
def AUD_COUNT_UNDERRUN (i : Nat) : Fld := ⟨0x1800018 + 0x100 * i, 0, 16, 0⟩
/-- AUD_COUNT.SILENCE (R386), RC. -/
def AUD_COUNT_SILENCE (i : Nat) : Fld := ⟨0x1800018 + 0x100 * i, 16, 16, 0⟩
/-- AUD_LAT (R383), RO. -/
def AUD_LAT (i : Nat) : Fld := ⟨0x180001C + 0x100 * i, 0, 32, 0⟩

/-- Rows of the register index. -/
def regB0 : List RegD := [
  ⟨"TIM_TB_CTL", 0x400000, 4, 0x40, 1, 0x40, 32, fun i _ => [(TIM_TB_CTL_TAU i, .rw, false), (TIM_TB_CTL_STATE i, .ro, false), (TIM_TB_CTL_COMP_EN i, .rw, false), (TIM_TB_CTL_SERVO_EN i, .rw, false)]⟩,
  ⟨"TIM_TB_INCR", 0x400004, 4, 0x40, 1, 0x40, 32, fun i _ => [(TIM_TB_INCR_INCR i, .rw, true)]⟩,
  ⟨"TIM_TB_STEP", 0x400008, 4, 0x40, 1, 0x40, 64, fun i _ => [(TIM_TB_STEP i, .wo, true)]⟩,
  ⟨"TIM_TB_SNAP_S", 0x400010, 4, 0x40, 1, 0x40, 64, fun i _ => [(TIM_TB_SNAP_S_SEC i, .ro, false)]⟩,
  ⟨"TIM_TB_SNAP_NS", 0x400018, 4, 0x40, 1, 0x40, 64, fun i _ => [(TIM_TB_SNAP_NS_NS i, .ro, false), (TIM_TB_SNAP_NS_FRAC i, .ro, false)]⟩,
  ⟨"TIM_TB_OFFSET", 0x400020, 4, 0x40, 1, 0x40, 32, fun i _ => [(TIM_TB_OFFSET i, .ro, false)]⟩,
  ⟨"TIM_TB_EFF_INCR", 0x400024, 4, 0x40, 1, 0x40, 32, fun i _ => [(TIM_TB_EFF_INCR i, .ro, false)]⟩,
  ⟨"TIM_TSEL_CTL", 0x400100, 1, 0x10000000, 1, 0x10000000, 32, fun _ _ => [(TIM_TSEL_CTL_RESYNC, .wo, true), (TIM_TSEL_CTL_FORCE_EST, .wo, true), (TIM_TSEL_CTL_SLEW, .rw, false), (TIM_TSEL_CTL_ALT, .rw, false), (TIM_TSEL_CTL_PRIMARY, .rw, false), (TIM_TSEL_CTL_REVERT, .rw, false), (TIM_TSEL_CTL_AUTO, .rw, false), (TIM_TSEL_CTL_REVERT_S, .rw, false), (TIM_TSEL_CTL_SRC, .rw, true)]⟩,
  ⟨"TIM_TSEL_STATUS", 0x400104, 1, 0x10000000, 1, 0x10000000, 32, fun _ _ => [(TIM_TSEL_STATUS_SRC_USED, .ro, false), (TIM_TSEL_STATUS_SLEWING, .ro, false), (TIM_TSEL_STATUS_ESTABLISHED, .ro, false)]⟩,
  ⟨"TIM_TSEL_DELTA", 0x400108, 1, 0x10000000, 1, 0x10000000, 64, fun _ _ => [(TIM_TSEL_DELTA, .ro, false)]⟩,
  ⟨"TIM_TSEL_SNAP_S", 0x400110, 1, 0x10000000, 1, 0x10000000, 64, fun _ _ => [(TIM_TSEL_SNAP_S_SEC, .ro, false)]⟩,
  ⟨"TIM_TSEL_SNAP_NS", 0x400118, 1, 0x10000000, 1, 0x10000000, 64, fun _ _ => [(TIM_TSEL_SNAP_NS_NS, .ro, false), (TIM_TSEL_SNAP_NS_FRAC, .ro, false)]⟩,
  ⟨"TIM_SNAP", 0x400120, 1, 0x10000000, 1, 0x10000000, 32, fun _ _ => [(TIM_SNAP_GO, .wo, true)]⟩,
  ⟨"TIM_COMP_CTL", 0x400200, 1, 0x10000000, 1, 0x10000000, 32, fun _ _ => [(TIM_COMP_CTL_SENSOR, .rw, false)]⟩,
  ⟨"TIM_COMP_STATUS", 0x400204, 1, 0x10000000, 1, 0x10000000, 32, fun _ _ => [(TIM_COMP_STATUS_TEMP, .ro, false), (TIM_COMP_STATUS_COMP_HELD, .ro, false)]⟩,
  ⟨"TIM_COMP", 0x400240, 17, 0x4, 1, 0x4, 32, fun i _ => [(TIM_COMP i, .rw, false)]⟩,
  ⟨"TIM_GL_PERIOD", 0x400300, 1, 0x10000000, 1, 0x10000000, 64, fun _ _ => [(TIM_GL_PERIOD_PERIOD, .rw, false)]⟩,
  ⟨"TIM_GL_PHASE", 0x400308, 1, 0x10000000, 1, 0x10000000, 32, fun _ _ => [(TIM_GL_PHASE_PHASE, .rw, false)]⟩,
  ⟨"TIM_GL_TS", 0x400310, 1, 0x10000000, 1, 0x10000000, 128, fun _ _ => [(TIM_GL_TS_SEC, .ro, false), (TIM_GL_TS_NS, .ro, false)]⟩,
  ⟨"TIM_PPS_TS", 0x400320, 1, 0x10000000, 1, 0x10000000, 128, fun _ _ => [(TIM_PPS_TS_SEC, .ro, false), (TIM_PPS_TS_NS, .ro, false)]⟩]
/-- Rows of the register index. -/
def regB1 : List RegD := [
  ⟨"TIM_PPS_PHASE", 0x400330, 1, 0x10000000, 1, 0x10000000, 32, fun _ _ => [(TIM_PPS_PHASE_PHASE, .rw, false)]⟩,
  ⟨"TIM_SO_PERIOD", 0x400338, 1, 0x10000000, 1, 0x10000000, 64, fun _ _ => [(TIM_SO_PERIOD_PERIOD, .rw, false)]⟩,
  ⟨"TIM_SO_PHASE", 0x400340, 1, 0x10000000, 1, 0x10000000, 32, fun _ _ => [(TIM_SO_PHASE_PHASE, .rw, false)]⟩,
  ⟨"TIM_PULSE_CTL", 0x400344, 1, 0x10000000, 1, 0x10000000, 32, fun _ _ => [(TIM_PULSE_CTL_SO_EN, .rw, false), (TIM_PULSE_CTL_PPS_EN, .rw, false), (TIM_PULSE_CTL_SO_WIDTH, .rw, false), (TIM_PULSE_CTL_PPS_WIDTH, .rw, false)]⟩,
  ⟨"TIM_TC_CTL", 0x400400, 1, 0x10000000, 1, 0x10000000, 32, fun _ _ => [(TIM_TC_CTL_RATE, .sh, false), (TIM_TC_CTL_DF, .sh, false), (TIM_TC_CTL_JAM_SM, .sh, false), (TIM_TC_CTL_OFFSET, .sh, false)]⟩,
  ⟨"TIM_TC_JAM", 0x400408, 1, 0x10000000, 1, 0x10000000, 64, fun _ _ => [(TIM_TC_JAM, .rw, false)]⟩,
  ⟨"TIM_TC_NOW", 0x400410, 1, 0x10000000, 1, 0x10000000, 32, fun _ _ => [(TIM_TC_NOW, .ro, false)]⟩,
  ⟨"TIM_PORT_LOOP", 0x401000, 52, 0x8, 1, 0x8, 32, fun i _ => [(TIM_PORT_LOOP i, .ro, false)]⟩,
  ⟨"TIM_PORT_ASYM", 0x401004, 52, 0x8, 1, 0x8, 32, fun i _ => [(TIM_PORT_ASYM i, .rw, false)]⟩,
  ⟨"TIM_VS_NEXT_PERIOD", 0x402000, 16, 0x10, 1, 0x10, 64, fun i _ => [(TIM_VS_NEXT_PERIOD_PERIOD i, .rw, false)]⟩,
  ⟨"TIM_VS_NEXT_PHASE", 0x402008, 16, 0x10, 1, 0x10, 32, fun i _ => [(TIM_VS_NEXT_PHASE_PHASE i, .rw, false)]⟩,
  ⟨"TIM_VS_NEXT_CTL", 0x40200C, 16, 0x10, 1, 0x10, 32, fun i _ => [(TIM_VS_NEXT_CTL_EN i, .rw, false), (TIM_VS_NEXT_CTL_LEAD i, .rw, false)]⟩,
  ⟨"NET_ETH_STATUS", 0x1900000, 2, 0x100, 1, 0x100, 32, fun i _ => [(NET_ETH_STATUS_LINK i, .ro, false), (NET_ETH_STATUS_DISCARDS i, .rc, false)]⟩,
  ⟨"NET_ETH_MAC", 0x1900008, 2, 0x100, 1, 0x100, 64, fun i _ => [(NET_ETH_MAC i, .ro, false)]⟩,
  ⟨"NET_ETH_IP", 0x1900010, 2, 0x100, 1, 0x100, 64, fun i _ => [(NET_ETH_IP_ADDR i, .rw, false), (NET_ETH_IP_MASK i, .rw, false)]⟩,
  ⟨"NET_ETH_TX_ADJ", 0x1900018, 2, 0x100, 1, 0x100, 32, fun i _ => [(NET_ETH_TX_ADJ i, .rw, false)]⟩,
  ⟨"NET_ETH_RX_ADJ", 0x190001C, 2, 0x100, 1, 0x100, 32, fun i _ => [(NET_ETH_RX_ADJ i, .rw, false)]⟩,
  ⟨"NET_PTP_CFG", 0x1901000, 2, 0x100, 1, 0x100, 32, fun i _ => [(NET_PTP_CFG_DOMAIN i, .rw, false), (NET_PTP_CFG_SLAVE_ONLY i, .rw, false), (NET_PTP_CFG_PORT i, .rw, false), (NET_PTP_CFG_EN i, .rw, false), (NET_PTP_CFG_PRIORITY1 i, .rw, false), (NET_PTP_CFG_ARTO i, .rw, false)]⟩,
  ⟨"NET_PTP_STATUS", 0x1901004, 2, 0x100, 1, 0x100, 32, fun i _ => [(NET_PTP_STATUS_PORT_STATE i, .ro, false), (NET_PTP_STATUS_UTC_OFFSET i, .ro, false)]⟩,
  ⟨"NET_PTP_GM", 0x1901008, 2, 0x100, 1, 0x100, 64, fun i _ => [(NET_PTP_GM i, .ro, false)]⟩]
/-- Rows of the register index. -/
def regB2 : List RegD := [
  ⟨"NET_PTP_PATH", 0x1901010, 2, 0x100, 1, 0x100, 32, fun i _ => [(NET_PTP_PATH i, .ro, false)]⟩,
  ⟨"NET_PTP_JAM", 0x1901018, 2, 0x100, 1, 0x100, 64, fun i _ => [(NET_PTP_JAM i, .ro, false)]⟩,
  ⟨"AUD_CTL", 0x1800000, 8, 0x100, 1, 0x100, 32, fun i _ => [(AUD_CTL_START i, .wo, true), (AUD_CTL_STOP i, .wo, true)]⟩,
  ⟨"AUD_STATUS", 0x1800004, 8, 0x100, 1, 0x100, 32, fun i _ => [(AUD_STATUS_LEAD_LEFT i, .ro, false), (AUD_STATUS_FAULT_CAUSE i, .ro, false), (AUD_STATUS_UNDERRUN i, .ro, false), (AUD_STATUS_STATE i, .ro, false)]⟩,
  ⟨"AUD_MASK", 0x1800008, 8, 0x100, 1, 0x100, 32, fun i _ => [(AUD_MASK i, .sh, false)]⟩,
  ⟨"AUD_RATIO", 0x180000C, 8, 0x100, 1, 0x100, 32, fun i _ => [(AUD_RATIO i, .ro, false)]⟩,
  ⟨"AUD_WR", 0x1800010, 8, 0x100, 1, 0x100, 32, fun i _ => [(AUD_WR i, .rw, true)]⟩,
  ⟨"AUD_RD", 0x1800014, 8, 0x100, 1, 0x100, 32, fun i _ => [(AUD_RD i, .ro, false)]⟩,
  ⟨"AUD_COUNT", 0x1800018, 8, 0x100, 1, 0x100, 32, fun i _ => [(AUD_COUNT_UNDERRUN i, .rc, false), (AUD_COUNT_SILENCE i, .rc, false)]⟩,
  ⟨"AUD_LAT", 0x180001C, 8, 0x100, 1, 0x100, 32, fun i _ => [(AUD_LAT i, .ro, false)]⟩]
/-- The registers of this file. -/
def tabRegsB : List RegD := regB0 ++ regB1 ++ regB2

end Sys2Proof.Machine
end

