-- ==== Sys2Proof/Machine/RegsC.lean ====
section
/-!
DEFINITION. Registers: Serial lanes, sensor intake, contexts and engines, the queue interface. One descriptor per field, as the tables of the spec lay them out
(R440, R443), and the list from which BAR0 accesses find them.
-/
namespace Sys2Proof.Machine

/-- LNK_CTL.TRAIN_TIMEOUT (Table 03-12), RW. -/
def LNK_CTL_TRAIN_TIMEOUT (i : Nat) : Fld := ⟨0x500000 + 0x1000 * i, 16, 10, 500⟩
/-- LNK_CTL.RX_INV (Table 03-12), RO. -/
def LNK_CTL_RX_INV (i : Nat) : Fld := ⟨0x500000 + 0x1000 * i, 5, 1, 0⟩
/-- LNK_CTL.TX_INV (Table 03-12), RO. -/
def LNK_CTL_TX_INV (i : Nat) : Fld := ⟨0x500000 + 0x1000 * i, 4, 1, 0⟩
/-- LNK_CTL.RX_MODE (Table 03-12), RO. -/
def LNK_CTL_RX_MODE (i : Nat) : Fld := ⟨0x500000 + 0x1000 * i, 2, 2, 0⟩
/-- LNK_CTL.TX_MODE (Table 03-12), RO. -/
def LNK_CTL_TX_MODE (i : Nat) : Fld := ⟨0x500000 + 0x1000 * i, 0, 2, 0⟩
/-- LNK_STATUS.TRAIN_COUNT (Table 03-13), RO. -/
def LNK_STATUS_TRAIN_COUNT (i : Nat) : Fld := ⟨0x500004 + 0x1000 * i, 16, 8, 0⟩
/-- LNK_STATUS.LANE_POS (Table 03-13), RO. -/
def LNK_STATUS_LANE_POS (i : Nat) : Fld := ⟨0x500004 + 0x1000 * i, 8, 4, 0⟩
/-- LNK_STATUS.RX_LOCK (Table 03-13), RO. -/
def LNK_STATUS_RX_LOCK (i : Nat) : Fld := ⟨0x500004 + 0x1000 * i, 7, 1, 0⟩
/-- LNK_STATUS.FAR_RX_LOCK (Table 03-13), RO. -/
def LNK_STATUS_FAR_RX_LOCK (i : Nat) : Fld := ⟨0x500004 + 0x1000 * i, 6, 1, 0⟩
/-- LNK_STATUS.TRAINED (Table 03-13), RO. -/
def LNK_STATUS_TRAINED (i : Nat) : Fld := ⟨0x500004 + 0x1000 * i, 5, 1, 0⟩
/-- LNK_STATUS.ERR_SEEN (Table 03-13), W1C. -/
def LNK_STATUS_ERR_SEEN (i : Nat) : Fld := ⟨0x500004 + 0x1000 * i, 4, 1, 0⟩
/-- LNK_STATUS.STATE (Table 03-13), RO. -/
def LNK_STATUS_STATE (i : Nat) : Fld := ⟨0x500004 + 0x1000 * i, 0, 4, 0⟩
/-- LNK_ALIGN.BOUNDARY (Table 03-14), RO. -/
def LNK_ALIGN_BOUNDARY (i : Nat) : Fld := ⟨0x500008 + 0x1000 * i, 16, 14, 0⟩
/-- LNK_ALIGN.HDR_OK (Table 03-14), RO. -/
def LNK_ALIGN_HDR_OK (i : Nat) : Fld := ⟨0x500008 + 0x1000 * i, 4, 1, 0⟩
/-- LNK_ALIGN.SLIP_BUSY (Table 03-14), RO. -/
def LNK_ALIGN_SLIP_BUSY (i : Nat) : Fld := ⟨0x500008 + 0x1000 * i, 3, 1, 0⟩
/-- LNK_ALIGN.ACCEPT (Table 03-14), WO, acted on by a command of its own. -/
def LNK_ALIGN_ACCEPT (i : Nat) : Fld := ⟨0x500008 + 0x1000 * i, 2, 1, 0⟩
/-- LNK_ALIGN.BITSLIP (Table 03-14), WO, acted on by a command of its own. -/
def LNK_ALIGN_BITSLIP (i : Nat) : Fld := ⟨0x500008 + 0x1000 * i, 1, 1, 0⟩
/-- LNK_ALIGN.COMMA_EN (Table 03-14), RW. -/
def LNK_ALIGN_COMMA_EN (i : Nat) : Fld := ⟨0x500008 + 0x1000 * i, 0, 1, 1⟩
/-- LNK_TRAIN.ECHO_FAILS (Table 03-15), RO. -/
def LNK_TRAIN_ECHO_FAILS (i : Nat) : Fld := ⟨0x50000C + 0x1000 * i, 16, 8, 0⟩
/-- LNK_TRAIN.REQ_COUNT (Table 03-15), RO. -/
def LNK_TRAIN_REQ_COUNT (i : Nat) : Fld := ⟨0x50000C + 0x1000 * i, 8, 8, 0⟩
/-- LNK_TRAIN.LAST_RESULT (Table 03-15), RO. -/
def LNK_TRAIN_LAST_RESULT (i : Nat) : Fld := ⟨0x50000C + 0x1000 * i, 4, 4, 0⟩
/-- LNK_TRAIN.RETRAIN (Table 03-15), WO, acted on by a command of its own. -/
def LNK_TRAIN_RETRAIN (i : Nat) : Fld := ⟨0x50000C + 0x1000 * i, 0, 1, 0⟩
/-- LNK_TXEQ.PRE (Table 03-6), RO. -/
def LNK_TXEQ_PRE (i : Nat) : Fld := ⟨0x500010 + 0x1000 * i, 0, 5, 0⟩
/-- LNK_TXEQ.MAIN (Table 03-6), RO. -/
def LNK_TXEQ_MAIN (i : Nat) : Fld := ⟨0x500010 + 0x1000 * i, 8, 7, 64⟩
/-- LNK_TXEQ.POST (Table 03-6), RO. -/
def LNK_TXEQ_POST (i : Nat) : Fld := ⟨0x500010 + 0x1000 * i, 16, 5, 0⟩
/-- LNK_ERR.HDR_ERR (R82), RC. -/
def LNK_ERR_HDR_ERR (i : Nat) : Fld := ⟨0x500014 + 0x1000 * i, 16, 16, 0⟩
/-- LNK_ERR.CODE_ERR (R82), RC. -/
def LNK_ERR_CODE_ERR (i : Nat) : Fld := ⟨0x500014 + 0x1000 * i, 0, 16, 0⟩
/-- LNK_LOOP.LOOP (R95), RW, acted on by a command of its own. -/
def LNK_LOOP_LOOP (i : Nat) : Fld := ⟨0x500020 + 0x1000 * i, 0, 2, 0⟩
/-- LNK_PRBS_CTL.CHK_CLEAR (Table 03-16), WO, acted on by a command of its own. -/
def LNK_PRBS_CTL_CHK_CLEAR (i : Nat) : Fld := ⟨0x500024 + 0x1000 * i, 9, 1, 0⟩
/-- LNK_PRBS_CTL.CHK_LOCK (Table 03-16), RO. -/
def LNK_PRBS_CTL_CHK_LOCK (i : Nat) : Fld := ⟨0x500024 + 0x1000 * i, 8, 1, 0⟩
/-- LNK_PRBS_CTL.CHK_INV (Table 03-16), RW, acted on by a command of its own. -/
def LNK_PRBS_CTL_CHK_INV (i : Nat) : Fld := ⟨0x500024 + 0x1000 * i, 7, 1, 0⟩
/-- LNK_PRBS_CTL.CHK_SEL (Table 03-16), RW, acted on by a command of its own. -/
def LNK_PRBS_CTL_CHK_SEL (i : Nat) : Fld := ⟨0x500024 + 0x1000 * i, 4, 3, 0⟩
/-- LNK_PRBS_CTL.GEN_INV (Table 03-16), RW, acted on by a command of its own. -/
def LNK_PRBS_CTL_GEN_INV (i : Nat) : Fld := ⟨0x500024 + 0x1000 * i, 3, 1, 0⟩
/-- LNK_PRBS_CTL.GEN_SEL (Table 03-16), RW, acted on by a command of its own. -/
def LNK_PRBS_CTL_GEN_SEL (i : Nat) : Fld := ⟨0x500024 + 0x1000 * i, 0, 3, 0⟩
/-- LNK_PRBS_ERR.ERRORS (Table 03-10), RO. -/
def LNK_PRBS_ERR_ERRORS (i : Nat) : Fld := ⟨0x500028 + 0x1000 * i, 0, 32, 0⟩
/-- LNK_PRBS_BITS.BITS (Table 03-10), RO. -/
def LNK_PRBS_BITS_BITS (i : Nat) : Fld := ⟨0x500030 + 0x1000 * i, 0, 64, 0⟩
/-- LNK_EYE_CTL.START (Table 03-17), WO, acted on by a command of its own. -/
def LNK_EYE_CTL_START (i : Nat) : Fld := ⟨0x500040 + 0x1000 * i, 31, 1, 0⟩
/-- LNK_EYE_CTL.DWELL (Table 03-17), RW. -/
def LNK_EYE_CTL_DWELL (i : Nat) : Fld := ⟨0x500040 + 0x1000 * i, 20, 4, 0⟩
/-- LNK_EYE_CTL.EYE_SEL (Table 03-17), RW. -/
def LNK_EYE_CTL_EYE_SEL (i : Nat) : Fld := ⟨0x500040 + 0x1000 * i, 16, 2, 0⟩
/-- LNK_EYE_CTL.VOFF (Table 03-17), RW. -/
def LNK_EYE_CTL_VOFF (i : Nat) : Fld := ⟨0x500040 + 0x1000 * i, 8, 8, 0⟩
/-- LNK_EYE_CTL.PHASE (Table 03-17), RW. -/
def LNK_EYE_CTL_PHASE (i : Nat) : Fld := ⟨0x500040 + 0x1000 * i, 0, 6, 0⟩
/-- LNK_EYE_RESULT.DONE (R97), RO. -/
def LNK_EYE_RESULT_DONE (i : Nat) : Fld := ⟨0x500044 + 0x1000 * i, 31, 1, 0⟩
/-- LNK_EYE_RESULT.ERRORS (R97), RO. -/
def LNK_EYE_RESULT_ERRORS (i : Nat) : Fld := ⟨0x500044 + 0x1000 * i, 0, 31, 0⟩
/-- ITK_BND_CTL.RESTART (Table 04-5), WO, acted on by a command of its own. -/
def ITK_BND_CTL_RESTART (i : Nat) : Fld := ⟨0x800000 + 0x100 * i, 0, 1, 0⟩
/-- ITK_BND_STATUS.SUBST_COUNT (Table 04-14), RO. -/
def ITK_BND_STATUS_SUBST_COUNT (i : Nat) : Fld := ⟨0x800004 + 0x100 * i, 24, 8, 0⟩
/-- ITK_BND_STATUS.MAP_GEN (Table 04-14), RO. -/
def ITK_BND_STATUS_MAP_GEN (i : Nat) : Fld := ⟨0x800004 + 0x100 * i, 16, 8, 0⟩
/-- ITK_BND_STATUS.SPARES_LEFT (Table 04-14), RO. -/
def ITK_BND_STATUS_SPARES_LEFT (i : Nat) : Fld := ⟨0x800004 + 0x100 * i, 12, 3, 0⟩
/-- ITK_BND_STATUS.NAK_COUNT (Table 04-14), RO. -/
def ITK_BND_STATUS_NAK_COUNT (i : Nat) : Fld := ⟨0x800004 + 0x100 * i, 8, 4, 0⟩
/-- ITK_BND_STATUS.FAIL_CAUSE (Table 04-14), RO. -/
def ITK_BND_STATUS_FAIL_CAUSE (i : Nat) : Fld := ⟨0x800004 + 0x100 * i, 4, 4, 0⟩
/-- ITK_BND_STATUS.STATE (Table 04-14), RO. -/
def ITK_BND_STATUS_STATE (i : Nat) : Fld := ⟨0x800004 + 0x100 * i, 0, 3, 0⟩
/-- ITK_BND_SEQ.EXP_SEQ (Table 04-13), RO. -/
def ITK_BND_SEQ_EXP_SEQ (i : Nat) : Fld := ⟨0x800008 + 0x100 * i, 0, 24, 0⟩
/-- ITK_BND_RSEQ.NEXT_RSEQ (Table 04-13), RO. -/
def ITK_BND_RSEQ_NEXT_RSEQ (i : Nat) : Fld := ⟨0x80000C + 0x100 * i, 0, 24, 0⟩
/-- ITK_BND_ERR.HDR_ERR (Table 04-13), RC. -/
def ITK_BND_ERR_HDR_ERR (i : Nat) : Fld := ⟨0x800010 + 0x100 * i, 0, 8, 0⟩
/-- ITK_BND_ERR.CRC_ERR (Table 04-13), RC. -/
def ITK_BND_ERR_CRC_ERR (i : Nat) : Fld := ⟨0x800010 + 0x100 * i, 8, 8, 0⟩
/-- ITK_BND_ERR.SEQ_GAP (Table 04-13), RC. -/
def ITK_BND_ERR_SEQ_GAP (i : Nat) : Fld := ⟨0x800010 + 0x100 * i, 16, 8, 0⟩
/-- ITK_BND_ERR.NAKS_RX (Table 04-13), RC. -/
def ITK_BND_ERR_NAKS_RX (i : Nat) : Fld := ⟨0x800010 + 0x100 * i, 24, 8, 0⟩
/-- ITK_BND_ERR2.NAKS_TX (Table 04-13), RC. -/
def ITK_BND_ERR2_NAKS_TX (i : Nat) : Fld := ⟨0x800014 + 0x100 * i, 0, 16, 0⟩
/-- ITK_BND_ERR2.UNBOUND (Table 04-13), RC. -/
def ITK_BND_ERR2_UNBOUND (i : Nat) : Fld := ⟨0x800014 + 0x100 * i, 16, 8, 0⟩
/-- ITK_BND_ERR2.RESERVED_TYPE (Table 04-13), RC. -/
def ITK_BND_ERR2_RESERVED_TYPE (i : Nat) : Fld := ⟨0x800014 + 0x100 * i, 24, 8, 0⟩
/-- ITK_BND_SKEW.SKEW (Table 04-13), RO. -/
def ITK_BND_SKEW_SKEW (i : Nat) : Fld := ⟨0x800018 + 0x100 * i, 0, 10, 0⟩
/-- ITK_VS_STATUS.LOST_CAUSE (Table 04-15), RO. -/
def ITK_VS_STATUS_LOST_CAUSE (i : Nat) : Fld := ⟨0x810000 + 0x1000 * i, 20, 4, 0⟩
/-- ITK_VS_STATUS.LINK_CAUSE (Table 04-15), RO. -/
def ITK_VS_STATUS_LINK_CAUSE (i : Nat) : Fld := ⟨0x810000 + 0x1000 * i, 16, 4, 0⟩
/-- ITK_VS_STATUS.ALARM (Table 04-15), RO. -/
def ITK_VS_STATUS_ALARM (i : Nat) : Fld := ⟨0x810000 + 0x1000 * i, 11, 1, 0⟩
/-- ITK_VS_STATUS.STALLED (Table 04-15), RO. -/
def ITK_VS_STATUS_STALLED (i : Nat) : Fld := ⟨0x810000 + 0x1000 * i, 10, 1, 0⟩
/-- ITK_VS_STATUS.FRAME_OPEN (Table 04-15), RO. -/
def ITK_VS_STATUS_FRAME_OPEN (i : Nat) : Fld := ⟨0x810000 + 0x1000 * i, 9, 1, 0⟩
/-- ITK_VS_STATUS.BOUND (Table 04-15), RO. -/
def ITK_VS_STATUS_BOUND (i : Nat) : Fld := ⟨0x810000 + 0x1000 * i, 8, 1, 0⟩
/-- ITK_VS_STATUS.BND_STATE (Table 04-15), RO. -/
def ITK_VS_STATUS_BND_STATE (i : Nat) : Fld := ⟨0x810000 + 0x1000 * i, 0, 3, 0⟩
/-- ITK_VS_LAST_FN (Table 04-13), RO. -/
def ITK_VS_LAST_FN (i : Nat) : Fld := ⟨0x810004 + 0x1000 * i, 0, 32, 0⟩
/-- ITK_VS_LAST_TAG.TAG (Table 04-13), RO. -/
def ITK_VS_LAST_TAG_TAG (i : Nat) : Fld := ⟨0x810008 + 0x1000 * i, 0, 16, 0⟩
/-- ITK_VS_FRAMES (Table 04-13), RO. -/
def ITK_VS_FRAMES (i : Nat) : Fld := ⟨0x81000C + 0x1000 * i, 0, 32, 0⟩
/-- ITK_VS_ERR.LOST (Table 04-13), RC. -/
def ITK_VS_ERR_LOST (i : Nat) : Fld := ⟨0x810010 + 0x1000 * i, 0, 8, 0⟩
/-- ITK_VS_ERR.GAPS (Table 04-13), RC. -/
def ITK_VS_ERR_GAPS (i : Nat) : Fld := ⟨0x810010 + 0x1000 * i, 8, 8, 0⟩
/-- ITK_VS_ERR.ORPHAN (Table 04-13), RC. -/
def ITK_VS_ERR_ORPHAN (i : Nat) : Fld := ⟨0x810010 + 0x1000 * i, 16, 8, 0⟩
/-- ITK_VS_ERR.LATE (Table 04-13), RC. -/
def ITK_VS_ERR_LATE (i : Nat) : Fld := ⟨0x810010 + 0x1000 * i, 24, 8, 0⟩
/-- ITK_VS_LOST_FN (R115), RO. -/
def ITK_VS_LOST_FN (i : Nat) : Fld := ⟨0x810014 + 0x1000 * i, 0, 32, 0⟩
/-- ITK_VS_LATE_FN (R120), RO. -/
def ITK_VS_LATE_FN (i : Nat) : Fld := ⟨0x810018 + 0x1000 * i, 0, 32, 0⟩
/-- ITK_VS_LATE_TAG.LOST (R120), RO. -/
def ITK_VS_LATE_TAG_LOST (i : Nat) : Fld := ⟨0x81001C + 0x1000 * i, 31, 1, 0⟩
/-- ITK_VS_LATE_TAG.EARLY (R120), RO. -/
def ITK_VS_LATE_TAG_EARLY (i : Nat) : Fld := ⟨0x81001C + 0x1000 * i, 30, 1, 0⟩
/-- ITK_VS_LATE_TAG.TAG (R120), RO. -/
def ITK_VS_LATE_TAG_TAG (i : Nat) : Fld := ⟨0x81001C + 0x1000 * i, 0, 16, 0⟩
/-- ITK_VS_SET_FN (R119), RW. -/
def ITK_VS_SET_FN (i : Nat) : Fld := ⟨0x810020 + 0x1000 * i, 0, 32, 0⟩
/-- ITK_VS_SET_TAG.TAG (R119), RW. -/
def ITK_VS_SET_TAG_TAG (i : Nat) : Fld := ⟨0x810024 + 0x1000 * i, 0, 16, 0⟩
/-- ITK_VS_SET_CTL.PENDING (Table 04-16), RO. -/
def ITK_VS_SET_CTL_PENDING (i : Nat) : Fld := ⟨0x810028 + 0x1000 * i, 24, 4, 0⟩
/-- ITK_VS_SET_CTL.QUEUED (Table 04-16), RO. -/
def ITK_VS_SET_CTL_QUEUED (i : Nat) : Fld := ⟨0x810028 + 0x1000 * i, 20, 4, 0⟩
/-- ITK_VS_SET_CTL.GO (Table 04-16), WO, acted on by a command of its own. -/
def ITK_VS_SET_CTL_GO (i : Nat) : Fld := ⟨0x810028 + 0x1000 * i, 16, 1, 0⟩
/-- ITK_VS_SET_CTL.LEN (Table 04-16), RW. -/
def ITK_VS_SET_CTL_LEN (i : Nat) : Fld := ⟨0x810028 + 0x1000 * i, 0, 9, 1⟩
/-- ITK_VS_ST (Table 04-3), RO. -/
def ITK_VS_ST (i : Nat) : Fld := ⟨0x810030 + 0x1000 * i, 0, 64, 0⟩
/-- ITK_VS_SET_DATA (R119), RW. -/
def ITK_VS_SET_DATA (i j : Nat) : Fld := ⟨0x810800 + 0x1000 * i + 0x4 * j, 0, 32, 0⟩
/-- PIX_CE_STATUS.FM_QUEUE (Table 05-10), RO. -/
def PIX_CE_STATUS_FM_QUEUE (i : Nat) : Fld := ⟨0xA00000 + 0x100 * i, 16, 8, 0⟩
/-- PIX_CE_STATUS.CUR_STRIPE (Table 05-10), RO. -/
def PIX_CE_STATUS_CUR_STRIPE (i : Nat) : Fld := ⟨0xA00000 + 0x100 * i, 12, 1, 0⟩
/-- PIX_CE_STATUS.CUR_CTX (Table 05-10), RO. -/
def PIX_CE_STATUS_CUR_CTX (i : Nat) : Fld := ⟨0xA00000 + 0x100 * i, 8, 4, 0⟩
/-- PIX_CE_STATUS.GATED (Table 05-10), RO. -/
def PIX_CE_STATUS_GATED (i : Nat) : Fld := ⟨0xA00000 + 0x100 * i, 2, 1, 0⟩
/-- PIX_CE_STATUS.RETIRED (Table 05-10), RO. -/
def PIX_CE_STATUS_RETIRED (i : Nat) : Fld := ⟨0xA00000 + 0x100 * i, 1, 1, 0⟩
/-- PIX_CE_STATUS.BUSY (Table 05-10), RO. -/
def PIX_CE_STATUS_BUSY (i : Nat) : Fld := ⟨0xA00000 + 0x100 * i, 0, 1, 0⟩
/-- PIX_CE_HORIZON.HORIZON (R133), RO. -/
def PIX_CE_HORIZON_HORIZON (i : Nat) : Fld := ⟨0xA00008 + 0x100 * i, 0, 25, 0x40000⟩
/-- PIX_CE_BACKLOG (R132), RO. -/
def PIX_CE_BACKLOG (i : Nat) : Fld := ⟨0xA0000C + 0x100 * i, 0, 32, 0⟩
/-- PIX_CE_BUSY.CYCLES (Table 05-9), RO. -/
def PIX_CE_BUSY_CYCLES (i : Nat) : Fld := ⟨0xA00010 + 0x100 * i, 0, 64, 0⟩
/-- PIX_CE_SWITCHES.COUNT (R129), RO. -/
def PIX_CE_SWITCHES_COUNT (i : Nat) : Fld := ⟨0xA00018 + 0x100 * i, 0, 32, 0⟩
/-- PIX_CTX_CFG.SPLIT16 (Table 05-11), RO. -/
def PIX_CTX_CFG_SPLIT16 (i : Nat) : Fld := ⟨0xA10000 + 0x1000 * i, 16, 10, 0⟩
/-- PIX_CTX_CFG.BAND8 (Table 05-11), RO. -/
def PIX_CTX_CFG_BAND8 (i : Nat) : Fld := ⟨0xA10000 + 0x1000 * i, 8, 8, 0⟩
/-- PIX_CTX_CFG.ENGINE (Table 05-11), RO. -/
def PIX_CTX_CFG_ENGINE (i : Nat) : Fld := ⟨0xA10000 + 0x1000 * i, 4, 1, 0⟩
/-- PIX_CTX_CFG.INTERPRET (Table 05-11), RO. -/
def PIX_CTX_CFG_INTERPRET (i : Nat) : Fld := ⟨0xA10000 + 0x1000 * i, 3, 1, 0⟩
/-- PIX_CTX_CFG.PAIRED (Table 05-11), RO. -/
def PIX_CTX_CFG_PAIRED (i : Nat) : Fld := ⟨0xA10000 + 0x1000 * i, 2, 1, 0⟩
/-- PIX_CTX_CFG.FRAME_MODE (Table 05-11), RO. -/
def PIX_CTX_CFG_FRAME_MODE (i : Nat) : Fld := ⟨0xA10000 + 0x1000 * i, 1, 1, 0⟩
/-- PIX_CTX_CFG.RECORDED (Table 05-11), RO. -/
def PIX_CTX_CFG_RECORDED (i : Nat) : Fld := ⟨0xA10000 + 0x1000 * i, 0, 1, 0⟩
/-- PIX_CTX_SCHED.WEIGHT (Table 05-12), SH. -/
def PIX_CTX_SCHED_WEIGHT (i : Nat) : Fld := ⟨0xA10004 + 0x1000 * i, 8, 8, 1⟩
/-- PIX_CTX_SCHED.PRIORITY (Table 05-12), SH. -/
def PIX_CTX_SCHED_PRIORITY (i : Nat) : Fld := ⟨0xA10004 + 0x1000 * i, 0, 3, 0⟩
/-- PIX_CTX_ENABLE.EN (R130), SH. -/
def PIX_CTX_ENABLE_EN (i : Nat) : Fld := ⟨0xA10008 + 0x1000 * i, 0, 1, 1⟩
/-- PIX_CTX_STATUS.SHED_CAUSE (Table 05-13), RO. -/
def PIX_CTX_STATUS_SHED_CAUSE (i : Nat) : Fld := ⟨0xA1000C + 0x1000 * i, 8, 4, 0⟩
/-- PIX_CTX_STATUS.VERSION (Table 05-13), RO. -/
def PIX_CTX_STATUS_VERSION (i : Nat) : Fld := ⟨0xA1000C + 0x1000 * i, 3, 1, 0⟩
/-- PIX_CTX_STATUS.QUEUED (Table 05-13), RO. -/
def PIX_CTX_STATUS_QUEUED (i : Nat) : Fld := ⟨0xA1000C + 0x1000 * i, 2, 1, 0⟩
/-- PIX_CTX_STATUS.RUNNING (Table 05-13), RO. -/
def PIX_CTX_STATUS_RUNNING (i : Nat) : Fld := ⟨0xA1000C + 0x1000 * i, 1, 1, 0⟩
/-- PIX_CTX_STATUS.ADMITTED (Table 05-13), RO. -/
def PIX_CTX_STATUS_ADMITTED (i : Nat) : Fld := ⟨0xA1000C + 0x1000 * i, 0, 1, 0⟩
/-- PIX_CTX_DONE_FN (Table 05-9), RO. -/
def PIX_CTX_DONE_FN (i : Nat) : Fld := ⟨0xA10010 + 0x1000 * i, 0, 32, 0⟩
/-- PIX_CTX_SHED.SHED (Table 05-9), RC. -/
def PIX_CTX_SHED_SHED (i : Nat) : Fld := ⟨0xA10014 + 0x1000 * i, 0, 16, 0⟩
/-- PIX_CTX_SHED.ABANDONED (Table 05-9), RC. -/
def PIX_CTX_SHED_ABANDONED (i : Nat) : Fld := ⟨0xA10014 + 0x1000 * i, 16, 8, 0⟩
/-- PIX_CTX_SHED.SKIPPED (Table 05-9), RC. -/
def PIX_CTX_SHED_SKIPPED (i : Nat) : Fld := ⟨0xA10014 + 0x1000 * i, 24, 8, 0⟩
/-- PIX_CTX_SHED_FN (R135), RO. -/
def PIX_CTX_SHED_FN (i : Nat) : Fld := ⟨0xA10018 + 0x1000 * i, 0, 32, 0⟩
/-- PIX_CTX_STORE.FILL (R446), RO. -/
def PIX_CTX_STORE_FILL (i : Nat) : Fld := ⟨0xA1001C + 0x1000 * i, 0, 16, 0⟩
/-- PIX_CTX_STORE.PEAK (R446), RO. -/
def PIX_CTX_STORE_PEAK (i : Nat) : Fld := ⟨0xA1001C + 0x1000 * i, 16, 16, 0⟩
/-- QIF_CTL.ADMIN_RESET (Table 12-11), WO, acted on by a command of its own. -/
def QIF_CTL_ADMIN_RESET : Fld := ⟨0x1500000, 1, 1, 0⟩
/-- QIF_CTL.EN (Table 12-11), RW, acted on by a command of its own. -/
def QIF_CTL_EN : Fld := ⟨0x1500000, 0, 1, 0⟩
/-- QIF_STATUS.ADMIN_ERR (Table 12-12), RO. -/
def QIF_STATUS_ADMIN_ERR : Fld := ⟨0x1500004, 3, 1, 0⟩
/-- QIF_STATUS.FETCH_STOPPED (Table 12-12), RO. -/
def QIF_STATUS_FETCH_STOPPED : Fld := ⟨0x1500004, 2, 1, 0⟩
/-- QIF_STATUS.FATAL (Table 12-12), RO. -/
def QIF_STATUS_FATAL : Fld := ⟨0x1500004, 1, 1, 0⟩
/-- QIF_STATUS.RDY (Table 12-12), RO. -/
def QIF_STATUS_RDY : Fld := ⟨0x1500004, 0, 1, 0⟩
/-- QIF_ADMIN_DEPTH.DEPTH_M1 (R296), RW. -/
def QIF_ADMIN_DEPTH_DEPTH_M1 : Fld := ⟨0x1500008, 0, 12, 0x3F⟩
/-- QIF_ADMIN_SQ_BASE.ADDR (R296), RW. -/
def QIF_ADMIN_SQ_BASE_ADDR : Fld := ⟨0x1500010, 0, 64, 0⟩
/-- QIF_ADMIN_CQ_BASE.ADDR (R296), RW. -/
def QIF_ADMIN_CQ_BASE_ADDR : Fld := ⟨0x1500018, 0, 64, 0⟩
/-- QIF_ARB.W_HIGH (R304), RW. -/
def QIF_ARB_W_HIGH : Fld := ⟨0x1500020, 0, 8, 0x1F⟩
/-- QIF_ARB.W_MEDIUM (R304), RW. -/
def QIF_ARB_W_MEDIUM : Fld := ⟨0x1500020, 8, 8, 7⟩
/-- QIF_ARB.W_LOW (R304), RW. -/
def QIF_ARB_W_LOW : Fld := ⟨0x1500020, 16, 8, 0⟩
/-- QIF_DB_ERR.QID (R298), RO. -/
def QIF_DB_ERR_QID : Fld := ⟨0x1500024, 0, 6, 0⟩
/-- QIF_DB_ERR.KIND (R298), RO. -/
def QIF_DB_ERR_KIND : Fld := ⟨0x1500024, 8, 2, 0⟩
/-- QIF_DB_ERR.VALID (R298), W1C. -/
def QIF_DB_ERR_VALID : Fld := ⟨0x1500024, 31, 1, 0⟩
/-- QIF_COUNT.DB_ERR (R298), RC. -/
def QIF_COUNT_DB_ERR : Fld := ⟨0x1500028, 0, 16, 0⟩
/-- QIF_COUNT.HOST_ERR (R298), RC. -/
def QIF_COUNT_HOST_ERR : Fld := ⟨0x1500028, 16, 16, 0⟩
/-- QIF_Q_STATUS.INFLIGHT (Table 12-13), RO. -/
def QIF_Q_STATUS_INFLIGHT (i : Nat) : Fld := ⟨0x1501000 + 0x10 * i, 16, 13, 0⟩
/-- QIF_Q_STATUS.VECTOR (Table 12-13), RO. -/
def QIF_Q_STATUS_VECTOR (i : Nat) : Fld := ⟨0x1501000 + 0x10 * i, 8, 6, 0⟩
/-- QIF_Q_STATUS.CLASS (Table 12-13), RO. -/
def QIF_Q_STATUS_CLASS (i : Nat) : Fld := ⟨0x1501000 + 0x10 * i, 4, 2, 0⟩
/-- QIF_Q_STATUS.STATE (Table 12-13), RO. -/
def QIF_Q_STATUS_STATE (i : Nat) : Fld := ⟨0x1501000 + 0x10 * i, 0, 2, 0⟩
/-- QIF_Q_INDEX.SQ_HEAD (R297), RO. -/
def QIF_Q_INDEX_SQ_HEAD (i : Nat) : Fld := ⟨0x1501004 + 0x10 * i, 0, 12, 0⟩
/-- QIF_Q_INDEX.CQ_TAIL (R297), RO. -/
def QIF_Q_INDEX_CQ_TAIL (i : Nat) : Fld := ⟨0x1501004 + 0x10 * i, 16, 12, 0⟩
/-- QIF_Q_INDEX.PHASE (R297), RO. -/
def QIF_Q_INDEX_PHASE (i : Nat) : Fld := ⟨0x1501004 + 0x10 * i, 31, 1, 0⟩
/-- QIF_SQ_TAIL.INDEX (R298), WO, acted on by a command of its own. -/
def QIF_SQ_TAIL_INDEX (i : Nat) : Fld := ⟨0x1510000 + 0x8 * i, 0, 12, 0⟩
/-- QIF_CQ_HEAD.INDEX (R298), WO, acted on by a command of its own. -/
def QIF_CQ_HEAD_INDEX (i : Nat) : Fld := ⟨0x1510004 + 0x8 * i, 0, 12, 0⟩
/-- QIF_MSIX.ADDR (R300), RW. -/
def QIF_MSIX_ADDR (i : Nat) : Fld := ⟨0x1520000 + 0x10 * i, 0, 64, 0⟩
/-- QIF_MSIX.DATA (R300), RW. -/
def QIF_MSIX_DATA (i : Nat) : Fld := ⟨0x1520000 + 0x10 * i, 64, 32, 0⟩
/-- QIF_MSIX.MASK (R300), RW, acted on by a command of its own. -/
def QIF_MSIX_MASK (i : Nat) : Fld := ⟨0x1520000 + 0x10 * i, 96, 1, 1⟩
/-- QIF_PBA (R300), RO. -/
def QIF_PBA : Fld := ⟨0x1521000, 0, 64, 0⟩

/-- Rows of the register index. -/
def regC0 : List RegD := [
  ⟨"LNK_CTL", 0x500000, 48, 0x1000, 1, 0x1000, 32, fun i _ => [(LNK_CTL_TRAIN_TIMEOUT i, .rw, false), (LNK_CTL_RX_INV i, .ro, false), (LNK_CTL_TX_INV i, .ro, false), (LNK_CTL_RX_MODE i, .ro, false), (LNK_CTL_TX_MODE i, .ro, false)]⟩,
  ⟨"LNK_STATUS", 0x500004, 48, 0x1000, 1, 0x1000, 32, fun i _ => [(LNK_STATUS_TRAIN_COUNT i, .ro, false), (LNK_STATUS_LANE_POS i, .ro, false), (LNK_STATUS_RX_LOCK i, .ro, false), (LNK_STATUS_FAR_RX_LOCK i, .ro, false), (LNK_STATUS_TRAINED i, .ro, false), (LNK_STATUS_ERR_SEEN i, .w1c, false), (LNK_STATUS_STATE i, .ro, false)]⟩,
  ⟨"LNK_ALIGN", 0x500008, 48, 0x1000, 1, 0x1000, 32, fun i _ => [(LNK_ALIGN_BOUNDARY i, .ro, false), (LNK_ALIGN_HDR_OK i, .ro, false), (LNK_ALIGN_SLIP_BUSY i, .ro, false), (LNK_ALIGN_ACCEPT i, .wo, true), (LNK_ALIGN_BITSLIP i, .wo, true), (LNK_ALIGN_COMMA_EN i, .rw, false)]⟩,
  ⟨"LNK_TRAIN", 0x50000C, 48, 0x1000, 1, 0x1000, 32, fun i _ => [(LNK_TRAIN_ECHO_FAILS i, .ro, false), (LNK_TRAIN_REQ_COUNT i, .ro, false), (LNK_TRAIN_LAST_RESULT i, .ro, false), (LNK_TRAIN_RETRAIN i, .wo, true)]⟩,
  ⟨"LNK_TXEQ", 0x500010, 48, 0x1000, 1, 0x1000, 32, fun i _ => [(LNK_TXEQ_PRE i, .ro, false), (LNK_TXEQ_MAIN i, .ro, false), (LNK_TXEQ_POST i, .ro, false)]⟩,
  ⟨"LNK_ERR", 0x500014, 48, 0x1000, 1, 0x1000, 32, fun i _ => [(LNK_ERR_HDR_ERR i, .rc, false), (LNK_ERR_CODE_ERR i, .rc, false)]⟩,
  ⟨"LNK_LOOP", 0x500020, 48, 0x1000, 1, 0x1000, 32, fun i _ => [(LNK_LOOP_LOOP i, .rw, true)]⟩,
  ⟨"LNK_PRBS_CTL", 0x500024, 48, 0x1000, 1, 0x1000, 32, fun i _ => [(LNK_PRBS_CTL_CHK_CLEAR i, .wo, true), (LNK_PRBS_CTL_CHK_LOCK i, .ro, false), (LNK_PRBS_CTL_CHK_INV i, .rw, true), (LNK_PRBS_CTL_CHK_SEL i, .rw, true), (LNK_PRBS_CTL_GEN_INV i, .rw, true), (LNK_PRBS_CTL_GEN_SEL i, .rw, true)]⟩,
  ⟨"LNK_PRBS_ERR", 0x500028, 48, 0x1000, 1, 0x1000, 32, fun i _ => [(LNK_PRBS_ERR_ERRORS i, .ro, false)]⟩,
  ⟨"LNK_PRBS_BITS", 0x500030, 48, 0x1000, 1, 0x1000, 64, fun i _ => [(LNK_PRBS_BITS_BITS i, .ro, false)]⟩,
  ⟨"LNK_EYE_CTL", 0x500040, 48, 0x1000, 1, 0x1000, 32, fun i _ => [(LNK_EYE_CTL_START i, .wo, true), (LNK_EYE_CTL_DWELL i, .rw, false), (LNK_EYE_CTL_EYE_SEL i, .rw, false), (LNK_EYE_CTL_VOFF i, .rw, false), (LNK_EYE_CTL_PHASE i, .rw, false)]⟩,
  ⟨"LNK_EYE_RESULT", 0x500044, 48, 0x1000, 1, 0x1000, 32, fun i _ => [(LNK_EYE_RESULT_DONE i, .ro, false), (LNK_EYE_RESULT_ERRORS i, .ro, false)]⟩,
  ⟨"ITK_BND_CTL", 0x800000, 8, 0x100, 1, 0x100, 32, fun i _ => [(ITK_BND_CTL_RESTART i, .wo, true)]⟩,
  ⟨"ITK_BND_STATUS", 0x800004, 8, 0x100, 1, 0x100, 32, fun i _ => [(ITK_BND_STATUS_SUBST_COUNT i, .ro, false), (ITK_BND_STATUS_MAP_GEN i, .ro, false), (ITK_BND_STATUS_SPARES_LEFT i, .ro, false), (ITK_BND_STATUS_NAK_COUNT i, .ro, false), (ITK_BND_STATUS_FAIL_CAUSE i, .ro, false), (ITK_BND_STATUS_STATE i, .ro, false)]⟩,
  ⟨"ITK_BND_SEQ", 0x800008, 8, 0x100, 1, 0x100, 32, fun i _ => [(ITK_BND_SEQ_EXP_SEQ i, .ro, false)]⟩,
  ⟨"ITK_BND_RSEQ", 0x80000C, 8, 0x100, 1, 0x100, 32, fun i _ => [(ITK_BND_RSEQ_NEXT_RSEQ i, .ro, false)]⟩,
  ⟨"ITK_BND_ERR", 0x800010, 8, 0x100, 1, 0x100, 32, fun i _ => [(ITK_BND_ERR_HDR_ERR i, .rc, false), (ITK_BND_ERR_CRC_ERR i, .rc, false), (ITK_BND_ERR_SEQ_GAP i, .rc, false), (ITK_BND_ERR_NAKS_RX i, .rc, false)]⟩,
  ⟨"ITK_BND_ERR2", 0x800014, 8, 0x100, 1, 0x100, 32, fun i _ => [(ITK_BND_ERR2_NAKS_TX i, .rc, false), (ITK_BND_ERR2_UNBOUND i, .rc, false), (ITK_BND_ERR2_RESERVED_TYPE i, .rc, false)]⟩,
  ⟨"ITK_BND_SKEW", 0x800018, 8, 0x100, 1, 0x100, 32, fun i _ => [(ITK_BND_SKEW_SKEW i, .ro, false)]⟩,
  ⟨"ITK_VS_STATUS", 0x810000, 16, 0x1000, 1, 0x1000, 32, fun i _ => [(ITK_VS_STATUS_LOST_CAUSE i, .ro, false), (ITK_VS_STATUS_LINK_CAUSE i, .ro, false), (ITK_VS_STATUS_ALARM i, .ro, false), (ITK_VS_STATUS_STALLED i, .ro, false), (ITK_VS_STATUS_FRAME_OPEN i, .ro, false), (ITK_VS_STATUS_BOUND i, .ro, false), (ITK_VS_STATUS_BND_STATE i, .ro, false)]⟩]
/-- Rows of the register index. -/
def regC1 : List RegD := [
  ⟨"ITK_VS_LAST_FN", 0x810004, 16, 0x1000, 1, 0x1000, 32, fun i _ => [(ITK_VS_LAST_FN i, .ro, false)]⟩,
  ⟨"ITK_VS_LAST_TAG", 0x810008, 16, 0x1000, 1, 0x1000, 32, fun i _ => [(ITK_VS_LAST_TAG_TAG i, .ro, false)]⟩,
  ⟨"ITK_VS_FRAMES", 0x81000C, 16, 0x1000, 1, 0x1000, 32, fun i _ => [(ITK_VS_FRAMES i, .ro, false)]⟩,
  ⟨"ITK_VS_ERR", 0x810010, 16, 0x1000, 1, 0x1000, 32, fun i _ => [(ITK_VS_ERR_LOST i, .rc, false), (ITK_VS_ERR_GAPS i, .rc, false), (ITK_VS_ERR_ORPHAN i, .rc, false), (ITK_VS_ERR_LATE i, .rc, false)]⟩,
  ⟨"ITK_VS_LOST_FN", 0x810014, 16, 0x1000, 1, 0x1000, 32, fun i _ => [(ITK_VS_LOST_FN i, .ro, false)]⟩,
  ⟨"ITK_VS_LATE_FN", 0x810018, 16, 0x1000, 1, 0x1000, 32, fun i _ => [(ITK_VS_LATE_FN i, .ro, false)]⟩,
  ⟨"ITK_VS_LATE_TAG", 0x81001C, 16, 0x1000, 1, 0x1000, 32, fun i _ => [(ITK_VS_LATE_TAG_LOST i, .ro, false), (ITK_VS_LATE_TAG_EARLY i, .ro, false), (ITK_VS_LATE_TAG_TAG i, .ro, false)]⟩,
  ⟨"ITK_VS_SET_FN", 0x810020, 16, 0x1000, 1, 0x1000, 32, fun i _ => [(ITK_VS_SET_FN i, .rw, false)]⟩,
  ⟨"ITK_VS_SET_TAG", 0x810024, 16, 0x1000, 1, 0x1000, 32, fun i _ => [(ITK_VS_SET_TAG_TAG i, .rw, false)]⟩,
  ⟨"ITK_VS_SET_CTL", 0x810028, 16, 0x1000, 1, 0x1000, 32, fun i _ => [(ITK_VS_SET_CTL_PENDING i, .ro, false), (ITK_VS_SET_CTL_QUEUED i, .ro, false), (ITK_VS_SET_CTL_GO i, .wo, true), (ITK_VS_SET_CTL_LEN i, .rw, false)]⟩,
  ⟨"ITK_VS_ST", 0x810030, 16, 0x1000, 1, 0x1000, 64, fun i _ => [(ITK_VS_ST i, .ro, false)]⟩,
  ⟨"ITK_VS_SET_DATA", 0x810800, 16, 0x1000, 256, 0x4, 32, fun i j => [(ITK_VS_SET_DATA i j, .rw, false)]⟩,
  ⟨"PIX_CE_STATUS", 0xA00000, 2, 0x100, 1, 0x100, 32, fun i _ => [(PIX_CE_STATUS_FM_QUEUE i, .ro, false), (PIX_CE_STATUS_CUR_STRIPE i, .ro, false), (PIX_CE_STATUS_CUR_CTX i, .ro, false), (PIX_CE_STATUS_GATED i, .ro, false), (PIX_CE_STATUS_RETIRED i, .ro, false), (PIX_CE_STATUS_BUSY i, .ro, false)]⟩,
  ⟨"PIX_CE_HORIZON", 0xA00008, 2, 0x100, 1, 0x100, 32, fun i _ => [(PIX_CE_HORIZON_HORIZON i, .ro, false)]⟩,
  ⟨"PIX_CE_BACKLOG", 0xA0000C, 2, 0x100, 1, 0x100, 32, fun i _ => [(PIX_CE_BACKLOG i, .ro, false)]⟩,
  ⟨"PIX_CE_BUSY", 0xA00010, 2, 0x100, 1, 0x100, 64, fun i _ => [(PIX_CE_BUSY_CYCLES i, .ro, false)]⟩,
  ⟨"PIX_CE_SWITCHES", 0xA00018, 2, 0x100, 1, 0x100, 32, fun i _ => [(PIX_CE_SWITCHES_COUNT i, .ro, false)]⟩,
  ⟨"PIX_CTX_CFG", 0xA10000, 16, 0x1000, 1, 0x1000, 32, fun i _ => [(PIX_CTX_CFG_SPLIT16 i, .ro, false), (PIX_CTX_CFG_BAND8 i, .ro, false), (PIX_CTX_CFG_ENGINE i, .ro, false), (PIX_CTX_CFG_INTERPRET i, .ro, false), (PIX_CTX_CFG_PAIRED i, .ro, false), (PIX_CTX_CFG_FRAME_MODE i, .ro, false), (PIX_CTX_CFG_RECORDED i, .ro, false)]⟩,
  ⟨"PIX_CTX_SCHED", 0xA10004, 16, 0x1000, 1, 0x1000, 32, fun i _ => [(PIX_CTX_SCHED_WEIGHT i, .sh, false), (PIX_CTX_SCHED_PRIORITY i, .sh, false)]⟩,
  ⟨"PIX_CTX_ENABLE", 0xA10008, 16, 0x1000, 1, 0x1000, 32, fun i _ => [(PIX_CTX_ENABLE_EN i, .sh, false)]⟩]
/-- Rows of the register index. -/
def regC2 : List RegD := [
  ⟨"PIX_CTX_STATUS", 0xA1000C, 16, 0x1000, 1, 0x1000, 32, fun i _ => [(PIX_CTX_STATUS_SHED_CAUSE i, .ro, false), (PIX_CTX_STATUS_VERSION i, .ro, false), (PIX_CTX_STATUS_QUEUED i, .ro, false), (PIX_CTX_STATUS_RUNNING i, .ro, false), (PIX_CTX_STATUS_ADMITTED i, .ro, false)]⟩,
  ⟨"PIX_CTX_DONE_FN", 0xA10010, 16, 0x1000, 1, 0x1000, 32, fun i _ => [(PIX_CTX_DONE_FN i, .ro, false)]⟩,
  ⟨"PIX_CTX_SHED", 0xA10014, 16, 0x1000, 1, 0x1000, 32, fun i _ => [(PIX_CTX_SHED_SHED i, .rc, false), (PIX_CTX_SHED_ABANDONED i, .rc, false), (PIX_CTX_SHED_SKIPPED i, .rc, false)]⟩,
  ⟨"PIX_CTX_SHED_FN", 0xA10018, 16, 0x1000, 1, 0x1000, 32, fun i _ => [(PIX_CTX_SHED_FN i, .ro, false)]⟩,
  ⟨"PIX_CTX_STORE", 0xA1001C, 16, 0x1000, 1, 0x1000, 32, fun i _ => [(PIX_CTX_STORE_FILL i, .ro, false), (PIX_CTX_STORE_PEAK i, .ro, false)]⟩,
  ⟨"QIF_CTL", 0x1500000, 1, 0x10000000, 1, 0x10000000, 32, fun _ _ => [(QIF_CTL_ADMIN_RESET, .wo, true), (QIF_CTL_EN, .rw, true)]⟩,
  ⟨"QIF_STATUS", 0x1500004, 1, 0x10000000, 1, 0x10000000, 32, fun _ _ => [(QIF_STATUS_ADMIN_ERR, .ro, false), (QIF_STATUS_FETCH_STOPPED, .ro, false), (QIF_STATUS_FATAL, .ro, false), (QIF_STATUS_RDY, .ro, false)]⟩,
  ⟨"QIF_ADMIN_DEPTH", 0x1500008, 1, 0x10000000, 1, 0x10000000, 32, fun _ _ => [(QIF_ADMIN_DEPTH_DEPTH_M1, .rw, false)]⟩,
  ⟨"QIF_ADMIN_SQ_BASE", 0x1500010, 1, 0x10000000, 1, 0x10000000, 64, fun _ _ => [(QIF_ADMIN_SQ_BASE_ADDR, .rw, false)]⟩,
  ⟨"QIF_ADMIN_CQ_BASE", 0x1500018, 1, 0x10000000, 1, 0x10000000, 64, fun _ _ => [(QIF_ADMIN_CQ_BASE_ADDR, .rw, false)]⟩,
  ⟨"QIF_ARB", 0x1500020, 1, 0x10000000, 1, 0x10000000, 32, fun _ _ => [(QIF_ARB_W_HIGH, .rw, false), (QIF_ARB_W_MEDIUM, .rw, false), (QIF_ARB_W_LOW, .rw, false)]⟩,
  ⟨"QIF_DB_ERR", 0x1500024, 1, 0x10000000, 1, 0x10000000, 32, fun _ _ => [(QIF_DB_ERR_QID, .ro, false), (QIF_DB_ERR_KIND, .ro, false), (QIF_DB_ERR_VALID, .w1c, false)]⟩,
  ⟨"QIF_COUNT", 0x1500028, 1, 0x10000000, 1, 0x10000000, 32, fun _ _ => [(QIF_COUNT_DB_ERR, .rc, false), (QIF_COUNT_HOST_ERR, .rc, false)]⟩,
  ⟨"QIF_Q_STATUS", 0x1501000, 64, 0x10, 1, 0x10, 32, fun i _ => [(QIF_Q_STATUS_INFLIGHT i, .ro, false), (QIF_Q_STATUS_VECTOR i, .ro, false), (QIF_Q_STATUS_CLASS i, .ro, false), (QIF_Q_STATUS_STATE i, .ro, false)]⟩,
  ⟨"QIF_Q_INDEX", 0x1501004, 64, 0x10, 1, 0x10, 32, fun i _ => [(QIF_Q_INDEX_SQ_HEAD i, .ro, false), (QIF_Q_INDEX_CQ_TAIL i, .ro, false), (QIF_Q_INDEX_PHASE i, .ro, false)]⟩,
  ⟨"QIF_SQ_TAIL", 0x1510000, 64, 0x8, 1, 0x8, 32, fun i _ => [(QIF_SQ_TAIL_INDEX i, .wo, true)]⟩,
  ⟨"QIF_CQ_HEAD", 0x1510004, 64, 0x8, 1, 0x8, 32, fun i _ => [(QIF_CQ_HEAD_INDEX i, .wo, true)]⟩,
  ⟨"QIF_MSIX", 0x1520000, 64, 0x10, 1, 0x10, 128, fun i _ => [(QIF_MSIX_ADDR i, .rw, false), (QIF_MSIX_DATA i, .rw, false), (QIF_MSIX_MASK i, .rw, true)]⟩,
  ⟨"QIF_PBA", 0x1521000, 1, 0x10000000, 1, 0x10000000, 64, fun _ _ => [(QIF_PBA, .ro, false)]⟩]
/-- The registers of this file. -/
def tabRegsC : List RegD := regC0 ++ regC1 ++ regC2

end Sys2Proof.Machine
end

