-- ==== Sys2Proof/Machine/RegsD.lean ====
section
/-!
DEFINITION. Registers: Colour, outlets, feeds, composers, viewfinder links. One descriptor per field, as the tables of the spec lay them out
(R440, R443), and the list from which BAR0 accesses find them.
-/
namespace Sys2Proof.Machine

/-- PIX_TBL_CTL.GO (Table 06-14), WO, acted on by a command of its own. -/
def PIX_TBL_CTL_GO : Fld := ⟨0xA00800, 31, 1, 0⟩
/-- PIX_TBL_CTL.TYPE (Table 06-14), RW. -/
def PIX_TBL_CTL_TYPE : Fld := ⟨0xA00800, 24, 2, 0⟩
/-- PIX_TBL_CTL.INDEX (Table 06-14), RW. -/
def PIX_TBL_CTL_INDEX : Fld := ⟨0xA00800, 16, 4, 0⟩
/-- PIX_TBL_CTL.BUSY (Table 06-14), RO. -/
def PIX_TBL_CTL_BUSY : Fld := ⟨0xA00800, 8, 1, 0⟩
/-- PIX_TBL_CTL.ERR (Table 06-14), RO. -/
def PIX_TBL_CTL_ERR : Fld := ⟨0xA00800, 0, 8, 0⟩
/-- PIX_TBL_SRC.ADDR (R167), RW. -/
def PIX_TBL_SRC_ADDR : Fld := ⟨0xA00808, 0, 64, 0⟩
/-- PIX_TBL_LEN.LEN (R167), RW. -/
def PIX_TBL_LEN_LEN : Fld := ⟨0xA00810, 0, 23, 0⟩
/-- PIX_TBL_CRC.CRC (R167), RW. -/
def PIX_TBL_CRC_CRC : Fld := ⟨0xA00814, 0, 32, 0⟩
/-- PIX_TBL_STATE (R166), RO. -/
def PIX_TBL_STATE (i : Nat) : Fld := ⟨0xA00820 + 0x4 * i, 0, 32, (if i = 0 then 0xAAAA0000 else if i = 1 then 0xAAAAAAAA else 0x00AAAAAA)⟩
/-- PIX_CTX_TBL.HL_EN (Table 06-11), SH. -/
def PIX_CTX_TBL_HL_EN (i : Nat) : Fld := ⟨0xA10100 + 0x1000 * i, 27, 1, 0⟩
/-- PIX_CTX_TBL.DYN_EN (Table 06-11), SH. -/
def PIX_CTX_TBL_DYN_EN (i : Nat) : Fld := ⟨0xA10100 + 0x1000 * i, 26, 1, 0⟩
/-- PIX_CTX_TBL.SHADE_EN (Table 06-11), SH. -/
def PIX_CTX_TBL_SHADE_EN (i : Nat) : Fld := ⟨0xA10100 + 0x1000 * i, 25, 1, 0⟩
/-- PIX_CTX_TBL.DM_EN (Table 06-11), SH. -/
def PIX_CTX_TBL_DM_EN (i : Nat) : Fld := ⟨0xA10100 + 0x1000 * i, 24, 1, 0⟩
/-- PIX_CTX_TBL.SG (Table 06-11), SH. -/
def PIX_CTX_TBL_SG (i : Nat) : Fld := ⟨0xA10100 + 0x1000 * i, 16, 4, 0⟩
/-- PIX_CTX_TBL.DM (Table 06-11), SH. -/
def PIX_CTX_TBL_DM (i : Nat) : Fld := ⟨0xA10100 + 0x1000 * i, 8, 3, 0⟩
/-- PIX_CTX_TBL.KB (Table 06-11), SH. -/
def PIX_CTX_TBL_KB (i : Nat) : Fld := ⟨0xA10100 + 0x1000 * i, 0, 3, 0⟩
/-- PIX_CTX_DYN.HI (R155), SH. -/
def PIX_CTX_DYN_HI (i : Nat) : Fld := ⟨0xA10104 + 0x1000 * i, 0, 16, 0⟩
/-- PIX_CTX_DYN.LO (R155), SH. -/
def PIX_CTX_DYN_LO (i : Nat) : Fld := ⟨0xA10104 + 0x1000 * i, 16, 16, 0⟩
/-- PIX_CTX_ADAPT.THR (R158), SH. -/
def PIX_CTX_ADAPT_THR (i : Nat) : Fld := ⟨0xA10108 + 0x1000 * i, 0, 24, 0⟩
/-- PIX_CTX_HL_GAIN_0.R (R161), SH. -/
def PIX_CTX_HL_GAIN_0_R (i : Nat) : Fld := ⟨0xA1010C + 0x1000 * i, 0, 16, 0x1000⟩
/-- PIX_CTX_HL_GAIN_0.G (R161), SH. -/
def PIX_CTX_HL_GAIN_0_G (i : Nat) : Fld := ⟨0xA1010C + 0x1000 * i, 16, 16, 0x1000⟩
/-- PIX_CTX_HL_GAIN_1.B (R161), SH. -/
def PIX_CTX_HL_GAIN_1_B (i : Nat) : Fld := ⟨0xA10110 + 0x1000 * i, 0, 16, 0x1000⟩
/-- PIX_CTX_STATS_CTL.STATS_ERR (Table 06-12), W1C. -/
def PIX_CTX_STATS_CTL_STATS_ERR (i : Nat) : Fld := ⟨0xA10118 + 0x1000 * i, 16, 1, 0⟩
/-- PIX_CTX_STATS_CTL.SLOTS_M1 (Table 06-12), SH. -/
def PIX_CTX_STATS_CTL_SLOTS_M1 (i : Nat) : Fld := ⟨0xA10118 + 0x1000 * i, 8, 6, 2⟩
/-- PIX_CTX_STATS_CTL.EN (Table 06-12), SH. -/
def PIX_CTX_STATS_CTL_EN (i : Nat) : Fld := ⟨0xA10118 + 0x1000 * i, 0, 1, 0⟩
/-- PIX_CTX_STATS_BASE.ADDR (R171), SH. -/
def PIX_CTX_STATS_BASE_ADDR (i : Nat) : Fld := ⟨0xA10120 + 0x1000 * i, 0, 64, 0⟩
/-- PIX_CTX_HIST.SRC0 (Table 06-13), SH. -/
def PIX_CTX_HIST_SRC0 (i : Nat) : Fld := ⟨0xA10128 + 0x1000 * i, 0, 3, 1⟩
/-- PIX_CTX_HIST.LOG0 (Table 06-13), SH. -/
def PIX_CTX_HIST_LOG0 (i : Nat) : Fld := ⟨0xA10128 + 0x1000 * i, 3, 1, 0⟩
/-- PIX_CTX_HIST.SHIFT0 (Table 06-13), SH. -/
def PIX_CTX_HIST_SHIFT0 (i : Nat) : Fld := ⟨0xA10128 + 0x1000 * i, 4, 4, 0⟩
/-- PIX_CTX_HIST.SRC1 (Table 06-13), SH. -/
def PIX_CTX_HIST_SRC1 (i : Nat) : Fld := ⟨0xA10128 + 0x1000 * i, 8, 3, 2⟩
/-- PIX_CTX_HIST.LOG1 (Table 06-13), SH. -/
def PIX_CTX_HIST_LOG1 (i : Nat) : Fld := ⟨0xA10128 + 0x1000 * i, 11, 1, 0⟩
/-- PIX_CTX_HIST.SHIFT1 (Table 06-13), SH. -/
def PIX_CTX_HIST_SHIFT1 (i : Nat) : Fld := ⟨0xA10128 + 0x1000 * i, 12, 4, 0⟩
/-- PIX_CTX_HIST.SRC2 (Table 06-13), SH. -/
def PIX_CTX_HIST_SRC2 (i : Nat) : Fld := ⟨0xA10128 + 0x1000 * i, 16, 3, 5⟩
/-- PIX_CTX_HIST.LOG2 (Table 06-13), SH. -/
def PIX_CTX_HIST_LOG2 (i : Nat) : Fld := ⟨0xA10128 + 0x1000 * i, 19, 1, 0⟩
/-- PIX_CTX_HIST.SHIFT2 (Table 06-13), SH. -/
def PIX_CTX_HIST_SHIFT2 (i : Nat) : Fld := ⟨0xA10128 + 0x1000 * i, 20, 4, 0⟩
/-- PIX_CTX_HIST.SRC3 (Table 06-13), SH. -/
def PIX_CTX_HIST_SRC3 (i : Nat) : Fld := ⟨0xA10128 + 0x1000 * i, 24, 3, 0⟩
/-- PIX_CTX_HIST.LOG3 (Table 06-13), SH. -/
def PIX_CTX_HIST_LOG3 (i : Nat) : Fld := ⟨0xA10128 + 0x1000 * i, 27, 1, 0⟩
/-- PIX_CTX_HIST.SHIFT3 (Table 06-13), SH. -/
def PIX_CTX_HIST_SHIFT3 (i : Nat) : Fld := ⟨0xA10128 + 0x1000 * i, 28, 4, 0⟩
/-- PIX_CTX_STATS_SEQ.SEQ (R171), RO. -/
def PIX_CTX_STATS_SEQ_SEQ (i : Nat) : Fld := ⟨0xA1012C + 0x1000 * i, 0, 32, 0⟩
/-- PIX_CTX_AF0.LOW (R170), SH. -/
def PIX_CTX_AF0_LOW (i j : Nat) : Fld := ⟨0xA10130 + 0x1000 * i + 0x4 * j, 0, 16, 0⟩
/-- PIX_CTX_AF0.HIGH (R170), SH. -/
def PIX_CTX_AF0_HIGH (i j : Nat) : Fld := ⟨0xA10130 + 0x1000 * i + 0x4 * j, 16, 16, 0⟩
/-- PIX_CTX_AF0_LAST.LOW (R170), SH. -/
def PIX_CTX_AF0_LAST_LOW (i : Nat) : Fld := ⟨0xA1013C + 0x1000 * i, 0, 16, 0⟩
/-- PIX_CTX_AF1.LOW (R170), SH. -/
def PIX_CTX_AF1_LOW (i j : Nat) : Fld := ⟨0xA10140 + 0x1000 * i + 0x4 * j, 0, 16, 0⟩
/-- PIX_CTX_AF1.HIGH (R170), SH. -/
def PIX_CTX_AF1_HIGH (i j : Nat) : Fld := ⟨0xA10140 + 0x1000 * i + 0x4 * j, 16, 16, 0⟩
/-- PIX_CTX_AF1_LAST.LOW (R170), SH. -/
def PIX_CTX_AF1_LAST_LOW (i : Nat) : Fld := ⟨0xA1014C + 0x1000 * i, 0, 16, 0⟩
/-- PIX_CTX_MTX.COEF (R163), SH. -/
def PIX_CTX_MTX_COEF (i j : Nat) : Fld := ⟨0xA10150 + 0x1000 * i + 0x4 * j, 0, 19, (if j = 0 ∨ j = 5 ∨ j = 10 then 0x10000 else 0)⟩
/-- PIX_CTX_IRK0.LOW (R162), SH. -/
def PIX_CTX_IRK0_LOW (i j : Nat) : Fld := ⟨0xA10180 + 0x1000 * i + 0x4 * j, 0, 16, 0⟩
/-- PIX_CTX_IRK0.HIGH (R162), SH. -/
def PIX_CTX_IRK0_HIGH (i j : Nat) : Fld := ⟨0xA10180 + 0x1000 * i + 0x4 * j, 16, 16, 0⟩
/-- PIX_CTX_IRK0_LAST.LOW (R162), SH. -/
def PIX_CTX_IRK0_LAST_LOW (i : Nat) : Fld := ⟨0xA10190 + 0x1000 * i, 0, 16, 0⟩
/-- PIX_CTX_IRK1.LOW (R162), SH. -/
def PIX_CTX_IRK1_LOW (i j : Nat) : Fld := ⟨0xA101A0 + 0x1000 * i + 0x4 * j, 0, 16, 0⟩
/-- PIX_CTX_IRK1.HIGH (R162), SH. -/
def PIX_CTX_IRK1_HIGH (i j : Nat) : Fld := ⟨0xA101A0 + 0x1000 * i + 0x4 * j, 16, 16, 0⟩
/-- PIX_CTX_IRK1_LAST.LOW (R162), SH. -/
def PIX_CTX_IRK1_LAST_LOW (i : Nat) : Fld := ⟨0xA101B0 + 0x1000 * i, 0, 16, 0⟩
/-- PIX_CTX_IRK2.LOW (R162), SH. -/
def PIX_CTX_IRK2_LOW (i j : Nat) : Fld := ⟨0xA101C0 + 0x1000 * i + 0x4 * j, 0, 16, 0⟩
/-- PIX_CTX_IRK2.HIGH (R162), SH. -/
def PIX_CTX_IRK2_HIGH (i j : Nat) : Fld := ⟨0xA101C0 + 0x1000 * i + 0x4 * j, 16, 16, 0⟩
/-- PIX_CTX_IRK2_LAST.LOW (R162), SH. -/
def PIX_CTX_IRK2_LAST_LOW (i : Nat) : Fld := ⟨0xA101D0 + 0x1000 * i, 0, 16, 0⟩
/-- PIX_CTX_BLACK.BLACK (R153), SH. -/
def PIX_CTX_BLACK_BLACK (i j : Nat) : Fld := ⟨0xA10200 + 0x1000 * i + 0x4 * j, 0, 24, 0⟩
/-- PIX_CTX_CLIP.CLIP (R160), SH. -/
def PIX_CTX_CLIP_CLIP (i j : Nat) : Fld := ⟨0xA10300 + 0x1000 * i + 0x4 * j, 0, 18, 0x3FFFF⟩
/-- PIX_OL_CLR.LB (R165), SH. -/
def PIX_OL_CLR_LB (i : Nat) : Fld := ⟨0xA20000 + 0x100 * i, 0, 4, 0⟩
/-- PIX_OL_CLR.LUT_EN (R165), SH. -/
def PIX_OL_CLR_LUT_EN (i : Nat) : Fld := ⟨0xA20000 + 0x100 * i, 8, 1, 1⟩
/-- PIX_OL_MTX.COEF (R163), SH. -/
def PIX_OL_MTX_COEF (i j : Nat) : Fld := ⟨0xA20010 + 0x100 * i + 0x4 * j, 0, 19, (if j = 0 ∨ j = 5 ∨ j = 10 then 0x10000 else 0)⟩
/-- OUT_CTL.VSHIFT (Table 07-11), SH. -/
def OUT_CTL_VSHIFT (i : Nat) : Fld := ⟨0xC00000 + 0x100 * i, 8, 4, 0⟩
/-- OUT_CTL.SCALER (Table 07-11), SH. -/
def OUT_CTL_SCALER (i : Nat) : Fld := ⟨0xC00000 + 0x100 * i, 4, 3, 0⟩
/-- OUT_CTL.EN (Table 07-11), SH. -/
def OUT_CTL_EN (i : Nat) : Fld := ⟨0xC00000 + 0x100 * i, 0, 1, 1⟩
/-- OUT_STATUS.HELD (Table 07-12), RO. -/
def OUT_STATUS_HELD (i : Nat) : Fld := ⟨0xC00004 + 0x100 * i, 16, 4, 0⟩
/-- OUT_STATUS.WRITING (Table 07-12), RO. -/
def OUT_STATUS_WRITING (i : Nat) : Fld := ⟨0xC00004 + 0x100 * i, 8, 4, 0⟩
/-- OUT_STATUS.BUSY (Table 07-12), RO. -/
def OUT_STATUS_BUSY (i : Nat) : Fld := ⟨0xC00004 + 0x100 * i, 1, 1, 0⟩
/-- OUT_STATUS.PUBLISHED (Table 07-12), RO. -/
def OUT_STATUS_PUBLISHED (i : Nat) : Fld := ⟨0xC00004 + 0x100 * i, 0, 1, 0⟩
/-- OUT_PUB.FN (R177), RO. -/
def OUT_PUB_FN (i : Nat) : Fld := ⟨0xC00008 + 0x100 * i, 0, 28, 0⟩
/-- OUT_PUB.IDX (R177), RO. -/
def OUT_PUB_IDX (i : Nat) : Fld := ⟨0xC00008 + 0x100 * i, 28, 4, 0⟩
/-- OUT_DROPS.DROPS (R177), RC. -/
def OUT_DROPS_DROPS (i : Nat) : Fld := ⟨0xC0000C + 0x100 * i, 0, 32, 0⟩
/-- OUT_YCC.COEF (R175), SH. -/
def OUT_YCC_COEF (i j : Nat) : Fld := ⟨0xC00010 + 0x100 * i + 0x4 * j, 0, 25, (if j = 0 ∨ j = 4 ∨ j = 8 then 0x400000 else 0)⟩
/-- OUT_YCC_OFF.OFF (R175), SH. -/
def OUT_YCC_OFF_OFF (i j : Nat) : Fld := ⟨0xC00034 + 0x100 * i + 0x4 * j, 0, 16, 0⟩
/-- CMP_CTL.EN (R198), SH. -/
def CMP_CTL_EN (i : Nat) : Fld := ⟨0xD00000 + 0x1000 * i, 0, 1, 0⟩
/-- CMP_BG.C0 (R194), SH. -/
def CMP_BG_C0 (i : Nat) : Fld := ⟨0xD00008 + 0x1000 * i, 0, 12, 0⟩
/-- CMP_BG.C1 (R194), SH. -/
def CMP_BG_C1 (i : Nat) : Fld := ⟨0xD00008 + 0x1000 * i, 16, 12, 0⟩
/-- CMP_BG.C2 (R194), SH. -/
def CMP_BG_C2 (i : Nat) : Fld := ⟨0xD00008 + 0x1000 * i, 32, 12, 0⟩
/-- CMP_STATUS.COMPOSING (Table 08-5), RO. -/
def CMP_STATUS_COMPOSING (i : Nat) : Fld := ⟨0xD00010 + 0x1000 * i, 0, 1, 0⟩
/-- CMP_STATUS.OUT_BUF (Table 08-5), RO. -/
def CMP_STATUS_OUT_BUF (i : Nat) : Fld := ⟨0xD00010 + 0x1000 * i, 4, 2, 0⟩
/-- CMP_STATUS.HELD_V0 (Table 08-5), RO. -/
def CMP_STATUS_HELD_V0 (i : Nat) : Fld := ⟨0xD00010 + 0x1000 * i, 8, 2, 0⟩
/-- CMP_STATUS.HELD_V1 (Table 08-5), RO. -/
def CMP_STATUS_HELD_V1 (i : Nat) : Fld := ⟨0xD00010 + 0x1000 * i, 12, 2, 0⟩
/-- CMP_STATUS.HOLD_V0 (Table 08-5), RO. -/
def CMP_STATUS_HOLD_V0 (i : Nat) : Fld := ⟨0xD00010 + 0x1000 * i, 16, 1, 0⟩
/-- CMP_STATUS.HOLD_V1 (Table 08-5), RO. -/
def CMP_STATUS_HOLD_V1 (i : Nat) : Fld := ⟨0xD00010 + 0x1000 * i, 17, 1, 0⟩
/-- CMP_SEQ.SEQ (Table 08-5), RO. -/
def CMP_SEQ_SEQ (i : Nat) : Fld := ⟨0xD00014 + 0x1000 * i, 0, 32, 0⟩
/-- CMP_COUNT.LATE (Table 08-5), RC. -/
def CMP_COUNT_LATE (i : Nat) : Fld := ⟨0xD00018 + 0x1000 * i, 0, 16, 0⟩
/-- CMP_COUNT.BBOX (Table 08-5), RC. -/
def CMP_COUNT_BBOX (i : Nat) : Fld := ⟨0xD00018 + 0x1000 * i, 16, 16, 0⟩
/-- CMP_L_CTL.PREMULT (Table 08-6), SH. -/
def CMP_L_CTL_PREMULT (i j : Nat) : Fld := ⟨0xD00100 + 0x1000 * i + 0x40 * j, 16, 1, 0⟩
/-- CMP_L_CTL.ALPHA (Table 08-6), SH. -/
def CMP_L_CTL_ALPHA (i j : Nat) : Fld := ⟨0xD00100 + 0x1000 * i + 0x40 * j, 8, 8, 255⟩
/-- CMP_L_CTL.FMT (Table 08-6), SH. -/
def CMP_L_CTL_FMT (i j : Nat) : Fld := ⟨0xD00100 + 0x1000 * i + 0x40 * j, 4, 1, 0⟩
/-- CMP_L_CTL.EN (Table 08-6), SH. -/
def CMP_L_CTL_EN (i j : Nat) : Fld := ⟨0xD00100 + 0x1000 * i + 0x40 * j, 0, 1, 0⟩
/-- CMP_L_POS.X (R197), SH. -/
def CMP_L_POS_X (i j : Nat) : Fld := ⟨0xD00104 + 0x1000 * i + 0x40 * j, 0, 16, 0⟩
/-- CMP_L_POS.Y (R197), SH. -/
def CMP_L_POS_Y (i j : Nat) : Fld := ⟨0xD00104 + 0x1000 * i + 0x40 * j, 16, 16, 0⟩
/-- CMP_L_SIZE.W (R197), SH. -/
def CMP_L_SIZE_W (i j : Nat) : Fld := ⟨0xD00108 + 0x1000 * i + 0x40 * j, 0, 16, 64⟩
/-- CMP_L_SIZE.H (R197), SH. -/
def CMP_L_SIZE_H (i j : Nat) : Fld := ⟨0xD00108 + 0x1000 * i + 0x40 * j, 16, 16, 64⟩
/-- CMP_L_SRC.X (R197), SH. -/
def CMP_L_SRC_X (i j : Nat) : Fld := ⟨0xD0010C + 0x1000 * i + 0x40 * j, 0, 16, 0⟩
/-- CMP_L_SRC.Y (R197), SH. -/
def CMP_L_SRC_Y (i j : Nat) : Fld := ⟨0xD0010C + 0x1000 * i + 0x40 * j, 16, 16, 0⟩
/-- CMP_L_ADDR.ADDR (R197), SH. -/
def CMP_L_ADDR_ADDR (i j : Nat) : Fld := ⟨0xD00110 + 0x1000 * i + 0x40 * j, 0, 64, 0⟩
/-- CMP_L_PITCH.PITCH (R197), SH. -/
def CMP_L_PITCH_PITCH (i j : Nat) : Fld := ⟨0xD00118 + 0x1000 * i + 0x40 * j, 0, 32, 0⟩
/-- CMP_L_DAMAGE.X0 (R202), SH. -/
def CMP_L_DAMAGE_X0 (i j : Nat) : Fld := ⟨0xD00120 + 0x1000 * i + 0x40 * j, 0, 16, 0⟩
/-- CMP_L_DAMAGE.Y0 (R202), SH. -/
def CMP_L_DAMAGE_Y0 (i j : Nat) : Fld := ⟨0xD00120 + 0x1000 * i + 0x40 * j, 16, 16, 0⟩
/-- CMP_L_DAMAGE.X1 (R202), SH. -/
def CMP_L_DAMAGE_X1 (i j : Nat) : Fld := ⟨0xD00120 + 0x1000 * i + 0x40 * j, 32, 16, 0⟩
/-- CMP_L_DAMAGE.Y1 (R202), SH. -/
def CMP_L_DAMAGE_Y1 (i j : Nat) : Fld := ⟨0xD00120 + 0x1000 * i + 0x40 * j, 48, 15, 0⟩
/-- CMP_L_DAMAGE.VALID (R202), SH. -/
def CMP_L_DAMAGE_VALID (i j : Nat) : Fld := ⟨0xD00120 + 0x1000 * i + 0x40 * j, 63, 1, 0⟩
/-- VFD_CTL.FORCE_FULL (Table 08-8), W1S, acted on by a command of its own. -/
def VFD_CTL_FORCE_FULL (i : Nat) : Fld := ⟨0xE00000 + 0x1000 * i, 31, 1, 0⟩
/-- VFD_CTL.TE_TIMEOUT (Table 08-8), RW. -/
def VFD_CTL_TE_TIMEOUT (i : Nat) : Fld := ⟨0xE00000 + 0x1000 * i, 16, 8, 100⟩
/-- VFD_CTL.WAKE (Table 08-8), RW. -/
def VFD_CTL_WAKE (i : Nat) : Fld := ⟨0xE00000 + 0x1000 * i, 8, 8, 10⟩
/-- VFD_CTL.SR_FRAMES (Table 08-8), RW. -/
def VFD_CTL_SR_FRAMES (i : Nat) : Fld := ⟨0xE00000 + 0x1000 * i, 0, 8, 4⟩
/-- VFD_STATUS.DSC (Table 08-9), RO. -/
def VFD_STATUS_DSC (i : Nat) : Fld := ⟨0xE00004 + 0x1000 * i, 7, 1, 0⟩
/-- VFD_STATUS.READBACK_FAIL (Table 08-9), RO. -/
def VFD_STATUS_READBACK_FAIL (i : Nat) : Fld := ⟨0xE00004 + 0x1000 * i, 6, 1, 0⟩
/-- VFD_STATUS.TE_OK (Table 08-9), RO. -/
def VFD_STATUS_TE_OK (i : Nat) : Fld := ⟨0xE00004 + 0x1000 * i, 5, 1, 0⟩
/-- VFD_STATUS.PUSHING (Table 08-9), RO. -/
def VFD_STATUS_PUSHING (i : Nat) : Fld := ⟨0xE00004 + 0x1000 * i, 4, 1, 0⟩
/-- VFD_STATUS.LINK_STATE (Table 08-9), RO. -/
def VFD_STATUS_LINK_STATE (i : Nat) : Fld := ⟨0xE00004 + 0x1000 * i, 0, 3, 0⟩
/-- VFD_PUSHES.COUNT (R210), RO. -/
def VFD_PUSHES_COUNT (i : Nat) : Fld := ⟨0xE00008 + 0x1000 * i, 0, 32, 0⟩
/-- VFD_ERR.MISMATCH (R210), RC. -/
def VFD_ERR_MISMATCH (i : Nat) : Fld := ⟨0xE0000C + 0x1000 * i, 0, 8, 0⟩
/-- VFD_ERR.TE_LOST (R210), RC. -/
def VFD_ERR_TE_LOST (i : Nat) : Fld := ⟨0xE0000C + 0x1000 * i, 8, 8, 0⟩
/-- VFD_ERR.SR_ENTRIES (R210), RC. -/
def VFD_ERR_SR_ENTRIES (i : Nat) : Fld := ⟨0xE0000C + 0x1000 * i, 16, 8, 0⟩
/-- VFD_ERR.CMD_ERR (R210), RC. -/
def VFD_ERR_CMD_ERR (i : Nat) : Fld := ⟨0xE0000C + 0x1000 * i, 24, 8, 0⟩
/-- VFD_CRC.SENT (R210), RO. -/
def VFD_CRC_SENT (i : Nat) : Fld := ⟨0xE00010 + 0x1000 * i, 0, 16, 0⟩
/-- VFD_CRC.READ (R210), RO. -/
def VFD_CRC_READ (i : Nat) : Fld := ⟨0xE00010 + 0x1000 * i, 16, 16, 0⟩
/-- VFD_CMD_CTL.GO (Table 08-10), WO, acted on by a command of its own. -/
def VFD_CMD_CTL_GO (i : Nat) : Fld := ⟨0xE00020 + 0x1000 * i, 31, 1, 0⟩
/-- VFD_CMD_CTL.BUSY (Table 08-10), RO. -/
def VFD_CMD_CTL_BUSY (i : Nat) : Fld := ⟨0xE00020 + 0x1000 * i, 30, 1, 0⟩
/-- VFD_CMD_CTL.ERR (Table 08-10), RO. -/
def VFD_CMD_CTL_ERR (i : Nat) : Fld := ⟨0xE00020 + 0x1000 * i, 28, 2, 0⟩
/-- VFD_CMD_CTL.LP (Table 08-10), RW. -/
def VFD_CMD_CTL_LP (i : Nat) : Fld := ⟨0xE00020 + 0x1000 * i, 25, 1, 0⟩
/-- VFD_CMD_CTL.READ (Table 08-10), RW. -/
def VFD_CMD_CTL_READ (i : Nat) : Fld := ⟨0xE00020 + 0x1000 * i, 24, 1, 0⟩
/-- VFD_CMD_CTL.RSP_LEN (Table 08-10), RO. -/
def VFD_CMD_CTL_RSP_LEN (i : Nat) : Fld := ⟨0xE00020 + 0x1000 * i, 16, 4, 0⟩
/-- VFD_CMD_CTL.LEN (Table 08-10), RW. -/
def VFD_CMD_CTL_LEN (i : Nat) : Fld := ⟨0xE00020 + 0x1000 * i, 0, 9, 0⟩
/-- VFD_CMD_HDR.DT (R212), RW. -/
def VFD_CMD_HDR_DT (i : Nat) : Fld := ⟨0xE00024 + 0x1000 * i, 0, 6, 0⟩
/-- VFD_CMD_HDR.VC (R212), RW. -/
def VFD_CMD_HDR_VC (i : Nat) : Fld := ⟨0xE00024 + 0x1000 * i, 6, 2, 0⟩
/-- VFD_CMD_HDR.DATA0 (R212), RW. -/
def VFD_CMD_HDR_DATA0 (i : Nat) : Fld := ⟨0xE00024 + 0x1000 * i, 8, 8, 0⟩
/-- VFD_CMD_HDR.DATA1 (R212), RW. -/
def VFD_CMD_HDR_DATA1 (i : Nat) : Fld := ⟨0xE00024 + 0x1000 * i, 16, 8, 0⟩
/-- VFD_RSP.BYTES (R212), RO. -/
def VFD_RSP_BYTES (i : Nat) : Fld := ⟨0xE00028 + 0x1000 * i, 0, 64, 0⟩
/-- VFD_CMD_DATA (R212), RW. -/
def VFD_CMD_DATA (i j : Nat) : Fld := ⟨0xE00100 + 0x1000 * i + 0x4 * j, 0, 32, 0⟩
/-- FED_CTL.EN (Table 07-10), RW. -/
def FED_CTL_EN (i : Nat) : Fld := ⟨0xF00000 + 0x100 * i, 0, 1, 1⟩
/-- FED_STATUS.FAR_LOCK (Table 07-13), RO. -/
def FED_STATUS_FAR_LOCK (i : Nat) : Fld := ⟨0xF00004 + 0x100 * i, 8, 8, 0⟩
/-- FED_STATUS.RETIRED (Table 07-13), RO. -/
def FED_STATUS_RETIRED (i : Nat) : Fld := ⟨0xF00004 + 0x100 * i, 2, 1, 0⟩
/-- FED_STATUS.REPEATING (Table 07-13), RO. -/
def FED_STATUS_REPEATING (i : Nat) : Fld := ⟨0xF00004 + 0x100 * i, 1, 1, 0⟩
/-- FED_STATUS.UP (Table 07-13), RO. -/
def FED_STATUS_UP (i : Nat) : Fld := ⟨0xF00004 + 0x100 * i, 0, 1, 0⟩
/-- FED_FC.FC (R185), RO. -/
def FED_FC_FC (i : Nat) : Fld := ⟨0xF00008 + 0x100 * i, 0, 32, 0⟩
/-- FED_COUNT.REPEATS (R185), RC. -/
def FED_COUNT_REPEATS (i : Nat) : Fld := ⟨0xF0000C + 0x100 * i, 0, 16, 0⟩
/-- FED_COUNT.DROPS (R185), RC. -/
def FED_COUNT_DROPS (i : Nat) : Fld := ⟨0xF0000C + 0x100 * i, 16, 16, 0⟩
/-- FED_RXS (R185), RO. -/
def FED_RXS (i : Nat) : Fld := ⟨0xF00010 + 0x100 * i, 0, 32, 0⟩
/-- FED_SLUICE_STATUS.FILLS (R190), RC. -/
def FED_SLUICE_STATUS_FILLS : Fld := ⟨0xF00400, 0, 16, 0⟩
/-- FED_SLUICE_STATUS.BAD_LINES (R190), RC. -/
def FED_SLUICE_STATUS_BAD_LINES : Fld := ⟨0xF00400, 16, 16, 0⟩

/-- Rows of the register index. -/
def regD0 : List RegD := [
  ⟨"PIX_TBL_CTL", 0xA00800, 1, 0x10000000, 1, 0x10000000, 32, fun _ _ => [(PIX_TBL_CTL_GO, .wo, true), (PIX_TBL_CTL_TYPE, .rw, false), (PIX_TBL_CTL_INDEX, .rw, false), (PIX_TBL_CTL_BUSY, .ro, false), (PIX_TBL_CTL_ERR, .ro, false)]⟩,
  ⟨"PIX_TBL_SRC", 0xA00808, 1, 0x10000000, 1, 0x10000000, 64, fun _ _ => [(PIX_TBL_SRC_ADDR, .rw, false)]⟩,
  ⟨"PIX_TBL_LEN", 0xA00810, 1, 0x10000000, 1, 0x10000000, 32, fun _ _ => [(PIX_TBL_LEN_LEN, .rw, false)]⟩,
  ⟨"PIX_TBL_CRC", 0xA00814, 1, 0x10000000, 1, 0x10000000, 32, fun _ _ => [(PIX_TBL_CRC_CRC, .rw, false)]⟩,
  ⟨"PIX_TBL_STATE", 0xA00820, 3, 0x4, 1, 0x4, 32, fun i _ => [(PIX_TBL_STATE i, .ro, false)]⟩,
  ⟨"PIX_CTX_TBL", 0xA10100, 16, 0x1000, 1, 0x1000, 32, fun i _ => [(PIX_CTX_TBL_HL_EN i, .sh, false), (PIX_CTX_TBL_DYN_EN i, .sh, false), (PIX_CTX_TBL_SHADE_EN i, .sh, false), (PIX_CTX_TBL_DM_EN i, .sh, false), (PIX_CTX_TBL_SG i, .sh, false), (PIX_CTX_TBL_DM i, .sh, false), (PIX_CTX_TBL_KB i, .sh, false)]⟩,
  ⟨"PIX_CTX_DYN", 0xA10104, 16, 0x1000, 1, 0x1000, 32, fun i _ => [(PIX_CTX_DYN_HI i, .sh, false), (PIX_CTX_DYN_LO i, .sh, false)]⟩,
  ⟨"PIX_CTX_ADAPT", 0xA10108, 16, 0x1000, 1, 0x1000, 32, fun i _ => [(PIX_CTX_ADAPT_THR i, .sh, false)]⟩,
  ⟨"PIX_CTX_HL_GAIN_0", 0xA1010C, 16, 0x1000, 1, 0x1000, 32, fun i _ => [(PIX_CTX_HL_GAIN_0_R i, .sh, false), (PIX_CTX_HL_GAIN_0_G i, .sh, false)]⟩,
  ⟨"PIX_CTX_HL_GAIN_1", 0xA10110, 16, 0x1000, 1, 0x1000, 32, fun i _ => [(PIX_CTX_HL_GAIN_1_B i, .sh, false)]⟩,
  ⟨"PIX_CTX_STATS_CTL", 0xA10118, 16, 0x1000, 1, 0x1000, 32, fun i _ => [(PIX_CTX_STATS_CTL_STATS_ERR i, .w1c, false), (PIX_CTX_STATS_CTL_SLOTS_M1 i, .sh, false), (PIX_CTX_STATS_CTL_EN i, .sh, false)]⟩,
  ⟨"PIX_CTX_STATS_BASE", 0xA10120, 16, 0x1000, 1, 0x1000, 64, fun i _ => [(PIX_CTX_STATS_BASE_ADDR i, .sh, false)]⟩,
  ⟨"PIX_CTX_HIST", 0xA10128, 16, 0x1000, 1, 0x1000, 32, fun i _ => [(PIX_CTX_HIST_SRC0 i, .sh, false), (PIX_CTX_HIST_LOG0 i, .sh, false), (PIX_CTX_HIST_SHIFT0 i, .sh, false), (PIX_CTX_HIST_SRC1 i, .sh, false), (PIX_CTX_HIST_LOG1 i, .sh, false), (PIX_CTX_HIST_SHIFT1 i, .sh, false), (PIX_CTX_HIST_SRC2 i, .sh, false), (PIX_CTX_HIST_LOG2 i, .sh, false), (PIX_CTX_HIST_SHIFT2 i, .sh, false), (PIX_CTX_HIST_SRC3 i, .sh, false), (PIX_CTX_HIST_LOG3 i, .sh, false), (PIX_CTX_HIST_SHIFT3 i, .sh, false)]⟩,
  ⟨"PIX_CTX_STATS_SEQ", 0xA1012C, 16, 0x1000, 1, 0x1000, 32, fun i _ => [(PIX_CTX_STATS_SEQ_SEQ i, .ro, false)]⟩,
  ⟨"PIX_CTX_AF0", 0xA10130, 16, 0x1000, 3, 0x4, 32, fun i j => [(PIX_CTX_AF0_LOW i j, .sh, false), (PIX_CTX_AF0_HIGH i j, .sh, false)]⟩,
  ⟨"PIX_CTX_AF0_LAST", 0xA1013C, 16, 0x1000, 1, 0x1000, 32, fun i _ => [(PIX_CTX_AF0_LAST_LOW i, .sh, false)]⟩,
  ⟨"PIX_CTX_AF1", 0xA10140, 16, 0x1000, 3, 0x4, 32, fun i j => [(PIX_CTX_AF1_LOW i j, .sh, false), (PIX_CTX_AF1_HIGH i j, .sh, false)]⟩,
  ⟨"PIX_CTX_AF1_LAST", 0xA1014C, 16, 0x1000, 1, 0x1000, 32, fun i _ => [(PIX_CTX_AF1_LAST_LOW i, .sh, false)]⟩,
  ⟨"PIX_CTX_MTX", 0xA10150, 16, 0x1000, 12, 0x4, 32, fun i j => [(PIX_CTX_MTX_COEF i j, .sh, false)]⟩,
  ⟨"PIX_CTX_IRK0", 0xA10180, 16, 0x1000, 4, 0x4, 32, fun i j => [(PIX_CTX_IRK0_LOW i j, .sh, false), (PIX_CTX_IRK0_HIGH i j, .sh, false)]⟩]
/-- Rows of the register index. -/
def regD1 : List RegD := [
  ⟨"PIX_CTX_IRK0_LAST", 0xA10190, 16, 0x1000, 1, 0x1000, 32, fun i _ => [(PIX_CTX_IRK0_LAST_LOW i, .sh, false)]⟩,
  ⟨"PIX_CTX_IRK1", 0xA101A0, 16, 0x1000, 4, 0x4, 32, fun i j => [(PIX_CTX_IRK1_LOW i j, .sh, false), (PIX_CTX_IRK1_HIGH i j, .sh, false)]⟩,
  ⟨"PIX_CTX_IRK1_LAST", 0xA101B0, 16, 0x1000, 1, 0x1000, 32, fun i _ => [(PIX_CTX_IRK1_LAST_LOW i, .sh, false)]⟩,
  ⟨"PIX_CTX_IRK2", 0xA101C0, 16, 0x1000, 4, 0x4, 32, fun i j => [(PIX_CTX_IRK2_LOW i j, .sh, false), (PIX_CTX_IRK2_HIGH i j, .sh, false)]⟩,
  ⟨"PIX_CTX_IRK2_LAST", 0xA101D0, 16, 0x1000, 1, 0x1000, 32, fun i _ => [(PIX_CTX_IRK2_LAST_LOW i, .sh, false)]⟩,
  ⟨"PIX_CTX_BLACK", 0xA10200, 16, 0x1000, 64, 0x4, 32, fun i j => [(PIX_CTX_BLACK_BLACK i j, .sh, false)]⟩,
  ⟨"PIX_CTX_CLIP", 0xA10300, 16, 0x1000, 64, 0x4, 32, fun i j => [(PIX_CTX_CLIP_CLIP i j, .sh, false)]⟩,
  ⟨"PIX_OL_CLR", 0xA20000, 24, 0x100, 1, 0x100, 32, fun i _ => [(PIX_OL_CLR_LB i, .sh, false), (PIX_OL_CLR_LUT_EN i, .sh, false)]⟩,
  ⟨"PIX_OL_MTX", 0xA20010, 24, 0x100, 12, 0x4, 32, fun i j => [(PIX_OL_MTX_COEF i j, .sh, false)]⟩,
  ⟨"OUT_CTL", 0xC00000, 24, 0x100, 1, 0x100, 32, fun i _ => [(OUT_CTL_VSHIFT i, .sh, false), (OUT_CTL_SCALER i, .sh, false), (OUT_CTL_EN i, .sh, false)]⟩,
  ⟨"OUT_STATUS", 0xC00004, 24, 0x100, 1, 0x100, 32, fun i _ => [(OUT_STATUS_HELD i, .ro, false), (OUT_STATUS_WRITING i, .ro, false), (OUT_STATUS_BUSY i, .ro, false), (OUT_STATUS_PUBLISHED i, .ro, false)]⟩,
  ⟨"OUT_PUB", 0xC00008, 24, 0x100, 1, 0x100, 32, fun i _ => [(OUT_PUB_FN i, .ro, false), (OUT_PUB_IDX i, .ro, false)]⟩,
  ⟨"OUT_DROPS", 0xC0000C, 24, 0x100, 1, 0x100, 32, fun i _ => [(OUT_DROPS_DROPS i, .rc, false)]⟩,
  ⟨"OUT_YCC", 0xC00010, 24, 0x100, 9, 0x4, 32, fun i j => [(OUT_YCC_COEF i j, .sh, false)]⟩,
  ⟨"OUT_YCC_OFF", 0xC00034, 24, 0x100, 3, 0x4, 32, fun i j => [(OUT_YCC_OFF_OFF i j, .sh, false)]⟩,
  ⟨"CMP_CTL", 0xD00000, 4, 0x1000, 1, 0x1000, 32, fun i _ => [(CMP_CTL_EN i, .sh, false)]⟩,
  ⟨"CMP_BG", 0xD00008, 4, 0x1000, 1, 0x1000, 64, fun i _ => [(CMP_BG_C0 i, .sh, false), (CMP_BG_C1 i, .sh, false), (CMP_BG_C2 i, .sh, false)]⟩,
  ⟨"CMP_STATUS", 0xD00010, 4, 0x1000, 1, 0x1000, 32, fun i _ => [(CMP_STATUS_COMPOSING i, .ro, false), (CMP_STATUS_OUT_BUF i, .ro, false), (CMP_STATUS_HELD_V0 i, .ro, false), (CMP_STATUS_HELD_V1 i, .ro, false), (CMP_STATUS_HOLD_V0 i, .ro, false), (CMP_STATUS_HOLD_V1 i, .ro, false)]⟩,
  ⟨"CMP_SEQ", 0xD00014, 4, 0x1000, 1, 0x1000, 32, fun i _ => [(CMP_SEQ_SEQ i, .ro, false)]⟩,
  ⟨"CMP_COUNT", 0xD00018, 4, 0x1000, 1, 0x1000, 32, fun i _ => [(CMP_COUNT_LATE i, .rc, false), (CMP_COUNT_BBOX i, .rc, false)]⟩]
/-- Rows of the register index. -/
def regD2 : List RegD := [
  ⟨"CMP_L_CTL", 0xD00100, 4, 0x1000, 8, 0x40, 32, fun i j => [(CMP_L_CTL_PREMULT i j, .sh, false), (CMP_L_CTL_ALPHA i j, .sh, false), (CMP_L_CTL_FMT i j, .sh, false), (CMP_L_CTL_EN i j, .sh, false)]⟩,
  ⟨"CMP_L_POS", 0xD00104, 4, 0x1000, 8, 0x40, 32, fun i j => [(CMP_L_POS_X i j, .sh, false), (CMP_L_POS_Y i j, .sh, false)]⟩,
  ⟨"CMP_L_SIZE", 0xD00108, 4, 0x1000, 8, 0x40, 32, fun i j => [(CMP_L_SIZE_W i j, .sh, false), (CMP_L_SIZE_H i j, .sh, false)]⟩,
  ⟨"CMP_L_SRC", 0xD0010C, 4, 0x1000, 8, 0x40, 32, fun i j => [(CMP_L_SRC_X i j, .sh, false), (CMP_L_SRC_Y i j, .sh, false)]⟩,
  ⟨"CMP_L_ADDR", 0xD00110, 4, 0x1000, 8, 0x40, 64, fun i j => [(CMP_L_ADDR_ADDR i j, .sh, false)]⟩,
  ⟨"CMP_L_PITCH", 0xD00118, 4, 0x1000, 8, 0x40, 32, fun i j => [(CMP_L_PITCH_PITCH i j, .sh, false)]⟩,
  ⟨"CMP_L_DAMAGE", 0xD00120, 4, 0x1000, 8, 0x40, 64, fun i j => [(CMP_L_DAMAGE_X0 i j, .sh, false), (CMP_L_DAMAGE_Y0 i j, .sh, false), (CMP_L_DAMAGE_X1 i j, .sh, false), (CMP_L_DAMAGE_Y1 i j, .sh, false), (CMP_L_DAMAGE_VALID i j, .sh, false)]⟩,
  ⟨"VFD_CTL", 0xE00000, 2, 0x1000, 1, 0x1000, 32, fun i _ => [(VFD_CTL_FORCE_FULL i, .w1s, true), (VFD_CTL_TE_TIMEOUT i, .rw, false), (VFD_CTL_WAKE i, .rw, false), (VFD_CTL_SR_FRAMES i, .rw, false)]⟩,
  ⟨"VFD_STATUS", 0xE00004, 2, 0x1000, 1, 0x1000, 32, fun i _ => [(VFD_STATUS_DSC i, .ro, false), (VFD_STATUS_READBACK_FAIL i, .ro, false), (VFD_STATUS_TE_OK i, .ro, false), (VFD_STATUS_PUSHING i, .ro, false), (VFD_STATUS_LINK_STATE i, .ro, false)]⟩,
  ⟨"VFD_PUSHES", 0xE00008, 2, 0x1000, 1, 0x1000, 32, fun i _ => [(VFD_PUSHES_COUNT i, .ro, false)]⟩,
  ⟨"VFD_ERR", 0xE0000C, 2, 0x1000, 1, 0x1000, 32, fun i _ => [(VFD_ERR_MISMATCH i, .rc, false), (VFD_ERR_TE_LOST i, .rc, false), (VFD_ERR_SR_ENTRIES i, .rc, false), (VFD_ERR_CMD_ERR i, .rc, false)]⟩,
  ⟨"VFD_CRC", 0xE00010, 2, 0x1000, 1, 0x1000, 32, fun i _ => [(VFD_CRC_SENT i, .ro, false), (VFD_CRC_READ i, .ro, false)]⟩,
  ⟨"VFD_CMD_CTL", 0xE00020, 2, 0x1000, 1, 0x1000, 32, fun i _ => [(VFD_CMD_CTL_GO i, .wo, true), (VFD_CMD_CTL_BUSY i, .ro, false), (VFD_CMD_CTL_ERR i, .ro, false), (VFD_CMD_CTL_LP i, .rw, false), (VFD_CMD_CTL_READ i, .rw, false), (VFD_CMD_CTL_RSP_LEN i, .ro, false), (VFD_CMD_CTL_LEN i, .rw, false)]⟩,
  ⟨"VFD_CMD_HDR", 0xE00024, 2, 0x1000, 1, 0x1000, 32, fun i _ => [(VFD_CMD_HDR_DT i, .rw, false), (VFD_CMD_HDR_VC i, .rw, false), (VFD_CMD_HDR_DATA0 i, .rw, false), (VFD_CMD_HDR_DATA1 i, .rw, false)]⟩,
  ⟨"VFD_RSP", 0xE00028, 2, 0x1000, 1, 0x1000, 64, fun i _ => [(VFD_RSP_BYTES i, .ro, false)]⟩,
  ⟨"VFD_CMD_DATA", 0xE00100, 2, 0x1000, 64, 0x4, 32, fun i j => [(VFD_CMD_DATA i j, .rw, false)]⟩,
  ⟨"FED_CTL", 0xF00000, 3, 0x100, 1, 0x100, 32, fun i _ => [(FED_CTL_EN i, .rw, false)]⟩,
  ⟨"FED_STATUS", 0xF00004, 3, 0x100, 1, 0x100, 32, fun i _ => [(FED_STATUS_FAR_LOCK i, .ro, false), (FED_STATUS_RETIRED i, .ro, false), (FED_STATUS_REPEATING i, .ro, false), (FED_STATUS_UP i, .ro, false)]⟩,
  ⟨"FED_FC", 0xF00008, 3, 0x100, 1, 0x100, 32, fun i _ => [(FED_FC_FC i, .ro, false)]⟩,
  ⟨"FED_COUNT", 0xF0000C, 3, 0x100, 1, 0x100, 32, fun i _ => [(FED_COUNT_REPEATS i, .rc, false), (FED_COUNT_DROPS i, .rc, false)]⟩]
/-- Rows of the register index. -/
def regD3 : List RegD := [
  ⟨"FED_RXS", 0xF00010, 3, 0x100, 1, 0x100, 32, fun i _ => [(FED_RXS i, .ro, false)]⟩,
  ⟨"FED_SLUICE_STATUS", 0xF00400, 1, 0x10000000, 1, 0x10000000, 32, fun _ _ => [(FED_SLUICE_STATUS_FILLS, .rc, false), (FED_SLUICE_STATUS_BAD_LINES, .rc, false)]⟩]
/-- The registers of this file. -/
def tabRegsD : List RegD := regD0 ++ regD1 ++ regD2 ++ regD3

end Sys2Proof.Machine
end

