-- ==== Sys2Proof/Machine/RegsE.lean ====
section
/-!
DEFINITION. Registers: Codec, packing, magazines, DMA, memory. One descriptor per field, as the tables of the spec lay them out
(R440, R443), and the list from which BAR0 accesses find them.
-/
namespace Sys2Proof.Machine

/-- ENC_CTL.CLOSE (Table 09-10), WO, acted on by a command of its own. -/
def ENC_CTL_CLOSE (i : Nat) : Fld := ⟨0x1000000 + 0x1000 * i, 1, 1, 0⟩
/-- ENC_CTL.OPEN (Table 09-10), WO, acted on by a command of its own. -/
def ENC_CTL_OPEN (i : Nat) : Fld := ⟨0x1000000 + 0x1000 * i, 0, 1, 0⟩
/-- ENC_STATUS.RESTART_CAUSE (Table 09-11), RO. -/
def ENC_STATUS_RESTART_CAUSE (i : Nat) : Fld := ⟨0x1000004 + 0x1000 * i, 24, 4, 0⟩
/-- ENC_STATUS.LEVEL_USED (Table 09-11), RO. -/
def ENC_STATUS_LEVEL_USED (i : Nat) : Fld := ⟨0x1000004 + 0x1000 * i, 16, 8, 0⟩
/-- ENC_STATUS.OPEN_ERR (Table 09-11), RO. -/
def ENC_STATUS_OPEN_ERR (i : Nat) : Fld := ⟨0x1000004 + 0x1000 * i, 8, 4, 0⟩
/-- ENC_STATUS.CODING (Table 09-11), RO. -/
def ENC_STATUS_CODING (i : Nat) : Fld := ⟨0x1000004 + 0x1000 * i, 2, 1, 0⟩
/-- ENC_STATUS.STATE (Table 09-11), RO. -/
def ENC_STATUS_STATE (i : Nat) : Fld := ⟨0x1000004 + 0x1000 * i, 0, 2, 0⟩
/-- ENC_SEQ.LEVEL (Table 09-12), RW. -/
def ENC_SEQ_LEVEL (i : Nat) : Fld := ⟨0x1000008 + 0x1000 * i, 24, 8, 0⟩
/-- ENC_SEQ.SLICE_ROWS (Table 09-12), RW. -/
def ENC_SEQ_SLICE_ROWS (i : Nat) : Fld := ⟨0x1000008 + 0x1000 * i, 16, 8, 0⟩
/-- ENC_SEQ.HASH (Table 09-12), RW. -/
def ENC_SEQ_HASH (i : Nat) : Fld := ⟨0x1000008 + 0x1000 * i, 6, 1, 0⟩
/-- ENC_SEQ.WPP (Table 09-12), RW. -/
def ENC_SEQ_WPP (i : Nat) : Fld := ⟨0x1000008 + 0x1000 * i, 5, 1, 0⟩
/-- ENC_SEQ.CBR (Table 09-12), RW. -/
def ENC_SEQ_CBR (i : Nat) : Fld := ⟨0x1000008 + 0x1000 * i, 4, 1, 0⟩
/-- ENC_SEQ.TIER (Table 09-12), RW. -/
def ENC_SEQ_TIER (i : Nat) : Fld := ⟨0x1000008 + 0x1000 * i, 3, 1, 0⟩
/-- ENC_SEQ.PROFILE (Table 09-12), RW. -/
def ENC_SEQ_PROFILE (i : Nat) : Fld := ⟨0x1000008 + 0x1000 * i, 0, 2, 0⟩
/-- ENC_GOP.GOP_TYPE (R222), RW. -/
def ENC_GOP_GOP_TYPE (i : Nat) : Fld := ⟨0x100000C + 0x1000 * i, 0, 2, 1⟩
/-- ENC_GOP.NUM_REF (R222), RW. -/
def ENC_GOP_NUM_REF (i : Nat) : Fld := ⟨0x100000C + 0x1000 * i, 4, 3, 1⟩
/-- ENC_GOP.IRAP_IDR (R222), RW. -/
def ENC_GOP_IRAP_IDR (i : Nat) : Fld := ⟨0x100000C + 0x1000 * i, 7, 1, 0⟩
/-- ENC_GOP.INTRA_PERIOD (R222), RW. -/
def ENC_GOP_INTRA_PERIOD (i : Nat) : Fld := ⟨0x100000C + 0x1000 * i, 16, 16, 0⟩
/-- ENC_RATE.BR (R227), RW. -/
def ENC_RATE_BR (i : Nat) : Fld := ⟨0x1000010 + 0x1000 * i, 0, 32, 0⟩
/-- ENC_CPB.CPB_SIZE (R227), RW. -/
def ENC_CPB_CPB_SIZE (i : Nat) : Fld := ⟨0x1000014 + 0x1000 * i, 0, 32, 0⟩
/-- ENC_INIT_DELAY.DELAY (R227), RW. -/
def ENC_INIT_DELAY_DELAY (i : Nat) : Fld := ⟨0x1000018 + 0x1000 * i, 0, 32, 0⟩
/-- ENC_FPS.NUM (Table 09-1), RW. -/
def ENC_FPS_NUM (i : Nat) : Fld := ⟨0x100001C + 0x1000 * i, 0, 16, 24⟩
/-- ENC_FPS.DEN (Table 09-1), RW. -/
def ENC_FPS_DEN (i : Nat) : Fld := ⟨0x100001C + 0x1000 * i, 16, 16, 1⟩
/-- ENC_QP.MIN (R226), SH. -/
def ENC_QP_MIN (i : Nat) : Fld := ⟨0x1000020 + 0x1000 * i, 0, 6, 0x22⟩
/-- ENC_QP.MAX (R226), SH. -/
def ENC_QP_MAX (i : Nat) : Fld := ⟨0x1000020 + 0x1000 * i, 8, 6, 0x33⟩
/-- ENC_QP.INIT (R226), RW. -/
def ENC_QP_INIT (i : Nat) : Fld := ⟨0x1000020 + 0x1000 * i, 16, 6, 0⟩
/-- ENC_QP.IW (R226), SH. -/
def ENC_QP_IW (i : Nat) : Fld := ⟨0x1000020 + 0x1000 * i, 24, 8, 0x30⟩
/-- ENC_GMV.X (R224), SH. -/
def ENC_GMV_X (i : Nat) : Fld := ⟨0x1000024 + 0x1000 * i, 0, 12, 0⟩
/-- ENC_GMV.Y (R224), SH. -/
def ENC_GMV_Y (i : Nat) : Fld := ⟨0x1000024 + 0x1000 * i, 16, 12, 0⟩
/-- ENC_GMV.SRC (R224), SH. -/
def ENC_GMV_SRC (i : Nat) : Fld := ⟨0x1000024 + 0x1000 * i, 31, 1, 0⟩
/-- ENC_PIC.FORCE_IRAP (R222), SH. -/
def ENC_PIC_FORCE_IRAP (i : Nat) : Fld := ⟨0x1000028 + 0x1000 * i, 0, 1, 0⟩
/-- ENC_FULLNESS.FULL (R227), RO. -/
def ENC_FULLNESS_FULL (i : Nat) : Fld := ⟨0x1000030 + 0x1000 * i, 0, 32, 0⟩
/-- ENC_COUNT.REPEATS (R231), RC. -/
def ENC_COUNT_REPEATS (i : Nat) : Fld := ⟨0x1000034 + 0x1000 * i, 0, 12, 0⟩
/-- ENC_COUNT.MINCOST (R231), RC. -/
def ENC_COUNT_MINCOST (i : Nat) : Fld := ⟨0x1000034 + 0x1000 * i, 12, 12, 0⟩
/-- ENC_COUNT.RESTARTS (R231), RC. -/
def ENC_COUNT_RESTARTS (i : Nat) : Fld := ⟨0x1000034 + 0x1000 * i, 24, 8, 0⟩
/-- ENC_OUT_WR.WR (R231), RO. -/
def ENC_OUT_WR_WR (i : Nat) : Fld := ⟨0x1000038 + 0x1000 * i, 0, 32, 0⟩
/-- ENC_OUT_RD.RD (R231), RW, acted on by a command of its own. -/
def ENC_OUT_RD_RD (i : Nat) : Fld := ⟨0x100003C + 0x1000 * i, 0, 32, 0⟩
/-- ENC_ROI.X0 (R226), SH. -/
def ENC_ROI_X0 (i j : Nat) : Fld := ⟨0x1000040 + 0x1000 * i + 0x8 * j, 0, 12, 0⟩
/-- ENC_ROI.Y0 (R226), SH. -/
def ENC_ROI_Y0 (i j : Nat) : Fld := ⟨0x1000040 + 0x1000 * i + 0x8 * j, 12, 12, 0⟩
/-- ENC_ROI.X1 (R226), SH. -/
def ENC_ROI_X1 (i j : Nat) : Fld := ⟨0x1000040 + 0x1000 * i + 0x8 * j, 24, 12, 0⟩
/-- ENC_ROI.Y1 (R226), SH. -/
def ENC_ROI_Y1 (i j : Nat) : Fld := ⟨0x1000040 + 0x1000 * i + 0x8 * j, 36, 12, 0⟩
/-- ENC_ROI.OFFSET (R226), SH. -/
def ENC_ROI_OFFSET (i j : Nat) : Fld := ⟨0x1000040 + 0x1000 * i + 0x8 * j, 48, 5, 0⟩
/-- ENC_ROI.EN (R226), SH. -/
def ENC_ROI_EN (i j : Nat) : Fld := ⟨0x1000040 + 0x1000 * i + 0x8 * j, 63, 1, 0⟩
/-- DEC_CTL.START (R234), WO, acted on by a command of its own. -/
def DEC_CTL_START : Fld := ⟨0x1002000, 0, 1, 0⟩
/-- DEC_CTL.STOP (R234), WO, acted on by a command of its own. -/
def DEC_CTL_STOP : Fld := ⟨0x1002000, 1, 1, 0⟩
/-- DEC_CTL.IN_TIMEOUT (R234), RW. -/
def DEC_CTL_IN_TIMEOUT : Fld := ⟨0x1002000, 16, 8, 100⟩
/-- DEC_STATUS.RUNNING (Table 09-9), RO. -/
def DEC_STATUS_RUNNING : Fld := ⟨0x1002004, 0, 1, 0⟩
/-- DEC_STATUS.STOP_CAUSE (Table 09-9), RO. -/
def DEC_STATUS_STOP_CAUSE : Fld := ⟨0x1002004, 4, 1, 0⟩
/-- DEC_STATUS.ERR_CAUSE (Table 09-9), RO. -/
def DEC_STATUS_ERR_CAUSE : Fld := ⟨0x1002004, 8, 4, 0⟩
/-- DEC_STATUS.CONCEALING (Table 09-9), RO. -/
def DEC_STATUS_CONCEALING : Fld := ⟨0x1002004, 12, 1, 0⟩
/-- DEC_IN_WR.WR (R233), RW, acted on by a command of its own. -/
def DEC_IN_WR_WR : Fld := ⟨0x1002008, 0, 32, 0⟩
/-- DEC_IN_RD.RD (R233), RO. -/
def DEC_IN_RD_RD : Fld := ⟨0x100200C, 0, 32, 0⟩
/-- DEC_OUT.IDX (R236), RO. -/
def DEC_OUT_IDX : Fld := ⟨0x1002010, 0, 3, 0⟩
/-- DEC_OUT.CONCEALED (R236), RO. -/
def DEC_OUT_CONCEALED : Fld := ⟨0x1002010, 3, 1, 0⟩
/-- DEC_OUT.POC_LOW (R236), RO. -/
def DEC_OUT_POC_LOW : Fld := ⟨0x1002010, 8, 24, 0⟩
/-- DEC_COUNT.CONCEAL (R235), RC. -/
def DEC_COUNT_CONCEAL : Fld := ⟨0x1002014, 0, 16, 0⟩
/-- DEC_COUNT.SKIPPED (R235), RC. -/
def DEC_COUNT_SKIPPED : Fld := ⟨0x1002014, 16, 16, 0⟩
/-- DEC_OUT_CTL.OUT_FMT (R236), SH. -/
def DEC_OUT_CTL_OUT_FMT : Fld := ⟨0x1002018, 0, 1, 0⟩
/-- PAK_STATUS.REBUILD_PCT (Table 11-10), RO. -/
def PAK_STATUS_REBUILD_PCT : Fld := ⟨0x1200000, 16, 8, 0⟩
/-- PAK_STATUS.OFFLOAD_OUT (Table 11-10), RO. -/
def PAK_STATUS_OFFLOAD_OUT : Fld := ⟨0x1200000, 12, 4, 0⟩
/-- PAK_STATUS.FAIL_CAUSE (Table 11-10), RO. -/
def PAK_STATUS_FAIL_CAUSE : Fld := ⟨0x1200000, 8, 2, 0⟩
/-- PAK_STATUS.RETIRED (Table 11-10), RO. -/
def PAK_STATUS_RETIRED : Fld := ⟨0x1200000, 2, 1, 0⟩
/-- PAK_STATUS.UNPACKING (Table 11-10), RO. -/
def PAK_STATUS_UNPACKING : Fld := ⟨0x1200000, 1, 1, 0⟩
/-- PAK_STATUS.PACKING (Table 11-10), RO. -/
def PAK_STATUS_PACKING : Fld := ⟨0x1200000, 0, 1, 0⟩
/-- PAK_COUNT.FALLBACKS (R287), RC. -/
def PAK_COUNT_FALLBACKS : Fld := ⟨0x1200004, 0, 16, 0⟩
/-- PAK_COUNT.UNPACK_ERR (R287), RC. -/
def PAK_COUNT_UNPACK_ERR : Fld := ⟨0x1200004, 16, 16, 0⟩
/-- PAK_FAIL_FN.FN (R287), RO. -/
def PAK_FAIL_FN_FN : Fld := ⟨0x1200008, 0, 32, 0⟩
/-- PAK_IN_BYTES.BYTES (Table 11-9), RO. -/
def PAK_IN_BYTES_BYTES : Fld := ⟨0x1200010, 0, 64, 0⟩
/-- PAK_OUT_BYTES.BYTES (Table 11-9), RO. -/
def PAK_OUT_BYTES_BYTES : Fld := ⟨0x1200018, 0, 64, 0⟩
/-- PAK_RATIO.RATIO (Table 11-9), RO. -/
def PAK_RATIO_RATIO : Fld := ⟨0x1200020, 0, 32, 0⟩
/-- MAG_CTL.RESERVE (Table 10-12), RW. -/
def MAG_CTL_RESERVE : Fld := ⟨0x1300000, 16, 8, 20⟩
/-- MAG_CTL.CHANGE_NOW (Table 10-12), W1S, acted on by a command of its own. -/
def MAG_CTL_CHANGE_NOW : Fld := ⟨0x1300000, 2, 1, 0⟩
/-- MAG_CTL.CHANGE_ON_DEGRADE (Table 10-12), RW. -/
def MAG_CTL_CHANGE_ON_DEGRADE : Fld := ⟨0x1300000, 1, 1, 1⟩
/-- MAG_CTL.AUTO_CHANGE (Table 10-12), RW. -/
def MAG_CTL_AUTO_CHANGE : Fld := ⟨0x1300000, 0, 1, 1⟩
/-- MAG_REC_STATUS.STOP_CAUSE (Table 10-13), RO. -/
def MAG_REC_STATUS_STOP_CAUSE : Fld := ⟨0x1300004, 8, 4, 0⟩
/-- MAG_REC_STATUS.SEALED (Table 10-13), W1C. -/
def MAG_REC_STATUS_SEALED : Fld := ⟨0x1300004, 5, 1, 0⟩
/-- MAG_REC_STATUS.ACTIVE_MAG (Table 10-13), RO. -/
def MAG_REC_STATUS_ACTIVE_MAG : Fld := ⟨0x1300004, 4, 1, 0⟩
/-- MAG_REC_STATUS.STATE (Table 10-13), RO. -/
def MAG_REC_STATUS_STATE : Fld := ⟨0x1300004, 0, 3, 0⟩
/-- MAG_REC_COUNT.OVERRUN (R261), RC. -/
def MAG_REC_COUNT_OVERRUN : Fld := ⟨0x1300008, 0, 16, 0⟩
/-- MAG_REC_COUNT.GAPS (R261), RC. -/
def MAG_REC_COUNT_GAPS : Fld := ⟨0x1300008, 16, 16, 0⟩
/-- MAG_MAG_STATUS.FREE (Table 10-14), RO. -/
def MAG_MAG_STATUS_FREE (i : Nat) : Fld := ⟨0x1300010 + 0x4 * i, 8, 24, 0⟩
/-- MAG_MAG_STATUS.BUSY (Table 10-14), RO. -/
def MAG_MAG_STATUS_BUSY (i : Nat) : Fld := ⟨0x1300010 + 0x4 * i, 5, 1, 0⟩
/-- MAG_MAG_STATUS.REPLACE (Table 10-14), RO. -/
def MAG_MAG_STATUS_REPLACE (i : Nat) : Fld := ⟨0x1300010 + 0x4 * i, 4, 1, 0⟩
/-- MAG_MAG_STATUS.FAILED (Table 10-14), RO. -/
def MAG_MAG_STATUS_FAILED (i : Nat) : Fld := ⟨0x1300010 + 0x4 * i, 3, 1, 0⟩
/-- MAG_MAG_STATUS.DEGRADED (Table 10-14), RO. -/
def MAG_MAG_STATUS_DEGRADED (i : Nat) : Fld := ⟨0x1300010 + 0x4 * i, 2, 1, 0⟩
/-- MAG_MAG_STATUS.READY (Table 10-14), RO. -/
def MAG_MAG_STATUS_READY (i : Nat) : Fld := ⟨0x1300010 + 0x4 * i, 1, 1, 0⟩
/-- MAG_MAG_STATUS.PRESENT (Table 10-14), RO. -/
def MAG_MAG_STATUS_PRESENT (i : Nat) : Fld := ⟨0x1300010 + 0x4 * i, 0, 1, 0⟩
/-- MAG_RING_STATUS.M (Table 10-15), RO. -/
def MAG_RING_STATUS_M (i : Nat) : Fld := ⟨0x1300100 + 0x10 * i, 24, 2, 0⟩
/-- MAG_RING_STATUS.K (Table 10-15), RO. -/
def MAG_RING_STATUS_K (i : Nat) : Fld := ⟨0x1300100 + 0x10 * i, 16, 5, 0⟩
/-- MAG_RING_STATUS.LOST_COUNT (Table 10-15), RO. -/
def MAG_RING_STATUS_LOST_COUNT (i : Nat) : Fld := ⟨0x1300100 + 0x10 * i, 8, 6, 0⟩
/-- MAG_RING_STATUS.MAG (Table 10-15), RO. -/
def MAG_RING_STATUS_MAG (i : Nat) : Fld := ⟨0x1300100 + 0x10 * i, 2, 1, 0⟩
/-- MAG_RING_STATUS.STATE (Table 10-15), RO. -/
def MAG_RING_STATUS_STATE (i : Nat) : Fld := ⟨0x1300100 + 0x10 * i, 0, 2, 0⟩
/-- MAG_RING_LOST.LOST (R262), RO. -/
def MAG_RING_LOST_LOST (i : Nat) : Fld := ⟨0x1300104 + 0x10 * i, 0, 32, 0⟩
/-- MAG_RING_STRIPES.COUNT (R256), RO. -/
def MAG_RING_STRIPES_COUNT (i : Nat) : Fld := ⟨0x1300108 + 0x10 * i, 0, 64, 0⟩
/-- MAG_LINK_STATUS.NAK_COUNT (R245), RO. -/
def MAG_LINK_STATUS_NAK_COUNT (i : Nat) : Fld := ⟨0x1300200 + 0x10 * i, 0, 4, 0⟩
/-- MAG_LINK_STATUS.EXHAUSTED (R245), RO. -/
def MAG_LINK_STATUS_EXHAUSTED (i : Nat) : Fld := ⟨0x1300200 + 0x10 * i, 4, 1, 0⟩
/-- MAG_LINK_STATUS.RELOCK_WAIT (R245), RO. -/
def MAG_LINK_STATUS_RELOCK_WAIT (i : Nat) : Fld := ⟨0x1300200 + 0x10 * i, 5, 1, 0⟩
/-- MAG_LINK_STATUS.CHAIN (R245), RO. -/
def MAG_LINK_STATUS_CHAIN (i : Nat) : Fld := ⟨0x1300200 + 0x10 * i, 8, 3, 0⟩
/-- MAG_LINK_ERR.CRC_ERR (R245), RC. -/
def MAG_LINK_ERR_CRC_ERR (i : Nat) : Fld := ⟨0x1300204 + 0x10 * i, 0, 8, 0⟩
/-- MAG_LINK_ERR.REPLAYS (R245), RC. -/
def MAG_LINK_ERR_REPLAYS (i : Nat) : Fld := ⟨0x1300204 + 0x10 * i, 8, 8, 0⟩
/-- MAG_LINK_ERR.NAKS_TX (R245), RC. -/
def MAG_LINK_ERR_NAKS_TX (i : Nat) : Fld := ⟨0x1300204 + 0x10 * i, 16, 8, 0⟩
/-- MAG_LINK_ERR.NAKS_RX (R245), RC. -/
def MAG_LINK_ERR_NAKS_RX (i : Nat) : Fld := ⟨0x1300204 + 0x10 * i, 24, 8, 0⟩
/-- MAG_DRV_STATUS.OUTSTANDING (Table 10-16), RO. -/
def MAG_DRV_STATUS_OUTSTANDING (i : Nat) : Fld := ⟨0x1301000 + 0x10 * i, 24, 8, 0⟩
/-- MAG_DRV_STATUS.REMOVE_CAUSE (Table 10-16), RO. -/
def MAG_DRV_STATUS_REMOVE_CAUSE (i : Nat) : Fld := ⟨0x1301000 + 0x10 * i, 20, 4, 0⟩
/-- MAG_DRV_STATUS.ALARM (Table 10-16), RO. -/
def MAG_DRV_STATUS_ALARM (i : Nat) : Fld := ⟨0x1301000 + 0x10 * i, 17, 1, 0⟩
/-- MAG_DRV_STATUS.REMOVED (Table 10-16), RO. -/
def MAG_DRV_STATUS_REMOVED (i : Nat) : Fld := ⟨0x1301000 + 0x10 * i, 16, 1, 0⟩
/-- MAG_DRV_STATUS.SLOT (Table 10-16), RO. -/
def MAG_DRV_STATUS_SLOT (i : Nat) : Fld := ⟨0x1301000 + 0x10 * i, 8, 5, 0⟩
/-- MAG_DRV_STATUS.RING (Table 10-16), RO. -/
def MAG_DRV_STATUS_RING (i : Nat) : Fld := ⟨0x1301000 + 0x10 * i, 5, 2, 0⟩
/-- MAG_DRV_STATUS.MEMBER (Table 10-16), RO. -/
def MAG_DRV_STATUS_MEMBER (i : Nat) : Fld := ⟨0x1301000 + 0x10 * i, 4, 1, 0⟩
/-- MAG_DRV_STATUS.DSTATE (Table 10-16), RO. -/
def MAG_DRV_STATUS_DSTATE (i : Nat) : Fld := ⟨0x1301000 + 0x10 * i, 0, 4, 15⟩
/-- MAG_DRV_ERR.TIMEOUTS (Table 10-9), RC. -/
def MAG_DRV_ERR_TIMEOUTS (i : Nat) : Fld := ⟨0x1301004 + 0x10 * i, 0, 8, 0⟩
/-- MAG_DRV_ERR.MEDIA_ERR (Table 10-9), RC. -/
def MAG_DRV_ERR_MEDIA_ERR (i : Nat) : Fld := ⟨0x1301004 + 0x10 * i, 8, 8, 0⟩
/-- MAG_DRV_ERR.ALARMS (Table 10-9), RC. -/
def MAG_DRV_ERR_ALARMS (i : Nat) : Fld := ⟨0x1301004 + 0x10 * i, 16, 8, 0⟩
/-- MAG_PARITY_STATUS.OUT_CH (R252), RO. -/
def MAG_PARITY_STATUS_OUT_CH : Fld := ⟨0x1302000, 0, 4, 0⟩
/-- MAG_PARITY_STATUS.OUT_VALID (R252), RO. -/
def MAG_PARITY_STATUS_OUT_VALID : Fld := ⟨0x1302000, 4, 1, 0⟩
/-- MAG_PARITY_COUNT.REBUILT (R252), RC. -/
def MAG_PARITY_COUNT_REBUILT : Fld := ⟨0x1302004, 0, 24, 0⟩
/-- MAG_PARITY_COUNT.LOST_ROWS (R252), RC. -/
def MAG_PARITY_COUNT_LOST_ROWS : Fld := ⟨0x1302004, 24, 8, 0⟩
/-- DMA_CTL.GO (R360), WO, acted on by a command of its own. -/
def DMA_CTL_GO (i : Nat) : Fld := ⟨0x1600000 + 0x100 * i, 0, 1, 0⟩
/-- DMA_CTL.STOP (R360), WO, acted on by a command of its own. -/
def DMA_CTL_STOP (i : Nat) : Fld := ⟨0x1600000 + 0x100 * i, 1, 1, 0⟩
/-- DMA_CTL.PSPACE (R360), RW. -/
def DMA_CTL_PSPACE (i : Nat) : Fld := ⟨0x1600000 + 0x100 * i, 4, 1, 0⟩
/-- DMA_STATUS.INFLIGHT (Table 13-14), RO. -/
def DMA_STATUS_INFLIGHT (i : Nat) : Fld := ⟨0x1600004 + 0x100 * i, 24, 3, 0⟩
/-- DMA_STATUS.SEM_WAIT (Table 13-14), RO. -/
def DMA_STATUS_SEM_WAIT (i : Nat) : Fld := ⟨0x1600004 + 0x100 * i, 16, 6, 0⟩
/-- DMA_STATUS.CAUSE (Table 13-14), RO. -/
def DMA_STATUS_CAUSE (i : Nat) : Fld := ⟨0x1600004 + 0x100 * i, 8, 4, 0⟩
/-- DMA_STATUS.STATE (Table 13-14), RO. -/
def DMA_STATUS_STATE (i : Nat) : Fld := ⟨0x1600004 + 0x100 * i, 0, 3, 0⟩
/-- DMA_PC.ADDR (R360), RW. -/
def DMA_PC_ADDR (i : Nat) : Fld := ⟨0x1600008 + 0x100 * i, 0, 64, 0⟩
/-- DMA_FAULT_PC.ADDR (R359), RO. -/
def DMA_FAULT_PC_ADDR (i : Nat) : Fld := ⟨0x1600010 + 0x100 * i, 0, 64, 0⟩
/-- DMA_BYTES.BYTES (R359), RO. -/
def DMA_BYTES_BYTES (i : Nat) : Fld := ⟨0x1600018 + 0x100 * i, 0, 64, 0⟩
/-- DMA_SEM.COUNT (R357), RW, acted on by a command of its own. -/
def DMA_SEM_COUNT (i : Nat) : Fld := ⟨0x1604000 + 0x4 * i, 0, 16, 0⟩
/-- MEM_CFG.RETIRED (Table 13-12), RO. -/
def MEM_CFG_RETIRED : Fld := ⟨0x1700000, 16, 16, 0⟩
/-- MEM_CFG.TYPE (Table 13-12), RO. -/
def MEM_CFG_TYPE : Fld := ⟨0x1700000, 9, 1, 0⟩
/-- MEM_CFG.RATE (Table 13-12), RO. -/
def MEM_CFG_RATE : Fld := ⟨0x1700000, 8, 1, 0⟩
/-- MEM_CFG.RANKS (Table 13-12), RO. -/
def MEM_CFG_RANKS : Fld := ⟨0x1700000, 6, 1, 0⟩
/-- MEM_CFG.CH_LOG2 (Table 13-12), RO. -/
def MEM_CFG_CH_LOG2 : Fld := ⟨0x1700000, 0, 6, 0⟩
/-- MEM_NRR.PROB (R341), RW. -/
def MEM_NRR_PROB : Fld := ⟨0x1700004, 0, 16, 0x40⟩
/-- MEM_RETRAIN.REQ (R343), W1S, acted on by a command of its own. -/
def MEM_RETRAIN_REQ : Fld := ⟨0x1700008, 0, 16, 0⟩
/-- MEM_XOR.MASK (R337), RO. -/
def MEM_XOR_MASK (i : Nat) : Fld := ⟨0x1700010 + 0x4 * i, 0, 32, (if i = 0 then 0x00888800 else if i = 1 then 0x01111000 else if i = 2 then 0x02222000 else 0x04444000)⟩
/-- MEM_STAGE_BASE.ADDR (R336), RO. -/
def MEM_STAGE_BASE_ADDR : Fld := ⟨0x1700020, 0, 64, (Config.dramBytes - 0x10000000)⟩
/-- MEM_UE_ADDR.ADDR (R346), RO. -/
def MEM_UE_ADDR_ADDR : Fld := ⟨0x1700028, 0, 64, 0⟩
/-- MEM_CH_STATUS.RETRAINS (Table 13-13), RO. -/
def MEM_CH_STATUS_RETRAINS (i : Nat) : Fld := ⟨0x1700100 + 0x10 * i, 16, 16, 0⟩
/-- MEM_CH_STATUS.TRAIN_TEMP (Table 13-13), RO. -/
def MEM_CH_STATUS_TRAIN_TEMP (i : Nat) : Fld := ⟨0x1700100 + 0x10 * i, 8, 8, 0⟩
/-- MEM_CH_STATUS.STATE (Table 13-13), RO. -/
def MEM_CH_STATUS_STATE (i : Nat) : Fld := ⟨0x1700100 + 0x10 * i, 0, 3, 0⟩
/-- MEM_CH_ERR.LINK_CE (R344), RC. -/
def MEM_CH_ERR_LINK_CE (i : Nat) : Fld := ⟨0x1700104 + 0x10 * i, 0, 8, 0⟩
/-- MEM_CH_ERR.ECC_CE (R344), RC. -/
def MEM_CH_ERR_ECC_CE (i : Nat) : Fld := ⟨0x1700104 + 0x10 * i, 8, 8, 0⟩
/-- MEM_CH_ERR.UE (R344), RC. -/
def MEM_CH_ERR_UE (i : Nat) : Fld := ⟨0x1700104 + 0x10 * i, 16, 8, 0⟩
/-- MEM_CH_ERR.TRAIN_FAIL (R344), RC. -/
def MEM_CH_ERR_TRAIN_FAIL (i : Nat) : Fld := ⟨0x1700104 + 0x10 * i, 24, 8, 0⟩
/-- MEM_POLDER_BASE (R347), RO. -/
def MEM_POLDER_BASE (i : Nat) : Fld := ⟨0x1700400 + 0x20 * i, 0, 64, 0⟩
/-- MEM_POLDER_SIZE (R347), RO. -/
def MEM_POLDER_SIZE (i : Nat) : Fld := ⟨0x1700408 + 0x20 * i, 0, 64, 0⟩
/-- MEM_POLDER_RIGHTS.READ (Table 13-5), RO. -/
def MEM_POLDER_RIGHTS_READ (i : Nat) : Fld := ⟨0x1700410 + 0x20 * i, 0, 16, 0⟩
/-- MEM_POLDER_RIGHTS.WRITE (Table 13-5), RO. -/
def MEM_POLDER_RIGHTS_WRITE (i : Nat) : Fld := ⟨0x1700410 + 0x20 * i, 16, 16, 0⟩
/-- MEM_POLDER_BAR2.VALID (R350), RO. -/
def MEM_POLDER_BAR2_VALID (i : Nat) : Fld := ⟨0x1700418 + 0x20 * i, 0, 1, 0⟩
/-- MEM_POLDER_BAR2.ECC (R350), RO. -/
def MEM_POLDER_BAR2_ECC (i : Nat) : Fld := ⟨0x1700418 + 0x20 * i, 1, 1, 0⟩
/-- MEM_POLDER_BAR2.EXPOSE (R350), RO. -/
def MEM_POLDER_BAR2_EXPOSE (i : Nat) : Fld := ⟨0x1700418 + 0x20 * i, 2, 1, 0⟩
/-- MEM_POLDER_BAR2.OFF (R350), RO. -/
def MEM_POLDER_BAR2_OFF (i : Nat) : Fld := ⟨0x1700418 + 0x20 * i, 12, 36, 0⟩

/-- Rows of the register index. -/
def regE0 : List RegD := [
  ⟨"ENC_CTL", 0x1000000, 2, 0x1000, 1, 0x1000, 32, fun i _ => [(ENC_CTL_CLOSE i, .wo, true), (ENC_CTL_OPEN i, .wo, true)]⟩,
  ⟨"ENC_STATUS", 0x1000004, 2, 0x1000, 1, 0x1000, 32, fun i _ => [(ENC_STATUS_RESTART_CAUSE i, .ro, false), (ENC_STATUS_LEVEL_USED i, .ro, false), (ENC_STATUS_OPEN_ERR i, .ro, false), (ENC_STATUS_CODING i, .ro, false), (ENC_STATUS_STATE i, .ro, false)]⟩,
  ⟨"ENC_SEQ", 0x1000008, 2, 0x1000, 1, 0x1000, 32, fun i _ => [(ENC_SEQ_LEVEL i, .rw, false), (ENC_SEQ_SLICE_ROWS i, .rw, false), (ENC_SEQ_HASH i, .rw, false), (ENC_SEQ_WPP i, .rw, false), (ENC_SEQ_CBR i, .rw, false), (ENC_SEQ_TIER i, .rw, false), (ENC_SEQ_PROFILE i, .rw, false)]⟩,
  ⟨"ENC_GOP", 0x100000C, 2, 0x1000, 1, 0x1000, 32, fun i _ => [(ENC_GOP_GOP_TYPE i, .rw, false), (ENC_GOP_NUM_REF i, .rw, false), (ENC_GOP_IRAP_IDR i, .rw, false), (ENC_GOP_INTRA_PERIOD i, .rw, false)]⟩,
  ⟨"ENC_RATE", 0x1000010, 2, 0x1000, 1, 0x1000, 32, fun i _ => [(ENC_RATE_BR i, .rw, false)]⟩,
  ⟨"ENC_CPB", 0x1000014, 2, 0x1000, 1, 0x1000, 32, fun i _ => [(ENC_CPB_CPB_SIZE i, .rw, false)]⟩,
  ⟨"ENC_INIT_DELAY", 0x1000018, 2, 0x1000, 1, 0x1000, 32, fun i _ => [(ENC_INIT_DELAY_DELAY i, .rw, false)]⟩,
  ⟨"ENC_FPS", 0x100001C, 2, 0x1000, 1, 0x1000, 32, fun i _ => [(ENC_FPS_NUM i, .rw, false), (ENC_FPS_DEN i, .rw, false)]⟩,
  ⟨"ENC_QP", 0x1000020, 2, 0x1000, 1, 0x1000, 32, fun i _ => [(ENC_QP_MIN i, .sh, false), (ENC_QP_MAX i, .sh, false), (ENC_QP_INIT i, .rw, false), (ENC_QP_IW i, .sh, false)]⟩,
  ⟨"ENC_GMV", 0x1000024, 2, 0x1000, 1, 0x1000, 32, fun i _ => [(ENC_GMV_X i, .sh, false), (ENC_GMV_Y i, .sh, false), (ENC_GMV_SRC i, .sh, false)]⟩,
  ⟨"ENC_PIC", 0x1000028, 2, 0x1000, 1, 0x1000, 32, fun i _ => [(ENC_PIC_FORCE_IRAP i, .sh, false)]⟩,
  ⟨"ENC_FULLNESS", 0x1000030, 2, 0x1000, 1, 0x1000, 32, fun i _ => [(ENC_FULLNESS_FULL i, .ro, false)]⟩,
  ⟨"ENC_COUNT", 0x1000034, 2, 0x1000, 1, 0x1000, 32, fun i _ => [(ENC_COUNT_REPEATS i, .rc, false), (ENC_COUNT_MINCOST i, .rc, false), (ENC_COUNT_RESTARTS i, .rc, false)]⟩,
  ⟨"ENC_OUT_WR", 0x1000038, 2, 0x1000, 1, 0x1000, 32, fun i _ => [(ENC_OUT_WR_WR i, .ro, false)]⟩,
  ⟨"ENC_OUT_RD", 0x100003C, 2, 0x1000, 1, 0x1000, 32, fun i _ => [(ENC_OUT_RD_RD i, .rw, true)]⟩,
  ⟨"ENC_ROI", 0x1000040, 2, 0x1000, 16, 0x8, 64, fun i j => [(ENC_ROI_X0 i j, .sh, false), (ENC_ROI_Y0 i j, .sh, false), (ENC_ROI_X1 i j, .sh, false), (ENC_ROI_Y1 i j, .sh, false), (ENC_ROI_OFFSET i j, .sh, false), (ENC_ROI_EN i j, .sh, false)]⟩,
  ⟨"DEC_CTL", 0x1002000, 1, 0x10000000, 1, 0x10000000, 32, fun _ _ => [(DEC_CTL_START, .wo, true), (DEC_CTL_STOP, .wo, true), (DEC_CTL_IN_TIMEOUT, .rw, false)]⟩,
  ⟨"DEC_STATUS", 0x1002004, 1, 0x10000000, 1, 0x10000000, 32, fun _ _ => [(DEC_STATUS_RUNNING, .ro, false), (DEC_STATUS_STOP_CAUSE, .ro, false), (DEC_STATUS_ERR_CAUSE, .ro, false), (DEC_STATUS_CONCEALING, .ro, false)]⟩,
  ⟨"DEC_IN_WR", 0x1002008, 1, 0x10000000, 1, 0x10000000, 32, fun _ _ => [(DEC_IN_WR_WR, .rw, true)]⟩,
  ⟨"DEC_IN_RD", 0x100200C, 1, 0x10000000, 1, 0x10000000, 32, fun _ _ => [(DEC_IN_RD_RD, .ro, false)]⟩]
/-- Rows of the register index. -/
def regE1 : List RegD := [
  ⟨"DEC_OUT", 0x1002010, 1, 0x10000000, 1, 0x10000000, 32, fun _ _ => [(DEC_OUT_IDX, .ro, false), (DEC_OUT_CONCEALED, .ro, false), (DEC_OUT_POC_LOW, .ro, false)]⟩,
  ⟨"DEC_COUNT", 0x1002014, 1, 0x10000000, 1, 0x10000000, 32, fun _ _ => [(DEC_COUNT_CONCEAL, .rc, false), (DEC_COUNT_SKIPPED, .rc, false)]⟩,
  ⟨"DEC_OUT_CTL", 0x1002018, 1, 0x10000000, 1, 0x10000000, 32, fun _ _ => [(DEC_OUT_CTL_OUT_FMT, .sh, false)]⟩,
  ⟨"PAK_STATUS", 0x1200000, 1, 0x10000000, 1, 0x10000000, 32, fun _ _ => [(PAK_STATUS_REBUILD_PCT, .ro, false), (PAK_STATUS_OFFLOAD_OUT, .ro, false), (PAK_STATUS_FAIL_CAUSE, .ro, false), (PAK_STATUS_RETIRED, .ro, false), (PAK_STATUS_UNPACKING, .ro, false), (PAK_STATUS_PACKING, .ro, false)]⟩,
  ⟨"PAK_COUNT", 0x1200004, 1, 0x10000000, 1, 0x10000000, 32, fun _ _ => [(PAK_COUNT_FALLBACKS, .rc, false), (PAK_COUNT_UNPACK_ERR, .rc, false)]⟩,
  ⟨"PAK_FAIL_FN", 0x1200008, 1, 0x10000000, 1, 0x10000000, 32, fun _ _ => [(PAK_FAIL_FN_FN, .ro, false)]⟩,
  ⟨"PAK_IN_BYTES", 0x1200010, 1, 0x10000000, 1, 0x10000000, 64, fun _ _ => [(PAK_IN_BYTES_BYTES, .ro, false)]⟩,
  ⟨"PAK_OUT_BYTES", 0x1200018, 1, 0x10000000, 1, 0x10000000, 64, fun _ _ => [(PAK_OUT_BYTES_BYTES, .ro, false)]⟩,
  ⟨"PAK_RATIO", 0x1200020, 1, 0x10000000, 1, 0x10000000, 32, fun _ _ => [(PAK_RATIO_RATIO, .ro, false)]⟩,
  ⟨"MAG_CTL", 0x1300000, 1, 0x10000000, 1, 0x10000000, 32, fun _ _ => [(MAG_CTL_RESERVE, .rw, false), (MAG_CTL_CHANGE_NOW, .w1s, true), (MAG_CTL_CHANGE_ON_DEGRADE, .rw, false), (MAG_CTL_AUTO_CHANGE, .rw, false)]⟩,
  ⟨"MAG_REC_STATUS", 0x1300004, 1, 0x10000000, 1, 0x10000000, 32, fun _ _ => [(MAG_REC_STATUS_STOP_CAUSE, .ro, false), (MAG_REC_STATUS_SEALED, .w1c, false), (MAG_REC_STATUS_ACTIVE_MAG, .ro, false), (MAG_REC_STATUS_STATE, .ro, false)]⟩,
  ⟨"MAG_REC_COUNT", 0x1300008, 1, 0x10000000, 1, 0x10000000, 32, fun _ _ => [(MAG_REC_COUNT_OVERRUN, .rc, false), (MAG_REC_COUNT_GAPS, .rc, false)]⟩,
  ⟨"MAG_MAG_STATUS", 0x1300010, 2, 0x4, 1, 0x4, 32, fun i _ => [(MAG_MAG_STATUS_FREE i, .ro, false), (MAG_MAG_STATUS_BUSY i, .ro, false), (MAG_MAG_STATUS_REPLACE i, .ro, false), (MAG_MAG_STATUS_FAILED i, .ro, false), (MAG_MAG_STATUS_DEGRADED i, .ro, false), (MAG_MAG_STATUS_READY i, .ro, false), (MAG_MAG_STATUS_PRESENT i, .ro, false)]⟩,
  ⟨"MAG_RING_STATUS", 0x1300100, 4, 0x10, 1, 0x10, 32, fun i _ => [(MAG_RING_STATUS_M i, .ro, false), (MAG_RING_STATUS_K i, .ro, false), (MAG_RING_STATUS_LOST_COUNT i, .ro, false), (MAG_RING_STATUS_MAG i, .ro, false), (MAG_RING_STATUS_STATE i, .ro, false)]⟩,
  ⟨"MAG_RING_LOST", 0x1300104, 4, 0x10, 1, 0x10, 32, fun i _ => [(MAG_RING_LOST_LOST i, .ro, false)]⟩,
  ⟨"MAG_RING_STRIPES", 0x1300108, 4, 0x10, 1, 0x10, 64, fun i _ => [(MAG_RING_STRIPES_COUNT i, .ro, false)]⟩,
  ⟨"MAG_LINK_STATUS", 0x1300200, 16, 0x10, 1, 0x10, 32, fun i _ => [(MAG_LINK_STATUS_NAK_COUNT i, .ro, false), (MAG_LINK_STATUS_EXHAUSTED i, .ro, false), (MAG_LINK_STATUS_RELOCK_WAIT i, .ro, false), (MAG_LINK_STATUS_CHAIN i, .ro, false)]⟩,
  ⟨"MAG_LINK_ERR", 0x1300204, 16, 0x10, 1, 0x10, 32, fun i _ => [(MAG_LINK_ERR_CRC_ERR i, .rc, false), (MAG_LINK_ERR_REPLAYS i, .rc, false), (MAG_LINK_ERR_NAKS_TX i, .rc, false), (MAG_LINK_ERR_NAKS_RX i, .rc, false)]⟩,
  ⟨"MAG_DRV_STATUS", 0x1301000, 64, 0x10, 1, 0x10, 32, fun i _ => [(MAG_DRV_STATUS_OUTSTANDING i, .ro, false), (MAG_DRV_STATUS_REMOVE_CAUSE i, .ro, false), (MAG_DRV_STATUS_ALARM i, .ro, false), (MAG_DRV_STATUS_REMOVED i, .ro, false), (MAG_DRV_STATUS_SLOT i, .ro, false), (MAG_DRV_STATUS_RING i, .ro, false), (MAG_DRV_STATUS_MEMBER i, .ro, false), (MAG_DRV_STATUS_DSTATE i, .ro, false)]⟩,
  ⟨"MAG_DRV_ERR", 0x1301004, 64, 0x10, 1, 0x10, 32, fun i _ => [(MAG_DRV_ERR_TIMEOUTS i, .rc, false), (MAG_DRV_ERR_MEDIA_ERR i, .rc, false), (MAG_DRV_ERR_ALARMS i, .rc, false)]⟩]
/-- Rows of the register index. -/
def regE2 : List RegD := [
  ⟨"MAG_PARITY_STATUS", 0x1302000, 1, 0x10000000, 1, 0x10000000, 32, fun _ _ => [(MAG_PARITY_STATUS_OUT_CH, .ro, false), (MAG_PARITY_STATUS_OUT_VALID, .ro, false)]⟩,
  ⟨"MAG_PARITY_COUNT", 0x1302004, 1, 0x10000000, 1, 0x10000000, 32, fun _ _ => [(MAG_PARITY_COUNT_REBUILT, .rc, false), (MAG_PARITY_COUNT_LOST_ROWS, .rc, false)]⟩,
  ⟨"DMA_CTL", 0x1600000, 32, 0x100, 1, 0x100, 32, fun i _ => [(DMA_CTL_GO i, .wo, true), (DMA_CTL_STOP i, .wo, true), (DMA_CTL_PSPACE i, .rw, false)]⟩,
  ⟨"DMA_STATUS", 0x1600004, 32, 0x100, 1, 0x100, 32, fun i _ => [(DMA_STATUS_INFLIGHT i, .ro, false), (DMA_STATUS_SEM_WAIT i, .ro, false), (DMA_STATUS_CAUSE i, .ro, false), (DMA_STATUS_STATE i, .ro, false)]⟩,
  ⟨"DMA_PC", 0x1600008, 32, 0x100, 1, 0x100, 64, fun i _ => [(DMA_PC_ADDR i, .rw, false)]⟩,
  ⟨"DMA_FAULT_PC", 0x1600010, 32, 0x100, 1, 0x100, 64, fun i _ => [(DMA_FAULT_PC_ADDR i, .ro, false)]⟩,
  ⟨"DMA_BYTES", 0x1600018, 32, 0x100, 1, 0x100, 64, fun i _ => [(DMA_BYTES_BYTES i, .ro, false)]⟩,
  ⟨"DMA_SEM", 0x1604000, 64, 0x4, 1, 0x4, 32, fun i _ => [(DMA_SEM_COUNT i, .rw, true)]⟩,
  ⟨"MEM_CFG", 0x1700000, 1, 0x10000000, 1, 0x10000000, 32, fun _ _ => [(MEM_CFG_RETIRED, .ro, false), (MEM_CFG_TYPE, .ro, false), (MEM_CFG_RATE, .ro, false), (MEM_CFG_RANKS, .ro, false), (MEM_CFG_CH_LOG2, .ro, false)]⟩,
  ⟨"MEM_NRR", 0x1700004, 1, 0x10000000, 1, 0x10000000, 32, fun _ _ => [(MEM_NRR_PROB, .rw, false)]⟩,
  ⟨"MEM_RETRAIN", 0x1700008, 1, 0x10000000, 1, 0x10000000, 32, fun _ _ => [(MEM_RETRAIN_REQ, .w1s, true)]⟩,
  ⟨"MEM_XOR", 0x1700010, 4, 0x4, 1, 0x4, 32, fun i _ => [(MEM_XOR_MASK i, .ro, false)]⟩,
  ⟨"MEM_STAGE_BASE", 0x1700020, 1, 0x10000000, 1, 0x10000000, 64, fun _ _ => [(MEM_STAGE_BASE_ADDR, .ro, false)]⟩,
  ⟨"MEM_UE_ADDR", 0x1700028, 1, 0x10000000, 1, 0x10000000, 64, fun _ _ => [(MEM_UE_ADDR_ADDR, .ro, false)]⟩,
  ⟨"MEM_CH_STATUS", 0x1700100, 16, 0x10, 1, 0x10, 32, fun i _ => [(MEM_CH_STATUS_RETRAINS i, .ro, false), (MEM_CH_STATUS_TRAIN_TEMP i, .ro, false), (MEM_CH_STATUS_STATE i, .ro, false)]⟩,
  ⟨"MEM_CH_ERR", 0x1700104, 16, 0x10, 1, 0x10, 32, fun i _ => [(MEM_CH_ERR_LINK_CE i, .rc, false), (MEM_CH_ERR_ECC_CE i, .rc, false), (MEM_CH_ERR_UE i, .rc, false), (MEM_CH_ERR_TRAIN_FAIL i, .rc, false)]⟩,
  ⟨"MEM_POLDER_BASE", 0x1700400, 32, 0x20, 1, 0x20, 64, fun i _ => [(MEM_POLDER_BASE i, .ro, false)]⟩,
  ⟨"MEM_POLDER_SIZE", 0x1700408, 32, 0x20, 1, 0x20, 64, fun i _ => [(MEM_POLDER_SIZE i, .ro, false)]⟩,
  ⟨"MEM_POLDER_RIGHTS", 0x1700410, 32, 0x20, 1, 0x20, 32, fun i _ => [(MEM_POLDER_RIGHTS_READ i, .ro, false), (MEM_POLDER_RIGHTS_WRITE i, .ro, false)]⟩,
  ⟨"MEM_POLDER_BAR2", 0x1700418, 32, 0x20, 1, 0x20, 64, fun i _ => [(MEM_POLDER_BAR2_VALID i, .ro, false), (MEM_POLDER_BAR2_ECC i, .ro, false), (MEM_POLDER_BAR2_EXPOSE i, .ro, false), (MEM_POLDER_BAR2_OFF i, .ro, false)]⟩]
/-- The registers of this file. -/
def tabRegsE : List RegD := regE0 ++ regE1 ++ regE2

end Sys2Proof.Machine
end

