-- ==== Sys2Proof/Machine/RegTable.lean ====
section
/-!
DEFINITION. The whole register index (Tables 18-2 to 18-7).
-/
namespace Sys2Proof.Machine

/-- Every register of BAR0. -/
def regTable : List RegD := tabRegsA ++ tabRegsB ++ tabRegsC ++ tabRegsD ++ tabRegsE

end Sys2Proof.Machine
end

