-- ==== Sys2Proof/Machine/Events.lean ====
section
/-!
DEFINITION. The selected time as the other units read it (R362, R374), MSI-X messages (R300), event occurrence and
delivery (R408, R409, R417), the SMBus alert conditions (R70), breach records (R401) and cofferdams (R394).
-/
namespace Sys2Proof.Machine
variable {s₀ : State}

/-! ## The selected time -/

/-- One second in units of 2^-32 ns. -/
def secondQ : Nat := 1000000000 * 2 ^ 32

/-- The count of base n in units of 2^-32 ns. -/
def Run.tb (r : Run s₀) (n : Nat) : Tb := r.u.tim.tb.look n {}

/-- TSEL in units of 2^-32 ns: TB_s + Δ (R374). -/
def Run.tselQ (r : Run s₀) : Nat := (((r.tb (r.rd TIM_TSEL_STATUS_SRC_USED)).t : Int) + r.u.tim.delta).toNat

/-- TSEL in whole nanoseconds. -/
def Run.tselNs (r : Run s₀) : Nat := r.tselQ / 2 ^ 32

/-- SEC of a time, 48 bits. -/
def timeSec (q : Nat) : Nat := q / secondQ % 2 ^ 48

/-- NS of a time. -/
def timeNs (q : Nat) : Nat := q / 2 ^ 32 % 1000000000

/-- The 18-bit fraction of a timestamp: FRAC[31:14], truncated (R362). -/
def timeFrac (q : Nat) : Nat := q % 2 ^ 32 / 2 ^ 14

/-- The short time form: seconds, low 34 bits, in [63:30], nanoseconds in [29:0] (Table 12-5). -/
def shortTime (q : Nat) : Nat := q / secondQ % 2 ^ 34 * 2 ^ 30 + timeNs q

/-! ## Messages -/

/-- The device may issue requests: Bus Master Enable is 1 and the function is in D0 (R293). -/
def Run.mayRequest (r : Run s₀) : Bool := r.u.glb.busMaster && !r.u.glb.d3hot

/-- A request to host memory leaves, or waits while the device may issue none (R293). DESIGN CHOICE (assumption 58): R293 does not
say what becomes of such a request; it is issued, in order, once the device may. -/
def Run.toHost (r : Run s₀) (o : Out) : Run s₀ :=
  if r.mayRequest then r.emit o else r.mod fun u => { u with qif := { u.qif with gated := u.qif.gated ++ [o] } }

/-- The requests that waited leave in order (R293). -/
def Run.toHostAll (r : Run s₀) : Run s₀ :=
  (r.each r.u.qif.gated fun o r => r.emit o).mod fun u => { u with qif := { u.qif with gated := [] } }

/-- Send the message of vector v, or set its PBA bit while it is masked (R300) or requests are gated (R293). -/
def Run.sendMsix (r : Run s₀) (v : Nat) : Run s₀ :=
  if r.on (QIF_MSIX_MASK v) || !r.mayRequest then r.set QIF_PBA (2 ^ v) else r.emit (.msix v)

/-- Sources of one vector that deliver in one CCLK cycle share one message (R408). -/
def Run.eventMsix (r : Run s₀) (v : Nat) : Run s₀ :=
  if r.u.evt.sent.look v 0 = r.now + 1 then r
  else (r.sendMsix v).evt fun e => { e with sent := e.sent.put v (r.now + 1) }

/-! ## Events -/

/-- The status bit of event e. -/
def Run.evStatus (r : Run s₀) (e : Nat) : Bool := bit (r.rd (EVT_STATUS (e / 32))) (e % 32)

/-- The enable bit of event e. -/
def Run.evEnabled (r : Run s₀) (e : Nat) : Bool := bit (r.rd (EVT_ENABLE (e / 32))) (e % 32)

/-- The failover partner of a warden core (Table 15-6). -/
def partner (k : Nat) : Nat := (k + 2) % 4

/-- Warden core k is halted and retired (R400). -/
def Run.coreHalted (r : Run s₀) (k : Nat) : Bool := bit (r.rd EVT_COFFERDAM_UNITS_W) k

/-- The core that performs the duties of core k (R400). -/
def Run.coreFor (r : Run s₀) (k : Nat) : Nat := if r.coreHalted k then partner k else k

/-- Drive EVENT_OUT_k, shown on GPIO_(12+k) when GLB_GPIO_FUNC selects it (R66, R408). -/
def Run.eventOut (r : Run s₀) (k : Nat) (level : Bool) : Run s₀ :=
  if bit r.u.evt.pins k = level then r
  else
    let r := r.evt fun e => { e with pins := putBits e.pins k 1 (b2n level) }
    r.when (bit (r.rd GLB_GPIO_FUNC_EVOUT) k) fun r => r.emit (.pin ("EVENT_OUT_" ++ toString k) level)

/-- EVENT_OUT_k is high: some enabled source with PIN[k] = 1 has its status bit at 1 (R408). -/
def Run.eventOutLevel (r : Run s₀) (k : Nat) : Bool :=
  (List.range 512).any fun e => r.evStatus e && r.evEnabled e && bit (r.rd (EVT_ROUTE_PIN e)) k

/-- The four pins follow their sources again after a status bit cleared or a route changed; only pins that are high or
that event e drives can change. -/
def Run.eventPins (r : Run s₀) (mask : Nat) : Run s₀ :=
  r.each (List.range 4) fun k r => if bit mask k then r.eventOut k (r.eventOutLevel k) else r

/-- Delivery of event e under its route (R408). -/
def Run.deliver (r : Run s₀) (e : Nat) : Run s₀ :=
  let r := r.when (r.on (EVT_ROUTE_MSIX e)) fun r => r.eventMsix (r.rd (EVT_ROUTE_VECTOR e))
  let cores := r.rd (EVT_ROUTE_WARDEN e) ||| r.rd (EVT_ROUTE_FW_REQ e)
  let r := r.each (List.range 4) fun k r => r.when (bit cores k) fun r => r.emit (.warden (r.coreFor k) e)
  r.each (List.range 4) fun k r => r.when (bit (r.rd (EVT_ROUTE_PIN e)) k) fun r => r.eventOut k true

/-- A trace with an occurrence of event e entered, newest first, as the entry numbered `n` or, among the entries of its own cycle, in
ascending event number (R417). -/
def traceEnter (l : List (Nat × Nat × Nat × Nat × Nat)) (n e sec ns cycle : Nat) : List (Nat × Nat × Nat × Nat × Nat) :=
  let after := l.takeWhile fun x => x.2.2.2.2 == cycle && e < x.2.1
  after.map (fun x => ((x.1 + 1) % 2 ^ 32, x.2)) ++ ((n + 2 ^ 32 - after.length) % 2 ^ 32, e, sec, ns, cycle) :: l.drop after.length

/-- The trace records an occurrence of event e while it is armed over e (R417). -/
def Run.traceEvent (r : Run s₀) (e : Nat) : Run s₀ :=
  let t := r.u.evt
  if r.on MON_STATUS_TRACE && t.traceLo ≤ e && e ≤ t.traceHi then
    let trace := traceEnter t.trace t.traceN e (r.tselQ / secondQ % 2 ^ 32) (timeNs r.tselQ) r.now
    let left := match t.traceLeft with
      | some n => some (n - 1)
      | none => if e = t.traceHi then t.tracePost else none
    let r := r.evt fun t => { t with trace := trace.take 4096, traceN := t.traceN + 1, traceLeft := left }
    r.when (left == some 0) fun r => r.wr MON_STATUS_TRACE 0
  else r

/-- An occurrence of event e visible in CCLK: the status bit is set, and an enabled source delivers when it changes from
0 to 1 (R408). -/
def Run.occur (r : Run s₀) (e : Nat) : Run s₀ :=
  let was := r.evStatus e
  let r := r.traceEvent e
  let r := r.hwSet (EVT_STATUS (e / 32)) (2 ^ (e % 32))
  r.when (!was && r.evEnabled e) fun r => r.deliver e

/-- Events whose sources lie in a clock domain other than CCLK: pixel, codec, memory, time and audio (assumption 9). -/
def crossesDomain (e : Nat) : Bool := (192 ≤ e && e ≤ 319) || (448 ≤ e && e ≤ 495)

/-- The SMBus alert line follows the pending conditions that are not masked; event 28 occurs each time it falls (R70). -/
def Run.smbLine (r : Run s₀) : Run s₀ :=
  let low := (List.range 4).any (fun k => bit (r.rd GLB_SMB_STATUS_PENDING) k && !bit (r.rd GLB_SMB_STATUS_ALERT_MASK) k)
    && !r.u.glb.smbReleased
  if low = r.u.glb.smbLow then r
  else
    let r := (r.glb fun g => { g with smbLow := low }).emit (.pin "SMB_ALERT_N" (!low))
    r.when low fun r => r.occur 28

/-- An SMBus alert condition arises (R70). -/
def Run.smbCond (r : Run s₀) (k : Nat) : Run s₀ :=
  ((r.set GLB_SMB_STATUS_PENDING (2 ^ k)).glb fun g => { g with smbReleased := false }).smbLine

/-- An occurrence of event e at its source. A second occurrence before the crossing of the first is acknowledged merges
into it and sets OVERRUN (R409). -/
def Run.ev (r : Run s₀) (e : Nat) : Run s₀ :=
  if crossesDomain e && r.u.evt.crossing.contains e then r.hwSet (EVT_OVERRUN (e / 32)) (2 ^ (e % 32))
  else
    let r := r.when (crossesDomain e) fun r => r.evt fun t => { t with crossing := e :: t.crossing }
    let r := r.occur e
    r.when (e == 500) fun r => r.smbCond 2

/-- An ignored or replaced write: GLB event 9 (R444). -/
def Run.ignored (r : Run s₀) : Run s₀ := r.ev 9

/-! ## Breach records and cofferdams -/

/-- Bytes 0x00 to 0x3B of a breach record (Table 15-7). -/
def Breach.body (b : Breach) : List Byte :=
  le 4 0x48435242 ++ le 4 b.seq ++ le 8 (timeSec b.time) ++ le 4 (timeNs b.time) ++ le 4 (timeFrac b.time)
    ++ le 1 b.type ++ le 1 b.index ++ le 1 b.cls ++ le 1 b.detector ++ le 1 b.action ++ le 1 b.inner ++ le 2 b.count
    ++ le 4 b.event ++ le 4 b.late ++ le 8 b.detail0 ++ le 8 b.detail1 ++ le 4 b.duration

/-- The 64 bytes of a breach record (Table 15-7). -/
def Breach.bytes (b : Breach) : List Byte := b.body ++ le 4 (crc32c b.body)

/-- SEQ counts from 1 and wraps from 0xFFFF_FFFF to 1 (R401). -/
def nextBreachSeq (n : Nat) : Nat := if n ≥ 0xFFFFFFFF then 1 else n + 1

/-- Whether a fault merges into the newest record: same TYPE, INDEX and DETECTOR within 1 ms of its TIME (R401). -/
def Breach.merges (new old : Breach) : Bool :=
  new.type == old.type && new.index == old.index && new.detector == old.detector
    && new.time ≤ old.time + 1000000 * 2 ^ 32

/-- Write or merge a breach record; a `time` of 0 stands for a detection now (R401). -/
def Run.breach (r : Run s₀) (b : Breach) : Run s₀ :=
  let t := if b.time = 0 then r.tselQ else b.time
  let b := { b with time := t, duration := min ((r.tselQ - t) / 2 ^ 32) 0xFFFFFFFF }
  match r.u.evt.log with
  | old :: rest =>
    if b.merges old then r.evt fun e => { e with log := { old with count := min (old.count + 1) 0xFFFF } :: rest }
    else
      let n := nextBreachSeq (r.rd EVT_BREACH_SEQ_SEQ)
      let r := r.evt fun e => { e with log := ({ b with seq := n } :: e.log).take 1024 }
      (r.wr EVT_BREACH_SEQ_SEQ n).ev 18
  | [] =>
    let n := nextBreachSeq (r.rd EVT_BREACH_SEQ_SEQ)
    let r := r.evt fun e => { e with log := [{ b with seq := n }] }
    (r.wr EVT_BREACH_SEQ_SEQ n).ev 18

/-- A late arrival after a timeout is counted in the timeout's breach record (R399). -/
def Run.lateArrival (r : Run s₀) (type index detector : Nat) : Run s₀ :=
  let rec go : List Breach → List Breach
    | [] => []
    | b :: l => if b.type == type && b.index == index && b.detector == detector then { b with late := b.late + 1 } :: l else b :: go l
  r.evt fun e => { e with log := go e.log }

/-- The bit that shows a cofferdam of a TYPE and INDEX of Table 15-2, in the register R394 gives it. -/
def cofferdamBit (type index : Nat) : Option (Fld × Nat) :=
  if type ≤ 3 then some (EVT_COFFERDAM_LANES, index)
  else if type = 5 then some (EVT_COFFERDAM_UNITS_MC, index)
  else if type = 6 then some (EVT_COFFERDAM_UNITS_CE, index)
  else if type = 7 then some (EVT_COFFERDAM_UNITS_PAK, 0)
  else if type = 8 then some (EVT_COFFERDAM_UNITS_ENC, index)
  else if type = 9 then some (EVT_COFFERDAM_UNITS_DEC, 0)
  else if type = 11 then some (EVT_COFFERDAM_UNITS_TB, index)
  else if type = 13 then some (THM_RETIRED, index)
  else if type = 14 then some (EVT_COFFERDAM_UNITS_W, index)
  else none

/-- Whether a cofferdam of the TYPE requests service (R394). -/
def requestsService (type : Nat) : Bool := (5 ≤ type && type ≤ 9) || type = 11 || type = 13 || type = 14

/-- EVT_SERVICE.REQ rises: event 21 and SMBus condition 1 (R394, R70). -/
def Run.requestService (r : Run s₀) : Run s₀ :=
  if r.on EVT_SERVICE_REQ then r else ((r.wr EVT_SERVICE_REQ 1).ev 21).smbCond 1

/-- Whether a channel is a cofferdam. -/
def Run.isCofferdam (r : Run s₀) (type index : Nat) : Bool :=
  match cofferdamBit type index with
  | some (f, k) => bit (r.rd f) k
  | none => false

/-- A channel is retired and becomes a cofferdam (R394). -/
def Run.cofferdam (r : Run s₀) (type index : Nat) : Run s₀ :=
  match cofferdamBit type index with
  | none => r
  | some (f, k) =>
    let r := (r.set f (2 ^ k)).ev 19
    if requestsService type then
      (r.evt fun e => { e with service := (type, index) :: e.service }).requestService
    else r

/-- Cofferdams of some channels end; REQ returns to 0 when none that requested service is left (R394). -/
def Run.endCofferdams (r : Run s₀) (p : Nat → Bool) : Run s₀ :=
  let r := r.when (p 1 || p 2 || p 3) fun r => r.wr EVT_COFFERDAM_LANES 0
  let r := r.when (p 6) fun r => r.wr EVT_COFFERDAM_UNITS_CE 0
  let r := r.when (p 14) fun r => r.wr EVT_COFFERDAM_UNITS_W 0
  let r := r.evt fun e => { e with service := e.service.filter fun x => !p x.1 }
  r.when r.u.evt.service.isEmpty fun r => r.wr EVT_SERVICE_REQ 0

/-- A unit of TYPE 6 to 9 suffers an internal fault: transient for the first two within 10 s, permanent at the third
(Table 15-2, R395). Answers whether it is permanent. -/
def Run.internalFault (r : Run s₀) (type index : Nat) : Bool × Run s₀ :=
  let key := type * 16 + index
  let t := r.tselNs
  let recent := (r.u.evt.faults.look key []).filter fun x => t ≤ x + 10000000000
  let permanent := decide (2 ≤ recent.length)
  let r := r.evt fun e => { e with faults := e.faults.put key ((t :: recent).take 3) }
  let r := r.breach { type := type, index := index, cls := if permanent then 2 else 1, detector := 1,
                      action := if permanent then 4 else 1 }
  if permanent then (true, r.cofferdam type index)
  else (false, r.evt fun e => { e with resetting := key :: e.resetting })

/-- Whether a unit of TYPE 6 to 9 is in its reset after a transient fault (R395). -/
def Run.isResetting (r : Run s₀) (type index : Nat) : Bool := r.u.evt.resetting.contains (type * 16 + index)

end Sys2Proof.Machine
end

