-- ==== Sys2Proof/Machine/Bus.lean ====
section
/-!
DEFINITION. How BAR0 accesses find registers and fields, and what a write does to a field under its access code (R2, R3,
R4, R440, R442). What a write or a read of a particular register does besides stands in Machine/HostBus.lean.
-/
namespace Sys2Proof.Machine
variable {s₀ : State}

/-- Byte `o` lies in unit i, j of the register row, `r` bytes from its start. -/
structure Hit where
  reg : RegD
  i : Nat
  j : Nat
  r : Nat

/-- The hit of an offset in one row of the register index, if any (R440). -/
def RegD.hit (d : RegD) (o : Nat) : Option Hit :=
  if o < d.base then none
  else
    let x := o - d.base
    let i := x / d.s1
    let y := x % d.s1
    let j := y / d.s2
    let r := y % d.s2
    if i < d.n1 && j < d.n2 && r < d.width / 8 then some ⟨d, i, j, r⟩ else none

/-- The register that an offset lies in. -/
def locate (tab : List RegD) (o : Nat) : Option Hit := tab.findSome? fun d => d.hit o

/-- The fields of the unit that was hit. -/
def Hit.fields (h : Hit) : List (Fld × Acc × Bool) := h.reg.fields h.i h.j

/-- The bytes that one value of the register spans: 4, or 8 for each half of a wider register (R442). -/
def Hit.unit (h : Hit) : Nat := if h.reg.width = 32 then 4 else 8

/-- What a read of a field returns (Table 00-2): a WO field reads 0. -/
def fieldValue (val : Fld → Nat) (f : Fld) (a : Acc) : Nat := if a = .wo then 0 else val f

/-- Bits `lo` to `lo + n - 1` of the register that was hit, from the values of its fields (R2, R4). -/
def Hit.read (h : Hit) (val : Fld → Nat) (lo n : Nat) : Nat :=
  bits ((h.fields.map fun x => fieldValue val x.1 x.2.1 * 2 ^ x.1.lo).foldl (· + ·) 0) lo n

/-- The write of one field under its access code; a write of RO, RC and WO fields stores nothing (Table 00-2). Fields whose writes
have a command of their own are left to that command. -/
def Run.writeField (r : Run s₀) (f : Fld) (a : Acc) (own : Bool) (v : Nat) : Run s₀ :=
  if own then r
  else match a with
    | .rw | .sh => r.wr f v
    | .w1c => r.w1c f v
    | .w1s => r.set f (v % 2 ^ f.w)
    | .ro | .rc | .wo => r

/-- The write of the fields of a register that lie in bits `lo` to `lo + n - 1`, where `v` is the value written there. -/
def Run.writeFields (r : Run s₀) (h : Hit) (lo n v : Nat) : Run s₀ :=
  r.each (h.fields.filter fun x => lo ≤ x.1.lo && x.1.lo < lo + n) fun x r =>
    r.writeField x.1 x.2.1 x.2.2 (bits v (x.1.lo - lo) x.1.w)

/-- A read clears the RC fields it covers in the same access (Table 00-2). -/
def Run.clearOnRead (r : Run s₀) (h : Hit) (lo n : Nat) : Run s₀ :=
  r.each (h.fields.filter fun x => x.2.1 = .rc && lo ≤ x.1.lo && x.1.lo < lo + n) fun x r => r.wr x.1 0

/-- Every field of a wide register is RO, so that its reads latch (R442). -/
def Hit.latches (h : Hit) : Bool := h.reg.width != 32 && h.fields.all fun x => x.2.1 = .ro

/-- Whether BAR0 serves an offset yet: before READY only GLB is (R45). -/
def Run.served (r : Run s₀) (o : Nat) : Bool := r.on GLB_BOOT_STATUS_READY || o < 0x100000

/-- The RW and SH bits of the 32-bit word at an offset; PRESET may set these (R51). -/
def presetBits (tab : List RegD) (o : Nat) : Nat :=
  match locate tab o with
  | none => 0
  | some h => bits ((h.fields.map fun x =>
      if x.2.1 = .rw || x.2.1 = .sh then (2 ^ x.1.w - 1) * 2 ^ x.1.lo else 0).foldl (· + ·) 0) (h.r * 8) 32

end Sys2Proof.Machine
end

