-- ==== Sys2Proof/Machine/Crypto.lean ====
section
/-!
DEFINITION. SHA-512 (FIPS 180-4) and Ed25519 (RFC 8032), which the manual names for bit-stream signatures, key identifiers, seals
and unlocking (R52, R53, R64, R279, R415).
-/
namespace Sys2Proof.Machine

/-! ## SHA-512 -/

/-- Constants 0 to 19 of SHA-512. -/
def shaK0 : List Nat :=
  [0x428A2F98D728AE22, 0x7137449123EF65CD, 0xB5C0FBCFEC4D3B2F, 0xE9B5DBA58189DBBC, 0x3956C25BF348B538,
   0x59F111F1B605D019, 0x923F82A4AF194F9B, 0xAB1C5ED5DA6D8118, 0xD807AA98A3030242, 0x12835B0145706FBE,
   0x243185BE4EE4B28C, 0x550C7DC3D5FFB4E2, 0x72BE5D74F27B896F, 0x80DEB1FE3B1696B1, 0x9BDC06A725C71235,
   0xC19BF174CF692694, 0xE49B69C19EF14AD2, 0xEFBE4786384F25E3, 0x0FC19DC68B8CD5B5, 0x240CA1CC77AC9C65]

/-- Constants 20 to 39 of SHA-512. -/
def shaK1 : List Nat :=
  [0x2DE92C6F592B0275, 0x4A7484AA6EA6E483, 0x5CB0A9DCBD41FBD4, 0x76F988DA831153B5, 0x983E5152EE66DFAB,
   0xA831C66D2DB43210, 0xB00327C898FB213F, 0xBF597FC7BEEF0EE4, 0xC6E00BF33DA88FC2, 0xD5A79147930AA725,
   0x06CA6351E003826F, 0x142929670A0E6E70, 0x27B70A8546D22FFC, 0x2E1B21385C26C926, 0x4D2C6DFC5AC42AED,
   0x53380D139D95B3DF, 0x650A73548BAF63DE, 0x766A0ABB3C77B2A8, 0x81C2C92E47EDAEE6, 0x92722C851482353B]

/-- Constants 40 to 59 of SHA-512. -/
def shaK2 : List Nat :=
  [0xA2BFE8A14CF10364, 0xA81A664BBC423001, 0xC24B8B70D0F89791, 0xC76C51A30654BE30, 0xD192E819D6EF5218,
   0xD69906245565A910, 0xF40E35855771202A, 0x106AA07032BBD1B8, 0x19A4C116B8D2D0C8, 0x1E376C085141AB53,
   0x2748774CDF8EEB99, 0x34B0BCB5E19B48A8, 0x391C0CB3C5C95A63, 0x4ED8AA4AE3418ACB, 0x5B9CCA4F7763E373,
   0x682E6FF3D6B2B8A3, 0x748F82EE5DEFB2FC, 0x78A5636F43172F60, 0x84C87814A1F0AB72, 0x8CC702081A6439EC]

/-- Constants 60 to 79 of SHA-512. -/
def shaK3 : List Nat :=
  [0x90BEFFFA23631E28, 0xA4506CEBDE82BDE9, 0xBEF9A3F7B2C67915, 0xC67178F2E372532B, 0xCA273ECEEA26619C,
   0xD186B8C721C0C207, 0xEADA7DD6CDE0EB1E, 0xF57D4F7FEE6ED178, 0x06F067AA72176FBA, 0x0A637DC5A2C898A6,
   0x113F9804BEF90DAE, 0x1B710B35131C471B, 0x28DB77F523047D84, 0x32CAAB7B40C72493, 0x3C9EBE0A15C9BEBC,
   0x431D67C49C100D4C, 0x4CC5D4BECB3E42B6, 0x597F299CFC657E2A, 0x5FCB6FAB3AD6FAEC, 0x6C44198C4A475817]

/-- The initial hash value of SHA-512. -/
def shaH : List Nat :=
  [0x6A09E667F3BCC908, 0xBB67AE8584CAA73B, 0x3C6EF372FE94F82B, 0xA54FF53A5F1D36F1,
   0x510E527FADE682D1, 0x9B05688C2B3E6C1F, 0x1F83D9ABFB41BD6B, 0x5BE0CD19137E2179]

/-- A 64-bit word rotated right by `n`. -/
def rotr64 (n x : Nat) : Nat := (x / 2 ^ n) ||| (x % 2 ^ n * 2 ^ (64 - n))

/-- The message schedule: each further word from the 16 before it, newest first (FIPS 180-4). -/
def shaSchedule : Nat → List Nat → List Nat
  | 0, w => w
  | n + 1, w =>
    let x := w.getD 14 0
    let y := w.getD 1 0
    let s0 := rotr64 1 x ^^^ rotr64 8 x ^^^ (x / 2 ^ 7)
    let s1 := rotr64 19 y ^^^ rotr64 61 y ^^^ (y / 2 ^ 6)
    shaSchedule n ((w.getD 15 0 + s0 + w.getD 6 0 + s1) % 2 ^ 64 :: w)

/-- One round over the eight working words. -/
def shaRound (v : List Nat) (kw : Nat × Nat) : List Nat :=
  match v with
  | [a, b, c, d, e, f, g, h] =>
    let t1 := (h + (rotr64 14 e ^^^ rotr64 18 e ^^^ rotr64 41 e) + ((e &&& f) ^^^ ((2 ^ 64 - 1 - e) &&& g)) + kw.1 + kw.2) % 2 ^ 64
    let t2 := (rotr64 28 a ^^^ rotr64 34 a ^^^ rotr64 39 a) + ((a &&& b) ^^^ (a &&& c) ^^^ (b &&& c))
    [(t1 + t2) % 2 ^ 64, a, b, c, (d + t1) % 2 ^ 64, e, f, g]
  | _ => v

/-- A big-endian number. -/
def ofBe (l : List Byte) : Nat := l.foldl (fun a b => a * 256 + b.toNat) 0

/-- The hash value after one 128-byte block. -/
def shaBlock (h : List Nat) (block : List Byte) : List Nat :=
  let w := ((List.range 16).map fun k => ofBe ((block.drop (8 * k)).take 8)).reverse
  let v := ((shaK0 ++ shaK1 ++ shaK2 ++ shaK3).zip (shaSchedule 64 w).reverse).foldl shaRound h
  List.zipWith (fun a b => (a + b) % 2 ^ 64) h v

/-- The blocks of a padded message. -/
def shaBlocks : Nat → List Nat → List Byte → List Nat
  | 0, h, _ => h
  | n + 1, h, m => shaBlocks n (shaBlock h (m.take 128)) (m.drop 128)

/-- SHA-512 of bytes. -/
def sha512 (m : List Byte) : List Byte :=
  let pad := (239 - m.length % 128) % 128
  let m := m ++ 0x80#8 :: List.replicate pad 0#8 ++ (le 16 (8 * m.length)).reverse
  (shaBlocks (m.length / 128) shaH m).flatMap fun x => (le 8 x).reverse

/-! ## Ed25519 -/

/-- The field prime 2^255 - 19. -/
def edP : Nat := 2 ^ 255 - 19

/-- The order of the base point. -/
def edL : Nat := 2 ^ 252 + 27742317777372353535851937790883648493

/-- The curve constant d. -/
def edD : Nat := 37095705934669439343138083508754565189542113879843219016388785533085940283555

/-- `a ^ e` modulo p over the low bits of the exponent, most significant first. -/
def edPow (a e bits : Nat) : Nat := (msbBits bits e).foldl (fun x b => if b then x * x % edP * a % edP else x * x % edP) 1

/-- A point in extended homogeneous coordinates. -/
structure EdPoint where
  x : Nat
  y : Nat
  z : Nat
  t : Nat
  deriving DecidableEq, Repr

/-- The neutral point. -/
def edZero : EdPoint := ⟨0, 1, 1, 0⟩

/-- The base point. -/
def edBase : EdPoint :=
  let x := 15112221349535400772501151409588531511454012693041857206046113283949847762202
  let y := 46316835694926478169428394003475163141307993866256225615783033603165251855960
  ⟨x, y, 1, x * y % edP⟩

/-- Addition (RFC 8032, 5.1.4). -/
def edAdd (p q : EdPoint) : EdPoint :=
  let a := (p.y + edP - p.x) * (q.y + edP - q.x) % edP
  let b := (p.y + p.x) * (q.y + q.x) % edP
  let c := 2 * p.t * q.t % edP * edD % edP
  let d := 2 * p.z * q.z % edP
  let e := b + edP - a
  let f := d + edP - c
  let g := d + c
  let h := b + a
  ⟨e * f % edP, g * h % edP, f * g % edP, e * h % edP⟩

/-- A multiple of a point: `k` below 2^`bits`. -/
def edMul (bits k : Nat) (p : EdPoint) : EdPoint :=
  (msbBits bits k).foldl (fun r b => if b then edAdd (edAdd r r) p else edAdd r r) edZero

/-- Two points are equal. -/
def edSame (p q : EdPoint) : Bool := p.x * q.z % edP == q.x * p.z % edP && p.y * q.z % edP == q.y * p.z % edP

/-- The point that 32 bytes encode, if any (RFC 8032, 5.1.3). -/
def edDecode (l : List Byte) : Option EdPoint :=
  let v := ofLe (l.take 32)
  let y := v % 2 ^ 255
  let sign := v / 2 ^ 255 % 2
  if l.length ≠ 32 ∨ edP ≤ y then none
  else
    let u := (y * y + edP - 1) % edP
    let w := (edD * (y * y % edP) + 1) % edP
    let w3 := w * w % edP * w % edP
    let w7 := w3 * w3 % edP * w % edP
    let x := u * w3 % edP * edPow (u * w7 % edP) ((edP - 5) / 8) 252 % edP
    let vx := w * (x * x % edP) % edP
    let root := if vx = u then some x else if vx = (edP - u) % edP then some (x * edPow 2 ((edP - 1) / 4) 253 % edP) else none
    match root with
    | none => none
    | some x =>
      if x = 0 ∧ sign = 1 then none
      else
        let x := if x % 2 = sign then x else edP - x
        some ⟨x, y, 1, x * y % edP⟩

/-- The 32 bytes of a point. -/
def edEncode (p : EdPoint) : List Byte :=
  let i := edPow p.z (edP - 2) 255
  le 32 (p.y * i % edP + p.x * i % edP % 2 * 2 ^ 255)

/-- 32 bytes decode as a curve point under RFC 8032 (R64). -/
def curvePoint (l : List Byte) : Bool := (edDecode l).isSome

/-- The signature of a message by a public key verifies under RFC 8032, 5.1.7, by the group equation with the cofactor, which
RFC 8032 lays down (R52; assumption 30). -/
def ed25519Verify (key msg sig : List Byte) : Bool :=
  match edDecode key, edDecode (sig.take 32) with
  | some a, some r =>
    let s := ofLe ((sig.drop 32).take 32)
    let k := ofLe (sha512 (sig.take 32 ++ key ++ msg)) % edL
    sig.length == 64 && decide (s < edL)
      && edSame (edMul 4 8 (edMul 253 s edBase)) (edAdd (edMul 4 8 r) (edMul 4 8 (edMul 253 k a)))
  | _, _ => false

/-- The secret scalar and the prefix that a 32-byte private key expands to (RFC 8032, 5.1.5). -/
def edExpand (seed : List Byte) : Nat × List Byte :=
  let h := sha512 seed
  let a := ofLe (h.take 32)
  (a % 2 ^ 254 / 8 * 8 + 2 ^ 254, h.drop 32)

/-- The public key of a private key. -/
def edPublic (seed : List Byte) : List Byte := edEncode (edMul 255 (edExpand seed).1 edBase)

/-- The Ed25519 signature of a message (RFC 8032, 5.1.6). -/
def edSign (seed msg : List Byte) : List Byte :=
  let (a, pre) := edExpand seed
  let key := edPublic seed
  let r := ofLe (sha512 (pre ++ msg)) % edL
  let rb := edEncode (edMul 253 r edBase)
  let k := ofLe (sha512 (rb ++ key ++ msg)) % edL
  rb ++ le 32 ((r + k * a) % edL)

/-- The private half of this unit's identity key, which never leaves SEC (R53). -/
def identitySeed : List Byte := padTo 32 Config.identitySeed

/-- The 32-byte public half of this unit's identity key (R53, R306). -/
def identityKey : List Byte := edPublic identitySeed

/-- A signature by this unit's identity key (R53, R279). -/
def identitySign (msg : List Byte) : List Byte := edSign identitySeed msg

end Sys2Proof.Machine
end

