-- ==== Sys2Proof/Machine/Cfg.lean ====
section
/-!
DEFINITION. Reading the records of the woven bit-stream (R49, R50), the states in which a record is armed or active (R445)
and the negotiated features (R59).
-/
namespace Sys2Proof.Machine
variable {s₀ : State}

/-- The bytes of the record of a REC_TYPE and INDEX among a list of records; none when there is no such record. -/
def findRec (cfg : List CfgRec) (type index : Nat) : Option (List Byte) :=
  (cfg.find? fun c => c.type == type && c.index == index).map CfgRec.body

/-- The device has the reader role (R33). -/
def Run.reader (r : Run s₀) : Bool := r.on GLB_MODE_ROLE

/-- The mode whose limits apply: in the reader role Packed is treated as Balanced (R33). -/
def effMode (mode : Nat) (reader : Bool) : Nat := if reader && mode == 1 then 2 else mode

/-- The sample frames that an AUD packet of `ch` channels holds at most: 512, and no more than a LEN of 2,049 (R181). -/
def audFrames (ch : Nat) : Nat := min 512 (4092 / max 1 ch)

/-- A record of what the reader role powers down: an intake lane, a bundle, a virtual stream, a context, an engine or a mosaic
(R32). -/
def cameraOnly (type index : Nat) : Bool :=
  (type == 0x0301 && index < 24) || type == 0x0401 || type == 0x0402 || type == 0x0501 || type == 0x0502 || type == 0x0601

/-- The woven records in force: in the reader role those of units that are powered down are not (R32). -/
def Run.records (r : Run s₀) : List CfgRec :=
  if r.reader then r.u.glb.cfg.filter fun c => !cameraOnly c.type c.index else r.u.glb.cfg

/-- The woven record of a REC_TYPE and INDEX; empty when there is none. -/
def Run.cfg (r : Run s₀) (type index : Nat) : List Byte := (findRec r.records type index).getD []

/-- Whether the woven bit-stream holds the record. -/
def Run.hasCfg (r : Run s₀) (type index : Nat) : Bool := (findRec r.records type index).isSome

/-- `n` bytes at an offset of the woven record, as a number. -/
def Run.cfgN (r : Run s₀) (type index off n : Nat) : Nat := field (r.cfg type index) off n

/-- The indices of the woven records of a REC_TYPE, in bit-stream order. -/
def Run.cfgIdx (r : Run s₀) (type : Nat) : List Nat := (r.records.filter fun c => c.type == type).map CfgRec.index

/-- A record is armed or active (R445). -/
def Run.recording (r : Run s₀) : Bool := 1 ≤ r.rd MAG_REC_STATUS_STATE && r.rd MAG_REC_STATUS_STATE ≤ 4

/-- The negotiated 128-bit feature set; 0 while no set is locked (R59). -/
def Run.features (r : Run s₀) : Nat := if r.on GLB_FEAT_CTL_LOCKED then r.u.glb.feat else 0

/-- Feature Fn is negotiated. -/
def Run.feature (r : Run s₀) (n : Nat) : Bool := bit r.features n

/-- The first byte of a polder. -/
def Run.polder (r : Run s₀) (p : Nat) : Nat := r.rd (MEM_POLDER_BASE p)

/-- Requester u may read polder p (Table 13-5). -/
def Run.mayRead (r : Run s₀) (p u : Nat) : Bool := bit (r.rd (MEM_POLDER_RIGHTS_READ p)) u

/-- Requester u may write polder p. -/
def Run.mayWrite (r : Run s₀) (p u : Nat) : Bool := bit (r.rd (MEM_POLDER_RIGHTS_WRITE p)) u

/-- The polder that holds all `n` bytes from address `a`, if any. -/
def Run.polderOf (r : Run s₀) (a n : Nat) : Option Nat :=
  lowest (fun p => r.rd (MEM_POLDER_BASE p) ≤ a && a + n ≤ r.rd (MEM_POLDER_BASE p) + r.rd (MEM_POLDER_SIZE p)) 32

/-- The VS record that binds a context, if any. -/
def Run.vsOfCtx (r : Run s₀) (ctx : Nat) : Option Nat := (List.range 16).find? fun v => r.hasCfg 0x0402 v && r.cfgN 0x0402 v 9 1 == ctx

/-- The firmware duties of warden core k run: the firmware has been started, core k has no failover pending, and no firmware is
being replaced; a replacement begins once every other fetched command has completed (R45, R62, R400). -/
def Run.duty (r : Run s₀) (k : Nat) : Bool :=
  let g := r.u.glb
  let replacing := g.change == .activate && r.u.qif.cmds.all fun c => (g.job.map Prod.fst) == some c.no
  !(List.contains [Phase.held, .pll, .fwLoad, .halt, .recovery, .warmFw] g.phase) && !replacing && !r.u.evt.failing.contains k

end Sys2Proof.Machine
end

