-- ==== Sys2Proof/Machine/Dram.lean ====
section
/-!
DEFINITION. How every unit reaches DRAM: polder rights (R349), channels and banks (R336, R337, R250), poisoned reads
(R346, R350, R397), and the parity rows of the recording polder (R250 to R253).
-/
namespace Sys2Proof.Machine
variable {s₀ : State}

/-! ## Addresses -/

/-- The channel of DRAM byte a outside the recording polder (R336). -/
def channelOf (a : Nat) : Nat := bits a 8 4

/-- The local address of DRAM byte a on its channel (R336). -/
def localAddr (a : Nat) : Nat := a / 2 ^ 12 * 2 ^ 8 + a % 2 ^ 8

/-- The parity of the 1 bits of a 40-bit number. -/
def parity (v : Nat) : Nat := popcount 40 v % 2

/-- The bank, BA[1:0] above BG[1:0], of a local address (R337). -/
def Run.bankOf (r : Run s₀) (l : Nat) : Nat :=
  ((List.range 4).map fun i => parity (l &&& r.rd (MEM_XOR_MASK i)) * 2 ^ i).foldl (· + ·) 0

/-- The row of a local address: L[N-1:15], with rank bit N-1 left out when two ranks are fitted (Table 13-1). -/
def Run.rowOf (r : Run s₀) (l : Nat) : Nat := bits l 15 (r.rd MEM_CFG_CH_LOG2 - 15 - r.rd MEM_CFG_RANKS)

/-- The number of rows of a bank (Table 13-1). -/
def Run.rowCount (r : Run s₀) : Nat := 2 ^ (r.rd MEM_CFG_CH_LOG2 - 15 - r.rd MEM_CFG_RANKS)

/-- The recording polder, when a MAGCFG record names one (R250). -/
def Run.recPolder (r : Run s₀) : Option Nat := if r.hasCfg 0x0A01 0 then some (r.cfgN 0x0A01 0 0x10 1) else none

/-- Channel c is retired (Table 13-12). -/
def Run.retired (r : Run s₀) (c : Nat) : Bool := bit (r.rd MEM_CFG_RETIRED) c

/-- How many DRAM channels are retired. -/
def Run.retiredCount (r : Run s₀) : Nat := popcount 16 (r.rd MEM_CFG_RETIRED)

/-! ## Rights and poison -/

/-- A refused access of requester u: a breach record of TYPE 15 (R349, R401). -/
def Run.refused (r : Run s₀) (u a event detector : Nat) : Run s₀ :=
  r.breach { type := 15, index := u, cls := 3, detector := detector, event := event, detail0 := a }

/-- Requester u may make the access: inside one polder whose right it holds, or in the staging area, which MAG and QIF
alone may use (R349). -/
def Run.allowed (r : Run s₀) (u : Nat) (write : Bool) (a n : Nat) : Bool :=
  match r.polderOf a n with
  | some p => if write then r.mayWrite p u else r.mayRead p u
  | none => (u = 1 || u = 12) && r.rd MEM_STAGE_BASE_ADDR ≤ a && a + n ≤ r.rd MEM_STAGE_BASE_ADDR + 0x10000000

/-- The 256-byte blocks that a range touches. -/
def blocksOf (a n : Nat) : List Nat := if n = 0 then [] else (List.range ((a + n - 1) / 256 - a / 256 + 1)).map fun k => (a / 256 + k) * 256

/-- The first block of a range, outside the recording polder, that reads poisoned: its last read was uncorrectable, or it
lies on a retired channel (R346, R350). -/
def Run.poisonedBlock (r : Run s₀) (a n : Nat) : Option Nat :=
  if r.u.mem.poison.isEmpty && r.rd MEM_CFG_RETIRED == 0 then none
  else if (r.polderOf a n).isSome && r.polderOf a n == r.recPolder then none
  else (blocksOf a n).find? fun b => r.u.mem.poison.contains b || r.retired (channelOf b)

/-- The effects of an uncorrectable read of block b (R346). -/
def Run.uncorrectable (r : Run s₀) (b : Nat) : Run s₀ :=
  let c := channelOf b
  ((r.sat (MEM_CH_ERR_UE c)).wr MEM_UE_ADDR_ADDR b).ev (448 + c)

/-- What a unit gets from a DRAM read: whether it was allowed, whether it is poisoned, and the bytes; a refused read
returns zeros (R349). -/
structure Got where
  ok : Bool
  poison : Bool
  bytes : List Byte

/-- The bytes of a range; a block on a retired channel reads zeros (R350). -/
def Run.rawBytes (r : Run s₀) (a n : Nat) : List Byte :=
  if r.rd MEM_CFG_RETIRED = 0 then r.bytes a n
  else (List.range n).map fun k => if r.retired (channelOf (a + k)) then 0#8 else r.byte (a + k)

/-- What requester u reads at a range, without the effects of a refusal or of poison. -/
def Run.peekMem (r : Run s₀) (u a n : Nat) : Got :=
  if r.allowed u false a n then ⟨true, (r.poisonedBlock a n).isSome, r.rawBytes a n⟩
  else ⟨false, false, List.replicate n 0#8⟩

/-- A unit that receives a poisoned read writes a type 5 breach record of CLASS 1; a read from a retired channel is an
uncorrectable read (R397, R350). -/
def Run.poisonRead (r : Run s₀) (a n : Nat) : Run s₀ :=
  match r.poisonedBlock a n with
  | none => r
  | some b =>
    let r := r.when (r.retired (channelOf b)) fun r => r.uncorrectable b
    r.breach { type := 5, index := channelOf b, cls := 1, detector := 1, event := 448 + channelOf b, detail0 := b }

/-- Requester u reads `n` bytes at `a`, with the breach record of a refusal or of poison. -/
def Run.load? (r : Run s₀) (u a n : Nat) (f : Got → Run s₀ → Run s₀) : Run s₀ :=
  let g := r.peekMem u a n
  if g.ok then f g (r.poisonRead a n) else f g (r.refused u a 0xFFFFFFFF 0)

/-- Bytes written to DRAM outside the recording polder: writes to blocks on a retired channel are discarded (R350), and a
written block is judged afresh at its next read. -/
def Run.rawStore (r : Run s₀) (a : Nat) (bs : List Byte) : Run s₀ :=
  let r := r.when (!r.u.mem.poison.isEmpty) fun r => r.memu fun m =>
    { m with poison := m.poison.filter fun b => b + 256 ≤ a || a + bs.length ≤ b }
  if r.rd MEM_CFG_RETIRED = 0 then r.storeBytes a bs
  else
    let rec go : Nat → List Byte → Run s₀ → Run s₀
      | _, [], r => r
      | a, b :: bs, r => go (a + 1) bs (if r.retired (channelOf a) then r else r.poke a b)
    go a bs r

/-- Requester u writes bytes at `a`; a refused write is discarded and recorded (R349). -/
def Run.store? (r : Run s₀) (u a : Nat) (bs : List Byte) : Run s₀ :=
  if r.allowed u true a bs.length then r.rawStore a bs else r.refused u a 0xFFFFFFFF 0

/-! ## The recording polder -/

/-- The DRAM address of data byte a of the recording polder (R250). -/
def recAddr (base a : Nat) : Nat :=
  let row := a / 3840
  base + row * 4096 + (row + 1 + a % 3840 / 256) % 16 * 256 + a % 256

/-- The DRAM address of the parity byte at position k of parity row `row` (R250). -/
def recParity (base row k : Nat) : Nat := base + row * 4096 + row % 16 * 256 + k

/-- The channel of data block j of parity row `row`, 15 for the parity block (R250). -/
def recChannel (row j : Nat) : Nat := if j = 15 then row % 16 else (row + 1 + j) % 16

/-- Block j of parity row `row` cannot be read: its channel is retired, or its last read was uncorrectable and it was not
written since (R252). -/
def Run.blockBad (r : Run s₀) (base row j : Nat) : Bool :=
  let c := recChannel row j
  r.retired c || r.u.mem.poison.contains (base + row * 4096 + c * 256)

/-- How many blocks of a parity row cannot be read. -/
def Run.rowBad (r : Run s₀) (base row : Nat) : Nat := ((List.range 16).filter fun j => r.blockBad base row j).length

/-- The parity rows of a range of data bytes. -/
def rowsOf (a n : Nat) : List Nat := if n = 0 then [] else (List.range ((a + n - 1) / 3840 - a / 3840 + 1)).map fun k => a / 3840 + k

/-- Whether every parity row of a range can be read or rebuilt: at most one unavailable block in each (R252). -/
def Run.recReadable (r : Run s₀) (base a n : Nat) : Bool :=
  if r.u.mem.poison.isEmpty && r.rd MEM_CFG_RETIRED == 0 then true else (rowsOf a n).all fun row => r.rowBad base row ≤ 1

/-- One data byte, rebuilt as the XOR of its row's other blocks when its own block cannot be read (R252). -/
def Run.recByte (r : Run s₀) (base a : Nat) : Byte :=
  let row := a / 3840
  let j := a % 3840 / 256
  let k := a % 256
  if r.blockBad base row j then
    ((List.range 15).filter (· != j)).foldl (fun x i => x ^^^ r.byte (recAddr base (row * 3840 + i * 256 + k))) (r.byte (recParity base row k))
  else r.byte (recAddr base a)

/-- ITK writes data byte a with its parity, the XOR of the row's data bytes at that position; a block on a retired channel is omitted,
and the row's blocks are judged afresh at their next read (R251 to R253). -/
def Run.recPoke (r : Run s₀) (base a : Nat) (b : Byte) : Run s₀ :=
  let row := a / 3840
  let j := a % 3840 / 256
  let k := a % 256
  let parity := (List.range 15).foldl (fun x i => x ^^^ (if i = j then b else r.recByte base (row * 3840 + i * 256 + k))) 0#8
  let r := r.when (!r.u.mem.poison.isEmpty) fun r => r.memu fun m =>
    { m with poison := m.poison.filter fun p => p + 256 ≤ base + row * 4096 || base + (row + 1) * 4096 ≤ p }
  let r := if r.retired (recChannel row j) then r else r.poke (recAddr base a) b
  if r.retired (recChannel row 15) then r else r.poke (recParity base row k) parity

/-- ITK writes bytes to the recording polder's data space from data byte a (R251, R253). -/
def Run.recStore (r : Run s₀) (base : Nat) : Nat → List Byte → Run s₀
  | _, [] => r
  | a, b :: bs => Run.recStore (r.recPoke base a b) base (a + 1) bs

/-- Data bytes of the recording polder. -/
def Run.recBytes (r : Run s₀) (base a n : Nat) : List Byte := (List.range n).map fun k => r.recByte base (a + k)

/-- The counts of a read of a range of the recording polder: REBUILT for each block rebuilt, and LOST_ROWS with GLB event
17 for each unrecoverable row (R252). Blocks found uncorrectable are unavailable only for this read. -/
def Run.recRead (r : Run s₀) (base a n : Nat) : Run s₀ :=
  if r.u.mem.poison.isEmpty && r.rd MEM_CFG_RETIRED == 0 then r
  else
    let r := r.each (rowsOf a n) fun row r =>
      let bad := (List.range 15).filter fun j => r.blockBad base row j
      if r.rowBad base row ≤ 1 then r.sat MAG_PARITY_COUNT_REBUILT bad.length
      else (r.sat MAG_PARITY_COUNT_LOST_ROWS).ev 17
    r.memu fun m => { m with poison := m.poison.filter fun b => b + 256 ≤ base + a / 3840 * 4096 || base + ceilDiv (a + n) 3840 * 4096 ≤ b }

end Sys2Proof.Machine
end

