-- ==== Sys2Proof/Machine/Time.lean ====
section
/-!
DEFINITION. Time bases, servo, TSEL, PTP, markers, timecode (R362 to R378, R390).
-/
namespace Sys2Proof.Machine
variable {s₀ : State}

/-! ## Bases -/

/-- Change what base n holds beside its registers. -/
def Run.tbMod (r : Run s₀) (n : Nat) (f : Tb → Tb) : Run s₀ := r.tim fun t => { t with tb := t.tb.put n (f (t.tb.look n {})) }

/-- INCR_eff of base n (R366). -/
def Run.effIncr (r : Run s₀) (n : Nat) : Nat :=
  let i := r.rd (TIM_TB_INCR_INCR n)
  if r.on (TIM_TB_CTL_COMP_EN n) then
    (clamp 0x03800000 0x04800000 ((i : Int) + asr ((i : Int) * r.u.tim.c + 2 ^ 31) 32)).toNat
  else i

/-- The effective increment of base n follows INCR, COMP_EN and c (R366). -/
def Run.updateEff (r : Run s₀) (n : Nat) : Run s₀ := r.wr (TIM_TB_EFF_INCR n) (r.effIncr n)

/-- Set Δ and the registers that show it (R374, R375). -/
def Run.setDelta (r : Run s₀) (d : Int) : Run s₀ :=
  ((r.tim fun t => { t with delta := d }).wrSat TIM_TSEL_DELTA d).wr TIM_TSEL_STATUS_SLEWING (b2n (d != 0))

/-- `n` TCLK cycles pass for the bases and for Δ: each base adds its effective increment, shifted by 8 bits, and Δ moves
toward 0 by SLEW units a cycle; event 468 when it reaches 0 (R364, R375). -/
def Run.tclk (r : Run s₀) (n : Nat) : Run s₀ :=
  let r := r.each (List.range 4) fun k r => r.tbMod k fun b => { b with t := b.t + n * (r.rd (TIM_TB_EFF_INCR k) * 256) }
  let d := r.u.tim.delta
  if d = 0 then r
  else
    let m := min d.natAbs (n * r.rd TIM_TSEL_CTL_SLEW)
    let d' := if d < 0 then d + m else d - m
    (r.setDelta d').when (d' == 0) fun r => r.ev 468

/-- One CCLK cycle passes; TCLK runs at half of CCLK (Table 00-3). -/
def Run.cycle (r : Run s₀) : Run s₀ :=
  let r := r.tick 1
  if r.now % 2 = 0 then r.tclk 1 else r

/-- Add a signed number of 2^-32 ns units to base n; TSEL does not step once it is ESTABLISHED (R374). -/
def Run.stepBase (r : Run s₀) (n : Nat) (v : Int) : Run s₀ :=
  let r := r.tbMod n fun b => { b with t := ((b.t : Int) + v).toNat }
  if r.on TIM_TSEL_STATUS_ESTABLISHED && r.rd TIM_TSEL_STATUS_SRC_USED == n then r.setDelta (r.u.tim.delta - v) else r

/-- TSEL becomes ESTABLISHED (R374). -/
def Run.establish (r : Run s₀) : Run s₀ := r.wr TIM_TSEL_STATUS_ESTABLISHED 1

/-- TSEL switches to base b: continuous through Δ once it is ESTABLISHED (R375). -/
def Run.switchTsel (r : Run s₀) (b : Nat) : Run s₀ :=
  if r.rd TIM_TSEL_STATUS_SRC_USED = b then r
  else
    let q := r.tselQ
    let r := r.wr TIM_TSEL_STATUS_SRC_USED b
    let r := if r.on TIM_TSEL_STATUS_ESTABLISHED then r.setDelta ((q : Int) - (r.tb b).t) else r.setDelta 0
    let r := r.when (r.rd (TIM_TB_CTL_STATE b) == 2) Run.establish
    r.ev 468

/-- The state of base n changes: event 464 + n; TSEL follows the rules of R374 and R376. -/
def Run.setBaseState (r : Run s₀) (n st : Nat) : Run s₀ :=
  let old := r.rd (TIM_TB_CTL_STATE n)
  if old = st then r
  else
    let r := ((r.wr (TIM_TB_CTL_STATE n) st).tbMod n fun b => { b with good := 0, far := 0 }).ev (464 + n)
    let mine := r.rd TIM_TSEL_STATUS_SRC_USED == n
    let r := r.when (mine && st == 2) Run.establish
    let alt := r.rd TIM_TSEL_CTL_ALT
    r.when (mine && old == 2 && r.on TIM_TSEL_CTL_AUTO && alt != n && r.rd (TIM_TB_CTL_STATE alt) == 2) fun r => r.switchTsel alt

/-- Base n is retired (Table 15-2). -/
def Run.baseRetired (r : Run s₀) (n : Nat) : Bool := bit (r.rd EVT_COFFERDAM_UNITS_TB) n

/-- The source of base n is present: HOLDOVER goes to ACQUIRE, and so does FREE with SERVO_EN = 1 (Table 14-2). A retired base stays
FREE. -/
def Run.sourcePresent (r : Run s₀) (n : Nat) : Run s₀ :=
  let r := r.tbMod n fun b => { b with present := true }
  let st := r.rd (TIM_TB_CTL_STATE n)
  r.when (!r.baseRetired n && (st == 3 || (st == 0 && r.on (TIM_TB_CTL_SERVO_EN n)))) fun r => r.setBaseState n 1

/-- SERVO_EN of base n was written (Table 14-2). -/
def Run.servoEnable (r : Run s₀) (n : Nat) : Run s₀ :=
  if !r.on (TIM_TB_CTL_SERVO_EN n) then r.setBaseState n 0
  else r.when ((r.tb n).present && r.rd (TIM_TB_CTL_STATE n) == 0 && !r.baseRetired n) fun r => r.setBaseState n 1

/-- The mean of a list, rounded half up (R7). -/
def meanOf (l : List Nat) : Nat := (2 * l.foldl (· + ·) 0 + l.length) / (2 * l.length)

/-- The source of base n is lost (R368): ACQUIRE and LOCKED go to HOLDOVER at the mean INCR of the last 16 measurements. A source
that is not present cannot be lost again. -/
def Run.loseSource (r : Run s₀) (n : Nat) : Run s₀ :=
  if !(r.tb n).present then r
  else
    let r := r.tbMod n fun b => { b with present := false }
    let r := r.when (n == 2) fun r => r.ev 469
    let r := r.when (n == 3) fun r => r.ev 470
    let st := r.rd (TIM_TB_CTL_STATE n)
    if st = 1 ∨ st = 2 then
      let l := (r.tb n).incrs
      let r := r.when (!l.isEmpty) fun r => (r.wr (TIM_TB_INCR_INCR n) (meanOf l)).updateEff n
      r.setBaseState n 3
    else r

/-- The difference of a time from the nearest grid time PHASE + k * PERIOD, all in units of 2^-32 ns. -/
def gridOffset (t phase period : Nat) : Int :=
  if period = 0 then (t : Int) - phase
  else
    let d := ((t : Int) - phase) % (period : Int)
    if 2 * d > (period : Int) then d - period else d

/-- The offset of base n from its source: measured for PTP, computed from the last edge for the pins (R367). -/
def Run.baseOffset (r : Run s₀) (n : Nat) (ptp : Int) : Int :=
  if n = 2 then gridOffset (r.tb 2).edge (r.rd TIM_GL_PHASE_PHASE * 2 ^ 32) (r.rd TIM_GL_PERIOD_PERIOD * 2 ^ 16)
  else if n = 3 then gridOffset (r.tb 3).edge (r.rd TIM_PPS_PHASE_PHASE * 2 ^ 32) secondQ
  else ptp * 2 ^ 31

/-! ## Meanings: bases and servo -/

/-- A write of INCR (R365). -/
def Run.writeIncr (r : Run s₀) (n v : Nat) : Run s₀ :=
  if v < 0x03800000 ∨ 0x04800000 < v ∨ r.on (TIM_TB_CTL_SERVO_EN n) then r.ignored
  else (r.wr (TIM_TB_INCR_INCR n) v).updateEff n

/-- INCR: a host write of TIM_TB_n_INCR (R365). -/
def execIncr (n : Fin 4) (v : Nat) (s : State) : Host.Outcome State Fault Refusal := done s fun r => r.writeIncr n v

/-- A write of STEP, a signed number of ns (R365). -/
def Run.writeStep (r : Run s₀) (n v : Nat) : Run s₀ :=
  let q : Int := signed 64 v * 2 ^ 32
  if r.on (TIM_TB_CTL_SERVO_EN n) || ((r.tb n).t : Int) + q < 0 then r.ignored else r.stepBase n q

/-- STEP: a write of TIM_TB_n_STEP (R365). -/
def execStep (n : Fin 4) (v : Nat) (s : State) : Host.Outcome State Fault Refusal := done s fun r => r.writeStep n v

/-- The correction c that the table gives for a sensor reading in units of 0.25 °C (R366). -/
def compC (tbl : Nat → Int) (tq : Int) : Int :=
  let t := clamp (-160) 540 tq
  let pos := ((t + 160) * 16384 / 700).toNat
  let k := pos / 1024
  let k' := if k = 16 then 15 else k
  let f : Int := if k = 16 then 1024 else pos % 1024
  asr (tbl k' * (1024 - f) + tbl (k' + 1) * f + 512) 10

/-- COMP_UPDATE: c is recomputed from the selected sensor, or held with event 475 (R366). -/
def execCompUpdate (s : State) : Host.Outcome State Fault Refusal :=
  done s fun r =>
    let n := r.rd TIM_COMP_CTL_SENSOR
    if !r.on (THM_TS_VALID n) || bit (r.rd THM_RETIRED) n then
      (r.wr TIM_COMP_STATUS_COMP_HELD 1).ev 475
    else
      let tq := r.rdS (THM_TS_TEMP n)
      let c := compC (fun k => r.rdS (TIM_COMP k)) tq
      let r := r.tim fun t => { t with c := c }
      let r := (r.wrS TIM_COMP_STATUS_TEMP tq).wr TIM_COMP_STATUS_COMP_HELD 0
      r.each (List.range 4) fun k r => r.updateEff k

/-- The servo's filter gains are not given: it writes an INCR within 200 ppm of 4.0, here a free value (R367). -/
def Run.steer (r : Run s₀) (n : Nat) : Run s₀ :=
  r.free 32 fun v r =>
    let i := 0x04000000 - 13422 + v % 26845
    let r := (r.wr (TIM_TB_INCR_INCR n) i).updateEff n
    r.tbMod n fun b => { b with incrs := (i :: b.incrs).take 16 }

/-- SERVO_MEASUREMENT: W_3 measures base n and steps, steers or changes its state (R367). While W_3's duties are suspended each base
runs on at its last increment (R62, R400). -/
def execServoMeasurement (n : Fin 4) (offset : Int) (s : State) : Host.Outcome State Fault Refusal :=
  done s fun r =>
    let st := r.rd (TIM_TB_CTL_STATE n)
    if st = 0 || !r.duty 3 then r
    else
      let r := r.sourcePresent n
      let st := r.rd (TIM_TB_CTL_STATE n)
      let off := r.baseOffset n offset
      let a := off.natAbs
      let r := r.wrSat (TIM_TB_OFFSET n) (roundShift off 31)
      if st = 1 then
        if a > 1000 * 2 ^ 32 then (r.stepBase n (-off)).tbMod n fun b => { b with good := 0 }
        else
          let r := r.steer n
          let r := r.tbMod n fun b => { b with good := if a ≤ 100 * 2 ^ 32 then b.good + 1 else 0 }
          r.when (16 ≤ (r.tb n).good) fun r => r.setBaseState n 2
      else
        let r := r.steer n
        let r := r.tbMod n fun b => { b with far := if a > 10000 * 2 ^ 32 then b.far + 1 else 0 }
        r.when (4 ≤ (r.tb n).far) fun r => r.setBaseState n 1

/-- SOURCE_LOST (R368). -/
def execSourceLost (n : Fin 4) (s : State) : Host.Outcome State Fault Refusal := done s fun r => r.loseSource n

/-- The base TSEL goes to when base n is retired while TSEL follows it (R394). -/
def Run.fallbackBase (r : Run s₀) (n : Nat) : Option Nat :=
  let alt := r.rd TIM_TSEL_CTL_ALT
  let usable := fun k => k != n && !bit (r.rd EVT_COFFERDAM_UNITS_TB) k
  if usable alt && r.rd (TIM_TB_CTL_STATE alt) == 2 then some alt
  else (lowest (fun k => usable k && r.rd (TIM_TB_CTL_STATE k) == 2) 4).orElse fun _ => lowest usable 4

/-- TIME_BASE_FAULT: the base is retired, SERVO_EN is cleared and TSEL leaves it (Table 15-2, R394, R375). -/
def execTimeBaseFault (n : Fin 4) (s : State) : Host.Outcome State Fault Refusal :=
  done s fun r =>
    if bit (r.rd EVT_COFFERDAM_UNITS_TB) n then r
    else
      let r := r.breach { type := 11, index := n, cls := 2, action := 4, event := 464 + n }
      let r := (r.cofferdam 11 n).wr (TIM_TB_CTL_SERVO_EN n) 0
      let r := if r.rd TIM_TSEL_STATUS_SRC_USED == n then
          match r.fallbackBase n with
          | some b => r.switchTsel b
          | none => r
        else r
      r.setBaseState n 0

/-! ## Meanings: TSEL -/

/-- A write of SRC that selects another base switches TSEL (R376). -/
def Run.writeSrc (r : Run s₀) (b : Nat) : Run s₀ := (r.wr TIM_TSEL_CTL_SRC b).switchTsel (b % 4)

/-- SRC: a host write of TIM_TSEL_CTL.SRC (R376). -/
def execSrc (b : Fin 4) (s : State) : Host.Outcome State Fault Refusal := done s fun r => r.writeSrc b

/-- TSEL_REVERT: PRIMARY has been LOCKED for REVERT_S seconds with AUTO and REVERT (R376). -/
def execTselRevert (s : State) : Host.Outcome State Fault Refusal :=
  done s fun r =>
    let p := r.rd TIM_TSEL_CTL_PRIMARY
    r.when (r.on TIM_TSEL_CTL_AUTO && r.on TIM_TSEL_CTL_REVERT && r.rd (TIM_TB_CTL_STATE p) == 2) fun r => r.switchTsel p

/-- SLEW_DONE: the TCLK cycles pass that Δ needs to reach 0; event 468 (R375). -/
def execSlewDone (s : State) : Host.Outcome State Fault Refusal :=
  done s fun r => r.tclk (ceilDiv r.u.tim.delta.natAbs (r.rd TIM_TSEL_CTL_SLEW))

/-- FORCE_EST: a write of 1 to TIM_TSEL_CTL.FORCE_EST (R374). -/
def execForceEst (s : State) : Host.Outcome State Fault Refusal := done s Run.establish

/-- Capture all five snapshots in one TCLK cycle (Table 14-8). -/
def Run.snapTime (r : Run s₀) : Run s₀ :=
  let r := r.each (List.range 4) fun k r =>
    let q := (r.tb k).t
    ((r.wr (TIM_TB_SNAP_S_SEC k) (timeSec q)).wr (TIM_TB_SNAP_NS_NS k) (timeNs q)).wr (TIM_TB_SNAP_NS_FRAC k) (q % 2 ^ 32)
  let q := r.tselQ
  ((r.wr TIM_TSEL_SNAP_S_SEC (timeSec q)).wr TIM_TSEL_SNAP_NS_NS (timeNs q)).wr TIM_TSEL_SNAP_NS_FRAC (q % 2 ^ 32)

/-- TIM_SNAP: a write of TIM_SNAP.GO. -/
def execTimSnap (s : State) : Host.Outcome State Fault Refusal := done s Run.snapTime

/-! ## Markers and pins -/

/-- The pin time of a received marker on port m: t_int - LOOP / 2 + ASYM, to 0.5 ns (R363, R371). -/
def Run.pinRx (r : Run s₀) (m : Nat) (q : Nat) : Nat :=
  let t : Int := (q : Int) - r.rd (TIM_PORT_LOOP m) * 2 ^ 30 + r.rdS (TIM_PORT_ASYM m) * 2 ^ 31
  (asr t 31).toNat * 2 ^ 31

/-- The pin time of a transmitted marker on port m: t_int + LOOP / 2 + ASYM (R371). -/
def Run.pinTx (r : Run s₀) (m : Nat) (q : Nat) : Nat :=
  let t : Int := (q : Int) + r.rd (TIM_PORT_LOOP m) * 2 ^ 30 + r.rdS (TIM_PORT_ASYM m) * 2 ^ 31
  (asr t 31).toNat * 2 ^ 31

/-- GENLOCK_EDGE: a rising edge on GENLOCK_IN is timestamped against TSEL and against TB_2 (R372). -/
def execGenlockEdge (s : State) : Host.Outcome State Fault Refusal :=
  done s fun r =>
    let q := r.pinRx 48 r.tselQ
    let r := (r.wr TIM_GL_TS_SEC (timeSec q)).wr TIM_GL_TS_NS (timeNs q)
    let e := r.pinRx 48 (r.tb 2).t
    (r.tbMod 2 fun b => { b with edge := e }).sourcePresent 2

/-- PPS_EDGE: a rising edge on PPS_IN is timestamped against TSEL and against TB_3 (R372). -/
def execPpsEdge (s : State) : Host.Outcome State Fault Refusal :=
  done s fun r =>
    let q := r.pinRx 50 r.tselQ
    let r := (r.wr TIM_PPS_TS_SEC (timeSec q)).wr TIM_PPS_TS_NS (timeNs q)
    let e := r.pinRx 50 (r.tb 3).t
    (r.tbMod 3 fun b => { b with edge := e }).sourcePresent 3

/-- SYNC_OUT_PULSE: SYNC_OUT rises at a grid time while SO_EN is 1 and TSEL is ESTABLISHED (R372). -/
def execSyncOutPulse (s : State) : Host.Outcome State Fault Refusal :=
  done s fun r => r.when (r.on TIM_PULSE_CTL_SO_EN && r.on TIM_TSEL_STATUS_ESTABLISHED) fun r =>
    r.emits [.pin "SYNC_OUT" true, .pin "SYNC_OUT" false]

/-- PPS_OUT_PULSE: PPS_OUT rises at a whole TSEL second while PPS_EN is 1 and TSEL is ESTABLISHED (R372). -/
def execPpsOutPulse (s : State) : Host.Outcome State Fault Refusal :=
  done s fun r => r.when (r.on TIM_PULSE_CTL_PPS_EN && r.on TIM_TSEL_STATUS_ESTABLISHED) fun r =>
    r.emits [.pin "PPS_OUT" true, .pin "PPS_OUT" false]

/-! ## Network time -/

/-- A received frame is discarded and counted (R369). -/
def Run.discardFrame (r : Run s₀) (port : Nat) : Run s₀ := r.sat (NET_ETH_STATUS_DISCARDS port)

/-- The enabled domain instance that a PTP message of a port and domain number belongs to (R369). -/
def Run.ptpDomain (r : Run s₀) (port domain : Nat) : Option Nat :=
  lowest (fun d => r.on (NET_PTP_CFG_EN d) && r.rd (NET_PTP_CFG_PORT d) == port && r.rd (NET_PTP_CFG_DOMAIN d) == domain) 2

/-- The daily jam time of a domain changes; with JAM_SM it is copied for the domain TSEL follows (R378). -/
def Run.setJam (r : Run s₀) (d j : Nat) : Run s₀ :=
  if r.rd (NET_PTP_JAM d) = j then r
  else
    let r := r.wr (NET_PTP_JAM d) j
    r.when (r.rdA TIM_TC_CTL_JAM_SM == 1 && r.rd TIM_TSEL_STATUS_SRC_USED == d) fun r => r.wr TIM_TC_JAM j

/-- A membership report for the PTP multicast group 224.0.1.129 leaves on a port that an enabled domain instance uses (R369). -/
def Run.igmpReport (r : Run s₀) (port : Nat) : Run s₀ :=
  r.when ((List.range 2).any fun d => r.on (NET_PTP_CFG_EN d) && r.rd (NET_PTP_CFG_PORT d) == port) fun r => r.emit (.ether port 18 [0xE0000181])

/-- A PTP message's effect on its domain, or the discard of one outside the scope (R369). -/
def Run.ptpIn (r : Run s₀) (port domain : Nat) (f : Nat → Run s₀ → Run s₀) : Run s₀ :=
  match r.ptpDomain port domain with
  | some d => f d r
  | none => r.discardFrame port

/-- PTP_MESSAGE: a received Ethernet frame is answered, processed or discarded (R369, R370). -/
def execPtpMessage (m : PtpMsg) (s : State) : Host.Outcome State Fault Refusal :=
  done s fun r =>
    match m with
    | .echo port icmp => r.emit (.ether port (if icmp then 17 else 16) [])
    | .query port => r.igmpReport port
    | .announce port domain gm utc st jam => r.ptpIn port domain fun d r =>
        let r := r.when (r.rd (NET_PTP_GM d) != gm) fun r => (r.wr (NET_PTP_GM d) gm).ev (471 + d)
        let r := (r.wr (NET_PTP_STATUS_UTC_OFFSET d) utc).wr (NET_PTP_STATUS_PORT_STATE d) st
        match jam with
        | some j => r.setJam d j
        | none => r
    | .sync port domain path => r.ptpIn port domain fun d r => (r.wr (NET_PTP_PATH d) path).sourcePresent d
    | .delayReq port domain => r.ptpIn port domain fun d r =>
        let q := ((r.tb d).t - r.rd (NET_ETH_RX_ADJ port) * 2 ^ 31) / 2 ^ 31 * 2 ^ 31
        r.when (!r.on (NET_PTP_CFG_SLAVE_ONLY d)) fun r => r.emit (.ether port 9 [domain, timeSec q, timeNs q, timeFrac q])
    | .management port domain => r.ptpIn port domain fun _ r => r
    | .other port => r.discardFrame port

/-- PTP_MESSAGE_TRANSMIT: a Sync as master, which a SLAVE_ONLY instance never is, or a Delay_Req as slave leaves on a port whose link is
up, stamped at the pins to 0.5 ns with TX_ADJ (R363, R369, R370). -/
def execPtpMessageTransmit (d : Fin 2) (delayReq : Bool) (s : State) : Host.Outcome State Fault Refusal :=
  done s fun r =>
    let port := r.rd (NET_PTP_CFG_PORT d)
    r.when (r.on (NET_PTP_CFG_EN d) && r.on (NET_ETH_STATUS_LINK port) && (delayReq || !r.on (NET_PTP_CFG_SLAVE_ONLY d))) fun r =>
    let q := ((r.tb d).t + r.rd (NET_ETH_TX_ADJ port) * 2 ^ 31) / 2 ^ 31 * 2 ^ 31
    r.emit (.ether port (if delayReq then 1 else 0) [r.rd (NET_PTP_CFG_DOMAIN d), timeSec q, timeNs q, timeFrac q])

/-- ETH_LINK: an Ethernet port's link changes: event 473 + n; PTP sources on a link that went down are lost, and a link that came up
joins the PTP multicast group (R368, R369, R390). -/
def execEthLink (n : Fin 2) (up : Bool) (s : State) : Host.Outcome State Fault Refusal :=
  done s fun r =>
    if r.on (NET_ETH_STATUS_LINK n) == up then r
    else
      let r := (r.wr (NET_ETH_STATUS_LINK n) (b2n up)).ev (473 + n)
      if up then r.igmpReport n
      else r.each (List.range 2) fun d r =>
        r.when (r.on (NET_PTP_CFG_EN d) && r.rd (NET_PTP_CFG_PORT d) == n.val) fun r => r.loseSource d

/-! ## Timecode -/

/-- RNUM and RDEN of a TC_RATE code (Table 14-5). -/
def tcRate (code : Nat) : Nat × Nat :=
  if code = 0 then (24, 1) else if code = 1 then (25, 1) else if code = 2 then (30, 1) else if code = 3 then (48, 1)
  else if code = 4 then (50, 1) else if code = 5 then (60, 1) else if code = 6 then (24000, 1001)
  else if code = 7 then (30000, 1001) else if code = 8 then (48000, 1001) else if code = 9 then (60000, 1001) else (24, 1)

/-- The frame count of R378 after the drop-frame rule, modulo a day. -/
def tcFrames (num den r : Nat) (df : Bool) (tns jam offset : Int) : Nat :=
  let n0 : Int := (tns - jam) * num / (den * 1000000000 : Nat) + offset
  let n1 : Int :=
    if df then
      let k : Int := (2 * r / 30 : Nat)
      let p : Int := 600 * (r : Int) - 9 * k
      let d := n0 / p
      let m := n0 % p
      if m ≥ k then n0 + 9 * k * d + k * ((m - k) / (60 * (r : Int) - k)) else n0 + 9 * k * d
    else n0
  (n1 % (86400 * (r : Int))).toNat

/-- The timecode word of a frame count at nominal rate r (Table 14-4). -/
def tcWord (r n : Nat) (df : Bool) : Nat :=
  let f := n % r
  let sec := n / r % 60
  let min := n / (60 * r) % 60
  let hour := n / (3600 * r)
  let ff := if r > 30 then f / 2 else f
  let fp := if r > 30 then f % 2 else 0
  ff % 10 + ff / 10 * 16 + b2n df * 64 + fp * 128 + sec % 10 * 2 ^ 8 + sec / 10 * 2 ^ 12 + min % 10 * 2 ^ 16 + min / 10 * 2 ^ 20
    + hour % 10 * 2 ^ 24 + hour / 10 * 2 ^ 28

/-- The timecode at a TSEL time in ns (R377, R378). -/
def Run.timecodeAt (r : Run s₀) (tns : Nat) : Nat :=
  let code := r.rdA TIM_TC_CTL_RATE
  let (num, den) := tcRate code
  let nom := ceilDiv num den
  let df := r.rdA TIM_TC_CTL_DF == 1 && (code == 7 || code == 9)
  tcWord nom (tcFrames num den nom df tns (r.rd TIM_TC_JAM) (r.rdAS TIM_TC_CTL_OFFSET)) df

/-- The timecode now. -/
def Run.timecode (r : Run s₀) : Nat := r.timecodeAt r.tselNs

/-- NEXT of a SYNC for virtual stream n: the earliest TSEL time PHASE + k * PERIOD at least LEAD µs after a time, all in
units of 2^-32 ns (R373). -/
def Run.nextExposure (r : Run s₀) (n q : Nat) : Nat :=
  let period := r.rd (TIM_VS_NEXT_PERIOD_PERIOD n) * 2 ^ 16
  let phase := r.rd (TIM_VS_NEXT_PHASE_PHASE n) * 2 ^ 32
  let t := q + r.rd (TIM_VS_NEXT_CTL_LEAD n) * 1000 * 2 ^ 32
  if t ≤ phase then phase else phase + ceilDiv (t - phase) period * period

end Sys2Proof.Machine
end

