-- ==== Sys2Proof/Machine/Audio.lean ====
section
/-!
DEFINITION. The audio ports: framing, samples, states, rings and media frames (R379 to R390).
-/
namespace Sys2Proof.Machine
variable {s₀ : State}

/-! ## The AUPORT record (Table 14-6) -/

/-- `n` bytes at an offset of port p's AUPORT record. -/
def Run.auN (r : Run s₀) (p off n : Nat) : Nat := r.cfgN 0x0E01 p off n

/-- A flag of byte 8 of port p's AUPORT record. -/
def Run.auBit (r : Run s₀) (p k : Nat) : Bool := bit (r.auN p 8 1) k

/-- The port is an output. -/
def Run.auOut (r : Run s₀) (p : Nat) : Bool := r.auBit p 0

/-- The port is a master. -/
def Run.auMaster (r : Run s₀) (p : Nat) : Bool := r.auBit p 1

/-- The port takes the bit-exact path. -/
def Run.auBypass (r : Run s₀) (p : Nat) : Bool := r.auBit p 6

/-- LEAD of the port. -/
def Run.auLead (r : Run s₀) (p : Nat) : Nat := r.auN p 0xC 1

/-- SLOT_W of the port. -/
def Run.auSlotW (r : Run s₀) (p : Nat) : Nat := r.auN p 0xA 1

/-- The slots that carry channels, in channel order. -/
def Run.auSlots (r : Run s₀) (p : Nat) : List Nat := (List.range 32).filter fun j => bit (r.auN p 0x18 4) j

/-- CHANNELS of the port. -/
def Run.auChannels (r : Run s₀) (p : Nat) : Nat := (r.auSlots p).length

/-- MEDIA_FS of the port. -/
def Run.auFs (r : Run s₀) (p : Nat) : Nat := r.auN p 0x14 4

/-- What the port holds beside its registers. -/
def Run.au (r : Run s₀) (p : Nat) : AuPort := r.u.tim.au.look p {}

/-- Change what the port holds. -/
def Run.auMod (r : Run s₀) (p : Nat) (f : AuPort → AuPort) : Run s₀ := r.tim fun t => { t with au := t.au.put p (f (t.au.look p {})) }

/-- The DRAM address of media frame n in the port's ring (R380). -/
def Run.auRing (r : Run s₀) (p n : Nat) : Nat :=
  let c := r.auChannels p
  let f := r.auN p 0x20 4 * 4096 / (4 * c)
  r.polder (r.auN p 0xF 1) + r.auN p 0x1C 4 * 4096 + n % f * c * 4

/-! ## States (R385) -/

/-- A change of state raises AU_STATE; FAULT_CAUSE is 0 outside FAULT. -/
def Run.auState (r : Run s₀) (p st : Nat) : Run s₀ :=
  if r.rd (AUD_STATUS_STATE p) = st then r
  else
    let r := r.wr (AUD_STATUS_STATE p) st
    let r := r.when (st != 4) fun r => r.wr (AUD_STATUS_FAULT_CAUSE p) 0
    let r := r.wr (AUD_STATUS_LEAD_LEFT p) (if st = 1 ∨ st = 3 then r.auLead p else 0)
    let r := r.when (st == 0) fun r => (r.auMod p fun a => { a with wasRunning := false, slots := [], cur := [] }).wr (AUD_STATUS_UNDERRUN p) 0
    r.ev (480 + 2 * p)

/-- The port becomes RUNNING: its media frames are those of the instants from now on, and LAT, which the manual bounds in
no way, takes a free value (R383). -/
def Run.auRun (r : Run s₀) (p : Nat) : Run s₀ :=
  let n := ceilDiv (r.tselQ * r.auFs p) secondQ
  let r := r.auMod p fun a => { a with wasRunning := true, media := n }
  (r.free 32 fun lat r => r.wr (AUD_LAT p) lat).auState p 2

/-- START (R385). -/
def Run.auStart (r : Run s₀) (p : Nat) : Run s₀ :=
  if r.rd (AUD_STATUS_STATE p) = 0 ∧ r.hasCfg 0x0E01 p = true then r.auState p 1 else r.ignored

/-- STOP (R385). -/
def Run.auStop (r : Run s₀) (p : Nat) : Run s₀ :=
  let st := r.rd (AUD_STATUS_STATE p)
  if st = 0 then r.ignored
  else if st = 2 then r.auState p 3
  else if st = 3 then r
  else r.auState p 0

/-- A port in FAULT with a cause; an input raises AU_ERROR once per fault (R385, R387). -/
def Run.auFault (r : Run s₀) (p cause : Nat) : Run s₀ :=
  let r := (r.auState p 4).wr (AUD_STATUS_FAULT_CAUSE p) cause
  r.when (!r.auOut p) fun r => r.ev (481 + 2 * p)

/-- The tracked ratio lies within 0.25 to 4 (R383, U4.28). -/
def Run.auRatioOk (r : Run s₀) (p : Nat) : Bool := 0x04000000 ≤ r.rd (AUD_RATIO p) && r.rd (AUD_RATIO p) ≤ 0x40000000

/-- AUD_START: a write of AUD_AU_p_CTL.START (R385). -/
def execAudStart (p : Fin 8) (s : State) : Host.Outcome State Fault Refusal := done s fun r => r.auStart p

/-- AUD_STOP: a write of AUD_AU_p_CTL.STOP (R385). -/
def execAudStop (p : Fin 8) (s : State) : Host.Outcome State Fault Refusal := done s fun r => r.auStop p

/-! ## TDM frames (R381, R382, R384) -/

/-- The SLOT_W bits an output slot takes of a 32-bit media word: the word's top bits with BYPASS, else the 24-bit value
rounded half up and saturated to a narrower slot (R382). -/
def slotWord (bypass : Bool) (w word : Nat) : Nat :=
  if bypass then word / 2 ^ (32 - w)
  else
    let v := signed 24 (word / 256)
    if w < 24 then unsigned w (satS w (roundShift v (24 - w))) else unsigned w (v * 2 ^ (w - 24))

/-- The slots of a TDM frame an output drives: 0 in CLOCKING and DRAINING; masked and unmapped slots as TRISTATE says; in
RUNNING the words of the media signal, through the rate converter as free values without BYPASS (R382, R383, R384). -/
def Run.auDrive (r : Run s₀) (p : Nat) (data : Bool) : Run s₀ :=
  let w := r.auSlotW p
  let idle : Option Nat := if r.auBit p 5 then none else some 0
  let live := fun j => (r.auSlots p).contains j && bit (r.rdA (AUD_MASK p)) j
  let rec go : List Nat → List (Option Nat) → Run s₀ → Run s₀
    | [], acc, r => r.emit (.tdm p acc.reverse)
    | j :: js, acc, r =>
      if !live j then go js (idle :: acc) r
      else if !data then go js (some 0 :: acc) r
      else if r.auBypass p then go js (some (slotWord true w ((r.au p).cur.getD ((r.auSlots p).idxOf j) 0)) :: acc) r
      else r.free 24 fun v r => go js (some (slotWord false w (v * 256)) :: acc) r
  go (List.range (r.auN p 9 1)) [] r

/-- The mask commits at a frame sync at least 3 bit clocks after its write (R384). -/
def Run.auMask (r : Run s₀) (p age : Nat) : Run s₀ := r.when (3 ≤ age) fun r => r.wrA (AUD_MASK p) (r.rd (AUD_MASK p))

/-- TDM_FRAME: one TDM frame of the port, from its sync on: `maskAge` bit clocks lie between the last write of the mask
and the sync, and an input receives `words` (R381, R384, R385). -/
def execTdmFrame (p : Fin 8) (maskAge : Nat) (words : List Nat) (s : State) : Host.Outcome State Fault Refusal :=
  done s fun r =>
    let st := r.rd (AUD_STATUS_STATE p)
    if st = 0 then r
    else
      let r := r.auMask p maskAge
      let left := r.rd (AUD_STATUS_LEAD_LEFT p)
      if st = 1 then
        let r := r.when (r.auOut p) fun r => r.auDrive p false
        if !r.auMaster p && !r.auRatioOk p then r.wr (AUD_STATUS_LEAD_LEFT p) (r.auLead p)
        else if left ≤ 1 then r.auRun p else r.wr (AUD_STATUS_LEAD_LEFT p) (left - 1)
      else if st = 2 then
        if r.auOut p then r.auDrive p true
        else r.auMod p fun a => { a with slots := words.map (· % 2 ^ r.auSlotW p) }
      else if st = 3 then
        let r := r.when (r.auOut p) fun r => r.auDrive p false
        if left ≤ 1 then r.auState p 0 else r.wr (AUD_STATUS_LEAD_LEFT p) (left - 1)
      else r.when (r.auRatioOk p) fun r => r.auState p 1

/-- FRAME_SYNC_LOST: a slave sees no sync for 4 nominal frame periods; LEAD counts afresh in CLOCKING (R385). -/
def execFrameSyncLost (p : Fin 8) (s : State) : Host.Outcome State Fault Refusal :=
  done s fun r =>
    if r.auMaster p then r
    else if r.rd (AUD_STATUS_STATE p) = 2 then r.auFault p 1
    else r.when (r.rd (AUD_STATUS_STATE p) == 1) fun r => r.wr (AUD_STATUS_LEAD_LEFT p) (r.auLead p)

/-- RATIO_UPDATE: W_3 writes the tracked ratio (U4.28); a ratio outside 0.25 to 4 is a rate error (R383, R385). -/
def execRatioUpdate (p : Fin 8) (ratio : Nat) (s : State) : Host.Outcome State Fault Refusal :=
  done s fun r =>
    if r.rd (AUD_STATUS_STATE p) = 0 || !r.duty 3 then r
    else
      let r := r.wr (AUD_RATIO p) ratio
      r.when (r.rd (AUD_STATUS_STATE p) == 2 && !r.auRatioOk p) fun r => r.auFault p 2

/-! ## Media frames (R383, R386 to R389) -/

/-- A media frame of the port is produced: kept as the newest, and gathered for each feed group that selects the port. -/
def Run.auProduce (r : Run s₀) (p n : Nat) (words : List Nat) : Run s₀ :=
  let groups := (List.range 3).filter fun g => bit (r.auN p 0xE 1) (g + 1)
  r.auMod p fun a =>
    { a with cur := words, media := n + 1,
             feed := groups.foldl (fun t g => t.put g ((n, words) :: t.look g [])) a.feed }

/-- The words an input delivers: 0 for a masked slot, the slot bits left-justified with BYPASS, else the rate converter's
24-bit values, which are free (R382, R383, R384). -/
def Run.auCapture (r : Run s₀) (p : Nat) (f : List Nat → Run s₀ → Run s₀) : Run s₀ :=
  let mask := r.rdA (AUD_MASK p)
  let rec go : List Nat → List Nat → Run s₀ → Run s₀
    | [], acc, r => f acc.reverse r
    | j :: js, acc, r =>
      if !bit mask j then go js (0 :: acc) r
      else if r.auBypass p then go js ((r.au p).slots.getD j 0 * 2 ^ (32 - r.auSlotW p) :: acc) r
      else r.free 24 fun v r => go js (v * 256 :: acc) r
  go (r.auSlots p) [] r

/-- An input's media frame goes to its history ring when it is recorded (R380, R388). -/
def Run.auHistory (r : Run s₀) (p n : Nat) (words : List Nat) : Run s₀ :=
  r.when (bit (r.auN p 0xE 1) 0) fun r => r.store? 9 (r.auRing p n) (words.flatMap (le 4))

/-- A span of inserted silence grows by media frame n. -/
def AuPort.silence (a : AuPort) (n : Nat) : AuPort :=
  match a.gaps with
  | (first, count) :: l => if first + count = n then { a with gaps := (first, count + 1) :: l } else { a with gaps := (n, 1) :: a.gaps }
  | [] => { a with gaps := [(n, 1)] }

/-- A media instant of an input port (R387, R388). -/
def Run.auInput (r : Run s₀) (p n : Nat) : Run s₀ :=
  let st := r.rd (AUD_STATUS_STATE p)
  let zeros := List.replicate (r.auChannels p) 0
  if st = 2 then r.auCapture p fun words r => (r.auHistory p n words).auProduce p n words
  else if st = 3 then (r.auHistory p n zeros).auProduce p n zeros
  else
    let r := (r.sat (AUD_COUNT_SILENCE p)).auMod p fun a => a.silence n
    (r.auHistory p n zeros).auProduce p n zeros

/-- Media frames that a forward step of TSEL passes over: an input port fills them with 0 and counts them in SILENCE; an output
plays none of them, and its ring count goes past them (R376, R386). -/
def Run.auSkip (r : Run s₀) (p k : Nat) : Run s₀ :=
  if !(r.au p).wasRunning then r
  else if r.auOut p then
    (r.auMod p fun a => { a with media := a.media + k }).when (r.auN p 0xD 1 == 0xFF && r.rd (AUD_STATUS_STATE p) == 2) fun r => r.wr (AUD_RD p) (r.rd (AUD_RD p) + k)
  else
    let zeros := List.replicate (r.auChannels p) 0
    r.each (List.range k) fun _ r =>
      let n := (r.au p).media
      (((r.sat (AUD_COUNT_SILENCE p)).auMod p fun a => a.silence n).auHistory p n zeros).auProduce p n zeros

/-- RESYNC sets Δ to 0 and raises event 468, unless a record is armed or active. A forward step passes over media frames; after
a backward step the next media frame is still the one after the last produced (R376). -/
def Run.resyncTsel (r : Run s₀) : Run s₀ :=
  if r.recording then r.ignored
  else
    let q := r.tselQ
    let r := (r.setDelta 0).ev 468
    r.each (List.range 8) fun p r => r.auSkip p (ceilDiv (r.tselQ * r.auFs p) secondQ - ceilDiv (q * r.auFs p) secondQ)

/-- RESYNC: a write of 1 to TIM_TSEL_CTL.RESYNC (R376). -/
def execResync (s : State) : Host.Outcome State Fault Refusal := done s Run.resyncTsel

/-- A media instant of an output that plays its ring (R386). A poisoned frame plays as 0 and counts in SILENCE (R397). -/
def Run.auPlay (r : Run s₀) (p n : Nat) : Run s₀ :=
  let c := r.auChannels p
  let rd := r.rd (AUD_RD p)
  let r := if signed 32 (subMod 32 (r.rd (AUD_WR p)) rd) ≤ 0 then
      let r := r.sat (AUD_COUNT_UNDERRUN p)
      let r := r.when (!r.on (AUD_STATUS_UNDERRUN p)) fun r => (r.wr (AUD_STATUS_UNDERRUN p) 1).ev (481 + 2 * p)
      r.auProduce p n (List.replicate c 0)
    else
      (r.wr (AUD_STATUS_UNDERRUN p) 0).load? 9 (r.auRing p rd) (4 * c) fun g r =>
        let words := if g.poison then List.replicate c 0 else (List.range c).map fun k => field g.bytes (4 * k) 4
        (r.when g.poison fun r => r.sat (AUD_COUNT_SILENCE p)).auProduce p n words
  r.inc (AUD_RD p)

/-- The port's media instant passes (R383, R386). -/
def Run.auMedia (r : Run s₀) (p : Nat) : Run s₀ :=
  let st := r.rd (AUD_STATUS_STATE p)
  let a := r.au p
  if st = 0 || !a.wasRunning then r
  else if !r.auOut p then r.auInput p a.media
  else if st != 2 then r.auProduce p a.media (List.replicate (r.auChannels p) 0)
  else if r.auN p 0xD 1 = 0xFF then r.auPlay p a.media
  else r.auProduce p a.media ((r.au (r.auN p 0xD 1)).cur.take (r.auChannels p))

/-- AUD_WR: a write of the playback ring's write count (R386). -/
def execAudWr (p : Fin 8) (v : Nat) (s : State) : Host.Outcome State Fault Refusal := done s fun r => r.wr (AUD_WR p) v

end Sys2Proof.Machine
end

