-- ==== Sys2Proof/Machine/BoardIo.lean ====
section
/-!
DEFINITION. Board I/O: GPIO lines, sensor master clocks, I3C buses, lens UARTs and the SMBus target (R65 to R70).
-/
namespace Sys2Proof.Machine
variable {s₀ : State}

/-! ## GPIO (R66) -/

/-- GPIO_n carries EVENT_OUT_(n − 12) (R66). -/
def Run.gpioIsEvent (r : Run s₀) (n : Nat) : Bool := 12 ≤ n && bit (r.rd GLB_GPIO_FUNC_EVOUT) (n - 12)

/-- The level that the device drives on GPIO_n; none for an input line (R66). -/
def Run.gpioDrive (r : Run s₀) (n : Nat) : Option Bool :=
  if r.gpioIsEvent n then some (bit r.u.evt.pins (n - 12))
  else if bit (r.rd GLB_GPIO_DIR_DIR) n then some (bit (r.rd GLB_GPIO_OUT_OUT) n)
  else none

/-- The levels of all sixteen balls, as GLB_GPIO_IN shows them (R66). -/
def Run.gpioIn (r : Run s₀) : Nat :=
  ((List.range 16).map fun n => b2n ((r.gpioDrive n).getD (bit (r.rd GLB_GPIO_IN_IN) n)) * 2 ^ n).foldl (· + ·) 0

/-- A write of GLB_GPIO_DIR, GLB_GPIO_OUT or GLB_GPIO_FUNC, after which each ball follows its new source (R66). -/
def Run.writeGpio (r : Run s₀) (f : Fld) (v : Nat) : Run s₀ :=
  let old := (List.range 16).map r.gpioDrive
  let r := r.wr f v
  r.each (List.range 16) fun n r =>
    if r.gpioDrive n = old.getD n none then r
    else match r.gpioDrive n with
      | some l => r.emit (.pin ("GPIO_" ++ toString n) l)
      | none => r.emit (.released ("GPIO_" ++ toString n))

/-- EDGE_n selects an edge to this level (R66). -/
def Run.gpioSelected (r : Run s₀) (n : Nat) (level : Bool) : Bool :=
  bit (r.rd GLB_GPIO_EDGE_CFG_EDGE) (2 * n + b2n (!level))

/-- The level of ball n becomes visible: on an input line a selected edge is captured (R66). -/
def Run.gpioEdge (r : Run s₀) (n : Nat) (level : Bool) : Run s₀ :=
  if bit (r.rd GLB_GPIO_IN_IN) n = level then r
  else
    let r := r.wr GLB_GPIO_IN_IN (putBits (r.rd GLB_GPIO_IN_IN) n 1 (b2n level))
    if (r.gpioDrive n).isSome || !r.gpioSelected n level then r
    else
      let r := r.when (bit (r.rd GLB_GPIO_EDGE_EDGE) n) fun r => r.hwSet GLB_GPIO_OVER_OVER (2 ^ n)
      let r := (r.wr (GLB_GPIO_TS n) (shortTime (r.tselQ - 6 * 2 ^ 32))).hwSet GLB_GPIO_EDGE_EDGE (2 ^ n)
      r.ev 22

/-- An edge on a GPIO ball (R66). -/
def execGpioEdge (n : Fin 16) (level : Bool) (s : State) : Host.Outcome State Fault Refusal := done s fun r => r.gpioEdge n level

/-! ## Sensor master clocks (R67) -/

/-- A write of GLB_SMCLK_n_CTL; DIV outside 60.0 to 6,000.0 makes the write ignored (R67). -/
def Run.writeSmclk (r : Run s₀) (n v : Nat) : Run s₀ :=
  let div := bits v 8 24
  if div < 0x1E000 || 0xBB8000 < div then r.ignored
  else
    let was := if r.on (GLB_SMCLK_CTL_EN n) then some (r.rd (GLB_SMCLK_CTL_DIV n)) else none
    let r := (r.wr (GLB_SMCLK_CTL_EN n) (bits v 0 1)).wr (GLB_SMCLK_CTL_DIV n) div
    let now := if bit v 0 then some div else none
    r.when (now != was) fun r => r.emit (.smclk n now)

/-- A write of GLB_SMCLK_n_CTL (R67). -/
def execSmclkCtl (n : Fin 8) (v : Nat) (s : State) : Host.Outcome State Fault Refusal := done s fun r => r.writeSmclk n v

/-! ## I3C (R68) -/

/-- A write of GLB_I3C_b_CTL; one that puts a field outside its range or finds BUSY at 1 is ignored (R68). -/
def Run.writeI3cCtl (r : Run s₀) (b v : Nat) : Run s₀ :=
  if bits v 8 8 < 20 || bits v 16 8 < 100 || bits v 24 8 < 63 || r.on (GLB_I3C_STATUS_BUSY b) then r.ignored
  else
    let r := (r.wr (GLB_I3C_CTL_EN b) (bits v 0 1)).wr (GLB_I3C_CTL_HJ_EN b) (bits v 1 1)
    ((r.wr (GLB_I3C_CTL_PP_DIV b) (bits v 8 8)).wr (GLB_I3C_CTL_OD_DIV b) (bits v 16 8)).wr (GLB_I3C_CTL_I2C_DIV b) (bits v 24 8)

/-- The first `n` bytes of the data registers of bus b: byte 4k + j lies in bits [8j + 7:8j] of DATA_k (R68). -/
def Run.i3cData (r : Run s₀) (b n : Nat) : List Byte :=
  ((List.range 16).flatMap fun k => le 4 (r.rd (GLB_I3C_DATA b k))).take n

/-- Received bytes are placed in the data registers of bus b; bytes of a register that the transfer did not reach keep their
value (R68). -/
def Run.i3cStore (r : Run s₀) (b : Nat) (l : List Byte) : Run s₀ :=
  let all := overlay (r.i3cData b 64) 0 (l.take 64)
  r.each (List.range 16) fun k r => r.wr (GLB_I3C_DATA b k) (field all (4 * k) 4)

/-- CCC lies in the range of its kind (R68). -/
def i3cCccOk (kind ccc : Nat) : Bool :=
  if kind = 2 then ccc ≤ 0x7F else if kind = 3 || kind = 4 then 0x80 ≤ ccc && ccc ≤ 0xFE else true

/-- The kinds of Table 02-23 that send data bytes. -/
def i3cSends (kind : Nat) : Bool := kind = 0 || kind = 2 || kind = 3 || kind = 6

/-- A write of GLB_I3C_b_CMD with GO (R68, Table 02-23). -/
def Run.i3cGo (r : Run s₀) (b kind addr ccc len : Nat) : Run s₀ :=
  if 7 < kind || !i3cCccOk kind ccc || 64 < len || !r.on (GLB_I3C_CTL_EN b) || r.on (GLB_I3C_STATUS_BUSY b) then r.ignored
  else
    let r := ((r.wr (GLB_I3C_STATUS_BUSY b) 1).wr (GLB_I3C_STATUS_ERR b) 0).wr (GLB_I3C_STATUS_RX_LEN b) 0
    let r := r.glb fun g => { g with i3c := g.i3c.put b { kind, len } }
    r.emit (.i3c b kind addr ccc (if i3cSends kind then r.i3cData b len else []))

/-- The most bytes that a transfer receives (R68). -/
def I3cBus.most (x : I3cBus) : Nat :=
  if x.kind = 1 || x.kind = 4 || x.kind = 7 then x.len else if x.kind = 5 then 64 else 0

/-- The transfer on bus b ends with an outcome and the bytes received (R68). -/
def Run.i3cEnd (r : Run s₀) (b err : Nat) (data : List Byte) : Run s₀ :=
  if !r.on (GLB_I3C_STATUS_BUSY b) then r
  else
    let l := data.take (r.u.glb.i3c.look b {}).most
    let r := (r.i3cStore b l).wr (GLB_I3C_STATUS_RX_LEN b) l.length
    ((r.wr (GLB_I3C_STATUS_ERR b) err).wr (GLB_I3C_STATUS_BUSY b) 0).ev (23 + b)

/-- GO with KIND 0 (Table 02-23). -/
def execPrivateWrite (b : Fin 4) (addr len : Nat) (s : State) : Host.Outcome State Fault Refusal := done s fun r => r.i3cGo b 0 (bits addr 0 7) 0 len

/-- GO with KIND 1 (Table 02-23). -/
def execPrivateRead (b : Fin 4) (addr len : Nat) (s : State) : Host.Outcome State Fault Refusal := done s fun r => r.i3cGo b 1 (bits addr 0 7) 0 len

/-- GO with KIND 2 (Table 02-23). -/
def execBroadcastCcc (b : Fin 4) (ccc len : Nat) (s : State) : Host.Outcome State Fault Refusal := done s fun r => r.i3cGo b 2 0 (bits ccc 0 8) len

/-- GO with KIND 3 (Table 02-23). -/
def execDirectCccWrite (b : Fin 4) (addr ccc len : Nat) (s : State) : Host.Outcome State Fault Refusal :=
  done s fun r => r.i3cGo b 3 (bits addr 0 7) (bits ccc 0 8) len

/-- GO with KIND 4 (Table 02-23). -/
def execDirectCccRead (b : Fin 4) (addr ccc len : Nat) (s : State) : Host.Outcome State Fault Refusal :=
  done s fun r => r.i3cGo b 4 (bits addr 0 7) (bits ccc 0 8) len

/-- GO with KIND 5 (Table 02-23). -/
def execEntdaa (b : Fin 4) (addr : Nat) (s : State) : Host.Outcome State Fault Refusal := done s fun r => r.i3cGo b 5 (bits addr 0 7) 0 0

/-- GO with KIND 6 (Table 02-23). -/
def execI2cWrite (b : Fin 4) (addr len : Nat) (s : State) : Host.Outcome State Fault Refusal := done s fun r => r.i3cGo b 6 (bits addr 0 7) 0 len

/-- GO with KIND 7 (Table 02-23). -/
def execI2cRead (b : Fin 4) (addr len : Nat) (s : State) : Host.Outcome State Fault Refusal := done s fun r => r.i3cGo b 7 (bits addr 0 7) 0 len

/-- An I3C transfer ends with ERR 0 to 4 (R68). -/
def execI3cTransferEnd (b : Fin 4) (err : Fin 5) (data : List Byte) (s : State) : Host.Outcome State Fault Refusal :=
  done s fun r => r.i3cEnd b err data

/-- An I2C target stretches SCL for more than 25 ms: ERR 5 (R68). -/
def execI2cStretchTimeout (b : Fin 4) (data : List Byte) (s : State) : Host.Outcome State Fault Refusal :=
  done s fun r => if 6 ≤ (r.u.glb.i3c.look b {}).kind then r.i3cEnd b 5 data else r

/-- An in-band request is acknowledged and reported, or NAKed while VALID is 1 or while it is not accepted (R68). -/
def Run.ibi (r : Run s₀) (b addr : Nat) (data : List Byte) (accept : Bool) : Run s₀ :=
  if !r.on (GLB_I3C_CTL_EN b) then r
  else if !accept || r.on (GLB_I3C_IBI_VALID b) then r.emit (.ibi b false)
  else
    let l := data.take 4
    let r := ((r.emit (.ibi b true)).wr (GLB_I3C_IBI_ADDR b) addr).wr (GLB_I3C_IBI_VALID b) 1
    ((r.wr (GLB_I3C_IBI_LEN b) l.length).wr (GLB_I3C_IBI_DATA b) (ofLe l)).ev (23 + b)

/-- A target's in-band interrupt request wins arbitration on bus b (R68). -/
def execIbiRequest (b : Fin 4) (addr : Nat) (data : List Byte) (s : State) : Host.Outcome State Fault Refusal :=
  done s fun r => r.ibi b addr data true

/-- A Hot-Join request on bus b (R68). -/
def execHotJoin (b : Fin 4) (s : State) : Host.Outcome State Fault Refusal :=
  done s fun r => r.ibi b 0x02 [] (r.on (GLB_I3C_CTL_HJ_EN b))

/-- A read of GLB_I3C_b_IBI_DATA clears it and VALID (R68, Table 00-2). -/
def Run.ibiTaken (r : Run s₀) (b : Nat) : Run s₀ := (r.wr (GLB_I3C_IBI_DATA b) 0).wr (GLB_I3C_IBI_VALID b) 0

/-- A read of GLB_I3C_b_IBI_DATA (R68). -/
def execIbiDataRead (b : Fin 4) (s : State) : Host.Outcome State Fault Refusal :=
  done s fun r => (r.emit (.answer (r.rd (GLB_I3C_IBI_DATA b)))).ibiTaken b

/-! ## Lens UARTs (R69) -/

/-- The FIFOs of UART u. -/
def Run.uart (r : Run s₀) (u : Nat) : Uart := r.u.glb.uarts.look u {}

/-- The FIFOs change, and TX_LEVEL and RX_LEVEL with them (R69). -/
def Run.uartSet (r : Run s₀) (u : Nat) (x : Uart) : Run s₀ :=
  let r := r.glb fun g => { g with uarts := g.uarts.put u x }
  (r.wr (GLB_UART_STATUS_TX_LEVEL u) x.tx.length).wr (GLB_UART_STATUS_RX_LEVEL u) x.rx.length

/-- A cause of event 27 is set; the event occurs when it changes from 0 to 1 (R69). -/
def Run.uartCause (r : Run s₀) (f : Fld) : Run s₀ := if r.on f then r.hwSet f 1 else (r.hwSet f 1).ev 27

/-- A write of GLB_UART_u_CTL: DIV outside its range makes it ignored; with EN = 0 both FIFOs are empty (R69). -/
def Run.writeUartCtl (r : Run s₀) (u v : Nat) : Run s₀ :=
  let div := bits v 8 24
  if div < 42667 || 13333333 < div then r.ignored
  else
    let r := (r.wr (GLB_UART_CTL_EN u) (bits v 0 1)).wr (GLB_UART_CTL_DIV u) div
    if bit v 0 then r else r.uartSet u {}

/-- A write of GLB_UART_u_TXDATA (R69). -/
def Run.uartTx (r : Run s₀) (u : Nat) (c : Byte) : Run s₀ :=
  let x := r.uart u
  if !r.on (GLB_UART_CTL_EN u) then r
  else if x.sending.isNone then r.uartSet u { x with sending := some c.toNat }
  else if x.tx.length = 256 then r.ignored.uartCause (GLB_UART_STATUS_TX_OVF u)
  else r.uartSet u { x with tx := x.tx ++ [c.toNat] }

/-- A write of GLB_UART_u_TXDATA (R69). -/
def execTxdata (u : Fin 4) (c : Byte) (s : State) : Host.Outcome State Fault Refusal := done s fun r => r.uartTx u c

/-- The transmitter finishes a character and takes the next (R69). -/
def execUartCharacterSent (u : Fin 4) (s : State) : Host.Outcome State Fault Refusal :=
  done s fun r =>
    let x := r.uart u
    match x.sending with
    | some c => (r.emit (.uart u (BitVec.ofNat 8 c))).uartSet u { x with tx := x.tx.tail, sending := x.tx.head? }
    | none => r

/-- A character arrives; at a full FIFO it is discarded (R69). -/
def Run.uartRx (r : Run s₀) (u : Nat) (c : Byte) (framing brk : Bool) : Run s₀ :=
  let x := r.uart u
  if !r.on (GLB_UART_CTL_EN u) then r
  else if x.rx.length = 256 then r.uartCause (GLB_UART_STATUS_RX_OVERRUN u)
  else
    let r := r.uartSet u { x with rx := x.rx ++ [⟨c.toNat, framing, brk⟩] }
    let r := r.when framing fun r => r.uartCause (GLB_UART_STATUS_FRAMING u)
    r.when (x.rx.length + 1 == r.rd (GLB_UART_THRESH_RX_THRESH u)) fun r => r.uartCause (GLB_UART_STATUS_RX_READY u)

/-- A character arrives at UART u (R69). -/
def execUartCharacterReceived (u : Fin 4) (c : Byte) (framing brk : Bool) (s : State) : Host.Outcome State Fault Refusal :=
  done s fun r => r.uartRx u c framing brk

/-- What a read of GLB_UART_u_RXDATA returns (R69). -/
def Run.rxValue (r : Run s₀) (u : Nat) : Nat :=
  match (r.uart u).rx with
  | [] => 0
  | x :: _ => x.c + 256 + 512 * b2n x.framing + 1024 * b2n x.brk

/-- A read of GLB_UART_u_RXDATA removes the character that it returns (R69). -/
def Run.rxTaken (r : Run s₀) (u : Nat) : Run s₀ :=
  let x := r.uart u
  if x.rx.isEmpty then r else r.uartSet u { x with rx := x.rx.tail }

/-- A read of GLB_UART_u_RXDATA (R69). -/
def execRxdataRead (u : Fin 4) (s : State) : Host.Outcome State Fault Refusal :=
  done s fun r => (r.emit (.answer (r.rxValue u))).rxTaken u

/-- Characters have waited while the line was idle for RX_IDLE character times (R69). -/
def execRxIdle (u : Fin 4) (s : State) : Host.Outcome State Fault Refusal :=
  done s fun r => if (r.uart u).rx.isEmpty || !r.on (GLB_UART_THRESH_RX_IDLE u) then r else r.uartCause (GLB_UART_STATUS_RX_READY u)

/-! ## The SMBus target (R70) -/

/-- A listed command reaches the target, which runs from the end of the power-on reset (R70). -/
def Run.smb (r : Run s₀) (code : Nat) (f : Run s₀ → Run s₀) : Run s₀ :=
  if r.u.glb.railsGood then f (r.wr GLB_SMB_STATUS_LAST_CMD code) else r

/-- A command is NAKed and counted: under PEC_ERR for a wrong PEC, else under NAK (R70). -/
def Run.smbRefuse (r : Run s₀) (badPec : Bool) : Run s₀ :=
  (r.emit .nak).sat (if badPec then GLB_SMB_COUNT_PEC_ERR else GLB_SMB_COUNT_NAK)

/-- The word that STATUS returns (Table 02-24). -/
def Run.smbWord (r : Run s₀) : Nat :=
  r.rd GLB_BOOT_STATUS_READY + 2 * r.rd GLB_MODE_VALID + 4 * r.rd THM_STATUS_LEVEE + 16 * r.rd EVT_SERVICE_REQ
    + 32 * b2n (r.rd MAG_REC_STATUS_STATE == 2) + 256 * r.rd GLB_SMB_STATUS_PENDING

/-- The packet error check of SMBus 2.0: CRC-8 with polynomial x^8 + x^2 + x + 1 over every byte of a transfer (R70; the polynomial
is PRESUMED from SMBus 2.0, assumption 35). -/
def smbPec (l : List Byte) : Byte := BitVec.ofNat 8 (crcMsb 8 0x07 0 (l.flatMap fun b => msbBits 8 b.toNat))

/-- The PEC of a read of command `code` from address 0x5C that returned some bytes. -/
def readPec (code : Nat) (bs : List Byte) : Byte := smbPec ([0xB8#8] ++ le 1 code ++ [0xB9#8] ++ bs)

/-- A read answers `n` bytes of a number, and with a PEC byte when the controller clocks one more byte (R70). -/
def Run.smbAnswer (r : Run s₀) (code n v : Nat) (pec : Bool) : Run s₀ :=
  (r.emit (.answer v)).when pec fun r => r.emit (.pec (readPec code (le n v)))

/-- A Block Read answers its bytes behind their count, and with a PEC byte when the controller clocks one more byte (R70). -/
def Run.smbBlock (r : Run s₀) (code : Nat) (bs : List Byte) (pec : Bool) : Run s₀ :=
  (r.emit (.answerBytes bs)).when pec fun r => r.emit (.pec (readPec code (le 1 bs.length ++ bs)))

/-- Read Word of STATUS returns and clears the pending bits (R70). -/
def execSmbStatus (pec : Bool) (s : State) : Host.Outcome State Fault Refusal :=
  done s fun r => r.smb 0x01 fun r => ((r.smbAnswer 0x01 2 r.smbWord pec).wr GLB_SMB_STATUS_PENDING 0).smbLine

/-- Read Word of TEMP (Table 02-24). -/
def execTemp (pec : Bool) (s : State) : Host.Outcome State Fault Refusal :=
  done s fun r => r.smb 0x02 fun r => r.smbAnswer 0x02 2 (if r.u.thm.valid then r.rd THM_STATUS_MAX else 0x8000) pec

/-- Read Byte of HOT (Table 02-24). -/
def execHot (pec : Bool) (s : State) : Host.Outcome State Fault Refusal :=
  done s fun r => r.smb 0x03 fun r => r.smbAnswer 0x03 1 (r.rd THM_STATUS_HOT) pec

/-- Read Byte of MODE (Table 02-24). -/
def execSmbMode (pec : Bool) (s : State) : Host.Outcome State Fault Refusal :=
  done s fun r => r.smb 0x04 fun r => r.smbAnswer 0x04 1 (r.rd GLB_MODE_MODE + 4 * r.rd GLB_MODE_ROLE + 8 * r.rd GLB_MODE_DUAL_MAG) pec

/-- PART_ID, STEPPING and FW_VERSION (Table 02-24, Table 12-7). -/
def Run.smbIdent (r : Run s₀) : List Byte := le 4 0x9618 ++ le 4 0xB1 ++ le 4 r.u.glb.fw.version

/-- Block Read of IDENT (Table 02-24). -/
def execIdent (pec : Bool) (s : State) : Host.Outcome State Fault Refusal :=
  done s fun r => r.smb 0x08 fun r => r.smbBlock 0x08 r.smbIdent pec

/-- Block Read of SERIAL (Table 02-24). -/
def execSerial (pec : Bool) (s : State) : Host.Outcome State Fault Refusal :=
  done s fun r => r.smb 0x09 fun r => r.smbBlock 0x09 (padTo 16 Config.serial) pec

/-- Write Byte of ALERT_MASK; one with a wrong PEC is NAKed and discarded (R70). -/
def execAlertMask (data : Byte) (pec : Option Bool) (s : State) : Host.Outcome State Fault Refusal :=
  done s fun r => r.smb 0x21 fun r =>
    if pec = some false then r.smbRefuse true else (r.wr GLB_SMB_STATUS_ALERT_MASK (bits data.toNat 0 4)).smbLine

/-- Read Byte of ALERT_MASK (Table 02-24). -/
def execAlertMaskRead (pec : Bool) (s : State) : Host.Outcome State Fault Refusal :=
  done s fun r => r.smb 0x22 fun r => r.smbAnswer 0x22 1 (r.rd GLB_SMB_STATUS_ALERT_MASK) pec

/-- A read of the Alert Response Address (R70). -/
def execAlertResponse (s : State) : Host.Outcome State Fault Refusal :=
  done s fun r =>
    if r.u.glb.railsGood then ((r.emit (.answer 0xB8)).glb fun g => { g with smbReleased := true }).smbLine else r

/-- The command codes of Table 02-24. -/
def smbCodes : List Nat := [0x01, 0x02, 0x03, 0x04, 0x08, 0x09, 0x20, 0x21, 0x22]

/-- An unlisted command code is NAKed and counted in NAK; a write with a wrong PEC in PEC_ERR (R70). -/
def execSmbNak (code : Byte) (badPec : Bool) (s : State) : Host.Outcome State Fault Refusal :=
  done s fun r =>
    if !r.u.glb.railsGood then r
    else if badPec then r.smbRefuse true
    else if smbCodes.contains code.toNat then r
    else r.smbRefuse false

end Sys2Proof.Machine
end

