-- ==== Sys2Proof/Machine/Colour.lean ====
section
/-!
DEFINITION. The arithmetic of the colour engines: stages 1 to 11 of Table 06-1 (R148 to R165) and the statistics record
(R170, Table 06-8), as functions of one frame, its parameter version and its tables.
-/
namespace Sys2Proof.Machine

/-- What a frame's arithmetic depends on: geometry, mosaic, raw samples, the parameters of its version, and its tables. -/
structure Env where
  ctx : Nat
  w : Nat
  h : Nat
  pw : Nat
  ph : Nat
  /-- Site code of site s (Table 06-3). -/
  code : Nat → Nat
  /-- Raw sample at column x, row y. -/
  raw : Nat → Nat → Nat
  /-- An SH field of the frame's parameter version. -/
  par : Fld → Nat
  /-- Kernel coefficient at an index of Table 06-4. -/
  kb : Nat → Int
  /-- Shading gain at index (j * 64 + i) * 4 + h. -/
  sg : Nat → Nat
  /-- The selected defect map holds (x, y). -/
  defect : Nat → Nat → Bool

/-- Sum of integers. -/
def sumI (l : List Int) : Int := l.foldl (· + ·) 0

/-- Saturation to S19.6. -/
def satPix (v : Int) : Int := satS 25 v

/-- A coordinate outside 0 to n - 1 moved by whole periods p into the frame (R152). -/
def foldSite (n p : Nat) (x : Int) : Nat :=
  if x < 0 then (x + (p * ceilDiv (-x).toNat p : Nat)).toNat
  else if (n : Int) ≤ x then (x - (p * ceilDiv (x - n + 1).toNat p : Nat)).toNat
  else x.toNat

/-- A coordinate clamped to 0 to n - 1 (R152, planes). -/
def nearest (n : Nat) (x : Int) : Nat := (clamp 0 ((n : Int) - 1) x).toNat

namespace Env

/-- The site of a pixel (R152). -/
def site (e : Env) (x y : Nat) : Nat := y % e.ph * e.pw + x % e.pw

/-- The pixel lies on a masked site. -/
def masked (e : Env) (x y : Nat) : Bool := e.code (e.site x y) == 5

/-- A field of the parameter version as a signed number of w bits. -/
def parS (e : Env) (f : Fld) : Int := signed f.w (e.par f)

/-- Step 1 (R153). -/
def black (e : Env) (x y : Nat) : Int := satPix ((e.raw x y : Int) * 64 - e.par (PIX_CTX_BLACK_BLACK e.ctx (e.site x y)))

/-- An enable bit of PIX_CTX_n_TBL. -/
def dmEn (e : Env) : Bool := e.par (PIX_CTX_TBL_DM_EN e.ctx) == 1

/-- (x, y) is an entry of the map that the version selects (R154, R168). -/
def inMap (e : Env) (x y : Nat) : Bool := e.dmEn && e.defect x y

/-- The same-site neighbours of (x, y) on its row that are available for defect correction. -/
def neighbours (e : Env) (x y : Nat) : List Int :=
  let at_ := fun (d : Int) =>
    let c := (x : Int) + d
    if c < 0 ∨ (e.w : Int) ≤ c ∨ e.inMap c.toNat y = true ∨ e.masked c.toNat y = true then [] else [e.black c.toNat y]
  let p : Int := e.pw
  at_ (-p) ++ at_ p ++ (if e.pw ≤ 4 then at_ (-2 * p) ++ at_ (2 * p) else [])

/-- Step 2 applies to (x, y) (R154). -/
def mapped (e : Env) (x y : Nat) : Bool := !e.masked x y && e.inMap x y

/-- Step 2 (R154). -/
def mapFix (e : Env) (x y : Nat) : Int :=
  if e.mapped x y then
    let l := e.neighbours x y
    if l.isEmpty then 0 else (2 * sumI l + l.length) / (2 * l.length : Nat)
  else e.black x y

/-- Step 3 (R155). -/
def dynFix (e : Env) (x y : Nat) : Int :=
  let p := e.mapFix x y
  let l := e.neighbours x y
  if e.par (PIX_CTX_TBL_DYN_EN e.ctx) = 1 ∧ e.masked x y = false ∧ e.inMap x y = false ∧ 2 ≤ l.length then
    let lo := l.foldl min (l.headD 0) - e.par (PIX_CTX_DYN_LO e.ctx) * 64
    let hi := l.foldl max (l.headD 0) + e.par (PIX_CTX_DYN_HI e.ctx) * 64
    satPix (min (max p lo) hi)
  else p

/-- The site was changed by R155. -/
def dynChanged (e : Env) (x y : Nat) : Bool := e.dynFix x y != e.mapFix x y

/-- A node position and fraction along one dimension of the shading grid (R156). -/
def gridPos (x n : Nat) : Nat × Nat :=
  let g := x * (63 * 2 ^ 20 / (n - 1))
  if g / 2 ^ 20 = 63 then (62, 1024) else (g / 2 ^ 20, g / 2 ^ 10 % 1024)

/-- The shading gain of channel c at a pixel (R156). -/
def gain (e : Env) (x y c : Nat) : Nat :=
  let (i, fx) := gridPos x e.w
  let (j, fy) := gridPos y e.h
  let g := fun i j => e.sg ((j * 64 + i) * 4 + c)
  ((1024 - fx) * (1024 - fy) * g i j + fx * (1024 - fy) * g (i + 1) j + (1024 - fx) * fy * g i (j + 1)
    + fx * fy * g (i + 1) (j + 1) + 2 ^ 19) / 2 ^ 20

/-- The shading channel of a site code (Table 06-3). -/
def shadeChannel (code : Nat) : Nat := if code ≤ 2 then code else 3

/-- Step 4 (R156). -/
def shade (e : Env) (x y : Nat) : Int :=
  let p := e.dynFix x y
  if e.par (PIX_CTX_TBL_SHADE_EN e.ctx) = 1 ∧ e.masked x y = false then
    satPix (roundShift (p * e.gain x y (shadeChannel (e.code (e.site x y)))) 14)
  else p

/-- The input q of step 5 at any coordinates; 0 at a masked site. -/
def q (e : Env) (x y : Int) : Int :=
  let x' := foldSite e.w e.pw x
  let y' := foldSite e.h e.ph y
  if e.masked x' y' then 0 else e.shade x' y'

/-- The coordinates read a masked site. -/
def maskedAt (e : Env) (x y : Int) : Bool := e.masked (foldSite e.w e.pw x) (foldSite e.h e.ph y)

/-- One term of a gradient (R157). -/
def term (e : Env) (x1 y1 x0 y0 : Int) : Int :=
  if e.maskedAt x1 y1 || e.maskedAt x0 y0 then 0 else (e.q x1 y1 - e.q x0 y0).natAbs

/-- The offsets (b, a) of a gradient's 12 terms. -/
def gradOffsets : List (Int × Int) := [-1, 0, 1].flatMap fun b => [-2, -1, 0, 1].map fun a => (b, a)

/-- The gradient of direction d: 0 H, 1 V, 2 D, 3 A (R157). -/
def gradient (e : Env) (x y : Int) (d : Nat) : Int :=
  sumI (gradOffsets.map fun p =>
    let b := p.1
    let a := p.2
    if d = 0 then e.term (x + a + 1) (y + b) (x + a) (y + b)
    else if d = 1 then e.term (x + b) (y + a + 1) (x + b) (y + a)
    else if d = 2 then e.term (x + a + 1 + b) (y + a + 1) (x + a + b) (y + a)
    else e.term (x - a - 1 + b) (y + a + 1) (x - a + b) (y + a))

/-- The directional result of direction d and plane c, before the stage's saturation (R149, R159). -/
def directional (e : Env) (x y d c : Nat) : Int :=
  let s := e.site x y
  roundShift (sumI ((List.range 81).map fun k =>
    e.kb (((s * 4 + d) * 4 + c) * 81 + k) * e.q ((x : Int) + (k % 9 : Nat) - 4) ((y : Int) + (k / 9 : Nat) - 4))) 13

/-- Step 5: plane c (0 R, 1 G, 2 B, 3 I) at a pixel; the stage's output saturates (R149, R158). -/
def demosaic (e : Env) (x y c : Nat) : Int :=
  let g := fun d => e.gradient x y d
  let lo := min (min (g 0) (g 1)) (min (g 2) (g 3))
  let hi := max (max (g 0) (g 1)) (max (g 2) (g 3))
  if hi - lo ≤ e.par (PIX_CTX_ADAPT_THR e.ctx) then
    satPix (roundShift (e.directional x y 0 c + e.directional x y 1 c + e.directional x y 2 c + e.directional x y 3 c) 2)
  else satPix (e.directional x y (if g 0 = lo then 0 else if g 1 = lo then 1 else if g 2 = lo then 2 else 3) c)

/-- Whether a site code sets clip flag c (Table 06-3). -/
def setsFlag (code c : Nat) : Bool := code == c || code == 3

/-- Clip flag c (0 R, 1 G, 2 B) of a pixel (R160). -/
def flag (e : Env) (x y c : Nat) : Bool :=
  (List.range 9).any fun k =>
    let x' := foldSite e.w e.pw ((x : Int) + (k % 3 : Nat) - 1)
    let y' := foldSite e.h e.ph ((y : Int) + (k / 3 : Nat) - 1)
    setsFlag (e.code (e.site x' y')) c && e.par (PIX_CTX_CLIP_CLIP e.ctx (e.site x' y')) ≤ e.raw x' y'
      && !e.mapped x' y' && !e.dynChanged x' y'

/-- HL_GAIN of channel c (R161). -/
def hlGain (e : Env) (c : Nat) : Nat :=
  e.par (if c = 0 then PIX_CTX_HL_GAIN_0_R e.ctx else if c = 1 then PIX_CTX_HL_GAIN_0_G e.ctx else PIX_CTX_HL_GAIN_1_B e.ctx)

/-- Step 6, tap A: plane c of R, G, B (R161). -/
def highlight (e : Env) (x y c : Nat) : Int :=
  let v := fun c => e.demosaic x y c
  let f := fun c => e.flag x y c
  if e.par (PIX_CTX_TBL_HL_EN e.ctx) = 0 ∨ (f 0 || f 1 || f 2) = false then v c
  else if f 0 && f 1 && f 2 then max (v 0) (max (v 1) (v 2))
  else if f c then
    let l := ([0, 1, 2].filter fun k => !f k).map v
    satPix (max (v c) (roundShift (l.foldl max (l.headD 0) * e.hlGain c) 12))
  else v c

/-- Plane c at tap A; the I plane passes step 6 unchanged. -/
def tapA (e : Env) (x y c : Nat) : Int := if c = 3 then e.demosaic x y 3 else e.highlight x y c

/-- IR tap a_c[k], k from 0 for offset -4 (R162). -/
def irTap (e : Env) (c k : Nat) : Int :=
  let lo := fun (f : Nat → Nat → Fld) (l : Nat → Fld) => if k / 2 < 4 then f e.ctx (k / 2) else l e.ctx
  signed 16 (e.par (
    if c = 0 then (if k % 2 = 0 then lo PIX_CTX_IRK0_LOW PIX_CTX_IRK0_LAST_LOW else PIX_CTX_IRK0_HIGH e.ctx (k / 2))
    else if c = 1 then (if k % 2 = 0 then lo PIX_CTX_IRK1_LOW PIX_CTX_IRK1_LAST_LOW else PIX_CTX_IRK1_HIGH e.ctx (k / 2))
    else (if k % 2 = 0 then lo PIX_CTX_IRK2_LOW PIX_CTX_IRK2_LAST_LOW else PIX_CTX_IRK2_HIGH e.ctx (k / 2))))

/-- Step 7: plane c of R, G, B after IR subtraction (R162). -/
def irSub (e : Env) (x y c : Nat) : Int :=
  satPix (e.highlight x y c - roundShift (sumI ((List.range 9).map fun k =>
    e.irTap c k * e.demosaic (nearest e.w ((x : Int) + (k : Nat) - 4)) y 3)) 13)

/-- A 3 x 4 matrix row applied to R, G, B, I (R163). -/
def matrixRow (m : Nat → Int) (v : Nat → Int) (k : Nat) : Int :=
  satPix (roundShift (m (4 * k) * v 0 + m (4 * k + 1) * v 1 + m (4 * k + 2) * v 2 + m (4 * k + 3) * v 3) 16)

/-- Step 8: the context matrix; plane 3 is the I plane (R163). -/
def ctxOut (e : Env) (x y c : Nat) : Int :=
  if c = 3 then e.demosaic x y 3
  else matrixRow (fun k => e.parS (PIX_CTX_MTX_COEF e.ctx k)) (fun k => if k = 3 then e.demosaic x y 3 else e.irSub x y k) c

/-- Step 9: the matrix of outlet o (R163). -/
def outletMatrix (e : Env) (o x y c : Nat) : Int :=
  matrixRow (fun k => e.parS (PIX_OL_MTX_COEF o k)) (fun k => e.ctxOut x y k) c

end Env

/-! ## Shaper and 3D LUT (R164, R165) -/

/-- Step 10: the shaper with entries t (R164). -/
def shaper (t : Nat → Nat) (v : Int) : Nat :=
  let v := (clamp 0 (2 ^ 24 - 1) v).toNat
  let n := if v < 2 ^ 10 then 0 else Nat.log2 v - 9
  let f := if v < 2 ^ 10 then v else v - 2 ^ (n + 9)
  let sh := if v < 2 ^ 10 then 4 else n + 3
  let k := 64 * n + f / 2 ^ sh
  let d : Int := (t (k + 1) : Int) - t k
  (clamp 0 65535 (t k + asr (d * (f % 2 ^ sh : Nat) + (2 ^ (sh - 1) : Nat)) sh)).toNat

/-- Node index and fraction of a shaper output (R165). -/
def lutPos (w : Nat) : Nat × Nat :=
  let w' := w + w / 2 ^ 15
  if w' / 2 ^ 10 = 64 then (63, 1024) else (w' / 2 ^ 10, w' % 1024)

/-- The vertices (a, b, c) and weights of the tetrahedron (Table 06-5). -/
def tetra (fr fg fb : Nat) : List ((Nat × Nat × Nat) × Nat) :=
  if fr ≥ fg ∧ fg ≥ fb then [((0, 0, 0), 1024 - fr), ((1, 0, 0), fr - fg), ((1, 1, 0), fg - fb), ((1, 1, 1), fb)]
  else if fr ≥ fb ∧ fb ≥ fg then [((0, 0, 0), 1024 - fr), ((1, 0, 0), fr - fb), ((1, 0, 1), fb - fg), ((1, 1, 1), fg)]
  else if fb ≥ fr ∧ fr ≥ fg then [((0, 0, 0), 1024 - fb), ((0, 0, 1), fb - fr), ((1, 0, 1), fr - fg), ((1, 1, 1), fg)]
  else if fg ≥ fr ∧ fr ≥ fb then [((0, 0, 0), 1024 - fg), ((0, 1, 0), fg - fr), ((1, 1, 0), fr - fb), ((1, 1, 1), fb)]
  else if fg ≥ fb ∧ fb ≥ fr then [((0, 0, 0), 1024 - fg), ((0, 1, 0), fg - fb), ((0, 1, 1), fb - fr), ((1, 1, 1), fr)]
  else [((0, 0, 0), 1024 - fb), ((0, 0, 1), fb - fg), ((0, 1, 1), fg - fr), ((1, 1, 1), fr)]

/-- Step 11: the 3D LUT with node values node r g b channel, on shaper outputs (R165). -/
def lut3 (node : Nat → Nat → Nat → Nat → Nat) (w : Nat → Nat) (ch : Nat) : Nat :=
  let (ir, fr) := lutPos (w 0)
  let (ig, fg) := lutPos (w 1)
  let (ib, fb) := lutPos (w 2)
  let s := (tetra fr fg fb).foldl (fun a p => a + p.2 * node (ir + p.1.1) (ig + p.1.2.1) (ib + p.1.2.2) ch) 0
  (16 * s + 512) / 1024

/-! ## Tables (R166) -/

/-- The image of a table after reset (Table 06-7), where it has one: types 1 to 3. -/
def tableDefault (type off n : Nat) : Nat :=
  if type = 2 then 16384
  else if type = 3 then
    if off < 5766 then (off / 2 % 961 * 65535 * 2 + 960) / 1920
    else if off < 8192 then 0
    else
      let k := (off - 8192) / 8
      let v := fun i => min (64 * i) 4095
      let word := v (k % 65) + v (k / 65 % 65) * 2 ^ 16 + v (k / 4225) * 2 ^ 32
      bits word (8 * (off % 8)) (8 * n)
  else 0

/-- `n` bytes at an offset of a table's image; the default of its type while none was loaded. -/
def tableN (tables : Tab (List Byte)) (type k off n : Nat) : Nat :=
  match tables.find (type * 16 + k) with
  | some img => field img off n
  | none => tableDefault type off n

/-- The selected defect map holds (x, y): an entry with X[13:0] and Y[27:14] (R166). -/
def defectMap (tables : Tab (List Byte)) (k x y : Nat) : Bool :=
  match tables.find (16 + k) with
  | some img => (List.range (field img 0 4)).any fun j => field img (4 + 4 * j) 4 == y * 16384 + x
  | none => false

/-- Step 11, or step 10 while LUT_EN is 0: channel c of outlet o at a pixel (R148, R164, R165). -/
def Env.graded (e : Env) (tables : Tab (List Byte)) (o x y c : Nat) : Nat :=
  let lb := e.par (PIX_OL_CLR_LB o)
  let w := fun c => shaper (fun k => tableN tables 3 lb (2 * (961 * c + k)) 2) (e.outletMatrix o x y c)
  if e.par (PIX_OL_CLR_LUT_EN o) = 1 then
    lut3 (fun r g b ch => tableN tables 3 lb (8192 + 8 * ((b * 65 + g) * 65 + r) + 2 * ch) 2 % 4096) w c
  else w c

/-! ## Statistics (R170) -/

/-- Y of a pixel at tap A. -/
def Env.luma (e : Env) (x y : Nat) : Int := asr (e.tapA x y 0 + 2 * e.tapA x y 1 + e.tapA x y 2 + 2) 2

/-- A pixel counts as clipped. -/
def Env.clipped (e : Env) (x y : Nat) : Bool := e.flag x y 0 || e.flag x y 1 || e.flag x y 2

/-- Tap k (0 for offset -3) of AF filter m. -/
def Env.afTap (e : Env) (m k : Nat) : Int :=
  signed 16 (e.par (
    if m = 0 then
      (if k % 2 = 1 then PIX_CTX_AF0_HIGH e.ctx (k / 2) else if k < 6 then PIX_CTX_AF0_LOW e.ctx (k / 2) else PIX_CTX_AF0_LAST_LOW e.ctx)
    else
      (if k % 2 = 1 then PIX_CTX_AF1_HIGH e.ctx (k / 2) else if k < 6 then PIX_CTX_AF1_LOW e.ctx (k / 2) else PIX_CTX_AF1_LAST_LOW e.ctx)))

/-- The AF response of filter m at a pixel. -/
def Env.af (e : Env) (m x y : Nat) : Int :=
  roundShift (sumI ((List.range 7).map fun k => e.afTap m k * e.luma (nearest e.w ((x : Int) + (k : Nat) - 3)) y)) 13

/-- SRC, LOG and SHIFT of histogram k (Table 06-13). -/
def Env.histCtl (e : Env) (k : Nat) : Nat × Nat × Nat :=
  let g := fun (a b c : Fld) => (e.par a, e.par b, e.par c)
  if k = 0 then g (PIX_CTX_HIST_SRC0 e.ctx) (PIX_CTX_HIST_LOG0 e.ctx) (PIX_CTX_HIST_SHIFT0 e.ctx)
  else if k = 1 then g (PIX_CTX_HIST_SRC1 e.ctx) (PIX_CTX_HIST_LOG1 e.ctx) (PIX_CTX_HIST_SHIFT1 e.ctx)
  else if k = 2 then g (PIX_CTX_HIST_SRC2 e.ctx) (PIX_CTX_HIST_LOG2 e.ctx) (PIX_CTX_HIST_SHIFT2 e.ctx)
  else g (PIX_CTX_HIST_SRC3 e.ctx) (PIX_CTX_HIST_LOG3 e.ctx) (PIX_CTX_HIST_SHIFT3 e.ctx)

/-- The bin of a source value (R170). -/
def histBin (log shift : Nat) (v : Int) : Nat :=
  let v := (clamp 0 (2 ^ 24 - 1) v).toNat
  if log = 0 then min 1023 (v / 2 ^ shift)
  else if v < 2 ^ 9 then v / 8
  else
    let n := Nat.log2 v - 8
    64 * n + (v - 2 ^ (n + 8)) / 2 ^ (n + 2)

/-- The source of histogram SRC at a pixel. -/
def Env.histSrc (e : Env) (src x y : Nat) : Int :=
  if src ≤ 3 then e.tapA x y src
  else if src = 4 then max (e.tapA x y 0) (max (e.tapA x y 1) (e.tapA x y 2))
  else e.luma x y

/-- The indices k below n with floor(m * k / n) = i. -/
def zone (n m i : Nat) : List Nat := (List.range n).filter fun k => m * k / n == i

/-- The pixels of a frame in row order. -/
def Env.pixels (e : Env) : List (Nat × Nat) := (List.range e.h).flatMap fun y => (List.range e.w).map fun x => (x, y)

/-- A zone of the record: four signed sums, clipped pixels, pixels (Table 06-8). -/
def Env.zoneBytes (e : Env) (i j : Nat) : List Byte :=
  let px := (zone e.h 64 j).flatMap fun y => (zone e.w 64 i).map fun x => (x, y)
  ((List.range 4).flatMap fun c => le 6 (unsigned 48 (sumI (px.map fun p => e.tapA p.1 p.2 c))))
    ++ le 4 (px.filter fun p => e.clipped p.1 p.2).length ++ le 4 px.length

/-- Histogram k as 1,024 counts. -/
def Env.histBytes (e : Env) (k : Nat) : List Byte :=
  let (src, log, shift) := e.histCtl k
  let counts := e.pixels.foldl (fun (t : Tab Nat) p =>
    let b := histBin log shift (e.histSrc src p.1 p.2)
    t.put b (t.look b 0 + 1)) []
  (List.range 1024).flatMap fun b => le 4 (counts.look b 0)

/-- An AF window: the sums of both filters. -/
def Env.afBytes (e : Env) (i j : Nat) : List Byte :=
  let px := (zone e.h 32 j).flatMap fun y => (zone e.w 32 i).map fun x => (x, y)
  (List.range 2).flatMap fun m => le 8 (px.foldl (fun a p => a + (e.af m p.1 p.2).natAbs) 0)

/-- The optical-black sum and count of site s (R153). -/
def Env.obBytes (e : Env) (s : Nat) : List Byte :=
  let px := e.pixels.filter fun p => e.site p.1 p.2 == s && e.masked p.1 p.2
  le 8 (px.foldl (fun a p => a + e.raw p.1 p.2) 0) ++ le 4 px.length ++ le 4 0

/-- The body of a statistics record from byte 0x40 on (Table 06-8). -/
def Env.statsBody (e : Env) : List Byte :=
  ((List.range 64).flatMap e.obBytes)
    ++ ((List.range 64).flatMap fun j => (List.range 64).flatMap fun i => e.zoneBytes i j)
    ++ ((List.range 4).flatMap e.histBytes)
    ++ ((List.range 32).flatMap fun j => (List.range 32).flatMap fun i => e.afBytes i j)

/-- The 64-byte header of a statistics record (Table 06-8). -/
def Env.statsHeader (e : Env) (version : Nat) (paired : Bool) (fn tag ts tns tf seq : Nat) : List Byte :=
  let en := fun f k => e.par f * 2 ^ k
  let flags := b2n paired + en (PIX_CTX_TBL_HL_EN e.ctx) 1 + en (PIX_CTX_TBL_DM_EN e.ctx) 2 + en (PIX_CTX_TBL_DYN_EN e.ctx) 3
    + en (PIX_CTX_TBL_SHADE_EN e.ctx) 4
  le 4 0x54415453 ++ le 1 e.ctx ++ le 1 version ++ le 2 flags ++ le 4 fn ++ le 2 tag ++ le 2 0 ++ le 8 ts ++ le 4 tns ++ le 4 tf
    ++ le 2 e.w ++ le 2 e.h ++ le 1 e.pw ++ le 1 e.ph ++ le 2 0
    ++ le 4 (e.pixels.filter fun p => e.dynChanged p.1 p.2).length
    ++ le 4 (e.pixels.filter fun p => e.clipped p.1 p.2).length ++ le 12 0 ++ le 4 seq

end Sys2Proof.Machine
end

