-- ==== Sys2Proof/Machine/Outlets.lean ====
section
/-!
DEFINITION. Outlets: scaler, conversion, buffers and publication, vision slots (R172 to R180).
-/
namespace Sys2Proof.Machine
variable {s₀ : State}

/-! ## Records -/

/-- `n` bytes at an offset of outlet o's OUTLET record (Table 07-1). -/
def Run.olN (r : Run s₀) (o off n : Nat) : Nat := r.cfgN 0x0701 o off n

/-- KIND of an outlet: 1 display, 2 coding, 3 vision; 0 when the bit-stream holds no such outlet. -/
def Run.olKind (r : Run s₀) (o : Nat) : Nat := r.olN o 8 1

/-- The outlets that a context sources, in ascending order. -/
def Run.outletsOf (r : Run s₀) (ctx : Nat) : List Nat := (List.range 24).filter fun o => r.hasCfg 0x0701 o && r.olN o 9 1 == ctx

/-- What the outlet holds beside its registers. -/
def Run.outU (r : Run s₀) (o : Nat) : OutU := r.u.out.look o {}

/-- Change what the outlet holds. -/
def Run.outMod (r : Run s₀) (o : Nat) (f : OutU → OutU) : Run s₀ := r.mod fun u => { u with out := u.out.put o (f (u.out.look o {})) }

/-! ## Scaler and conversion (R174, R175) -/

/-- One dimension of the scaler: output index i of m from n inputs, with the coefficients of `taps` taps (R174). -/
def scaleAt (lo hi : Int) (coef : Nat → Nat → Int) (taps n m : Nat) (inp : Nat → Int) (i : Nat) : Int :=
  let pos : Int := ((2 * i + 1) * n * 2 ^ 15 / m : Nat) - (2 ^ 15 : Nat)
  let k := asr pos 16
  let ph := (asr pos 10 % 64).toNat
  clamp lo hi (roundShift (sumI ((List.range taps).map fun t =>
    coef ph t * inp (nearest n (k - (taps / 2 : Nat) + 1 + (t : Nat))))) 12)

/-- The scaled value at output column i, row j, horizontally first (R174); `sc` is the SCALER record. -/
def scaled (lo hi : Int) (sc : List Byte) (iw ih ow oh : Nat) (inp : Nat → Nat → Int) (i j : Nat) : Int :=
  let hc := fun p t => signed 16 (field sc (8 + 2 * (8 * p + t)) 2)
  let vc := fun p t => signed 16 (field sc (0x408 + 2 * (6 * p + t)) 2)
  scaleAt lo hi vc 6 ih oh (fun y => scaleAt lo hi hc 8 iw ow (fun x => inp x y) i) j

/-- Component r of a converted pixel (R175). -/
def yccOf (coef : Nat → Int) (off : Nat → Int) (depth : Nat) (v : Nat → Int) (r : Nat) : Nat :=
  (clamp 0 ((2 ^ depth : Nat) - 1)
    (roundShift (coef (3 * r) * v 0 + coef (3 * r + 1) * v 1 + coef (3 * r + 2) * v 2) 22 + off r)).toNat

/-- The 4:2:2 chroma at an even column: (1, 2, 1) / 4 of the row, ends repeated (R175). -/
def chroma422 (w : Nat) (c : Nat → Nat) (x : Nat) : Nat :=
  (c (nearest w ((x : Int) - 1)) + 2 * c x + c (nearest w ((x : Int) + 1)) + 2) / 4

/-! ## Buffers (R177, R178) -/

/-- The pitch of a plane row in bytes (R178). -/
def olPitch (ow : Nat) : Nat := ceilDiv (2 * ow) 64 * 64

/-- The bytes of one frame of a display or coding outlet (R178). -/
def olFrameBytes (ow oh : Nat) (is422 : Bool) : Nat := olPitch ow * oh * (if is422 then 2 else 3)

/-- The DRAM address of buffer b of a display or coding outlet (R178). -/
def Run.olBuffer (r : Run s₀) (o b : Nat) : Nat :=
  let is422 := bit (r.olN o 0x10 1) 0 || r.olKind o == 2
  r.polder (r.olN o 0xB 1) + r.olN o 0x14 4 * 4096 + b * (ceilDiv (olFrameBytes (r.olN o 0xC 2) (r.olN o 0xE 2) is422) 4096 * 4096)

/-- The buffers of an outlet that frames in progress write (R128, R177). -/
def Run.olWriting (r : Run s₀) (o : Nat) : List Nat :=
  (r.u.pix.frames.flatMap PFrame.bufs).filterMap fun p => if p.1 = o then p.2 else none

/-- BUSY and WRITING of an outlet follow the frames in progress. -/
def Run.olBusy (r : Run s₀) (o : Nat) : Run s₀ :=
  match (r.olWriting o).getLast? with
  | some b => (r.wr (OUT_STATUS_BUSY o) 1).wr (OUT_STATUS_WRITING o) b
  | none => r.wr (OUT_STATUS_BUSY o) 0

/-- The buffer an outlet writes next: the lowest never published, else the oldest published one not held; a buffer that a frame
in progress writes is neither (R177). -/
def Run.olChoose (r : Run s₀) (o : Nat) : Option Nat :=
  let u := r.outU o
  let held := r.rd (OUT_STATUS_HELD o)
  let writing := r.olWriting o
  match lowest (fun b => !u.order.contains b && !writing.contains b) (r.olN o 0x11 1) with
  | some b => some b
  | none => u.order.find? fun b => !bit held b

/-- The outlet starts a frame in the buffer chosen at its first band; with every buffer held it drops the frame (R177). -/
def Run.olBegin (r : Run s₀) (o : Nat) (f : Option Nat → Run s₀ → Run s₀) : Run s₀ :=
  match r.olChoose o with
  | some b =>
    let r := r.outMod o fun u => { u with order := u.order.filter (· != b) }
    f (some b) ((r.wr (OUT_STATUS_BUSY o) 1).wr (OUT_STATUS_WRITING o) b)
  | none => f none ((r.sat (OUT_DROPS_DROPS o)).ev (224 + o))

/-- The outlet publishes buffer b (R177). -/
def Run.olPublish (r : Run s₀) (o b : Nat) (i : PubInfo) : Run s₀ :=
  let r := r.outMod o fun u => { u with order := u.order ++ [b], info := u.info.put b { i with no := u.pubs + 1 }, pubs := u.pubs + 1 }
  ((r.wr (OUT_STATUS_PUBLISHED o) 1).wr (OUT_PUB_FN o) i.fn).wr (OUT_PUB_IDX o) b

/-- The bytes of one plane row of 16-bit samples, padded to the pitch. -/
def planeRow (ow : Nat) (v : Nat → Nat) : List Byte := padTo (olPitch ow) ((List.range ow).flatMap fun x => le 2 (v x))

/-- The three planes of a 4:4:4 frame from its converted components (R178). -/
def planes444 (ow oh : Nat) (c : Nat → Nat → Nat → Nat) : List Byte :=
  (List.range 3).flatMap fun k => (List.range oh).flatMap fun y => planeRow ow fun x => c x y k

/-- The interleaved chroma sample at column x of a 4:2:2 row: component 1 at even, 2 at odd positions, both taken at the
even column (R175, R178). -/
def chromaAt (ow : Nat) (c : Nat → Nat → Nat) (x : Nat) : Nat :=
  let e := x / 2 * 2
  chroma422 ow (fun k => c k (x % 2 + 1)) e

/-- The two planes of a 4:2:2 frame; for an odd width the interleaved row ends with component 2 of its last even column (R175,
R178). -/
def planes422 (ow oh : Nat) (c : Nat → Nat → Nat → Nat) : List Byte :=
  ((List.range oh).flatMap fun y => planeRow ow fun x => c x y 0)
    ++ (List.range oh).flatMap fun y => planeRow (ow + ow % 2) fun x => chromaAt ow (fun x k => c x y k) x

/-- The bytes a display or coding outlet writes for a frame (R173 to R178). -/
def Run.olImage (r : Run s₀) (e : Env) (tables : Tab (List Byte)) (o : Nat) : List Byte :=
  let ow := r.olN o 0xC 2
  let oh := r.olN o 0xE 2
  let is422 := bit (r.olN o 0x10 1) 0 || r.olKind o == 2
  let depth := if bit (r.olN o 0x10 1) 1 then 12 else 10
  let sc := r.cfg 0x0702 (e.par (OUT_CTL_SCALER o))
  let v := fun i j k => scaled 0 65535 sc e.w e.h ow oh (fun x y => (e.graded tables o x y k : Int)) i j
  let c := fun i j k => yccOf (fun n => e.parS (OUT_YCC_COEF o n)) (fun n => e.parS (OUT_YCC_OFF_OFF o n)) depth (v i j) k
  if is422 then planes422 ow oh c else planes444 ow oh c

/-! ## Vision (R179, R180) -/

/-- A pyramid level's value at column i, row j: level 0 is the scaled output, and each further level averages 2 x 2 blocks,
the last column or row repeated (R179). -/
def pyramid (base : Nat → Nat → Int) (w h : Nat) : Nat → Nat → Nat → Int
  | 0, i, j => base i j
  | k + 1, i, j =>
    let wk := ceilDiv w (2 ^ k)
    let hk := ceilDiv h (2 ^ k)
    let g := fun a b => pyramid base w h k (min (2 * i + a) (wk - 1)) (min (2 * j + b) (hk - 1))
    asr (g 0 0 + g 1 0 + g 0 1 + g 1 1 + 2) 2

/-- binary16 of v / 2^s: nearest, ties toward positive infinity, saturating to 65,504, zero as +0 (R179). -/
def toHalf (v : Int) (s : Nat) : Nat :=
  let a := v.natAbs
  if a = 0 then 0
  else
    let e : Int := max (-14) ((Nat.log2 a : Int) - s)
    let k : Int := (s : Int) + e - 10
    let m : Int := if k ≤ 0 then v * (2 ^ (-k).toNat : Nat) else roundShift v k.toNat
    let code : Int := (e + 15) * 1024 + (m.natAbs : Int) - 1024
    if m = 0 then 0 else (min code 0x7BFF).toNat + (if m < 0 then 0x8000 else 0)

/-- A stored vision sample: 2 bytes of binary16 or 1 byte (R179). -/
def visionSample (fp16 : Bool) (shift : Nat) (v : Int) : List Byte :=
  if fp16 then le 2 (toHalf v (6 + shift)) else le 1 (clamp 0 255 (roundShift v (6 + shift))).toNat

/-- A vision tile (Table 07-4, R180). -/
def visionTile (fp16 : Bool) (shift level tx ty wk hk fn : Nat) (v : Nat → Nat → Nat → Int) : List Byte :=
  let vw := min 128 (wk - tx * 128)
  let vh := min 128 (hk - ty * 128)
  padTo 256 (le 4 0x4C495456 ++ le 1 level ++ le 1 (b2n fp16 * 16) ++ le 2 0 ++ le 2 tx ++ le 2 ty ++ le 2 vw ++ le 2 vh ++ le 4 fn)
    ++ (List.range 3).flatMap fun c => (List.range 128).flatMap fun y => (List.range 128).flatMap fun x =>
      if x < vw ∧ y < vh then visionSample fp16 shift (v (tx * 128 + x) (ty * 128 + y) c)
      else List.replicate (if fp16 then 2 else 1) 0#8

/-- A vision frame descriptor (Table 07-3). -/
def visionDesc (o : Nat) (fp16 : Bool) (shift w h seq : Nat) (i : PubInfo) : List Byte :=
  padTo 256 (le 4 0x43534456 ++ le 1 o ++ le 1 (b2n fp16 * 16) ++ le 1 shift ++ le 1 0 ++ le 4 i.fn ++ le 2 i.tag ++ le 2 0
    ++ le 8 i.ts ++ le 4 i.tns ++ le 4 i.tf
    ++ ((List.range 3).flatMap fun k =>
      le 2 (ceilDiv w (2 ^ k)) ++ le 2 (ceilDiv h (2 ^ k)) ++ le 2 (ceilDiv (ceilDiv w (2 ^ k)) 128) ++ le 2 (ceilDiv (ceilDiv h (2 ^ k)) 128))
    ++ le 4 0 ++ le 4 seq)

/-- The tiles of all three levels of a frame. -/
def visionTiles (fp16 : Bool) (shift w h fn : Nat) (base : Nat → Nat → Nat → Int) : List Byte :=
  (List.range 3).flatMap fun k =>
    let wk := ceilDiv w (2 ^ k)
    let hk := ceilDiv h (2 ^ k)
    (List.range (ceilDiv hk 128)).flatMap fun ty => (List.range (ceilDiv wk 128)).flatMap fun tx =>
      visionTile fp16 shift k tx ty wk hk fn fun i j c => pyramid (fun i j => base i j c) w h k i j

/-- The stride of a vision slot (R180). -/
def visionStride (fp16 : Bool) (w h : Nat) : Nat :=
  let tiles := ((List.range 3).map fun k => ceilDiv (ceilDiv w (2 ^ k)) 128 * ceilDiv (ceilDiv h (2 ^ k)) 128).foldl (· + ·) 0
  ceilDiv (256 + tiles * (if fp16 then 98560 else 49408)) 4096 * 4096

/-- The DRAM address of a slot of a vision outlet. -/
def Run.olSlot (r : Run s₀) (o slot : Nat) : Nat :=
  r.polder (r.olN o 0xB 1) + r.olN o 0x14 4 * 4096 + slot * visionStride (bit (r.olN o 0x10 1) 4) (r.olN o 0xC 2) (r.olN o 0xE 2)

/-- The SEQ of the n-th record, n from 1: it wraps from 0xFFFF_FFFF to 1 (R171). -/
def recordSeq (n : Nat) : Nat := (n - 1) % 0xFFFFFFFF + 1

/-- A vision outlet writes a frame to its next slot (R180). -/
def Run.visionWrite (r : Run s₀) (e : Env) (o : Nat) (i : PubInfo) : Run s₀ :=
  let ow := r.olN o 0xC 2
  let oh := r.olN o 0xE 2
  let fp16 := bit (r.olN o 0x10 1) 4
  let shift := e.par (OUT_CTL_VSHIFT o)
  let sc := r.cfg 0x0702 (e.par (OUT_CTL_SCALER o))
  let n := (r.outU o).count
  let a := r.olSlot o (n % r.olN o 0x11 1)
  let base := fun i j c => scaled (-(2 ^ 24 : Nat)) ((2 ^ 24 : Nat) - 1) sc e.w e.h ow oh (fun x y => e.outletMatrix o x y c) i j
  let r := r.store? 4 a (visionDesc o fp16 shift ow oh 0 i)
  let r := r.store? 4 (a + 256) (visionTiles fp16 shift ow oh i.fn base)
  let r := r.store? 4 a ((visionDesc o fp16 shift ow oh (recordSeq (n + 1)) i).take 64)
  let r := r.outMod o fun u => { u with count := n + 1, pubs := u.pubs + 1 }
  ((r.wr (OUT_STATUS_PUBLISHED o) 1).wr (OUT_PUB_FN o) i.fn).wr (OUT_PUB_IDX o) (n % r.olN o 0x11 1)

/-- An outlet processes a frame: EN is 1 in the frame's version and FN mod FRAME_DIV is 0 (R176, Table 07-11). -/
def Run.olTakes (r : Run s₀) (ver : Fld → Nat) (o fn : Nat) : Bool := ver (OUT_CTL_EN o) == 1 && fn % r.olN o 0x12 1 == 0

end Sys2Proof.Machine
end

