-- ==== Sys2Proof/Machine/Canvas.lean ====
section
/-!
DEFINITION. The canvas of a composer: layers, blending, clipping (R194 to R197), dirty tiles and regions (R202, R203), and
the wake of a viewfinder link (R209).
-/
namespace Sys2Proof.Machine
variable {s₀ : State}

/-! ## Blending (R194 to R196) -/

/-- A video sample as a 12-bit code (R194). -/
def videoCode (depth12 : Bool) (v : Nat) : Nat := if depth12 then v else v * 4 + v / 256

/-- An alpha of 0 to 255 as 0 to 256: A + (A >> 7) (R195). -/
def alpha256 (a : Nat) : Nat := a + a / 128

/-- The blend of an ordinary layer (R195). -/
def blendOrdinary (a s d : Nat) : Nat := (alpha256 a * s + (256 - alpha256 a) * d + 128) / 256

/-- P of a privileged pixel as 0 to 256 (R196). -/
def pixelAlpha (fmt p : Nat) : Nat := if fmt = 0 then alpha256 p else (p + p / 512 + 2) / 4

/-- The blend of a privileged layer (R196). -/
def blendPrivileged (premult : Bool) (a p' s d : Nat) : Nat :=
  let e := (p' * alpha256 a + 128) / 256
  if premult then min ((alpha256 a * s + 128) / 256 + ((256 - e) * d + 128) / 256) 4095
  else (e * s + (256 - e) * d + 128) / 256

/-! ## Layers (R197) -/

/-- A layer of a composition: k from 0 for V_0 to 7 for G_5, its place, its settings, and for a video layer the outlet and
the buffer it shows. -/
structure Layer where
  k : Nat
  x : Int
  y : Int
  w : Nat
  h : Nat
  sx : Nat
  sy : Nat
  alpha : Nat
  premult : Bool
  fmt : Nat
  /-- DRAM address of the buffer, and the row pitch. -/
  addr : Nat
  pitch : Nat
  outlet : Nat

/-- `n` bytes at an offset of composer n's COMPOSER record (Table 08-1). -/
def Run.cmpN (r : Run s₀) (n off k : Nat) : Nat := r.cfgN 0x0801 n off k

/-- The canvas size. -/
def Run.canvas (r : Run s₀) (n : Nat) : Nat × Nat := (r.cmpN n 8 2, r.cmpN n 0xA 2)

/-- What the composer holds beside its registers. -/
def Run.cmpU (r : Run s₀) (n : Nat) : CmpU := r.u.cmp.look n {}

/-- Change what the composer holds. -/
def Run.cmpMod (r : Run s₀) (n : Nat) (f : CmpU → CmpU) : Run s₀ := r.mod fun u => { u with cmp := u.cmp.put n (f (u.cmp.look n {})) }

/-- The display outlet of video layer k of composer n (Table 07-1, DEST). -/
def Run.videoOutlet (r : Run s₀) (n k : Nat) : Option Nat :=
  (List.range 24).find? fun o => r.hasCfg 0x0701 o && r.olKind o == 1 && r.olN o 0xA 1 == n + 4 * k

/-- The clipped rectangle of a layer from its settings `v`: first and last column, first and last row; none when nothing of
it lies on the canvas. A video layer is clipped to its outlet's size too (R197). -/
def Run.layerRect (r : Run s₀) (n k : Nat) (v : Fld → Nat) : Option Region :=
  let (cw, ch) := r.canvas n
  let x := signed 16 (v (CMP_L_POS_X n k))
  let y := signed 16 (v (CMP_L_POS_Y n k))
  let (w, h) :=
    if k < 2 then
      match r.videoOutlet n k with
      | some o => (min (v (CMP_L_SIZE_W n k)) (r.olN o 0xC 2 - v (CMP_L_SRC_X n k)), min (v (CMP_L_SIZE_H n k)) (r.olN o 0xE 2 - v (CMP_L_SRC_Y n k)))
      | none => (0, 0)
    else (v (CMP_L_SIZE_W n k), v (CMP_L_SIZE_H n k))
  let x0 := max x 0
  let y0 := max y 0
  let x1 := min (x + w) cw - 1
  let y1 := min (y + h) ch - 1
  if x0 ≤ x1 ∧ y0 ≤ y1 then some ⟨x0.toNat, x1.toNat, y0.toNat, y1.toNat, 0⟩ else none

/-- Bytes of a graphics pixel (Table 08-3). -/
def gfxBytes (fmt : Nat) : Nat := if fmt = 0 then 4 else 8

/-- A committed layer that R197 treats as disabled. -/
def Run.layerBad (r : Run s₀) (n k : Nat) (v : Fld → Nat) : Bool :=
  if k < 2 then (r.videoOutlet n k).isNone
  else
    let a := v (CMP_L_ADDR_ADDR n k)
    let p := v (CMP_L_PITCH_PITCH n k)
    let w := v (CMP_L_SIZE_W n k)
    let h := v (CMP_L_SIZE_H n k)
    let b := gfxBytes (v (CMP_L_CTL_FMT n k))
    a % 64 != 0 || p % 64 != 0 || p < w * b || r.rd (MEM_POLDER_SIZE (r.cmpN n 0xD 1)) < a + (h - 1) * p + w * b
      || (v (CMP_L_CTL_PREMULT n k) == 1 && k < 6)

/-- Whether a video layer holds a buffer, and the buffer. -/
def Run.layerHeld (r : Run s₀) (n k : Nat) : Option Nat :=
  if k = 0 then (if r.on (CMP_STATUS_HOLD_V0 n) then some (r.rd (CMP_STATUS_HELD_V0 n)) else none)
  else (if r.on (CMP_STATUS_HOLD_V1 n) then some (r.rd (CMP_STATUS_HELD_V1 n)) else none)

/-- The enabled layers, bottom to top, from the active settings (R194). A video layer that has never selected a buffer is
treated as disabled (R199). -/
def Run.layers (r : Run s₀) (n : Nat) : List Layer :=
  let v := r.rdA
  (List.range 8).filterMap fun k =>
    if v (CMP_L_CTL_EN n k) = 0 then none
    else
      let mk := fun addr pitch o : Nat => some
        { k := k, x := signed 16 (v (CMP_L_POS_X n k)), y := signed 16 (v (CMP_L_POS_Y n k)), w := v (CMP_L_SIZE_W n k),
          h := v (CMP_L_SIZE_H n k), sx := v (CMP_L_SRC_X n k), sy := v (CMP_L_SRC_Y n k), alpha := v (CMP_L_CTL_ALPHA n k),
          premult := v (CMP_L_CTL_PREMULT n k) == 1, fmt := v (CMP_L_CTL_FMT n k), addr := addr, pitch := pitch, outlet := o : Layer }
      if k < 2 then
        match r.videoOutlet n k, r.layerHeld n k with
        | some o, some b => mk (r.olBuffer o b) (olPitch (r.olN o 0xC 2)) o
        | _, _ => none
      else mk (r.polder (r.cmpN n 0xD 1) + v (CMP_L_ADDR_ADDR n k)) (v (CMP_L_PITCH_PITCH n k)) 24

/-- The bytes of DRAM that a layer spans. -/
def Run.layerSpan (r : Run s₀) (l : Layer) : Nat :=
  if l.outlet < 24 then olFrameBytes (r.olN l.outlet 0xC 2) (r.olN l.outlet 0xE 2) (bit (r.olN l.outlet 0x10 1) 0)
  else (l.h - 1) * l.pitch + l.w * gfxBytes l.fmt

/-- A sample of a plane of 16-bit words: row y, word x. -/
def planeSample (get : Nat → Byte) (base pitch x y : Nat) : Nat := ofLe [get (base + y * pitch + 2 * x), get (base + y * pitch + 2 * x + 1)]

/-- Component c of a video layer at buffer column x, row y, as a 12-bit code (R194, R178). -/
def Run.videoAt (r : Run s₀) (get : Nat → Byte) (l : Layer) (c x y : Nat) : Nat :=
  let o := l.outlet
  let ow := r.olN o 0xC 2
  let oh := r.olN o 0xE 2
  let d12 := bit (r.olN o 0x10 1) 1
  if bit (r.olN o 0x10 1) 0 && c != 0 then
    let at_ := fun e : Nat => videoCode d12 (planeSample get (l.addr + oh * l.pitch) l.pitch (e + c - 1) y)
    if x % 2 = 0 then at_ x else if x + 1 < ow then (at_ (x - 1) + at_ (x + 1) + 1) / 2 else at_ (x - 1)
  else videoCode d12 (planeSample get (l.addr + c * oh * l.pitch) l.pitch x y)

/-- Component c of a graphics pixel as a 12-bit code, or its P for c = 3 (Table 08-3, R194). -/
def gfxField (fmt v c : Nat) : Nat :=
  if fmt = 0 then
    if c = 3 then bits v 24 8 else bits v (8 * c) 8 * 16 + bits v (8 * c) 8 / 16
  else if c = 3 then bits v 48 10 else bits v (16 * c) 12

/-- D after the layer, at canvas pixel (x, y), component c (R195, R196). -/
def Run.layerOver (r : Run s₀) (get : Nat → Byte) (l : Layer) (x y c d : Nat) : Nat :=
  let dx := (x : Int) - l.x
  let dy := (y : Int) - l.y
  if dx < 0 ∨ dy < 0 ∨ (l.w : Int) ≤ dx ∨ (l.h : Int) ≤ dy then d
  else if l.k < 2 then
    let bx := l.sx + dx.toNat
    let by_ := l.sy + dy.toNat
    if r.olN l.outlet 0xC 2 ≤ bx ∨ r.olN l.outlet 0xE 2 ≤ by_ then d
    else blendOrdinary l.alpha (r.videoAt get l c bx by_) d
  else
    let n := gfxBytes l.fmt
    let a := l.addr + dy.toNat * l.pitch + dx.toNat * n
    let v := ofLe ((List.range n).map fun k => get (a + k))
    if l.k < 6 then blendOrdinary l.alpha (gfxField l.fmt v c) d
    else blendPrivileged l.premult l.alpha (pixelAlpha l.fmt (gfxField l.fmt v 3)) (gfxField l.fmt v c) d

/-- A byte as CMP reads it: 0 where a layer's buffer may not be read or lies on a retired channel (R349, R350). -/
def Run.cmpByte (r : Run s₀) (ls : List Layer) (a : Nat) : Byte :=
  if ls.any (fun l => l.addr ≤ a && a < l.addr + r.layerSpan l && r.allowed 5 false l.addr (r.layerSpan l)) && !r.retired (channelOf a)
  then r.byte a else 0#8

/-- The addresses of the samples or the pixel that a layer contributes at canvas pixel (x, y). -/
def Run.layerAddrs (r : Run s₀) (l : Layer) (x y : Nat) : List Nat :=
  let dx := (x : Int) - l.x
  let dy := (y : Int) - l.y
  if dx < 0 ∨ dy < 0 ∨ (l.w : Int) ≤ dx ∨ (l.h : Int) ≤ dy then []
  else if l.k < 2 then
    let bx := l.sx + dx.toNat
    let by_ := l.sy + dy.toNat
    let oh := r.olN l.outlet 0xE 2
    if bit (r.olN l.outlet 0x10 1) 0 then
      (l.addr + by_ * l.pitch + 2 * bx) :: ([bx / 2 * 2, bx / 2 * 2 + 2].map fun e => l.addr + (oh + by_) * l.pitch + 2 * e)
    else [0, 1, 2].map fun c => l.addr + (c * oh + by_) * l.pitch + 2 * bx
  else [l.addr + dy.toNat * l.pitch + dx.toNat * gfxBytes l.fmt]

/-- Poisoned data reach canvas pixel (x, y) (R397). -/
def Run.pixelPoisoned (r : Run s₀) (ls : List Layer) (x y : Nat) : Bool :=
  if r.u.mem.poison.isEmpty && r.rd MEM_CFG_RETIRED == 0 then false
  else ls.any fun l => (r.layerAddrs l x y).any fun a => (r.poisonedBlock a 2).isSome

/-- A canvas pixel: component c as a 12-bit code (R194); a pixel that poisoned data reach composes as 0 (R397). -/
def Run.canvasPixel (r : Run s₀) (n : Nat) (ls : List Layer) (x y c : Nat) : Nat :=
  let bg := r.rdA (if c = 0 then CMP_BG_C0 n else if c = 1 then CMP_BG_C1 n else CMP_BG_C2 n)
  if r.pixelPoisoned ls x y then 0 else ls.foldl (fun d l => r.layerOver (r.cmpByte ls) l x y c d) bg

/-- The tile holds a pixel that poisoned data reach. -/
def Run.tilePoisoned (r : Run s₀) (ls : List Layer) (t : Nat) : Bool :=
  (List.range 64).any fun y => (List.range 64).any fun x => r.pixelPoisoned ls (t % 128 * 64 + x) (t / 128 * 64 + y)

/-- The effects of a composition's reads: refusals and poison, once for each layer. -/
def Run.layerReads (r : Run s₀) (ls : List Layer) : Run s₀ :=
  r.each ls fun l r => r.load? 5 l.addr (r.layerSpan l) fun _ r => r

/-! ## Dirty tiles (R202, R203) -/

/-- The tiles of the canvas. -/
def Run.tiles (r : Run s₀) (n : Nat) : List Nat :=
  let (w, h) := r.canvas n
  (List.range (ceilDiv h 64)).flatMap fun j => (List.range (ceilDiv w 64)).map fun i => j * 128 + i

/-- The tile touches the rectangle. -/
def touches (g : Region) (t : Nat) : Bool :=
  let i := t % 128
  let j := t / 128
  64 * i ≤ g.x1 && g.x0 < 64 * i + 64 && 64 * j ≤ g.y1 && g.y0 < 64 * j + 64

/-- A link leaves ULPS: it drives Mark-1 (R209). -/
def Run.linkMark (r : Run s₀) (n : Nat) : Run s₀ := (r.wr (VFD_STATUS_LINK_STATE n) 1).emit (.dphy n 1)

/-- A full re-weave has stopped the units at their frame boundaries and is not over (R56). -/
def Run.stopping (r : Run s₀) : Bool := r.u.glb.change == .quiesce || r.u.glb.change == .weaving

/-- A link in ULPS wakes (R209), but not while a re-weave has stopped it (R56). -/
def Run.vfWake (r : Run s₀) (n : Nat) : Run s₀ :=
  r.when (n < 2 && r.rd (VFD_STATUS_LINK_STATE n) == 3 && !r.stopping) fun r => r.linkMark n

/-- A link enters ULPS (R208, R213). -/
def Run.linkUlps (r : Run s₀) (n : Nat) : Run s₀ := (r.wr (VFD_STATUS_LINK_STATE n) 3).emit (.dphy n 0)

/-- A link is active in LP-11; above 1,500 Mbit/s the initial deskew sequence precedes its first HS packet (R209, R213, R436). -/
def Run.linkActive (r : Run s₀) (n : Nat) : Run s₀ :=
  let r := ((r.wr (VFD_STATUS_LINK_STATE n) 2).emit (.dphy n 2)).cmpMod n fun u => { u with ppsDue := true }
  r.when (1500 < r.cfgN 0x0802 n 8 2) fun r => r.emit (.dphy n 3)

/-- Tiles that satisfy p become dirty; a tile that becomes dirty wakes the link (R202, R209). -/
def Run.dirty (r : Run s₀) (n : Nat) (p : Nat → Bool) : Run s₀ :=
  if n < 2 ∧ r.hasCfg 0x0801 n then
    let old := (r.cmpU n).dirty
    let new := (r.tiles n).filter fun t => old.contains t || p t
    let r := r.cmpMod n fun u => { u with dirty := new }
    r.when (old.length < new.length) fun r => r.vfWake n
  else r

/-- A rectangle becomes dirty. -/
def Run.dirtyRect (r : Run s₀) (n : Nat) (g : Option Region) : Run s₀ :=
  match g with
  | some g => r.dirty n (touches g)
  | none => r

/-- The whole canvas becomes dirty. -/
def Run.dirtyAll (r : Run s₀) (n : Nat) : Run s₀ := r.dirty n fun _ => true

/-- An outlet published a buffer: the rectangle of the enabled video layer of a viewfinder that shows it becomes dirty (R202,
R208). -/
def Run.cmpPublished (r : Run s₀) (o : Nat) : Run s₀ :=
  let d := r.olN o 0xA 1
  let n := d % 4
  let k := d / 4 % 2
  r.when (r.olKind o == 1 && d < 8 && n < 2 && r.rdA (CMP_CTL_EN n) == 1 && r.rdA (CMP_L_CTL_EN n k) == 1) fun r =>
    r.dirtyRect n (r.layerRect n k r.rdA)

/-- The fields of a layer other than DAMAGE. -/
def layerFields (n k : Nat) : List Fld :=
  [CMP_L_CTL_PREMULT n k, CMP_L_CTL_ALPHA n k, CMP_L_CTL_FMT n k, CMP_L_CTL_EN n k, CMP_L_POS_X n k, CMP_L_POS_Y n k,
   CMP_L_SIZE_W n k, CMP_L_SIZE_H n k, CMP_L_SRC_X n k, CMP_L_SRC_Y n k, CMP_L_ADDR_ADDR n k, CMP_L_PITCH_PITCH n k]

/-- A change of a layer's active fields, which were `old` before it, makes its old and new rectangles dirty (R202). -/
def Run.dirtyLayer (r : Run s₀) (n k : Nat) (old : Fld → Nat) : Run s₀ :=
  let new := r.rdA
  r.when ((layerFields n k).any fun f => old f != new f) fun r =>
    (r.dirtyRect n (r.layerRect n k old)).dirtyRect n (r.layerRect n k new)

/-- What a snapshot applied to unit CMP_n makes dirty, where `old` gives the active values before it (R202). -/
def Run.dirtyApply (r : Run s₀) (n : Nat) (old : Fld → Nat) : Run s₀ :=
  let new := r.rdA
  let r := r.each (List.range 8) fun k r =>
    let r := r.dirtyLayer n k old
    let x0 := new (CMP_L_DAMAGE_X0 n k)
    let x1 := new (CMP_L_DAMAGE_X1 n k)
    let y0 := new (CMP_L_DAMAGE_Y0 n k)
    let y1 := new (CMP_L_DAMAGE_Y1 n k)
    r.when (new (CMP_L_DAMAGE_VALID n k) == 1 && decide (x0 ≤ x1) && decide (y0 ≤ y1)) fun r => r.dirty n (touches ⟨x0, x1, y0, y1, 0⟩)
  r.when ([CMP_BG_C0 n, CMP_BG_C1 n, CMP_BG_C2 n].any fun f => old f != new f) fun r => r.dirtyAll n

/-- The maximal runs of consecutive tile columns: (first, last). -/
def tileRuns : List Nat → List (Nat × Nat)
  | [] => []
  | i :: l =>
    match tileRuns l with
    | (a, b) :: m => if a = i + 1 then (i, b) :: m else (i, i) :: (a, b) :: m
    | [] => [(i, i)]

/-- Regions in tile units, from the runs of one more tile row, merged with regions that end in the row above (R203). -/
def addRow (j : Nat) (rs : List (Nat × Nat × Nat × Nat)) (runs : List (Nat × Nat)) : List (Nat × Nat × Nat × Nat) :=
  runs.foldl (fun rs q =>
    if rs.any (fun g => g.1 == q.1 && g.2.1 == q.2 && g.2.2.2 + 1 == j) then
      rs.map fun g => if g.1 = q.1 ∧ g.2.1 = q.2 ∧ g.2.2.2 + 1 = j then (g.1, g.2.1, g.2.2.1, j) else g
    else rs ++ [(q.1, q.2, j, j)]) rs

/-- Steps 1 and 2 of R203: regions as (first column, last column, first row, last row) in tiles, by top row, then left
column. -/
def tileRegions (h : Nat) (dirty : List Nat) : List (Nat × Nat × Nat × Nat) :=
  (List.range h).foldl (fun rs j => addRow j rs (tileRuns ((dirty.filter fun t => t / 128 == j).map (· % 128)))) []

/-- Bands of tile rows that overlap or touch, merged into the first (R203, step 4). -/
def mergeBands (cur : Nat × Nat) : List (Nat × Nat) → List (Nat × Nat)
  | [] => [cur]
  | q :: l => if q.1 ≤ cur.2 + 1 then mergeBands (cur.1, max cur.2 q.2) l else cur :: mergeBands q l

/-- The bands of some regions, merged. -/
def allBands (rs : List (Nat × Nat × Nat × Nat)) : List (Nat × Nat) :=
  match rs.map fun g => g.2.2 with
  | [] => []
  | q :: l => mergeBands q l

/-- The regions of a composition and whether the bounding box replaced them (R203). -/
def Run.regions (r : Run s₀) (n : Nat) (dirty : List Nat) : List Region × Bool :=
  let (w, h) := r.canvas n
  let rs := tileRegions (ceilDiv h 64) dirty
  let box := decide (16 < rs.length)
  let rs := if box then
      [(rs.foldl (fun a g => min a g.1) 127, rs.foldl (fun a g => max a g.2.1) 0, rs.foldl (fun a g => min a g.2.2.1) 127,
        rs.foldl (fun a g => max a g.2.2.2) 0)]
    else rs
  let rs := if r.on (VFD_STATUS_DSC n) then
      (allBands rs).map fun b => (0, ceilDiv w 64 - 1, b.1, b.2)
    else rs
  (rs.map fun g => ⟨64 * g.1, min (64 * g.2.1 + 63) (w - 1), 64 * g.2.2.1, min (64 * g.2.2.2 + 63) (h - 1), 0⟩, box)

end Sys2Proof.Machine
end

