-- ==== Sys2Proof/Machine/Lane.lean ====
section
/-!
DEFINITION. The serial lanes below their protocols: the line code (R73 to R80), headers, training messages, taps, states,
PRBS and eye scan (R81 to R97). What a lane's owner does at a change of state stands in Machine/Lanes.lean.
-/
namespace Sys2Proof.Machine
variable {s₀ : State}

/-! ## Line code -/

/-- CRC-8 of bytes in ascending order, each most significant bit first: x^8 + x^2 + x + 1 (Table 03-5, R98). -/
def crc8 (l : List Byte) : Nat := crcMsb 8 0x07 0 (l.flatMap fun b => msbBits 8 b.toNat)

/-- The output bits of the scrambler from a state, x^58 + x^39 + 1 (R76). -/
def scramblerBits : Nat → Nat → List Bool
  | 0, _ => []
  | n + 1, s =>
    let o := bit s 57 != bit s 38
    o :: scramblerBits n (s * 2 % 2 ^ 58 + b2n o)

/-- The scrambler's seed at every reach (R76). -/
def scramblerSeed : Nat := 0x2C59A3E71F0B4D6

/-- Data bits scrambled or descrambled from the start of a reach (R76). -/
def scramble (l : List Bool) : List Bool := (l.zip (scramblerBits l.length scramblerSeed)).map fun p => p.1 != p.2

/-- The bits of a data symbol, first bit first (R75). -/
def symbolBits (pam : Bool) (v : Nat) : List Bool :=
  if pam then (if v = 0 then [false, false] else if v = 1 then [false, true] else if v = 2 then [true, true] else [true, false])
  else [v == 1]

/-- Stuff symbols removed from payload symbols: the data symbols and the stuff positions that hold a wrong level. `run` is
the count of consecutive data symbols at level `last` (R77). -/
def destuff (top : Nat) : List Nat → Nat → Nat → List Nat × Nat
  | [], _, _ => ([], 0)
  | v :: l, run, last =>
    if run = 23 then
      let x := destuff top l 0 4
      (x.1, x.2 + (if v = top - last then 0 else 1))
    else
      let x := destuff top l (if v = last then run + 1 else 1) v
      (v :: x.1, x.2)

/-- Bits decoded from Manchester pairs: (highest, lowest) is 1; none for an invalid pair (R78). -/
def manchester (top : Nat) : List Nat → Option (List Bool)
  | a :: b :: l =>
    match manchester top l with
    | none => none
    | some bs => if a = top ∧ b = 0 then some (true :: bs) else if a = 0 ∧ b = top then some (false :: bs) else none
  | _ => some []

/-- Data symbols with stuff symbols put in, for `n` payload positions; `run` is the count of consecutive data symbols at level
`last` (R77). -/
def stuff (top : Nat) : Nat → List Nat → Nat → Nat → List Nat
  | 0, _, _, _ => []
  | n + 1, l, run, last =>
    if run = 23 then (top - last) :: stuff top n l 0 4
    else match l with
      | [] => []
      | v :: l => v :: stuff top n l (if v = last then run + 1 else 1) v

/-- Bits mapped to symbols (R75). -/
def bitSymbols (pam : Bool) : List Bool → List Nat
  | [] => []
  | a :: l =>
    if pam then
      match l with
      | [] => []
      | b :: l => (if a then (if b then 2 else 3) else b2n b) :: bitSymbols pam l
    else b2n a :: bitSymbols pam l

/-- Levels inverted (R73). -/
def invert (pam inv : Bool) (l : List Nat) : List Nat := if inv then l.map ((if pam then 3 else 1) - ·) else l

/-- The bits of inverted levels: all of them in NRZ, the first of each pair in PAM4 (R73, R75). -/
def invertBits (pam inv : Bool) (l : List Bool) : List Bool :=
  if inv then (l.zip (List.range l.length)).map fun b => if pam && b.2 % 2 == 1 then b.1 else !b.1 else l

/-- The header word of a reach, with its parity (Table 03-4). -/
def headerBits (type pos phase : Nat) (lock : Bool) : Nat :=
  let h := type + pos * 4 + phase * 64 + b2n lock * 4096
  h + popcount 13 h % 2 * 8192

/-- The 16,384 symbols of a reach: comma, header and payload, the data bits followed by bits 0 (R74 to R78, R102). -/
def reachSymbols (pam : Bool) (type pos phase : Nat) (lock : Bool) (data : List Bool) : List Nat :=
  let top := if pam then 3 else 1
  let full := if pam then 32640 else 16320
  let h := (lsbBits 14 (headerBits type pos phase lock)).flatMap fun b => if b then [top, 0] else [0, top]
  List.replicate 32 0 ++ List.replicate 4 top ++ h
    ++ stuff top 16320 (bitSymbols pam (scramble (data.take full ++ List.replicate (full - data.length) false))) 0 4

/-- A reach header (Table 03-4). -/
structure ReachHeader where
  type : Nat
  pos : Nat
  phase : Nat
  rxLock : Bool
  deriving DecidableEq, Repr

/-- The header of a reach whose comma and header symbols are valid (R78, R80). -/
def reachHeader (top : Nat) (sym : List Nat) : Option ReachHeader :=
  if (sym.take 32).all (· == 0) && ((sym.drop 32).take 4).all (· == top) && 64 ≤ sym.length then
    match manchester top ((sym.drop 36).take 28) with
    | none => none
    | some bs =>
      let h := ofLsb bs
      if popcount 14 h % 2 = 0 ∧ bits h 0 2 ≠ 3 then some ⟨bits h 0 2, bits h 2 4, bits h 6 6, bit h 12⟩ else none
  else none

/-- The descrambled data bits of a reach's payload and its code errors; only the first `limit` data symbols carry stream
bits (R77, R102). -/
def reachBits (pam : Bool) (limit : Nat) (sym : List Nat) : List Bool × Nat :=
  let x := destuff (if pam then 3 else 1) (sym.drop 64) 0 4
  (scramble ((x.1.take limit).flatMap (symbolBits pam)), x.2)

/-- Bits cut into 64-bit words, first bit lowest, with the bits left over. -/
def cutWords : Nat → List Bool → List Nat × List Bool
  | 0, l => ([], l)
  | n + 1, l =>
    if l.length < 64 then ([], l)
    else
      let x := cutWords n (l.drop 64)
      (ofLsb (l.take 64) :: x.1, x.2)

/-- Where commas begin in symbols: 32 places before the first of 4 highest symbols that follow a run of at least 32 lowest
ones; `i` is the place of the first symbol, `run` the lowest symbols before it (R80). -/
def commasAt (top : Nat) : List Nat → Nat → Nat → List Nat
  | [], _, _ => []
  | v :: l, i, run =>
    if v = 0 then commasAt top l (i + 1) (run + 1)
    else
      let x := commasAt top l (i + 1) 0
      if 32 ≤ run ∧ v = top ∧ (l.take 3).length = 3 ∧ (l.take 3).all (· == top) then (i - 32) :: x else x

/-! ## Roles and records -/

/-- What the lane holds beside its registers. -/
def Run.laneU (r : Run s₀) (n : Nat) : LaneU := r.u.lane.look n {}

/-- Change what the lane holds. -/
def Run.laneMod (r : Run s₀) (n : Nat) (f : LaneU → LaneU) : Run s₀ := r.mod fun u => { u with lane := u.lane.put n (f (u.lane.look n {})) }

/-- The lane's state (Table 03-7). -/
def Run.laneState (r : Run s₀) (n : Nat) : Nat := r.rd (LNK_STATUS_STATE n)

/-- The lanes that a BUNDLE record names: positions, then spares (Table 04-11). -/
def bundleLanes (body : List Byte) : List Nat :=
  ((List.range (field body 8 1)).map fun p => field body (0xC + p) 1) ++ ((List.range (field body 9 1)).map fun k => field body (0x18 + k) 1)

/-- The magazine lanes of the members of a RING record (Table 10-7). -/
def ringLanes (body : List Byte) : List Nat :=
  (List.range (field body 8 1 + field body 9 1)).map fun j => 24 + field body (0x10 + j) 1 / 4

/-- The feed lanes of a FEEDGRP record (Table 07-7). -/
def groupLanes (body : List Byte) : List Nat := ((List.range 8).filter fun j => bit (field body 9 1) j).map (40 + ·)

/-- The lanes that a record claims. -/
def recLanes (c : CfgRec) : List Nat :=
  if c.type = 0x0401 then bundleLanes c.body else if c.type = 0x0A02 then ringLanes c.body
  else if c.type = 0x0703 then groupLanes c.body else []

/-- The bundle whose record names the lane. -/
def Run.bundleOf (r : Run s₀) (n : Nat) : Option Nat :=
  lowest (fun b => r.hasCfg 0x0401 b && (bundleLanes (r.cfg 0x0401 b)).contains n) 8

/-- The feed group whose record names the lane. -/
def Run.groupOf (r : Run s₀) (n : Nat) : Option Nat :=
  lowest (fun g => r.hasCfg 0x0703 g && (groupLanes (r.cfg 0x0703 g)).contains n) 3

/-- Whether a ring has a member on the lane. -/
def Run.ringLane (r : Run s₀) (n : Nat) : Bool := (List.range 4).any fun k => r.hasCfg 0x0A02 k && (ringLanes (r.cfg 0x0A02 k)).contains n

/-- Chain positions of lane l that MAG asks for a drive: those of CHAIN in the MAGCFG record, and without one, which only the reader
role permits, all four of every lane in use (R240, R289). -/
def Run.chain (r : Run s₀) (l : Nat) : Nat :=
  if r.hasCfg 0x0A01 0 then bits (r.cfgN 0x0A01 0 8 8) (4 * l) 4 else if r.reader && r.cfgN 0x0301 (24 + l) 8 1 != 0 then 4 else 0

/-- A free lane: it has a LANE record, and no bundle, ring or feed group claims it (R72). In the reader role, where the labels give
the rings, MAG claims the lanes it uses (R289). -/
def Run.laneFree (r : Run s₀) (n : Nat) : Bool :=
  (r.laneU n).mode != 0 && !(r.records.any fun c => (recLanes c).contains n)
    && !(r.reader && 24 ≤ n && n < 40 && 0 < r.chain (n - 24))

/-- TYPE of Table 15-2 of a lane. -/
def laneType (n : Nat) : Nat := if n < 24 then 1 else if n < 40 then 2 else 3

/-- The lane's receive half runs in PAM4. -/
def Run.rxPam (r : Run s₀) (n : Nat) : Bool := r.rd (LNK_CTL_RX_MODE n) == 1

/-! ## States (R91, R92) -/

/-- Errors counted in LNK_LANE_n_ERR set ERR_SEEN; event 33 + 2n when it rises (R92). -/
def Run.laneErrSeen (r : Run s₀) (n : Nat) : Run s₀ :=
  if r.on (LNK_STATUS_ERR_SEEN n) then r.hwSet (LNK_STATUS_ERR_SEEN n) 1 else (r.hwSet (LNK_STATUS_ERR_SEEN n) 1).ev (33 + 2 * n)

/-- Count k header errors. -/
def Run.hdrErr (r : Run s₀) (n k : Nat) : Run s₀ := if k = 0 then r else (r.sat (LNK_ERR_HDR_ERR n) k).laneErrSeen n

/-- Count k code errors. -/
def Run.codeErr (r : Run s₀) (n k : Nat) : Run s₀ := if k = 0 then r else (r.sat (LNK_ERR_CODE_ERR n) k).laneErrSeen n

/-- The lane enters a state; event 32 + 2n on entry into LINKED, FAILED or RETIRED and on a loss of lock (R92). RX_LOCK is
1 in TRAIN and LINKED. DESIGN CHOICE (assumption 39): a running eye scan ends without DONE where R97 does not let it run. -/
def Run.laneEnter (r : Run s₀) (n st : Nat) (lost : Bool) : Run s₀ :=
  let r := (r.wr (LNK_STATUS_STATE n) st).wr (LNK_STATUS_RX_LOCK n) (b2n (st == 3 || st == 4))
  let r := r.laneMod n fun l => { l with
    misses := 0, acc := [], count := 0, tail := [], commas := 0, left := []
    eye := l.eye && (st == 2 || st == 3 || st == 4 || st == 6) }
  r.when (st == 4 || st == 5 || st == 7 || lost) fun r => r.ev (32 + 2 * n)

/-- The lane enters ACQUIRE: a training begins, whose counts start at 0 (R90, Table 03-15). -/
def Run.laneAcquire (r : Run s₀) (n : Nat) (lost : Bool) : Run s₀ :=
  let r := (r.wr (LNK_TRAIN_ECHO_FAILS n) 0).wr (LNK_TRAIN_REQ_COUNT n) 0
  let r := r.laneMod n fun l => { l with
    pending := 0, waiting := false, acted := none, stat := 0, ready := false, sentReady := 0, gotReady := 0, trained := false }
  r.laneEnter n 1 lost

/-- The lane fails a training with a result and a breach record (R88, R90). -/
def Run.laneFail (r : Run s₀) (n result : Nat) : Run s₀ :=
  ((r.wr (LNK_TRAIN_LAST_RESULT n) result).breach
    { type := laneType n, index := n, cls := 1, detector := 3, event := 32 + 2 * n }).laneEnter n 5 false

/-- The owning unit retires the lane: both halves power down and the lane is a cofferdam; `time` is the detection's, 0 for now
(R93, R394). -/
def Run.laneRetire (r : Run s₀) (n detector action : Nat) (time : Nat := 0) : Run s₀ :=
  if r.laneState n = 0 ∨ r.laneState n = 7 then r
  else
    let lost := r.on (LNK_STATUS_RX_LOCK n)
    let r := r.breach { type := laneType n, index := n, cls := 2, detector := detector, action := action, event := 32 + 2 * n, time := time }
    let r := (r.cofferdam (laneType n) n).laneMod n fun l => { l with checking := false, checkLater := false }
    r.laneEnter n 7 lost

/-! ## Training (R85 to R90) -/

/-- The taps of a preset (Table 03-6). -/
def presetTaps (p : Nat) : Nat × Nat × Nat := if p = 0 then (4, 52, 8) else (0, 64, 0)

/-- Set the device transmitter's taps (Table 03-6). -/
def Run.setTaps (r : Run s₀) (n : Nat) (t : Nat × Nat × Nat) : Run s₀ :=
  ((r.wr (LNK_TXEQ_PRE n) t.1).wr (LNK_TXEQ_MAIN n) t.2.1).wr (LNK_TXEQ_POST n) t.2.2

/-- A tap after a request within its range, with the STAT it reports: 1 updated, 2 at minimum, 3 at maximum (R86). -/
def tapStep (req v lo hi room : Nat) : Nat × Nat :=
  if req = 1 then (if v + 1 ≤ hi ∧ 0 < room then (v + 1, 1) else (v, 3))
  else if req = 2 then (if lo + 1 ≤ v then (v - 1, 1) else (v, 2))
  else (v, 0)

/-- The device transmitter acts on a new request: STAT bits for the answer, and the taps (R86). DESIGN CHOICE (assumption 42):
the reserved codes 0b11 of a tap request and of INIT ask for nothing. -/
def Run.actRequest (r : Run s₀) (n msg : Nat) : Run s₀ :=
  let pre := bits msg 0 2
  let main := bits msg 2 2
  let post := bits msg 4 2
  let init := bits msg 6 2
  let stat := fun v r => Run.laneMod r n fun l => { l with stat := v }
  if n < 24 then stat 0 r
  else if init = 1 ∨ init = 2 then stat 0x15 (r.setTaps n (presetTaps (init - 1)))
  else if 2 ≤ b2n (pre != 0) + b2n (main != 0) + b2n (post != 0) then stat 0 r
  else
    let p := r.rd (LNK_TXEQ_PRE n)
    let m := r.rd (LNK_TXEQ_MAIN n)
    let q := r.rd (LNK_TXEQ_POST n)
    let room := 64 - (p + m + q)
    let a := tapStep pre p 0 16 room
    let b := tapStep main m 32 64 room
    let c := tapStep post q 0 24 room
    stat (a.2 + b.2 * 4 + c.2 * 16) (r.setTaps n (a.1, b.1, c.1))

/-- A training message from its fields (Table 03-5). -/
def trainMsg (req stat : Nat) (ready : Bool) (seq echo lane : Nat) : Nat :=
  let v := req % 256 + stat % 64 * 2 ^ 8 + b2n ready * 2 ^ 14 + seq % 256 * 2 ^ 16 + echo % 256 * 2 ^ 24 + lane % 256 * 2 ^ 32
  v + crc8 (le 7 v) * 2 ^ 56

/-- The message that every copy in the lane's TRAIN reaches holds (R85, R86). -/
def Run.trainNow (r : Run s₀) (n : Nat) : Nat :=
  let l := r.laneU n
  trainMsg l.pending l.stat l.ready l.seq (l.acted.getD 0) n

/-- The lane's TRAIN reaches carry a message with this request from now on; the record shows the message (R86). -/
def Run.sendTraining (r : Run s₀) (n req : Nat) : Run s₀ :=
  let r := r.laneMod n fun l => { l with pending := req }
  r.emit (.packet n 0 [r.trainNow n] [])

/-- A new request goes out under the next SEQ (R86). -/
def Run.sendRequest (r : Run s₀) (n req : Nat) : Run s₀ :=
  let r := (r.sat (LNK_TRAIN_REQ_COUNT n)).laneMod n fun l => { l with seq := (l.seq + 1) % 256, waiting := true }
  r.sendTraining n req

/-- The lane declares comma lock: LINKED when TRAINED, else TRAIN, where a trained receive half first requests its preset
and an untrained one is ready at once (R81, R83, R89, Table 03-2). -/
def Run.commaLocked (r : Run s₀) (n : Nat) : Run s₀ :=
  if r.on (LNK_STATUS_TRAINED n) then r.laneEnter n 4 false
  else
    let r := r.laneEnter n 3 false
    if n < 40 then r.sendRequest n ((r.laneU n).preset * 64 + 64)
    else (r.laneMod n fun l => { l with ready := true }).sendTraining n 0

/-- What the device's receiver asks for next is its own choice from its eye: a free value chooses one tap request, or that
it has adapted (R86, R89). -/
def Run.nextRequest (r : Run s₀) (n : Nat) : Run s₀ :=
  r.free 3 fun v r =>
    if v < 6 then r.sendRequest n ((v % 2 + 1) * 2 ^ (2 * (v / 2)))
    else (r.laneMod n fun l => { l with ready := true }).sendTraining n 0

/-- Two identical accepted copies of a training message are acted on (R85, R86, R89). -/
def Run.trainingMessage (r : Run s₀) (n msg : Nat) : Run s₀ :=
  if r.laneState n ≠ 3 ∨ crc8 (le 7 msg) ≠ bits msg 56 8 then r
  else
    let l := r.laneU n
    let seq := bits msg 16 8
    let r := if l.acted = some seq then r
      else (r.actRequest n msg).laneMod n fun l => { l with acted := some seq, sender := bits msg 32 8 }
    let r := if l.waiting && bits msg 24 8 == l.seq then
        (r.laneMod n fun l => { l with waiting := false }).nextRequest n
      else r.sendTraining n (if l.waiting then l.pending else 0)
    r.laneMod n fun x =>
      { x with
        gotReady := if bit msg 14 then x.gotReady + 1 else 0
        sentReady := if x.ready then x.sentReady + 1 else 0
        trained := x.trained || (x.ready && 1 ≤ x.sentReady && bit msg 14 && 1 ≤ x.gotReady) }

/-- Training completes at the first valid IDLE or DATA header after the lane's own side has stopped sending TRAIN reaches
(R89). -/
def Run.laneTrained (r : Run s₀) (n : Nat) : Run s₀ :=
  (((r.wr (LNK_STATUS_TRAINED n) 1).sat (LNK_STATUS_TRAIN_COUNT n)).wr (LNK_TRAIN_LAST_RESULT n) 1).laneEnter n 4 false

/-! ## Reaches -/

/-- The lane loses comma lock: back to ALIGN, equaliser kept (R82). -/
def Run.laneLose (r : Run s₀) (n : Nat) : Run s₀ := r.laneEnter n 2 true

/-- The payload bits of a DATA reach reach the lane's words: a WORD_PHASE that disagrees with the lane's own count makes it
adopt the header's boundary (R79). -/
def Run.laneDeliver (r : Run s₀) (n : Nat) (phase : Option Nat) (bs : List Bool) : Run s₀ :=
  let l := r.laneU n
  let own := (64 - l.acc.length) % 64
  let bad := match phase with
    | some p => p != own
    | none => false
  let r := r.hdrErr n (b2n bad)
  let x := cutWords 600 (if bad then bs.drop (phase.getD 0) else l.acc ++ bs)
  r.laneMod n fun l => { l with words := x.1, acc := x.2 }

/-- The payload of a TRAIN reach: the message that two consecutive copies agree on is acted on; without one the run of
received RX_READY ends (R85, R89). -/
def Run.laneMessage (r : Run s₀) (n : Nat) (m : Option Nat) : Run s₀ :=
  match m with
  | some m => r.trainingMessage n m
  | none => r.laneMod n fun l => { l with gotReady := 0 }

/-- The training messages of a TRAIN reach: the first word that two consecutive copies agree on. -/
def agreedCopy : List Nat → Option Nat
  | a :: b :: l => if a = b ∧ crc8 (le 7 a) = bits a 56 8 then some a else agreedCopy (b :: l)
  | _ => none

/-- A reach of a locked lane with a valid header. -/
def Run.laneReach (r : Run s₀) (n : Nat) (h : ReachHeader) (bs : List Bool) : Run s₀ :=
  let r := (r.wr (LNK_STATUS_LANE_POS n) h.pos).wr (LNK_STATUS_FAR_RX_LOCK n) (b2n h.rxLock)
  let l := r.laneU n
  let r := r.laneMod n fun l => { l with misses := 0, type := h.type }
  if r.laneState n = 3 ∧ h.type = 2 then r.laneMessage n (agreedCopy (cutWords 600 bs).1)
  else if r.laneState n = 3 ∧ l.trained = false then r
  else
    let r := r.when (r.laneState n == 3) fun r => r.laneTrained n
    if h.type = 1 then
      if h.pos = 15 ∨ h.pos ≠ l.pos then (r.hdrErr n 1).laneMod n fun l => { l with words := [] }
      else
        let r := r.when (l.type != 1) fun r => r.laneMod n fun l => { l with acc := [] }
        r.laneDeliver n (some h.phase) bs
    else r.laneMod n fun l => { l with acc := [], words := [] }

/-- A miss: the payload is delivered with the previous TYPE and LANE_POS and the receiver's own word count (R82). -/
def Run.laneMiss (r : Run s₀) (n : Nat) (bs : List Bool) : Run s₀ :=
  let r := (r.hdrErr n 1).laneMod n fun l => { l with misses := l.misses + 1 }
  let l := r.laneU n
  if l.type = 2 ∧ r.laneState n = 3 then r.laneMessage n (agreedCopy (cutWords 600 bs).1)
  else if l.type = 1 ∧ r.laneState n = 4 ∧ r.rd (LNK_STATUS_LANE_POS n) = l.pos ∧ l.pos ≠ 15 then r.laneDeliver n none bs
  else r.laneMod n fun l => { l with words := [] }

/-- HDR_OK follows every reach (R84). -/
def Run.laneHdrOk (r : Run s₀) (n : Nat) (h : Option ReachHeader) : Run s₀ := r.wr (LNK_ALIGN_HDR_OK n) (b2n h.isSome)

/-- Symbols received in ALIGN, `l` from place `base` of the receiver's count on. Under comma search each comma followed by a
valid header counts when it lies 16,384 symbols after the one before; the fourth sets BOUNDARY (R80, R81). Under software
alignment HDR_OK follows the symbols at BOUNDARY (R84). -/
def Run.laneSearch (r : Run s₀) (n top base : Nat) (l : List Nat) : Run s₀ :=
  if r.on (LNK_ALIGN_COMMA_EN n) then
    r.each (commasAt top l 0 0) fun i r =>
      if l.length < i + 64 then r
      else
        let u := r.laneU n
        let k := if (reachHeader top (l.drop i)).isNone then 0 else if 0 < u.commas ∧ base + i = u.comma + 16384 then u.commas + 1 else 1
        let r := r.laneMod n fun u => { u with comma := base + i, commas := k }
        r.when (4 ≤ k) fun r => r.wr (LNK_ALIGN_BOUNDARY n) ((base + i) % 16384)
  else
    let i := (r.rd (LNK_ALIGN_BOUNDARY n) + 16384 - base % 16384) % 16384
    if l.length < i + 64 then r else r.laneHdrOk n (reachHeader top (l.drop i))

/-- Symbols received in ALIGN, the last 63 of those before them kept so that no comma or header is cut (R80, R84). -/
def Run.laneAlign (r : Run s₀) (n top : Nat) (sym : List Nat) : Run s₀ :=
  let u := r.laneU n
  let l := u.tail ++ sym
  let r := r.laneSearch n top (u.count - u.tail.length) l
  r.laneMod n fun x => { x with count := u.count + sym.length, tail := l.drop (l.length - 63) }

/-! ## Tests: loops, PRBS, eye (R95, R97) -/

/-- The taps of a PRBS pattern (Table 03-10). -/
def prbsTaps (sel : Nat) : Nat × Nat :=
  if sel = 1 then (7, 6) else if sel = 2 then (15, 14) else if sel = 3 then (23, 18) else (31, 28)

/-- The next bit of a PRBS pattern after the bits `l`, newest first. -/
def prbsNext (sel : Nat) (l : List Bool) : Bool := l.getD ((prbsTaps sel).1 - 1) false != l.getD ((prbsTaps sel).2 - 1) false

/-- The next bits of a PRBS pattern after the bits `l`, newest first, in the order they leave, and the bits after them. -/
def prbsRun (sel : Nat) : Nat → List Bool → List Bool × List Bool
  | 0, l => ([], l)
  | n + 1, l =>
    let b := prbsNext sel l
    let x := prbsRun sel n ((b :: l).take (prbsTaps sel).1)
    (b :: x.1, x.2)

/-- `k` bits of the lane's generator (R95). -/
def Run.prbsTake (r : Run s₀) (n k : Nat) (f : List Bool → Run s₀ → Run s₀) : Run s₀ :=
  let x := prbsRun (r.rd (LNK_PRBS_CTL_GEN_SEL n)) k (r.laneU n).gen
  f (x.1.map (· != r.on (LNK_PRBS_CTL_GEN_INV n))) (r.laneMod n fun l => { l with gen := x.2 })

/-- A generator starts from a state that the spec does not give: a free one, not all 0 (R95, assumption 49). -/
def Run.prbsSeed (r : Run s₀) (n : Nat) : Run s₀ :=
  let d := (prbsTaps (r.rd (LNK_PRBS_CTL_GEN_SEL n))).1
  r.free d fun v r => r.laneMod n fun l => { l with gen := lsbBits d (v % (2 ^ d - 1) + 1) }

/-- Received bits compared by the checker (R95). DESIGN CHOICE (assumption 38): the windows of 1024 bits follow each other from
lock on. -/
def Run.prbsBit (r : Run s₀) (n sel : Nat) (b : Bool) : Run s₀ :=
  let l := r.laneU n
  let deg := (prbsTaps sel).1
  let want := prbsNext sel l.prbs
  if r.on (LNK_PRBS_CTL_CHK_LOCK n) then
    let err := want != b
    let r := r.inc (LNK_PRBS_BITS_BITS n)
    let r := r.when err fun r => (r.sat (LNK_PRBS_ERR_ERRORS n)).laneErrSeen n
    let errs := l.winErr + b2n err
    if 256 < errs then (r.wr (LNK_PRBS_CTL_CHK_LOCK n) 0).laneMod n fun l => { l with prbs := [], good := 0, win := 0, winErr := 0 }
    else r.laneMod n fun l =>
      { l with prbs := (want :: l.prbs).take deg, win := (l.win + 1) % 1024, winErr := if l.win = 1023 then 0 else errs }
  else
    let good := if l.prbs.length < deg then 0 else if want = b then l.good + 1 else 0
    let r := r.laneMod n fun l => { l with prbs := (b :: l.prbs).take deg, good := good, win := 0, winErr := 0 }
    r.when (64 ≤ good) fun r => r.wr (LNK_PRBS_CTL_CHK_LOCK n) 1

/-- A lane enters or leaves TEST as LOOP, GEN_SEL and CHK_SEL say (Table 03-8); a loop change makes the checker relock. -/
def Run.laneTest (r : Run s₀) (n : Nat) : Run s₀ :=
  let any := r.rd (LNK_LOOP_LOOP n) != 0 || r.rd (LNK_PRBS_CTL_GEN_SEL n) != 0 || r.rd (LNK_PRBS_CTL_CHK_SEL n) != 0
  let st := r.laneState n
  let r := (r.wr (LNK_PRBS_CTL_CHK_LOCK n) 0).laneMod n fun l => { l with prbs := [], good := 0, win := 0, winErr := 0 }
  if any then
    if st = 6 then r else (r.laneMod n fun l => { l with back := st }).laneEnter n 6 (r.on (LNK_STATUS_RX_LOCK n))
  else if st = 6 then
    -- DESIGN CHOICE (assumption 40): a free lane leaves TEST with TRAINED 0.
    let b := (r.laneU n).back
    if r.laneFree n then (r.wr (LNK_STATUS_TRAINED n) 0).laneAcquire n false else r.laneEnter n (if b = 7 then 7 else 5) false
  else r

/-- A self-check begins: a near-end parallel loop with PRBS31 generator and checker (R396). -/
def Run.selfCheck (r : Run s₀) (n : Nat) : Run s₀ :=
  let r := ((r.wr (LNK_LOOP_LOOP n) 2).wr (LNK_PRBS_CTL_GEN_SEL n) 4).wr (LNK_PRBS_CTL_CHK_SEL n) 4
  let r := (r.wr (LNK_PRBS_CTL_GEN_INV n) 0).wr (LNK_PRBS_CTL_CHK_INV n) 0
  let r := (r.wr (LNK_PRBS_ERR_ERRORS n) 0).wr (LNK_PRBS_BITS_BITS n) 0
  ((r.laneMod n fun l => { l with checking := true, checkLater := false }).prbsSeed n).laneTest n

/-- A lane may be tested: it is free, FAILED or RETIRED, or already in TEST from there (R95). -/
def Run.testable (r : Run s₀) (n : Nat) : Bool :=
  let st := r.laneState n
  st == 5 || st == 7 || st == 6 || (r.laneFree n && st != 0)

/-- A write of LOOP (R95). -/
def Run.writeLoop (r : Run s₀) (n v : Nat) : Run s₀ :=
  let v := v % 4
  if v ≠ 0 ∧ (r.testable n = false ∨ (v = 3 ∧ (n < 24 ∨ 40 ≤ n))) then r.ignored
  else (r.wr (LNK_LOOP_LOOP n) v).laneTest n

/-- A write of LNK_LANE_n_PRBS_CTL (R95). -/
def Run.writePrbs (r : Run s₀) (n v : Nat) : Run s₀ :=
  let gen := bits v 0 3
  let chk := bits v 4 3
  if 4 < gen ∨ 4 < chk ∨ ((gen ≠ 0 ∨ chk ≠ 0) ∧ r.testable n = false) then r.ignored
  else
    let was := (r.rd (LNK_PRBS_CTL_GEN_SEL n), r.rd (LNK_PRBS_CTL_CHK_SEL n))
    let r := ((r.wr (LNK_PRBS_CTL_GEN_SEL n) gen).wr (LNK_PRBS_CTL_CHK_SEL n) chk)
    let r := (r.wr (LNK_PRBS_CTL_GEN_INV n) (bits v 3 1)).wr (LNK_PRBS_CTL_CHK_INV n) (bits v 7 1)
    let r := r.when (bit v 9) fun r => (r.wr (LNK_PRBS_ERR_ERRORS n) 0).wr (LNK_PRBS_BITS_BITS n) 0
    let r := r.when (gen != 0 && was.1 != gen) fun r => r.prbsSeed n
    r.when (was != (gen, chk)) fun r => r.laneTest n

/-- A write of START of an eye scan (R97). -/
def Run.eyeStart (r : Run s₀) (n : Nat) : Run s₀ :=
  let st := r.laneState n
  if (st = 2 ∨ st = 3 ∨ st = 4 ∨ st = 6) ∧ (r.laneU n).eye = false ∧ r.rd (LNK_EYE_CTL_VOFF n) ≠ 0x80 then
    ((r.wr (LNK_EYE_RESULT_DONE n) 0).wr (LNK_EYE_RESULT_ERRORS n) 0).laneMod n fun l => { l with eye := true }
  else r.ignored

/-! ## Alignment writes (R84) -/

/-- A write of 1 to BITSLIP. -/
def Run.bitslip (r : Run s₀) (n : Nat) : Run s₀ :=
  if r.on (LNK_ALIGN_SLIP_BUSY n) || r.laneState n != 2 || r.on (LNK_ALIGN_COMMA_EN n) then r.ignored
  else r.wr (LNK_ALIGN_SLIP_BUSY n) 1

/-- A requested slip takes effect: the boundary moves one UI later. -/
def Run.slipDone (r : Run s₀) (n : Nat) : Run s₀ :=
  r.when (r.on (LNK_ALIGN_SLIP_BUSY n)) fun r => (r.inc (LNK_ALIGN_BOUNDARY n)).wr (LNK_ALIGN_SLIP_BUSY n) 0

/-! ## Weave (Table 03-8, R72) -/

/-- The lane takes its LANE record of a bit-stream being woven; a lane whose record does not change keeps running (R56),
and a retired lane's cofferdam ends, also when the lane is in TEST (R93). A lane that the weave takes out of TEST has no test
selected. -/
def Run.laneWeave (r : Run s₀) (cfg : List CfgRec) (n : Nat) : Run s₀ :=
  let rec? := findRec cfg 0x0301 n
  let b := rec?.getD []
  let mode := field b 8 1
  let preset := field b 9 1
  let pol := field b 0xA 1
  let l := r.laneU n
  let r := r.wr (LNK_STATUS_TRAIN_COUNT n) 0
  let retired := r.laneState n = 7 ∨ (r.laneState n = 6 ∧ l.back = 7)
  if mode ≠ 0 ∧ l.mode = mode ∧ l.preset = preset ∧ l.polarity = pol ∧ r.laneState n ≠ 0 ∧ ¬retired then r
  else
    let r := ((r.wr (LNK_LOOP_LOOP n) 0).wr (LNK_PRBS_CTL_GEN_SEL n) 0).wr (LNK_PRBS_CTL_CHK_SEL n) 0
    let r := r.laneMod n fun _ => { mode := mode, preset := preset, polarity := pol }
    let r := (r.wr (LNK_STATUS_STATE n) 0).wr (LNK_STATUS_RX_LOCK n) 0
    let r := ((r.wr (LNK_STATUS_TRAINED n) 0).wr (LNK_STATUS_FAR_RX_LOCK n) 0).wr (LNK_STATUS_LANE_POS n) 0
    let rx := if mode = 0 then 0 else if 40 ≤ n then 3 else mode
    let tx := if mode = 0 then 0 else if n < 24 then 3 else mode
    let r := (r.wr (LNK_CTL_RX_MODE n) rx).wr (LNK_CTL_TX_MODE n) tx
    let r := (r.wr (LNK_CTL_TX_INV n) (bits pol 0 1)).wr (LNK_CTL_RX_INV n) (bits pol 1 1)
    r.setTaps n (presetTaps (if n < 24 ∨ mode = 0 then 1 else preset))

end Sys2Proof.Machine
end

