-- ==== Sys2Proof/Machine/Packet.lean ====
section
/-!
DEFINITION. The packets of the Hyhaod, feed and magazine links: header word, body words and CRC word (R98, R99).
-/
namespace Sys2Proof.Machine
variable {s₀ : State}

/-- Header bytes 0 to 6 of a packet (Table 04-1). -/
def headerBytes (type vs flags seq len : Nat) : List Byte :=
  le 1 type ++ le 1 (vs % 16 + flags % 16 * 16) ++ le 3 seq ++ le 2 len

/-- The header word: bytes 0 to 6 and HCRC (R98). -/
def headerWord (type vs flags seq len : Nat) : List Byte :=
  let h := headerBytes type vs flags seq len
  h ++ le 1 (crc8 h)

/-- The bytes of a packet: header word, body, CRC word (R98, R99). -/
def packetBytes (type vs flags seq : Nat) (body : List Byte) : List Byte :=
  let h := headerWord type vs flags seq (body.length / 8)
  h ++ body ++ le 4 (crc32c (h ++ body)) ++ le 4 0

/-- A packet whose CRC word has BAD, bit 32, set (R181, R190). -/
def badPacketBytes (type vs flags seq : Nat) (body : List Byte) : List Byte :=
  let h := headerWord type vs flags seq (body.length / 8)
  h ++ body ++ le 4 (crc32c (h ++ body)) ++ le 4 1

/-- A stream of words that lanes send, by its destination. -/
def Run.txU (r : Run s₀) (dest : Nat) : TxU := r.u.tx.look dest {}

/-- Change a stream that lanes send. -/
def Run.txMod (r : Run s₀) (dest : Nat) (f : TxU → TxU) : Run s₀ := r.mod fun u => { u with tx := u.tx.put dest (f (u.tx.look dest {})) }

/-- Bytes as 64-bit words (R75). -/
def wordsOf (bs : List Byte) : List Nat := (List.range (ceilDiv bs.length 8)).map fun k => field bs (8 * k) 8

/-- A packet's bytes join the stream of its destination. -/
def Run.sendBytes (r : Run s₀) (dest type vs flags seq : Nat) (bs : List Byte) : Run s₀ :=
  (r.emit (.packet dest type [vs, flags, seq] bs)).txMod dest fun t => { t with words := t.words ++ wordsOf bs }

/-- A packet is sent. -/
def Run.sendPacket (r : Run s₀) (dest type vs flags seq : Nat) (body : List Byte) : Run s₀ :=
  r.sendBytes dest type vs flags seq (packetBytes type vs flags seq body)

/-- An all-IDLE reach leaves on a link, and words not yet sent are given up: the record shows it as kind 0 without bytes
(R109, R245). -/
def Run.idleReach (r : Run s₀) (dest : Nat) : Run s₀ := (r.emit (.packet dest 0 [] [])).txMod dest fun _ => {}

/-- A kept packet stays after an ACK: only an ACK with an equal or later SEQ releases it, and one exactly 2^23 away is neither
(R9, R109). -/
def stillKept (k ack : Nat) : Bool := laterThan 24 k ack || subMod 24 k ack == 2 ^ 23

/-- Bytes padded with zeros to whole words. -/
def padWords (l : List Byte) : List Byte := padTo (ceilDiv l.length 8 * 8) l

/-- A little-endian bit string of fields of the same width, as bytes (R182, R113). -/
def packBits (w : Nat) (l : List Nat) : List Byte :=
  le (ceilDiv (w * l.length) 8) (l.foldr (fun v a => v % 2 ^ w + 2 ^ w * a) 0)

end Sys2Proof.Machine
end

