-- ==== Sys2Proof/Machine/Feed.lean ====
section
/-!
DEFINITION. Feed groups (R181 to R185), the sluice path (R186 to R190) and audio on feeds (R389).
-/
namespace Sys2Proof.Machine
variable {s₀ : State}

/-! ## Groups -/

/-- `n` bytes at an offset of group g's FEEDGRP record (Table 07-7). -/
def Run.fedN (r : Run s₀) (g off n : Nat) : Nat := r.cfgN 0x0703 g off n

/-- What the group holds beside its registers. -/
def Run.fedU (r : Run s₀) (g : Nat) : FedU := r.u.fed.look g {}

/-- Change what the group holds. -/
def Run.fedMod (r : Run s₀) (g : Nat) (f : FedU → FedU) : Run s₀ := r.mod fun u => { u with fed := u.fed.put g (f (u.fed.look g {})) }

/-- The group sends frames: its record is woven, EN is 1 and no lane of it is retired (Tables 07-10, 07-13). -/
def Run.fedOn (r : Run s₀) (g : Nat) : Bool := r.hasCfg 0x0703 g && r.on (FED_CTL_EN g) && !r.on (FED_STATUS_RETIRED g)

/-- A feed packet leaves with the group's next SEQ (R181). -/
def Run.fedSend (r : Run s₀) (g type vs flags : Nat) (body : List Byte) (bad : Bool := false) : Run s₀ :=
  let n := (r.fedU g).seq
  let r := r.fedMod g fun u => { u with seq := (n + 1) % 2 ^ 24 }
  if bad then r.sendBytes (80 + g) type vs flags n (badPacketBytes type vs flags n body)
  else r.sendPacket (80 + g) type vs flags n body

/-- The newest boundary of a composer group: the latest TSEL time PHASE + k * PERIOD not after now, in units of 2^-32 ns
(R183). -/
def Run.fedBoundary (r : Run s₀) (g : Nat) : Nat :=
  let period := r.fedN g 0xC 6 * 2 ^ 16
  let phase := r.fedN g 0x14 4 * 2 ^ 32
  if period = 0 then r.tselQ else r.tselQ - (r.tselQ + (period - phase % period)) % period

/-- A VFS with the group's next frame count (R182, R184). -/
def Run.fedVfs (r : Run s₀) (g flags w h format ts tns tf src tag : Nat) : Run s₀ :=
  let fc := (r.rd (FED_FC_FC g) + 1) % 2 ^ 32
  (r.wr (FED_FC_FC g) fc).fedSend g 0x21 0 flags
    (le 4 fc ++ le 2 w ++ le 2 h ++ le 6 ts ++ le 1 format ++ le 1 0 ++ le 4 tns ++ le 4 tf ++ le 4 src ++ le 4 tag)

/-- An ANC packet (Table 07-6). -/
def Run.fedAnc (r : Run s₀) (g off kind : Nat) (data : List Byte) : Run s₀ :=
  r.fedSend g 0x25 0 0 (le 2 off ++ le 1 kind ++ le 5 0 ++ padWords data)

/-- The ANC packet of KIND 1: the timecode of the VFS boundary (R377). -/
def Run.fedTimecode (r : Run s₀) (g tns : Nat) : Run s₀ := r.fedAnc g 0 1 (le 8 (r.timecodeAt tns))

/-- A VFE (R182). -/
def Run.fedVfe (r : Run s₀) (g lines flags : Nat) : Run s₀ :=
  r.fedSend g 0x23 0 flags (le 4 (r.rd (FED_FC_FC g)) ++ le 2 lines ++ le 2 0)

/-- The component values of 32-pixel units in VLN order: 4:4:4 all three of each pixel, 4:2:2 Cb, Y0, Cr, Y1 of each pair. -/
def vlnFields (is422 : Bool) (x n : Nat) (c : Nat → Nat → Nat) : List Nat :=
  if is422 then (List.range (n / 2)).flatMap fun k => [c (x + 2 * k) 1, c (x + 2 * k) 0, c (x + 2 * k) 2, c (x + 2 * k + 1) 0]
  else (List.range n).flatMap fun k => [c (x + k) 0, c (x + k) 1, c (x + k) 2]

/-- The VLNs of a line of w pixels: segments of at most 4,096 pixels, the last one filled up to a multiple of 32, on a fill line
with its own components (R182, R190). -/
def Run.fedLine (r : Run s₀) (g y w depth : Nat) (is422 fill bad : Bool) (c : Nat → Nat → Nat) : Run s₀ :=
  r.each (List.range (ceilDiv w 4096)) fun k r =>
    let x := 4096 * k
    let n := ceilDiv (min 4096 (w - x)) 32 * 32
    let v := fun i j => if i < w || fill then c i j else Config.padSample g y i j
    r.fedSend g 0x22 0 (if fill then 2 else 0) (le 2 y ++ le 2 x ++ le 2 n ++ le 2 0 ++ padWords (packBits depth (vlnFields is422 x n v))) bad

/-- The AUD packets of the media frames that the group's ports produced since its last boundary (R389). -/
def Run.fedAudio (r : Run s₀) (g : Nat) : Run s₀ :=
  r.each (List.range 8) fun p r =>
    let a := r.u.tim.au.look p {}
    let l := (a.feed.look g []).reverse
    let ch := ((List.range 32).filter fun j => bit (r.cfgN 0x0E01 p 0x18 4) j).length
    let rate := r.cfgN 0x0E01 p 0x14 4
    let q := audFrames ch
    let r := r.each (List.range (ceilDiv l.length q)) fun k r =>
      let part := (l.drop (q * k)).take q
      let n := (part.headD (0, [])).1
      let q := n * secondQ / rate - r.rd (AUD_LAT p) * 2 ^ 32
      r.fedSend g 0x24 p 0 (le 1 ch ++ le 1 0 ++ le 2 part.length ++ le 4 0 ++ le 8 (timeSec q) ++ le 4 (timeNs q) ++ le 4 (timeFrac q)
        ++ padWords (part.flatMap fun m => m.2.flatMap (le 4)))
    r.tim fun t => { t with au := t.au.put p { (t.au.look p {}) with feed := (t.au.look p {}).feed.put g [] } }

/-! ## Composer groups (R184, R185) -/

/-- The DRAM address of output buffer b of feed composer n (R200). -/
def Run.cmpBuffer (r : Run s₀) (n b : Nat) : Nat :=
  let (w, h) := r.canvas n
  let bytes := olFrameBytes w h (bit (r.cmpN n 0xC 1) 0)
  r.polder (r.cmpN n 0xE 1) + r.cmpN n 0x10 4 * 4096 + b * (ceilDiv bytes 4096 * 4096)

/-- The group sends a frame of its composer from a buffer, or HEIGHT lines of FILL when there is none. -/
def Run.fedFrame (r : Run s₀) (g n : Nat) (buf : Option Nat) (rep : Bool) : Run s₀ :=
  let (w, h) := r.canvas n
  let fmt := r.cmpN n 0xC 1
  let is422 := bit fmt 0
  let depth := if bit fmt 1 then 12 else 10
  let q := r.fedBoundary g
  let r := r.fedVfs g (b2n rep) w h (fmt % 16) (timeSec q) (timeNs q) (timeFrac q) (r.fedU g).comp 0
  let r := r.fedTimecode g (q / 2 ^ 32)
  let r := r.fedAudio g
  let r := match buf with
    | none => r.each (List.range h) fun y r => r.fedLine g y w depth is422 true false (Config.padSample g y)
    | some b =>
      let a := r.cmpBuffer n b
      let p := olPitch w
      r.load? 6 a (olFrameBytes w h is422) fun got r =>
        let at_ := fun k => field got.bytes k 2
        let c := fun y x k =>
          if k = 0 then at_ (y * p + 2 * x)
          else if is422 then at_ (h * p + y * p + 2 * (x / 2 * 2 + (k - 1)))
          else at_ (k * h * p + y * p + 2 * x)
        r.each (List.range h) fun y r => r.fedLine g y w depth is422 false false (c y)
  r.fedVfe g h 0

/-- A boundary of a composer group (R56, R184, R185, R200). -/
def Run.feedBoundary (r : Run s₀) (g : Nat) : Run s₀ :=
  let src := r.fedN g 8 1
  if !r.hasCfg 0x0703 g || src == 2 || r.stopping then r
  else
    let n := 2 + src
    let u := r.cmpU n
    let r := r.when (r.on (CMP_STATUS_COMPOSING n) && !u.late) fun r =>
      ((r.cmpMod n fun u => { u with late := true }).sat (CMP_COUNT_LATE n)).ev (256 + n)
    if !r.fedOn g then r.cmpMod n fun u => { u with done := min u.done 1 }
    else if 0 < u.done then
      let r := r.sat (FED_COUNT_DROPS g) (u.done - 1)
      let r := r.cmpMod n fun u => { u with done := 0 }
      let r := r.fedMod g fun f => { f with sending := u.newest, sent := true, comp := r.rd (CMP_SEQ_SEQ n) }
      (r.wr (FED_STATUS_REPEATING g) 0).fedFrame g n u.newest false
    else
      let r := ((r.sat (FED_COUNT_REPEATS g)).wr (FED_STATUS_REPEATING g) 1).ev (280 + 2 * g)
      r.fedFrame g n (r.fedU g).sending true

/-- A received RXS; an erroneous one is discarded and counted on the lane of position 0 (R181). -/
def Run.rxs (r : Run s₀) (g v : Nat) (good : Bool) : Run s₀ :=
  if !r.hasCfg 0x0703 g then r
  else if good then r.wr (FED_RXS g) v
  else match groupLanes (r.cfg 0x0703 g) with
    | n :: _ => r.hdrErr n 1
    | [] => r

/-! ## The sluice path (R186 to R190) -/

/-- Change the sluice. -/
def Run.sluMod (r : Run s₀) (f : SluU → SluU) : Run s₀ := r.mod fun u => { u with slu := f u.slu }

/-- The SLUICE record (Table 07-8). -/
def Run.sluRec (r : Run s₀) : List Byte := r.cfg 0x0704 0

/-- The feed group of the sluice path, if the bit-stream has one. -/
def Run.sluGroup (r : Run s₀) : Option Nat := if r.hasCfg 0x0704 0 then lowest (fun g => r.hasCfg 0x0703 g && r.fedN g 8 1 == 2) 3 else none

/-- The geometry of the sluice's context: width, height, mosaic periods, DECIM. -/
def Run.sluGeo (r : Run s₀) : Nat × Nat × Nat × Nat × Nat :=
  let c := field r.sluRec 8 1
  let v := (r.vsOfCtx c).getD 16
  let mos := r.cfg 0x0601 c
  (r.cfgN 0x0402 v 0xC 2, r.cfgN 0x0402 v 0xE 2, max 1 (field mos 8 1), max 1 (field mos 9 1), max 1 (field r.sluRec 9 1))

/-- Steps 1 to 4 of R187 for component r of output pixel (x, y) in raw coordinates: black level, demosaic, matrix, LUT. -/
def sluLut (rec : List Byte) (w h pw ph : Nat) (masked : Nat → Bool) (black : Nat → Nat) (raw : Nat → Nat → Nat) (x y row : Nat) : Nat :=
  let site := fun a b : Nat => b % ph * pw + a % pw
  let s := site x y
  let p := fun a b : Nat => if masked (site a b) then 0 else satS 25 ((raw a b : Int) * 64 - black (site a b))
  let v := fun c : Nat => satS 25 (roundShift (sumI ((List.range 9).map fun k =>
    signed 16 (field rec (0x1868 + 2 * ((3 * s + c) * 9 + k)) 2)
      * p (foldSite w pw ((x : Int) + (k % 3 : Nat) - 1)) (foldSite h ph ((y : Int) + (k / 3 : Nat) - 1)))) 13)
  let m := satS 25 (roundShift (sumI ((List.range 3).map fun j => signed 19 (field rec (0xC + 4 * (3 * row + j)) 4) * v j)) 16)
  let u := (clamp 0 (2 ^ 24 - 1) m).toNat
  let l := fun k => field rec (0x60 + 2 * (1025 * row + k)) 2
  let k := u / 2 ^ 14
  (clamp 0 65535 (l k + asr (((l (k + 1) : Int) - l k) * (u % 2 ^ 14 : Nat) + 8192) 14)).toNat

/-- Component c of sluice output pixel at raw column x, row y (R187). -/
def Run.sluPixel (r : Run s₀) (x y c : Nat) : Nat :=
  let rec_ := r.sluRec
  let ctx := field rec_ 8 1
  let (w, h, pw, ph, _) := r.sluGeo
  let mos := r.cfg 0x0601 ctx
  let masked := fun s : Nat => field mos (0x10 + s / 2) 1 / 16 ^ (s % 2) % 16 == 5
  let v := fun k => (sluLut rec_ w h pw ph masked (fun s => r.rdA (PIX_CTX_BLACK_BLACK ctx s))
    (fun a b => (r.u.slu.rows.look b []).getD a 0) x y k : Int)
  yccOf (fun k => signed 25 (field rec_ (0x30 + 4 * k) 4)) (fun k => signed 16 (field rec_ (0x54 + 2 * k) 2)) 10 v c

/-- The raw rows that an output row at raw row y reads (R152, R187). -/
def sluNeeds (h ph y : Nat) : List Nat := [-1, 0, 1].map fun d : Int => foldSite h ph ((y : Int) + d)

/-- The output rows whose raw rows have all arrived leave in order; the last one closes the frame (R188, R190). -/
def Run.sluEmit (g : Nat) : Nat → Run s₀ → Run s₀
  | 0, r => r
  | n + 1, r =>
    let (w, h, _, ph, d) := r.sluGeo
    let u := r.u.slu
    let oh := ceilDiv h d
    let ow := ceilDiv w d
    let y := u.next * d
    if u.frame.isNone || oh ≤ u.next || (sluNeeds h ph y).any fun k => (u.rows.look k []).length < w then r
    else
      let bad := (sluNeeds h ph y).any fun k => u.bad.any fun p => p.1 == k
      let is422 := bit (field r.sluRec 0xA 1) 0
      let r := r.when bad fun r => r.sat FED_SLUICE_STATUS_BAD_LINES
      let r := r.fedLine g u.next ow 10 is422 false bad fun x c => r.sluPixel (x * d) y c
      let r := r.sluMod fun u => { u with next := u.next + 1 }
      if u.next + 1 = oh then (r.fedVfe g oh 0).sluMod fun _ => {} else Run.sluEmit g n r

/-- An FS of the sluice context: the group starts a frame (R183, R188). -/
def Run.sluFs (r : Run s₀) (ctx : Nat) (i : PubInfo) : Run s₀ :=
  match r.sluGroup with
  | none => r
  | some g =>
    if field r.sluRec 8 1 ≠ ctx ∨ r.fedOn g = false then r
    else
      let (w, h, _, _, d) := r.sluGeo
      let r := r.sluMod fun _ => { frame := some i }
      let r := r.fedVfs g 2 (ceilDiv w d) (ceilDiv h d) (field r.sluRec 0xA 1 % 2) i.ts i.tns i.tf i.fn i.tag
      (r.fedTimecode g r.tselNs).fedAudio g

/-- Metadata of the sluice context's open frame leaves as ANC packets of KIND 0 (Table 07-6). -/
def Run.sluEmb (r : Run s₀) (ctx off : Nat) (data : List Byte) : Run s₀ :=
  match r.sluGroup with
  | none => r
  | some g => if field r.sluRec 8 1 = ctx ∧ r.u.slu.frame.isSome ∧ r.fedOn g = true then r.fedAnc g off 0 data else r

/-- Samples of row y from column x on arrive for a context, before their CRC check; `bad` when that check fails. Samples for
output rows already sent change nothing (R188, R190). -/
def Run.sluLp (r : Run s₀) (ctx y x : Nat) (samples : List Nat) (bad : Bool) : Run s₀ :=
  match r.sluGroup with
  | none => r
  | some g =>
    if field r.sluRec 8 1 ≠ ctx ∨ r.u.slu.frame.isNone ∨ r.fedOn g = false then r
    else
      let (w, h, _, _, _) := r.sluGeo
      if h ≤ y ∨ w < x + samples.length then r
      else
        let r := r.sluMod fun u =>
          let old := u.rows.look y []
          { u with
            rows := u.rows.put y (old.take x ++ samples ++ old.drop (x + samples.length))
            bad :=
              let rest := u.bad.filter fun p => !(p.1 == y && x ≤ p.2 && p.2 < x + samples.length)
              if bad then (y, x) :: rest else rest }
        Run.sluEmit g h r

/-- ITK loses the sluice context's open frame: the remaining lines leave as FILL, every component at its OFF (R190). -/
def Run.sluLose (r : Run s₀) (ctx fn : Nat) : Run s₀ :=
  match r.sluGroup, r.u.slu.frame with
  | some g, some i =>
    if field r.sluRec 8 1 ≠ ctx ∨ i.fn ≠ fn then r
    else
      let (w, h, _, _, d) := r.sluGeo
      let oh := ceilDiv h d
      let off := fun c : Nat => (clamp 0 1023 (signed 16 (field r.sluRec (0x54 + 2 * c) 2))).toNat
      let r := r.each ((List.range oh).drop r.u.slu.next) fun y r =>
        r.fedLine g y (ceilDiv w d) 10 (bit (field r.sluRec 0xA 1) 0) true false fun _ c => off c
      (((r.fedVfe g oh 1).sat FED_SLUICE_STATUS_FILLS).sluMod fun _ => {}).ev 286
  | _, _ => r

/-! ## Commands -/

/-- A feed group's boundary (R184, R185). -/
def execFeedBoundary (g : Fin 3) (s : State) : Host.Outcome State Fault Refusal := done s fun r => r.feedBoundary g

/-- A received RXS (R181). -/
def execRxs (g : Fin 3) (v : Nat) (good : Bool) (s : State) : Host.Outcome State Fault Refusal := done s fun r => r.rxs g v good

end Sys2Proof.Machine
end

