-- ==== Sys2Proof/Machine/Tide.lean ====
section
/-!
DEFINITION. The tide gate (R141 to R145, R147): snapshots of the shadows, their application at a boundary or at rest, and
the two parameter versions of a context.
-/
namespace Sys2Proof.Machine
variable {s₀ : State}

/-! ## Units and groups -/

/-- The BAR0 ranges that hold the SH fields of a unit of Table 05-6: (first byte, bytes). -/
def unitRanges (u : Nat) : List (Nat × Nat) :=
  if u < 16 then (0xA10000 + 0x1000 * u, 0x1000) :: (if u = 0 then [(0x400400, 4)] else [])
  else if u < 40 then [(0xA20000 + 0x100 * (u - 16), 0x100), (0xC00000 + 0x100 * (u - 16), 0x100)]
  else if u < 44 then [(0xD00000 + 0x1000 * (u - 40), 0x1000)]
  else if u < 46 then [(0x1000000 + 0x1000 * (u - 44), 0x1000)]
  else [(0x1002018, 4)]

/-- A key of the register file lies in the unit's ranges. -/
def inUnit (u key : Nat) : Bool := (unitRanges u).any fun p => p.1 ≤ key / 8 && key / 8 < p.1 + p.2

/-- The field that a key names, as wide as any field is. -/
def fldOf (key : Nat) : Fld := ⟨key / 8, key % 8, 64, 0⟩

/-- The group of units that R142 treats as one: a context, the outlets of one source context (64 + context), or the unit. An
outlet without a record has no source context and stands alone. -/
def Run.tideGroup (r : Run s₀) (u : Nat) : Nat :=
  if 16 ≤ u ∧ u < 40 ∧ r.hasCfg 0x0701 (u - 16) = true then 64 + r.olN (u - 16) 9 1 else u

/-- The snapshots of a group, newest first. -/
def Run.snaps (r : Run s₀) (g : Nat) : List Snap := r.u.tide.snaps.look g []

/-- Set the snapshots of a group; PENDING shows the units that hold one (Table 05-8). -/
def Run.setSnaps (r : Run s₀) (g : Nat) (l : List Snap) : Run s₀ :=
  let r := r.mod fun u => { u with tide := { u.tide with snaps := u.tide.snaps.put g l } }
  let held := fun b : Nat => r.u.tide.snaps.any fun p => p.2.any fun s => s.units.contains b
  r.wr GLB_TIDE_PENDING (((List.range 47).map fun b => b2n (held b) * 2 ^ b).foldl (· + ·) 0)

/-! ## The commit (R142) -/

/-- The values a commit replaces: field, bad value, replacement. -/
def Run.tideFixes (r : Run s₀) (u : Nat) : List (Fld × (Nat → Bool) × Nat) :=
  if u < 16 then
    (PIX_CTX_SCHED_WEIGHT u, fun v => v == 0, 1)
      :: ([PIX_CTX_HIST_SRC0 u, PIX_CTX_HIST_SRC1 u, PIX_CTX_HIST_SRC2 u, PIX_CTX_HIST_SRC3 u].map fun f => (f, fun v => 6 ≤ v, 0))
      ++ (if u = 0 then [(TIM_TC_CTL_DF, fun v => v == 1 && r.rd TIM_TC_CTL_RATE != 7 && r.rd TIM_TC_CTL_RATE != 9, 0)] else [])
  else if u < 40 then
    let o := u - 16
    [(PIX_OL_CLR_LB o, fun v => 11 < v, 0), (OUT_CTL_SCALER o, fun v => r.hasCfg 0x0701 o && !r.hasCfg 0x0702 v, r.olN o 0x13 1)]
  else if u < 44 then
    let n := u - 40
    (List.range 8).map fun k => (CMP_L_CTL_EN n k, fun v => v == 1 && r.layerBad n k r.rd, 0)
  else if u < 46 then
    let n := u - 44
    [(ENC_QP_MIN n, fun v => r.rd (ENC_QP_MAX n) < v, r.rd (ENC_QP_MAX n))]
  else []

/-- Shadow bits the device clears when it takes the snapshot (R202, COD_ENC_n_PIC). -/
def oneShot (u : Nat) : List Fld :=
  if 40 ≤ u ∧ u < 44 then (List.range 8).map fun k => CMP_L_DAMAGE_VALID (u - 40) k
  else if u = 44 ∨ u = 45 then [ENC_PIC_FORCE_IRAP (u - 44)]
  else []

/-- The snapshot of some units: the shadows of their ranges with the replaced values. -/
def Run.takeSnap (r : Run s₀) (units : List Nat) : Tab Nat :=
  let base := r.st.regs.filter fun e => units.any fun u => inUnit u e.1
  units.foldl (fun t u => (r.tideFixes u).foldl (fun t f => if f.2.1 (r.rd f.1) then t.put f.1.key f.2.2 else t) t) base

/-- A write of GLB_TIDE_COMMIT (R142): one snapshot for each group of the selected units. A group's snapshot also covers
the units of the group that still wait. -/
def Run.tideCommit (r : Run s₀) (mask : Nat) : Run s₀ :=
  let sel := (List.range 47).filter (bit mask)
  let groups := (sel.map r.tideGroup).eraseDups
  r.each groups fun g r =>
    let old := r.snaps g
    let units := (List.range 47).filter fun b => (sel.contains b && r.tideGroup b == g) || old.any fun s => s.units.contains b
    let fixed := units.flatMap fun u => ((r.tideFixes u).filter fun f => f.2.1 (r.rd f.1)).map fun _ => u
    let s : Snap := { at_ := r.now, units := units, vals := r.takeSnap units, fixes := fixed }
    let r := r.setSnaps g (s :: old)
    let r := r.each (units.flatMap oneShot) fun f r => r.wr f 0
    r.when (40 ≤ g && g < 44) fun r => r.vfWake (g - 40)

/-! ## Application -/

/-- The TIDE event of a unit, if it has one (R147, R214, R238). -/
def tideEvent (u : Nat) : Option Nat :=
  if u < 16 then some (193 + 2 * u) else if u < 40 then none else if u < 44 then some (260 + (u - 40))
  else if u < 46 then some (288 + 8 * (u - 44)) else some 304

/-- A snapshot applies: its values become active, with GLB event 9 for each value that the commit replaces, APPLIED is set,
and the unit's TIDE event occurs (R5, R142). -/
def Run.applySnap (r : Run s₀) (s : Snap) : Run s₀ :=
  let old := r.st.rdA
  let r := r.each s.vals fun e r => r.wrA (fldOf e.1) e.2
  let r := r.each (s.fixes.filter s.units.contains) fun _ r => r.ignored
  r.each s.units fun u r =>
    let r := r.hwSet GLB_TIDE_APPLIED (2 ^ u)
    let r := match tideEvent u with
      | some e => r.ev e
      | none => r
    r.when (40 ≤ u && u < 44) fun r => r.dirtyApply (u - 40) old

/-- Units that must wait for the next boundary: DEFERRED is set for them (R142, R144). -/
def Run.deferSnaps (r : Run s₀) (l : List Snap) : Run s₀ := if l.isEmpty then r else r.hwSet GLB_TIDE_DEFERRED
  (((List.range 47).map fun b => b2n (l.any fun s => s.units.contains b) * 2 ^ b).foldl (· + ·) 0)

/-- A boundary of a group: the newest snapshot written at or before t - 65 applies, older ones are discarded, and newer ones
wait with DEFERRED set (R142). -/
def Run.boundary (r : Run s₀) (g : Nat) : Run s₀ :=
  let l := r.snaps g
  match l.find? fun s => s.at_ + 65 ≤ r.now with
  | none => r.deferSnaps l
  | some s =>
    let newer := l.filter fun x => s.at_ < x.at_
    ((r.setSnaps g newer).deferSnaps newer).applySnap s

/-- Whether a boundary of the group would apply a snapshot now. -/
def Run.boundaryReady (r : Run s₀) (g : Nat) : Bool := (r.snaps g).any fun s => s.at_ + 65 ≤ r.now

/-- An unfinished admitted frame of a context holds parameter version v (R144). -/
def Run.verHeld (r : Run s₀) (c v : Nat) : Bool := r.u.pix.frames.any fun f => f.ctx == c && f.verNo == v

/-- The version that a newly applied snapshot forms: the other one while no unfinished frame holds it, else the same. -/
def Run.nextVersion (r : Run s₀) (c : Nat) : Run s₀ :=
  let v := r.rd (PIX_CTX_STATUS_VERSION c)
  if r.verHeld c (1 - v) then r else r.wr (PIX_CTX_STATUS_VERSION c) (1 - v)

/-- A group has no boundary running (R145). -/
def Run.atRest (r : Run s₀) (g : Nat) : Bool :=
  let ctxRest := fun c : Nat => !r.on (PIX_CTX_CFG_INTERPRET c) || match r.vsOfCtx c with
    | none => true
    | some v =>
      let st := r.rd (ITK_BND_STATUS_STATE (r.cfgN 0x0402 v 8 1))
      st == 0 || st == 1 || st == 2 || st == 5
  if g < 16 then ctxRest g
  else if g < 40 then true
  else if 64 ≤ g then ctxRest (g - 64)
  else if g < 44 then r.rdA (CMP_CTL_EN (g - 40)) == 0
  else if g < 46 then r.rd (ENC_STATUS_STATE (g - 44)) == 0
  else r.rd DEC_STATUS_RUNNING == 0

/-- Cycle w + 65 of the newest snapshot of a group that is due for judgement: a group at rest applies it, any other waits
for its next boundary (R145). -/
def Run.restApply (r : Run s₀) (g : Nat) : Run s₀ :=
  let l := r.snaps g
  match l.find? fun s => s.at_ + 65 ≤ r.now && !s.judged with
  | none => r
  | some s =>
    if r.atRest g then
      let r := (r.setSnaps g (l.filter fun x => s.at_ < x.at_)).applySnap s
      r.when (g < 16 || 64 ≤ g) fun r =>
        let c := if g < 16 then g else g - 64
        r.nextVersion c
    else r.setSnaps g (l.map fun x => if x.at_ ≤ s.at_ then { x with judged := true } else x)

/-- Every snapshot of some groups is discarded (R145). -/
def Run.dropSnaps (r : Run s₀) (p : Nat → Bool) : Run s₀ :=
  r.each (r.u.tide.snaps.filter fun e => p e.1) fun e r => r.setSnaps e.1 []

/-- The write of GLB_TIDE_COMMIT (R141, R142). -/
def execGlbTideCommit (mask : Nat) (s : State) : Host.Outcome State Fault Refusal := done s fun r => r.tideCommit mask

/-- Cycle w + 65 of pending snapshots (R145). -/
def execTideIdleApply (s : State) : Host.Outcome State Fault Refusal :=
  done s fun r => r.each (r.u.tide.snaps.map Prod.fst) fun g r => r.restApply g

end Sys2Proof.Machine
end

