-- ==== Sys2Proof/Machine/Compose.lean ====
section
/-!
DEFINITION. Compositions (R198 to R200, R206), pushes to the panel (R204, R205), self-refresh and wake (R207 to R209),
read-back (R210, R211) and host panel commands (R212, R213).
-/
namespace Sys2Proof.Machine
variable {s₀ : State}

/-! ## Selection of buffers (R199) -/

/-- The hold bit of an outlet's buffer (Table 07-12). -/
def Run.setHeld (r : Run s₀) (o b : Nat) (h : Bool) : Run s₀ := r.wr (OUT_STATUS_HELD o) (putBits (r.rd (OUT_STATUS_HELD o)) b 1 (b2n h))

/-- HOLD and HELD of video layer k (R197, CMP_n_STATUS). -/
def Run.setHold (r : Run s₀) (n k : Nat) (b : Option Nat) : Run s₀ :=
  if k = 0 then (r.wr (CMP_STATUS_HOLD_V0 n) (b2n b.isSome)).wr (CMP_STATUS_HELD_V0 n) (b.getD 0)
  else (r.wr (CMP_STATUS_HOLD_V1 n) (b2n b.isSome)).wr (CMP_STATUS_HELD_V1 n) (b.getD 0)

/-- A video layer gives up the buffer it holds. -/
def Run.dropHold (r : Run s₀) (n k : Nat) : Run s₀ :=
  match r.layerHeld n k with
  | none => r
  | some b =>
    let r := match r.videoOutlet n k with
      | some o => r.setHeld o b false
      | none => r
    r.setHold n k none

/-- At a composition start an enabled video layer selects the published buffer, unless it is being written (R199); a newer
buffer makes the layer's rectangle dirty (R202). -/
def Run.selectLayer (r : Run s₀) (n k : Nat) : Run s₀ :=
  match r.videoOutlet n k with
  | none => r.dropHold n k
  | some o =>
    if r.rdA (CMP_L_CTL_EN n k) = 0 then r.dropHold n k
    else
      let b := r.rd (OUT_PUB_IDX o)
      let writing := r.on (OUT_STATUS_BUSY o) && r.rd (OUT_STATUS_WRITING o) == b
      if !r.on (OUT_STATUS_PUBLISHED o) || writing || r.layerHeld n k == some b then r
      else (((r.dropHold n k).setHeld o b true).setHold n k (some b)).dirtyRect n (r.layerRect n k r.rdA)

/-! ## Pushes (R204, R205, R210) -/

/-- A packet on viewfinder link n: data type, header fields, payload. -/
def Run.dsi (r : Run s₀) (n dt : Nat) (fields : List Nat) (payload : List Byte) : Run s₀ := r.emit (.packet (96 + n) dt fields payload)

/-- A big-endian 16-bit number, as DCS commands carry it. -/
def be2 (v : Nat) : List Byte := le 1 (v / 256) ++ le 1 v

/-- The CRC-16 of R210 of bytes, from a running value. -/
def crc16 (c : Nat) (l : List Byte) : Nat := l.foldl (fun c b => crcReflByte 0x8408 8 (c ^^^ b.toNat)) c

/-- `n` bytes at an offset of link n's VFLINK record (Table 08-2). -/
def Run.vfN (r : Run s₀) (n off k : Nat) : Nat := r.cfgN 0x0802 n off k

/-- set_column_address and set_page_address of a region (R204). -/
def Run.pushWindow (r : Run s₀) (n : Nat) (g : Region) : Run s₀ :=
  (r.dsi n 0x39 [0] (le 1 0x2A ++ be2 g.x0 ++ be2 g.x1)).dsi n 0x39 [0] (le 1 0x2B ++ be2 g.y0 ++ be2 g.y1)

/-- The payload of the DCS long write of one region row (R204). -/
def Run.rowPayload (r : Run s₀) (n : Nat) (ls : List Layer) (g : Region) (y : Nat) : List Byte :=
  le 1 (if y = g.y0 then 0x2C else 0x3C) ++
    (List.range (g.x1 + 1 - g.x0)).flatMap fun x => (List.range 3).flatMap fun c => le 1 (min ((r.canvasPixel n ls (g.x0 + x) y c + 8) / 16) 255)

/-- The payloads of the pixel packets of a region: DCS writes, or Compressed Pixel Stream chunks (R204, R205). -/
def Run.pixelPayloads (r : Run s₀) (n : Nat) (ls : List Layer) (g : Region) : List (List Byte) :=
  if r.on (VFD_STATUS_DSC n) then
    let sw := r.vfN n 0x12 2
    let sh := r.vfN n 0x14 2
    let bpc := if bit (r.vfN n 0xA 1) 2 then 10 else 8
    let code := fun v => if bpc = 10 then min ((v + 2) / 4) 1023 else min ((v + 8) / 16) 255
    (List.range ((g.y1 + 1 - g.y0) / sh)).flatMap fun j => (List.range sh).flatMap fun line =>
      (List.range ((g.x1 + 1) / sw)).map fun i =>
        Config.dscChunk sw sh (r.vfN n 0x10 2) bpc
          ((List.range sh).flatMap fun y => (List.range sw).flatMap fun x => (List.range 3).map fun c =>
            code (r.canvasPixel n ls (i * sw + x) (g.y0 + j * sh + y) c)) line
  else (List.range (g.y1 + 1 - g.y0)).map fun y => r.rowPayload n ls g (g.y0 + y)

/-- A region goes out; its CRC covers the payload bytes of its pixel packets in send order (R204, R205, R210). -/
def Run.pushRegion (r : Run s₀) (n : Nat) (ls : List Layer) (g : Region) : Run s₀ :=
  let ps := r.pixelPayloads n ls g
  let dt := if r.on (VFD_STATUS_DSC n) then 0x0B else 0x39
  let r := (r.pushWindow n g).each ps fun p r => r.dsi n dt [0] p
  r.cmpMod n fun u => { u with regions := u.regions ++ [{ g with crc := ps.foldl crc16 0xFFFF }] }

/-- The Picture Parameter Set: version 1.2, the sizes, bits per pixel and component, RGB converted, block prediction, no native
4:2:2 or 4:2:0; its layout is that of VESA DSC 1.2a (R205, PRESUMED, assumption 52). -/
def dscPps (w h sw sh bpp bpc : Nat) : List Byte :=
  let rc := Config.dscRc sw sh bpp bpc
  le 1 0x12 ++ le 2 0 ++ le 1 (bpc * 16 + (rc 3).toNat % 16) ++ le 1 (0x30 + bpp / 256 % 4) ++ le 1 bpp
    ++ be2 h ++ be2 w ++ be2 sh ++ be2 sw ++ be2 (ceilDiv (bpp * sw) 128) ++ (List.range 72).map (fun k => rc (16 + k)) ++ List.replicate 40 0#8

/-- The Picture Parameter Set and the compression-mode command, which turns compression on, before the first push after a link
start or wake (R205, assumption 52). -/
def Run.pushPps (r : Run s₀) (n : Nat) : Run s₀ :=
  if r.on (VFD_STATUS_DSC n) && (r.cmpU n).ppsDue then
    let (w, h) := r.canvas n
    let r := r.dsi n 0x0A [0] (dscPps w h (r.vfN n 0x12 2) (r.vfN n 0x14 2) (r.vfN n 0x10 2) (if bit (r.vfN n 0xA 1) 2 then 10 else 8))
    (r.dsi n 0x07 [0] (le 2 1)).cmpMod n fun u => { u with ppsDue := false }
  else r

/-! ## Composition (R198) -/

/-- A viewfinder composition starts: snapshot, selection, regions, pushes. When the snapshot disables the composer no composition
starts, and the layers keep their buffers (R199). -/
def Run.vfStart (r : Run s₀) (n : Nat) : Run s₀ :=
  let r := r.boundary (40 + n)
  if r.rdA (CMP_CTL_EN n) = 0 then r
  else
    let r := (r.selectLayer n 0).selectLayer n 1
    let r := r.when (r.on (VFD_STATUS_READBACK_FAIL n)) fun r => r.dirtyAll n
    let (gs, box) := r.regions n (r.cmpU n).dirty
    let r := r.when box fun r => r.sat (CMP_COUNT_BBOX n)
    let r := r.cmpMod n fun u => { u with dirty := [], regions := [], mismatch := false, idle := 0 }
    let r := (r.wr (CMP_STATUS_COMPOSING n) 1).wr (VFD_STATUS_PUSHING n) 1
    let ls := r.layers n
    let r := (r.layerReads ls).pushPps n
    let r := r.each gs fun g r => r.pushRegion n ls g
    r.dirty n (r.tilePoisoned ls)

/-- The composer is active, idle and has something to do (R198). -/
def Run.vfDue (r : Run s₀) (n : Nat) : Bool :=
  r.rdA (CMP_CTL_EN n) == 1 && (!(r.cmpU n).dirty.isEmpty || !(r.snaps (40 + n)).isEmpty || r.on (VFD_STATUS_READBACK_FAIL n))

/-- An active TE edge (R198, R206 to R208). -/
def Run.teEdge (r : Run s₀) (n : Nat) : Run s₀ :=
  if r.rd (VFD_STATUS_LINK_STATE n) ≠ 2 then r
  else
    let r := (r.wr (VFD_STATUS_TE_OK n) 1).cmpMod n fun u => { u with teLost := false }
    if r.on (CMP_STATUS_COMPOSING n) then (r.sat (CMP_COUNT_LATE n)).ev (256 + n)
    else if r.vfDue n then r.vfStart n
    else
      let k := (r.cmpU n).idle + 1
      let r := r.cmpMod n fun u => { u with idle := k }
      if r.rd (VFD_CTL_SR_FRAMES n) ≠ 0 ∧ r.rd (VFD_CTL_SR_FRAMES n) ≤ k then
        let r := (r.linkUlps n).cmpMod n fun u => { u with idle := 0 }
        (r.sat (VFD_ERR_SR_ENTRIES n)).ev (270 + n)
      else r

/-- A feed composition starts (R198 to R200), but not while a re-weave has stopped the units (R56). -/
def Run.feedCompStart (r : Run s₀) (n : Nat) : Run s₀ :=
  if !r.hasCfg 0x0801 n || n < 2 || r.rdA (CMP_CTL_EN n) == 0 || r.on (CMP_STATUS_COMPOSING n) || r.stopping then r
  else
    let r := r.boundary (40 + n)
    if r.rdA (CMP_CTL_EN n) = 0 then r
    else
      let r := (r.selectLayer n 0).selectLayer n 1
      let newest := (r.cmpU n).newest
      let sending := (lowest (fun g => r.hasCfg 0x0703 g && r.fedN g 8 1 == n - 2) 3).bind fun g => (r.fedU g).sending
      let b := (lowest (fun b => some b != newest && some b != sending) 3).getD 0
      let r := r.cmpMod n fun u => { u with late := false }
      (r.wr (CMP_STATUS_COMPOSING n) 1).wr (CMP_STATUS_OUT_BUF n) b

/-- The bytes of a feed composition in the composer's FORMAT (R200). -/
def Run.feedImage (r : Run s₀) (n : Nat) (ls : List Layer) : List Byte :=
  let (w, h) := r.canvas n
  let fmt := r.cmpN n 0xC 1
  let c := fun x y k =>
    let v := r.canvasPixel n ls x y k
    if bit fmt 1 then v else min ((v + 2) / 4) 1023
  if bit fmt 0 then planes422 w h c else planes444 w h c

/-! ## Panel commands (R212) -/

/-- The command packet leaves; with READ its response is awaited. -/
def Run.sendCmd (r : Run s₀) (n : Nat) : Run s₀ :=
  let len := r.rd (VFD_CMD_CTL_LEN n)
  let data := ((List.range 64).flatMap fun k => le 4 (r.rd (VFD_CMD_DATA n k))).take len
  let r := r.dsi n (r.rd (VFD_CMD_HDR_DT n)) [r.rd (VFD_CMD_HDR_VC n), r.rd (VFD_CMD_CTL_LP n), r.rd (VFD_CMD_CTL_READ n)]
    (if len = 0 then le 1 (r.rd (VFD_CMD_HDR_DATA0 n)) ++ le 1 (r.rd (VFD_CMD_HDR_DATA1 n)) else data)
  let read := r.on (VFD_CMD_CTL_READ n)
  let r := (r.wr (VFD_CMD_CTL_ERR n) 0).cmpMod n fun u => { u with cmdWait := false, cmdResp := read }
  r.when (!read) fun r => r.wr (VFD_CMD_CTL_BUSY n) 0

/-- A waiting command leaves once the link is active and no composition runs. -/
def Run.tryCmd (r : Run s₀) (n : Nat) : Run s₀ :=
  r.when ((r.cmpU n).cmdWait && r.rd (VFD_STATUS_LINK_STATE n) == 2 && !r.on (CMP_STATUS_COMPOSING n)) fun r => r.sendCmd n

/-- A write of VFD_n_CMD_CTL.GO (R212); it wakes a link in ULPS (R209). -/
def Run.cmdGo (r : Run s₀) (n : Nat) : Run s₀ :=
  if r.on (VFD_CMD_CTL_BUSY n) || 256 < r.rd (VFD_CMD_CTL_LEN n) then r.ignored
  else
    let r := (r.wr (VFD_CMD_CTL_BUSY n) 1).cmpMod n fun u => { u with cmdWait := true }
    (r.vfWake n).tryCmd n

/-- A command's response ends its wait: 0 OK, 1 none within 10 ms, 2 an error report or a bad checksum (R212). -/
def Run.cmdEnd (r : Run s₀) (n err : Nat) (bytes : List Byte) : Run s₀ :=
  if !(r.cmpU n).cmdResp then r
  else
    let r := (r.cmpMod n fun u => { u with cmdResp := false }).wr (VFD_CMD_CTL_BUSY n) 0
    let r := r.wr (VFD_CMD_CTL_ERR n) err
    if err = 0 then (r.wr (VFD_RSP_BYTES n) (ofLe (bytes.take 8))).wr (VFD_CMD_CTL_RSP_LEN n) (min bytes.length 8)
    else r.sat (VFD_ERR_CMD_ERR n)

/-! ## Completion, read-back, wake, weave -/

/-- At the quiescence of a re-weave a link enters ULPS, once no composition runs (R56, R213). -/
def Run.linkRests (r : Run s₀) (n : Nat) : Run s₀ :=
  r.when (!r.on (CMP_STATUS_COMPOSING n) && (r.rd (VFD_STATUS_LINK_STATE n) == 1 || r.rd (VFD_STATUS_LINK_STATE n) == 2)) fun r => r.linkUlps n

/-- The compositions that a re-weave stops at 100 ms (R56). -/
def Run.compositionsDrop (r : Run s₀) : Run s₀ :=
  let r := r.each (List.range 4) fun n r => r.wr (CMP_STATUS_COMPOSING n) 0
  r.each [0, 1] fun n r => (r.wr (VFD_STATUS_PUSHING n) 0).linkRests n

/-- A composition completes (R199, R200, R204). -/
def Run.compositionDone (r : Run s₀) (n : Nat) : Run s₀ :=
  if !r.on (CMP_STATUS_COMPOSING n) then r
  else
    let r := (r.inc (CMP_SEQ_SEQ n)).wr (CMP_STATUS_COMPOSING n) 0
    if n < 2 then
      let r := (r.inc (VFD_PUSHES_COUNT n)).wr (VFD_STATUS_PUSHING n) 0
      (r.when (r.u.glb.change == .quiesce) fun r => r.linkRests n).tryCmd n
    else
      let ls := r.layers n
      let b := r.rd (CMP_STATUS_OUT_BUF n)
      let r := (r.layerReads ls).store? 5 (r.cmpBuffer n b) (r.feedImage n ls)
      let r := r.cmpMod n fun u => { u with newest := some b, done := u.done + 1 }
      (r.dropHold n 0).dropHold n 1

/-- The read-back CRC of the oldest region not yet compared (R210, R211). -/
def Run.readback (r : Run s₀) (n crc : Nat) : Run s₀ :=
  match (r.cmpU n).regions with
  | [] => r
  | g :: rest =>
    let r := (r.wr (VFD_CRC_SENT n) g.crc).wr (VFD_CRC_READ n) crc
    let r := r.cmpMod n fun u => { u with regions := rest }
    let r := r.when (crc % 2 ^ 16 != g.crc) fun r =>
      let r := ((r.sat (VFD_ERR_MISMATCH n)).ev (264 + n)).dirty n (touches g)
      r.cmpMod n fun u => { u with mismatch := true }
    if !rest.isEmpty then r
    else if (r.cmpU n).mismatch then
      let r := r.cmpMod n fun u => { u with bad := u.bad + 1 }
      if 3 ≤ (r.cmpU n).bad ∧ r.on (VFD_STATUS_READBACK_FAIL n) = false then
        ((r.wr (VFD_STATUS_READBACK_FAIL n) 1).ev (266 + n)).breach { type := 10, index := n, cls := 1, action := 1, event := 266 + n }
      else r
    else (r.cmpMod n fun u => { u with bad := 0 }).wr (VFD_STATUS_READBACK_FAIL n) 0

/-- TE_TIMEOUT ms passed without an active TE edge on an active link (R207). -/
def Run.teTimeout (r : Run s₀) (n : Nat) : Run s₀ :=
  if r.rd (VFD_STATUS_LINK_STATE n) ≠ 2 ∨ (r.cmpU n).teLost = true then r
  else
    let r := (r.wr (VFD_STATUS_TE_OK n) 0).cmpMod n fun u => { u with teLost := true }
    (r.sat (VFD_ERR_TE_LOST n)).ev (268 + n)

/-- A link finishes its wake (R209). -/
def Run.wakeDone (r : Run s₀) (n : Nat) : Run s₀ :=
  if r.rd (VFD_STATUS_LINK_STATE n) ≠ 1 then r
  else
    ((r.linkActive n).ev (270 + n)).tryCmd n

/-- A weave sets the links' shape; after READY each link powers up and its whole canvas becomes dirty (R213). -/
def Run.cmpWeave (r : Run s₀) : Run s₀ :=
  let r := r.mod fun u => { u with cmp := u.cmp.map fun e => (e.1, { ({} : CmpU) with cmdWait := e.2.cmdWait, cmdResp := e.2.cmdResp }) }
  r.each [0, 1] fun n r => r.wr (VFD_STATUS_DSC n) (bits (r.vfN n 0xA 1) 0 1)

/-- The links of the woven composers power up, or wake from the ULPS of a re-weave, with their whole canvas dirty (R202, R209, R213). -/
def Run.linksUp (r : Run s₀) : Run s₀ :=
  r.each [0, 1] fun n r =>
    if r.hasCfg 0x0801 n && r.hasCfg 0x0802 n then
      (if r.rd (VFD_STATUS_LINK_STATE n) = 3 then r.linkMark n else r.linkActive n).dirtyAll n
    else r.wr (VFD_STATUS_LINK_STATE n) 0

/-! ## Commands -/

/-- An active TE edge on TE_n. -/
def execTeEdge (n : Fin 2) (s : State) : Host.Outcome State Fault Refusal := done s fun r => r.teEdge n

/-- The TSEL time of a feed composition (R198). -/
def execFeedCompositionStart (n : Fin 4) (s : State) : Host.Outcome State Fault Refusal := done s fun r => r.feedCompStart n

/-- A composition completes. -/
def execCompositionDone (n : Fin 4) (s : State) : Host.Outcome State Fault Refusal := done s fun r => r.compositionDone n

/-- The read-back CRC of a region is compared. -/
def execReadbackCheck (n : Fin 2) (crc : Nat) (s : State) : Host.Outcome State Fault Refusal := done s fun r => r.readback n crc

/-- TE_TIMEOUT expires. -/
def execTeTimeout (n : Fin 2) (s : State) : Host.Outcome State Fault Refusal := done s fun r => r.teTimeout n

/-- The internal timer of a link that lost its TE starts a composition (R207). -/
def execInternalTe (n : Fin 2) (s : State) : Host.Outcome State Fault Refusal :=
  done s fun r => r.when ((r.cmpU n).teLost && r.rd (VFD_STATUS_LINK_STATE n) == 2 && !r.on (CMP_STATUS_COMPOSING n) && r.vfDue n)
    fun r => r.vfStart n

/-- A wake ends. -/
def execWakeDone (n : Fin 2) (s : State) : Host.Outcome State Fault Refusal := done s fun r => r.wakeDone n

/-- FORCE_FULL is written 1 (R202). -/
def execForceFull (n : Fin 2) (s : State) : Host.Outcome State Fault Refusal := done s fun r => (r.dirtyAll n).vfWake n

/-- VFD_n_CMD_CTL.GO is written 1 (R212). -/
def execVfdCmdGo (n : Fin 2) (s : State) : Host.Outcome State Fault Refusal := done s fun r => r.cmdGo n

/-- A panel response: its bytes, and whether it reports an error or has a bad checksum (R212). -/
def execPanelResponse (n : Fin 2) (bad : Bool) (data : List Byte) (s : State) : Host.Outcome State Fault Refusal :=
  done s fun r => r.cmdEnd n (if bad then 2 else 0) data

/-- No panel response within 10 ms (R212). -/
def execPanelResponseTimeout (n : Fin 2) (s : State) : Host.Outcome State Fault Refusal := done s fun r => r.cmdEnd n 1 []

end Sys2Proof.Machine
end

