-- ==== Sys2Proof/Machine/Motion.lean ====
section
/-!
DEFINITION. What the encoder core decides for a picture: the conversion of its samples (R217), motion search (R224) and mode
decision (R225), as functions of the pictures. The tables of λ, the coding that a trial costs and the prediction of H.265 are
constants of Config (assumption 54).
-/
namespace Sys2Proof.Machine

/-! ## Conversion (R217) -/

/-- Sample of component c at column x, row y of a planar 4:2:2 picture of w x h pixels in an outlet's buffer (R178). -/
def plane422 (bs : List Byte) (w h c x y : Nat) : Nat :=
  let p := olPitch w
  if c = 0 then field bs (y * p + 2 * x) 2 else field bs (h * p + y * p + 2 * (2 * x + c - 1)) 2

/-- The samples that an encoder codes: 4:2:2 unchanged for Main 4:2:2 10 (2), chroma halved vertically for Main 10 (1), and
reduced to 8 bits as well for Main (0) (R217). -/
def converted (profile h : Nat) (s : Nat → Nat → Nat → Nat) (c x y : Nat) : Nat :=
  let v := if c = 0 ∨ profile = 2 then s c x y else (s c x (2 * y) + s c x (min (2 * y + 1) (h - 1)) + 1) / 2
  if profile = 0 then min ((v + 2) / 4) 255 else v

/-! ## Vectors -/

/-- A motion vector in quarter-pel units, or a position in whole pels. -/
structure Vec where
  x : Int
  y : Int
  deriving DecidableEq, Repr

/-- A vector clamped into the range of the search (R224). -/
def Vec.inRange (v : Vec) : Vec := ⟨clamp (-1024) 1024 v.x, clamp (-512) 512 v.y⟩

/-- The middle of three numbers. -/
def mid3 (a b c : Int) : Int := max (min a b) (min (max a b) c)

/-- The component-wise median of a list of numbers: the lower middle one of an even count. -/
def median (l : List Int) : Int := (l.mergeSort (· ≤ ·)).getD ((l.length - 1) / 2) 0

/-- bits(d) of R224. -/
def vecBits (d : Int) : Nat := 2 * Nat.log2 (d.natAbs + 1) + 1

/-- The rate term of R224 of a vector against a prediction: lambda is U12.4. -/
def vecRate (lambda : Nat) (p v : Vec) : Nat := (lambda * (vecBits (v.x - p.x) + vecBits (v.y - p.y)) + 8) / 16

/-- A vector scaled by POC distances as H.265 scales a temporal candidate: tb to the own reference, td of the collocated one. -/
def scaleVec (tb td : Int) (v : Vec) : Vec :=
  let tb := clamp (-128) 127 tb
  let td := clamp (-128) 127 td
  let one := fun m : Int =>
    if td = 0 then m
    else
      let tx := (16384 + ((td.natAbs / 2 : Nat) : Int)).tdiv td
      let f := clamp (-4096) 4095 (asr (tb * tx + 32) 6)
      let p := f * m
      clamp (-32768) 32767 ((if p < 0 then -1 else 1) * (((p.natAbs + 127) / 256 : Nat) : Int))
  ⟨one v.x, one v.y⟩

/-- The entry of a list with the lowest score; an earlier one wins a tie. -/
def firstMin {α : Type} (score : α → Nat) : List α → Option α
  | [] => none
  | a :: l =>
    match firstMin score l with
    | none => some a
    | some b => if score b < score a then some b else some a

/-! ## Scores -/

/-- Sum over an n x n block. -/
def sumBlock (n : Nat) (f : Nat → Nat → Nat) : Nat :=
  (List.range n).foldl (fun a y => (List.range n).foldl (fun a x => a + f x y) a) 0

/-- A plane read at any position: beyond its edge the nearest sample. -/
def clampedAt (w h : Nat) (f : Nat → Nat → Nat) (x y : Int) : Int := f (nearest w x) (nearest h y)

/-- A sample of the half-resolution plane of a w x h luma plane (R224). -/
def halfRes (w h : Nat) (f : Nat → Nat → Nat) (x y : Nat) : Nat :=
  let g := fun a b : Nat => f (min (2 * x + a) (w - 1)) (min (2 * y + b) (h - 1))
  (g 0 0 + g 1 0 + g 0 1 + g 1 1 + 2) / 4

/-- The H.265 luma filter of a quarter-pel fraction: eight taps from 3 samples before. -/
def lumaTap (frac k : Nat) : Int :=
  let l : List Int :=
    if frac = 0 then [0, 0, 0, 64, 0, 0, 0, 0] else if frac = 1 then [-1, 4, -10, 58, 17, -5, 1, 0]
    else if frac = 2 then [-1, 4, -11, 40, 40, -11, 4, -1] else [0, 1, -5, 17, 58, -10, 4, -1]
  l.getD k 0

/-- A sample of a reference luma plane of `depth` bits at a quarter-pel position, by the H.265 luma filters. -/
def lumaAt (depth : Nat) (f : Int → Int → Int) (x y : Int) : Int :=
  let ix := asr x 2
  let iy := asr y 2
  let fx := (x % 4).toNat
  let fy := (y % 4).toNat
  let row := fun j : Int => sumI ((List.range 8).map fun k => lumaTap fx k * f (ix + (k : Nat) - 3) j)
  let v := if fy = 0 then asr (row iy) (depth - 8)
    else if fx = 0 then asr (sumI ((List.range 8).map fun k => lumaTap fy k * f ix (iy + (k : Nat) - 3))) (depth - 8)
    else asr (sumI ((List.range 8).map fun k => lumaTap fy k * asr (row (iy + (k : Nat) - 3)) (depth - 8))) 6
  clamp 0 ((2 ^ depth : Nat) - 1) (roundShift v (14 - depth))

/-- The four-point Hadamard transform. -/
def hadamard4 (f : Nat → Int) (k : Nat) : Int :=
  if k = 0 then f 0 + f 1 + f 2 + f 3 else if k = 1 then f 0 - f 1 + f 2 - f 3
  else if k = 2 then f 0 + f 1 - f 2 - f 3 else f 0 - f 1 - f 2 + f 3

/-- The sum of the absolute 4 x 4 Hadamard coefficients of the differences of an n x n block. -/
def satd (n : Nat) (d : Nat → Nat → Int) : Nat :=
  sumBlock (n / 4) fun bx by_ => sumBlock 4 fun u v =>
    (hadamard4 (fun j => hadamard4 (fun i => d (4 * bx + i) (4 * by_ + j)) u) v).natAbs

/-! ## Motion search (R224) -/

/-- What the search of a picture depends on: luma size and depth, the luma of the picture and of refIdx 0, lambda_me of a block,
the collocated vector of a block of refIdx 0 scaled to this picture, and the global vector. -/
structure Search where
  w : Nat
  h : Nat
  depth : Nat
  cur : Nat → Nat → Nat
  ref : Nat → Nat → Nat
  lambda : Nat → Nat → Nat
  col : Nat → Nat → Option Vec
  global : Vec

/-- Columns of 16 x 16 blocks. -/
def Search.cols (s : Search) : Nat := ceilDiv s.w 16

/-- Rows of 16 x 16 blocks. -/
def Search.rows (s : Search) : Nat := ceilDiv s.h 16

/-- The final vector of a block among those found so far, in raster order. -/
def Search.found (s : Search) (fin : List Vec) (i j : Int) : Option Vec :=
  if i < 0 ∨ j < 0 ∨ (s.cols : Int) ≤ i then none else fin[(j.toNat * s.cols + i.toNat)]?

/-- C6: the component-wise median of C0, C1 and C2, when all three are available (Table 09-4). -/
def Search.median (s : Search) (fin : List Vec) (i j : Nat) : Option Vec :=
  match s.found fin (i - 1 : Int) j, s.found fin i (j - 1 : Int), (s.found fin (i + 1 : Int) (j - 1 : Int)).or (s.found fin (i - 1 : Int) (j - 1 : Int)) with
  | some a, some b, some c => some ⟨mid3 a.x b.x c.x, mid3 a.y b.y c.y⟩
  | _, _, _ => none

/-- The candidates of block (i, j) in the order of Table 09-4, without the unavailable ones and the duplicates. -/
def Search.candidates (s : Search) (fin : List Vec) (i j : Nat) : List Vec :=
  let c2 := (s.found fin (i + 1 : Int) (j - 1 : Int)).or (s.found fin (i - 1 : Int) (j - 1 : Int))
  let inside := i + 1 < s.cols ∧ j + 1 < s.rows
  (([s.found fin (i - 1 : Int) j, s.found fin i (j - 1 : Int), c2, s.col i j, some s.global, some ⟨0, 0⟩, s.median fin i j,
    if inside then s.col (i + 1) (j + 1) else none].filterMap id).map Vec.inRange).eraseDups

/-- The score of a candidate at whole-pel position u: SAD on the half-resolution planes (R224, step 1). -/
def Search.coarse (s : Search) (i j : Nat) (u : Vec) : Nat :=
  let hw := ceilDiv s.w 2
  let hh := ceilDiv s.h 2
  let at_ := fun (f : Nat → Nat → Nat) (x y : Int) => clampedAt hw hh (halfRes s.w s.h f) x y
  let ox := asr (u.x + 1) 1
  let oy := asr (u.y + 1) 1
  sumBlock 8 fun x y => (at_ s.cur (8 * i + x : Nat) (8 * j + y : Nat) - at_ s.ref ((8 * i + x : Nat) + ox) ((8 * j + y : Nat) + oy)).natAbs

/-- The positions around a centre that a refinement tries, the centre first, then in raster order, `step` apart and up to
`reach` steps away, within the range of the search. -/
def around (step reach : Nat) (c : Vec) : List Vec :=
  let offs := (List.range (2 * reach + 1)).map fun k : Nat => ((k : Int) - reach) * step
  (c :: offs.flatMap fun dy => (offs.filter fun dx => dx != 0 || dy != 0).map fun dx => (⟨c.x + dx, c.y + dy⟩ : Vec)).filter fun v => v.inRange == v

/-- Steps 1 to 3 of R224 for block (i, j), given the final vectors of the blocks before it in raster order. -/
def Search.block (s : Search) (fin : List Vec) (i j : Nat) : Vec :=
  let pred := (s.median fin i j).getD ⟨0, 0⟩
  let rate := vecRate (s.lambda i j) pred
  let whole := fun v : Vec => (⟨asr (v.x + 2) 2, asr (v.y + 2) 2⟩ : Vec)
  let u := (firstMin (s.coarse i j) ((s.candidates fin i j).map whole)).getD ⟨0, 0⟩
  let cur := fun x y : Nat => clampedAt s.w s.h s.cur (16 * i + x : Nat) (16 * j + y : Nat)
  let ref := clampedAt s.w s.h s.ref
  let full := fun v : Vec =>
    sumBlock 16 (fun x y => (cur x y - ref ((16 * i + x : Nat) + asr v.x 2) ((16 * j + y : Nat) + asr v.y 2)).natAbs) + rate v
  let c : Vec := (⟨4 * u.x, 4 * u.y⟩ : Vec).inRange
  let best := (firstMin full (around 4 8 c)).getD c
  let fine := fun v : Vec =>
    satd 16 (fun x y => cur x y - lumaAt s.depth ref (4 * (16 * i + x : Nat) + v.x) (4 * (16 * j + y : Nat) + v.y)) / 2 + rate v
  let half := (firstMin fine (around 2 1 best)).getD best
  (firstMin fine (around 1 1 half)).getD half

/-- The final vectors of the first n blocks of a picture, in raster order. -/
def Search.run (s : Search) : Nat → List Vec
  | 0 => []
  | n + 1 =>
    let fin := s.run n
    fin ++ [s.block fin (n % s.cols) (n / s.cols)]

/-- The final vectors of a picture (R224). -/
def Search.all (s : Search) : List Vec := s.run (s.cols * s.rows)

/-! ## Mode decision (R225) -/

/-- How a coding block is coded: skip, merge, an inter partition (0 2N x 2N, 1 2N x N, 2 N x 2N, 3 to 6 the asymmetric ones),
intra 2N x 2N in one of 35 modes, or intra N x N. -/
inductive CodeMode where
  | skip
  | merge
  | inter (part : Nat)
  | intra (mode : Nat)
  | intraNxN
  deriving DecidableEq, Repr

/-- A mode as numbers. -/
def CodeMode.nums : CodeMode → List Nat
  | .skip => [0]
  | .merge => [1]
  | .inter p => [2, p]
  | .intra m => [3, m]
  | .intraNxN => [4]

/-- What the decision depends on: the picture's size, whether it is a P or B picture, the source samples, SSE and bits of coding
a block at x, y of a size in a mode, and lambda_mode at a block, U16.8. -/
structure Decide where
  w : Nat
  h : Nat
  inter : Bool
  src : Nat → Nat → Nat → Nat
  trial : Nat → Nat → Nat → List Nat → Nat × Nat
  lambda : Nat → Nat → Nat

/-- The three intra modes with the lowest SATD on the source; lower modes first at equal SATD (R225). -/
def Decide.intraBest (d : Decide) (x y size : Nat) : List Nat :=
  let score := fun m => satd size fun i j => (d.src 0 (x + i) (y + j) : Int) - Config.intraPred d.src x y size m i j
  let ranked := ((List.range 35).map fun m => (score m, m)).mergeSort fun a b => a.1 < b.1 || (a.1 == b.1 && a.2 ≤ b.2)
  (ranked.take 3).map Prod.snd

/-- The modes that a block is tried in, skip before merge, inter and intra (R225). -/
def Decide.modes (d : Decide) (x y size : Nat) : List CodeMode :=
  (if d.inter then [.skip, .merge] ++ ((List.range (if size = 8 then 3 else 7)).map CodeMode.inter) else [])
    ++ (d.intraBest x y size).map CodeMode.intra ++ (if size = 8 then [.intraNxN] else [])

/-- J = SSE + lambda * bits of a mode, in units of 2^-8 (R225). -/
def Decide.cost (d : Decide) (x y size : Nat) (m : CodeMode) : Nat :=
  let t := d.trial x y size m.nums
  256 * t.1 + d.lambda x y * t.2

/-- The best mode of a block that is not split: its J and its numbers. -/
def Decide.leaf (d : Decide) (x y size : Nat) : Nat × List Nat :=
  match firstMin (d.cost x y size) (d.modes x y size) with
  | some m => (d.cost x y size m, m.nums)
  | none => (0, [])

/-- The coding blocks of a 8 * 2^n block, bottom-up: four smaller blocks, announced by 9, only when their J is smaller; a block
that crosses the picture's edge is always split (R225). -/
def Decide.tree (d : Decide) : Nat → Nat → Nat → Nat × List Nat
  | 0, x, y => if d.w ≤ x ∨ d.h ≤ y then (0, []) else d.leaf x y 8
  | n + 1, x, y =>
    let size := 8 * 2 ^ (n + 1)
    if d.w ≤ x ∨ d.h ≤ y then (0, [])
    else
      let h := size / 2
      let a := d.tree n x y
      let b := d.tree n (x + h) y
      let c := d.tree n x (y + h)
      let e := d.tree n (x + h) (y + h)
      let j := a.1 + b.1 + c.1 + e.1
      let l := d.leaf x y size
      if x + size ≤ d.w ∧ y + size ≤ d.h ∧ l.1 ≤ j then l else (j, 9 :: (a.2 ++ b.2 ++ c.2 ++ e.2))

/-- The decisions of the CTU at column i, row j. -/
def Decide.ctu (d : Decide) (i j : Nat) : List Nat := (d.tree 3 (64 * i) (64 * j)).2

end Sys2Proof.Machine
end

