-- ==== Sys2Proof/Machine/Codec.lean ====
section
/-!
DEFINITION. Proxy coding: encoder sequences, pictures, the buffer model, the freeboard rule and the output ring (R215 to
R231), decoder playback (R232 to R236).
-/
namespace Sys2Proof.Machine
variable {s₀ : State}

/-! ## Encoder: access -/

/-- What an encoder holds beside its registers. -/
def Run.encU (r : Run s₀) (n : Nat) : EncU := r.u.enc.look n {}

/-- Change what an encoder holds. -/
def Run.encMod (r : Run s₀) (n : Nat) (f : EncU → EncU) : Run s₀ := r.mod fun u => { u with enc := u.enc.put n (f (u.enc.look n {})) }

/-- `k` bytes at an offset of encoder n's ENC record (Table 09-2). -/
def Run.encN (r : Run s₀) (n off k : Nat) : Nat := r.cfgN 0x0901 n off k

/-- The coding outlet that names the encoder in DEST (Table 07-1). -/
def Run.encOutlet (r : Run s₀) (n : Nat) : Option Nat := (List.range 24).find? fun o => r.hasCfg 0x0701 o && r.olKind o == 2 && r.olN o 0xA 1 == n

/-- The size of the encoder's output ring in bytes. -/
def Run.ringSize (r : Run s₀) (n : Nat) : Nat := r.encN n 0x14 4 * 4096

/-- Picture size of an encoder's outlet. -/
def Run.encSize (r : Run s₀) (n : Nat) : Nat × Nat :=
  match r.encOutlet n with
  | some o => (r.olN o 0xC 2, r.olN o 0xE 2)
  | none => (0, 0)

/-- Columns and rows of 64 x 64 CTUs. -/
def Run.ctus (r : Run s₀) (n : Nat) : Nat × Nat :=
  let (w, h) := r.encSize n
  (ceilDiv w 64, ceilDiv h 64)

/-- CTUs in a picture. -/
def Run.ctuCount (r : Run s₀) (n : Nat) : Nat := (r.ctus n).1 * (r.ctus n).2

/-- Slices in a picture: SLICE_ROWS CTU rows each, or one (Table 09-12). -/
def Run.slices (r : Run s₀) (n : Nat) : Nat :=
  let k := r.rd (ENC_SEQ_SLICE_ROWS n)
  if k = 0 then 1 else ceilDiv (r.ctus n).2 k

/-- m_I and m_P: the minimum cost of a picture in bits (R227). -/
def Run.minBits (r : Run s₀) (n type : Nat) : Nat :=
  if type = 0 then 3584 + 512 * r.slices n + 48 * r.ctuCount n + 128 else 512 + 512 * r.slices n + 16 * r.ctuCount n

/-- a / b in units of 2^-16, rounded half up (R7). -/
def quotient16 (a b : Nat) : Nat := (2 * a * 65536 + b) / (2 * b)

/-- BR / f in units of 2^-16 bit (R227). -/
def Run.perPicture (r : Run s₀) (n : Nat) : Nat := quotient16 (r.rd (ENC_RATE_BR n) * r.rd (ENC_FPS_DEN n)) (r.rd (ENC_FPS_NUM n))

/-- F_0 in units of 2^-16 bit (R227). -/
def Run.initFull (r : Run s₀) (n : Nat) : Nat := quotient16 (r.rd (ENC_RATE_BR n) * r.rd (ENC_INIT_DELAY_DELAY n)) 90000

/-- What H.265 Tables A.8 and A.9 say of a level (PRESUMED, assumption 53): general_level_idc, MaxLumaPs, MaxLumaSr, and MaxCPB and
MaxBR of the Main and the High tier, 0 where the tier does not exist. -/
structure Level where
  idc : Nat
  maxPs : Nat
  maxSr : Nat
  cpbMain : Nat
  cpbHigh : Nat
  brMain : Nat
  brHigh : Nat

/-- The levels of H.265, lowest first. -/
def levels : List Level :=
  [⟨30, 36864, 552960, 350, 0, 128, 0⟩, ⟨60, 122880, 3686400, 1500, 0, 1500, 0⟩, ⟨63, 245760, 7372800, 3000, 0, 3000, 0⟩,
   ⟨90, 552960, 16588800, 6000, 0, 6000, 0⟩, ⟨93, 983040, 33177600, 10000, 0, 10000, 0⟩]
  ++ [⟨120, 2228224, 66846720, 12000, 30000, 12000, 30000⟩, ⟨123, 2228224, 133693440, 20000, 50000, 20000, 50000⟩,
   ⟨150, 8912896, 267386880, 25000, 100000, 25000, 100000⟩, ⟨153, 8912896, 534773760, 40000, 160000, 40000, 160000⟩,
   ⟨156, 8912896, 1069547520, 60000, 240000, 60000, 240000⟩]
  ++ [⟨180, 35651584, 1069547520, 60000, 240000, 60000, 240000⟩, ⟨183, 35651584, 2139095040, 120000, 480000, 120000, 480000⟩,
   ⟨186, 35651584, 4278190080, 240000, 800000, 240000, 800000⟩]

/-- A level holds a stream: the coded size, in whole 8 x 8 coding blocks, its sample rate, and bit rate and CPB size for profile and
tier, scaled as for a NAL HRD (Table 09-1). -/
def Level.holds (l : Level) (profile tier w h num den br cpb : Nat) : Bool :=
  let w := ceilDiv w 8 * 8
  let h := ceilDiv h 8 * 8
  let factor := if profile = 2 then 1833 else 1100
  decide (w * h ≤ l.maxPs ∧ w * w ≤ 8 * l.maxPs ∧ h * h ≤ 8 * l.maxPs ∧ w * h * num ≤ l.maxSr * den
    ∧ br ≤ factor * (if tier = 1 then l.brHigh else l.brMain) ∧ cpb ≤ factor * (if tier = 1 then l.cpbHigh else l.cpbMain))

/-- The level of a stream: the set one, or the lowest that holds it (Table 09-1); none when it breaks check 5. -/
def Run.levelFor (r : Run s₀) (n : Nat) : Option Nat :=
  let (w, h) := r.encSize n
  let set := r.rd (ENC_SEQ_LEVEL n)
  (levels.find? fun l => (set == 0 || l.idc == set) && l.holds (r.rd (ENC_SEQ_PROFILE n)) (r.rd (ENC_SEQ_TIER n)) w h
    (r.rd (ENC_FPS_NUM n)) (r.rd (ENC_FPS_DEN n)) (r.rd (ENC_RATE_BR n)) (r.rd (ENC_CPB_CPB_SIZE n))).map Level.idc

/-- The first failing check of Table 09-3; 0 when all pass. -/
def Run.openCheck (r : Run s₀) (n : Nat) : Nat :=
  let num := r.rd (ENC_FPS_NUM n)
  let den := r.rd (ENC_FPS_DEN n)
  let br := r.rd (ENC_RATE_BR n)
  let cpb := r.rd (ENC_CPB_CPB_SIZE n)
  let mI := r.minBits n 0
  let refs := r.rd (ENC_GOP_NUM_REF n)
  if 2 < r.rd (ENC_SEQ_PROFILE n) ∨ (r.rd (ENC_SEQ_PROFILE n) = 2 ∨ r.rd (ENC_SEQ_TIER n) = 1) ∧ r.feature 14 = false then 1
  else if r.hasCfg 0x0901 n = false ∨ r.encOutlet n = none then 2
  else if refs = 0 ∨ r.encN n 9 1 - 2 < refs ∨ 6 < refs ∨ 2 < r.rd (ENC_GOP_GOP_TYPE n) then 3
  else if den = 0 ∨ 261120 * den < r.ctuCount n * num then 4
  else if r.levelFor n = none then 5
  else if br * den < mI * num then 6
  else if cpb * num < br * den + 64 * num ∨ cpb * 90000 < r.rd (ENC_INIT_DELAY_DELAY n) * br ∨ r.rd (ENC_INIT_DELAY_DELAY n) * br < mI * 90000 then 7
  else if r.ringSize n * 8 < 2 * (cpb + 1024) then 8
  else 0

/-- A write of COD_ENC_n_CTL.OPEN (R219); a retired encoder core ignores it (Table 15-2). -/
def Run.encOpen (r : Run s₀) (n : Nat) : Run s₀ :=
  if r.rd (ENC_STATUS_STATE n) ≠ 0 ∨ r.isCofferdam 8 n = true then r.ignored
  else
    let e := r.openCheck n
    let r := r.wr (ENC_STATUS_OPEN_ERR n) e
    if e ≠ 0 then r.ev (292 + 8 * n)
    else
      let old := r.encU n
      let pubs := match r.encOutlet n with
        | some o => (r.outU o).pubs
        | none => 0
      let r := r.encMod n fun _ => { full := r.initFull n, first := true, taken := pubs, free := List.range (r.encN n 9 1), records := old.records }
      ((r.wr (ENC_STATUS_STATE n) 1).wr (ENC_STATUS_LEVEL_USED n) ((r.levelFor n).getD 0)).ev (292 + 8 * n)

/-! ## The output ring (R230, R231) -/

/-- The 64-byte header of an access-unit record (Table 09-7). -/
def auHeader (n type flags qp poc len seq : Nat) (i : PubInfo) : List Byte :=
  le 4 0x59585250 ++ le 1 n ++ le 1 type ++ le 2 flags ++ le 4 i.fn ++ le 2 i.tag ++ le 2 0 ++ le 8 i.ts ++ le 4 i.tns ++ le 4 i.tf
    ++ le 4 poc ++ le 4 len ++ le 1 qp ++ le 19 0 ++ le 4 seq

/-- A record is written at OUT_WR in three steps, behind a WRAP header when it would not fit before the ring's end (R230). -/
def Run.auRecord (r : Run s₀) (n type flags qp poc : Nat) (i : PubInfo) (bytes : List Byte) : Run s₀ :=
  let size := r.ringSize n
  let base := r.polder (r.encN n 8 1) + r.encN n 0x10 4 * 4096
  let len := 64 + ceilDiv bytes.length 64 * 64
  let wr := r.rd (ENC_OUT_WR_WR n)
  let r := if wr + len ≤ size then r
    else
      let r := r.when (wr + 64 ≤ size) fun r => r.store? 7 (base + wr) (auHeader n 0 128 0 0 0 0 {})
      r.wr (ENC_OUT_WR_WR n) 0
  let wr := r.rd (ENC_OUT_WR_WR n)
  let k := (r.encU n).records + 1
  let h := fun seq => auHeader n type flags qp poc bytes.length seq i
  let r := ((r.store? 7 (base + wr) (h 0)).store? 7 (base + wr + 64) (padTo (len - 64) bytes)).store? 7 (base + wr) (h (recordSeq k))
  (r.encMod n fun u => { u with records := k }).wr (ENC_OUT_WR_WR n) (if wr + len = size then 0 else wr + len)

/-- The free space of the ring (R231). -/
def Run.encFree (r : Run s₀) (n : Nat) : Nat :=
  let size := r.ringSize n
  size - (r.rd (ENC_OUT_WR_WR n) + size - r.rd (ENC_OUT_RD_RD n)) % size - 64

/-- The end of a sequence: an end-of-sequence NAL unit in a record with FLAGS.LAST (R222). DESIGN CHOICE (assumption 54): the record
is left out when the ring has no room for it. -/
def Run.encEos (r : Run s₀) (n : Nat) : Run s₀ :=
  let u := r.encU n
  if u.first || r.encFree n < 128 then r
  else r.auRecord n 1 64 0 u.poc u.last [0#8, 0#8, 0#8, 1#8, 0x48#8, 0x01#8]

/-- A PROXY-FETCH of ENC_n has started and not completed (R318). -/
def Run.proxyRuns (r : Run s₀) (n : Nat) : Bool :=
  r.u.qif.cmds.any fun c => c.started && field c.entry 0 1 == 0x19 && field c.entry 0x18 1 == n

/-- A host write of COD_ENC_n_OUT_RD (R231, R318). -/
def Run.encOutRd (r : Run s₀) (n v : Nat) : Run s₀ :=
  if v % 64 ≠ 0 ∨ r.ringSize n ≤ v ∨ r.proxyRuns n = true then r.ignored else r.wr (ENC_OUT_RD_RD n) v

/-! ## Pictures (R220 to R223, R227) -/

/-- The largest k from `lo` up to `lo + fuel` with 2^(2k-1) * b^12 <= a^12: round(6 * log2(a / b)) within that range. -/
def logRound (a b : Nat) : Nat → Int → Int
  | 0, k => k
  | n + 1, k =>
    let e := 2 * (k + 1) - 1
    let ok := if 0 ≤ e then decide (2 ^ e.toNat * b ^ 12 ≤ a ^ 12) else decide (b ^ 12 ≤ a ^ 12 * 2 ^ (-e).toNat)
    if ok then logRound a b n (k + 1) else k

/-- The base QP of a picture of target T_n (R227): the first picture of each type of a sequence takes QP_INIT. -/
def Run.baseQp (r : Run s₀) (n type target : Nat) (qps : Tab (Nat × Nat)) : Nat :=
  match qps.find type with
  | none => r.rd (ENC_QP_INIT n)
  | some (q, b) => (clamp (r.rdA (ENC_QP_MIN n)) (r.rdA (ENC_QP_MAX n)) (q + logRound b target 120 (-60))).toNat

/-- T_n: the target of a picture (R227). -/
def Run.target (r : Run s₀) (n type : Nat) (full limit : Nat) : Nat :=
  let per := r.rd (ENC_RATE_BR n) * r.rd (ENC_FPS_DEN n)
  let num := r.rd (ENC_FPS_NUM n)
  let k := if type = 0 then per * r.rdA (ENC_QP_IW n) / (num * 16) else per / num
  let half : Int := (full : Int) - r.rd (ENC_CPB_CPB_SIZE n) * 32768
  (clamp (r.minBits n type) limit ((k : Int) + half / (8 * 65536))).toNat

/-- The properties that the headers of a picture state (R215, R216, Table 09-1, R223): those of the sequence, of the picture and of
its reference picture set, each reference as a POC distance. -/
def Run.encProps (r : Run s₀) (n : Nat) (p : EncPic) : List Nat :=
  let u := r.encU n
  let (w, h) := r.encSize n
  let colour := match r.encOutlet n with
    | some o => r.olN o 0x10 1 / 4 % 4
    | none => 0
  [r.rd (ENC_SEQ_PROFILE n), r.rd (ENC_SEQ_TIER n), r.rd (ENC_STATUS_LEVEL_USED n), w, h, r.rd (ENC_FPS_NUM n), r.rd (ENC_FPS_DEN n)]
    ++ (if colour = 0 then [1, 1, 1] else if colour = 1 then [9, 16, 9] else [9, 18, 9])
    ++ [r.rd (ENC_RATE_BR n), r.rd (ENC_CPB_CPB_SIZE n), r.rd (ENC_INIT_DELAY_DELAY n), r.rd (ENC_SEQ_SLICE_ROWS n), r.rd (ENC_SEQ_WPP n),
        r.rd (ENC_SEQ_HASH n), r.rd (ENC_SEQ_CBR n), r.rd (ENC_GOP_NUM_REF n)]
    ++ [p.type, b2n p.irap, b2n p.idr, b2n (u.first || p.restart), u.poc, p.qp, u.full]
    ++ u.refs.map fun x => u.poc - x.2

/-- A picture starts (R220, R222, R223, R227). -/
def Run.encBegin (r : Run s₀) (n : Nat) (rep restart : Bool) (i : PubInfo) (buf : Option Nat) (src : List Byte) : Run s₀ :=
  let r := r.boundary (44 + n)
  let u := r.encU n
  let forced := r.rdA (ENC_PIC_FORCE_IRAP n) == 1
  let period := r.rd (ENC_GOP_INTRA_PERIOD n)
  let due := u.irapDue || forced || (period != 0 && !u.first && u.since % period == 0)
  let start := u.first || restart
  let irap := !rep && (start || due)
  let idr := !rep && (start || (due && r.on (ENC_GOP_IRAP_IDR n)))
  let type := if irap then 0 else if rep then 1 else r.rd (ENC_GOP_GOP_TYPE n)
  let full := if restart then r.initFull n else u.full
  let limit := full / 65536 - 64
  let target := r.target n type full limit
  let qps := if restart then [] else u.qps
  let refs := if idr then [] else u.refs
  let free := if idr then u.free ++ (u.refs.map Prod.fst).reverse else u.free
  let p : EncPic := { type := type, irap := irap, idr := idr, repeated := rep, restart := restart, info := i, buf := buf, limit := limit,
                      target := target, qp := r.baseQp n type target qps, minCost := rep, src := src, cur := free.headD 0 }
  let r := r.when (forced && !rep) fun r => r.wrA (ENC_PIC_FORCE_IRAP n) 0
  let r := r.encMod n fun u => { u with
    pic := some p, full := full, refs := refs, free := free.drop 1, qps := qps
    irapDue := rep && due
    since := if idr || (irap && forced) then 0 else u.since
    poc := if idr then 0 else if u.first then 0 else u.poc + 1 }
  let props := r.encProps n p
  let bits := min (if type = 0 then 3584 else 512) (Config.headBits props) + min 512 (Config.sliceBits props 0)
  let r := r.encMod n fun u => { u with pic := some { p with bits := bits } }
  let r := match buf, r.encOutlet n with
    | some b, some o => r.setHeld o b true
    | _, _ => r
  (r.wr (ENC_STATUS_CODING n) 1).wr (ENC_FULLNESS_FULL n) (full / 65536)

/-- The next publication of the encoder's outlet: the oldest one not yet taken that its buffer still holds (R220). -/
def Run.nextPub (r : Run s₀) (n : Nat) : Option (Nat × Nat × PubInfo) :=
  match r.encOutlet n with
  | none => none
  | some o =>
    let u := r.outU o
    let l := (u.order.map fun b => (b, u.info.look b {})).filter fun p => (r.encU n).taken < p.2.no
    (l.foldl (fun a p => match a with
      | none => some p
      | some q => if p.2.no < q.2.no then some p else some q) none).map fun p => (o, p.1, p.2)

/-- The time of a repeat picture: the last picture's time plus FPS_DEN / FPS_NUM (Table 09-7). -/
def Run.repeatInfo (r : Run s₀) (n fn : Nat) : PubInfo :=
  let l := (r.encU n).last
  let q := (l.ts * 1000000000 + l.tns) * 2 ^ 32 + l.tf * 2 ^ 14 + secondQ * r.rd (ENC_FPS_DEN n) / r.rd (ENC_FPS_NUM n)
  { fn := fn, tag := 0, ts := timeSec q, tns := timeNs q, tf := timeFrac q }

/-- The encoder takes publication `i` of outlet `o` with the bytes of its buffer; poisoned data make it missing (R220, R397). -/
def Run.takePub (r : Run s₀) (n o b : Nat) (i : PubInfo) (f : List Byte → Run s₀ → Run s₀) : Run s₀ :=
  r.load? 7 (r.olBuffer o b) (olFrameBytes (r.olN o 0xC 2) (r.olN o 0xE 2) true) fun g r =>
    let r := r.encMod n fun u => { u with taken := i.no }
    if g.poison then r else f g.bytes r

/-- What an encoder codes next. -/
inductive NextPic where
  /-- The publication. -/
  | plain
  /-- A repeat picture for the missing frame of this number. -/
  | repeated (fn : Nat)
  /-- A restart with its cause. -/
  | restart (cause : Nat)
  deriving DecidableEq, Repr

/-- What the next publication `i` makes the encoder code (R221, R231). DESIGN CHOICE (assumption 46): a publication whose FN is exactly
2^31 from the expected one, of which R9 says nothing, is coded as if it were the expected one, as one of an earlier FN is. -/
def Run.nextPic (r : Run s₀) (n o : Nat) (i : PubInfo) : NextPic :=
  let u := r.encU n
  let div := max 1 (r.olN o 0x12 1)
  if u.stalled then .restart 2
  else match u.lastFn with
    | none => .plain
    | some f =>
      let expected := (f + div) % 2 ^ 32
      if laterThan 32 i.fn expected then (if 8 * div ≤ subMod 32 i.fn expected then .restart 1 else .repeated expected) else .plain

/-- The ring lacks room at the start of such a picture: less than B_n / 8 + 128 bytes (R231), and 128 more for the record that ends
the sequence before a restart for missing frames. -/
def Run.ringShort (r : Run s₀) (n : Nat) (k : NextPic) : Bool :=
  let u := r.encU n
  let full := match k with
    | .restart _ => r.initFull n
    | _ => u.full
  decide (8 * r.encFree n < full / 65536 - 64 + 1024 + (if k = .restart 1 ∧ u.first = false then 1024 else 0))

/-- A restart: counted, signalled, and the publication coded as an IDR of a new sequence (R221, R231). -/
def Run.encRestart (r : Run s₀) (n cause : Nat) (i : PubInfo) (b : Nat) (src : List Byte) : Run s₀ :=
  let r := (r.wr (ENC_STATUS_RESTART_CAUSE n) cause).sat (ENC_COUNT_RESTARTS n)
  ((r.ev (291 + 8 * n)).encMod n fun u => { u with stalled := false }).encBegin n false true i (some b) src

/-- PICTURE_START: the encoder takes the next publication, codes a repeat picture for a missing frame, at minimum cost from the first
CTU on, restarts, or finds the ring full (R220, R221, R228, R231). -/
def Run.pictureStart (r : Run s₀) (n : Nat) : Run s₀ :=
  if r.rd (ENC_STATUS_STATE n) ≠ 1 ∨ (r.encU n).pic.isSome ∨ r.isResetting 8 n = true ∨ r.duty 2 = false then r
  else
    match r.nextPub n with
    | none => r
    | some (o, b, i) =>
      let k := r.nextPic n o i
      if r.ringShort n k then r.encMod n fun u => { u with stalled := true, taken := i.no }
      else match k with
        | .plain => r.takePub n o b i fun src r => r.encBegin n false false i (some b) src
        | .restart cause => r.takePub n o b i fun src r => (r.when (cause == 1) fun r => r.encEos n).encRestart n cause i b src
        | .repeated fn =>
          let r := ((r.sat (ENC_COUNT_REPEATS n)).ev (290 + 8 * n)).sat (ENC_COUNT_MINCOST n)
          (r.ev (289 + 8 * n)).encBegin n true false (r.repeatInfo n fn) none []

/-! ## CTUs (R226, R228) -/

/-- d_(r+1) of R226 from S_r, T, the row and the number of rows. -/
def rowStep (s t row rows : Nat) : Int :=
  if t = 0 ∨ rows = 0 then 0
  else clamp (-6) 6 ((16 * ((s : Int) * rows - t * (row + 1)) + t * rows) / (2 * t * rows : Nat))

/-- The QP of a quantisation group at 16-sample column gx and row gy of CTU row QP q_r (R226). -/
def Run.groupQp (r : Run s₀) (n gx gy : Nat) (qr : Int) : Int :=
  match (List.range 16).find? fun k => r.rdA (ENC_ROI_EN n k) == 1 && r.rdA (ENC_ROI_X0 n k) ≤ gx && gx ≤ r.rdA (ENC_ROI_X1 n k)
      && r.rdA (ENC_ROI_Y0 n k) ≤ gy && gy ≤ r.rdA (ENC_ROI_Y1 n k) with
  | some k => clamp 0 51 (qr + r.rdAS (ENC_ROI_OFFSET n k))
  | none => qr

/-- q_r of CTU row `row` (R226): d_r of the rows begun stand newest first. -/
def Run.rowQp (r : Run s₀) (n : Nat) (p : EncPic) (row : Nat) : Int :=
  clamp (r.rdA (ENC_QP_MIN n)) (r.rdA (ENC_QP_MAX n)) (p.qp + p.rows.reverse.getD row 0)

/-- The QP of the quantisation group at column gx and row gy of 16 x 16 groups (R226). -/
def Run.picQp (r : Run s₀) (n : Nat) (p : EncPic) (gx gy : Nat) : Int := r.groupQp n gx gy (r.rowQp n p (gy / 4))

/-- The number of slices begun once CTU c is reached. -/
def Run.slicesBegun (r : Run s₀) (n c : Nat) : Nat :=
  let k := r.rd (ENC_SEQ_SLICE_ROWS n)
  if k = 0 then 1 else c / (r.ctus n).1 / k + 1

/-- m_ctu of R228. -/
def ctuCost (type : Nat) : Nat := if type = 0 then 48 else 16

/-- FB(c + 1): the freeboard after CTU c (R228). -/
def Run.freeboard (r : Run s₀) (n type c : Nat) : Nat :=
  (r.ctuCount n - c - 1) * ctuCost type + (if type = 0 then 128 else 0) + 512 * (r.slices n - r.slicesBegun n c) + 8

/-- The bits of the slice header that a picture adds when its next CTU begins a slice (R227). -/
def Run.headerAt (r : Run s₀) (n : Nat) (p : EncPic) (c : Nat) : Nat :=
  let k := r.slicesBegun n c
  if c < r.ctuCount n ∧ r.slicesBegun n (c - 1) < k then min 512 (Config.sliceBits (r.encProps n p) (k - 1)) else 0

/-- The outlet buffer of a picture is no longer held (R220). -/
def Run.encRelease (r : Run s₀) (n : Nat) (p : EncPic) : Run s₀ :=
  match p.buf, r.encOutlet n with
  | some k, some o => r.setHeld o k false
  | _, _ => r

/-- A staged CTU of `beta` measured bits is committed with the `coded` bits it adds, no more than `beta`, or the picture falls back to
minimum cost (R228). The last CTU's commit ends the hold of the outlet buffer (R220). -/
def Run.ctuCoded (r : Run s₀) (n beta coded : Nat) : Run s₀ :=
  match (r.encU n).pic with
  | none => r
  | some p =>
    if p.minCost || r.ctuCount n ≤ p.ctu then r
    else if p.bits + beta + r.freeboard n p.type p.ctu ≤ p.limit then
      let cols := (r.ctus n).1
      let c := p.ctu + 1
      let sum := p.bits + min coded beta
      let rows := if c % cols = 0 then rowStep sum p.target (c / cols - 1) (r.ctus n).2 :: p.rows else p.rows
      let r := r.encMod n fun u => { u with pic := some { p with bits := sum + r.headerAt n p c, ctu := c, rows := rows } }
      r.when (c == r.ctuCount n) fun r => r.encRelease n p
    else
      let r := r.encMod n fun u => { u with pic := some { p with minCost := true } }
      (r.sat (ENC_COUNT_MINCOST n)).ev (289 + 8 * n)

/-! ## The reference pool (R218, R223, R224) -/

/-- The bytes of a reference buffer of a w x h picture (R218). -/
def poolBytes (w h : Nat) : Nat := 4096 * ceilDiv (73 * w * h) 65536

/-- The address of reference buffer k of an encoder (Table 09-2). -/
def Run.poolBuffer (r : Run s₀) (n k : Nat) : Nat :=
  r.polder (r.encN n 8 1) + r.encN n 0xC 4 * 4096 + k * poolBytes (r.encSize n).1 (r.encSize n).2

/-- A sample of a reference buffer: planes of 16-bit samples, one after another (assumption 54). -/
def poolSample (w h : Nat) (bs : List Byte) (c x y : Nat) : Nat :=
  let cw := ceilDiv w 2
  if c = 0 then field bs (2 * (y * w + x)) 2 else field bs (2 * (w * h + (c - 1) * cw * h + y * cw + x)) 2

/-- Where the motion field of a reference buffer starts. -/
def fieldAt (w h : Nat) : Nat := 2 * (w * h + 2 * (ceilDiv w 2 * h) + ceilDiv w 2 * ceilDiv h 2)

/-- The vector of block k of a reference buffer's motion field with the POC it refers to, when there is one. -/
def poolVec (w h : Nat) (bs : List Byte) (k : Nat) : Option (Vec × Nat) :=
  let e := (bs.drop (fieldAt w h + 16 * k)).take 16
  if field e 8 1 = 0 then none else some (⟨signed 16 (field e 0 2), signed 16 (field e 2 2)⟩, field e 4 4)

/-- The bytes of a reference buffer: samples, half-resolution luma, and the motion field of the vectors found against `poc`. -/
def poolImage (w h : Nat) (s : Nat → Nat → Nat → Nat) (vecs : List Vec) (poc : Nat) : List Byte :=
  let plane := fun c pw ph => (List.range ph).flatMap fun y => (List.range pw).flatMap fun x => le 2 (s c x y)
  let half := (List.range (ceilDiv h 2)).flatMap fun y => (List.range (ceilDiv w 2)).flatMap fun x => le 2 (halfRes w h (s 0) x y)
  let motion := vecs.flatMap fun v => le 2 (unsigned 16 v.x) ++ le 2 (unsigned 16 v.y) ++ le 4 poc ++ le 8 1
  padTo (poolBytes w h) (plane 0 w h ++ plane 1 (ceilDiv w 2) h ++ plane 2 (ceilDiv w 2) h ++ half ++ motion)

/-- The encoder reads reference buffers; whether one was poisoned, and POC and bytes of each. -/
def Run.loadRefs (r : Run s₀) (n : Nat) (l : List (Nat × Nat)) (f : Bool → List (Nat × List Byte) → Run s₀ → Run s₀) : Run s₀ :=
  match l with
  | [] => f false [] r
  | (k, poc) :: l =>
    r.load? 7 (r.poolBuffer n k) (poolBytes (r.encSize n).1 (r.encSize n).2) fun g r =>
      r.loadRefs n l fun bad refs r => f (g.poison || bad) ((poc, g.bytes) :: refs) r

/-! ## Coding (R215, R217, R224, R225) -/

/-- The search of a P or B picture against refIdx 0 (R224). -/
def Run.searchOf (r : Run s₀) (n : Nat) (p : EncPic) (src : Nat → Nat → Nat → Nat) (poc0 : Nat) (ref0 : List Byte) : Search :=
  let (w, h) := r.encSize n
  let cols := ceilDiv w 16
  let vecs := (List.range (cols * ceilDiv h 16)).map fun k => poolVec w h ref0 k
  let poc := (r.encU n).poc
  let all := (vecs.filterMap id).map Prod.fst
  { w := w, h := h, depth := if r.rd (ENC_SEQ_PROFILE n) = 0 then 8 else 10, cur := src 0, ref := poolSample w h ref0 0
    lambda := fun i j => Config.lambdaMe (r.picQp n p i j).toNat
    col := fun i j => ((vecs.getD (j * cols + i) none).map fun v => scaleVec ((poc : Int) - poc0) ((poc0 : Int) - v.2) v.1)
    global :=
      if r.rdA (ENC_GMV_SRC n) = 0 then ⟨signed 12 (r.rdA (ENC_GMV_X n)), signed 12 (r.rdA (ENC_GMV_Y n))⟩
      else ⟨median (all.map Vec.x), median (all.map Vec.y)⟩ }

/-- The final vectors of a picture; none of an I picture or a repeat picture (R224). -/
def Run.vecsOf (r : Run s₀) (n : Nat) (p : EncPic) (src : Nat → Nat → Nat → Nat) (refs : List (Nat × List Byte)) : List Vec :=
  match refs with
  | [] => []
  | (poc0, ref0) :: _ => if p.repeated then [] else (r.searchOf n p src poc0 ref0).all

/-- What firmware and core decide for a picture, given its references, refIdx 0 first (R215, R217, R224 to R226). -/
def Run.codingOf (r : Run s₀) (n : Nat) (p : EncPic) (refs : List (Nat × List Byte)) : Config.Coding :=
  let (w, h) := r.encSize n
  let src := converted (r.rd (ENC_SEQ_PROFILE n)) h (plane422 p.src w h)
  let c : Config.Coding := { props := r.encProps n p, src := src, refs := refs.map fun x => poolSample w h x.2
                             vecs := (r.vecsOf n p src refs).map fun v => (v.x, v.y), qp := r.picQp n p, modes := fun _ _ => [], first := p.ctu }
  let d : Decide := { w := w, h := h, inter := p.type != 0, src := src, trial := Config.trial c
                      lambda := fun x y => Config.lambdaMode (r.picQp n p (x / 16) (y / 16)).toNat }
  { c with modes := d.ctu }

/-! ## Completion (R223, R227, R229, R230) -/

/-- Filler bytes for a coded size under CBR (R229). -/
def fillerBytes (full bits per cpb : Nat) : Nat :=
  let excess : Int := (full : Int) - bits * 65536 + per - cpb * 65536
  if excess ≤ 0 then 0 else max 3 (ceilDiv excess.toNat (8 * 65536))

/-- Filler data NAL units of `k` bytes in all, each of at most 65,536 (R229). DESIGN CHOICE (assumption 54): a unit counts with its
start code, and a filler too short for one is zero bytes. -/
def fillerUnits : Nat → Nat → List Byte
  | 0, _ => []
  | fuel + 1, k =>
    let one := if k ≤ 65536 then k else if k - 65536 < 6 then 65530 else 65536
    if k = 0 then []
    else if one < 6 then List.replicate one 0#8
    else [0#8, 0#8, 1#8, 0x4C#8, 0x01#8] ++ List.replicate (one - 6) 0xFF#8 ++ [0x80#8] ++ fillerUnits fuel (k - one)

/-- The buffer marks after a picture (R223). -/
def afterPicture (u : EncU) (cur numRef : Nat) : EncU :=
  let refs := (cur, u.poc) :: u.refs
  if numRef < refs.length then { u with refs := refs.dropLast, free := u.free ++ (refs.getLast?.map Prod.fst).toList } else { u with refs := refs }

/-- A sequence closes once no picture is in progress (R222). -/
def Run.encClosed (r : Run s₀) (n : Nat) : Run s₀ :=
  let r := (r.encEos n).wr (ENC_STATUS_STATE n) 0
  r.encMod n fun u => { u with pic := none }

/-- A picture is discarded: its buffers are free again, and its frame is a missing one (R221, R395, R397). -/
def Run.encDiscard (r : Run s₀) (n : Nat) (p : EncPic) : Run s₀ :=
  let r := (r.encRelease n p).encMod n fun u => { u with pic := none, free := u.free ++ [p.cur] }
  let r := r.wr (ENC_STATUS_CODING n) 0
  r.when (r.rd (ENC_STATUS_STATE n) == 2) fun r => r.encClosed n

/-- The size in bytes of a picture before filler: no less than the bits committed, and no more than what minimum cost may add to them
(R228). -/
def Run.codedSize (r : Run s₀) (n : Nat) (p : EncPic) (size : Nat) : Nat :=
  let rest := if p.minCost then ctuCost p.type + r.freeboard n p.type p.ctu else 8
  min (max (ceilDiv p.bits 8) (min size ((p.bits + rest) / 8))) (p.limit / 8)

/-- A coded picture is written as a record, its reconstruction and motion field into its reference buffer, and the buffer model
advances (R223, R224, R227, R229, R230). -/
def Run.encWrite (r : Run s₀) (n : Nat) (p : EncPic) (size : Nat) (refs : List (Nat × List Byte)) : Run s₀ :=
  let u := r.encU n
  let (w, h) := r.encSize n
  let per := r.perPicture n
  let cpb := r.rd (ENC_CPB_CPB_SIZE n)
  let fill := if r.on (ENC_SEQ_CBR n) then fillerBytes u.full (8 * size) per cpb else 0
  let b := 8 * (size + fill)
  let next := u.full - b * 65536 + per
  let next := if r.on (ENC_SEQ_CBR n) then next else min next (cpb * 65536)
  let fl := b2n p.irap + 2 * b2n p.idr + 4 * b2n p.repeated + 8 * b2n p.minCost + 16 * b2n (fill != 0) + 32 * b2n (u.first || p.restart)
  let c := r.codingOf n p refs
  let image := poolImage w h (Config.recon c) (c.vecs.map fun v => ⟨v.1, v.2⟩) ((refs.head?.map Prod.fst).getD 0)
  let r := r.store? 7 (r.poolBuffer n p.cur) image
  let r := r.auRecord n p.type fl p.qp u.poc p.info (padTo size (Config.accessUnit c size) ++ fillerUnits (fill / 65530 + 2) fill)
  let r := r.encRelease n p
  let r := r.encMod n fun u =>
    let u := afterPicture u p.cur (r.rd (ENC_GOP_NUM_REF n))
    { u with pic := none, full := next, first := false, since := u.since + 1, lastFn := some p.info.fn, last := p.info,
             qps := u.qps.put p.type (p.qp, b) }
  let r := r.wr (ENC_STATUS_CODING n) 0
  if r.rd (ENC_STATUS_STATE n) = 2 then r.encClosed n else r

/-- PICTURE_DONE: every CTU is committed or at minimum cost (R227 to R230). A poisoned reference discards the picture (R397). -/
def Run.pictureDone (r : Run s₀) (n size : Nat) : Run s₀ :=
  match (r.encU n).pic with
  | none => r
  | some p =>
    if !p.minCost && p.ctu < r.ctuCount n then r
    else
      let size := r.codedSize n p size
      r.loadRefs n (if p.type = 0 then [] else (r.encU n).refs) fun bad refs r => if bad then r.encDiscard n p else r.encWrite n p size refs

/-- A write of COD_ENC_n_CTL.CLOSE (R222). -/
def Run.encClose (r : Run s₀) (n : Nat) : Run s₀ :=
  if r.rd (ENC_STATUS_STATE n) = 0 then r
  else if (r.encU n).pic.isSome then r.wr (ENC_STATUS_STATE n) 2
  else r.encClosed n

/-- A picture is discarded: an internal fault, or its core's retirement, which also ends the sequence (R395, Table 15-2). -/
def Run.encFault (r : Run s₀) (n : Nat) : Run s₀ :=
  if r.isCofferdam 8 n || r.isResetting 8 n then r
  else
    let (permanent, r) := r.internalFault 8 n
    let r := match (r.encU n).pic with
      | none => r
      | some p => r.encDiscard n p
    r.when (permanent && r.rd (ENC_STATUS_STATE n) != 0) fun r => r.encClosed n

/-! ## Decoder (R233 to R236) -/

/-- Change the decoder. -/
def Run.decMod (r : Run s₀) (f : DecU → DecU) : Run s₀ := r.mod fun u => { u with dec := f u.dec }

/-- `k` bytes at an offset of the DEC record (Table 09-8). -/
def Run.decN (r : Run s₀) (off k : Nat) : Nat := r.cfgN 0x0902 0 off k

/-- The size of the decoder's input ring in bytes. -/
def Run.decRing (r : Run s₀) : Nat := r.decN 0x14 4 * 4096

/-- The bytes of an output buffer (R236). -/
def decBufBytes : Nat := 73728 * 1024

/-- The address of output buffer k. -/
def Run.decBuffer (r : Run s₀) (k : Nat) : Nat := r.polder (r.decN 8 1) + r.decN 0x18 4 * 4096 + k * decBufBytes

/-- An output buffer is held: a graphics layer's active ADDR points into it, whether or not the layer is enabled (R236). -/
def Run.decHeld (r : Run s₀) (k : Nat) : Bool :=
  (List.range 4).any fun n => r.hasCfg 0x0801 n && (List.range 6).any fun g =>
    let a := r.polder (r.cmpN n 0xD 1) + r.rdA (CMP_L_ADDR_ADDR n (g + 2))
    r.decBuffer k ≤ a && a < r.decBuffer k + decBufBytes

/-- The next output buffer that is not held (R236). -/
def Run.decNext (r : Run s₀) : Option Nat :=
  let n := r.decN 0xA 1
  ((List.range n).map fun k => (r.u.dec.nextOut + k) % n).find? fun k => !r.decHeld k

/-- DEC_0 starts its next picture, the boundary of unit DEC_0, once it has bytes and a buffer for it (R236, Table 05-6). -/
def Run.decBegin (r : Run s₀) : Run s₀ :=
  if r.on DEC_STATUS_RUNNING && !r.u.dec.begun && r.rd DEC_IN_RD_RD != r.rd DEC_IN_WR_WR && r.decNext.isSome then
    (r.decMod fun u => { u with begun := true }).boundary 46
  else r

/-- A write of COD_DEC_CTL.START (R234); a retired decoder core ignores it (Table 15-2). -/
def Run.decStart (r : Run s₀) : Run s₀ :=
  if r.recording || r.isCofferdam 9 0 || !r.hasCfg 0x0902 0 then r.ignored
  else if r.on DEC_STATUS_RUNNING then r
  else ((r.decMod fun u => { nextOut := u.nextOut }).wr DEC_STATUS_RUNNING 1).decBegin

/-- DEC_0 stops with a cause (R234). -/
def Run.decStopped (r : Run s₀) (cause : Nat) : Run s₀ :=
  (((r.wr DEC_STATUS_RUNNING 0).wr DEC_STATUS_STOP_CAUSE cause).decMod fun u => { u with stop := none, begun := false }).ev 307

/-- DEC_0 stops after the picture in progress: input it has not used is a picture in progress (R234). -/
def Run.decStopAfter (r : Run s₀) (cause : Nat) : Run s₀ :=
  if !r.on DEC_STATUS_RUNNING then r
  else if r.rd DEC_IN_RD_RD = r.rd DEC_IN_WR_WR then r.decStopped cause
  else r.decMod fun u => { u with stop := some (u.stop.getD cause) }

/-- A write of COD_DEC_IN_WR (R233). -/
def Run.decInWr (r : Run s₀) (v : Nat) : Run s₀ :=
  if r.decRing ≤ v then r.ignored else ((r.wr DEC_IN_WR_WR v).decMod fun u => { u with starved := false }).decBegin

/-- Why DEC_0 does not activate an SPS (R233): 1 profile, 2 size or rate, 3 DPB; 0 when it does. -/
def Run.spsBad (r : Run s₀) (s : Sps) : Nat :=
  if 2 < s.profile then 1 else if 4096 < s.w ∨ 2304 < s.h ∨ 1061683200 < s.rate then 2 else if r.decN 9 1 < s.dpb then 3 else 0

/-- The 4:2:2 planes of a picture. -/
def keptPlanes (w h : Nat) (s : Nat → Nat → Nat → Nat) : List Byte :=
  ([(0, w), (1, ceilDiv w 2), (2, ceilDiv w 2)] : List (Nat × Nat)).flatMap fun p =>
    (List.range h).flatMap fun y => (List.range p.2).flatMap fun x => le 2 (s p.1 x y)

/-- The CTU that holds a sample of the 4:2:2 grid. -/
def ctuOf (s : Sps) (c x y : Nat) : Nat :=
  let size := 2 ^ s.ctb
  y / size * ceilDiv s.w size + (if c = 0 then x else 2 * x) / size

/-- A 10-bit sample of the decoded picture on the 4:2:2 grid (R236). -/
def gridSample (s : Sps) (v : Nat → Nat → Nat → Nat) (c x y : Nat) : Nat :=
  let v := v c x (if c ≠ 0 ∧ s.chroma = 1 then y / 2 else y)
  if s.depth8 then v % 256 * 4 + v % 256 / 64 else v % 1024

/-- The samples of a picture (R235, R236): the CTUs of slice segments that fail to parse come from the most recent decoded picture. -/
def decPicture (u : DecU) (s : Sps) (missing lost : List Nat) (c x y : Nat) : Nat :=
  if u.any && lost.contains (ctuOf s c x y) && (if c = 0 then x else 2 * x) < u.lastW && y < u.lastH then poolSample u.lastW u.lastH u.last c x y
  else gridSample s (Config.decodedSample u.hist missing u.last) c x y

/-- The bytes of a decoded picture in the active OUT_FMT (R236). -/
def decImage (fmt w h : Nat) (s : Nat → Nat → Nat → Nat) : List Byte :=
  if fmt = 0 then
    ((List.range h).flatMap fun y => planeRow w fun x => s 0 x y)
      ++ (List.range h).flatMap fun y => planeRow w fun x => s (x % 2 + 1) (x / 2) y
  else
    let code := fun v => v * 4 + v / 256
    let ch := fun c x y =>
      let at_ := fun e => code (s c e y)
      if x % 2 = 0 then at_ (x / 2) else if x + 1 < w then (at_ (x / 2) + at_ (x / 2 + 1) + 1) / 2 else at_ (x / 2)
    (List.range h).flatMap fun y => (List.range w).flatMap fun x =>
      le 2 (code (s 0 x y)) ++ le 2 (ch 1 x y) ++ le 2 (ch 2 x y) ++ le 2 1023

/-- The input bytes of an access unit leave the ring. -/
def Run.decTake (r : Run s₀) (n : Nat) (f : Got → Run s₀ → Run s₀) : Run s₀ :=
  let size := max 1 r.decRing
  let rd := r.rd DEC_IN_RD_RD
  let base := r.polder (r.decN 8 1) + r.decN 0x10 4 * 4096
  let n1 := min n (size - rd)
  r.load? 8 (base + rd) n1 fun g r =>
    let done := fun (g : Got) (r : Run s₀) =>
      f g ((r.wr DEC_IN_RD_RD ((rd + n) % size)).decMod fun u => { u with hist := u.hist ++ g.bytes })
    if n1 = n then done g r
    else r.load? 8 base (n - n1) fun g' r => done ⟨g.ok && g'.ok, g.poison || g'.poison, g.bytes ++ g'.bytes⟩ r

/-- DEC_0 is done with an access unit: it stops when a stop is due, else the next picture starts (R234, R236). -/
def Run.decFinish (r : Run s₀) : Run s₀ :=
  match r.u.dec.stop with
  | some c => r.decStopped c
  | none => (r.decMod fun u => { u with begun := false }).decBegin

/-- The picture of an access unit is written to output buffer k (R235, R236). -/
def Run.decWrite (r : Run s₀) (k : Nat) (s : Sps) (irap : Bool) (poc : Nat) (missing lost : List Nat) (bad : Bool) : Run s₀ :=
  let r := r.when irap fun r => (r.wr DEC_STATUS_CONCEALING 0).decMod fun u => { u with deaf := false, sps := some s }
  let was := r.on DEC_STATUS_CONCEALING
  let conceal := !missing.isEmpty || !lost.isEmpty || bad
  let r := r.sat DEC_COUNT_CONCEAL missing.length
  let r := r.when conceal fun r => r.wr DEC_STATUS_CONCEALING 1
  let r := r.when (conceal && !was) fun r => r.ev 305
  let v := decPicture r.u.dec s missing lost
  let r := r.store? 8 (r.decBuffer k) (decImage (r.rdA DEC_OUT_CTL_OUT_FMT) s.w s.h v)
  let r := r.decMod fun u => { u with any := true, nextOut := k + 1, last := keptPlanes s.w s.h v, lastW := s.w, lastH := s.h }
  ((r.wr DEC_OUT_IDX k).wr DEC_OUT_POC_LOW poc).wr DEC_OUT_CONCEALED (r.rd DEC_STATUS_CONCEALING)

/-- DEC_0 finishes what it finds in the next n input bytes (R233, R235, R236); `faulted` when its core failed on it (R395). -/
def Run.decoded (r : Run s₀) (n : Nat) (p : DecPic) (faulted : Bool) : Run s₀ :=
  let size := max 1 r.decRing
  let avail := (r.rd DEC_IN_WR_WR + size - r.rd DEC_IN_RD_RD) % size
  if !r.on DEC_STATUS_RUNNING || avail < n || r.isResetting 9 0 then r
  else
    let start := fun (r : Run s₀) => r.when (!r.u.dec.begun) fun r => (r.decMod fun u => { u with begun := true }).boundary 46
    match p with
    | .rasl => ((start r).decTake n fun _ r => r).decFinish
    | .picture sps poc missing lost =>
      match sps.or r.u.dec.sps with
      | none => ((start r).decTake n fun _ r => r.sat DEC_COUNT_SKIPPED).decFinish
      | some s =>
        if sps.isNone && (r.u.dec.deaf || !r.u.dec.any) then
          ((start r).decTake n fun _ r => r.when (!r.u.dec.any) fun r => r.sat DEC_COUNT_SKIPPED).decFinish
        else if sps.isSome && r.spsBad s ≠ 0 then
          ((start r).decTake n fun _ r => ((r.wr DEC_STATUS_ERR_CAUSE (r.spsBad s)).decMod fun u => { u with deaf := true }).ev 306).decFinish
        else match r.decNext with
          | none => r
          | some k => ((start r).decTake n fun g r => r.decWrite k s sps.isSome poc missing lost (g.poison || faulted)).decFinish

/-! ## Commands -/

/-- A write of COD_ENC_n_CTL.OPEN. -/
def execEncOpen (n : Fin 2) (s : State) : Host.Outcome State Fault Refusal := done s fun r => r.encOpen n

/-- A write of COD_ENC_n_CTL.CLOSE. -/
def execClose (n : Fin 2) (s : State) : Host.Outcome State Fault Refusal := done s fun r => r.encClose n

/-- A picture starts. -/
def execPictureStart (n : Fin 2) (s : State) : Host.Outcome State Fault Refusal := done s fun r => r.pictureStart n

/-- A staged CTU is judged. -/
def execCtuCoded (n : Fin 2) (beta coded : Nat) (s : State) : Host.Outcome State Fault Refusal := done s fun r => r.ctuCoded n beta coded

/-- A coded picture is written. -/
def execPictureDone (n : Fin 2) (size : Nat) (s : State) : Host.Outcome State Fault Refusal := done s fun r => r.pictureDone n size

/-- A host write of COD_ENC_n_OUT_RD. -/
def execOutRd (n : Fin 2) (v : Nat) (s : State) : Host.Outcome State Fault Refusal := done s fun r => r.encOutRd n v

/-- A write of COD_DEC_CTL.START. -/
def execDecStart (s : State) : Host.Outcome State Fault Refusal := done s Run.decStart

/-- A write of COD_DEC_CTL.STOP. -/
def execDecStop (s : State) : Host.Outcome State Fault Refusal := done s fun r => r.decStopAfter 0

/-- A write of COD_DEC_IN_WR. -/
def execDecInWr (v : Nat) (s : State) : Host.Outcome State Fault Refusal := done s fun r => r.decInWr v

/-- No write of DEC_IN_WR for IN_TIMEOUT ms while DEC_0 waits (R234). -/
def execDecStarved (s : State) : Host.Outcome State Fault Refusal :=
  done s fun r => r.when (r.on DEC_STATUS_RUNNING && !r.u.dec.starved) fun r => (r.decMod fun u => { u with starved := true }).ev 308

/-- DEC_0 finishes a picture. -/
def execDecodedPicture (n : Nat) (p : DecPic) (s : State) : Host.Outcome State Fault Refusal := done s fun r => r.decoded n p false

end Sys2Proof.Machine
end

