-- ==== Sys2Proof/Machine/Slots.lean ====
section
/-!
DEFINITION. Frames in the recording polder: slots of whole parity rows, the place of metadata and raw samples in a slot, and
the free rows (R251, R254, R255).
-/
namespace Sys2Proof.Machine
variable {s₀ : State}

/-- SLOT_n in bytes: a whole number of parity rows (R254). -/
def slotSize (w h embMax : Nat) : Nat := ceilDiv (w * h * 9 / 4 + 8 * embMax) 3840 * 3840

/-- The base of the recording polder; 0 when the bit-stream names none. -/
def Run.recBase (r : Run s₀) : Nat :=
  match r.recPolder with
  | some p => r.polder p
  | none => 0

/-- The data rows of the recording polder: its footprint in parity rows (R250). -/
def Run.recRows (r : Run s₀) : Nat :=
  match r.recPolder with
  | some p => r.rd (MEM_POLDER_SIZE p) / 4096
  | none => 0

/-- The parity row that holds the i-th row of a slot. -/
def extRow : List (Nat × Nat) → Nat → Nat
  | [], i => i
  | (a, n) :: l, i => if i < n then a + i else extRow l (i - n)

/-- The data address of byte k of a slot. -/
def slotAddr (exts : List (Nat × Nat)) (k : Nat) : Nat := extRow exts (k / 3840) * 3840 + k % 3840

/-- The parity rows of a slot's bytes a to a + n - 1. -/
def slotRows (exts : List (Nat × Nat)) (a n : Nat) : List Nat :=
  if n = 0 then [] else (List.range ((a + n - 1) / 3840 - a / 3840 + 1)).map fun i => extRow exts (a / 3840 + i)

/-- The frame with a serial number, while it is kept. -/
def Run.frame? (r : Run s₀) (sn : Nat) : Option IFrame := r.u.frames.find? fun f => f.sn == sn

/-- Change the frame with a serial number. -/
def Run.frameMod (r : Run s₀) (sn : Nat) (g : IFrame → IFrame) : Run s₀ :=
  r.mod fun u => { u with frames := u.frames.map fun f => if f.sn = sn then g f else f }

/-- Byte k of a frame's slot, rebuilt where needed (R252). -/
def Run.slotByte (r : Run s₀) (f : IFrame) (k : Nat) : Byte := r.recByte r.recBase (slotAddr f.exts k)

/-- Bytes of a frame's slot. -/
def Run.slotBytes (r : Run s₀) (f : IFrame) (a n : Nat) : List Byte := (List.range n).map fun k => r.slotByte f (a + k)

/-- The raw samples begin behind the room for the frame's metadata; in Packed mode at a 64-byte boundary (R282). -/
def rawOffset (packed : Bool) (embMax : Nat) : Nat := if packed then ceilDiv (8 * embMax) 64 * 64 else 8 * embMax

/-- Where a frame's raw samples begin in its slot. -/
def IFrame.rawOff (f : IFrame) : Nat := rawOffset f.packed f.embMax

/-- The parity rows of a frame's whole slot. -/
def slotNeed (packed : Bool) (w h embMax : Nat) : Nat := ceilDiv (rawOffset packed embMax + w * h * 9 / 4) 3840

/-- Sample (x, y) of a frame in the polder: 18 bits of the little-endian string that R113's order forms. -/
def Run.rawSample (r : Run s₀) (f : IFrame) (x y : Nat) : Nat :=
  let b := 18 * (y * f.w + x)
  bits (ofLe (r.slotBytes f (f.rawOff + b / 8) 4)) (b % 8) 18

/-- Every parity row of a slot range can be read or rebuilt (R252). -/
def Run.slotReadable (r : Run s₀) (f : IFrame) (a n : Nat) : Bool :=
  if r.u.mem.poison.isEmpty && r.rd MEM_CFG_RETIRED == 0 then true
  else (slotRows f.exts a n).all fun row => r.rowBad r.recBase row ≤ 1

/-- The counts and events of a read of a slot range (R252). -/
def Run.slotRead (r : Run s₀) (f : IFrame) (a n : Nat) : Run s₀ :=
  r.each (slotRows f.exts a n) fun row r => r.recRead r.recBase (row * 3840) 3840

/-- Bytes written to a slot from its byte k on (R251). -/
def Run.slotStore (r : Run s₀) (f : IFrame) : Nat → List Byte → Run s₀
  | _, [] => r
  | k, b :: bs => Run.slotStore (r.recPoke r.recBase (slotAddr f.exts k) b) f (k + 1) bs

/-- A row belongs to a frame's slot. -/
def IFrame.hasRow (f : IFrame) (row : Nat) : Bool := f.exts.any fun e => e.1 ≤ row && row < e.1 + e.2

/-- The parity rows that no slot holds, as runs in rising order, for slots given as runs in rising order. -/
def gapsOf : Nat → Nat → List (Nat × Nat) → List (Nat × Nat)
  | a, n, [] => if a < n then [(a, n - a)] else []
  | a, n, e :: l => (if a < e.1 then [(a, e.1 - a)] else []) ++ gapsOf (max a (e.1 + e.2)) n l

/-- Insert a run in order of its first row. -/
def insertRun (e : Nat × Nat) : List (Nat × Nat) → List (Nat × Nat)
  | [] => [e]
  | x :: l => if e.1 ≤ x.1 then e :: x :: l else x :: insertRun e l

/-- The free runs of the recording polder. -/
def Run.freeRuns (r : Run s₀) : List (Nat × Nat) :=
  gapsOf 0 r.recRows ((r.u.frames.flatMap IFrame.exts).foldl (fun l e => insertRun e l) [])

/-- The number of rows in some runs. -/
def runRows (l : List (Nat × Nat)) : Nat := l.foldl (fun a e => a + e.2) 0

/-- The first n rows of some runs. -/
def takeRows : Nat → List (Nat × Nat) → List (Nat × Nat)
  | _, [] => []
  | n, e :: l => if n = 0 then [] else if e.2 ≤ n then e :: takeRows (n - e.2) l else [(e.1, n)]

end Sys2Proof.Machine
end

