-- ==== Sys2Proof/Machine/Pix.lean ====
section
/-!
DEFINITION. Stream contexts and colour engines: admission and the spillway (R130 to R135), turns (R127 to R129, R136, R137),
loss and engine faults (R138 to R140), the stripe store (R446), tables (R166 to R169) and statistics records (R171).
-/
namespace Sys2Proof.Machine
variable {s₀ : State}

/-! ## Access -/

/-- Change the colour engines' unit. -/
def Run.pixMod (r : Run s₀) (f : PixU → PixU) : Run s₀ := r.mod fun u => { u with pix := f u.pix }

/-- An engine. -/
def Run.ce (r : Run s₀) (n : Nat) : CeU := r.u.pix.ce.look n {}

/-- Change an engine. -/
def Run.ceMod (r : Run s₀) (n : Nat) (f : CeU → CeU) : Run s₀ := r.pixMod fun p => { p with ce := p.ce.put n (f (p.ce.look n {})) }

/-- Change an admitted frame. -/
def Run.pfMod (r : Run s₀) (sn : Nat) (g : PFrame → PFrame) : Run s₀ :=
  r.pixMod fun p => { p with frames := p.frames.map fun f => if f.sn = sn then g f else f }

/-- The admitted frame with a serial number. -/
def Run.pf? (r : Run s₀) (sn : Nat) : Option PFrame := r.u.pix.frames.find? fun f => f.sn == sn

/-- A field of a frame's parameter version. -/
def PFrame.par (f : PFrame) (x : Fld) : Nat := f.ver.look x.key x.rst

/-- The device is in Cool (Table 01-7). -/
def Run.cool (r : Run s₀) : Bool := r.rd GLB_MODE_MODE == 3

/-! ## Stripes, bands and costs (R127 to R129) -/

/-- The number of bands of a frame. -/
def PFrame.bands (f : PFrame) : Nat := ceilDiv f.h f.band

/-- Rows of band j. -/
def PFrame.bandRows (f : PFrame) (j : Nat) : Nat := min f.band (f.h - j * f.band)

/-- The row cost of a stripe: columns read / 16 (Table 05-3). -/
def PStripe.rc (s : PStripe) : Nat := s.cols / 16

/-- Rows that a stripe has completed. -/
def PFrame.rowsDone (f : PFrame) (s : PStripe) : Nat := min (s.done * f.band) f.h

/-- The stripes of a frame on the engines it uses (R127, R139). -/
def stripesOf (w split : Nat) (engines : List Nat) : List PStripe :=
  let l := engines.headD 0
  if split = 0 then [⟨l, 0, w, 0, false⟩]
  else [⟨l, 0, split + 16, 0, false⟩, ⟨engines.getLastD l, 1, w - split + 16, 0, false⟩]

/-- The stripe of a frame that runs next on an engine: left and right alternate (R128). -/
def PFrame.next (f : PFrame) (ce : Nat) : Option PStripe :=
  (f.stripes.filter fun s => s.ce == ce && s.done < f.bands).foldl (fun b s => match b with
    | none => some s
    | some x => if s.done < x.done then some s else some x) none

/-- The frame has stripes on the engine that are not complete. -/
def PFrame.onEngine (f : PFrame) (ce : Nat) : Bool := f.stripes.any fun s => s.ce == ce && s.done < f.bands

/-- The oldest frame of a context that still has work on an engine: band 0 of a later one waits for it (R128). -/
def Run.headFrame (r : Run s₀) (ctx ce : Nat) : Option PFrame := r.u.pix.frames.find? fun f => f.ctx == ctx && f.onEngine ce

/-- The next band of a context on an engine, if it is ready (R128). -/
def Run.readyBand (r : Run s₀) (ctx ce : Nat) : Option (PFrame × PStripe) :=
  match r.headFrame ctx ce with
  | none => none
  | some f =>
    match f.next ce with
    | none => none
    | some s =>
      if min (s.done * f.band + f.band + 4) f.h ≤ f.rows ∧ (!f.frameMode || (r.ce ce).queue.head? == some f.sn) = true then some (f, s) else none

/-- The cost of a band given the engine's previous turn (R129): cost, and whether the turn is a switch. -/
def Run.turnCost (r : Run s₀) (ce : Nat) (f : PFrame) (s : PStripe) : Nat × Bool :=
  let rows := f.bandRows s.done
  if (r.ce ce).prev == some (f.ctx, s.idx) then (rows * s.rc, false)
  else if s.done = 0 then (rows * s.rc + 40, true)
  else (rows * s.rc + 8 * s.rc + 40, true)

/-! ## Registers that follow the frames -/

/-- BACKLOG of an engine (R132). -/
def Run.backlog (r : Run s₀) (ce : Nat) : Nat :=
  let turn := (r.ce ce).turn
  (r.u.pix.frames.flatMap fun f => (f.stripes.filter fun s => s.ce == ce).map fun s =>
    let running := match turn with
      | some t => if t.sn = f.sn ∧ t.idx = s.idx then f.bandRows s.done - t.left else 0
      | none => 0
    (f.rows - (f.rowsDone s + running)) * s.rc).foldl (· + ·) 0

/-- Store lines a stripe-mode context holds (R446). -/
def Run.storeFill (r : Run s₀) (ctx : Nat) : Nat :=
  ((r.u.pix.frames.filter fun f => f.ctx == ctx && !f.frameMode).map fun f =>
    let d := f.stripes.foldl (fun a s => min a (f.rowsDone s)) f.h
    f.written - min f.written (d - 8)).foldl (· + ·) 0

/-- The engine may run turns: not retired, not in a reset, and not lost for good (R139, R140, R395). -/
def Run.ceUsable (r : Run s₀) (ce : Nat) : Bool :=
  !r.on (PIX_CE_STATUS_RETIRED ce) && !r.isResetting 6 ce && !r.u.pix.dead

/-- The registers of one context and of both engines follow the frames. -/
def Run.pixSync (r : Run s₀) (ctx : Nat) : Run s₀ :=
  let fs := r.u.pix.frames.filter fun f => f.ctx == ctx
  let r := r.wr (PIX_CTX_STATUS_ADMITTED ctx) (b2n !fs.isEmpty)
  let r := r.wr (PIX_CTX_STATUS_RUNNING ctx) (b2n (fs.any fun f => f.stripes.any PStripe.started))
  let r := r.wr (PIX_CTX_STATUS_QUEUED ctx) (b2n (fs.any fun f => f.frameMode))
  let fill := r.storeFill ctx
  let r := r.wr (PIX_CTX_STORE_FILL ctx) fill
  let r := r.when (r.rd (PIX_CTX_STORE_PEAK ctx) < fill) fun r => r.wr (PIX_CTX_STORE_PEAK ctx) fill
  r.each [0, 1] fun n r =>
    let r := r.wr (PIX_CE_BACKLOG n) (r.backlog n)
    let r := r.wr (PIX_CE_STATUS_FM_QUEUE n) (r.ce n).queue.length
    let r := r.wr (PIX_CE_STATUS_BUSY n) (b2n (r.ce n).turn.isSome)
    let part := (List.range 16).any fun c => r.on (PIX_CTX_CFG_INTERPRET c) && (r.on (PIX_CTX_CFG_PAIRED c) || r.rd (PIX_CTX_CFG_ENGINE c) == n)
    r.wr (PIX_CE_STATUS_GATED n) (b2n ((n == 1 && r.cool && !r.u.pix.spare && r.ceUsable 0) || !(part || (n == 1 && r.u.pix.spare))))

/-! ## Granting turns (R136) -/

/-- One pass of the deficit round robin over participants in order: the new deficits and the participant that runs. -/
def schedPass (ready : Nat → Bool) (cost weight : Nat → Nat) : List Nat → Tab Int → Tab Int × Option Nat
  | [], d => (d, none)
  | p :: l, d =>
    if ready p then
      let q : Int := ((weight p * 2048 : Nat) : Int)
      let v := min (d.look p 0 + q) (q + 529456)
      if (cost p : Int) ≤ v then (d.put p (v - cost p), some p) else schedPass ready cost weight l (d.put p v)
    else schedPass ready cost weight l (d.put p 0)

/-- The pass is repeated until a band runs; with the cap of R136 it needs fewer passes than the fuel. -/
def schedule (ready : Nat → Bool) (cost weight : Nat → Nat) (order : List Nat) : Nat → Tab Int → Tab Int × Option Nat
  | 0, d => (d, none)
  | n + 1, d =>
    match schedPass ready cost weight order d with
    | (d, some p) => (d, some p)
    | (d, none) => if order.any ready then schedule ready cost weight order n d else (d, none)

/-- The outlets that process a frame choose their buffers at its first band (R176, R177). -/
def Run.chooseBufs (r : Run s₀) (f : PFrame) : Run s₀ :=
  r.each ((r.outletsOf f.ctx).filter fun o => f.outs.contains o && r.olTakes f.par o f.fn) fun o r =>
    if r.olKind o = 3 then r.pfMod f.sn fun f => { f with bufs := f.bufs ++ [(o, none)] }
    else r.olBegin o fun b r => r.when b.isSome fun r => r.pfMod f.sn fun f => { f with bufs := f.bufs ++ [(o, b)] }

/-- An idle engine grants its next turn, if a band is ready (R136). -/
def Run.grant (r : Run s₀) (ce : Nat) : Run s₀ :=
  if (r.ce ce).turn.isSome || !r.ceUsable ce then r
  else
    let c := r.ce ce
    let parts := (List.range 16).filter fun x => r.on (PIX_CTX_CFG_INTERPRET x)
    let order := (parts.filter (c.lastServed < ·)) ++ parts.filter (· ≤ c.lastServed)
    let cost := fun p => match r.readyBand p ce with
      | some (f, s) => (r.turnCost ce f s).1
      | none => 0
    let (d, pick) := schedule (fun p => (r.readyBand p ce).isSome) cost (fun p => r.rdA (PIX_CTX_SCHED_WEIGHT p)) order 400 c.deficit
    let r := r.ceMod ce fun c => { c with deficit := d }
    match pick with
    | none => r
    | some p =>
      match r.readyBand p ce with
      | none => r
      | some (f, s) =>
        let (k, sw) := r.turnCost ce f s
        let first := !f.stripes.any PStripe.started
        let r := r.ceMod ce fun c => { c with lastServed := p, turn := some ⟨f.sn, f.ctx, s.idx, s.rc, f.bandRows s.done, k⟩ }
        let r := r.when sw fun r => r.inc (PIX_CE_SWITCHES_COUNT ce)
        let r := (r.wr (PIX_CE_STATUS_CUR_CTX ce) f.ctx).wr (PIX_CE_STATUS_CUR_STRIPE ce) s.idx
        let r := r.pfMod f.sn fun f => { f with stripes := f.stripes.map fun x => if x.idx = s.idx then { x with started := true } else x }
        let r := r.when first fun r => r.chooseBufs f
        r.pixSync f.ctx

/-- Both engines grant turns when idle. -/
def Run.grants (r : Run s₀) : Run s₀ := (r.grant 0).grant 1

/-! ## Loss (R134, R135, R138) -/

/-- A frame leaves the engines; its outlets discard it (R138). -/
def Run.pixDrop (r : Run s₀) (f : PFrame) : Run s₀ :=
  let r := r.pixMod fun p => { p with
    frames := p.frames.filter fun x => x.sn != f.sn
    ce := p.ce.map fun e => (e.1, { e.2 with queue := e.2.queue.filter (· != f.sn) }) }
  -- The buffer of a withdrawn frame is as one never published (R138, R177).
  let r := r.each f.bufs fun b r => r.when b.2.isSome fun r => r.olBusy b.1
  r.pixSync f.ctx

/-- A spillway loss on a context (R135). -/
def Run.spill (r : Run s₀) (ctx fn cause : Nat) : Run s₀ :=
  let r := (r.sat (PIX_CTX_SHED_SHED ctx)).wr (PIX_CTX_SHED_FN ctx) fn
  (r.wr (PIX_CTX_STATUS_SHED_CAUSE ctx) cause).ev (192 + 2 * ctx)

/-- An admitted frame is lost for a cause of Table 05-4. -/
def Run.pixLose (r : Run s₀) (sn cause : Nat) : Run s₀ :=
  match r.pf? sn with
  | none => r
  | some f => ((r.pixDrop f).spill f.ctx f.fn cause).grants

/-- PIX abandons a frame that ITK lost (R138). -/
def Run.pixAbandon (r : Run s₀) (sn : Nat) : Run s₀ :=
  match r.pf? sn with
  | none => r
  | some f => ((r.pixDrop f).sat (PIX_CTX_SHED_ABANDONED f.ctx)).grants

/-! ## Presentation (R130 to R133, R144, R169) -/

/-- The state of a table: 0 EMPTY, 1 LOADING, 2 VALID (R166). -/
def Run.tblState (r : Run s₀) (type k : Nat) : Nat :=
  if type = 0 then bits (r.rd (PIX_TBL_STATE 0)) (2 * k) 2 else if type = 1 then bits (r.rd (PIX_TBL_STATE 0)) (16 + 2 * k) 2
  else bits (r.rd (PIX_TBL_STATE (type - 1))) (2 * k) 2

/-- Set the state of a table. -/
def Run.setTbl (r : Run s₀) (type k v : Nat) : Run s₀ :=
  let (i, lo) := if type = 0 then (0, 2 * k) else if type = 1 then (0, 16 + 2 * k) else (type - 1, 2 * k)
  r.wr (PIX_TBL_STATE i) (putBits (r.rd (PIX_TBL_STATE i)) lo 2 v)

/-- The tables a parameter version selects, with the outlets it covers: (type, index) (R168). -/
def selected (ctx : Nat) (outs : List Nat) (par : Fld → Nat) : List (Nat × Nat) :=
  (0, par (PIX_CTX_TBL_KB ctx))
    :: (if par (PIX_CTX_TBL_DM_EN ctx) = 1 then [(1, par (PIX_CTX_TBL_DM ctx))] else [])
    ++ (if par (PIX_CTX_TBL_SHADE_EN ctx) = 1 then [(2, par (PIX_CTX_TBL_SG ctx))] else [])
    ++ (outs.filter fun o => par (PIX_OL_CLR_LUT_EN o) == 1).map fun o => (3, par (PIX_OL_CLR_LB o))

/-- The engines a context's frames use from its next presentation on; none when no engine remains (R139, R140). -/
def Run.enginesOf (r : Run s₀) (ctx : Nat) : List Nat :=
  let paired := bit (r.cfgN 0x0501 ctx 8 1) 2
  let e := r.cfgN 0x0501 ctx 9 1
  if paired && r.ceUsable 0 && r.ceUsable 1 then [0, 1]
  else
    let e := if paired then 0 else e
    if r.ceUsable e then [e] else if r.ceUsable (1 - e) then [1 - e] else []

/-- The active values that a context's version covers: its own SH fields and those of its outlets (R144). -/
def Run.versionOf (r : Run s₀) (ctx : Nat) : Tab Nat :=
  let us := ctx :: (r.outletsOf ctx).map (16 + ·)
  r.st.act.filter fun e => us.any fun u => inUnit u e.1

/-- The candidate that the spillway sheds: lowest PRIORITY, then higher context number, then the later admitted frame. A
candidate is (PRIORITY, context, admission order, serial number); none is the presented frame (R133). -/
def shedFirst (l : List (Nat × Nat × Nat × Option Nat)) : Option (Nat × Nat × Nat × Option Nat) :=
  l.foldl (fun b c => match b with
    | none => some c
    | some x =>
      if c.1 < x.1 then some c
      else if c.1 = x.1 ∧ (x.2.1 < c.2.1 ∨ x.2.1 = c.2.1 ∧ x.2.2.1 < c.2.2.1) then some c
      else some x) none

/-- The frames of a list with their positions. -/
def numbered {α : Type} : Nat → List α → List (Nat × α)
  | _, [] => []
  | n, a :: l => (n, a) :: numbered (n + 1) l

/-- The spillway's evaluation of a presentation: whether the frame is admitted (R133). -/
def Run.spillway (ctx fn prio : Nat) (engines : List Nat) : Nat → Run s₀ → Bool × Run s₀
  | 0, r => (true, r)
  | n + 1, r =>
    let full := engines.filter fun e => r.rd (PIX_CE_HORIZON_HORIZON e) < r.backlog e
    if full.isEmpty then (true, r)
    else
      let cands := (numbered 0 r.u.pix.frames).filterMap fun p =>
        let f := p.2
        if f.stripes.any PStripe.started || !f.stripes.any (fun s => full.contains s.ce) then none
        else some (f.par (PIX_CTX_SCHED_PRIORITY f.ctx), f.ctx, p.1, some f.sn)
      match shedFirst (cands ++ [(prio, ctx, r.u.pix.frames.length, none)]) with
      | some (_, _, _, some sn) =>
        match r.pf? sn with
        | some f => Run.spillway ctx fn prio engines n ((r.pixDrop f).spill f.ctx f.fn 2)
        | none => (true, r)
      | _ => (false, r.spill ctx fn 1)

/-- The frame boundary of a context and its outlets for the tide gate (R142 to R144). -/
def Run.ctxBoundary (r : Run s₀) (ctx : Nat) : Run s₀ :=
  if r.boundaryReady ctx || r.boundaryReady (64 + ctx) then
    if r.verHeld ctx 0 && r.verHeld ctx 1 then (r.deferSnaps (r.snaps ctx)).deferSnaps (r.snaps (64 + ctx))
    else ((r.nextVersion ctx).boundary ctx).boundary (64 + ctx)
  else (r.boundary ctx).boundary (64 + ctx)

/-- A frame is skipped (R130). -/
def Run.skipFrame (r : Run s₀) (ctx : Nat) : Run s₀ := r.sat (PIX_CTX_SHED_SKIPPED ctx)

/-- An FS is presented for admission (R130). `stored` says whether the frame has a slot in the recording polder. -/
def Run.present (r : Run s₀) (fr : IFrame) : Run s₀ :=
  let c := fr.ctx
  if !r.on (PIX_CTX_CFG_INTERPRET c) then r
  else
    let r := r.ctxBoundary c
    let r := r.when (r.u.pix.spare && r.ceUsable 0) fun r => (r.pixMod fun p => { p with spare := false }).pixSync c
    let fm := r.on (PIX_CTX_CFG_FRAME_MODE c)
    let es := r.enginesOf c
    let split := r.cfgN 0x0501 c 0xE 2
    let r := match es with
      | [e] => (r.wr (PIX_CTX_CFG_ENGINE c) e).wr (PIX_CTX_CFG_PAIRED c) 0
      | [_, _] => r.wr (PIX_CTX_CFG_PAIRED c) 1
      | _ => r
    if r.rdA (PIX_CTX_ENABLE_EN c) = 0 ∨ es.isEmpty then r.skipFrame c
    else if (selected c (r.outletsOf c) r.rdA).any fun t => r.tblState t.1 t.2 != 2 then r.skipFrame c
    else if fm && fr.exts.isEmpty then r.spill c fr.fn 4
    else
      let prio := r.rdA (PIX_CTX_SCHED_PRIORITY c)
      let (ok, r) := Run.spillway c fr.fn prio es (r.u.pix.frames.length + 1) r
      if ok then
        let f : PFrame := { sn := fr.sn, ctx := c, fn := fr.fn, info := ⟨fr.fn, fr.tag, fr.ts, fr.tns, fr.tf, 0⟩, w := fr.w, h := fr.h,
                            band := r.cfgN 0x0501 c 0xC 2, frameMode := fm, paired := es.length == 2,
                            verNo := r.rd (PIX_CTX_STATUS_VERSION c), ver := r.versionOf c, outs := r.outletsOf c,
                            stripes := stripesOf fr.w split es }
        let r := r.pixMod fun p => { p with frames := p.frames ++ [f] }
        let r := r.when fm fun r => r.each es fun e r => r.ceMod e fun x => { x with queue := x.queue ++ [fr.sn] }
        r.pixSync c
      else r

/-! ## Rows arriving (R128, R446) -/

/-- The rest of the turn in progress on an engine, as the sender of a command observes it; it never grows (R132). -/
def Run.turnLeft (r : Run s₀) (ce left : Nat) : Run s₀ :=
  r.when (r.ce ce).turn.isSome fun r =>
    let r := r.ceMod ce fun c => { c with turn := c.turn.map fun t => { t with left := min t.left left } }
    r.wr (PIX_CE_BACKLOG ce) (r.backlog ce)

/-- Samples of row y from column x on reach a stripe-mode frame; a line that finds the ring full loses the frame with cause 3
(R134, R446). -/
def Run.pixLine (r : Run s₀) (sn y : Nat) (samples : List Nat) (last : Bool) : Run s₀ :=
  match r.pf? sn with
  | none => r
  | some f =>
    if f.frameMode then r
    else
      let new := f.written ≤ y
      if new && r.cfgN 0x0501 f.ctx 0x10 2 ≤ r.storeFill f.ctx then r.pixLose sn 3
      else
        let r := r.pfMod sn fun f => { f with
          lines := f.lines.put y (f.lines.look y [] ++ samples)
          written := max f.written (y + 1)
          rows := if last then y + 1 else f.rows }
        (r.pixSync f.ctx).grants

/-- The rows of a frame-mode frame that whole parity rows of the polder hold (R128, R251). -/
def Run.pixRows (r : Run s₀) (sn rows : Nat) : Run s₀ :=
  match r.pf? sn with
  | none => r
  | some f =>
    if f.frameMode then ((r.pfMod sn fun f => { f with rows := max f.rows rows }).pixSync f.ctx).grants else r

/-! ## Completion -/

/-- What a frame's arithmetic depends on. -/
def Run.envOf (r : Run s₀) (f : PFrame) : Env :=
  let mos := r.cfg 0x0601 f.ctx
  let t := r.u.pix.tables
  let fr := (r.frame? f.sn).getD {}
  { ctx := f.ctx, w := f.w, h := f.h, pw := max 1 (field mos 8 1), ph := max 1 (field mos 9 1),
    code := fun s => field mos (0x10 + s / 2) 1 / 16 ^ (s % 2) % 16,
    raw := fun x y => if f.frameMode then r.rawSample fr x y else (f.lines.look y []).getD x 0,
    par := f.par,
    kb := fun k => signed 16 (tableN t 0 (f.par (PIX_CTX_TBL_KB f.ctx)) (2 * k) 2),
    sg := fun k => tableN t 2 (f.par (PIX_CTX_TBL_SG f.ctx)) (2 * k) 2,
    defect := fun x y => defectMap t (f.par (PIX_CTX_TBL_DM f.ctx)) x y }

/-- Every band of every stripe of a frame is complete: its outlets publish, and its statistics record falls due (R137, R171,
R177). -/
def Run.pixComplete (r : Run s₀) (f : PFrame) : Run s₀ :=
  let e := r.envOf f
  let tables := r.u.pix.tables
  let r := r.each f.bufs fun b r =>
    match b.2 with
    | some n => ((r.store? 4 (r.olBuffer b.1 n) (r.olImage e tables b.1)).olPublish b.1 n f.info).cmpPublished b.1
    | none => r.visionWrite e b.1 f.info
  let c := f.ctx
  let due := f.par (PIX_CTX_STATS_CTL_EN c) == 1
  let r := r.when due fun r => r.pixMod fun p => { p with stats := p.stats ++
    [{ ctx := c, base := f.par (PIX_CTX_STATS_BASE_ADDR c) / 4096 * 4096, slots := f.par (PIX_CTX_STATS_CTL_SLOTS_M1 c) + 1,
       version := f.verNo, fn := f.fn, body := e.statsBody,
       head := e.statsHeader f.verNo f.paired f.fn f.info.tag f.info.ts f.info.tns f.info.tf 0 }] }
  let r := r.wr (PIX_CTX_DONE_FN c) f.fn
  let r := r.pixMod fun p => { p with frames := p.frames.filter fun x => x.sn != f.sn }
  let r := r.each f.bufs fun b r => r.when b.2.isSome fun r => r.olBusy b.1
  r.pixSync c

/-- The slot bytes that a frame-mode band reads and no earlier band of the frame read: first byte, bytes (R252). -/
def bandBytes (f : PFrame) (fr : IFrame) (j : Nat) : Nat × Nat :=
  let y0 := if j = 0 then 0 else min (j * f.band + 4) f.h
  let y1 := min (j * f.band + f.band + 4) f.h
  (fr.rawOff + y0 * f.w * 9 / 4, (y1 - y0) * f.w * 9 / 4)

/-- A turn ends on an engine (R129, R136 to R138). -/
def Run.turnEnd (r : Run s₀) (ce : Nat) : Run s₀ :=
  match (r.ce ce).turn with
  | none => r
  | some t =>
    let r := (r.ceMod ce fun c => { c with turn := none, prev := some (t.ctx, t.idx) }).inc (PIX_CE_BUSY_CYCLES ce) t.cost
    match r.pf? t.sn with
    | none => (r.pixSync t.ctx).grants
    | some f =>
      let j := ((f.stripes.find? fun s => s.idx == t.idx).map PStripe.done).getD 0
      let fr := (r.frame? f.sn).getD {}
      let (a, n) := bandBytes f fr j
      let bad := f.frameMode && !r.slotReadable fr a n
      let r := r.when (f.frameMode && t.idx == 0) fun r => r.slotRead fr a n
      if bad then r.pixLose f.sn 4
      else
        let f := { f with stripes := f.stripes.map fun s => if s.idx = t.idx then { s with done := s.done + 1 } else s }
        let r := r.pfMod f.sn fun _ => f
        let r := r.when (!f.onEngine ce) fun r => r.ceMod ce fun c => { c with queue := c.queue.filter (· != f.sn) }
        let r := if f.stripes.all fun s => f.bands ≤ s.done then r.pixComplete f else r.pixSync f.ctx
        r.grants

/-! ## Engine faults (R139, R140) -/

/-- An engine suffers an internal fault; `spent` is the part of the turn in progress that it ran. -/
def Run.engineFault (r : Run s₀) (ce spent : Nat) : Run s₀ :=
  if !r.ceUsable ce then r
  else
    let o := 1 - ce
    let gone := r.on (PIX_CE_STATUS_RETIRED o)
    let (permanent, r) := r.internalFault 6 ce
    let r := r.when permanent fun r => r.wr (PIX_CE_STATUS_RETIRED ce) 1
    let r := r.when (ce == 0 && r.cool) fun r => r.pixMod fun p => { p with spare := true }
    let r := match (r.ce ce).turn with
      | some t => (r.ceMod ce fun c => { c with turn := none, prev := some (t.ctx, t.idx) }).inc (PIX_CE_BUSY_CYCLES ce) (min spent t.cost)
      | none => r
    let r := r.when gone fun r => (r.pixMod fun p => { p with dead := true }).each [0, 1] fun n r => r.wr (PIX_CE_STATUS_RETIRED n) 1
    let mine := r.u.pix.frames.filter fun f => f.stripes.any fun s => s.ce == ce
    let lost := mine.filter fun f => !r.ceUsable o || f.stripes.any fun s => s.ce == ce && s.started
    let r := r.each lost fun f r => ((r.pixDrop f).spill f.ctx f.fn 5)
    let moved := mine.filter fun f => !lost.any fun x => x.sn == f.sn
    let r := r.each moved fun f r =>
      let r := r.pfMod f.sn fun f => { f with paired := false, stripes := f.stripes.map fun s => { s with ce := o } }
      let r := r.when (f.frameMode && !(r.ce o).queue.contains f.sn) fun r => r.ceMod o fun c => { c with queue := c.queue ++ [f.sn] }
      r.pixSync f.ctx
    let r := r.ceMod ce fun c => { c with queue := [] }
    ((List.range 16).foldl (fun r c => if r.on (PIX_CTX_CFG_INTERPRET c) then r.pixSync c else r) r).grants

/-! ## Weave -/

/-- The weave sets the contexts and engines from their records (Tables 05-1, 05-2). -/
def Run.pixWeave (r : Run s₀) : Run s₀ :=
  let tables := r.u.pix.tables
  let load := r.u.pix.load
  let r := r.pixMod fun _ => { tables := tables, load := load }
  let r := r.each [0, 1] fun n r => r.wr (PIX_CE_HORIZON_HORIZON n) (if r.hasCfg 0x0502 n then r.cfgN 0x0502 n 8 4 else 262144)
  let r := r.each (r.cfgIdx 0x0501) fun c r =>
    let fl := r.cfgN 0x0501 c 8 1
    let r := r.wr (PIX_CTX_CFG_RECORDED c) (bits fl 0 1)
    let r := ((r.wr (PIX_CTX_CFG_FRAME_MODE c) (bits fl 1 1)).wr (PIX_CTX_CFG_PAIRED c) (bits fl 2 1)).wr (PIX_CTX_CFG_INTERPRET c) (bits fl 3 1)
    let r := (r.wr (PIX_CTX_CFG_ENGINE c) (r.cfgN 0x0501 c 9 1)).wr (PIX_CTX_CFG_BAND8 c) (r.cfgN 0x0501 c 0xC 2 / 8)
    let r := r.wr (PIX_CTX_CFG_SPLIT16 c) (r.cfgN 0x0501 c 0xE 2 / 16)
    (r.wrBoth (PIX_CTX_SCHED_PRIORITY c) (r.cfgN 0x0501 c 0xA 1)).wrBoth (PIX_CTX_SCHED_WEIGHT c) (r.cfgN 0x0501 c 0xB 1)
  (r.each (List.range 16) fun c r => (r.wr (PIX_CTX_STORE_FILL c) 0).wr (PIX_CTX_STORE_PEAK c) 0).pixSync 0

/-! ## Tables (R166 to R168) -/

/-- The image length of a table; 0 for a defect map, whose length depends on its COUNT (Table 06-7). -/
def imageLen (type : Nat) : Nat := if type = 0 then 165888 else if type = 2 then 32768 else if type = 3 then 2205192 else 0

/-- How many tables a type has. -/
def tableCount (type : Nat) : Nat := if type = 2 then 16 else if type = 3 then 12 else 8

/-- A table is in use: an admitted frame's version selects it (R168). -/
def Run.tblInUse (r : Run s₀) (type k : Nat) : Bool := r.u.pix.frames.any fun f => (selected f.ctx f.outs f.par).contains (type, k)

/-- The entries of a defect map ascend strictly, with bits 31:28 zero. -/
def defectOk (img : List Byte) : Nat → Nat → Bool
  | 0, _ => true
  | n + 1, k =>
    let v := field img (4 + 4 * k) 4
    v < 2 ^ 28 && (n == 0 || v < field img (8 + 4 * k) 4) && defectOk img n (k + 1)

/-- Check 5 of R167. -/
def tableBitsOk (type : Nat) (img : List Byte) : Bool :=
  if type = 1 then defectOk img (field img 0 4) 0
  else if type = 3 then
    ((img.drop 5766).take 2426).all (· == 0#8)
      && (List.range 274625).all fun k => field img (8192 + 8 * k) 8 &&& 0xFFFFF000F000F000 == 0
  else true

/-- A write of PIX_TBL_CTL.GO (R167). -/
def Run.tblGo (r : Run s₀) : Run s₀ :=
  if r.on PIX_TBL_CTL_BUSY then r.ignored
  else
    let ty := r.rd PIX_TBL_CTL_TYPE
    let k := r.rd PIX_TBL_CTL_INDEX
    if tableCount ty ≤ k then r.wr PIX_TBL_CTL_ERR 1
    else if r.tblInUse ty k then r.wr PIX_TBL_CTL_ERR 6
    else
      let r := r.pixMod fun p => { p with load := some (ty, k, r.rd PIX_TBL_SRC_ADDR / 8 * 8, r.rd PIX_TBL_LEN_LEN, r.rd PIX_TBL_CRC_CRC) }
      (r.setTbl ty k 1).wr PIX_TBL_CTL_BUSY 1

/-- The remaining checks of a table load and its outcome (R167). -/
def Run.tblDone (r : Run s₀) : Run s₀ :=
  match r.u.pix.load with
  | none => r
  | some (ty, k, a, n, crc) =>
    let r := r.pixMod fun p => { p with load := none }
    let fail := fun (e : Nat) (r : Run s₀) => ((r.setTbl ty k 0).wr PIX_TBL_CTL_ERR e).wr PIX_TBL_CTL_BUSY 0
    if !r.allowed 3 false a n || (r.polderOf a n).isNone then fail 3 r
    else
      r.load? 3 a n fun g r =>
        let img := g.bytes
        let want := if ty = 1 then 4 + 4 * field img 0 4 else imageLen ty
        if n ≠ want ∨ ty = 1 ∧ (n < 4 ∨ 65536 < field img 0 4) then fail 2 r
        else if g.poison = true ∨ crc32c img ≠ crc then fail 4 r
        else if !tableBitsOk ty img then fail 5 r
        else
          let r := r.pixMod fun p => { p with tables := p.tables.put (ty * 16 + k) img }
          ((r.setTbl ty k 2).wr PIX_TBL_CTL_ERR 0).wr PIX_TBL_CTL_BUSY 0

/-! ## Statistics records (R171) -/

/-- The bytes of one slot of a statistics ring. -/
def statsStride : Nat := 0x29000

/-- The oldest statistics record due on a context is written. -/
def Run.statsWrite (r : Run s₀) (ctx : Nat) : Run s₀ :=
  match r.u.pix.stats.find? fun d => d.ctx == ctx with
  | none => r
  | some d =>
    let rec dropFirst : List StatsDue → List StatsDue
      | [] => []
      | x :: l => if x.ctx = ctx then l else x :: dropFirst l
    let r := r.pixMod fun p => { p with stats := dropFirst p.stats }
    let old := r.rd (PIX_CTX_STATS_SEQ_SEQ ctx)
    let seq := if old = 0xFFFFFFFF then 1 else old + 1
    let n := r.u.pix.statN.look ctx 0
    let r := r.pixMod fun p => { p with statN := p.statN.put ctx (n + 1) }
    let a := d.base + n % d.slots * statsStride
    let ok := fun a k => r.mayWrite ((r.polderOf a k).getD 32) 3
    let r := if ok d.base 1 && ok a 164928 then
        ((r.store? 3 a d.head).store? 3 (a + 64) d.body).store? 3 a (d.head.take 60 ++ le 4 seq)
      else r.hwSet (PIX_CTX_STATS_CTL_STATS_ERR ctx) 1
    r.wr (PIX_CTX_STATS_SEQ_SEQ ctx) seq

/-! ## Commands -/

/-- A turn ends (R136). -/
def execTurnEnd (ce : Fin 2) (s : State) : Host.Outcome State Fault Refusal := done s fun r => r.turnEnd ce

/-- An internal fault in a colour engine (R139). -/
def execEngineFault (ce : Fin 2) (spent : Nat) (s : State) : Host.Outcome State Fault Refusal := done s fun r => r.engineFault ce spent

/-- A write of PIX_TBL_CTL.GO (R167). -/
def execPixTblGo (s : State) : Host.Outcome State Fault Refusal := done s fun r => r.tblGo

/-- A table load finishes (R167). -/
def execTableLoadDone (s : State) : Host.Outcome State Fault Refusal := done s fun r => r.tblDone

/-- A statistics record is written (R171). -/
def execStatsRecordWrite (ctx : Fin 16) (s : State) : Host.Outcome State Fault Refusal := done s fun r => r.statsWrite ctx

end Sys2Proof.Machine
end

