-- ==== Sys2Proof/Machine/Delta.lean ====
section
/-!
DEFINITION. An outlet delta (R58): what changes at each affected context's frame boundary, and how a delta begins and ends. A
changed OUTLET record acts as the removal of the old outlet and the addition of the new one (DEDUCED, assumption 22).
-/
namespace Sys2Proof.Machine
variable {s₀ : State}

/-- The context an OUTLET record names. -/
def outletCtx (b : Option (List Byte)) : Option Nat := b.map fun b => field b 9 1

/-- The outlets of a context, old or new, whose OUTLET record or SCALER record the delta changes. -/
def Run.deltaChanged (r : Run s₀) (ctx : Nat) : List Nat :=
  let old := r.u.glb.cfg
  let new := r.u.glb.nextCfg
  (List.range 24).filter fun o =>
    let a := findRec old 0x0701 o
    let b := findRec new 0x0701 o
    let scaler := fun (cfg : List CfgRec) (x : Option (List Byte)) => x.bind fun l => findRec cfg 0x0702 (field l 0x13 1)
    (outletCtx a == some ctx || outletCtx b == some ctx) && (a != b || scaler old a != scaler new b)

/-- The snapshots of some units are discarded (R145). -/
def Run.dropUnits (r : Run s₀) (units : List Nat) : Run s₀ :=
  r.each r.u.tide.snaps fun e r => r.setSnaps e.1 ((e.2.map fun s =>
    { s with units := s.units.filter fun u => !units.contains u, vals := s.vals.filter fun v => !units.any fun u => inUnit u v.1 }).filter
      fun s => !s.units.isEmpty)

/-- An outlet is removed: the composer layer it feeds is disabled, the encoder it feeds ends its sequence, and no frame of it
completes any more (R58, R213, R237). -/
def Run.outletEnd (r : Run s₀) (o : Nat) : Run s₀ :=
  let dest := r.olN o 0xA 1
  let r := r.when (r.olKind o == 1 && dest != 0xFF) fun r =>
    let n := dest % 4
    let k := dest / 4
    let old := r.st.rdA
    ((r.wrBoth (CMP_L_CTL_EN n k) 0).dirtyLayer n k old).dropHold n k
  let r := r.when (r.olKind o == 2) fun r => r.encClose dest
  let r := r.pixMod fun p => { p with frames := p.frames.map fun f => { f with bufs := f.bufs.filter fun b => b.1 != o } }
  let r := ((r.wr (OUT_STATUS_HELD o) 0).wr (OUT_STATUS_WRITING o) 0).wr (OUT_STATUS_BUSY o) 0
  let r := ((r.wr (OUT_STATUS_PUBLISHED o) 0).wr (OUT_PUB_FN o) 0).wr (OUT_PUB_IDX o) 0
  r.mod fun u => { u with out := u.out.drop o }

/-- The outlet changes of a context take effect together (R58). -/
def Run.deltaApply (r : Run s₀) (ctx : Nat) : Run s₀ :=
  let new := r.u.glb.nextCfg
  let ch := r.deltaChanged ctx
  let gone := ch.filter fun o => r.hasCfg 0x0701 o && r.olN o 9 1 == ctx
  let added := new.filter fun c => c.type == 0x0701 && ch.contains c.index && field c.body 9 1 == ctx
  let r := (r.each gone fun o r => r.outletEnd o).dropUnits (ch.map (· + 16))
  let idx := gone ++ added.map CfgRec.index
  let scalers := new.filter fun c => c.type == 0x0702 && added.any fun a => field a.body 0x13 1 == c.index
  let r := r.glb fun g => { g with
    cfg := (g.cfg.filter fun c => !(c.type == 0x0701 && idx.contains c.index) && !(c.type == 0x0702 && scalers.any fun x => x.index == c.index))
      ++ added ++ scalers
    deltaWait := g.deltaWait.filter (· != ctx) }
  r.each added fun c r => r.wrBoth (OUT_CTL_SCALER c.index) (field c.body 0x13 1)

/-- A frame boundary of a context that an outlet delta waits for. -/
def Run.deltaBoundary (r : Run s₀) (ctx : Nat) : Run s₀ :=
  if r.u.glb.change = .delta ∧ r.u.glb.deltaWait.contains ctx = true then r.deltaApply ctx else r

/-- A checked delta begins to be woven. A context that has no boundary running takes its changes at once, as a commit would
(R145, R58). -/
def Run.deltaBegin (r : Run s₀) (cfg : List CfgRec) (b : List Byte) : Run s₀ :=
  let r := r.glb fun g => { g with change := .delta, nextCfg := cfg, next := b }
  let wait := (List.range 16).filter fun c => !(r.deltaChanged c).isEmpty
  let r := r.glb fun g => { g with deltaWait := wait }
  r.each wait fun c r => r.when (r.atRest (64 + c)) fun r => r.deltaApply c

end Sys2Proof.Machine
end

