-- ==== Sys2Proof/Machine/Media.lean ====
section
/-!
DEFINITION. What lies on the media: ring parity over GF(2^8) (R248, R249), labels and clip tables (R272), extents (R274 to
R276), manifest entries (R277), and the lossless code of packed frames with its unpacker (R283 to R288).
-/
namespace Sys2Proof.Machine
variable {s₀ : State}

/-! ## Parity over GF(2^8) (R249) -/

/-- Multiplication by α = 2 under x^8 + x^4 + x^3 + x^2 + 1. -/
def gfDouble (a : Nat) : Nat := if a * 2 < 256 then a * 2 else (a * 2) ^^^ 0x11D

/-- The product of `a` and the low `n` bits of `b`. -/
def gfMulBits : Nat → Nat → Nat → Nat
  | 0, _, _ => 0
  | n + 1, a, b => (if b % 2 = 1 then a else 0) ^^^ gfMulBits n (gfDouble a) (b / 2)

/-- The product in GF(2^8). -/
def gfMul (a b : Nat) : Nat := gfMulBits 8 a b

/-- α^k. -/
def gfPow : Nat → Nat
  | 0 => 1
  | k + 1 => gfDouble (gfPow k)

/-- The inverse of a non-zero element: its 254th power. -/
def gfInv (a : Nat) : Nat := (List.range 253).foldl (fun x _ => gfMul x a) a

/-- A constant times every byte. -/
def gfScale (c : Nat) (l : List Byte) : List Byte := l.map fun b => BitVec.ofNat 8 (gfMul c b.toNat)

/-- The XOR of two byte strings of one length. -/
def xorBytes (a b : List Byte) : List Byte := List.zipWith (· ^^^ ·) a b

/-- Σ α^(i·c) · d_c over the chunks listed with their numbers c, each of `n` bytes (R249). -/
def paritySum (n i : Nat) (l : List (Nat × List Byte)) : List Byte :=
  l.foldl (fun a d => xorBytes a (gfScale (gfPow (i * d.1)) d.2)) (List.replicate n 0#8)

/-- Solve a square linear system over GF(2^8) whose right sides are byte strings, by elimination. -/
def gfSolve : Nat → List (List Nat × List Byte) → List (List Byte)
  | 0, _ => []
  | n + 1, rows =>
    match rows.find? fun r => r.1.headD 0 != 0 with
    | none => []
    | some p =>
      let inv := gfInv (p.1.headD 0)
      let pc := p.1.tail.map (gfMul inv)
      let pr := gfScale inv p.2
      let rest := (rows.erase p).map fun r =>
        let h := r.1.headD 0
        (List.zipWith (fun a b => a ^^^ gfMul h b) r.1.tail pc, xorBytes r.2 (gfScale h pr))
      let xs := gfSolve n rest
      let x := (List.zip pc xs).foldl (fun a c => xorBytes a (gfScale c.1 c.2)) pr
      x :: xs

/-- The bytes of a data chunk. -/
def chunkBytes : Nat := 262144

/-- The K data chunks of a stripe from its K + M chunks, where at least K are at hand (R249). -/
def restoreStripe (k : Nat) (chunks : List (Option (List Byte))) : Option (List (List Byte)) :=
  if (chunks.filter Option.isSome).length < k then none
  else
    let data := (List.zip (List.range k) (chunks.take k))
    let known := data.filterMap fun d => d.2.map fun b => (d.1, b)
    let lost := (data.filter fun d => d.2.isNone).map Prod.fst
    let pars := ((List.zip (List.range chunks.length) (chunks.drop k)).filterMap fun p => p.2.map fun b => (p.1, b)).take lost.length
    let rows := pars.map fun p => (lost.map fun c => gfPow (p.1 * c), xorBytes p.2 (paritySum chunkBytes p.1 known))
    let found := List.zip lost (gfSolve lost.length rows)
    some ((List.range k).map fun c => Tab.look (known ++ found) c [])

/-- The slot of chunk c of ring stripe s among K + M slots (R248). -/
def slotOf (c s n : Nat) : Nat := (c + s) % n

/-- The chunk that slot j holds in ring stripe s (R248). -/
def chunkOf (j s n : Nat) : Nat := (j + n - s % n) % n

/-- The first block of ring stripe s on a member (R248). -/
def stripeLba (s : Nat) : Nat := 256 + 64 * s

/-! ## Labels (Tables 11-1 and 11-2) -/

/-- Bytes of one label copy. -/
def labelLen : Nat := 524288

/-- A clip table entry (Table 11-2). -/
def Clip.bytes (c : Clip) : List Byte :=
  le 16 c.id ++ le 2 c.seg ++ le 1 c.state ++ le 5 0 ++ le 8 c.startG ++ le 8 c.endG ++ le 8 c.manifest ++ le 6 c.startS ++ le 10 0

/-- The bytes of a label copy of a member that sits in a ring and slot (Table 11-1). -/
def Label.bytes (l : Label) : List Byte :=
  let keyId := (sha512 identityKey).take 8
  let head := le 16 l.magId ++ le 1 l.k ++ le 1 l.m ++ le 1 l.rings ++ le 1 l.layout ++ le 1 l.ring ++ le 1 l.slot ++ le 2 0
    ++ le 8 l.nextG ++ (List.range 4).flatMap (fun r => le 4 (l.removed.look r 0)) ++ le 4 l.clips.length
    ++ le 1 l.rebRing ++ le 1 l.rebSlot ++ le 2 0 ++ le 8 l.rebPos ++ keyId ++ le 8 0 ++ padTo 32 identityKey
  let serials := (List.range 128).flatMap fun n => padTo 32 (l.serials.look n [])
  let body := padTo 0xFF0 head ++ serials
  let body := padTo 0x3FF0 body ++ l.clips.flatMap Clip.bytes
  let body := padTo (labelLen - 16) body
  le 4 0x4C424C4D ++ le 2 1 ++ le 2 0 ++ le 4 l.gen ++ le 4 (crc32c body) ++ body

/-- A clip table entry read back. -/
def clipAt (b : List Byte) : Clip :=
  { id := field b 0 16, seg := field b 0x10 2, state := field b 0x12 1, startG := field b 0x18 8, endG := field b 0x20 8,
    manifest := field b 0x28 8, startS := field b 0x30 6 }

/-- A label copy read back; none when MAGIC, VERSION or CRC is wrong (R272). -/
def labelAt (b : List Byte) : Option Label :=
  if field b 0 4 = 0x4C424C4D ∧ field b 4 2 = 1 ∧ b.length = labelLen ∧ field b 0xC 4 = crc32c (b.drop 16) then
    some { gen := field b 8 4, magId := field b 0x10 16, k := field b 0x20 1, m := field b 0x21 1, rings := field b 0x22 1,
           layout := field b 0x23 1, ring := field b 0x24 1, slot := field b 0x25 1, nextG := field b 0x28 8,
           removed := (List.range 4).map (fun r => (r, field b (0x30 + 4 * r) 4)),
           clips := (List.range (min (field b 0x40 4) 4096)).map fun e => clipAt ((b.drop (0x4000 + 64 * e)).take 64),
           rebRing := field b 0x44 1, rebSlot := field b 0x45 1, rebPos := field b 0x48 8,
           serials := (List.range 128).map fun n => (n, (b.drop (0x1000 + 32 * n)).take 32) }
  else none

/-- A member's label: its valid copy with the higher GEN (R272). -/
def newestLabel (a b : Option Label) : Option Label :=
  match a, b with
  | some x, some y => if y.gen < x.gen then some x else some y
  | some x, none => some x
  | none, y => y

/-! ## Extents and entries -/

/-- Zero bytes that bring a length to a multiple of 4,096 (R274). -/
def pad4k (l : List Byte) : List Byte := padTo (ceilDiv l.length 4096 * 4096) l

/-- TIME as Table 11-4 lays it out: 16 bytes. -/
def timeBytes (sec ns frac : Nat) : List Byte := le 6 sec ++ le 2 0 ++ le 4 ns ++ le 4 frac

/-- A frame header (Table 11-4). -/
def frameHeader (ctx flags fn tag pw ph sec ns frac w h crc orig stored index : Nat) : List Byte :=
  let b := le 4 0x4D415246 ++ le 1 ctx ++ le 1 1 ++ le 2 flags ++ le 4 fn ++ le 2 tag ++ le 1 pw ++ le 1 ph ++ timeBytes sec ns frac
    ++ le 2 w ++ le 2 h ++ le 4 crc ++ le 4 orig ++ le 4 stored ++ le 4 index ++ le 4 0
  b ++ le 4 (crc32c b) ++ le 4 0

/-- A metadata or audio extent: its 64-byte header and its data (R276). -/
def auxExtent (kind idx a sec ns frac channels : Nat) (data : List Byte) : List Byte :=
  let b := le 4 0x44585541 ++ le 1 kind ++ le 1 idx ++ le 2 0 ++ le 4 a ++ le 4 data.length ++ timeBytes sec ns frac
    ++ le 1 channels ++ le 23 0
  b ++ le 4 (crc32c b) ++ le 4 0 ++ data

/-- A manifest entry (Table 11-6). -/
def manEntry (type idx f a b c d e : Nat) : List Byte := le 1 type ++ le 1 idx ++ le 2 f ++ le 4 a ++ le 8 b ++ le 8 c ++ le 4 d ++ le 4 e

/-- The length of a manifest extent of N entries (R277). -/
def manifestLen (n : Nat) : Nat := ceilDiv (256 + 32 * n + 96) 4096 * 4096

/-- The manifest extent from its header fields and entries; the seal signs all but its last 96 bytes (R277, R278). -/
def manifestExtent (flags clip seg hashLen frames gaps stop : Nat) (hash : List Byte) (entries : List (List Byte)) : List Byte :=
  let h := le 4 0x464E414D ++ le 2 1 ++ le 2 flags ++ le 16 clip ++ le 2 seg ++ le 2 0 ++ le 4 entries.length ++ le 8 hashLen
    ++ le 4 frames ++ le 4 gaps ++ le 6 (timeSec stop) ++ le 2 0 ++ le 4 (timeNs stop) ++ le 4 (timeFrac stop) ++ padTo 64 hash
  let body := padTo (manifestLen entries.length - 96) (padTo 256 h ++ entries.flatten)
  body ++ padTo 96 (le 4 0x4C414553 ++ le 4 0 ++ padTo 8 (sha512 identityKey) ++ le 16 0 ++ padTo 64 (identitySign body))

/-! ## The lossless code (R283 to R288) -/

/-- The prediction of sample x of a row from the samples before it and the row PH above, when there is one (R284). -/
def packPredict (pw : Nat) (cur : List Nat) (above : Option (List Nat)) (x : Nat) : Nat :=
  let a := if pw ≤ x then some (cur.getD (x - pw) 0) else none
  match a, above with
  | some a, some up =>
    let b := up.getD x 0
    let c := up.getD (x - pw) 0
    if max a b ≤ c then min a b else if c ≤ min a b then max a b else a + b - c
  | some a, none => a
  | none, some up => up.getD x 0
  | none, none => 131072

/-- m of sample s predicted by p (R284). -/
def packMap (s p : Nat) : Nat :=
  let e : Int := (((s : Int) - p + 131072) % 262144) - 131072
  if 0 ≤ e then (2 * e).toNat else (-2 * e - 1).toNat

/-- The sample of m predicted by p. -/
def packUnmap (m p : Nat) : Nat :=
  let e : Int := if m % 2 = 0 then (m / 2 : Nat) else -(((m + 1) / 2 : Nat) : Int)
  (((p : Int) + e) % 262144).toNat

/-- Bits of m under Rice parameter k (R286). -/
def riceCost (k m : Nat) : Nat := if m / 2 ^ k < 24 then m / 2 ^ k + 1 + k else 42

/-- The code of m under Rice parameter k (R285). -/
def riceBits (k m : Nat) : List Bool :=
  if m / 2 ^ k < 24 then List.replicate (m / 2 ^ k) true ++ false :: lsbBits k m else List.replicate 24 true ++ lsbBits 18 m

/-- The cost of a block under k. -/
def blockCost (k : Nat) (ms : List Nat) : Nat := ms.foldl (fun a m => a + riceCost k m) 0

/-- The Rice parameter of the lowest cost, the smallest on a tie (R286). -/
def bestRice (ms : List Nat) : Nat :=
  (List.range 17).foldl (fun b k => if blockCost (k + 1) ms < blockCost b ms then k + 1 else b) 0

/-- A block's bits from its m values and samples (R285, R286). -/
def blockBits (ms ss : List Nat) : List Bool :=
  let k := bestRice ms
  if 18 * ss.length < blockCost k ms then lsbBits 5 31 ++ ss.flatMap (lsbBits 18) else lsbBits 5 k ++ ms.flatMap (riceBits k)

/-- The sizes of a row's blocks (R284). -/
def blockSizes (w : Nat) : List Nat := List.replicate (w / 64) 64 ++ (if w % 64 = 0 then [] else [w % 64])

/-- The blocks of a row: m values and samples. -/
def rowBlocks (pw : Nat) (row : List Nat) (above : Option (List Nat)) : List (List Nat × List Nat) :=
  let ms := (List.range row.length).map fun x => packMap (row.getD x 0) (packPredict pw row above x)
  let rec go : List Nat → List Nat → List Nat → List (List Nat × List Nat)
    | [], _, _ => []
    | n :: l, m, s => (m.take n, s.take n) :: go l (m.drop n) (s.drop n)
  go (blockSizes row.length) ms row

/-- The blocks of a slice in order (R284). -/
def sliceBlocks (pw ph : Nat) (rows : List (List Nat)) : List (List Nat × List Nat) :=
  (List.range rows.length).flatMap fun j => rowBlocks pw (rows.getD j []) (if ph ≤ j then rows[j - ph]? else none)

/-- Code a slice's blocks after `bits` bits and `rd` raw bytes of the frame, stopping after a block with W above Rd: the
slice's bits, the raw bytes read, and whether it stopped (R287). -/
def codeBlocks (bits : Nat) : Nat → List (List Nat × List Nat) → List Bool → List Bool × Nat × Bool
  | rd, [], acc => (acc, rd, false)
  | rd, b :: l, acc =>
    let acc := acc ++ blockBits b.1 b.2
    let rd := rd + b.2.length * 9 / 4
    if rd < ceilDiv (bits + acc.length) 8 then (acc, rd, true) else codeBlocks bits rd l acc

/-- Bits as bytes, bit 0 of each byte first, padded with 0 bits to whole 64-bit words (R283). -/
def bitBytes (l : List Bool) : List Byte := le (ceilDiv l.length 64 * 8) (ofLsb l)

/-- Leading 1 bits, at most n, and what follows them; the 0 bit that ends fewer than n is taken with them. -/
def takeOnes : Nat → List Bool → Option (Nat × List Bool)
  | 0, l => some (0, l)
  | _ + 1, [] => none
  | n + 1, true :: l => (takeOnes n l).map fun x => (x.1 + 1, x.2)
  | _ + 1, false :: l => some (0, l)

/-- n bits, bit 0 first. -/
def takeBits (n : Nat) (l : List Bool) : Option (Nat × List Bool) := if l.length < n then none else some (ofLsb (l.take n), l.drop n)

/-- One coded sample of a block with header h; none when bits are missing or h is reserved (R285, R288). -/
def decodeSample (h p : Nat) (l : List Bool) : Option (Nat × List Bool) :=
  if h = 31 then takeBits 18 l
  else if 17 < h then none
  else match takeOnes 24 l with
    | none => none
    | some (q, l) => (takeBits (if q = 24 then 18 else h) l).map fun x => (packUnmap (if q = 24 then x.1 else q * 2 ^ h + x.1) p, x.2)

/-- n samples of a block after the row's samples `cur`: the samples so far, and the bits left, none at an error. -/
def decodeBlock (pw h : Nat) (above : Option (List Nat)) : Nat → List Nat → List Bool → List Nat × Option (List Bool)
  | 0, cur, l => (cur, some l)
  | n + 1, cur, l =>
    match decodeSample h (packPredict pw cur above cur.length) l with
    | none => (cur, none)
    | some (s, l) => decodeBlock pw h above n (cur ++ [s]) l

/-- The blocks of a row. -/
def decodeRow (pw : Nat) (above : Option (List Nat)) : List Nat → List Nat → List Bool → List Nat × Option (List Bool)
  | [], cur, l => (cur, some l)
  | n :: ns, cur, l =>
    match takeBits 5 l with
    | none => (cur, none)
    | some (h, l) =>
      match decodeBlock pw h above n cur l with
      | (cur, none) => (cur, none)
      | (cur, some l) => decodeRow pw above ns cur l

/-- The rows of a slice, and whether all of them decode. -/
def decodeRows (pw ph w : Nat) : Nat → List (List Nat) → List Bool → List (List Nat) × Bool
  | 0, rows, _ => (rows, true)
  | n + 1, rows, l =>
    match decodeRow pw (if ph ≤ rows.length then rows[rows.length - ph]? else none) (blockSizes w) [] l with
    | (row, none) => (rows ++ [row], false)
    | (row, some l) => decodeRows pw ph w n (rows ++ [row]) l

/-- The first n slices of a packed payload, up to an error. -/
def decodeSlices (pw ph w h : Nat) (payload : List Byte) (offs : List Nat) : Nat → List (List Nat) × Bool
  | 0 => ([], true)
  | n + 1 =>
    match decodeSlices pw ph w h payload offs n with
    | (rows, false) => (rows, false)
    | (rows, true) =>
      let a := offs.getD n 0
      let part := (payload.drop a).take (offs.getD (n + 1) 0 - a)
      let x := decodeRows pw ph w (min 64 (h - 64 * n)) [] (part.flatMap fun b => lsbBits 8 b.toNat)
      (rows ++ x.1, x.2)

/-- Offsets rise strictly from 0. -/
def offsetsOk : List Nat → Bool
  | a :: b :: l => decide (a < b) && offsetsOk (b :: l)
  | _ => true

/-- What the unpacker makes of a frame (R288): refused before decoding; in error, with the bytes of its destination; or its raw bytes. -/
inductive Unpacked where
  | refused
  | bad (bytes : List Byte)
  | good (bytes : List Byte)
  deriving DecidableEq, Repr

/-- The unpacker on a frame header and payload with a destination of L bytes (R288): on an error what was decoded stands in the
destination, and zeros up to ORIG_LEN. -/
def unpack (hdr payload : List Byte) (dest : Nat) : Unpacked :=
  let w := field hdr 0x20 2
  let h := field hdr 0x22 2
  let orig := field hdr 0x28 4
  let n := ceilDiv h 64
  let tableLen := ceilDiv (4 * n) 8 * 8
  let start := payload.length - tableLen
  let offs := (List.range n).map fun i => field payload (start + 4 * i) 4
  if field hdr 0x38 4 ≠ crc32c (hdr.take 0x38) ∨ orig ≠ w * h * 9 / 4 ∨ dest < orig ∨ payload.length < tableLen
      ∨ offs.headD 0 ≠ 0 ∨ offsetsOk (offs ++ [start]) = false ∨ offs.any (· % 8 != 0) = true
      ∨ field payload (start + 4 * n) (tableLen - 4 * n) ≠ 0 then .refused
  else
    let x := decodeSlices (field hdr 0xE 1) (field hdr 0xF 1) w h payload (offs ++ [start]) n
    let raw := padTo orig (packBits 18 x.1.flatten)
    if x.2 && crc32c raw == field hdr 0x24 4 then .good raw else .bad raw

end Sys2Proof.Machine
end

