-- ==== Sys2Proof/Machine/Drives.lean ====
section
/-!
DEFINITION. Magazines below the clip: hops with their replay (R242, R245), drive commands (R243, R256), labels in force (R272,
R273), and the state of rings and magazines (R263, R264, R267).
-/
namespace Sys2Proof.Machine
variable {s₀ : State}

/-! ## What MAG holds -/

/-- Change what MAG holds. -/
def Run.mag (r : Run s₀) (f : MagU → MagU) : Run s₀ := r.mod fun u => { u with magu := f u.magu }

/-- A drive. -/
def Run.drv (r : Run s₀) (d : Nat) : DrvU := r.u.magu.drv.look d {}

/-- Change a drive; OUTSTANDING follows its commands. -/
def Run.drvMod (r : Run s₀) (d : Nat) (f : DrvU → DrvU) : Run s₀ :=
  let r := r.mag fun m => { m with drv := m.drv.put d (f (m.drv.look d {})) }
  r.wr (MAG_DRV_STATUS_OUTSTANDING d) (r.drv d).out.length

/-- A hop. -/
def Run.hop (r : Run s₀) (l : Nat) : HopU := r.u.magu.hop.look l {}

/-- Change a hop. -/
def Run.hopMod (r : Run s₀) (l : Nat) (f : HopU → HopU) : Run s₀ := r.mag fun m => { m with hop := m.hop.put l (f (m.hop.look l {})) }

/-- A magazine. -/
def Run.magz (r : Run s₀) (m : Nat) : MagzU := r.u.magu.mag.look m {}

/-- Change a magazine. -/
def Run.magzMod (r : Run s₀) (m : Nat) (f : MagzU → MagzU) : Run s₀ := r.mag fun x => { x with mag := x.mag.put m (f (x.mag.look m {})) }

/-- The dual layout (R241). -/
def Run.dual (r : Run s₀) : Bool := r.on GLB_MODE_DUAL_MAG

/-- The magazine whose span holds magazine lane l (R241). -/
def Run.magOfLane (r : Run s₀) (l : Nat) : Nat := if r.dual && 8 ≤ l then 1 else 0

/-- The magazine of a drive. -/
def Run.magOfDrive (r : Run s₀) (d : Nat) : Nat := r.magOfLane (d / 4)

/-- The lanes of a magazine's span (R241). -/
def Run.span (r : Run s₀) (m : Nat) : List Nat := (List.range 16).filter fun l => r.magOfLane l == m && (m == 0 || r.dual)

/-- The drives of a magazine's span. -/
def Run.spanDrives (r : Run s₀) (m : Nat) : List Nat := (r.span m).flatMap fun l => (List.range (r.chain l)).map fun p => 4 * l + p

/-- Hop 0 of magazine lane l is LINKED. -/
def Run.hopLinked (r : Run s₀) (l : Nat) : Bool := r.rd (LNK_STATUS_STATE (24 + l)) == 4

/-- A drive of a ring has been removed. -/
def Run.drvRemoved (r : Run s₀) (d : Nat) : Bool := r.on (MAG_DRV_STATUS_REMOVED d)

/-! ## Hops (R242, R245) -/

/-- Bytes of a packet of a hop: header, body, CRC word. -/
def HopPkt.size (p : HopPkt) : Nat := p.body.length + 16

/-- A packet of hop l leaves under a SEQ. -/
def Run.hopEmit (r : Run s₀) (l seq : Nat) (p : HopPkt) : Run s₀ := r.sendPacket (128 + l) p.type p.drv 0 seq p.body


/-- Sequenced packets leave hop l while 256 KiB hold all that is unacknowledged (R245). -/
def Run.hopPump (r : Run s₀) (l : Nat) : Run s₀ :=
  let rec go : List HopPkt → Run s₀ → Run s₀
    | [], r => r
    | p :: ps, r =>
      let h := r.hop l
      if 262144 < (h.kept.foldl (fun a k => a + k.2.size) 0) + p.size then r
      else
        let r := r.hopEmit l h.tx p
        go ps (r.hopMod l fun h => { h with tx := (h.tx + 1) % 2 ^ 24, kept := h.kept ++ [(h.tx, p)], queue := h.queue.tail })
  if (r.hop l).stopped then r else go (r.hop l).queue r

/-- Sequenced packets join the queue of hop l. -/
def Run.hopSend (r : Run s₀) (l : Nat) (ps : List HopPkt) : Run s₀ := (r.hopMod l fun h => { h with queue := h.queue ++ ps }).hopPump l

/-- An ACK of hop l (R108, R245). -/
def Run.hopAck (r : Run s₀) (l : Nat) : Run s₀ :=
  let h := r.hop l
  (r.hopEmit l ((h.rx + 2 ^ 24 - 1) % 2 ^ 24) ⟨0x10, 0, []⟩).hopMod l fun h => { h with owed := false }

/-- A NAK of hop l for the expected SEQ leaves and is counted (R245). -/
def Run.hopNakSent (r : Run s₀) (l : Nat) : Run s₀ :=
  ((r.hopEmit l (r.hop l).rx ⟨0x11, 0, []⟩).sat (MAG_LINK_ERR_NAKS_TX l)).sat (MAG_LINK_STATUS_NAK_COUNT l)

/-- The NAK of a packet error: words are discarded from then on until the next resync point (R108). -/
def Run.hopNak (r : Run s₀) (l : Nat) : Run s₀ := (r.hopNakSent l).hopMod l fun h => { h with discard := true }

/-- Hop l hears packets: it is LINKED and discards no words (R108). -/
def Run.hopHears (r : Run s₀) (l : Nat) : Bool := r.hopLinked l && !(r.hop l).discard

/-- A packet error on hop l: a NAK, unless eight have been sent; discarded words hold no packet (R108, R245). -/
def Run.hopError (r : Run s₀) (l : Nat) (crc : Bool) : Run s₀ :=
  if !r.hopHears l then r
  else
    let r := r.when crc fun r => r.sat (MAG_LINK_ERR_CRC_ERR l)
    if 8 ≤ r.rd (MAG_LINK_STATUS_NAK_COUNT l) then r else r.hopNak l

/-- A sequenced packet arrives on hop l: `f` acts on it when its SEQ is the expected one; an earlier one is a duplicate, a
later one a packet error (R100). -/
def Run.hopTake (r : Run s₀) (l seq : Nat) (f : Run s₀ → Run s₀) : Run s₀ :=
  let h := r.hop l
  if !r.hopHears l then r
  else if seq = h.rx then
    f ((r.hopMod l fun h => { h with rx := (h.rx + 1) % 2 ^ 24, owed := true }).wr (MAG_LINK_STATUS_NAK_COUNT l) 0)
  else if laterThan 24 seq h.rx || subMod 24 seq h.rx == 2 ^ 23 then r.hopError l false
  else r

/-- An ACK arrives on hop l (R109). -/
def Run.hopAcked (r : Run s₀) (l seq : Nat) : Run s₀ :=
  if r.hopHears l then (r.hopMod l fun h => { h with kept := h.kept.filter fun k => stillKept k.1 (seq % 2 ^ 24) }).hopPump l else r

/-- A NAK arrives on hop l: an all-IDLE reach and every kept packet from its SEQ follow (R109). -/
def Run.hopNaked (r : Run s₀) (l seq : Nat) : Run s₀ :=
  if !r.hopHears l then r
  else
  let r := (r.sat (MAG_LINK_ERR_NAKS_RX l)).sat (MAG_LINK_ERR_REPLAYS l)
  if (r.hop l).stopped then r
  else (r.idleReach (128 + l)).each ((r.hop l).kept.filter fun k => k.1 == seq || laterThan 24 k.1 seq) fun k r => r.hopEmit l k.1 k.2

/-- Hop l starts afresh: a first link, or a retrained lane. -/
def Run.hopFresh (r : Run s₀) (l : Nat) : Run s₀ :=
  ((r.hopMod l fun _ => {}).wr (MAG_LINK_STATUS_NAK_COUNT l) 0).wr (MAG_LINK_STATUS_EXHAUSTED l) 0

/-- Comma lock of hop l is lost: its relock window starts (Table 10-9). -/
def Run.hopLost (r : Run s₀) (l : Nat) : Run s₀ := r.wr (MAG_LINK_STATUS_RELOCK_WAIT l) 1

/-- Hop l is LINKED: after a relock within the window a NAK for the expected SEQ starts the replay, within the eight that R245 allows
(Table 10-9). -/
def Run.hopUp (r : Run s₀) (l : Nat) : Run s₀ :=
  if r.on (MAG_LINK_STATUS_RELOCK_WAIT l) then
    let r := r.wr (MAG_LINK_STATUS_RELOCK_WAIT l) 0
    if 8 ≤ r.rd (MAG_LINK_STATUS_NAK_COUNT l) then r else r.hopNak l
  else r.hopFresh l

/-- The recovery of hop l is abandoned for an outer action: its NAKs end, and with `window` its relock window too (R265, R398). -/
def Run.hopGiveUp (r : Run s₀) (l : Nat) (window : Bool) : Run s₀ :=
  (r.wr (MAG_LINK_STATUS_NAK_COUNT l) 0).when window fun r => r.wr (MAG_LINK_STATUS_RELOCK_WAIT l) 0

/-! ## Drive commands (R243, R256) -/

/-- The blocks that a command covers. -/
def DCmd.range (c : DCmd) : Nat × Nat := (c.lba, c.lba + c.count)

/-- Two commands touch a common block. -/
def DCmd.overlaps (a b : DCmd) : Bool := a.lba < b.lba + b.count && b.lba < a.lba + a.count

/-- The packets of a command: its CMD, and for a WRITE its DATA (Table 10-3). -/
def DCmd.packets (c : DCmd) (drv : Nat) : List HopPkt :=
  let cmd : HopPkt := ⟨0x40, drv, le 1 c.tag ++ le 1 c.opc ++ le 2 c.count ++ le 4 0 ++ le 6 c.lba ++ le 2 0 ++ le 8 0⟩
  let n := if c.opc = 1 then c.data.length / 1024 else 0
  cmd :: (List.range n).map fun i => ⟨0x41, drv, le 1 c.tag ++ le 3 i ++ le 4 0 ++ (c.data.drop (1024 * i)).take 1024⟩

/-- BUSY of a magazine follows its drives' commands. -/
def Run.magBusy (r : Run s₀) (m : Nat) : Run s₀ :=
  r.wr (MAG_MAG_STATUS_BUSY m) (b2n ((r.u.magu.drv.filter fun x => r.magOfDrive x.1 == m).any fun x => !x.2.out.isEmpty))

/-- The command writes a label copy. -/
def DCmd.isLabel (c : DCmd) : Bool := c.opc == 1 && c.lba < 256

/-- A label write is placed on the copy that does not hold the newest valid generation (R272). -/
def DCmd.placed (c : DCmd) (copy : Nat) : DCmd :=
  match c.why with
  | .label m gen _ => { c with lba := 128 * copy, why := .label m gen copy }
  | _ => c

/-- Waiting commands go to the drive while it has a free tag, in order but for those that must wait: a command that overlaps one
before it, and a label write behind another (R243, R256, R272). -/
def Run.drvPump (r : Run s₀) (d : Nat) : Run s₀ :=
  let rec go : List DCmd → List DCmd → Run s₀ → Run s₀
    | [], held, r => r.drvMod d fun v => { v with wait := held }
    | c :: cs, held, r =>
      let v := r.drv d
      let c := c.placed v.copy
      let before := v.out ++ held
      match lowest (fun t => !(v.out.any fun x => x.tag == t)) 64 with
      | none => r.drvMod d fun v => { v with wait := held ++ c :: cs }
      | some t =>
        if before.any fun x => x.overlaps c || (x.isLabel && c.isLabel) then go cs (held ++ [c]) r
        else
          let c := { c with tag := t }
          let r := r.drvMod d fun v => { v with out := v.out ++ [if c.opc = 1 && c.count == 64 then { c with data := [] } else c] }
          go cs held (r.hopSend (d / 4) (c.packets (d % 4)))
  if r.u.glb.phase = .warmDrain then r else (go (r.drv d).wait [] r).magBusy (r.magOfDrive d)

/-- A command joins a drive's queue. -/
def Run.drvCmd (r : Run s₀) (d : Nat) (c : DCmd) : Run s₀ := (r.drvMod d fun v => { v with wait := v.wait ++ [c] }).drvPump d

/-- MAG asks every drive that may stand on lane l for its IDENTIFY data (R267). -/
def Run.magProbe (r : Run s₀) (l : Nat) : Run s₀ :=
  r.each (List.range (r.chain l)) fun p r =>
    (r.drvMod (4 * l + p) fun v => { v with ident := false }).drvCmd (4 * l + p) { opc := 3, lba := 0, count := 1, why := .ident }

/-- IDENTIFY data of a drive (Table 10-6): the drive answers, and both its label copies are read (R267). -/
def Run.identified (r : Run s₀) (d : Nat) (b : List Byte) : Run s₀ :=
  if field b 0 4 ≠ 0x4952444D ∨ field b 4 2 ≠ 1 then r
  else
    let r := r.drvMod d fun v =>
      { v with ident := true, cap := field b 8 8, swr := field b 0x10 4, serial := (b.drop 0x20).take 32, copy0 := [], copy1 := [], copy := 0 }
    r.each [0, 1] fun c r => r.drvCmd d { opc := 2, lba := 128 * c, count := 128, why := .labelRead c }

/-! ## Rings and magazines -/

/-- Set the fields of MAG_DRV_d_STATUS that name a drive's place (Table 10-16), and those of MAG_RING_r_STATUS. -/
def Run.ringRegs (r : Run s₀) (m : Nat) (g : Geo) : Run s₀ :=
  let r := ((r.wr (MAG_RING_STATUS_K g.idx) g.k).wr (MAG_RING_STATUS_M g.idx) g.m).wr (MAG_RING_STATUS_MAG g.idx) m
  let r := r.when (r.rd (MAG_RING_STATUS_STATE g.idx) == 0) fun r => r.wr (MAG_RING_STATUS_STATE g.idx) 1
  let rec go : List Nat → Nat → Run s₀ → Run s₀
    | [], _, r => r
    | d :: ds, j, r =>
      go ds (j + 1) (if d = 0xFF then r else
        ((r.wr (MAG_DRV_STATUS_MEMBER d) 1).wr (MAG_DRV_STATUS_RING d) g.idx).wr (MAG_DRV_STATUS_SLOT d) j)
  go g.members 0 r

/-- The geometry that the woven RING records give magazine m (R247). -/
def Run.cfgGeo (r : Run s₀) (m : Nat) : List Geo :=
  ((List.range 4).filter fun i => r.hasCfg 0x0A02 i && r.cfgN 0x0A02 i 0xA 1 == m).map fun i =>
    let k := r.cfgN 0x0A02 i 8 1
    let p := r.cfgN 0x0A02 i 9 1
    ⟨i, k, p, (List.range (k + p)).map fun j => r.cfgN 0x0A02 i (0x10 + j) 1⟩

/-- K of a magazine (R271). -/
def Run.magK (r : Run s₀) (m : Nat) : Nat :=
  match (r.magz m).geo with
  | g :: _ => g.k
  | [] => 0

/-- Bytes of a magazine stripe. -/
def Run.stripeBytes (r : Run s₀) (m : Nat) : Nat := r.magK m * chunkBytes

/-- Slot j of ring r is removed. -/
def Run.slotLost (r : Run s₀) (ring j : Nat) : Bool := bit (r.rd (MAG_RING_LOST_LOST ring)) j

/-- The ring and ring stripe of magazine stripe g (R248). -/
def Run.ringOf (r : Run s₀) (m g : Nat) : Option (Geo × Nat) :=
  let geo := (r.magz m).geo
  (geo[g % geo.length]?).map fun x => (x, g / geo.length)

/-- Stripes that a ring holds (R248). -/
def Run.ringStripes (r : Run s₀) (g : Geo) : Nat :=
  let caps := (g.members.filter (· != 0xFF)).map fun d => (r.drv d).cap
  (caps.foldl min (caps.headD 0) - 256) / 64

/-- Stripes left from magazine stripe `from_` on (R259). -/
def Run.stripesLeft (r : Run s₀) (m from_ : Nat) : Nat :=
  let geo := (r.magz m).geo
  let n := geo.length
  ((numberedGeo 0 geo).map fun p => r.ringStripes p.2 - (from_ + n - 1 - p.1) / n).foldl (· + ·) 0
where
  numberedGeo : Nat → List Geo → List (Nat × Geo)
    | _, [] => []
    | i, g :: l => (i, g) :: numberedGeo (i + 1) l

/-- The segments being written on a magazine. -/
def Run.segsOn (r : Run s₀) (m : Nat) : List Seg := r.u.magu.segs.filter fun s => s.mag == m && !s.dead

/-- The record uses the magazine: armed on it, or writing a segment there (R268). -/
def Run.recordsOn (r : Run s₀) (m : Nat) : Bool :=
  r.recording && (r.rd MAG_REC_STATUS_ACTIVE_MAG == m || !(r.segsOn m).isEmpty)

/-- The next magazine stripe that nothing has taken. -/
def Run.nextStripe (r : Run s₀) (m : Nat) : Nat :=
  let z := r.magz m
  (r.segsOn m).foldl (fun a s => max a (s.g0 + s.issued)) (max z.label.nextG z.resv)

/-- The state of ring r after its lost slots changed; a change raises GLB event 13 (R263). -/
def Run.ringState (r : Run s₀) (g : Geo) : Run s₀ :=
  let lost := popcount 32 (r.rd (MAG_RING_LOST_LOST g.idx))
  let st := if lost = 0 then 1 else if lost ≤ g.m then 2 else 3
  let r := r.wr (MAG_RING_STATUS_LOST_COUNT g.idx) lost
  if st = r.rd (MAG_RING_STATUS_STATE g.idx) then r else (r.wr (MAG_RING_STATUS_STATE g.idx) st).ev 13

/-! ## Labels (R272, R273) -/

/-- The members of a magazine that are not removed: drive, ring, slot. -/
def Run.members (r : Run s₀) (m : Nat) : List (Nat × Nat × Nat) :=
  (r.magz m).geo.flatMap fun g => ((List.range g.members.length).map fun j => (g.members.getD j 0xFF, g.idx, j)).filter fun x =>
    x.1 != 0xFF && !r.slotLost g.idx x.2.2

/-- A new label generation goes to every member not removed, on the copy that does not hold the newest one (R272). -/
def Run.writeLabel (r : Run s₀) (m : Nat) (f : Label → Label) : Run s₀ :=
  let z := r.magz m
  let lost := (List.range 4).map fun i => (i, if z.geo.any (fun g => g.idx == i) then r.rd (MAG_RING_LOST_LOST i) else 0)
  let lab := f { z.label with removed := lost }
  let lab := { lab with gen := (if lab.gen = 0 then 0 else z.label.gen) + 1, rings := z.geo.length,
                        layout := if r.dual then m + 1 else 0 }
  let who := r.members m
  let r := r.magzMod m fun z => { z with label := lab, labels := z.labels.put lab.gen (who.map Prod.fst) }
  r.each who fun x r =>
    r.drvCmd x.1 { opc := 1, lba := 0, count := 128, why := .label m lab.gen 0,
                   data := ({ lab with ring := x.2.1, slot := x.2.2 } : Label).bytes }

/-- A drive has completed, or will never complete, its write of a label generation. -/
def Run.labelDone (r : Run s₀) (m gen d : Nat) (ok : Bool) : Run s₀ :=
  r.magzMod m fun z =>
    { z with labels := z.labels.put gen ((z.labels.look gen []).filter (· != d)),
             labelBad := if ok || z.labelBad.contains gen then z.labelBad else gen :: z.labelBad }

/-- A label generation is on every member not removed. -/
def Run.labelDurable (r : Run s₀) (m gen : Nat) : Bool := ((r.magz m).labels.look gen []).isEmpty

/-! ## Stripes (R256) -/

/-- A chunk of stripe g of magazine m has ended on drive d; the stripe becomes durable when no chunk is outstanding, none failed on a
drive that is still a member, and at least K have completed (R256). -/
def Run.chunkDone (r : Run s₀) (m g d : Nat) (ok : Bool) : Run s₀ :=
  match (r.magz m).stripes.find g with
  | none => r
  | some x =>
    if !x.left.contains d then r
    else
      let x := { x with left := x.left.filter (· != d), ok := x.ok + b2n ok, failed := x.failed || (!ok && !r.drvRemoved d) }
      let good := !x.failed && decide (r.magK m ≤ x.ok)
      if x.left.isEmpty && good && !x.dead then
        let r := r.magzMod m fun z => { z with stripes := z.stripes.drop g }
        match r.ringOf m g with
        | some (q, _) => r.inc (MAG_RING_STRIPES_COUNT q.idx)
        | none => r
      else r.magzMod m fun z => { z with stripes := z.stripes.put g { x with dead := x.dead || (x.left.isEmpty && !good) } }

/-- Stripe g of magazine m is issued from its data bytes: data chunks and parity to every slot not removed (R248, R249,
R256, R263). -/
def Run.issueStripe (r : Run s₀) (m g : Nat) (data : List Byte) : Run s₀ :=
  match r.ringOf m g with
  | none => r
  | some (q, s) =>
    let n := q.k + q.m
    let chunks := (List.range q.k).map fun c => (c, padTo chunkBytes ((data.drop (c * chunkBytes)).take chunkBytes))
    let slots := (List.range n).filter fun j => q.members.getD j 0xFF != 0xFF && !r.slotLost q.idx j
    let r := r.magzMod m fun z => { z with stripes := z.stripes.put g { left := slots.map fun j => q.members.getD j 0xFF } }
    r.each slots fun j r =>
      let c := chunkOf j s n
      let body := if c < q.k then Tab.look chunks c [] else paritySum chunkBytes (c - q.k) chunks
      r.drvCmd (q.members.getD j 0xFF) { opc := 1, lba := stripeLba s, count := 64, why := .chunk m g, data := body }

end Sys2Proof.Machine
end

