-- ==== Sys2Proof/Machine/Record.lean ====
section
/-!
DEFINITION. Clip segments: what is appended to the clip byte stream and in which order (R274 to R281), durability and seals
(R256, R273, R278), and the record's states, stops, changeovers and member loss (Table 10-8, R257 to R266).
-/
namespace Sys2Proof.Machine
variable {s₀ : State}

/-! ## Recorded contexts -/

/-- A context is recorded (R15). -/
def Run.recCtx (r : Run s₀) (ctx : Nat) : Bool := bit (r.cfgN 0x0501 ctx 8 1) 0

/-- The recorded contexts, ascending. -/
def Run.recCtxs (r : Run s₀) : List Nat := (List.range 16).filter fun c => r.hasCfg 0x0501 c && r.recCtx c

/-- Packed mode (Table 01-6). -/
def Run.packedMode (r : Run s₀) : Bool := r.rd GLB_MODE_MODE == 1

/-- PW and PH of a context: of its MOSAIC record, or 2 and 2 (R282). -/
def Run.packPeriod (r : Run s₀) (ctx : Nat) : Nat × Nat :=
  if r.hasCfg 0x0601 ctx then (r.cfgN 0x0601 ctx 8 1, r.cfgN 0x0601 ctx 9 1) else (2, 2)

/-- The recorded audio ports (Table 14-6). -/
def Run.recPorts (r : Run s₀) : List Nat := (List.range 8).filter fun p => r.hasCfg 0x0E01 p && !r.auOut p && bit (r.auN p 0xE 1) 0

/-! ## Segments -/

/-- The segment with a number, while it is being written. -/
def Run.seg? (r : Run s₀) (n : Nat) : Option Seg := r.u.magu.segs.find? fun s => s.seg == n

/-- Change the segment with a number. -/
def Run.segMod (r : Run s₀) (n : Nat) (f : Seg → Seg) : Run s₀ :=
  r.mag fun m => { m with segs := m.segs.map fun s => if s.seg = n then f s else s }

/-- The segment that takes frames as they complete. -/
def Run.curSeg (r : Run s₀) : Option Seg := r.u.magu.segs.find? fun s => s.stop.isNone && !s.dead

/-- An entry joins a segment's manifest (R277). -/
def Run.segEntry (r : Run s₀) (n : Nat) (e : List Byte) : Run s₀ := r.segMod n fun s => { s with entries := s.entries ++ [e] }

/-- A change of record state raises GLB event 12 (Table 10-8). -/
def Run.recState (r : Run s₀) (st : Nat) : Run s₀ := if r.rd MAG_REC_STATUS_STATE = st then r else (r.wr MAG_REC_STATUS_STATE st).ev 12

/-- The header extent (Table 11-3). -/
def Run.headerExtent (r : Run s₀) (clip seg prev : Nat) : List Byte :=
  let t := r.u.magu.start
  let woven := r.u.glb.woven
  let cert := Config.certificate
  let head := le 4 0x48504C43 ++ le 2 1 ++ le 2 seg ++ le 16 clip ++ le 16 prev ++ le 4 (field woven 0xC 4) ++ le 4 0
    ++ le 8 (r.rd GLB_NARRIC_ID_STREAM_ID) ++ le 6 (timeSec t) ++ le 2 0 ++ le 4 (timeNs t) ++ le 4 (timeFrac t)
    ++ le 4 r.u.magu.startTc ++ le 4 0 ++ padTo 32 identityKey ++ le 2 cert.length
  let ctxs := (List.range 16).flatMap fun c =>
    match r.vsOfCtx c with
    | some v =>
      if r.recCtx c then
        let per := r.packPeriod c
        padTo 32 (le 1 (1 + 2 * b2n r.packedMode) ++ le 1 per.1 ++ le 1 per.2 ++ le 1 0 ++ le 2 (r.cfgN 0x0402 v 0xC 2)
          ++ le 2 (r.cfgN 0x0402 v 0xE 2) ++ le 4 (r.cfgN 0x0402 v 0x10 4) ++ le 2 (r.cfgN 0x0402 v 0x18 2))
          ++ padTo 32 ((r.cfg 0x0601 c).drop 0x10)
      else le 64 0
    | none => le 64 0
  let auds := (List.range 8).flatMap fun p =>
    if r.recPorts.contains p then padTo 16 (le 4 (r.auFs p) ++ le 1 (r.auChannels p)) else le 16 0
  padTo 4096 (padTo 0x800 (padTo 0x80 head ++ ctxs ++ auds) ++ cert)

/-- The first ring stripe of a ring at or after magazine stripe g. -/
def ringFrom (n i g : Nat) : Nat := (g + n - 1 - i) / n

/-- The degraded rings of a magazine with the ring stripe at which a segment that starts at g0 finds them. -/
def Run.degradedFrom (r : Run s₀) (m g0 : Nat) : List (Nat × Nat × Nat) :=
  let geo := (r.magz m).geo
  ((List.range geo.length).filterMap fun i => geo[i]?.map fun g => (i, g)).filterMap fun x =>
    if r.rd (MAG_RING_LOST_LOST x.2.idx) = 0 then none
    else some (x.2.idx, r.rd (MAG_RING_LOST_LOST x.2.idx), ringFrom geo.length x.1 g0)

/-! ## Appending (R274 to R276) -/

/-- Bytes join the clip, padded to the next multiple of 4,096 (R274). -/
def Run.segBytes (r : Run s₀) (n : Nat) (b : List Byte) : Run s₀ := r.segMod n fun s => { s with bytes := s.bytes ++ pad4k b }

/-- A lost frame leaves a gap of a cause in the manifest (R277). -/
def Run.segGap (r : Run s₀) (n ctx cause fn : Nat) : Run s₀ :=
  (r.segEntry n (manEntry 3 ctx cause fn 1 0 0 0)).segMod n fun s => { s with nGaps := s.nGaps + 1 }

/-- Frame bytes that MAG reads: what PAK's unpacker gives of a failed job's prefix, and the slot behind it (R287). -/
def Run.frameRaw (r : Run s₀) (f : IFrame) : List Byte :=
  let n := f.w * f.h * 9 / 4
  f.pakRaw ++ r.slotBytes f (f.rawOff + f.pakRaw.length) (n - f.pakRaw.length)

/-- The frame's packing job has ended with a packed result. -/
def IFrame.isPacked (f : IFrame) : Bool := f.pakDone == some 0

/-- Payload bytes stored for a frame. -/
def IFrame.storedLen (f : IFrame) : Nat := if f.isPacked then f.stored else f.w * f.h * 9 / 4

/-- A frame's extent, its metadata extent and their entries are appended; a frame with an unrecoverable row becomes a gap of
cause 3 (R252, R274, R275). -/
def Run.appendFrame (r : Run s₀) (n : Nat) (s : Seg) (f : IFrame) : Run s₀ :=
  let len := if f.isPacked then f.stored else f.w * f.h * 9 / 4
  let ok := !f.unreadable && r.slotReadable f 0 (8 * f.emb) && r.slotReadable f f.rawOff len
  let payload := if f.isPacked then r.slotBytes f f.rawOff f.stored else r.frameRaw f
  let emb := r.slotBytes f 0 (8 * f.emb)
  let per := if f.packed then r.packPeriod f.ctx else (0, 0)
  let r := (r.slotRead f 0 (8 * f.emb)).slotRead f f.rawOff len
  if !ok then
    ((r.sat MAG_REC_COUNT_GAPS).segGap n f.ctx 3 f.fn).frameMod f.sn fun x => { x with inClip := false }
  else
    let cause := (f.pakDone.getD 0) % 4
    let flags := b2n f.isPacked + 2 * b2n (f.packed && !f.isPacked) + 4 * b2n f.trunc + 16 * cause
    let h := frameHeader f.ctx flags f.fn f.tag per.1 per.2 f.ts f.tns f.tf f.w f.h (f.crc ^^^ 0xFFFFFFFF) (f.w * f.h * 9 / 4)
      payload.length s.nFrames
    let off := s.bytes.length
    let ext := pad4k (h ++ payload)
    let e := manEntry 1 f.ctx flags f.fn off payload.length (crc32c ext) f.tag
    let r := (r.segBytes n ext).segEntry n e
    let mext := pad4k (auxExtent 0 f.ctx f.fn 0 0 0 0 emb)
    let r := r.when (f.emb != 0) fun r =>
      (r.segBytes n mext).segEntry n (manEntry 2 f.ctx 0 f.fn (off + ext.length) emb.length (crc32c mext) 0)
    r.segMod n fun x => { x with nFrames := x.nFrames + 1, frames := x.frames ++ [(f.sn, off, x.bytes.length)] }

/-- The TSEL time of media frame k of a port, in units of 2^-32 ns. -/
def Run.mediaTime (r : Run s₀) (p k : Nat) : Nat := k * secondQ / r.auFs p

/-- Media frames a to b - 1 of a port are lost to the clip: a type 6 entry and AUX_LOST (R19, R387, R388). -/
def Run.audioLost (r : Run s₀) (n p a b : Nat) : Run s₀ :=
  let t := r.mediaTime p a
  ((r.segEntry n (manEntry 6 p 0 (b - a) (timeSec t) (timeNs t + timeFrac t * 2 ^ 32) 0 0)).segMod n fun s =>
    { s with aud := s.aud.put p b }).ev 324

/-- Media frames a to b - 1 of a port form an audio extent (R276); a poisoned or refused frame loses them. -/
def Run.audioExtent (r : Run s₀) (n p a b : Nat) : Run s₀ :=
  let len := 4 * r.auChannels p
  let got := (List.range (b - a)).map fun i => r.peekMem 1 (r.auRing p (a + i)) len
  match lowest (fun i => match got[i]? with | some g => !g.ok || g.poison | none => false) (b - a) with
  | some i => (r.load? 1 (r.auRing p (a + i)) len fun _ r => r).audioLost n p a b
  | none =>
    let t := r.mediaTime p a
    let ext := pad4k (auxExtent 1 p (b - a) (timeSec t) (timeNs t) (timeFrac t) (r.auChannels p) (got.flatMap Got.bytes))
    let off := (r.seg? n).elim 0 fun s => s.bytes.length
    let r := (r.segBytes n ext).segEntry n (manEntry 2 p 1 (b - a) off (len * (b - a)) (crc32c ext) 0)
    r.segMod n fun s => { s with aud := s.aud.put p b }

/-- The audio of a port up to media frame `lim`: lost frames, inserted silence, and extents of 4,096 frames; with `last` also
what remains (R274, R387, R388). -/
def Run.audioPump (r : Run s₀) (n p lim : Nat) (last : Bool) : Nat → Run s₀
  | 0 => r
  | fuel + 1 =>
    let a := r.au p
    let cur := (r.seg? n).elim lim fun s => s.aud.look p lim
    let held := a.media - r.auN p 0x20 4 * 4096 / (4 * r.auChannels p)
    if lim ≤ cur then r
    else if cur < held then (r.audioLost n p cur (min held lim)).audioPump n p lim last fuel
    else
      match a.gaps.find? fun g => g.1 ≤ cur && cur < g.1 + g.2 with
      | some g =>
        if g.1 + g.2 < a.media || last then (r.audioLost n p cur (min (g.1 + g.2) lim)).audioPump n p lim last fuel else r
      | none =>
        let stop := a.gaps.foldl (fun x g => if cur < g.1 then min x g.1 else x) lim
        if 4096 ≤ stop - cur then (r.audioExtent n p cur (cur + 4096)).audioPump n p lim last fuel
        else if stop < lim || last then (r.audioExtent n p cur stop).audioPump n p lim last fuel
        else r

/-- The audio of every recorded port that can be appended now; a segment that has stopped takes no frame whose instant lies
at or after its stop time. -/
def Run.segAudio (r : Run s₀) (n : Nat) (last : Bool) : Run s₀ :=
  match r.seg? n with
  | none => r
  | some s =>
    r.each s.aud fun x r =>
      let a := r.au x.1
      let lim := match s.stop with
        | some t => min a.media (ceilDiv (t * r.auFs x.1) secondQ)
        | none => a.media
      r.audioPump n x.1 lim last (lim - x.2 + 1)

/-- A frame may be appended once no further FE of its cycle can come, in Packed mode when its packing job has ended too (R274,
R287). -/
def IFrame.ready (f : IFrame) (now : Nat) : Bool := f.feAt < now && (!f.packed || f.pakDone.isSome)

/-- The frames at the head of a segment's list are appended in order while they are ready. -/
def Run.segPump (r : Run s₀) (n : Nat) : Run s₀ :=
  let rec go : List Nat → Run s₀ → Run s₀
    | [], r => r
    | sn :: l, r =>
      let r' := r.segMod n fun s => { s with todo := s.todo.tail }
      match r.frame? sn, r.seg? n with
      | some f, some s => if f.ready r.now then go l ((r'.appendFrame n s f).segAudio n false) else r
      | _, _ => go l r'
  match r.seg? n with
  | some s => if s.dead then r else go s.todo r
  | none => r

/-! ## Free space and the state of magazines (R259, R264, R267) -/

/-- The segment as it would stand if it were sealed now, all but its manifest: the remaining audio is appended (R274, R277). -/
def Run.segIfSealed (r : Run s₀) (s : Seg) : Seg := ((r.segAudio s.seg true).seg? s.seg).getD s

/-- The manifest reserve of an open segment: the manifest of a seal at this moment, with the entries of the remaining audio and of the
degraded ranges that are open, in whole stripes, and one stripe (R277). -/
def Run.manifestReserve (r : Run s₀) (s : Seg) : Nat :=
  let sb := r.stripeBytes s.mag
  if s.manifest.isSome then 0 else (ceilDiv (manifestLen ((r.segIfSealed s).entries.length + s.degr.length)) sb + 1) * sb

/-- Free bytes under R259: stripes left, less clip bytes not yet issued and the manifest reserve of each open segment. -/
def Run.magFree (r : Run s₀) (m : Nat) : Nat :=
  let sb := r.stripeBytes m
  (r.segsOn m).foldl (fun a s => a - (s.bytes.length - s.issued * sb) - r.manifestReserve s) (r.stripesLeft m (r.nextStripe m) * sb)

/-- The stripe after the last that a stopped segment can come to need: its frames that wait count unpacked, with their metadata.
DESIGN CHOICE (assumption 55): a segment that opens on the magazine before it is sealed starts there. -/
def Run.segEnd (r : Run s₀) (s : Seg) : Nat :=
  let sb := r.stripeBytes s.mag
  if s.manifest.isSome then s.g0 + s.bytes.length / sb
  else
    let x := r.segIfSealed s
    let waits := x.todo.filterMap r.frame?
    let frames := waits.foldl (fun a f => a + ceilDiv (64 + f.w * f.h * 9 / 4) 4096 * 4096 + ceilDiv (64 + 8 * f.emb) 4096 * 4096) 0
    s.g0 + ceilDiv (x.bytes.length + frames + manifestLen (x.entries.length + 2 * waits.length + s.degr.length)) sb

/-- The magazine stripe at which a new segment starts: behind everything taken, and behind what an outgoing segment may still need
(R271, R273). -/
def Run.freeStripe (r : Run s₀) (m : Nat) : Nat :=
  ((r.segsOn m).filter fun s => s.stop.isSome).foldl (fun a s => max a (r.segEnd s)) (r.nextStripe m)

/-- R_raw: the declared raw byte rate of the recorded contexts, in bytes per 1,000 s (R30, R254). -/
def Run.rawRate (r : Run s₀) : Nat :=
  ((r.cfgIdx 0x0402).map fun v =>
    if bit (r.cfgN 0x0501 (r.cfgN 0x0402 v 9 1) 8 1) 0 then
      r.cfgN 0x0402 v 0xC 2 * r.cfgN 0x0402 v 0xE 2 * r.cfgN 0x0402 v 0x10 4 * 9 / 4
    else 0).foldl (· + ·) 0

/-- The largest SLOT_n of a recorded context (R254, R259). -/
def Run.largestSlot (r : Run s₀) : Nat :=
  ((r.cfgIdx 0x0402).map fun v =>
    if bit (r.cfgN 0x0501 (r.cfgN 0x0402 v 9 1) 8 1) 0 then
      slotSize (r.cfgN 0x0402 v 0xC 2) (r.cfgN 0x0402 v 0xE 2) (r.cfgN 0x0402 v 0x18 2)
    else 0).foldl max 0

/-- The magazine is full: its free space is below the greater of the margin and two slots, or its clip table is full
(R259, R273). -/
def Run.magFull (r : Run s₀) (m : Nat) : Bool :=
  let free := r.magFree m
  free * 10000 < r.rd MAG_CTL_RESERVE * r.rawRate || free < 2 * r.largestSlot || 4096 ≤ (r.magz m).label.clips.length

/-- A member is LINKED and within its heartbeat window (R267). -/
def Run.drvAlive (r : Run s₀) (d : Nat) : Bool := r.hopLinked (d / 4) && r.rd (MAG_DRV_STATUS_DSTATE d) != 15

/-- A drive reports FAULT or WRITE_PROTECTED (Table 10-3). -/
def Run.drvFaulty (r : Run s₀) (d : Nat) : Bool := r.rd (MAG_DRV_STATUS_DSTATE d) == 3 || r.rd (MAG_DRV_STATUS_DSTATE d) == 4

/-- PRESENT of a magazine: drive 0 of some lane of its span answers (R267). -/
def Run.magPresent (r : Run s₀) (m : Nat) : Bool := (r.span m).any fun l => (r.drv (4 * l)).ident && r.drvAlive (4 * l)

/-- READY of a magazine (R267). A fault of a drive clears it through these conditions and no longer than they fail (R268). -/
def Run.magReady (r : Run s₀) (m : Nat) : Bool :=
  let z := r.magz m
  !z.geo.isEmpty && z.identified && z.valid && r.magPresent m
    && (z.geo.all fun g => r.rd (MAG_RING_STATUS_STATE g.idx) == 1 && (g.members.all fun d => d == 0xFF || (r.drvAlive d && !r.drvFaulty d)))
    && !r.magFull m

/-- The status of a magazine follows its rings and drives: FREE, PRESENT, READY, DEGRADED, FAILED, and REPLACE while it is
present (R259, R264, R267). -/
def Run.magSync (r : Run s₀) (m : Nat) : Run s₀ :=
  let z := r.magz m
  let r := r.wr (MAG_MAG_STATUS_FREE m) (min (r.magFree m / 2 ^ 26) (2 ^ 24 - 1))
  let falls := r.on (MAG_MAG_STATUS_PRESENT m) && !r.magPresent m
  let r := r.wr (MAG_MAG_STATUS_PRESENT m) (b2n (r.magPresent m))
  let r := r.when falls fun r => r.wr (MAG_MAG_STATUS_REPLACE m) 0
  let r := r.wr (MAG_MAG_STATUS_DEGRADED m) (b2n (z.geo.any fun g => r.rd (MAG_RING_STATUS_STATE g.idx) == 2))
  let r := r.wr (MAG_MAG_STATUS_FAILED m) (b2n (z.geo.any fun g => r.rd (MAG_RING_STATUS_STATE g.idx) == 3))
  r.wr (MAG_MAG_STATUS_READY m) (b2n (r.magReady m))

/-- The magazine asks to be replaced: REPLACE and GLB event 14 once (R264). -/
def Run.magReplace (r : Run s₀) (m : Nat) : Run s₀ :=
  if r.on (MAG_MAG_STATUS_REPLACE m) then r else (r.wr (MAG_MAG_STATUS_REPLACE m) 1).ev 14

/-! ## Opening (R273) -/

/-- A segment opens on magazine m: its label entry goes out before its first stripe, and its header extent is appended
(R273, R274). -/
def Run.openSeg (r : Run s₀) (m clip seg prev : Nat) (continued : Bool) (todo : List Nat) (aud : Tab Nat) : Run s₀ :=
  let g0 := r.freeStripe m
  let r := r.writeLabel m fun l =>
    { l with clips := l.clips ++ [{ id := clip, seg := seg, state := 1, startG := g0, startS := timeSec r.u.magu.start }] }
  let s : Seg := { mag := m, magId := (r.magz m).label.magId, geo := (r.magz m).geo, clip := clip, seg := seg, g0 := g0, bytes := r.headerExtent clip seg prev, todo := todo, aud := aud,
                   continued := continued, degr := r.degradedFrom m g0 }
  r.mag fun u => { u with segs := u.segs ++ [s] }

/-! ## Degraded ranges and the manifest (R277) -/

/-- The type 5 entry of a degraded range that ends with ring stripe `last`; none for a range without stripes. -/
def Run.closeRange (r : Run s₀) (n : Nat) (d : Nat × Nat × Nat) (last : Nat) : Run s₀ :=
  if last < d.2.2 then r else r.segEntry n (manEntry 5 d.1 0 d.2.1 d.2.2 last 0 0)

/-- The last ring stripe of ring idx among the magazine stripes below `endG`; none when there is none. -/
def Run.lastRingStripe (r : Run s₀) (m idx endG : Nat) : Option Nat :=
  let geo := (r.magz m).geo
  match lowest (fun i => match geo[i]? with | some g => g.idx == idx | none => false) geo.length with
  | none => none
  | some i => if i < endG then some ((endG - 1 - i) / geo.length) else none

/-- The manifest and zero padding to the end of the last stripe, once every frame is appended (R256, R277, R278). -/
def Run.segFinish (r : Run s₀) (n : Nat) : Run s₀ :=
  let r := r.segAudio n true
  match r.seg? n with
  | none => r
  | some s =>
    let sb := r.stripeBytes s.mag
    let open_ := s.degr
    let total := fun k => ceilDiv (s.bytes.length + manifestLen k) sb
    let endG := s.g0 + total (s.entries.length + open_.length)
    let r := r.each open_ fun d r => r.closeRange n d ((r.lastRingStripe s.mag d.1 endG).getD 0)
    match r.seg? n with
    | none => r
    | some s =>
      let flags := b2n s.rescued + 2 * b2n s.continues + 4 * b2n s.continued
        + 8 * b2n (s.entries.any fun e => field e 0 1 == 5)
      let man := manifestExtent flags s.clip s.seg s.bytes.length s.nFrames s.nGaps (s.stop.getD 0) (sha512 s.bytes) s.entries
      let all := s.bytes ++ man
      r.segMod n fun x =>
        { x with manifest := some s.bytes.length, degr := [], bytes := padTo (ceilDiv all.length sb * sb) all }

/-! ## Durability and seals (R256, R273) -/

/-- Every stripe that holds bytes a to b - 1 of a segment has been issued and is durable. -/
def Run.durableBytes (r : Run s₀) (s : Seg) (a b : Nat) : Bool :=
  let sb := r.stripeBytes s.mag
  decide (b ≤ s.issued * sb) && !((r.magz s.mag).stripes.any fun x => s.g0 + a / sb ≤ x.1 && x.1 ≤ s.g0 + (b - 1) / sb)

/-- Frames of a segment become durable with their stripes. -/
def Run.segDurable (r : Run s₀) (s : Seg) : Run s₀ :=
  r.each (s.frames.filter fun f => r.durableBytes s f.2.1 f.2.2) fun f r => r.frameMod f.1 fun x => { x with durable := true }

/-- The frames of a segment are no longer held for it, but for those that another segment holds. -/
def Run.releaseClip (r : Run s₀) (s : Seg) : Run s₀ :=
  let others := (r.u.magu.segs.filter fun x => x.seg != s.seg).flatMap fun x => x.frames.map Prod.fst ++ x.todo
  r.each ((s.frames.map Prod.fst ++ s.todo).filter fun sn => !others.contains sn) fun sn r => r.frameMod sn fun x => { x with inClip := false }

/-- A segment leaves the list. -/
def Run.dropSeg (r : Run s₀) (n : Nat) : Run s₀ := r.mag fun m => { m with segs := m.segs.filter fun s => s.seg != n }

/-- The record or rescue has written its last segment: IDLE, and a finished rescue raises GLB event 10 (Table 10-8, R41). -/
def Run.recordEnd (r : Run s₀) (sealed : Bool) : Run s₀ :=
  if !r.u.magu.segs.isEmpty || !(3 ≤ r.rd MAG_REC_STATUS_STATE && r.rd MAG_REC_STATUS_STATE ≤ 4) then r
  else
    let rescue := r.rd MAG_REC_STATUS_STATE == 4
    let r := r.when rescue fun r => r.wr GLB_RESET_CAUSE_CLIP_RESCUE_PENDING 0
    let r := r.when (rescue && sealed) fun r => (r.hwSet GLB_RESET_CAUSE_CLIP_RESCUE_DONE 1).ev 10
    let r := r.each (List.range 16) fun l r =>
      r.when ((r.laneU (24 + l)).checkLater && r.laneState (24 + l) == 5) fun r => r.selfCheck (24 + l)
    (r.recState 0).each (List.range 2) fun m r => r.magSync m

/-- A segment moves on: W_1 writes the sealing label when every stripe is durable (Table 01-2), and the segment is sealed when that label is
on every member not removed; a segment left unsealed ends when no command is outstanding (R256, R266, R273). -/
def Run.segAdvance (r : Run s₀) (s : Seg) : Run s₀ :=
  let r := r.segDurable s
  let sb := r.stripeBytes s.mag
  if s.dead then
    if r.on (MAG_MAG_STATUS_BUSY s.mag) then r else ((r.releaseClip s).dropSeg s.seg).recordEnd false
  else
    match s.manifest, s.sealGen with
    | some man, none =>
      if r.durableBytes s 0 s.bytes.length && r.duty 1 then
        let endG := s.g0 + s.bytes.length / sb
        let r := r.writeLabel s.mag fun l =>
          { l with nextG := endG, clips := l.clips.map fun c =>
              if c.id = s.clip ∧ c.seg = s.seg ∧ c.state = 1 then { c with state := 2, endG := endG, manifest := man } else c }
        r.segMod s.seg fun x => { x with sealGen := some (r.magz s.mag).label.gen }
      else r
    | some _, some gen =>
      if r.labelDurable s.mag gen then
        (((r.hwSet MAG_REC_STATUS_SEALED 1).releaseClip s).dropSeg s.seg).recordEnd true
      else r
    | none, _ => r

/-- All segments move on as far as they can: twice, since a sealing label may be written and, with no member left to wait
for, complete at once. -/
def Run.recAdvance (r : Run s₀) : Run s₀ :=
  let r := r.each r.u.magu.segs fun s r => r.segAdvance s
  r.each r.u.magu.segs fun s r => r.segAdvance s

/-- A segment is left unsealed: STATE 3 in the label, its end behind its last issued stripe (R266, R273). -/
def Run.segAbandon (r : Run s₀) (s : Seg) : Run s₀ :=
  let endG := s.g0 + s.issued
  let r := r.writeLabel s.mag fun l =>
    { l with nextG := endG, clips := l.clips.map fun c =>
        if c.id = s.clip ∧ c.seg = s.seg ∧ c.state = 1 then { c with state := 3, endG := endG } else c }
  r.segMod s.seg fun x => { x with dead := true, stop := some (x.stop.getD r.tselQ) }

/-! ## Stops and changeovers (R257, R259, R260, R266) -/

/-- The record stops with a cause: its stop point is now (R257). -/
def Run.recStop (r : Run s₀) (cause : Nat) : Run s₀ :=
  match r.curSeg with
  | none => r
  | some s => ((r.segMod s.seg fun x => { x with stop := some r.tselQ }).wr MAG_REC_STATUS_STOP_CAUSE cause).recState 3

/-- A changeover to the other magazine; after a FAILED ring the continuation starts with the oldest frame that is not
durable, with every later one, and the outgoing segment is left unsealed (R260, R280). -/
def Run.changeover (r : Run s₀) (failed : Bool) : Run s₀ :=
  match r.curSeg with
  | none => r
  | some s =>
    let other := 1 - s.mag
    let redo := s.frames.dropWhile fun f => r.durableBytes s f.2.1 f.2.2
    let todo := if failed then redo.map Prod.fst ++ s.todo else []
    let r := r.segMod s.seg fun x => { x with stop := some r.tselQ, continues := true, todo := if failed then [] else x.todo }
    let r := r.when (!failed) fun r => r.segAudio s.seg true
    let aud := (r.seg? s.seg).elim s.aud Seg.aud
    let r := r.when failed fun r => r.segAbandon { s with todo := [] }
    let r := (r.wr MAG_REC_STATUS_ACTIVE_MAG other).openSeg other s.clip (s.seg + 1) (r.magz s.mag).label.magId true todo aud
    (r.segPump (s.seg + 1)).ev 15

/-- A changeover is possible: dual layout and the other magazine READY (R260). -/
def Run.canChange (r : Run s₀) : Bool := r.dual && r.on (MAG_MAG_STATUS_READY (1 - r.rd MAG_REC_STATUS_ACTIVE_MAG))

/-- The full check of R259, while W_1 runs (Table 01-2). -/
def Run.fullCheck (r : Run s₀) : Run s₀ :=
  let m := r.rd MAG_REC_STATUS_ACTIVE_MAG
  if r.rd MAG_REC_STATUS_STATE = 2 ∧ r.magFull m = true ∧ r.duty 1 = true then
    if r.canChange && r.on MAG_CTL_AUTO_CHANGE then r.changeover false else r.recStop 2
  else r

/-- A DEGRADED ring of the magazine that takes raw triggers a changeover while CHANGE_ON_DEGRADE is 1 and the other magazine is READY
(R260). -/
def Run.degradeCheck (r : Run s₀) : Run s₀ :=
  let m := r.rd MAG_REC_STATUS_ACTIVE_MAG
  if r.rd MAG_REC_STATUS_STATE = 2 ∧ r.on MAG_CTL_CHANGE_ON_DEGRADE = true ∧ r.on (MAG_MAG_STATUS_DEGRADED m) = true
      ∧ r.on (MAG_MAG_STATUS_FAILED m) = false ∧ r.canChange = true ∧ r.duty 1 = true then r.changeover false
  else r

/-- READY of a magazine is followed; an armed record whose magazine leaves READY ends with STOP_CAUSE 5 (Table 10-8). -/
def Run.magCheck (r : Run s₀) (m : Nat) : Run s₀ :=
  let r := r.magSync m
  if r.rd MAG_REC_STATUS_STATE = 1 ∧ r.rd MAG_REC_STATUS_ACTIVE_MAG = m ∧ r.on (MAG_MAG_STATUS_READY m) = false then
    (r.wr MAG_REC_STATUS_STOP_CAUSE 5).recState 0
  else r.degradeCheck

/-! ## Member loss (R262 to R266) -/

/-- The commands of a drive are abandoned: their chunks, labels and operations end without success. -/
def Run.drvAbandon (r : Run s₀) (d : Nat) : Run s₀ :=
  let v := r.drv d
  let r := r.drvMod d fun v => { v with out := [], wait := [] }
  (r.each (v.out ++ v.wait) fun c r =>
    match c.why with
    | .chunk m g => r.chunkDone m g d false
    | .label m gen _ => r.labelDone m gen d false
    | .op m => r.magzMod m fun z => { z with opLeft := z.opLeft.filter (· != d) }
    | .read _ _ _ => r
    | .rebuild _ => r
    | .ident => r
    | .labelRead _ => r).magBusy (r.magOfDrive d)

/-- The segments of a magazine open a new degraded range on a ring; the one before it closes (R277). `first` is the oldest
ring stripe without the chunk. -/
def Run.degrade (r : Run s₀) (m idx first : Nat) : Run s₀ :=
  r.each ((r.segsOn m).filter fun s => s.manifest.isNone) fun s r =>
    let r := r.each (s.degr.filter fun d => d.1 == idx) fun d r => if first = 0 then r else r.closeRange s.seg d (first - 1)
    r.segMod s.seg fun x => { x with degr := (x.degr.filter fun d => d.1 != idx) ++ [(idx, r.rd (MAG_RING_LOST_LOST idx), first)] }

/-- What a FAILED ring does to the record on its magazine, while W_1 runs: a changeover, or a stop; the segments there that can no
longer be sealed are left unsealed (R266, Table 10-8). -/
def Run.failedCheck (r : Run s₀) (m : Nat) : Run s₀ :=
  if r.on (MAG_MAG_STATUS_FAILED m) = false ∨ r.duty 1 = false then r
  else
    let mine := r.rd MAG_REC_STATUS_STATE == 2 && r.rd MAG_REC_STATUS_ACTIVE_MAG == m
    let r := if mine && r.canChange then r.changeover true else if mine then r.recStop 3 else r
    let lost := fun (s : Seg) => s.manifest.isNone || ((r.magz m).stripes.any fun x => x.2.dead && s.g0 ≤ x.1 && x.1 < s.g0 + s.issued)
    r.each ((r.segsOn m).filter lost) fun s r => r.segAbandon s

/-- Stripes of a FAILED ring that are not durable never become durable (R266). -/
def Run.ringFailed (r : Run s₀) (m idx : Nat) : Run s₀ :=
  let mine := fun g => match r.ringOf m g with
    | some (q, _) => q.idx == idx
    | none => false
  r.magzMod m fun z => { z with stripes := z.stripes.map fun x => (x.1, { x.2 with dead := x.2.dead || mine x.1 }) }

/-- W_1 runs again: what waited for it is done (R62, R400). -/
def Run.recResume (r : Run s₀) : Run s₀ :=
  if r.duty 1 then (((r.failedCheck 0).failedCheck 1).fullCheck.degradeCheck).recAdvance else r

/-- A detector that fires for a drive already removed acts only on the breach record of the removal (R265). -/
def Run.removedAgain (r : Run s₀) (d inner : Nat) : Run s₀ :=
  let rec go : List Breach → List Breach
    | [] => []
    | b :: l =>
      if b.type == 4 && b.index == d && b.action == 3 then
        { b with count := min (b.count + 1) 0xFFFF, inner := if inner = 0 then b.inner else inner } :: l
      else b :: go l
  r.evt fun e => { e with log := go e.log }

/-- A detector of Table 10-9 fires for a drive, with its cause (R262, R265, R268). `inner` tells whether an inner recovery
was running (R398). -/
def Run.removeDrive (r : Run s₀) (d cause inner : Nat) : Run s₀ :=
  let m := r.magOfDrive d
  if r.drvRemoved d then r.removedAgain d inner
  else
    let member := r.on (MAG_DRV_STATUS_MEMBER d) && r.recordsOn m
    let r := r.breach { type := 4, index := d, cls := if member then 2 else 1, detector := cause, action := if member then 3 else 0,
                        inner := inner, event := if member then 336 + d else 0xFFFFFFFF }
    if !member then (r.when (cause != 4 && cause != 5) fun r => r.drvAbandon d).magCheck m
    else
      let idx := r.rd (MAG_DRV_STATUS_RING d)
      let first := match (r.magz m).stripes.find? fun x => x.2.left.contains d with
        | some x => x.1
        | none => r.nextStripe m
      let geo := (r.magz m).geo
      let i := (lowest (fun i => match geo[i]? with | some g => g.idx == idx | none => false) geo.length).getD 0
      let r := (r.wr (MAG_DRV_STATUS_REMOVED d) 1).wr (MAG_DRV_STATUS_REMOVE_CAUSE d) cause
      let r := r.set (MAG_RING_LOST_LOST idx) (2 ^ r.rd (MAG_DRV_STATUS_SLOT d))
      let r := (r.drvAbandon d).ev (336 + d)
      let r := (r.degrade m idx (ringFrom geo.length i first)).magReplace m
      let r := match geo[i]? with
        | some g => r.ringState g
        | none => r
      let r := r.writeLabel m id
      let r := r.when (r.rd (MAG_RING_STATUS_STATE idx) == 3) fun r => ((r.ringFailed m idx).magSync m).failedCheck m
      (r.magCheck m).recAdvance

/-- A detector on hop 0 of lane l fires: every drive of the lane is removed, or loses its commands (Table 10-9). -/
def Run.removeLane (r : Run s₀) (l cause inner : Nat) : Run s₀ :=
  r.each (List.range (r.chain l)) fun p r =>
    (r.removeDrive (4 * l + p) cause inner).drvMod (4 * l + p) fun v => { v with ident := false }

/-! ## Frames and the clip -/

/-- A frame of a context is lost: in an open clip it leaves a gap (R115, R257, R261). -/
def Run.clipLost (r : Run s₀) (ctx cause fn : Nat) : Run s₀ :=
  match r.curSeg with
  | some s => if r.recCtx ctx then r.segGap s.seg ctx cause fn else r
  | none => r

/-- A frame's place behind those whose FEs came before: by cycle, and in one cycle by context (R274). -/
def IFrame.before (a b : IFrame) : Bool := a.feAt < b.feAt || (a.feAt == b.feAt && a.ctx ≤ b.ctx)

/-- Insert a frame in that order. -/
def insertFe (f : IFrame) : List IFrame → List IFrame
  | [] => [f]
  | x :: l => if x.before f then x :: insertFe f l else f :: x :: l

/-- Frames of a segment that can be appended are, and the clip's new length is judged (R259, R274). -/
def Run.clipPump (r : Run s₀) (n : Nat) : Run s₀ := ((r.segPump n).fullCheck).magSync (r.rd MAG_REC_STATUS_ACTIVE_MAG)

/-- A completed frame joins the open clip, in the order of the FEs (R257, R274). -/
def Run.clipFrame (r : Run s₀) (sn : Nat) : Run s₀ :=
  match r.curSeg with
  | none => r
  | some s =>
    let r := r.frameMod sn fun f => { f with inClip := true }
    match r.frame? sn with
    | none => r
    | some f =>
      let same := s.todo.filter fun x => (r.frame? x).any fun g => g.feAt == f.feAt
      let rest := s.todo.filter fun x => !same.contains x
      let l := (insertFe f (same.filterMap r.frame?)).map IFrame.sn
      (r.segMod s.seg fun x => { x with todo := rest ++ l }).clipPump s.seg

/-- A cycle has passed: the frames whose FEs were accepted in it are appended (R274). -/
def Run.clipCycle (r : Run s₀) : Run s₀ :=
  r.each (r.u.magu.segs.filter fun s => !s.dead && (s.todo.head?.bind r.frame?).any fun f => f.ready r.now) fun s r => r.clipPump s.seg

/-- A media frame of a recorded port has been produced: its audio joins the clip once 4,096 sample frames are gathered (R274). -/
def Run.clipAudio (r : Run s₀) : Run s₀ :=
  match r.curSeg with
  | none => r
  | some s =>
    let len := s.bytes.length
    let r := r.segAudio s.seg false
    if ((r.seg? s.seg).elim len fun x => x.bytes.length) = len then r else (r.fullCheck).magSync (r.rd MAG_REC_STATUS_ACTIVE_MAG)

/-- A recorded frame is complete: it becomes one of its context's newest frames and joins an open clip. -/
def Run.frameRecorded (r : Run s₀) (f : IFrame) : Run s₀ :=
  if !r.recCtx f.ctx then r
  else
    let r := r.mag fun m => { m with recent := m.recent.put f.ctx ((f.sn :: m.recent.look f.ctx []).take 65536) }
    if f.exts.isEmpty then r else r.clipFrame f.sn

/-! ## Record control (R254, R257, R258, R312) -/

/-- A member is too slow for the record (R254). -/
def Run.magSlow (r : Run s₀) (m : Nat) : Bool :=
  let geo := (r.magz m).geo
  (r.members m).any fun x => (r.drv x.1).swr * 1000000 * 1000 * (geo.length * r.magK m) < r.rawRate

/-- The pre-roll does not fit the recording polder (R254). -/
def Run.prerollTooBig (r : Run s₀) (pre : List Nat) : Bool :=
  r.recRows * 3840 < (r.recCtxs.map fun c =>
    match r.vsOfCtx c with
    | some v => (pre.getD c 0 + 4) * slotSize (r.cfgN 0x0402 v 0xC 2) (r.cfgN 0x0402 v 0xE 2) (r.cfgN 0x0402 v 0x18 2)
    | none => 0).foldl (· + ·) 0

/-- The record is armed on magazine m (R254). -/
def Run.recArm (r : Run s₀) (m : Nat) (pre : List Nat) : Run s₀ :=
  ((r.mag fun x => { x with prerolls := pre }).wr MAG_REC_STATUS_ACTIVE_MAG m).recState 1

/-- The frames with which the clip starts: of each context those of its newest that are still in the polder, in the order of
their FEs (R257). -/
def Run.startFrames (r : Run s₀) : List Nat :=
  let want := r.recCtxs.flatMap fun c => (r.u.magu.recent.look c []).take (r.u.magu.prerolls.getD c 0)
  ((r.u.frames.filter fun f => want.contains f.sn && f.complete && !f.exts.isEmpty).foldl (fun l f => insertFe f l) []).map IFrame.sn

/-- RECORD-START: the clip opens (R257, R273, R388). Its CLIP_ID is a free value. -/
def Run.recStart (r : Run s₀) (f : Nat → Run s₀ → Run s₀) : Run s₀ :=
  r.free 128 fun clip r =>
    let m := r.rd MAG_REC_STATUS_ACTIVE_MAG
    let todo := r.startFrames
    let times := todo.filterMap fun sn => (r.frame? sn).map fun f => (f.ts * 1000000000 + f.tns) * 2 ^ 32 + f.tf * 2 ^ 14
    let t0 := times.foldl min (times.headD r.tselQ)
    let aud := r.recPorts.map fun p => (p, ceilDiv (t0 * r.auFs p) secondQ)
    let r := r.mag fun x => { x with start := r.tselQ, startTc := r.timecode, marks := 0 }
    let r := (r.wr MAG_REC_STATUS_STOP_CAUSE 0).openSeg m clip 0 0 false todo aud
    let r := r.each todo fun sn r => r.frameMod sn fun x => { x with inClip := true }
    f clip (((r.recState 2).segPump 0).fullCheck.magSync m)

/-- MARK: TSEL and each recorded context's newest FN join the mark list (R258). -/
def Run.recMark (r : Run s₀) : Run s₀ :=
  match r.curSeg with
  | none => r
  | some s =>
    let t := r.tselQ
    let k := r.u.magu.marks
    let r := r.each r.recCtxs fun c r =>
      match r.vsOfCtx c with
      | some v => r.segEntry s.seg (manEntry 4 c 0 (r.rd (ITK_VS_LAST_FN v)) (timeSec t) (timeNs t + timeFrac t * 2 ^ 32) (Config.markBase + k) 0)
      | none => r
    r.mag fun x => { x with marks := k + 1 }

/-! ## Issue (R256) -/

/-- One stripe of a segment is issued from its bytes. -/
def Run.segIssue (r : Run s₀) (s : Seg) : Run s₀ :=
  let sb := r.stripeBytes s.mag
  let r := r.issueStripe s.mag (s.g0 + s.issued) ((s.bytes.drop (s.issued * sb)).take sb)
  r.segMod s.seg fun x => { x with issued := x.issued + 1 }

/-- The oldest segment with a full stripe issues it; a stopped segment whose frames are all appended is finished first
(R256, R257, R277). -/
def Run.stripeIssue (r : Run s₀) : Run s₀ :=
  let st := r.rd MAG_REC_STATUS_STATE
  if st < 2 ∨ (st = 4 ∧ r.u.magu.resume = false) ∨ r.u.glb.phase = .warmDrain then r
  else
  let has := fun (s : Seg) => decide (s.issued * r.stripeBytes s.mag + r.stripeBytes s.mag ≤ s.bytes.length) && 0 < r.stripeBytes s.mag
  let ends := fun (s : Seg) => r.duty 1 && s.stop.isSome && s.todo.isEmpty && s.manifest.isNone && 0 < r.stripeBytes s.mag
  match r.u.magu.segs.find? fun s => !s.dead && (has s || ends s) with
  | none => r
  | some s =>
    let r := if has s then r.segIssue s
      else
        let r := r.segFinish s.seg
        match r.seg? s.seg with
        | some x => r.segIssue x
        | none => r
    (r.fullCheck.recAdvance).magSync s.mag

/-! ## Media frames -/

/-- A port's media instant passes: its media frame is produced, joins the clip and the feeds, or is played (R383, R386, R387). -/
def execMediaFrame (p : Fin 8) (s : State) : Host.Outcome State Fault Refusal := done s fun r => (r.auMedia p).clipAudio

end Sys2Proof.Machine
end

