-- ==== Sys2Proof/Machine/Pack.lean ====
section
/-!
DEFINITION. PAK's packing jobs in the recording polder (R282, R283, R287).
-/
namespace Sys2Proof.Machine
variable {s₀ : State}

/-- PACKING follows the jobs: a frame has coded slices and has not ended. -/
def Run.pakSync (r : Run s₀) : Run s₀ :=
  r.wr PAK_STATUS_PACKING (b2n (r.u.frames.any fun f => f.packed && f.slices != 0 && f.pakDone.isNone))

/-- Frames that waited for PAK may now be appended. -/
def Run.pakRelease (r : Run s₀) : Run s₀ :=
  (r.each (r.u.magu.segs.map Seg.seg) fun n r => r.segPump n).fullCheck

/-- Payload bytes go to the slot in whole parity rows, never beyond the raw bytes read (R287). -/
def Run.pakStore (r : Run s₀) (sn : Nat) : Run s₀ :=
  match r.frame? sn with
  | none => r
  | some f =>
    let upTo := (f.rawOff + min f.pakOut.length f.pakRaw.length) / 3840 * 3840 - f.rawOff
    let r := r.slotStore f (f.rawOff + f.pakPut) ((f.pakOut.drop f.pakPut).take (upTo - f.pakPut))
    r.frameMod sn fun x => { x with pakPut := max x.pakPut upTo }

/-- A packing job fails with a cause: the slot holds the packed prefix of the raw bytes read, with the raw after them untouched, and
the frame is stored unpacked (R287). -/
def Run.pakFail (r : Run s₀) (f : IFrame) (cause : Nat) : Run s₀ :=
  let r := match r.frame? f.sn with
    | some f => r.slotStore f (f.rawOff + f.pakPut) ((f.pakOut.take f.pakRaw.length).drop f.pakPut)
    | none => r
  let r := r.frameMod f.sn fun x => { x with pakDone := some cause, pakOut := [] }
  let r := ((r.sat PAK_COUNT_FALLBACKS).wr PAK_STATUS_FAIL_CAUSE cause).wr PAK_FAIL_FN_FN f.fn
  (r.pakSync.ev 320).pakRelease

/-- The job ends after its last slice: with the table appended the payload is stored, zeros behind it in its last parity row, or it is
too long (R251, R283, R287, R18). -/
def Run.pakEnd (r : Run s₀) (f : IFrame) : Run s₀ :=
  let orig := f.w * f.h * 9 / 4
  let table := f.offs.flatMap (le 4)
  let out := f.pakOut ++ padWords table
  if orig < out.length then r.pakFail f 2
  else
    let last := f.rawOff + out.length
    let r := r.slotStore f (f.rawOff + f.pakPut) (out.drop f.pakPut ++ List.replicate (ceilDiv last 3840 * 3840 - last) 0#8)
    let r := r.frameMod f.sn fun x =>
      { x with pakDone := some 0, stored := out.length, pakRaw := [], pakOut := [],
               exts := takeRows (ceilDiv (x.rawOff + out.length) 3840) x.exts }
    ((r.wr PAK_RATIO_RATIO (out.length * 65536 / orig)).pakSync).pakRelease

/-- The next slice of a frame is coded (R283, R287). -/
def Run.pakSlice (r : Run s₀) (f : IFrame) : Run s₀ :=
  let y0 := 64 * f.slices
  let n := min 64 (f.h - y0)
  let off := f.rawOff + y0 * f.w * 9 / 4
  let len := n * f.w * 9 / 4
  let per := r.packPeriod f.ctx
  let ok := r.slotReadable f off len
  let raw := r.slotBytes f off len
  let v := ofLe raw
  let rows := (List.range n).map fun j => (List.range f.w).map fun x => bits v (18 * (j * f.w + x)) 18
  let r := r.slotRead f off len
  if !ok then (r.frameMod f.sn fun x => { x with unreadable := true }).pakFail f 3
  else
    let x := codeBlocks (8 * f.pakOut.length) (y0 * f.w * 9 / 4) (sliceBlocks per.1 per.2 rows) []
    let r := r.inc PAK_IN_BYTES_BYTES (x.2.1 - y0 * f.w * 9 / 4)
    if x.2.2 then
      let raw := raw.take (x.2.1 - y0 * f.w * 9 / 4)
      (r.frameMod f.sn fun f => { f with pakOut := f.pakOut ++ bitBytes x.1, pakRaw := f.pakRaw ++ raw }).pakFail f 1
    else
      let b := bitBytes x.1
      let r := (r.inc PAK_OUT_BYTES_BYTES b.length).frameMod f.sn fun f =>
        { f with slices := f.slices + 1, offs := f.offs ++ [f.pakOut.length], pakOut := f.pakOut ++ b, pakRaw := f.pakRaw ++ raw }
      let r := (r.pakStore f.sn).pakSync
      match r.frame? f.sn with
      | some f => if f.h ≤ 64 * f.slices then r.pakEnd f else r
      | none => r

/-- The oldest frame whose next slice lies in the recording polder. -/
def Run.pakNext (r : Run s₀) : Option IFrame :=
  r.u.frames.find? fun f =>
    f.packed && f.pakDone.isNone && !f.exts.isEmpty && decide (min (64 * f.slices + 64) f.h ≤ (if f.complete then f.h else f.nextY))

/-- PACK_SLICE: PAK codes the next slice of the oldest frame that has one in the polder; a job that PAK, faulted or retired,
cannot start fails (R287). -/
def execPackSlice (s : State) : Host.Outcome State Fault Refusal :=
  done s fun r =>
    match r.pakNext with
    | none => r
    | some f => if r.on PAK_STATUS_RETIRED || r.isResetting 7 0 then r.pakFail f 3 else r.pakSlice f

/-- An internal fault of PAK: its jobs in progress fail, and it resets or is retired (R287, R395, Table 15-2). -/
def Run.pakFault (r : Run s₀) : Run s₀ :=
  if r.on PAK_STATUS_RETIRED then r
  else
    let x := r.internalFault 7 0
    let r := x.2.when x.1 fun r => r.wr PAK_STATUS_RETIRED 1
    r.each (r.u.frames.filter fun f => f.packed && f.slices != 0 && f.pakDone.isNone) fun f r => r.pakFail f 3

end Sys2Proof.Machine
end

