-- ==== Sys2Proof/Machine/Sqi.lean ====
section
/-!
DEFINITION. The Stolori queue interface: queues and doorbells (R296 to R300), fetching and dispatch (R304, R305), the checks
of a command (R301, R302), completions and the error log (R297, R303, R325), and queue resets (R327).
-/
namespace Sys2Proof.Machine
variable {s₀ : State}

/-! ## State -/

/-- Change SQI. -/
def Run.qif (r : Run s₀) (f : QifU → QifU) : Run s₀ := r.mod fun u => { u with qif := f u.qif }

/-- A queue. -/
def Run.queue (r : Run s₀) (q : Nat) : QueueU := r.u.qif.q.look q {}

/-- Completions written to a queue's CQ and not released (R299). -/
def QueueU.held (x : QueueU) : Nat := if x.depth = 0 then 0 else (x.cqTail + x.depth - x.cqHead) % x.depth

/-- The registers of a queue follow it: SQ_HEAD, CQ_TAIL, PHASE, INFLIGHT. -/
def Run.queueSync (r : Run s₀) (q : Nat) : Run s₀ :=
  let x := r.queue q
  (((r.wr (QIF_Q_INDEX_SQ_HEAD q) x.head).wr (QIF_Q_INDEX_CQ_TAIL q) x.cqTail).wr (QIF_Q_INDEX_PHASE q) (b2n x.phase)).wr
    (QIF_Q_STATUS_INFLIGHT q) (x.fetched + x.held)

/-- Change a queue. -/
def Run.queueMod (r : Run s₀) (q : Nat) (f : QueueU → QueueU) : Run s₀ :=
  (r.qif fun u => { u with q := u.q.put q (f (u.q.look q {})) }).queueSync q

/-- STATE of a queue (Table 12-13). -/
def Run.queueState (r : Run s₀) (q : Nat) : Nat := r.rd (QIF_Q_STATUS_STATE q)

/-- A new queue, both indices 0 and PHASE 1 (R296, R308). -/
def Run.queueNew (r : Run s₀) (q depth sq cq cls vector coalN coalT : Nat) : Run s₀ :=
  let r := r.queueMod q fun _ => { depth := depth, sq := sq, cq := cq, coalN := coalN, coalT := coalT }
  ((r.wr (QIF_Q_STATUS_STATE q) 1).wr (QIF_Q_STATUS_CLASS q) cls).wr (QIF_Q_STATUS_VECTOR q) vector

/-- A queue is no more. -/
def Run.queueGone (r : Run s₀) (q : Nat) : Run s₀ :=
  let r := r.queueMod q fun _ => {}
  (((r.wr (QIF_Q_STATUS_STATE q) 0).wr (QIF_Q_STATUS_CLASS q) 0).wr (QIF_Q_STATUS_VECTOR q) 0).wr (QIF_Q_INDEX_PHASE q) 0

/-! ## Doorbells (R297, R298) -/

/-- An ignored doorbell write is recorded and counted (R298). -/
def Run.doorbellNoted (r : Run s₀) (q kind : Nat) : Run s₀ :=
  (((r.wr QIF_DB_ERR_QID q).wr QIF_DB_ERR_KIND kind).hwSet QIF_DB_ERR_VALID 1).sat QIF_COUNT_DB_ERR

/-- An ignored doorbell write (R298). -/
def Run.doorbellErr (r : Run s₀) (q kind : Nat) : Run s₀ := (r.doorbellNoted q kind).ev 401

/-- A write of QIF_SQ_TAIL_q (R297, R298). DEDUCED (assumption 59): that of a queue being reset is recorded with KIND 3 as R298 has it,
but raises no event, as R327 has it. -/
def Run.writeSqTail (r : Run s₀) (q : Nat) (v : Nat) : Run s₀ :=
  if r.queueState q = 0 then r.doorbellErr q 3
  else if r.queueState q = 3 then r.doorbellNoted q 3
  else if (r.queue q).depth ≤ v then r.doorbellErr q 1
  else r.queueMod q fun x => { x with tail := v }

/-- SQ_TAIL: a write of QIF_SQ_TAIL_q (R297, R298). -/
def execSqTail (q : Fin 64) (v : Nat) (s : State) : Host.Outcome State Fault Refusal := done s fun r => r.writeSqTail q v

/-- A write of QIF_CQ_HEAD_q (R297, R298, R299). -/
def Run.writeCqHead (r : Run s₀) (q : Nat) (v : Nat) : Run s₀ :=
  let x := r.queue q
  if r.queueState q = 0 then r.doorbellErr q 3
  else if r.queueState q = 3 then r.doorbellNoted q 3
  else if x.depth ≤ v ∨ x.held < (v + x.depth - x.cqHead) % x.depth then r.doorbellErr q 2
  else r.queueMod q fun x => { x with cqHead := v }

/-- CQ_HEAD: a write of QIF_CQ_HEAD_q releases completions (R297, R298, R299). -/
def execCqHead (q : Fin 64) (v : Nat) (s : State) : Host.Outcome State Fault Refusal := done s fun r => r.writeCqHead q v

/-! ## Completions (R297, R300, R303, R325) -/

/-- `n` bytes of a command's entry. -/
def Cmd.f (c : Cmd) (off n : Nat) : Nat := field c.entry off n

/-- The opcode. -/
def Cmd.opc (c : Cmd) : Nat := c.f 0 1

/-- The message of a queue's completions: at once for an URGENT queue, COAL_N below 2 or a COAL_T of 0 µs, else when COAL_N are
pending (R300). -/
def Run.queueSignal (r : Run s₀) (q : Nat) : Run s₀ :=
  let x := r.queue q
  if r.rd (QIF_Q_STATUS_CLASS q) = 0 ∨ x.coalN ≤ 1 ∨ x.coalT = 0 ∨ x.coalN ≤ x.unsent + 1 then
    (r.queueMod q fun x => { x with unsent := 0 }).sendMsix (r.rd (QIF_Q_STATUS_VECTOR q))
  else r.queueMod q fun x => { x with unsent := x.unsent + 1 }

/-- A queue whose reset waits for its commands has none left: its indices return to 0, or it is deleted (R327). Answers the
number of the admin command to complete with its RESULT. -/
def Run.resetDone (r : Run s₀) (q : Nat) : Option (Nat × Nat) × Run s₀ :=
  match r.u.qif.resets.find? fun x => x.1 == q with
  | none => (none, r)
  | some x =>
    if r.u.qif.cmds.any fun c => c.q == q then (none, r)
    else
      let r := r.qif fun u => { u with resets := u.resets.filter fun y => y.1 != q }
      let r := if x.2.1 then r.queueGone q
        else (r.queueMod q fun y => { y with tail := 0, head := 0, cqTail := 0, cqHead := 0, phase := true, fetched := 0, unsent := 0 }).wr
          (QIF_Q_STATUS_STATE q) 1
      let r := r.when (q == 0 && !x.2.1) fun r => r.wr QIF_STATUS_ADMIN_ERR 0
      (x.2.2.1.map fun no => (no, x.2.2.2.1 + x.2.2.2.2 * 2 ^ 16), r)

/-- The completion entry of a command is written and its queue signals; a status neither OK nor ABORTED_BY_QUEUE_RESET is
logged (R297, R303, R325). -/
def Run.postCompletion (r : Run s₀) (c : Cmd) (status result detail : Nat) (durable : Bool) : Run s₀ :=
  let x := r.queue c.q
  let r := r.when (status != 0 && status != 37) fun r =>
    r.qif fun u =>
      { u with errSeq := u.errSeq + 1,
               log := (⟨(u.errSeq + 1) % 2 ^ 32, c.q, c.f 2 2, c.opc, status, r.tselQ, detail⟩ :: u.log).take 64 }
  let bytes := le 8 result ++ le 2 x.head ++ le 2 c.q ++ le 2 (c.f 2 2) ++ le 1 status ++ le 1 (b2n durable + 128 * b2n x.phase)
  let r := r.toHost (.hostWrite (x.cq + 16 * x.cqTail) bytes)
  let wrap := x.cqTail + 1 = x.depth
  let r := r.queueMod c.q fun y =>
    { y with cqTail := if wrap then 0 else y.cqTail + 1, phase := y.phase != wrap, fetched := y.fetched - 1 }
  r.queueSignal c.q

/-- A command completes; completions may end a queue reset, which completes the admin command that asked for it (R302, R327). -/
def Run.completeWith (r : Run s₀) (no status result detail : Nat) (durable : Bool) : Run s₀ :=
  match r.u.qif.cmds.find? fun c => c.no == no with
  | none => r
  | some c =>
    let r := r.qif fun u =>
      { u with cmds := u.cmds.filter fun x => x.no != no, jobs := u.jobs.filter fun j => j.no != no,
               resets := u.resets.map fun y => if y.1 = c.q then (y.1, y.2.1, y.2.2.1, y.2.2.2.1, y.2.2.2.2 + b2n durable) else y }
    let rec_ := 0x10 ≤ c.opc && c.opc ≤ 0x13
    let r := r.postCompletion c (if c.aborted && !rec_ then 37 else status) result detail durable
    let x := r.resetDone c.q
    match x.1 with
    | none => x.2
    | some (adm, res) =>
      match x.2.u.qif.cmds.find? fun c => c.no == adm with
      | none => x.2
      | some c =>
        let r := x.2.qif fun u => { u with cmds := u.cmds.filter fun x => x.no != adm }
        (r.postCompletion c (if c.aborted then 37 else 0) res 0 false).resetDone c.q |>.2

/-- A command completes with a status and result. -/
def Run.complete (r : Run s₀) (no status result : Nat) : Run s₀ := r.completeWith no status result 0 false

/-- A command completes with INVALID_FIELD at a byte offset of its entry (R303). -/
def Run.invalidField (r : Run s₀) (no off : Nat) : Run s₀ := r.completeWith no 33 0 off false

/-- COALESCE_TIMEOUT: COAL_T has passed since a queue's first pending completion (R300). -/
def execCoalesceTimeout (q : Fin 64) (s : State) : Host.Outcome State Fault Refusal :=
  done s fun r =>
    if (r.queue q).unsent = 0 then r
    else (r.queueMod q fun x => { x with unsent := 0 }).sendMsix (r.rd (QIF_Q_STATUS_VECTOR q))

/-- A vector is unmasked (R300). -/
def Run.unmask (r : Run s₀) (v : Nat) : Run s₀ :=
  let r := r.wr (QIF_MSIX_MASK v) 0
  if bit (r.rd QIF_PBA) v then (r.clear QIF_PBA (2 ^ v)).sendMsix v else r

/-- MSIX_UNMASK: the host unmasks a vector; a message that waited in the PBA is sent (R300). -/
def execMsixUnmask (v : Fin 64) (s : State) : Host.Outcome State Fault Refusal := done s fun r => r.unmask v

/-! ## Fetching (R299, R304) -/

/-- Entries that may be fetched from a queue now (R299), up to the end of its ring. -/
def Run.fetchable (r : Run s₀) (q : Nat) : Nat :=
  let x := r.queue q
  if r.queueState q ≠ 1 ∨ x.depth = 0 then 0
  else min (min ((x.tail + x.depth - x.head) % x.depth) (x.depth - 1 - (x.fetched + x.held))) (x.depth - x.head)

/-- The first queue of a class with entries after the last one chosen, in queue-number order, wrapping. -/
def Run.nextQueue (r : Run s₀) (cls : Nat) : Option Nat :=
  let last := r.u.qif.last.look cls 0
  ((List.range 64).map fun i => (last + 1 + i) % 64).find? fun q => r.rd (QIF_Q_STATUS_CLASS q) == cls && 0 < r.fetchable q

/-- The weight of a class (R304). -/
def Run.arbWeight (r : Run s₀) (cls : Nat) : Nat :=
  1 + (if cls = 1 then r.rd QIF_ARB_W_HIGH else if cls = 2 then r.rd QIF_ARB_W_MEDIUM else r.rd QIF_ARB_W_LOW)

/-- Read n entries of a queue in one request. -/
def Run.fetchFrom (r : Run s₀) (cls q n : Nat) : Run s₀ :=
  let x := r.queue q
  let r := r.qif fun u => { u with reading := some (q, x.head, n, true), last := u.last.put cls q }
  r.emit (.hostRead (x.sq + 64 * x.head) (64 * n))

/-- FETCH_READ: with no read outstanding the fetcher chooses a queue and reads entries (R304). -/
def execFetchRead (s : State) : Host.Outcome State Fault Refusal :=
  done s fun r =>
    if r.u.qif.reading.isSome || r.on QIF_STATUS_FETCH_STOPPED || !r.mayRequest then r
    else
      match r.nextQueue 0 with
      | some q => r.fetchFrom 0 q (min 8 (r.fetchable q))
      | none =>
        let open_ := [1, 2, 3].filter fun c => (r.nextQueue c).isSome
        let credit := fun (r : Run s) c => r.u.qif.credit.look c 0
        let r := if open_.any fun c => 0 < credit r c then r
          else r.qif fun u => { u with credit := [(1, r.arbWeight 1), (2, r.arbWeight 2), (3, r.arbWeight 3)] }
        match open_.find? fun c => 0 < credit r c with
        | none => r
        | some c =>
          match r.nextQueue c with
          | none => r
          | some q =>
            let n := min (min 8 (r.fetchable q)) (credit r c)
            (r.qif fun u => { u with credit := u.credit.put c (credit r c - n) }).fetchFrom c q n

/-- ENTRIES_FETCHED: the read of entries returns their bytes, or fails and puts the queue in error (R304, R332). -/
def execEntriesFetched (data : Option (List Byte)) (s : State) : Host.Outcome State Fault Refusal :=
  done s fun r =>
    match r.u.qif.reading with
    | none => r
    | some (q, at_, n, live) =>
      let r := r.qif fun u => { u with reading := none }
      if !live then r
      else
        match data with
        | none =>
          let r := (r.wr (QIF_Q_STATUS_STATE q) 2).sat QIF_COUNT_HOST_ERR
          (r.when (q == 0) fun r => r.wr QIF_STATUS_ADMIN_ERR 1).ev 402
        | some bs =>
          let urgent := r.rd (QIF_Q_STATUS_CLASS q) == 0
          let r := r.each (List.range n) fun i r =>
            r.qif fun u =>
              { u with next := u.next + 1, cmds := u.cmds ++ [{ no := u.next, q := q, urgent := urgent, entry := padTo 64 ((bs.drop (64 * i)).take 64) }] }
          r.queueMod q fun x => { x with head := (at_ + n) % x.depth, fetched := x.fetched + n }

/-! ## Checks (R301, R302) -/

/-- A command's fields: each with its offset and whether it is in range; then the bytes from 0x18 that the command names. -/
def Cmd.fields (c : Cmd) : List (Nat × Bool) × List (Nat × Nat) :=
  let f := c.f
  let mode := f 0x19 1
  match c.opc with
  | 0x01 => ([(0x18, f 0x18 1 ≤ 2)], (0x18, 1) :: if f 0x18 1 = 2 then [(0x20, 32)] else [])
  | 0x02 => ([], [(0x18, 16)])
  | 0x03 => ([(1, !bit (f 1 1) 0), (0x18, 1 ≤ f 0x18 2 && f 0x18 2 ≤ 63), (0x1A, 1 ≤ f 0x1A 2 && f 0x1A 2 ≤ 4095), (0x1C, f 0x1C 1 ≤ 3),
      (0x1D, f 0x1D 1 ≤ 63)], [(0x18, 8)])
  | 0x04 => ([(0x18, 1 ≤ f 0x18 2 && f 0x18 2 ≤ 63)], [(0x18, 2)])
  | 0x05 => ([(0x18, 1 ≤ f 0x18 2 && f 0x18 2 ≤ 63)], [(0x18, 2)])
  | 0x06 => ([(0x18, 1 ≤ f 0x18 1 && f 0x18 1 ≤ 4), (0x19, f 0x19 1 = 0 || (f 0x18 1 = 3 && f 0x19 1 ≤ 63)), (0x20, f 0x20 4 ≤ 67108864 && f 0x20 4 % 4 = 0)],
      [(0x18, 2), (0x1C, 8)])
  | 0x07 => ([(0x18, f 0x18 4 ≤ 511)], [(0x18, 8)])
  | 0x08 => ([(0x18, 256 ≤ f 0x18 4 && f 0x18 4 ≤ (if f 0x1C 1 = 2 then 4194304 else 2097152) && f 0x18 4 % 4 = 0), (0x1C, f 0x1C 1 ≤ 2)],
      [(0x18, 5)])
  | 0x09 => ([(0x18, f 0x18 1 ≤ 1)], [(0x18, 1)])
  | 0x0A => ([(0x18, f 0x18 1 ≤ 1)], [(0x18, 1)])
  | 0x0B => ([(0x18, f 0x18 1 ≤ 1), (0x19, f 0x19 1 ≤ 1)], [(0x18, 2)])
  | 0x10 => ([(0x18, f 0x18 1 ≤ 1)], [(0x18, 1), (0x20, 32)])
  | 0x14 => ([(0x18, f 0x18 1 ≤ 1), (0x19, mode ≤ 2), (0x1A, mode != 2 || f 0x1A 1 ≤ 15), (0x1C, mode != 0 || f 0x1C 4 ≤ 4095)],
      (0x18, 2) :: if mode = 0 then [(0x1C, 4)] else if mode = 1 then [(0x20, 8), (0x28, 18)] else [(0x1A, 1), (0x20, 8)])
  | 0x15 => ([(0x18, f 0x18 1 ≤ 15), (0x20, f 0x20 8 % 4 = 0), (0x28, 4 ≤ f 0x28 4 && f 0x28 4 ≤ 67108864 && f 0x28 4 % 4 = 0)],
      [(0x18, 1), (0x20, 12)])
  | 0x16 => ([(0x18, f 0x18 1 ≤ 15), (0x20, f 0x20 8 % 4096 = 0), (0x28, 4096 ≤ f 0x28 4 && f 0x28 4 ≤ 67108864 && f 0x28 4 % 4096 = 0)],
      [(0x18, 1), (0x20, 12)])
  | 0x18 => ([(0x19, f 0x19 1 ≤ 15 || f 0x19 1 = 0xFF), (0x1C, f 0x1C 4 ≤ 67108864 && f 0x1C 4 % 4 = 0)], [(0x18, 2), (0x1C, 4)])
  | 0x19 => ([(0x18, f 0x18 1 ≤ 1), (0x1C, f 0x1C 4 ≤ 67108864 && f 0x1C 4 % 4 = 0)], [(0x18, 1), (0x1C, 4)])
  | 0x1A => ([(0x18, f 0x18 1 ≤ 1), (0x19, f 0x19 1 ≤ 2), (0x1A, f 0x1A 1 ≤ 1), (0x1C, f 0x1C 4 ≤ 4095), (0x20, f 0x1A 1 = 0 || f 0x20 8 = 0),
      (0x28, f 0x28 4 ≤ 67108864 && f 0x28 4 % 4 = 0)], [(0x18, 3), (0x1C, 16)])
  | _ => ([], [])

/-- The command moves data between host memory and the device. -/
def Cmd.moves (c : Cmd) : Bool := [0x01, 0x06, 0x08, 0x15, 0x16, 0x18, 0x19, 0x1A].contains c.opc

/-- The lowest offset of a field that fails its range, of a reserved byte that is not 0, or of a malformed pointer (R301,
R302, R303). -/
def Cmd.badField (c : Cmd) : Option Nat :=
  let x := c.fields
  let sgl := bit (c.f 1 1) 0
  let head : List (Nat × Bool) := [(1, c.f 1 1 ≤ (if c.opc = 0x16 then 3 else 1)), (4, c.f 4 4 = 0)]
  let ptr : List (Nat × Bool) := if c.moves then
      [(8, if sgl then c.f 8 8 % 16 = 0 else c.f 8 8 % 4 = 0), (0x10, !sgl || (1 ≤ c.f 0x10 8 && c.f 0x10 8 ≤ 4096))] else []
  let rest : List (Nat × Bool) := ((List.range 40).map (· + 0x18)).map fun o => (o, (x.2.any fun n => n.1 ≤ o && o < n.1 + n.2) || c.f o 1 = 0)
  let bad := ((head ++ ptr ++ x.1 ++ rest).filter fun p => !p.2).map Prod.fst
  if bad.isEmpty then none else some (bad.foldl min 0x40)

/-- The opcode is known and permitted on the queue. -/
def Cmd.known (c : Cmd) : Bool :=
  (1 ≤ c.opc && c.opc ≤ 0xB && (c.q = 0 || c.opc = 1 || c.opc = 6)) || (0x10 ≤ c.opc && c.opc ≤ 0x1A)

/-- The features that a command needs (Table 12-5). -/
def Cmd.needs (c : Cmd) : Option Nat :=
  match c.opc with
  | 0x03 => if c.f 0x1C 1 = 0 then some 22 else none
  | 0x08 => if c.f 0x1C 1 = 0 then none else some 23
  | 0x0A => some 19
  | 0x0B => some 19
  | 0x1A => some 10
  | _ => none

/-- Checks 1 to 5 of R302: the status and DETAIL of the first that fails. -/
def Run.precheck (r : Run s₀) (c : Cmd) : Option (Nat × Nat) :=
  if !c.known then some (32, 0)
  else if !r.on GLB_FEAT_CTL_LOCKED && !(c.q = 0 && (c.opc = 1 || c.opc = 2 || c.opc = 6)) then some (34, 0)
  else if (c.needs.map fun n => !r.feature n).getD false then some (7, 0)
  else if (0x10 ≤ c.opc && c.opc ≤ 0x13 && r.reader) || (c.opc = 0x1A && !r.reader) then some (46, 0)
  else c.badField.map fun o => (33, o)

/-- COMMAND_DISPATCH: W_0 dispatches the next fetched command, URGENT ones first: it completes at the first of the checks that
fails, or is started (R302, R305). -/
def execCommandDispatch (s : State) : Host.Outcome State Fault Refusal :=
  done s fun r =>
    let wait := r.u.qif.cmds.filter fun c => !c.started
    match (wait.find? Cmd.urgent).or wait.head? with
    | none => r
    | some c =>
      if !r.duty 0 then r
      else
        match r.precheck c with
        | some (st, d) => r.completeWith c.no st 0 d false
        | none => r.qif fun u => { u with cmds := u.cmds.map fun x => if x.no = c.no then { x with started := true } else x }

/-! ## Started commands and transfers (R301, R305) -/

/-- A recording-control command: these run one at a time, in dispatch order (R305). -/
def Cmd.control (c : Cmd) : Bool := 0x10 ≤ c.opc && c.opc ≤ 0x13

/-- Two commands of one queue touch common bytes of one segment (R321). -/
def Run.hazard (r : Run s₀) (a b : Cmd) : Bool :=
  let ext := fun (c : Cmd) => c.opc == 0x15 || c.opc == 0x16
  let place := fun (c : Cmd) => (r.u.qif.handles.look (c.f 0x18 1) ⟨0, 0, 0, 0, 0, false, []⟩)
  a.q == b.q && ext a && ext b && (place a).mag == (place b).mag && (place a).startG == (place b).startG
    && a.f 0x20 8 < b.f 0x20 8 + b.f 0x28 4 && b.f 0x20 8 < a.f 0x20 8 + a.f 0x28 4

/-- The oldest started command of an opcode that nothing holds back. -/
def Run.startedCmd (r : Run s₀) (opc : Nat) : Option Cmd :=
  let cs := r.u.qif.cmds
  cs.find? fun c => c.started && !c.running && c.opc == opc
    && !(cs.any fun e => decide (e.no < c.no) && ((c.control && e.control && e.started) || r.hazard e c))

/-- `f` on the oldest started command of an opcode; nothing when there is none. -/
def Run.onCmd (r : Run s₀) (opc : Nat) (f : Cmd → Run s₀ → Run s₀) : Run s₀ :=
  match r.startedCmd opc with
  | some c => f c r
  | none => r

/-- The command has begun its work and waits for its end. -/
def Run.cmdRuns (r : Run s₀) (no : Nat) : Run s₀ :=
  r.qif fun u => { u with cmds := u.cmds.map fun x => if x.no = no then { x with running := true } else x }

/-- The buffer of a command: its segments, checked when they are a list (R301); none when they do not hold `len` bytes. A list
that the host does not return has nothing to check: the command ends as one whose transfer fails. -/
def Cmd.buffer (c : Cmd) (h : HostData) (len : Nat) : Option (List (Nat × Nat)) :=
  if !bit (c.f 1 1) 0 then some [(c.f 8 8, len)]
  else if !h.ok && decide (h.segs.length < c.f 0x10 2) then some []
  else
    let segs := h.segs.take (c.f 0x10 2)
    if (segs.all fun s => s.1 % 4 == 0 && s.2 % 4 == 0) && len ≤ segs.foldl (fun a s => a + s.2) 0 then some segs else none

/-- Bytes go to the segments of a buffer in list order. -/
def Run.scatter (r : Run s₀) (l : List (Nat × Nat)) (bs : List Byte) (noSnoop : Bool := false) : Run s₀ :=
  match l with
  | [] => r
  | s :: l => if bs.isEmpty then r else Run.scatter (r.toHost (.hostWrite s.1 (bs.take s.2) noSnoop)) l (bs.drop s.2) noSnoop

/-- The data buffers of VISION-FETCH and PROXY-FETCH use No-Snoop while F1 is negotiated (R324). -/
def Run.noSnoop (r : Run s₀) (c : Cmd) : Bool := r.feature 1 && (c.opc == 0x18 || c.opc == 0x19)

/-- A command's answer goes to its buffer and it completes: with DATA_TRANSFER_ERROR when host memory cannot be reached, with
INVALID_FIELD when its segment list is malformed (R301, R302). -/
def Run.answerCmd (r : Run s₀) (c : Cmd) (h : HostData) (bs : List Byte) (result : Nat) : Run s₀ :=
  match c.buffer h bs.length with
  | none => r.invalidField c.no 8
  | some segs =>
    if h.ok then (r.scatter segs bs (r.noSnoop c)).complete c.no 0 result
    else (r.sat QIF_COUNT_HOST_ERR).complete c.no 39 0

/-! ## Queue resets (R327) -/

/-- Steps 1 to 4 of the reset or deletion of a queue; it ends when the queue's commands have. `adm` is the admin command that
asked for it. -/
def Run.queueReset (r : Run s₀) (q : Nat) (delete : Bool) (adm : Option Nat) : Run s₀ :=
  let mine := r.u.qif.cmds.filter fun c => c.q == q && some c.no != adm
  let stay := fun (c : Cmd) => c.started && (c.control || (c.opc == 0x16 && c.running))
  let r := r.qif fun u =>
    { u with reading := u.reading.map fun x => if x.1 = q then (x.1, x.2.1, x.2.2.1, false) else x,
             resets := u.resets ++ [(q, delete, adm, 0, 0)],
             cmds := u.cmds.map fun c => if c.q = q ∧ some c.no ≠ adm then { c with aborted := true } else c }
  let r := (r.wr (QIF_Q_STATUS_STATE q) 3).queueMod q fun x => { x with head := x.tail }
  let r := r.qif fun u =>
    { u with resets := u.resets.map fun y => if y.1 = q then (y.1, y.2.1, y.2.2.1, (mine.filter fun c => !stay c).length, y.2.2.2.2) else y }
  let r := r.each (mine.filter fun c => !stay c) fun c r => r.completeWith c.no 37 0 0 false
  if mine.isEmpty then
    let x := r.resetDone q
    match x.1 with
    | some (no, res) => x.2.complete no 0 res
    | none => x.2
  else r

/-- A write of 1 to QIF_CTL.EN (R296). DESIGN CHOICE (assumption 60): it has no effect while the admin queue of an earlier EN is
still being deleted. -/
def Run.qifEnable (r : Run s₀) : Run s₀ :=
  if r.on QIF_CTL_EN || r.queueState 0 == 3 then r
  else if !r.on GLB_BOOT_STATUS_READY || !r.u.glb.busMaster then r.ignored
  else
    let r := r.queueNew 0 (r.rd QIF_ADMIN_DEPTH_DEPTH_M1 + 1) (r.rd QIF_ADMIN_SQ_BASE_ADDR / 4096 * 4096)
      (r.rd QIF_ADMIN_CQ_BASE_ADDR / 4096 * 4096) 0 0 0 0
    (r.wr QIF_CTL_EN 1).wr QIF_STATUS_RDY 1

/-- EN: a write of QIF_CTL.EN = 1 creates the admin queue (R296). -/
def execEn (s : State) : Host.Outcome State Fault Refusal := done s fun r => r.qifEnable

/-- A write of 0 to QIF_CTL.EN (R327). -/
def Run.qifDisable (r : Run s₀) : Run s₀ :=
  if !r.on QIF_CTL_EN then r
  else
    let r := (r.wr QIF_CTL_EN 0).wr QIF_STATUS_RDY 0
    let r := r.qif fun u => { u with resets := u.resets.map fun y => (y.1, true, none, y.2.2.2) }
    let r := r.each ((List.range 64).filter fun q => r.queueState q == 1 || r.queueState q == 2) fun q r => r.queueReset q true none
    r.wr QIF_STATUS_ADMIN_ERR 0

/-- QIF_DISABLE: a write of QIF_CTL.EN = 0 resets every queue and then deletes them all (R327). -/
def execQifDisable (s : State) : Host.Outcome State Fault Refusal := done s fun r => r.qifDisable

/-- A write of 1 to QIF_CTL.ADMIN_RESET (R327). -/
def Run.adminReset (r : Run s₀) : Run s₀ :=
  if !r.on QIF_CTL_EN || r.queueState 0 == 3 then r else r.queueReset 0 false none

/-- ADMIN_RESET: the admin queue is reset (R327); ignored while EN is 0. -/
def execAdminReset (s : State) : Host.Outcome State Fault Refusal := done s fun r => r.adminReset

/-- CREATE_QUEUE (R308). -/
def execCreateQueue (s : State) : Host.Outcome State Fault Refusal :=
  done s fun r =>
    r.onCmd 3 fun c r =>
      let q := c.f 0x18 2
      if r.queueState q ≠ 0 then r.invalidField c.no 0x18
      else if c.f 8 8 % 4096 ≠ 0 then r.invalidField c.no 8
      else if c.f 0x10 8 % 4096 ≠ 0 then r.invalidField c.no 0x10
      else
        (r.queueNew q (c.f 0x1A 2 + 1) (c.f 8 8) (c.f 0x10 8) (c.f 0x1C 1) (c.f 0x1D 1) (c.f 0x1E 1) (c.f 0x1F 1)).complete c.no 0 0

/-- RESET-QUEUE and DELETE-QUEUE of a queue that is neither absent nor being reset (R327). -/
def Run.resetCmd (r : Run s₀) (opc : Nat) (delete : Bool) : Run s₀ :=
  r.onCmd opc fun c r =>
    let q := c.f 0x18 2
    if r.queueState q = 0 ∨ r.queueState q = 3 then r.invalidField c.no 0x18
    else (r.cmdRuns c.no).queueReset q delete (some c.no)

/-- DELETE_QUEUE (R327). -/
def execDeleteQueue (s : State) : Host.Outcome State Fault Refusal := done s fun r => r.resetCmd 4 true

/-- RESET_QUEUE (R327). -/
def execResetQueue (s : State) : Host.Outcome State Fault Refusal := done s fun r => r.resetCmd 5 false

end Sys2Proof.Machine
end

