-- ==== Sys2Proof/Machine/Extents.lean ====
section
/-!
DEFINITION. Host access to clips: handles and extents (R313 to R316), reads of a magazine with restored chunks (R249, R314),
offload and its checks (R289, R290, R320), rebuild (R291), flush (R322), and SANITISE and FORMAT (R319).
-/
namespace Sys2Proof.Machine
variable {s₀ : State}

/-! ## Reading a clip segment's bytes -/

/-- The unpacker on a packed frame's extent. DESIGN CHOICE (assumption 57): its destination is as long as ORIG_LEN. -/
def unpackExtent (ext : List Byte) : Unpacked := unpack (ext.take 64) ((ext.drop 64).take (field ext 0x2C 4)) (field ext 0x28 4)

/-- A packed frame's extent is in error as it is unpacked, which a refusal is not (R288). -/
def unpackFails (ext : List Byte) : Bool :=
  bit (field ext 6 2) 0 && (match unpackExtent ext with
    | .bad _ => true
    | _ => false)

/-- A frame's unpacked data match its CRC (check 7 of Table 11-8). -/
def frameIntact (ext : List Byte) : Bool :=
  if bit (field ext 6 2) 0 then
    match unpackExtent ext with
    | .good _ => true
    | _ => false
  else crc32c ((ext.drop 64).take (field ext 0x2C 4)) == field ext 0x24 4

/-- What a recovering scan has: what it delivers, whether it needs bytes beyond those at hand, and frames that failed to
unpack. -/
structure Scan where
  out : List Byte := []
  more : Bool := false
  fails : Nat := 0

/-- The extents that a recovering scan finds in clip bytes from an offset (R290). `idx` counts the frame extents found. -/
def scanExtents (b : List Byte) : Nat → Nat → Nat → Scan → Scan
  | 0, _, _, acc => acc
  | fuel + 1, off, idx, acc =>
    let h := (b.drop off).take 64
    if h.length < 64 then { acc with more := true }
    else if off = 0 ∧ field h 0 4 = 0x48504C43 then scanExtents b fuel 4096 idx acc
    else
      let ok := field h 0x38 4 == crc32c (h.take 0x38)
      let frame := field h 0 4 == 0x4D415246
      let len := if frame then field h 0x2C 4 else field h 0xC 4
      let size := ceilDiv (64 + len) 4096 * 4096
      if !ok || !(frame || field h 0 4 == 0x44585541) || (frame && field h 0x30 4 != idx) then acc
      else if b.length < off + size then { acc with more := true }
      else
        let ext := (b.drop off).take size
        let bad := frame && unpackFails ext
        let good := !frame || frameIntact ext
        scanExtents b fuel (off + size) (idx + b2n frame)
          { acc with out := if good then acc.out ++ ext else acc.out, fails := acc.fails + b2n bad }

/-- An entry of a manifest (Table 11-6). -/
def manifestEntry (man : List Byte) (i : Nat) : List Byte := (man.drop (256 + 32 * i)).take 32

/-- Check 2 of Table 11-8 less the clip table: MAGIC, CLIP_ID and SEGMENT of the manifest. -/
def manifestFits (man : List Byte) (id seg : Nat) : Bool := field man 0 4 == 0x464E414D && field man 8 16 == id && field man 0x18 2 == seg

/-- The outcome of checks 3 to 7 of Table 11-8 on a segment's bytes with the manifest at an offset; `deep` selects check 7. -/
def sealOutcome (b : List Byte) (off : Nat) (deep : Bool) : Nat :=
  let man := b.drop off
  let n := field man 0x1C 4
  let len := manifestLen n
  let body := man.take (len - 96)
  let sl := (man.drop (len - 96)).take 96
  let pub := (b.drop 0x50).take 32
  let es := (List.range n).map (manifestEntry man)
  let ext := fun (e : List Byte) => let l := field e 16 8; (b.drop (field e 8 8)).take (ceilDiv (64 + l) 4096 * 4096)
  if field sl 0 4 ≠ 0x4C414553 ∨ (sl.drop 8).take 8 ≠ (sha512 pub).take 8
      ∨ ed25519Verify pub body ((sl.drop 0x20).take 64) = false then 3
  else if sha512 (b.take (field man 0x20 8)) ≠ (man.drop 0x40).take 64 then 4
  else if es.any fun e => (field e 0 1 == 1 || field e 0 1 == 2) && crc32c (ext e) != field e 24 4 then 5
  else if es.any fun e => field e 0 1 == 1 && (let h := ext e
      field h 0x38 4 != crc32c (h.take 0x38) || field h 4 1 != field e 1 1 || field h 8 4 != field e 4 4 || field h 0x2C 4 != field e 16 8) then 6
  else if deep && es.any fun e => field e 0 1 == 1 && !frameIntact (ext e) then 7
  else 0

/-! ## Jobs: stripes read with restored chunks (R249, R314) -/

/-- The number that stands for the rebuild among the jobs. -/
def rebuildNo : Nat := 2 ^ 64

/-- Change a job. -/
def Run.jobMod (r : Run s₀) (no : Nat) (f : Job → Job) : Run s₀ :=
  r.qif fun u => { u with jobs := u.jobs.map fun j => if j.no = no then f j else j }

/-- The drives that can give chunk c of magazine stripe g, if any: the member of its slot, not removed and alive. -/
def Run.chunkDrive (r : Run s₀) (m g c : Nat) : Option (Nat × Nat) :=
  match r.ringOf m g with
  | none => none
  | some (q, s) =>
    let j := slotOf c s (q.k + q.m)
    let d := q.members.getD j 0xFF
    if c < q.k + q.m && d != 0xFF && !r.slotLost q.idx j && r.hopLinked (d / 4) then some (d, s) else none

/-- Read the chunks of a job's stripe that are still needed for K: untried ones that some member can give. -/
def Run.jobRead (r : Run s₀) (j : Job) (g : Nat) : Run s₀ :=
  let k := r.magK j.mag
  let cs := ((List.range 34).filter fun c => !j.tried.contains c && (r.chunkDrive j.mag g c).isSome).take (k - j.got.length)
  let r := r.jobMod j.no fun x => { x with tried := x.tried ++ cs, left := cs }
  r.each cs fun c r =>
    match r.chunkDrive j.mag g c with
    | some (d, s) => r.drvCmd d { opc := 2, lba := stripeLba s, count := 64, why := .read j.no g c }
    | none => r

/-- The bytes of a job's stripes in order, from its lowest stripe. -/
def Job.bytes (j : Job) : List Byte := j.data.flatMap Prod.snd

/-- The chunks of a job's outstanding reads that still wait at a drive. -/
def Run.jobLeft (r : Run s₀) (j : Job) (g : Nat) : List Nat :=
  j.left.filter fun c => r.u.magu.drv.any fun d => (d.2.out ++ d.2.wait).any fun x => x.why == .read j.no g c

/-! ## Handles -/

/-- The clip table entry of a magazine. -/
def Run.clipEntry (r : Run s₀) (m e : Nat) : Option Clip := (r.magz m).label.clips[e]?

/-- Bytes a to a + n - 1 of a write handle's segment; bytes never written read as 0 (R313). -/
def Handle.bytes (h : Handle) (a n : Nat) : List Byte :=
  let first := a / 4096
  let all := (List.range ((a + n + 4095) / 4096 - first)).flatMap fun i => padTo 4096 (h.blocks.look (first + i) [])
  (all.drop (a - first * 4096)).take n

/-- A block list with bytes laid in from a block on. -/
def layBlocks (t : Tab (List Byte)) (k : Nat) (data : List Byte) : Tab (List Byte) :=
  (List.range (data.length / 4096)).foldl (fun t i => t.put (k + i) ((data.drop (4096 * i)).take 4096)) t

/-- A write handle that is open on the segment of another handle. -/
def Run.writerOf (r : Run s₀) (h : Handle) : Option Handle :=
  (r.u.qif.handles.find? fun x => x.2.write && x.2.mag == h.mag && x.2.startG == h.startG && x.2.id == h.id).map Prod.snd

/-- CLIP_OPEN in MODE 0 or 1: a free handle number. -/
def Run.freeHandle (r : Run s₀) : Option Nat := lowest (fun k => (r.u.qif.handles.find k).isNone) 16

/-- CLIP_OPEN, MODE 0 (R313). -/
def Run.openRead (r : Run s₀) (c : Cmd) : Run s₀ :=
  let m := c.f 0x18 1
  match r.freeHandle, r.clipEntry m (c.f 0x1C 2) with
  | none, _ => r.complete c.no 47 0
  | some _, none => r.invalidField c.no 0x1C
  | some k, some e =>
    if e.state = 0 then r.invalidField c.no 0x1C
    else if (r.segsOn m).any fun s => s.clip == e.id && s.seg == e.seg then r.complete c.no 40 0
    else
      let endG := if e.state = 2 then e.endG else (r.magz m).label.nextG
      let len := (endG - e.startG) * r.stripeBytes m
      let r := r.qif fun u => { u with handles := u.handles.put k { mag := m, id := e.id, seg := e.seg, startG := e.startG, len := len, write := false } }
      r.complete c.no 0 (k + len * 256)

/-- CLIP_OPEN, MODE 1 (R313). -/
def Run.openWrite (r : Run s₀) (c : Cmd) : Run s₀ :=
  let m := c.f 0x18 1
  let len := c.f 0x20 8
  match r.freeHandle with
  | none => r.complete c.no 47 0
  | some k =>
    if r.rd MAG_REC_STATUS_STATE ≠ 0 then r.complete c.no 40 0
    else if !r.on (MAG_MAG_STATUS_READY m) then r.complete c.no 41 0
    else if len = 0 ∨ len % 4096 ≠ 0 then r.invalidField c.no 0x20
    else if r.magFree m < len then r.complete c.no 9 0
    else
      let g0 := r.nextStripe m
      let r := r.writeLabel m fun l =>
        { l with clips := l.clips ++ [{ id := c.f 0x28 16, seg := c.f 0x38 2, state := 1, startG := g0, startS := timeSec r.tselQ }] }
      let r := r.magzMod m fun z => { z with resv := g0 + ceilDiv len (r.stripeBytes m) }
      let r := r.qif fun u =>
        { u with handles := u.handles.put k { mag := m, id := c.f 0x28 16, seg := c.f 0x38 2, startG := g0, len := len, write := true } }
      (r.complete c.no 0 (k + len * 256)).magCheck m

/-- Stripe i of a write handle's segment goes to the drives. -/
def Run.stripeOut (r : Run s₀) (h : Handle) (i : Nat) : Run s₀ :=
  let sb := r.stripeBytes h.mag
  r.issueStripe h.mag (h.startG + i) (h.bytes (i * sb) sb)

/-- CLIP_OPEN, MODE 2 of a write handle: stripes never written go out as zeros, and the checks are made (R313). -/
def Run.closeWrite (r : Run s₀) (c : Cmd) (k : Nat) (h : Handle) : Run s₀ :=
  let sb := r.stripeBytes h.mag
  let n := ceilDiv h.len sb
  let blank := (List.range n).filter fun i => !(h.blocks.any fun b => i * sb ≤ b.1 * 4096 && b.1 * 4096 < (i + 1) * sb)
  let off := c.f 0x20 8
  let all := h.bytes 0 (n * sb)
  let out := if manifestFits (all.drop off) h.id h.seg then sealOutcome all off false else 2
  let r := r.each blank fun i r => r.stripeOut h i
  (r.cmdRuns c.no).qif fun u => { u with closes := u.closes ++ [{ no := c.no, handle := k, outcome := out, manifest := off }] }

/-! ## Writes (R315, R316, R322) -/

/-- Bytes in the staging area. -/
def Run.stagedBytes (r : Run s₀) : Nat := r.u.qif.staged.foldl (fun a x => a + x.len) 0

/-- The stripes of a staged write that are not durable yet. -/
def Run.stagedOpen (r : Run s₀) (x : Staged) : List StripeU :=
  ((r.magz x.mag).stripes.filter fun s => x.stripes.contains s.1).map Prod.snd

/-- Some stripe of a staged write can never become durable. -/
def Run.stagedBad (r : Run s₀) (x : Staged) : Bool := (r.stagedOpen x).any StripeU.dead

/-- A write that became durable, or never will, ends; a command that waits for it completes (R315). -/
def Run.stagedEnd (r : Run s₀) (x : Staged) : Run s₀ :=
  let bad := r.stagedBad x
  if !bad && !(r.stagedOpen x).isEmpty then r
  else
    let r := r.qif fun u =>
      { u with staged := u.staged.filter fun y => y.no != x.no,
               flushes := u.flushes.map fun f => if bad && f.2.contains x.no then (f.1, rebuildNo :: f.2) else f }
    r.when x.fua fun r => r.completeWith x.no (if bad then 43 else 0) 0 0 (!bad)

/-- A FLUSH ends when none of its writes is left: with MEDIA_ERROR when one could not become durable (R322). -/
def Run.flushEnd (r : Run s₀) (f : Nat × List Nat) : Run s₀ :=
  if f.2.any fun no => r.u.qif.staged.any fun x => x.no == no then r
  else
    let r := r.qif fun u => { u with flushes := u.flushes.filter fun y => y.1 != f.1 }
    r.complete f.1 (if f.2.contains rebuildNo then 43 else 0) 0

/-- A close moves on: the label goes out when every stripe is durable, and the command completes with it (R313). -/
def Run.closeStep (r : Run s₀) (x : Close) : Run s₀ :=
  match r.u.qif.handles.find x.handle with
  | none => r.qif fun u => { u with closes := u.closes.filter fun y => y.no != x.no }
  | some h =>
    let z := r.magz h.mag
    let n := ceilDiv h.len (r.stripeBytes h.mag)
    let mine := z.stripes.filter fun s => h.startG ≤ s.1 && s.1 < h.startG + n
    let ends := fun (st : Nat) (r : Run s₀) =>
      let r := r.qif fun u => { u with closes := u.closes.filter fun y => y.no != x.no, handles := u.handles.drop x.handle }
      (r.complete x.no st x.outcome).magCheck h.mag
    match x.gen with
    | some gen => if r.labelDurable h.mag gen then ends (if z.labelBad.contains gen then 43 else if x.outcome = 0 then 0 else 48) r else r
    | none =>
      if mine.any fun s => s.2.dead then ends 43 r
      else if !mine.isEmpty then r
      else
        let good := x.outcome = 0
        let r := r.writeLabel h.mag fun l =>
          { l with nextG := max l.nextG (h.startG + n), clips := l.clips.map fun c =>
              if c.id = h.id ∧ c.seg = h.seg ∧ c.startG = h.startG then
                { c with state := if good then 2 else 3, endG := h.startG + n, manifest := if good then x.manifest else 0 } else c }
        r.qif fun u => { u with closes := u.closes.map fun y => if y.no = x.no then { y with gen := some (r.magz h.mag).label.gen } else y }

/-! ## SANITISE and FORMAT (R319) -/

/-- The label of GEN 1 of a formatted magazine; its MAG_ID is a free value (R273). -/
def Run.newLabel (r : Run s₀) (m : Nat) : Run s₀ :=
  r.free 128 fun id r =>
    let geo := (r.magz m).geo
    let serials : Tab (List Byte) := geo.flatMap fun g =>
      (List.range g.members.length).map fun j => (32 * g.idx + j, (r.drv (g.members.getD j 0xFF)).serial)
    let r := r.each geo fun g r => (r.wr (MAG_RING_LOST_LOST g.idx) 0).ringState g
    let r := r.magzMod m fun z => { z with valid := true, identified := true, resv := 0, stripes := [] }
    r.writeLabel m fun _ =>
      { gen := 0, magId := id, k := r.magK m, m := match geo with | g :: _ => g.m | [] => 0, serials := serials }

/-- FORMAT and SANITISE are followed to the end: with READY of every member the operation ends, after a FORMAT with the label
of GEN 1 first; event 403 (R273, R319). -/
def Run.opFinish (r : Run s₀) (m : Nat) : Run s₀ :=
  let z := r.magz m
  if !z.follow || !((z.geo.flatMap Geo.members).all fun d => d == 0xFF || r.rd (MAG_DRV_STATUS_DSTATE d) == 0) then r
  else
    let op := z.op
    let r := r.magzMod m fun z => { z with follow := false, op := 0 }
    let r := r.when (op == 7) fun r => r.newLabel m
    (r.ev 403).magCheck m

/-- The drives' CPLs of the operation are in: its command completes (R319). -/
def Run.opStep (r : Run s₀) (m : Nat) : Run s₀ :=
  let z := r.magz m
  match z.opCmd with
  | none => r.opFinish m
  | some no =>
    if z.opLeft.isEmpty then ((r.magzMod m fun z => { z with opCmd := none, follow := true }).complete no 0 0).opFinish m else r

end Sys2Proof.Machine
end

