-- ==== Sys2Proof/Machine/Magazine.lean ====
section
/-!
DEFINITION. The commands of magazines and records: drive completions, data and status (R243, R246, R256), the detectors of
Table 10-9, identification (R267), record control (R312), rescue (R269), handles and extents (R313 to R316), offload and
rebuild (R289 to R291, R320), flush, SANITISE and FORMAT (R319, R322).
-/
namespace Sys2Proof.Machine
variable {s₀ : State}

/-! ## The ends of jobs -/

/-- The outcome of an offload goes to PAK_STATUS and raises OFFLOAD_VERIFY when it is not 0 (R289); frames that failed to
unpack are counted (R288). -/
def Run.offloadEnd (r : Run s₀) (no outcome fails : Nat) (segs : List (Nat × Nat)) (bs : List Byte) : Run s₀ :=
  let r := (r.wr PAK_STATUS_OFFLOAD_OUT outcome).wr PAK_STATUS_UNPACKING 0
  let r := r.when (fails != 0) fun r => (r.sat PAK_COUNT_UNPACK_ERR fails).ev 321
  let r := r.when (outcome != 0) fun r => r.ev 322
  (r.scatter segs bs).complete no (if outcome = 0 then 0 else 48) (outcome + bs.length * 2 ^ 32)

/-- Stripes of a segment that hold bytes a to a + n - 1. -/
def clipStripes (sb a n : Nat) : List Nat := if n = 0 ∨ sb = 0 then [] else (List.range ((a + n - 1) / sb - a / sb + 1)).map (· + a / sb)

/-- Bytes a to a + n - 1 of a segment from the stripes a job read. -/
def Job.range (j : Job) (sb a n : Nat) : List Byte :=
  ((clipStripes sb a n).flatMap fun i => padTo sb (j.data.look i [])).drop (a - a / sb * sb) |>.take n

/-- The frame at which check 7 fails is in error as it is unpacked (R288). -/
def firstUnpackFails (b : List Byte) (off : Nat) : Bool :=
  let man := b.drop off
  let exts := (((List.range (field man 0x1C 4)).map (manifestEntry man)).filter fun e => field e 0 1 == 1).map fun e =>
    (b.drop (field e 8 8)).take (ceilDiv (64 + field e 16 8) 4096 * 4096)
  (exts.find? fun x => !frameIntact x).any unpackFails

/-- A job ends: every stripe was read, or stripe `bad` of the segment has fewer than K chunks (R289, R290, R314). -/
def Run.jobDone (r : Run s₀) (j : Job) (bad : Option Nat) : Run s₀ :=
  let sb := r.stripeBytes j.mag
  let r := r.qif fun u => { u with jobs := u.jobs.filter fun x => x.no != j.no }
  match r.u.qif.cmds.find? fun c => c.no == j.no with
  | none => r
  | some c =>
    let off := c.f 0x20 8
    let len := c.f 0x28 4
    if c.opc = 0x15 then
      match bad with
      | none => (r.scatter j.segs (j.range sb off len)).complete c.no 0 len
      | some i =>
        let n := i * sb - off
        (r.scatter j.segs (j.range sb off n)).complete c.no 43 n
    else
      match r.clipEntry j.mag (c.f 0x1C 2) with
      | none => r.offloadEnd c.no 2 0 [] []
      | some e =>
        if e.state != 2 && c.f 0x1A 1 == 1 then
          let x := scanExtents j.bytes (j.bytes.length / 4096 + 1) 0 0 {}
          r.offloadEnd c.no (if bad.isSome then 8 else 2) x.fails j.segs (x.out.take len)
        else
          let deliver := if len = 0 then [] else j.range sb off len
          if bad.isSome then r.offloadEnd c.no 8 0 [] []
          else if e.state ≠ 2 ∨ manifestFits (j.range sb e.manifest 4096) e.id e.seg = false then r.offloadEnd c.no 2 0 j.segs deliver
          else if c.f 0x19 1 = 0 then r.offloadEnd c.no 0 0 j.segs deliver
          else
            let out := sealOutcome j.bytes e.manifest (c.f 0x19 1 == 2)
            r.offloadEnd c.no out (b2n (out == 7 && firstUnpackFails j.bytes e.manifest)) j.segs deliver

/-- The next stripe of a job is read, or the job ends. A recovering offload reads on only while its scan needs more bytes. -/
def Run.jobNext (r : Run s₀) (j : Job) : Run s₀ :=
  let scans := match r.u.qif.cmds.find? fun c => c.no == j.no with
    | some c => c.opc == 0x1A && c.f 0x1A 1 == 1 && !j.data.isEmpty
        && (match r.clipEntry j.mag (c.f 0x1C 2) with | some e => e.state != 2 | none => false)
    | none => false
  let stop := scans && !(scanExtents j.bytes (j.bytes.length / 4096 + 1) 0 0 {}).more
  match j.todo with
  | [] => r.jobDone j none
  | i :: l =>
    if stop then r.jobDone j none
    else
      let j := { j with todo := l, cur := some i, tried := [], left := [], got := [] }
      let r := r.qif fun u => { u with jobs := u.jobs.map fun x => if x.no = j.no then j else x }
      let r := r.jobRead j (j.startG + i)
      match r.u.qif.jobs.find? fun x => x.no == j.no with
      | some x => if x.tried.length < r.magK j.mag then r.jobDone j (some i) else r
      | none => r

/-- A job moves on when none of its reads is outstanding: with K chunks the stripe is restored, else other chunks are tried. -/
def Run.jobStep (r : Run s₀) (j : Job) : Run s₀ :=
  match j.cur with
  | none => r.jobNext j
  | some i =>
    let k := r.magK j.mag
    let left := r.jobLeft j (j.startG + i)
    if !left.isEmpty then r.jobMod j.no fun x => { x with left := left }
    else if k ≤ j.got.length then
      match restoreStripe k ((List.range 34).map fun c => j.got.find c) with
      | some data =>
        let j := { j with cur := none, got := [], data := j.data.put i data.flatten }
        (r.qif fun u => { u with jobs := u.jobs.map fun x => if x.no = j.no then j else x }).jobNext j
      | none => r.jobDone j (some i)
    else
      let r := r.jobRead { j with left := [] } (j.startG + i)
      match r.u.qif.jobs.find? fun x => x.no == j.no with
      | some x => if x.left.isEmpty then r.jobDone j (some i) else r
      | none => r

/-! ## Rebuild (R291) -/

/-- A rebuild ends with an outcome; the end raises REBUILD_DONE (R291, R292). -/
def Run.rebuildEnd (r : Run s₀) (x : Rebuild) (outcome : Nat) : Run s₀ :=
  let r := r.qif fun u => { u with rebuild := none, jobs := u.jobs.filter fun j => j.no != rebuildNo }
  if outcome ≠ 0 then (r.wr PAK_STATUS_OFFLOAD_OUT outcome).ev 323
  else
    let r := r.clear (MAG_RING_LOST_LOST x.ring) (2 ^ x.slot)
    let r := match (r.magz x.mag).geo.find? fun g => g.idx == x.ring with
      | some g => r.ringState g
      | none => r
    let r := r.wr (MAG_DRV_STATUS_REMOVED x.d) 0
    let r := r.writeLabel x.mag fun l => { l with rebRing := 0xFF, rebSlot := 0xFF, rebPos := 0 }
    ((r.wr PAK_STATUS_REBUILD_PCT 100).ev 323).magCheck x.mag

/-- The chunks of the rebuild's next ring stripe are read, or the rebuild ends. -/
def Run.rebuildNext (r : Run s₀) (x : Rebuild) : Run s₀ :=
  if x.stop ≤ x.pos then r.rebuildEnd x 0
  else
    let geo := (r.magz x.mag).geo
    let i := (lowest (fun i => match geo[i]? with | some g => g.idx == x.ring | none => false) geo.length).getD 0
    let g := x.pos * geo.length + i
    let j : Job := { no := rebuildNo, mag := x.mag, cur := some g }
    let r := r.qif fun u => { u with jobs := (u.jobs.filter fun j => j.no != rebuildNo) ++ [j] }
    let r := (r.wr PAK_STATUS_REBUILD_PCT (x.pos * 100 / x.stop)).jobRead j g
    match r.u.qif.jobs.find? fun y => y.no == rebuildNo with
    | some y => if y.tried.length < r.magK x.mag then r.rebuildEnd x 8 else r
    | none => r

/-- The rebuild's reads are in: the slot's chunk is computed and written (R249, R291). -/
def Run.rebuildStep (r : Run s₀) (x : Rebuild) (j : Job) : Run s₀ :=
  match j.cur with
  | none => r
  | some g =>
    let k := r.magK x.mag
    if !(r.jobLeft j g).isEmpty then r
    else
      match restoreStripe k ((List.range 34).map fun c => j.got.find c), r.ringOf x.mag g with
      | some data, some (q, s) =>
        let c := chunkOf x.slot s (q.k + q.m)
        let nd := List.zip (List.range k) data
        let body := if c < k then data.getD c [] else paritySum chunkBytes (c - k) nd
        let r := r.jobMod rebuildNo fun y => { y with cur := none }
        r.drvCmd x.d { opc := 1, lba := stripeLba s, count := 64, why := .rebuild rebuildNo, data := body }
      | _, _ =>
        let r := r.jobRead { j with left := [] } g
        match r.u.qif.jobs.find? fun y => y.no == rebuildNo with
        | some y => if y.left.isEmpty then r.rebuildEnd x 8 else r
        | none => r

/-- A rebuilt chunk is on its drive: a label every 256 stripes, and the next stripe. -/
def Run.rebuilt (r : Run s₀) (ok : Bool) : Run s₀ :=
  match r.u.qif.rebuild with
  | none => r
  | some x =>
    if !ok then r.rebuildEnd x 8
    else
      let x := { x with pos := x.pos + 1 }
      let r := r.qif fun u => { u with rebuild := some x }
      let r := r.when (x.pos % 256 == 0) fun r => r.writeLabel x.mag fun l => { l with rebPos := x.pos }
      r.rebuildNext x

/-- REBUILD: the removed slot of a ring is restored onto a drive that is now attached in its place (R291). -/
def execRebuild (m : Fin 2) (ring : Fin 4) (slot : Fin 32) (d : Fin 64) (s : State) : Host.Outcome State Fault Refusal :=
  done s fun r =>
    let z := r.magz m
    match z.geo.find? fun g => g.idx == ring.val with
    | none => r
    | some g =>
      if !r.reader || r.u.qif.rebuild.isSome || !r.slotLost ring slot || !(r.drv d).ident || (r.drv d).cap < r.ringStripes g * 64 + 256 then r
      else
        let geo := z.geo.map fun x => if x.idx = ring.val then { x with members := x.members.set slot d } else x
        let i := (lowest (fun i => match geo[i]? with | some g => g.idx == ring.val | none => false) geo.length).getD 0
        let pos := if z.label.rebRing = ring.val ∧ z.label.rebSlot = slot.val then z.label.rebPos else 0
        let r := r.magzMod m fun z => { z with geo := geo }
        let r := r.writeLabel m fun l =>
          { l with rebRing := ring, rebSlot := slot, rebPos := pos, serials := l.serials.put (32 * ring.val + slot.val) (r.drv d).serial }
        let x : Rebuild := { mag := m, ring := ring, slot := slot, d := d, pos := pos, stop := ringFrom geo.length i z.label.nextG }
        (r.qif fun u => { u with rebuild := some x }).rebuildNext x

/-! ## Everything that waits for drives -/

/-- Jobs, writes, closes, flushes and operations move on after drives have answered or gone. -/
def Run.hostAdvance (r : Run s₀) : Run s₀ :=
  let r := r.each (r.u.qif.jobs.filter fun j => j.no != rebuildNo) fun j r => r.jobStep j
  let r := match r.u.qif.rebuild, r.u.qif.jobs.find? fun j => j.no == rebuildNo with
    | some x, some j => r.rebuildStep x j
    | _, _ => r
  let r := r.each r.u.qif.staged fun x r => r.stagedEnd x
  let r := r.each r.u.qif.closes fun x r => r.closeStep x
  let r := r.each r.u.qif.flushes fun f r => r.flushEnd f
  r.each (List.range 2) fun m r => r.opStep m

/-- The record, the host's work and the drives' queues move on. -/
def Run.magAdvance (r : Run s₀) (m : Nat) : Run s₀ := (r.recAdvance.hostAdvance).magCheck m

/-! ## Drive packets (R243, R246, R256) -/

/-- A drive's command ends with a status (R256, R262, R263): a WRITE that fails removes the drive first, so that a degraded range starts
with the stripe whose chunk it was. -/
def Run.cplFor (r : Run s₀) (d : Nat) (c : DCmd) (status : Nat) : Run s₀ :=
  let ok := status == 0
  let r := r.when (!ok) fun r => r.ev (336 + d)
  let r := r.when (status == 1) fun r => r.sat (MAG_DRV_ERR_MEDIA_ERR d)
  let fail := fun (r : Run s₀) => if ok then r else r.removeDrive d 5 0
  match c.why with
  | .ident => r.when ok fun r => r.identified d c.data
  | .labelRead copy => r.when ok fun r => r.drvMod d fun v => if copy = 0 then { v with copy0 := c.data } else { v with copy1 := c.data }
  | .chunk m g => (fail r).chunkDone m g d ok
  | .label m gen copy =>
    let r := r.when ok fun r => r.drvMod d fun v => if copy = 0 then { v with copy0 := c.data, copy := 1 } else { v with copy1 := c.data, copy := 0 }
    (fail r).labelDone m gen d ok
  | .op m => r.magzMod m fun z => { z with opLeft := z.opLeft.filter (· != d) }
  | .read no _ n => if ok then r.jobMod no fun j => { j with got := j.got.put n (padTo chunkBytes c.data) } else r
  | .rebuild _ => r.rebuilt ok

/-- CPL: a completion arrives on magazine lane l from the drive at position `p` (R243, R256). A tag that is not outstanding
is ignored (R262). -/
def execCpl (l : Fin 16) (seq : Nat) (p : Fin 4) (tag status blocks info : Nat) (s : State) : Host.Outcome State Fault Refusal :=
  done s fun r =>
    r.hopTake l seq fun r =>
      let d := 4 * l.val + p.val
      match (r.drv d).out.find? fun c => c.tag == tag with
      | none => r
      | some c =>
        let r := r.drvMod d fun v => { v with out := v.out.filter fun x => x.tag != tag }
        let short := status == 0 && blocks < c.count
        let r := r.cplFor d c (if short then 6 else status)
        let r := r.when (status == 1 && !r.drvRemoved d) fun r => r.breach { type := 4, index := d, cls := 1, detector := 0, detail0 := info }
        (r.drvPump d).magAdvance (r.magOfDrive d)

/-- MAG_DATA: a DATA packet of a READ or IDENTIFY arrives (R243); its LEN is that of 1,024 bytes (Table 10-2, R242). -/
def execMagData (l : Fin 16) (seq : Nat) (p : Fin 4) (tag off : Nat) (data : List Byte) (s : State) : Host.Outcome State Fault Refusal :=
  done s fun r =>
    if data.length ≠ 1024 then r.hopError l false
    else
      r.hopTake l seq fun r =>
        r.drvMod (4 * l.val + p.val) fun v =>
          { v with out := v.out.map fun c =>
              if c.tag = tag ∧ (c.opc = 2 ∨ c.opc = 3) then { c with data := overlay (padTo (max c.data.length (off * 1024)) c.data) (off * 1024) data }
              else c }

/-- DRV_STATUS: a drive's status arrives (R246, R262, R264, R270). -/
def execDrvStatus (l : Fin 16) (p : Fin 4) (st : Fin 5) (alarm : Bool) (progress qfree temp : Nat) (s : State) : Host.Outcome State Fault Refusal :=
  done s fun r =>
    if !r.hopHears l then r
    else
      let d := 4 * l.val + p.val
      let m := r.magOfDrive d
      let rises := alarm && !r.on (MAG_DRV_STATUS_ALARM d)
      let word := st.val + 16 * b2n alarm + progress % 256 * 2 ^ 8 + qfree % 256 * 2 ^ 16 + temp % 2 ^ 16 * 2 ^ 48
      let r := (r.wr (MAG_DRV_STATUS_DSTATE d) st).wr (MAG_DRV_STATUS_ALARM d) (b2n alarm)
      let r := r.drvMod d fun v => { v with word1 := word }
      let r := r.when rises fun r => (r.sat (MAG_DRV_ERR_ALARMS d)).ev (336 + d)
      let r := r.when (alarm && r.on (MAG_DRV_STATUS_MEMBER d)) fun r => r.magReplace m
      let r := r.when ((st.val == 3 || st.val == 4) && !r.drvRemoved d) fun r => r.removeDrive d 6 0
      r.magAdvance m

/-- HOP_ACK_SEND: the acknowledgement interval of hop 0 of a lane ends (R245). -/
def execHopAckSend (l : Fin 16) (s : State) : Host.Outcome State Fault Refusal :=
  done s fun r => if (r.hop l).owed && r.hopLinked l then r.hopAck l else r

/-- HOP_NAK_RESEND: the expected packet has not come 1.5 µs after a NAK, which leaves again (R245). -/
def execHopNakResend (l : Fin 16) (s : State) : Host.Outcome State Fault Refusal :=
  done s fun r =>
    let n := r.rd (MAG_LINK_STATUS_NAK_COUNT l)
    if 0 < n ∧ n < 8 ∧ r.hopLinked l = true then r.hopNakSent l else r

/-! ## Detectors (Table 10-9, R262, R265) -/

/-- INNER of a detector on a hop: 2 while a replay or a relock window still runs (R398). -/
def Run.hopInner (r : Run s₀) (l : Nat) : Nat :=
  if r.rd (MAG_LINK_STATUS_NAK_COUNT l) ≠ 0 ∨ r.on (MAG_LINK_STATUS_RELOCK_WAIT l) = true then 2 else 0

/-- REPLAY_EXHAUSTED: replay on hop 0 is exhausted: after the eighth NAK, or with a packet unacknowledged too long (R245). -/
def execReplayExhausted (l : Fin 16) (s : State) : Host.Outcome State Fault Refusal :=
  done s fun r =>
    if r.on (MAG_LINK_STATUS_EXHAUSTED l) || !(r.rd (MAG_LINK_STATUS_NAK_COUNT l) == 8 || !(r.hop l).kept.isEmpty) then r
    else
      let r := (r.wr (MAG_LINK_STATUS_EXHAUSTED l) 1).hopMod l fun h => { h with stopped := true }
      (r.removeLane l 2 3).magAdvance (r.magOfLane l)

/-- RELOCK_WINDOW: hop 0 has been out of comma lock for 16 µs (Table 10-9). -/
def execRelockWindow (l : Fin 16) (s : State) : Host.Outcome State Fault Refusal :=
  done s fun r =>
    if !r.on (MAG_LINK_STATUS_RELOCK_WAIT l) then r
    else
      let inner := if r.rd (MAG_LINK_STATUS_NAK_COUNT l) ≠ 0 then 2 else 0
      ((r.hopGiveUp l true).removeLane l 1 inner).magAdvance (r.magOfLane l)

/-- HEARTBEAT_LOST: 20 µs without a DRV_STATUS of a drive (R246). -/
def execHeartbeatLost (d : Fin 64) (s : State) : Host.Outcome State Fault Refusal :=
  done s fun r =>
    if r.rd (MAG_DRV_STATUS_DSTATE d) = 15 then r
    else
      let r := r.wr (MAG_DRV_STATUS_DSTATE d) 15
      ((r.hopGiveUp (d / 4) false).removeDrive d 3 (r.hopInner (d / 4))).magAdvance (r.magOfDrive d)

/-- COMMAND_TIMEOUT: a drive's command has no CPL 2 ms after it was sent; the recovery of its hop is abandoned (Table 10-9, R265). An
IDENTIFY to a place where no MAGCFG record names a drive only ends (DESIGN CHOICE, assumption 56). -/
def execCommandTimeout (d : Fin 64) (tag : Fin 64) (s : State) : Host.Outcome State Fault Refusal :=
  done s fun r =>
    match (r.drv d).out.find? fun c => c.tag == tag.val with
    | none => r
    | some c =>
      let r := r.drvMod d fun v => { v with out := v.out.filter fun x => x.tag != tag.val }
      if c.why = .ident ∧ r.hasCfg 0x0A01 0 = false then (r.drvPump d).magAdvance (r.magOfDrive d)
      else
        let inner := r.hopInner (d / 4)
        let r := ((r.sat (MAG_DRV_ERR_TIMEOUTS d)).ev (336 + d.val)).hopGiveUp (d / 4) true
        let r := r.removeDrive d 4 inner
        let r := match c.why with
          | .chunk m g => r.chunkDone m g d false
          | .label m gen _ => r.labelDone m gen d false
          | .op m => r.magzMod m fun z => { z with opLeft := z.opLeft.filter (· != d.val) }
          | .read _ _ _ => r
          | .rebuild _ => r.rebuilt false
          | .ident => r
          | .labelRead _ => r
        (r.drvPump d).magAdvance (r.magOfDrive d)

/-- FAILED_LANE_RETRY: a FAILED lane of a magazine that neither is armed nor records returns to ACQUIRE (R268); its
self-check comes first (R396). -/
def execFailedLaneRetry (l : Fin 16) (s : State) : Host.Outcome State Fault Refusal :=
  done s fun r =>
    let n := 24 + l.val
    if r.laneState n = 5 ∧ (r.laneU n).checking = false ∧ (r.laneU n).checkLater = false ∧ r.recordsOn (r.magOfLane l) = false then
      (r.wr (LNK_STATUS_TRAINED n) 0).laneAcquire n false
    else r

/-! ## Identification and rescue (R267, R269) -/

/-- The rescue is abandoned (R269). -/
def Run.rescueAbandon (r : Run s₀) : Run s₀ :=
  let r := r.breach { type := 4, index := 0xFF, cls := 2, event := 12 }
  let r := r.each r.u.magu.segs fun s r => r.releaseClip s
  let r := (r.mag fun m => { m with segs := [] }).wr MAG_REC_STATUS_STOP_CAUSE 6
  (r.wr GLB_RESET_CAUSE_CLIP_RESCUE_PENDING 0).recState 0

/-- The rescue goes on when the open clip's magazines are READY: MAG_ID and rings are compared with the preserved state, and the
clip's frames are appended (R269, R281). -/
def Run.rescueTry (r : Run s₀) : Run s₀ :=
  let segs := r.u.magu.segs
  if r.rd MAG_REC_STATUS_STATE ≠ 4 ∨ r.u.magu.resume = true ∨ segs.any (fun s => !r.on (MAG_MAG_STATUS_READY s.mag)) = true then r
  else if segs.any fun s => (r.magz s.mag).label.magId != s.magId || (r.magz s.mag).geo != s.geo then r.rescueAbandon
  else
    let r := r.mag fun m => { m with resume := true }
    ((r.each segs fun s r => r.segPump s.seg).recAdvance).recordEnd true

/-- CLIP_RESCUE: after READY W_1 starts the rescue of the clip that the warm reset found open (R41, R269). -/
def execClipRescue (s : State) : Host.Outcome State Fault Refusal :=
  done s fun r =>
    if r.on GLB_BOOT_STATUS_READY && r.on GLB_RESET_CAUSE_CLIP_RESCUE_PENDING && r.rd MAG_REC_STATUS_STATE == 0 && r.duty 1 then
      let r := r.mag fun m => { m with resume := false }
      (r.recState 4).rescueTry
    else r

/-- RESCUE_WAIT_TIMEOUT: the magazine has not become READY within 2 s (R269). -/
def execRescueWaitTimeout (s : State) : Host.Outcome State Fault Refusal :=
  done s fun r => if r.rd MAG_REC_STATUS_STATE = 4 ∧ r.u.magu.resume = false then r.rescueAbandon else r

/-- The rings that the labels of a magazine describe, for the reader role (R289): those that some label names, by number. -/
def labelGeo (seen : List (Nat × Label)) : List Geo :=
  ((List.range 4).filter fun i => seen.any fun x => x.2.ring == i).map fun i =>
    let l := ((seen.find? fun x => x.2.ring == i).map Prod.snd).getD {}
    ⟨i, l.k, l.m, (List.range (l.k + l.m)).map fun j =>
      match seen.find? fun x => x.2.ring == i && x.2.slot == j with
      | some x => x.1
      | none => 0xFF⟩

/-- The label of a drive: its valid copy with the higher GEN (R272). -/
def Run.drvLabel (r : Run s₀) (d : Nat) : Option Label := newestLabel (labelAt (r.drv d).copy0) (labelAt (r.drv d).copy1)

/-- The labels of a magazine are valid (R267, R272): every member not removed under the newest REMOVED has the same GEN,
MAG_ID and geometry, in its own ring and slot. -/
def Run.labelsValid (r : Run s₀) (m : Nat) (newest : Label) : Bool :=
  (r.magz m).geo.length == newest.rings && (r.magz m).geo.all fun g => (List.range g.members.length).all fun j =>
    bit (newest.removed.look g.idx 0) j || (match r.drvLabel (g.members.getD j 0xFF) with
      | some l => l.gen == newest.gen && l.magId == newest.magId && l.k == newest.k && l.m == newest.m && l.rings == newest.rings
          && l.ring == g.idx && l.slot == j && l.k == g.k && l.m == g.m
      | none => false)

/-- REMOVED and REMOVE_CAUSE of a member of an identified magazine follow its label (R262). -/
def Run.removedByLabel (r : Run s₀) (g : Geo) : Run s₀ :=
  r.each (List.range g.members.length) fun j r =>
    let d := g.members.getD j 0xFF
    if d = 0xFF then r
    else if r.slotLost g.idx j then r.wr (MAG_DRV_STATUS_REMOVED d) 1
    else (r.wr (MAG_DRV_STATUS_REMOVED d) 0).wr (MAG_DRV_STATUS_REMOVE_CAUSE d) 0

/-- The lanes of a magazine that MAG uses. -/
def Run.magLanes (r : Run s₀) (m : Nat) : List Nat := (r.span m).filter fun l => 0 < r.chain l && !r.laneFree (24 + l)

/-- A drive still owes IDENTIFY data or a label copy. -/
def Run.identPending (r : Run s₀) (d : Nat) : Bool :=
  ((r.drv d).out ++ (r.drv d).wait).any fun c => c.opc == 3 || (c.opc == 2 && c.lba < 256)

/-- MAGAZINE_IDENTIFIED: every lane of a magazine is LINKED, and MAG has read IDENTIFY and the labels of the drives that answer (R267,
R272, R289). Nothing changes while one of these reads is outstanding, or while a record that is armed or active uses the magazine. -/
def execMagazineIdentified (m : Fin 2) (s : State) : Host.Outcome State Fault Refusal :=
  done s fun r =>
    let lanes := r.magLanes m
    let all := lanes.flatMap fun l => (List.range (r.chain l)).map fun p => 4 * l + p
    let mine := all.filter fun d => (r.drv d).ident
    let busy := r.recordsOn m && (r.rd MAG_REC_STATUS_STATE != 4 || r.u.magu.resume)
    if lanes.isEmpty || !(lanes.all fun l => r.hopLinked l) || (all.any r.identPending) || busy then r.magSync m
    else
      let r := r.each mine fun d r => r.drvMod d fun v =>
        { v with copy := match labelAt v.copy0, labelAt v.copy1 with
                   | some a, some b => if b.gen < a.gen then 1 else 0
                   | some _, none => 1
                   | none, _ => 0 }
      let seen := mine.filterMap fun d => (r.drvLabel d).map fun l => (d, l)
      let newest := seen.foldl (fun (a : Option Label) x => newestLabel (some x.2) a) none
      let geo := if r.reader then labelGeo seen else r.cfgGeo m
      let r := r.magzMod m fun z => { z with geo := geo, identified := true, label := newest.getD {}, resv := 0 }
      let r := r.each geo fun g r =>
        let r := (r.wr (MAG_RING_LOST_LOST g.idx) (newest.elim 0 fun l => l.removed.look g.idx 0)).ringRegs m g
        (r.removedByLabel g).ringState g
      let r := r.magzMod m fun z => { z with valid := newest.elim false fun l => r.labelsValid m l }
      let moving := mine.any fun d => r.rd (MAG_DRV_STATUS_DSTATE d) == 1 || r.rd (MAG_DRV_STATUS_DSTATE d) == 2
      let r := r.when moving fun r => r.magzMod m fun z =>
        { z with follow := true, op := if mine.any fun d => r.rd (MAG_DRV_STATUS_DSTATE d) == 2 then 7 else 6 }
      let r := r.when ((r.magz m).geo.any fun g => r.rd (MAG_RING_STATUS_STATE g.idx) != 1) fun r => (r.magSync m).magReplace m
      (r.magCheck m).rescueTry

/-! ## Record control (R254, R257, R258, R305, R312) -/

/-- STRIPE_ISSUE: a full stripe is issued (R256). -/
def execStripeIssue (s : State) : Host.Outcome State Fault Refusal := done s fun r => r.stripeIssue

/-- A write of 1 to MAG_CTL.CHANGE_NOW (R260). -/
def Run.changeNow (r : Run s₀) : Run s₀ :=
  if !r.canChange then r.ignored else if r.rd MAG_REC_STATUS_STATE = 2 then r.changeover false else r

/-- CHANGE_NOW: a write of MAG_CTL.CHANGE_NOW (R260). -/
def execChangeNow (s : State) : Host.Outcome State Fault Refusal := done s fun r => r.changeNow

/-- ARM_RECORD (R254, R312); a running decoder stops (R234). -/
def execArmRecord (s : State) : Host.Outcome State Fault Refusal :=
  done s fun r =>
    if !r.duty 1 then r
    else
    r.onCmd 0x10 fun c r =>
      let m := c.f 0x18 1
      let pre := (List.range 16).map fun n => c.f (0x20 + 2 * n) 2
      if r.rd MAG_REC_STATUS_STATE ≠ 0 ∨ r.on GLB_RESET_CAUSE_CLIP_RESCUE_PENDING = true
          ∨ r.u.qif.handles.any (fun h => h.2.write && h.2.mag == m) = true then r.complete c.no 40 0
      else if m = 1 ∧ r.dual = false then r.invalidField c.no 0x18
      else
        match lowest (fun n => pre.getD n 0 != 0 && !(r.recCtxs.contains n)) 16 with
        | some n => r.invalidField c.no (0x20 + 2 * n)
        | none =>
          if !r.on (MAG_MAG_STATUS_READY m) then r.complete c.no 41 0
          else if r.magSlow m then r.complete c.no 45 0
          else if r.prerollTooBig pre then r.complete c.no 9 0
          else ((r.recArm m pre).decStopAfter 1).complete c.no 0 0

/-- RECORD_START (R257, R312). -/
def execRecordStart (s : State) : Host.Outcome State Fault Refusal :=
  done s fun r =>
    if !r.duty 1 then r
    else
    r.onCmd 0x11 fun c r =>
      if r.rd MAG_REC_STATUS_STATE ≠ 1 then r.complete c.no 40 0
      else r.recStart fun clip r => r.complete c.no 0 (clip % 2 ^ 64)

/-- RECORD_STOP (R257, R312). -/
def execRecordStop (s : State) : Host.Outcome State Fault Refusal :=
  done s fun r =>
    if !r.duty 1 then r
    else
    r.onCmd 0x12 fun c r =>
      let st := r.rd MAG_REC_STATUS_STATE
      if st = 1 then ((r.wr MAG_REC_STATUS_STOP_CAUSE 1).recState 0).complete c.no 0 0
      else if st = 2 then (r.recStop 1).complete c.no 0 (shortTime r.tselQ)
      else r.complete c.no 40 0

/-- MARK (R258, R312). -/
def execMark (s : State) : Host.Outcome State Fault Refusal :=
  done s fun r =>
    if !r.duty 1 then r
    else
    r.onCmd 0x13 fun c r =>
      if r.rd MAG_REC_STATUS_STATE = 2 then r.recMark.complete c.no 0 (shortTime r.tselQ) else r.complete c.no 40 0

/-! ## Handles and extents (R313 to R316, R322) -/

/-- CLIP_OPEN (R313). -/
def execClipOpen (s : State) : Host.Outcome State Fault Refusal :=
  done s fun r =>
    r.onCmd 0x14 fun c r =>
      let mode := c.f 0x19 1
      if mode = 0 then r.openRead c
      else if mode = 1 then r.openWrite c
      else
        let k := c.f 0x1A 1
        match r.u.qif.handles.find k with
        | none => r.invalidField c.no 0x1A
        | some h =>
          if h.write then (r.closeWrite c k h).hostAdvance
          else (r.qif fun u => { u with handles := u.handles.drop k }).complete c.no 0 0

/-- READ_EXTENT (R314); a read of a segment that a write handle is filling sees the bytes written (R316). -/
def execReadExtent (h : HostData) (s : State) : Host.Outcome State Fault Refusal :=
  done s fun r =>
    r.onCmd 0x15 fun c r =>
      let off := c.f 0x20 8
      let len := c.f 0x28 4
      match r.u.qif.handles.find (c.f 0x18 1), c.buffer h len with
      | none, _ => r.invalidField c.no 0x18
      | some x, buf =>
        if x.len < off + len then r.complete c.no 42 0
        else
          match buf with
          | none => r.invalidField c.no 8
          | some segs =>
            if !h.ok then (r.sat QIF_COUNT_HOST_ERR).complete c.no 39 0
            else
              match if x.write then some x else r.writerOf x with
              | some w => (r.scatter segs (w.bytes off len)).complete c.no 0 len
              | none =>
                let j : Job := { no := c.no, mag := x.mag, startG := x.startG, segs := segs, todo := clipStripes (r.stripeBytes x.mag) off len }
                ((r.cmdRuns c.no).qif fun u => { u with jobs := u.jobs ++ [j] }).jobNext j

/-- WRITE_EXTENT (R315): it waits while staging is too full, or while a stripe it touches is still being written. -/
def execWriteExtent (h : HostData) (s : State) : Host.Outcome State Fault Refusal :=
  done s fun r =>
    r.onCmd 0x16 fun c r =>
      let k := c.f 0x18 1
      let off := c.f 0x20 8
      let len := c.f 0x28 4
      match r.u.qif.handles.find k with
      | none => r.invalidField c.no 0x18
      | some x =>
        if !x.write then r.complete c.no 40 0
        else if x.len < off + len then r.complete c.no 42 0
        else if (c.buffer h len).isNone then r.invalidField c.no 8
        else if !h.ok then (r.sat QIF_COUNT_HOST_ERR).complete c.no 39 0
        else
          let gs := (clipStripes (r.stripeBytes x.mag) off len).map (· + x.startG)
          let busy := (r.magz x.mag).stripes.any fun t => gs.contains t.1 && !t.2.dead
          if busy || 0x10000000 < r.stagedBytes + len then r
          else
            let x := { x with blocks := layBlocks x.blocks (off / 4096) (padTo len h.data) }
            let r := r.qif fun u => { u with handles := u.handles.put k x }
            let r := r.each gs fun g r => r.stripeOut x (g - x.startG)
            let fua := bit (c.f 1 1) 1
            let y : Staged := { no := c.no, len := len, mag := x.mag, stripes := gs, fua := fua }
            let r := r.qif fun u => { u with staged := u.staged ++ [y] }
            let r := if fua then r.cmdRuns c.no
              else if r.stagedBad y then r.complete c.no 43 0 else r.complete c.no 0 0
            r.hostAdvance

/-- FLUSH (R322). -/
def execFlush (s : State) : Host.Outcome State Fault Refusal :=
  done s fun r =>
    r.onCmd 0x17 fun c r =>
      let wait := (r.u.qif.staged.filter fun x => !x.fua).map Staged.no
      ((r.cmdRuns c.no).qif fun u => { u with flushes := u.flushes ++ [(c.no, wait)] }).hostAdvance

/-! ## Offload, SANITISE, FORMAT (R319, R320) -/

/-- OFFLOAD (R320). -/
def execOffload (h : HostData) (s : State) : Host.Outcome State Fault Refusal :=
  done s fun r =>
    r.onCmd 0x1A fun c r =>
      let m := c.f 0x18 1
      let z := r.magz m
      let sb := r.stripeBytes m
      let off := c.f 0x20 8
      let len := c.f 0x28 4
      if z.op ≠ 0 then r.complete c.no 47 0
      else if !z.identified || !z.valid then r.offloadEnd c.no 1 0 [] []
      else
        match r.clipEntry m (c.f 0x1C 2) with
        | none => r.offloadEnd c.no 2 0 [] []
        | some e =>
          let recover := e.state != 2 && c.f 0x1A 1 == 1
          let endG := if e.state = 1 then (if recover then e.startG + r.stripesLeft m e.startG else z.label.nextG) else e.endG
          let total := (endG - e.startG) * sb
          if e.state = 0 then r.offloadEnd c.no 2 0 [] []
          else if recover = false ∧ total < off + len then r.complete c.no 42 0
          else
            match c.buffer h len with
            | none => r.invalidField c.no 8
            | some segs =>
              if !h.ok then (r.sat QIF_COUNT_HOST_ERR).complete c.no 39 0
              else
                let part := clipStripes sb off len ++ (if e.state = 2 then clipStripes sb e.manifest 4096 else [])
                let todo := if recover ∨ c.f 0x19 1 ≠ 0 then List.range (endG - e.startG)
                  else (List.range (endG - e.startG)).filter part.contains
                let j : Job := { no := c.no, mag := m, startG := e.startG, segs := segs, todo := todo }
                let r := (r.wr PAK_STATUS_UNPACKING (b2n (recover || c.f 0x19 1 == 2))).cmdRuns c.no
                (r.qif fun u => { u with jobs := u.jobs ++ [j] }).jobNext j

/-- SANITISE and FORMAT are sent to every drive of the span that answers IDENTIFY (R319). -/
def Run.magOp (r : Run s₀) (c : Cmd) (opc : Nat) : Run s₀ :=
  let m := c.f 0x18 1
  let z := r.magz m
  let offl := r.u.qif.jobs.any fun j => j.mag == m && (r.u.qif.cmds.any fun x => x.no == j.no && x.opc == 0x1A)
  if r.recording then r.complete c.no 10 0
  else if r.u.qif.handles.any fun h => h.2.mag == m then r.complete c.no 40 0
  else if !r.on (MAG_MAG_STATUS_PRESENT m) then r.complete c.no 41 0
  else if z.op ≠ 0 ∨ offl = true then r.complete c.no 47 0
  else if opc = 7 ∧ (r.cfgGeo m).isEmpty = true then r.invalidField c.no 0x18
  else if opc = 7 ∧ c.f 0x19 1 = 1 then
    if (r.spanDrives m).any fun d => (newestLabel (labelAt (r.drv d).copy0) (labelAt (r.drv d).copy1)).isSome then r.complete c.no 40 0
    else ((r.magzMod m fun z => { z with geo := r.cfgGeo m }).newLabel m).magCheck m |>.complete c.no 0 0
  else
    let ds := (r.spanDrives m).filter fun d => (r.drv d).ident
    let r := (r.cmdRuns c.no).magzMod m fun z =>
      { z with op := opc, opLeft := ds, opCmd := some c.no, follow := false, valid := false, geo := if opc = 7 then r.cfgGeo m else z.geo }
    let r := r.each ds fun d r => r.drvMod d fun v => { v with copy0 := [], copy1 := [], copy := 0 }
    (r.each ds fun d r => r.drvCmd d { opc := opc, lba := 0, count := 0, why := .op m }).hostAdvance

/-- SANITISE (R319). -/
def execSanitise (s : State) : Host.Outcome State Fault Refusal := done s fun r => r.onCmd 0x0A fun c r => r.magOp c 6

/-- FORMAT (R319). -/
def execFormat (s : State) : Host.Outcome State Fault Refusal := done s fun r => r.onCmd 0x0B fun c r => r.magOp c 7

end Sys2Proof.Machine
end

