-- ==== Sys2Proof/Machine/Intake.lean ====
section
/-!
DEFINITION. Sensor intake: bundles, acknowledgement and replay, spare substitution (R98 to R112), virtual streams and frames
(R113 to R117, R250, R255, R261), settings (R118 to R121) and SYNC packets (R373).
-/
namespace Sys2Proof.Machine
variable {s₀ : State}

/-! ## State -/

/-- Change ITK. -/
def Run.itk (r : Run s₀) (f : ItkU → ItkU) : Run s₀ := r.mod fun u => { u with itk := f u.itk }

/-- A bundle. -/
def Run.bnd (r : Run s₀) (b : Nat) : BndU := r.u.itk.bnd.look b {}

/-- Change a bundle. -/
def Run.bndMod (r : Run s₀) (b : Nat) (f : BndU → BndU) : Run s₀ := r.itk fun i => { i with bnd := i.bnd.put b (f (i.bnd.look b {})) }

/-- A virtual stream. -/
def Run.vst (r : Run s₀) (v : Nat) : VsU := r.u.itk.vs.look v {}

/-- Change a virtual stream. -/
def Run.vstMod (r : Run s₀) (v : Nat) (f : VsU → VsU) : Run s₀ := r.itk fun i => { i with vs := i.vs.put v (f (i.vs.look v {})) }

/-- A field of a VS record (Table 04-12). -/
def Run.vsN (r : Run s₀) (v off n : Nat) : Nat := r.cfgN 0x0402 v off n

/-- The virtual streams bound to a bundle, ascending. -/
def Run.bndVs (r : Run s₀) (b : Nat) : List Nat := (List.range 16).filter fun v => r.hasCfg 0x0402 v && r.vsN v 8 1 == b

/-- STATE of a bundle (Table 04-5). -/
def Run.bndState (r : Run s₀) (b : Nat) : Nat := r.rd (ITK_BND_STATUS_STATE b)

/-- A bundle in DESKEW, UP or RESYNC. -/
def Run.bndRuns (r : Run s₀) (b : Nat) : Bool := 2 ≤ r.bndState b && r.bndState b ≤ 4

/-- The bundle enters a state, which each of its virtual streams shows. -/
def Run.bndGo (r : Run s₀) (b st : Nat) : Run s₀ :=
  (r.wr (ITK_BND_STATUS_STATE b) st).each (r.bndVs b) fun v r => r.wr (ITK_VS_STATUS_BND_STATE v) st

/-- LINK on every virtual stream of a bundle (R124). -/
def Run.bndLink (r : Run s₀) (b cause : Nat) : Run s₀ :=
  r.each (r.bndVs b) fun v r => (r.wr (ITK_VS_STATUS_LINK_CAUSE v) cause).ev (131 + 4 * v)

/-! ## Losing a frame (R115) -/

/-- A loss is counted, recorded and reported. -/
def Run.countLoss (r : Run s₀) (v fn cause : Nat) : Run s₀ :=
  let r := (r.sat (ITK_VS_ERR_LOST v)).wr (ITK_VS_LOST_FN v) fn
  (r.wr (ITK_VS_STATUS_LOST_CAUSE v) cause).ev (129 + 4 * v)

/-- The open frame of a virtual stream closes. -/
def Run.closeFrame (r : Run s₀) (v : Nat) : Run s₀ := (r.vstMod v fun x => { x with open_ := none }).wr (ITK_VS_STATUS_FRAME_OPEN v) 0

/-- A frame's slot and its entry are released. -/
def Run.dropFrame (r : Run s₀) (sn : Nat) : Run s₀ := r.mod fun u => { u with frames := u.frames.filter fun f => f.sn != sn }

/-- The open frame of a virtual stream, if any. -/
def Run.openFrame (r : Run s₀) (v : Nat) : Option IFrame := (r.vst v).open_.bind r.frame?

/-- The open frame of a virtual stream is lost whole for a cause of Table 04-7; one that met an overrun has left its gap
already (R115, R138, R190, R261). -/
def Run.loseFrame (r : Run s₀) (v cause : Nat) : Run s₀ :=
  match r.openFrame v with
  | none => r
  | some f =>
    let r := (r.closeFrame v).dropFrame f.sn
    let r := (r.countLoss v f.fn cause).pixAbandon f.sn
    let r := r.when (!f.exts.isEmpty) fun r => r.clipLost f.ctx 1 f.fn
    r.sluLose f.ctx f.fn

/-- Every frame that is open on a bundle is lost. -/
def Run.loseFrames (r : Run s₀) (b cause : Nat) : Run s₀ := r.each (r.bndVs b) fun v r => r.loseFrame v cause

/-! ## The return stream (R102 to R111) -/

/-- A return packet leaves; a replayed SYNC carries its TIME anew (R110). -/
def Run.retEmit (r : Run s₀) (b seq : Nat) (p : RetPkt) : Run s₀ :=
  let body :=
    if p.type = 0x13 then
      let t := r.pinTx ((r.bnd b).map.getD 0 0) r.tselQ
      timeBytes (timeSec t) (timeNs t) (timeFrac t) ++ p.body.drop 16
    else p.body
  r.sendPacket (64 + b) p.type p.vs p.flags seq body

/-- A sequenced return packet takes the next RSEQ and is kept (R108, R109). A bundle outside DESKEW, UP and RESYNC has no
return stream. -/
def Run.retSend (r : Run s₀) (b : Nat) (p : RetPkt) : Run s₀ :=
  if r.bndRuns b then
    let seq := r.rd (ITK_BND_RSEQ_NEXT_RSEQ b)
    ((r.wr (ITK_BND_RSEQ_NEXT_RSEQ b) (seq + 1)).bndMod b fun x => { x with kept := x.kept ++ [(seq, p)] }).retEmit b seq p
  else r

/-- A NAK for the expected SEQ, unless four have been sent for it (R108). -/
def Run.bndNak (r : Run s₀) (b : Nat) : Run s₀ :=
  if 4 ≤ r.rd (ITK_BND_STATUS_NAK_COUNT b) then r
  else ((r.inc (ITK_BND_STATUS_NAK_COUNT b)).sat (ITK_BND_ERR2_NAKS_TX b)).sendPacket (64 + b) 0x11 0 0 (r.rd (ITK_BND_SEQ_EXP_SEQ b)) []

/-- The MAP of a bundle: the sensor lane number of each position (Table 04-4). -/
def Run.mapPkt (r : Run s₀) (b flags : Nat) : RetPkt :=
  let m := (r.bnd b).map
  let pos := (List.range 12).map fun p => match m[p]? with
    | some n => (r.laneU n).sender
    | none => 0xFF
  ⟨0x14, 0, flags, pos.flatMap (le 1) ++ le 1 m.length ++ le 1 (r.rd (ITK_BND_STATUS_MAP_GEN b)) ++ le 2 0⟩

/-- The initial MAP, RSEQ 0, of DESKEW (R107). -/
def Run.initialMap (r : Run s₀) (b : Nat) : Run s₀ :=
  let p := r.mapPkt b 2
  let r := r.wr (ITK_BND_RSEQ_NEXT_RSEQ b) (max 1 (r.rd (ITK_BND_RSEQ_NEXT_RSEQ b)))
  (r.bndMod b fun x => { x with kept := (0, p) :: x.kept.filter fun k => k.1 != 0 }).retEmit b 0 p

/-- A new map is in force: GEN, and the position of every lane of the bundle (R106). -/
def Run.newMap (r : Run s₀) (b : Nat) (map : List Nat) : Run s₀ :=
  let g := (r.bnd b).gen
  let r := (r.bndMod b fun x => { x with map := map, gen := (x.gen + 1) % 256, parts := [], idle := false }).wr (ITK_BND_STATUS_MAP_GEN b) g
  r.each (bundleLanes (r.cfg 0x0401 b)) fun n r =>
    r.laneMod n fun l => { l with pos := (map.findIdx? (· == n)).getD 15 }

/-! ## Bundle states (Table 04-5) -/

/-- The spares of a bundle in SPARE order (Table 04-11). -/
def Run.bndSpares (r : Run s₀) (b : Nat) : List Nat := (List.range (r.cfgN 0x0401 b 9 1)).map fun k => r.cfgN 0x0401 b (0x18 + k) 1

/-- The lanes of a bundle's record for its positions. -/
def Run.bndOwn (r : Run s₀) (b : Nat) : List Nat := (List.range (r.cfgN 0x0401 b 8 1)).map fun p => r.cfgN 0x0401 b (0xC + p) 1

/-- A lane is LINKED. -/
def Run.linked (r : Run s₀) (n : Nat) : Bool := r.laneState n == 4

/-- The first LINKED spare that no position uses. -/
def Run.freeSpare (r : Run s₀) (b : Nat) (map : List Nat) : Option Nat := (r.bndSpares b).find? fun n => r.linked n && !map.contains n

/-- SPARES_LEFT follows the lanes. -/
def Run.sparesLeft (r : Run s₀) (b : Nat) : Run s₀ :=
  r.wr (ITK_BND_STATUS_SPARES_LEFT b) ((r.bndSpares b).filter fun n => r.linked n && !(r.bnd b).map.contains n).length

/-- The bundle fails: every open frame is lost with cause 7 (Table 04-5, R112). -/
def Run.bndFail (r : Run s₀) (b cause : Nat) : Run s₀ :=
  let r := (r.bndMod b fun x => { map := x.map, gen := x.gen }).wr (ITK_BND_STATUS_NAK_COUNT b) 0
  (((r.wr (ITK_BND_STATUS_FAIL_CAUSE b) cause).bndGo b 5).loseFrames b 7).bndLink b 2

/-- DESKEW begins: both directions start afresh and the initial MAP is sent (R107). -/
def Run.bndDeskew (r : Run s₀) (b : Nat) (map : List Nat) : Run s₀ :=
  let r := (r.bndMod b fun x => { gen := x.gen }).txMod (64 + b) fun _ => {}
  let r := ((r.wr (ITK_BND_SEQ_EXP_SEQ b) 0).wr (ITK_BND_RSEQ_NEXT_RSEQ b) 0).wr (ITK_BND_STATUS_NAK_COUNT b) 0
  ((((r.bndGo b 2).newMap b map).sparesLeft b)).initialMap b

/-- The lane of each position in LINKING: its own, or a LINKED spare in SPARE order; none for a position left without. -/
def linkMap (ok : Nat → Bool) : List Nat → List Nat → List (Option Nat)
  | [], _ => []
  | n :: own, spares =>
    if ok n then some n :: linkMap ok own spares
    else match spares with
      | [] => none :: linkMap ok own []
      | k :: rest => some k :: linkMap ok own rest

/-- LINKING ends once every position has a LINKED lane. `failed` says that a lane has just entered FAILED: a position lane
that has, and for which no LINKED spare is left, fails the bundle (Table 04-5). -/
def Run.bndTry (r : Run s₀) (b : Nat) (failed : Bool) : Run s₀ :=
  if r.bndState b ≠ 1 then r
  else
    let own := r.bndOwn b
    let m := linkMap r.linked own ((r.bndSpares b).filter r.linked)
    if m.all Option.isSome then r.bndDeskew b (m.filterMap id)
    else if failed && (own.zip m).any fun p => p.2.isNone && r.laneState p.1 == 5 then r.bndFail b 1
    else r.sparesLeft b

/-- The bundle enters UP; its virtual streams have accepted no FS since (R119). -/
def Run.bndUp (r : Run s₀) (b : Nat) : Run s₀ := (r.bndGo b 3).each (r.bndVs b) fun v r => r.vstMod v fun x => { x with seen := false }

/-- Words are discarded until the next resync point, and a NAK asks for a replay (R108). -/
def Run.bndReplay (r : Run s₀) (b : Nat) : Run s₀ :=
  let r := r.when (r.bndState b == 3) fun r => r.bndGo b 4
  (r.bndMod b fun x => { x with discard := true }).bndNak b

/-- A LINKED spare takes the position of a lane, which is retired; `time` is the loss's (R112). -/
def Run.substitute (r : Run s₀) (b n spare detector time : Nat) : Run s₀ :=
  let r := (r.laneRetire n detector 2 time).sat (ITK_BND_STATUS_SUBST_COUNT b)
  let r := r.bndMod b fun x => { x with wait := x.wait.filter fun w => w.1 != n }
  let r := (r.newMap b ((r.bnd b).map.map fun k => if k = n then spare else k)).sparesLeft b
  let r := if r.bndState b = 2 then (r.bndMod b fun x => { x with synced := false, resends := 0 }).initialMap b
    else (r.bndReplay b).retSend b (r.mapPkt b 0)
  r.bndLink b 1

/-- ITK acts on a change of state of a lane of one of its bundles, in the cycle of the lane's event: `lost` for a loss of comma
lock, which a lane that is no longer LINKED has suffered (Table 04-5, R112). -/
def Run.bndLane (r : Run s₀) (b n : Nat) : Run s₀ :=
  if r.bndState b = 1 then r.bndTry b (r.laneState n == 5)
  else
    let r := r.sparesLeft b
    let u := r.bnd b
    if r.bndRuns b = false then r
    else if u.map.contains n = false then
      match u.wait with
      | w :: _ => if r.linked n && (r.bndSpares b).contains n then r.substitute b w.1 n 1 w.2 else r
      | [] => r
    else if r.linked n then
      match u.wait.find? fun w => w.1 == n with
      | none => r
      | some w =>
        let r := r.bndMod b fun x => { x with wait := x.wait.filter fun w => w.1 != n }
        let r := r.breach { type := 1, index := n, cls := 1, detector := 1, action := 1, event := 32 + 2 * n, time := w.2 }
        if r.bndState b = 2 then r.initialMap b else r.bndReplay b
    else if u.wait.any fun w => w.1 == n then r
    else
      let r := r.bndMod b fun x => { x with parts := [], idle := false }
      match r.freeSpare b u.map with
      | some k => r.substitute b n k 1 r.tselQ
      | none =>
        let r := r.when (r.bndState b == 3) fun r => r.bndGo b 4
        r.bndMod b fun x => { x with wait := x.wait ++ [(n, r.tselQ)], synced := x.synced && r.bndState b != 2 }

/-- Lists taken in turn, one word of each: word k of the stream lies on position k mod W (R102). -/
def interleave : Nat → List (List Nat) → List Nat
  | 0, _ => []
  | n + 1, ls => ls.filterMap List.head? ++ interleave n (ls.map List.tail)

/-- The reaches that every position lane has received are paired, oldest first: a set that is all DATA gives the words of the
stream, and is a resync point when the set before it was all IDLE; `f` acts on that (R102, R103, R105). -/
def Run.bndPair (r : Run s₀) (b : Nat) (f : Run s₀ → Run s₀) : Run s₀ :=
  let u := r.bnd b
  let heads := u.map.map fun n => (u.parts.look n []).head?
  if u.map.isEmpty ∨ heads.any Option.isNone then r
  else
    let set := heads.filterMap id
    let data := set.all (·.1 == 1)
    let r := r.bndMod b fun x => { x with
      parts := x.parts.map fun e => (e.1, e.2.tail)
      idle := set.all (·.1 == 0)
      stream := if data then interleave 600 (set.map (·.2)) else x.stream }
    r.when (data && u.idle) f

/-- CODE_ERR of a position lane rises: in the eighth distinct 1 ms window of TSEL within 100 ms a LINKED spare takes its place
(Table 15-2). -/
def Run.bndCode (r : Run s₀) (n : Nat) : Run s₀ :=
  match r.bundleOf n with
  | none => r
  | some b =>
    let w := r.tselNs / 1000000
    let old := ((r.laneU n).codeWin.filter fun k => k != w && w < k + 100)
    let r := r.laneMod n fun l => { l with codeWin := w :: old }
    if 7 ≤ old.length ∧ r.bndRuns b = true ∧ (r.bnd b).map.contains n = true then
      match r.freeSpare b (r.bnd b).map with
      | some k => r.substitute b n k 2 r.tselQ
      | none => r
    else r

/-! ## Receiving (R100, R105, R108) -/

/-- A packet error. -/
def Run.bndError (r : Run s₀) (b : Nat) : Run s₀ := r.bndReplay b

/-- The bundle delivers words. -/
def Run.bndHears (r : Run s₀) (b : Nat) : Bool := (r.bndState b == 3 || r.bndState b == 4) && !(r.bnd b).discard

/-- A sequenced packet arrives: `f` acts on it when its SEQ is the expected one; an earlier one is a duplicate, any other a
packet error (R9, R100). -/
def Run.bndTake (r : Run s₀) (b seq : Nat) (f : Run s₀ → Run s₀) : Run s₀ :=
  let want := r.rd (ITK_BND_SEQ_EXP_SEQ b)
  let seq := seq % 2 ^ 24
  if !r.bndHears b then r
  else if seq = want then
    let r := (r.wr (ITK_BND_SEQ_EXP_SEQ b) (want + 1)).wr (ITK_BND_STATUS_NAK_COUNT b) 0
    let r := r.bndMod b fun x => { x with owed := true, restart := false }
    f (r.when (r.bndState b == 4 && (r.bnd b).wait.isEmpty) fun r => r.bndUp b)
  else if laterThan 24 seq want || subMod 24 seq want == 2 ^ 23 then (r.sat (ITK_BND_ERR_SEQ_GAP b)).bndError b
  else r

/-- An accepted packet of a virtual stream; without a binding on this bundle it is counted in UNBOUND (R114). -/
def Run.vsTake (r : Run s₀) (b seq v : Nat) (f : Run s₀ → Run s₀) : Run s₀ :=
  r.bndTake b seq fun r => if r.hasCfg 0x0402 v && r.vsN v 8 1 == b then f r else r.sat (ITK_BND_ERR2_UNBOUND b)

/-- A resync point (R105, Table 04-5). -/
def Run.bndResync (r : Run s₀) (b : Nat) : Run s₀ :=
  let st := r.bndState b
  if st = 2 then r.when (r.bnd b).wait.isEmpty fun r => r.bndMod b fun x => { x with synced := true }
  else if (st = 3 ∨ st = 4) ∧ (r.bnd b).wait.isEmpty = true then
    let again := (r.bnd b).restart && st == 4
    let r := r.bndMod b fun x => { x with discard := false, restart := false }
    r.when again fun r => r.bndUp b
  else r

/-- A position lane has received a reach of a TYPE: its words wait for the other positions' (R102, R105). -/
def Run.bndPart (r : Run s₀) (b n type : Nat) : Run s₀ :=
  if r.bndRuns b && (r.bnd b).map.contains n then
    let w := (r.laneU n).words
    (r.bndMod b fun x => { x with parts := x.parts.put n (x.parts.look n [] ++ [(type, w)]) }).bndPair b fun r => r.bndResync b
  else r

/-- The skew over 4 reaches is measured (Table 04-5, R103, R116, R117). -/
def Run.bndDeskewed (r : Run s₀) (b skew : Nat) : Run s₀ :=
  if r.bndState b ≠ 2 ∨ (r.bnd b).synced = false then r
  else if 512 < skew then r.bndFail b 2
  else
    let r := (r.wr (ITK_BND_SKEW_SKEW b) skew).bndUp b
    r.each (r.bndVs b) fun v r => r.vstMod v fun x => { x with first := true, armed := true }

/-- 100 µs pass in DESKEW without a resync point (Table 04-5). -/
def Run.bndMapResend (r : Run s₀) (b : Nat) : Run s₀ :=
  if r.bndState b ≠ 2 ∨ (r.bnd b).synced = true then r
  else if 3 ≤ (r.bnd b).resends then r.bndFail b 3
  else (r.bndMod b fun x => { x with resends := x.resends + 1 }).initialMap b

/-- A position lane stays out of lock for 40 µs (R112, R398). -/
def Run.bndWaitOver (r : Run s₀) (b : Nat) : Run s₀ :=
  match (r.bnd b).wait with
  | [] => r
  | w :: _ =>
    let inner := if r.on (ITK_BND_STATUS_NAK_COUNT b) then 2 else 0
    (r.breach { type := 1, index := w.1, cls := 2, detector := 1, action := 4, inner := inner, event := 32 + 2 * w.1, time := w.2 }).bndFail b 4

/-- NAK with RESTART: the NAK series has run out (R108, R109). -/
def Run.bndRestart (r : Run s₀) (b : Nat) : Run s₀ :=
  if r.rd (ITK_BND_STATUS_NAK_COUNT b) ≠ 4 ∨ r.bndState b ≠ 4 then r
  else
    let r := ((r.wr (ITK_BND_STATUS_NAK_COUNT b) 0).sat (ITK_BND_ERR2_NAKS_TX b)).sendPacket (64 + b) 0x11 0 1 (r.rd (ITK_BND_SEQ_EXP_SEQ b)) []
    ((r.bndMod b fun x => { x with discard := true, restart := true }).loseFrames b 6).bndLink b 3

/-- An ACK releases the kept return packets whose SEQ it equals or is later than (R9, R109). -/
def Run.bndAcked (r : Run s₀) (b seq : Nat) : Run s₀ :=
  if r.bndHears b then r.bndMod b fun x => { x with kept := x.kept.filter fun k => stillKept k.1 (seq % 2 ^ 24) } else r

/-- A NAK starts a replay of the return stream, or at the fourth for one RSEQ its restart (R109 to R111). -/
def Run.bndNaked (r : Run s₀) (b seq : Nat) : Run s₀ :=
  if !r.bndHears b then r
  else
    let seq := seq % 2 ^ 24
    let n := if (r.bnd b).nakSeq = seq then (r.bnd b).nakN + 1 else 1
    let r := (r.sat (ITK_BND_ERR_NAKS_RX b)).bndMod b fun x => { x with nakSeq := seq, nakN := n }
    let r := r.idleReach (64 + b)
    if n < 4 then r.each ((r.bnd b).kept.filter fun k => k.1 == seq || laterThan 24 k.1 seq) fun k r => r.retEmit b k.1 k.2
    else
      let r := (r.bndMod b fun x => { x with kept := [], nakN := 0 })
      (r.retSend b (r.mapPkt b 1)).bndLink b 4

/-! ## Room in the recording polder (R253 to R255, R261) -/

/-- A frame of a context goes to the recording polder (R15). -/
def Run.toPolder (r : Run s₀) (ctx : Nat) : Bool :=
  r.recCtx ctx || (r.on (PIX_CTX_CFG_INTERPRET ctx) && r.on (PIX_CTX_CFG_FRAME_MODE ctx))

/-- A frame's slot may be reclaimed (R255). -/
def Run.reclaimable (r : Run s₀) (f : IFrame) : Bool :=
  let st := r.rd MAG_REC_STATUS_STATE
  let newest := ((r.u.magu.recent.look f.ctx []).take (r.u.magu.prerolls.getD f.ctx 0)).contains f.sn
  f.complete && !((st == 1 || st == 2) && newest && r.recCtx f.ctx) && !(f.inClip && !f.durable)

/-- The frames to reclaim, oldest first, until their rows cover `n`; none when all together do not. -/
def victims : Nat → List IFrame → Option (List IFrame)
  | 0, _ => some []
  | _, [] => none
  | n, f :: l => (victims (n - runRows f.exts) l).map (f :: ·)

/-- A slot of n rows: the free rows, and as far as needed those of reclaimed frames; a frame that an engine still needs is shed
with cause 4 (R16, R134, R255). -/
def Run.slotAlloc (r : Run s₀) (n : Nat) : Option (List (Nat × Nat)) × Run s₀ :=
  match victims (n - runRows r.freeRuns) (r.u.frames.filter fun f => !f.exts.isEmpty && r.reclaimable f) with
  | none => (none, r)
  | some l =>
    let r := r.each l fun f r => (r.dropFrame f.sn).when ((r.pf? f.sn).any PFrame.frameMode) fun r => r.pixLose f.sn 4
    (some (takeRows n r.freeRuns), r)

/-! ## Settings (R118 to R120) -/

/-- PENDING and QUEUED. -/
def Run.setCounts (r : Run s₀) (v : Nat) : Run s₀ :=
  (r.wr (ITK_VS_SET_CTL_QUEUED v) (r.vst v).queue.length).wr (ITK_VS_SET_CTL_PENDING v) (r.vst v).pend.length

/-- The body of a SET (Table 04-4). -/
def SetReq.body (q : SetReq) : List Byte :=
  padWords (le 4 q.fn ++ le 2 q.tag ++ le 2 q.data.length ++ q.data.flatMap (le 4))

/-- A SET is dispatched (R119, R120). -/
def Run.setSend (r : Run s₀) (v : Nat) (q : SetReq) : Run s₀ :=
  let r := r.vstMod v fun x => { x with pend := x.pend ++ [{ q with d := r.rd (ITK_VS_LAST_FN v) }] }
  r.retSend (r.vsN v 8 1) ⟨0x12, v, 0, q.body⟩

/-- SETTINGS_LATE (R120). -/
def Run.setLate (r : Run s₀) (v fn tag : Nat) (lost early : Bool) : Run s₀ :=
  let r := ((r.wr (ITK_VS_LATE_FN v) fn).wr (ITK_VS_LATE_TAG_TAG v) tag).wr (ITK_VS_LATE_TAG_LOST v) (b2n lost)
  ((r.wr (ITK_VS_LATE_TAG_EARLY v) (b2n early)).sat (ITK_VS_ERR_LATE v)).ev (130 + 4 * v)

/-- What an FS with frame number g and a tag says of a pending SET: still pending, on time, late, lost or early (R120). -/
inductive Echo where
  | wait | onTime | late | lost | early

/-- The verdict of R120. -/
def echoOf (q : SetReq) (latency g tag : Nat) : Echo :=
  if q.tag = tag then (if g = q.fn then .onTime else if laterThan 32 g q.fn then .late else .early)
  else
    let lim := (q.d + latency + 1) % 2 ^ 32
    if laterThan 32 g (if laterThan 32 q.fn lim then q.fn else lim) then .lost else .wait

/-- An FS is judged against the pending SETs (R120). -/
def Run.setEcho (r : Run s₀) (v g tag : Nat) : Run s₀ :=
  let l := r.vsN v 0xA 1
  let ps := (r.vst v).pend
  let r := r.vstMod v fun x => { x with pend := ps.filter fun q => match echoOf q l g tag with
    | .wait => true
    | _ => false }
  let r := r.each ps fun q r => match echoOf q l g tag with
    | .late => r.setLate v g q.tag false false
    | .lost => r.setLate v 0xFFFFFFFF q.tag true false
    | .early => r.setLate v g q.tag false true
    | _ => r
  r.setCounts v

/-- A queued SET is due at frame number g: g equals SET_FN - L or is later (R119). -/
def setDue (q : SetReq) (latency g : Nat) : Bool :=
  let t := subMod 32 q.fn latency
  g == t || laterThan 32 g t

/-- The due SETs are dispatched in queue order (R119). -/
def Run.setDispatch (r : Run s₀) (v g : Nat) : Run s₀ :=
  let l := r.vsN v 0xA 1
  let qs := (r.vst v).queue
  let r := r.vstMod v fun x => { x with queue := qs.filter fun q => !setDue q l g }
  (r.each (qs.filter fun q => setDue q l g) fun q r => r.setSend v q).setCounts v

/-- A write of GO (R119). -/
def Run.setGo (r : Run s₀) (v : Nat) : Run s₀ :=
  let len := r.rd (ITK_VS_SET_CTL_LEN v)
  let tag := r.rd (ITK_VS_SET_TAG_TAG v)
  let x := r.vst v
  if len = 0 ∨ 256 < len ∨ 8 ≤ x.queue.length + x.pend.length ∨ r.hasCfg 0x0402 v = false ∨ tag = r.rd (ITK_VS_LAST_TAG_TAG v)
      ∨ ((x.queue ++ x.pend).any fun q => q.tag == tag) = true then r.ignored
  else
    let q : SetReq := { fn := r.rd (ITK_VS_SET_FN v), tag := tag, data := (List.range len).map fun k => r.rd (ITK_VS_SET_DATA v k) }
    let g := r.rd (ITK_VS_LAST_FN v)
    let t := subMod 32 q.fn (r.vsN v 0xA 1)
    if x.seen && !laterThan 32 t g then (r.setSend v q).setCounts v
    else if !x.seen then (r.setSend v q).setCounts v
    else (r.vstMod v fun x => { x with queue := x.queue ++ [q] }).setCounts v

/-! ## Frames (R113 to R117) -/

/-- A frame opens: its place in the polder, its presentation, the sluice (R114, R130, R188, R255, R261). -/
def Run.openFs (r : Run s₀) (v fn tag ts tns tf : Nat) : Run s₀ :=
  let ctx := r.vsN v 9 1
  let w := r.vsN v 0xC 2
  let h := r.vsN v 0xE 2
  let packed := r.recCtx ctx && r.packedMode
  let f : IFrame := { sn := r.u.itk.sn, vs := v, ctx := ctx, fn := fn, tag := tag, ts := ts, tns := tns, tf := tf, w := w, h := h,
                      embMax := r.vsN v 0x18 2, packed := packed }
  let want := r.toPolder ctx && r.retiredCount < 2
  let (exts, r) := if want then r.slotAlloc (slotNeed packed w h f.embMax) else (some [], r)
  let f := { f with exts := exts.getD [] }
  let r := r.mod fun u => { u with frames := u.frames ++ [f], itk := { u.itk with sn := u.itk.sn + 1 } }
  let r := (r.vstMod v fun x => { x with open_ := some f.sn }).wr (ITK_VS_STATUS_FRAME_OPEN v) 1
  let r := r.when exts.isNone fun r => ((r.sat MAG_REC_COUNT_OVERRUN).ev 16).clipLost ctx 2 fn
  (((r.deltaBoundary ctx).present f).grants).sluFs ctx ⟨fn, tag, ts, tns, tf, 0⟩

/-- An FS is accepted (R114 to R117, R119, R120). DESIGN CHOICE (assumptions 44 and 45): an FS refused with cause 5 becomes
neither LAST_FN nor LAST_TAG, and one that finds a frame open loses that frame with cause 3 as well. -/
def Run.acceptFs (r : Run s₀) (v fn tag ts tns tf : Nat) : Run s₀ :=
  let r := (r.vstMod v fun x => { x with armed := true }).wr (ITK_VS_STATUS_STALLED v) 0
  let r := r.loseFrame v 3
  let last := r.rd (ITK_VS_LAST_FN v)
  let first := (r.vst v).first
  if !first && !laterThan 32 fn last then
    (((r.vstMod v fun x => { x with seen := true }).setEcho v fn tag).setDispatch v fn).countLoss v fn 5
  else
    let r := r.when (!first && fn != (last + 1) % 2 ^ 32) fun r => r.sat (ITK_VS_ERR_GAPS v)
    let r := (r.vstMod v fun x => { x with first := false, seen := true }).setEcho v fn tag
    let r := ((r.wr (ITK_VS_LAST_FN v) fn).wr (ITK_VS_LAST_TAG_TAG v) tag).setDispatch v fn
    r.openFs v fn tag ts tns tf

/-- Lines of a frame whose bytes all lie in parity rows that are written, when `e` bytes of the slot are (R128, R251). -/
def IFrame.rowsIn (f : IFrame) (e : Nat) : Nat :=
  let whole := e / 3840 * 3840
  if f.w * f.h * 9 / 4 + f.rawOff ≤ e then f.h else (whole - f.rawOff) / (f.w * 9 / 4)

/-- An LP of an open frame: its samples enter the polder and the stripe-mode store, or lose the frame (R113, R114, R251,
R275). -/
def Run.acceptLp (r : Run s₀) (v : Nat) (f : IFrame) (y x : Nat) (samples : List Nat) : Run s₀ :=
  let n := samples.length
  if y ≠ f.nextY ∨ f.h ≤ y ∨ x ≠ f.nextX ∨ f.w < x + n then r.loseFrame v 2
  else
    let bs := packBits 18 samples
    let last := x + n = f.w
    let at_ := f.rawOff + (y * f.w + x) * 9 / 4
    let r := r.when (!f.exts.isEmpty && r.retiredCount < 2) fun r => r.slotStore f at_ bs
    let r := r.frameMod f.sn fun f => { f with
      nextY := if last then y + 1 else y
      nextX := if last then 0 else x + n
      crc := bs.foldl (fun c b => crcReflByte 0x82F63B78 8 (c ^^^ b.toNat)) f.crc }
    let r := r.when (!f.exts.isEmpty) fun r => r.pixRows f.sn (f.rowsIn (at_ + bs.length))
    r.pixLine f.sn y (samples.map (· % 2 ^ 18)) last

/-- An EMB of an open frame (R114, R115). -/
def Run.acceptEmb (r : Run s₀) (v : Nat) (f : IFrame) (fn off : Nat) (data : List Byte) : Run s₀ :=
  if fn ≠ f.fn then r.sat (ITK_VS_ERR_ORPHAN v)
  else
    let words := data.length / 8
    let keep := min words (f.embMax - off)
    let bs := data.take (8 * keep)
    let r := r.when (!f.exts.isEmpty && r.retiredCount < 2) fun r => r.slotStore f (8 * off) bs
    let r := r.frameMod f.sn fun f => { f with emb := if keep = 0 then f.emb else max f.emb (off + keep), trunc := f.trunc || keep < words }
    r.sluEmb f.ctx off bs

/-- An FE of an open frame: the frame is complete, or lost with cause 4 (R115, R251, R274). -/
def Run.acceptFe (r : Run s₀) (v : Nat) (f : IFrame) (fn lines : Nat) : Run s₀ :=
  if fn ≠ f.fn ∨ lines < f.h ∨ f.nextY < f.h then r.loseFrame v 4
  else
    let fill := f.rawOff + f.w * f.h * 9 / 4
    let r := r.when (!f.exts.isEmpty && r.retiredCount < 2 && f.pakDone != some 0) fun r =>
      r.slotStore f fill (List.replicate (ceilDiv fill 3840 * 3840 - fill) 0#8)
    let r := (r.closeFrame v).inc (ITK_VS_FRAMES v)
    let r := r.frameMod f.sn fun f => { f with complete := true, feAt := r.now }
    let r := ((r.frame? f.sn).elim r r.frameRecorded).recAdvance
    r.when f.exts.isEmpty fun r => r.dropFrame f.sn

/-- An LP, EMB or FE without an open frame is counted in ORPHAN (R114). -/
def Run.ofOpen (r : Run s₀) (v : Nat) (f : IFrame → Run s₀ → Run s₀) : Run s₀ :=
  match r.openFrame v with
  | some x => f x r
  | none => r.sat (ITK_VS_ERR_ORPHAN v)

/-- The samples of an LP reach the sluice path as they arrive, before its CRC is checked (R114, R188, R190). -/
def Run.sluiceLp (r : Run s₀) (b v y x : Nat) (samples : List Nat) (bad : Bool) : Run s₀ :=
  if r.bndHears b && r.hasCfg 0x0402 v && r.vsN v 8 1 == b then r.sluLp (r.vsN v 9 1) y x (samples.map (· % 2 ^ 18)) bad else r

/-- An ST is accepted (R124). -/
def Run.acceptSt (r : Run s₀) (v status : Nat) (alarm : Bool) (temp : Nat) : Run s₀ :=
  let was := r.on (ITK_VS_STATUS_ALARM v)
  let r := r.wr (ITK_VS_ST v) (status % 2 ^ 32 + b2n alarm * 2 ^ 32 + temp % 2 ^ 16 * 2 ^ 48)
  let r := r.wr (ITK_VS_STATUS_ALARM v) (b2n alarm)
  r.when (alarm && !was) fun r => (r.wr (ITK_VS_STATUS_LINK_CAUSE v) 5).ev (131 + 4 * v)

/-- The frame-start watchdog of a virtual stream expires (R117). -/
def Run.fsTimeout (r : Run s₀) (v : Nat) : Run s₀ :=
  if (r.vst v).armed then
    let r := (r.vstMod v fun x => { x with armed := false }).loseFrame v 1
    (r.wr (ITK_VS_STATUS_STALLED v) 1).ev (128 + 4 * v)
  else r

/-- One SYNC for a virtual stream; the spec gives NEXT no value when PERIOD is 0 and PHASE has passed: a free one (R373). -/
def Run.syncOne (r : Run s₀) (b v : Nat) : Run s₀ :=
  let t := r.pinTx ((r.bnd b).map.getD 0 0) r.tselQ
  let en := r.rd (TIM_VS_NEXT_CTL_EN v)
  let body := fun n : Nat => timeBytes (timeSec t) (timeNs t) (timeFrac t) ++
    (if en = 1 then timeBytes (timeSec n) (timeNs n) (timeFrac n) else List.replicate 16 0#8)
  let n := r.nextExposure v t
  if en = 1 ∧ n < t then r.free 80 fun n r => r.retSend b ⟨0x13, v, en, body n⟩
  else r.retSend b ⟨0x13, v, en, body n⟩

/-! ## Weave and stop (R56, R107) -/

/-- ITK takes the BUNDLE and VS records of a bit-stream just woven. -/
def Run.itkWeave (r : Run s₀) : Run s₀ :=
  let r := r.itk fun i => { sn := i.sn }
  let r := r.each (List.range 16) fun v r =>
    let r := (((r.wr (ITK_VS_STATUS_FRAME_OPEN v) 0).wr (ITK_VS_STATUS_STALLED v) 0).wr (ITK_VS_STATUS_ALARM v) 0).setCounts v
    (r.wr (ITK_VS_STATUS_BOUND v) (b2n (r.hasCfg 0x0402 v))).wr (ITK_VS_STATUS_BND_STATE v) 0
  r.each (List.range 8) fun b r =>
    let r := ((r.wr (ITK_BND_STATUS_SUBST_COUNT b) 0).wr (ITK_BND_STATUS_NAK_COUNT b) 0).wr (ITK_BND_STATUS_FAIL_CAUSE b) 0
    let r := ((r.wr (ITK_BND_SKEW_SKEW b) 0).sparesLeft b).each (bundleLanes (r.cfg 0x0401 b)) fun n r => r.laneMod n fun l => { l with pos := 15 }
    if r.hasCfg 0x0401 b then (r.bndGo b 1).bndTry b false else r.bndGo b 0

/-- Intake stops: frames that are still open are discarded, and pre-roll with them (R41, R56). -/
def Run.itkStop (r : Run s₀) : Run s₀ := r.itk fun i => { i with stop := true }

/-! ## Commands -/

/-- An FS arrives (R114). -/
def execFs (b : Fin 8) (seq : Nat) (vs : Fin 16) (fn tag ts tns tf left0 left1 : Nat) (s : State) : Host.Outcome State Fault Refusal :=
  done s fun r => r.vsTake b seq vs fun r =>
    if r.u.itk.stop then r
    else ((r.turnLeft 0 left0).turnLeft 1 left1).acceptFs vs (fn % 2 ^ 32) (tag % 2 ^ 16) (ts % 2 ^ 48) (tns % 2 ^ 30) (tf % 2 ^ 18)

/-- A packet whose LEN lies outside its type's range is a packet error of the header; `f` takes any other one (R100). -/
def Run.lenOk (r : Run s₀) (b : Nat) (ok : Bool) (f : Run s₀ → Run s₀) : Run s₀ :=
  if ok then f r else if r.bndHears b then (r.sat (ITK_BND_ERR_HDR_ERR b)).bndError b else r

/-- An LP arrives; its LEN is 1 + COUNT * 9 / 32 for a COUNT of 32 to 4,096 samples, a multiple of 32 (R100, R114). -/
def execLp (b : Fin 8) (seq : Nat) (vs : Fin 16) (y x : Nat) (samples : List Nat) (s : State) : Host.Outcome State Fault Refusal :=
  done s fun r => r.lenOk b (samples.length % 32 == 0 && 32 ≤ samples.length && samples.length ≤ 4096) fun r =>
    ((r.sluiceLp b vs y x samples false).vsTake b seq vs) fun r => r.ofOpen vs fun f r => r.acceptLp vs f y x samples

/-- An FE arrives (R115). -/
def execFe (b : Fin 8) (seq : Nat) (vs : Fin 16) (fn lines : Nat) (s : State) : Host.Outcome State Fault Refusal :=
  done s fun r => r.vsTake b seq vs fun r => r.ofOpen vs fun f r => r.acceptFe vs f fn lines

/-- An EMB arrives; it has 1 to 2,048 words of data (R100, R114). -/
def execEmb (b : Fin 8) (seq : Nat) (vs : Fin 16) (fn off : Nat) (data : List Byte) (s : State) : Host.Outcome State Fault Refusal :=
  done s fun r => r.lenOk b (0 < data.length && data.length ≤ 16384) fun r =>
    r.vsTake b seq vs fun r => r.ofOpen vs fun f r => r.acceptEmb vs f fn off (padWords data)

/-- An ST arrives (R124). -/
def execSt (b : Fin 8) (seq : Nat) (vs : Fin 16) (status : Nat) (alarm : Bool) (temp : Nat) (s : State) : Host.Outcome State Fault Refusal :=
  done s fun r => r.vsTake b seq vs fun r => r.acceptSt vs status alarm temp

/-- A packet of a reserved sequenced type arrives (R100). -/
def execReservedType (b : Fin 8) (seq : Nat) (s : State) : Host.Outcome State Fault Refusal :=
  done s fun r => r.bndTake b seq fun r => r.sat (ITK_BND_ERR2_RESERVED_TYPE b)

/-- A packet error, on a hop also a TYPE that Table 10-2 does not list or not permit upstream (R242): `crc` for a wrong CRC-32C, else an error of the header; `lp` is VS, Y, X and samples of an LP whose CRC
failed (R100, R108). -/
def execPacketError (l : Link) (crc : Bool) (lp : Option (Nat × Nat × Nat × List Nat)) (s : State) : Host.Outcome State Fault Refusal :=
  done s fun r =>
    match l with
    | .hop l => r.hopError l crc
    | .bundle b =>
      if r.bndHears b then
        let r := match lp with
          | some (v, y, x, samples) => r.sluiceLp b v y x samples true
          | none => r
        (r.sat (if crc then ITK_BND_ERR_CRC_ERR b else ITK_BND_ERR_HDR_ERR b)).bndError b
      else r

/-- An ACK arrives (R109). -/
def execAck (l : Link) (seq : Nat) (s : State) : Host.Outcome State Fault Refusal :=
  done s fun r => match l with
    | .hop l => r.hopAcked l seq
    | .bundle b => r.bndAcked b seq

/-- A NAK arrives (R109, R111). -/
def execNak (l : Link) (seq : Nat) (s : State) : Host.Outcome State Fault Refusal :=
  done s fun r => match l with
    | .hop l => r.hopNaked l seq
    | .bundle b => r.bndNaked b seq

/-- The acknowledgement interval expires (R108). -/
def execAckSend (b : Fin 8) (s : State) : Host.Outcome State Fault Refusal :=
  done s fun r =>
    if (r.bnd b).owed && r.bndRuns b then
      (r.bndMod b fun x => { x with owed := false }).sendPacket (64 + b) 0x10 0 0 (subMod 24 (r.rd (ITK_BND_SEQ_EXP_SEQ b)) 1) []
    else r

/-- 10 µs pass after a NAK (R108). -/
def execNakResend (b : Fin 8) (s : State) : Host.Outcome State Fault Refusal :=
  done s fun r => if r.on (ITK_BND_STATUS_NAK_COUNT b) && r.bndState b == 4 then r.bndNak b else r

/-- 10 µs pass after the fourth NAK (R108). -/
def execNakRestart (b : Fin 8) (s : State) : Host.Outcome State Fault Refusal := done s fun r => r.bndRestart b

/-- A resync point (R105, R108). -/
def execResyncPoint (l : Link) (s : State) : Host.Outcome State Fault Refusal :=
  done s fun r => match l with
    | .hop l => r.hopMod l fun h => { h with discard := false }
    | .bundle b => r.bndResync b

/-- The skew is measured (Table 04-5). -/
def execDeskewDone (b : Fin 8) (skew : Nat) (s : State) : Host.Outcome State Fault Refusal := done s fun r => r.bndDeskewed b skew

/-- 100 µs pass in DESKEW (Table 04-5). -/
def execMapResend (b : Fin 8) (s : State) : Host.Outcome State Fault Refusal := done s fun r => r.bndMapResend b

/-- A relock wait ends (R112). -/
def execRelockWaitTimeout (b : Fin 8) (s : State) : Host.Outcome State Fault Refusal :=
  done s fun r => if r.bndRuns b then r.bndWaitOver b else r

/-- A write of ITK_BND_n_CTL.RESTART (Table 04-5). -/
def Run.writeRestart (r : Run s₀) (b : Nat) : Run s₀ :=
  if r.bndState b = 5 then ((r.wr (ITK_BND_STATUS_FAIL_CAUSE b) 0).bndGo b 1).bndTry b false else r.ignored

/-- A write of ITK_BND_n_CTL.RESTART (Table 04-5). -/
def execRestart (b : Fin 8) (s : State) : Host.Outcome State Fault Refusal := done s fun r => r.writeRestart b

/-- The frame-start watchdog expires (R117). -/
def execFsTimeout (v : Fin 16) (s : State) : Host.Outcome State Fault Refusal := done s fun r => r.fsTimeout v

/-- A write of ITK_VS_n_SET_CTL.GO (R119). -/
def execGo (v : Fin 16) (s : State) : Host.Outcome State Fault Refusal := done s fun r => r.setGo v

/-- SYNC_PERIOD passes: one SYNC for each bound virtual stream (R373). -/
def execSyncSend (b : Fin 8) (s : State) : Host.Outcome State Fault Refusal :=
  done s fun r => if r.cfgN 0x0401 b 0xA 2 ≠ 0 ∧ r.bndRuns b = true then r.each (r.bndVs b) fun v r => r.syncOne b v else r

end Sys2Proof.Machine
end

