-- ==== Sys2Proof/Machine/Lanes.lean ====
section
/-!
DEFINITION. The lanes' commands (R81 to R97), and what the unit that owns a lane does when the lane's state changes: ITK
(R106, R112), MAG (R265, R268, Table 10-9) and FED (R191, R396).
-/
namespace Sys2Proof.Machine
variable {s₀ : State}

/-! ## Owners -/

/-- UP and FAR_LOCK of a feed group follow its lanes (Table 07-13). -/
def Run.fedSync (r : Run s₀) (g : Nat) : Run s₀ :=
  let ls := groupLanes (r.cfg 0x0703 g)
  let far := (ls.map fun n => if r.on (LNK_STATUS_FAR_RX_LOCK n) then 2 ^ (n - 40) else 0).foldl (· + ·) 0
  (r.wr (FED_STATUS_FAR_LOCK g) far).wr (FED_STATUS_UP g) (b2n (ls.all r.linked))

/-- A loss of comma lock that no recovery of ITK answers is written as a transient fault (Table 15-2, R401). -/
def Run.lossBreach (r : Run s₀) (n action : Nat) : Run s₀ :=
  r.breach { type := laneType n, index := n, cls := 1, detector := 1, action := action, event := 32 + 2 * n }

/-- The owner of a lane acts in the cycle in which the lane became LINKED, lost comma lock (`lost`) or FAILED (R112, R265,
R396). The drives of a magazine lane that links
afresh are asked for IDENTIFY, and an idle magazine is identified again (R267). -/
def Run.laneChanged (r : Run s₀) (n : Nat) (lost : Bool) : Run s₀ :=
  let st := r.laneState n
  if n < 24 then
    match r.bundleOf n with
    | none => r.when lost fun r => r.lossBreach n 0
    | some b =>
      let own := r.bndRuns b && (r.bnd b).map.contains n
      let r := r.when (lost && !own) fun r => r.lossBreach n 0
      r.bndLane b n
  else if n < 40 then
    let l := n - 24
    if r.laneFree n then r.when lost fun r => r.lossBreach n 0
    else
    let r := r.when lost fun r => (r.lossBreach n 1).hopLost l
    let fresh := !r.on (MAG_LINK_STATUS_RELOCK_WAIT l)
    let again := fresh && !r.recordsOn (r.magOfLane l)
    let r := r.when (st == 4) fun r =>
      let r := (r.hopUp l).when again fun r => r.magzMod (r.magOfLane l) fun z => { z with identified := false }
      r.when fresh fun r => r.magProbe l
    let r := if st = 5 ∧ r.laneFree n = false then
        (if r.recordsOn (r.magOfLane l) then r.laneMod n fun x => { x with checkLater := true } else r.selfCheck n)
      else r
    r.magCheck (r.magOfLane l)
  else
    let r := r.when lost fun r => r.lossBreach n 0
    match r.groupOf n with
    | none => r
    | some g => ((r.when (st == 5) fun r => r.selfCheck n)).fedSync g

/-- The far end of a feed lane loses lock on the device's transmitter (R191, Table 15-2). -/
def Run.farLost (r : Run s₀) (n : Nat) : Run s₀ :=
  match r.groupOf n with
  | none => r
  | some g =>
    (r.breach { type := 3, index := n, cls := 1, detector := 5, event := 281 + 2 * g }).ev (281 + 2 * g)

/-- The lane loses comma lock, and its owner acts. -/
def Run.lockLost (r : Run s₀) (n : Nat) : Run s₀ := (r.laneLose n).laneChanged n true

/-- The lane's training has failed, and its owner acts (R88, R90). -/
def Run.trainFailed (r : Run s₀) (n result : Nat) : Run s₀ := (r.laneFail n result).laneChanged n false

/-! ## Commands -/

/-- The clock-data recovery of a lane in ACQUIRE locks (Table 03-8). -/
def execCdrLock (n : Fin 48) (s : State) : Host.Outcome State Fault Refusal :=
  done s fun r => if r.laneState n = 1 then r.laneEnter n 2 false else r

/-- Payload bits of a received reach and its code errors; DATA reaches end their stream bits with data symbol 15,635 (R102). -/
def Run.payload (r : Run s₀) (n type : Nat) (sym : List Nat) : List Bool × Nat :=
  reachBits (r.rxPam n) (if type = 1 then 15636 else 16384) sym

/-- Comma lock is declared; a TRAINED lane is LINKED at once (R81, R83). -/
def Run.lockDeclared (r : Run s₀) (n : Nat) : Run s₀ :=
  let r := r.commaLocked n
  r.when (r.laneState n == 4) fun r => r.laneChanged n false

/-- The words that a reach completed go to the lane's owner: a bundle joins those of its position lanes, and on a hop a DATA
reach after an IDLE one is a resync point (R102, R105, R242). -/
def Run.laneWords (r : Run s₀) (n was type : Nat) : Run s₀ :=
  if n < 24 then (r.bundleOf n).elim r fun b => r.bndPart b n type
  else if n < 40 ∧ was = 0 ∧ type = 1 then r.hopMod (n - 24) fun h => { h with discard := false }
  else r

/-- A reach of a locked lane, its symbols from the comma's place on (R77 to R82, R89). -/
def Run.lockedReach (r : Run s₀) (n : Nat) (sym : List Nat) (h : Option ReachHeader) : Run s₀ :=
  let st := r.laneState n
  let was := (r.laneU n).type
  let x := r.payload n (h.elim was fun h => h.type) sym
  let r := r.when (x.2 != 0) fun r => (r.codeErr n x.2).bndCode n
  match h with
  | some h =>
    let far := r.on (LNK_STATUS_FAR_RX_LOCK n)
    let r := r.laneReach n h x.1
    let r := r.when (far && !h.rxLock && 40 ≤ n) fun r => r.farLost n
    let r := if st = 3 ∧ r.laneState n = 4 then r.laneChanged n false
      else if 40 ≤ n then (r.groupOf n).elim r r.fedSync
      else r
    r.when (r.laneState n == 4) fun r => r.laneWords n was h.type
  | none =>
    let r := r.laneMiss n x.1
    if 4 ≤ (r.laneU n).misses then r.lockLost n else r.when (r.laneState n == 4) fun r => r.laneWords n was was

/-- Symbols are received at the pins: in ALIGN the receiver searches them, and once it is locked they are one reach from its
comma's place on (R73 to R82, R84). LOOP 3 sends them out again (Table 03-9). -/
def Run.reach (r : Run s₀) (n : Nat) (sym : List Nat) : Run s₀ :=
  let pam := r.rxPam n
  let top := if pam then 3 else 1
  let sym := invert pam (r.on (LNK_CTL_RX_INV n)) sym
  let st := r.laneState n
  if st = 2 then
    let r := r.laneAlign n top sym
    r.when (4 ≤ (r.laneU n).commas && r.on (LNK_ALIGN_COMMA_EN n)) fun r => r.lockDeclared n
  else if st = 3 ∨ st = 4 then
    let h := reachHeader top sym
    (r.laneHdrOk n h).lockedReach n sym h
  else r.when (st == 6 && r.rd (LNK_LOOP_LOOP n) == 3) fun r => r.emit (.reach n (invert pam (r.on (LNK_CTL_TX_INV n)) sym))

/-- Symbols are received (R82). -/
def execReachReceived (n : Fin 48) (sym : List Nat) (s : State) : Host.Outcome State Fault Refusal := done s fun r => r.reach n sym

/-- The fourth spaced comma with a valid header (R81). -/
def execCommaLock (n : Fin 48) (s : State) : Host.Outcome State Fault Refusal :=
  done s fun r => if r.laneState n = 2 ∧ r.on (LNK_ALIGN_COMMA_EN n) = true then r.lockDeclared n else r

/-- The fourth consecutive miss: misses not yet counted are counted in HDR_ERR (R82). -/
def execLossOfLock (n : Fin 48) (s : State) : Host.Outcome State Fault Refusal :=
  done s fun r =>
    if r.laneState n = 3 ∨ r.laneState n = 4 then (r.hdrErr n (4 - (r.laneU n).misses)).lockLost n else r

/-- A trained lane has not regained lock within 100 µs (R83). -/
def execAlignTimeout (n : Fin 48) (s : State) : Host.Outcome State Fault Refusal :=
  done s fun r =>
    if r.laneState n = 2 ∧ r.on (LNK_STATUS_TRAINED n) = true then (r.wr (LNK_STATUS_TRAINED n) 0).laneAcquire n false else r

/-- Two identical accepted copies of a training message (R85, R86). -/
def execTrainingMessage (n : Fin 48) (msg : Nat) (s : State) : Host.Outcome State Fault Refusal := done s fun r => r.trainingMessage n msg

/-- No echo within 1 ms of a request: the device continues with a new SEQ and a request of its own choice, a free value; the
fourth failure ends the training (R88). -/
def execEchoTimeout (n : Fin 48) (s : State) : Host.Outcome State Fault Refusal :=
  done s fun r =>
    if r.laneState n = 3 ∧ (r.laneU n).waiting = true then
      let r := r.inc (LNK_TRAIN_ECHO_FAILS n)
      if 4 ≤ r.rd (LNK_TRAIN_ECHO_FAILS n) then r.trainFailed n 3
      else r.free 3 fun v r => r.sendRequest n (if v < 6 then (v % 2 + 1) * 2 ^ (2 * (v / 2)) else (v - 5) * 64)
    else r

/-- TRAIN_TIMEOUT expires (R90). -/
def execTrainTimeout (n : Fin 48) (s : State) : Host.Outcome State Fault Refusal :=
  done s fun r =>
    let st := r.laneState n
    if (st = 1 ∨ st = 2 ∨ st = 3) ∧ r.on (LNK_STATUS_TRAINED n) = false then r.trainFailed n 2 else r

/-- A write of 1 to BITSLIP (R84). -/
def execBitslip (n : Fin 48) (s : State) : Host.Outcome State Fault Refusal := done s fun r => r.bitslip n

/-- A slip takes effect (R84). -/
def execSlipDone (n : Fin 48) (s : State) : Host.Outcome State Fault Refusal := done s fun r => r.slipDone n

/-- A write of 1 to ACCEPT (R84). DESIGN CHOICE (assumption 41): with HDR_OK 1 outside ALIGN, or under comma search, it changes
nothing. -/
def Run.writeAccept (r : Run s₀) (n : Nat) : Run s₀ :=
  if r.on (LNK_ALIGN_HDR_OK n) then (if r.laneState n = 2 ∧ r.on (LNK_ALIGN_COMMA_EN n) = false then r.lockDeclared n else r) else r.ignored

/-- A write of 1 to ACCEPT (R84). -/
def execAccept (n : Fin 48) (s : State) : Host.Outcome State Fault Refusal := done s fun r => r.writeAccept n

/-- A write of 1 to RETRAIN (R96). DESIGN CHOICE (assumption 43): RETRAIN of a locked lane is a loss of comma lock. -/
def Run.writeRetrain (r : Run s₀) (n : Nat) : Run s₀ :=
  let st := r.laneState n
  let held := r.recording && (r.ringLane n || (r.bundleOf n).any fun b => (r.bndVs b).any fun v => r.recCtx (r.vsN v 9 1))
  if st = 0 ∨ 6 ≤ st ∨ held = true then r.ignored
  else
    let lost := r.on (LNK_STATUS_RX_LOCK n)
    let r := (r.wr (LNK_STATUS_TRAINED n) 0).laneAcquire n lost
    r.when lost fun r => r.laneChanged n true

/-- A write of 1 to RETRAIN (R96). -/
def execRetrain (n : Fin 48) (s : State) : Host.Outcome State Fault Refusal := done s fun r => r.writeRetrain n

/-- A write of LNK_LANE_n_LOOP (R95). -/
def execLoop (n : Fin 48) (v : Nat) (s : State) : Host.Outcome State Fault Refusal := done s fun r => r.writeLoop n v

/-- A write of LNK_LANE_n_PRBS_CTL (R95). -/
def execPrbsCtl (n : Fin 48) (v : Nat) (s : State) : Host.Outcome State Fault Refusal := done s fun r => r.writePrbs n v

/-- A write of 1 to START of LNK_LANE_n_EYE_CTL (R97). -/
def execStart (n : Fin 48) (s : State) : Host.Outcome State Fault Refusal := done s fun r => r.eyeStart n

/-- An eye-scan point ends (R97). -/
def Run.eyeEnd (r : Run s₀) (n errors : Nat) : Run s₀ :=
  ((r.wr (LNK_EYE_RESULT_DONE n) 1).wr (LNK_EYE_RESULT_ERRORS n) (min errors 0x7FFFFFFF)).laneMod n fun l => { l with eye := false }

/-- A lane in TEST runs in PAM4: under a near-end serial loop intake and feed lanes run in NRZ 7 (Table 03-9). -/
def Run.testPam (r : Run s₀) (n : Nat) : Bool := (r.laneU n).mode == 1 && !(r.rd (LNK_LOOP_LOOP n) == 1 && (n < 24 || 40 ≤ n))

/-- Bits reach the receive half of a lane in TEST: from the pins, or in a near-end loop from the own transmit half, whose
generator drives it; there `line` says which of the bits the loop's path turns over (R73, R95, Table 03-9, assumption 48).
LOOP 1 drives the pins with the same signal and LOOP 3 with the received one. -/
def Run.testBits (r : Run s₀) (n : Nat) (line : List Bool) (f : List Bool → Run s₀ → Run s₀) : Run s₀ :=
  let loop := r.rd (LNK_LOOP_LOOP n)
  let pam := r.testPam n
  let tx := r.on (LNK_CTL_TX_INV n)
  let rx := r.on (LNK_CTL_RX_INV n)
  if (loop = 1 ∨ loop = 2) ∧ r.on (LNK_PRBS_CTL_GEN_SEL n) = true then
    r.prbsTake n line.length fun g r =>
      let got := (g.zip line).map fun p => p.1 != p.2
      if loop = 1 then f (invertBits pam (tx != rx) got) (r.emit (.reach n (invert pam tx (bitSymbols pam g)))) else f got r
  else
    let got := invertBits (if loop = 0 then r.rxPam n else pam) rx line
    f got (r.when (loop == 3) fun r => r.emit (.reach n (invert pam tx (bitSymbols pam got))))

/-- Bits of a lane in TEST reach the PRBS checker (R95). -/
def execPrbsCheck (n : Fin 48) (received : List Bool) (s : State) : Host.Outcome State Fault Refusal :=
  done s fun r =>
    let sel := r.rd (LNK_PRBS_CTL_CHK_SEL n)
    if r.laneState n = 6 ∧ sel ≠ 0 then
      r.testBits n received fun got r => r.each got fun b r => r.prbsBit n sel (b != r.on (LNK_PRBS_CTL_CHK_INV n))
    else r

/-- A self-check ends: the lane is retired when its checker never locked or counted an error, else it is FAILED again (R396). -/
def Run.checkEnd (r : Run s₀) (n : Nat) : Run s₀ :=
  if (r.laneU n).checking = false then r
  else
    let ok := r.on (LNK_PRBS_CTL_CHK_LOCK n) && !r.on (LNK_PRBS_ERR_ERRORS n)
    let r := (r.laneMod n fun l => { l with checking := false, back := 5 }).wr (LNK_LOOP_LOOP n) 0
    let r := ((r.wr (LNK_PRBS_CTL_GEN_SEL n) 0).wr (LNK_PRBS_CTL_CHK_SEL n) 0).laneTest n
    if ok then r
    else
      let r := r.laneRetire n 4 4
      match r.groupOf n with
      | none => r
      | some g => ((r.wr (FED_STATUS_RETIRED g) 1).fedSync g).ev (281 + 2 * g)

/-- A self-check's 1 ms ends (R396). -/
def execLaneSelfCheckEnd (n : Fin 48) (s : State) : Host.Outcome State Fault Refusal := done s fun r => r.checkEnd n

/-- Every 100 ms FED returns a FAILED feed lane to ACQUIRE (R396). -/
def execFeedLaneRetry (j : Fin 8) (s : State) : Host.Outcome State Fault Refusal :=
  done s fun r =>
    let n := 40 + j.val
    if r.laneState n = 5 ∧ (r.groupOf n).isSome then (r.wr (LNK_STATUS_TRAINED n) 0).laneAcquire n false else r

/-! ## Weave (Table 03-8) -/

/-- The lanes take the records of a bit-stream just woven, and their positions: 0 on a magazine lane, the place in its group on
a feed lane (R106, R181, R242). -/
def Run.lanesWeave (r : Run s₀) : Run s₀ :=
  r.each (List.range 48) fun n r =>
    let r := r.laneWeave r.records n
    if 40 ≤ n then
      match r.groupOf n with
      | some g => r.laneMod n fun l => { l with pos := ((groupLanes (r.cfg 0x0703 g)).findIdx? (· == n)).getD 15 }
      | none => r.laneMod n fun l => { l with pos := 15 }
    else if 24 ≤ n then r.laneMod n fun l => { l with pos := if r.laneFree n then 15 else 0 }
    else r

/-- Lanes that the bit-stream uses leave OFF (Table 03-8). -/
def Run.lanesStart (r : Run s₀) : Run s₀ :=
  r.each (List.range 48) fun n r => r.when (r.laneState n == 0 && (r.laneU n).mode != 0) fun r => r.laneAcquire n false

end Sys2Proof.Machine
end

