-- ==== Sys2Proof/Machine/MonBase.lean ====
section
/-!
DEFINITION. The monitor's text, its lock and the end of a sweep (R412 to R416, Table 16-1).
-/
namespace Sys2Proof.Machine
variable {s₀ : State}

/-- The hex digit of a number below 16. -/
def hexDigit (n : Nat) : Char := if n < 10 then Char.ofNat (48 + n) else Char.ofNat (55 + n)

/-- `n` hex digits of a number, most significant first. -/
def hexDigits : Nat → Nat → List Char
  | 0, _ => []
  | n + 1, v => hexDigits n (v / 16) ++ [hexDigit (v % 16)]

/-- A number as `n` hex digits. -/
def hex (n v : Nat) : String := String.ofList (hexDigits n v)

/-- A line of the monitor's output. -/
def Run.monText (r : Run s₀) (t : String) : Run s₀ := r.emit (.text t)

/-- The name of a monitor error (Table 16-1). -/
def monErrName (n : Nat) : String :=
  match n with
  | 1 => "UNKNOWN" | 2 => "LINE_TOO_LONG" | 3 => "SYNTAX" | 4 => "LOCKED" | 5 => "RANGE" | 6 => "FEATURE" | 7 => "RECORDING"
  | 8 => "STATE" | 9 => "DENIED" | 10 => "BUSY" | _ => "ABORTED"

/-- The final line of an answer, OK for 0, and the prompt (R413). -/
def Run.monEnd (r : Run s₀) (err : Nat) : Run s₀ :=
  (r.monText (if err = 0 then "OK" else "ERR " ++ toString err ++ " " ++ monErrName err)).monText "K> "

/-- The monitor locks; event 511 when it was unlocked (R414, R419). -/
def Run.monLock (r : Run s₀) : Run s₀ :=
  let was := r.on MON_STATUS_UNLOCKED
  let r := (r.wr MON_STATUS_UNLOCKED 0).wr MON_STATUS_KEY_SLOT 0
  r.when was fun r => r.ev 511

/-- A sweep that runs is aborted: EYE_CTL is left at 0 and the answer ends with ERR 11 (R413, R416). -/
def Run.sweepAbort (r : Run s₀) : Run s₀ :=
  match r.u.mon.sweep with
  | none => r
  | some w =>
    let n := w.lane
    let r := ((r.wr (LNK_EYE_CTL_DWELL n) 0).wr (LNK_EYE_CTL_EYE_SEL n) 0).wr (LNK_EYE_CTL_VOFF n) 0
    let r := (r.wr (LNK_EYE_CTL_PHASE n) 0).laneMod n fun l => { l with eye := false }
    (r.mon fun m => { m with sweep := none }).monEnd 11

end Sys2Proof.Machine
end

