-- ==== Sys2Proof/Machine/HostCmds.lean ====
section
/-!
DEFINITION. Host commands outside recording: IDENTIFY, features, logs, event routes, VISION-FETCH and PROXY-FETCH (R59, R306,
R307, R309, R310, R317, R318).
-/
namespace Sys2Proof.Machine
variable {s₀ : State}

/-- A 32-bit register at an offset of BAR0, as a read without effects shows it. -/
def Run.reg32 (r : Run s₀) (off : Nat) : Nat :=
  match locate regTable off with
  | some h => h.read r.rd (h.r * 8) 32
  | none => 0

/-! ## IDENTIFY (R306) -/

/-- The KEY_ID of a public key: the first 8 bytes of its SHA-512 hash (R52). -/
def keyId (key : List Byte) : List Byte := padTo 8 (sha512 key)

/-- The features offered (R59). -/
def Run.offered (r : Run s₀) : Nat :=
  ((List.range 4).map fun n => r.rd (GLB_FEAT_DEV_FEAT n) * 2 ^ (32 * n)).foldl (· + ·) 0

/-- The device data of Table 12-6. -/
def Run.deviceData (r : Run s₀) : List Byte :=
  padTo 4096 (le 4 0x4E444945 ++ le 4 0x9618 ++ le 4 0xB1 ++ le 4 r.u.glb.fw.version ++ le 1 r.u.glb.fw.secVer ++ le 1 r.u.glb.secVerMin
    ++ le 2 0 ++ le 2 64 ++ le 2 4096 ++ le 4 67108864 ++ le 4 0 ++ le 16 r.offered ++ le 16 r.features ++ le 4 (r.reg32 0x100) ++ le 4 0
    ++ le 8 (r.rd GLB_NARRIC_ID_STREAM_ID) ++ keyId identityKey ++ le 8 Config.dramBytes ++ padTo 16 Config.serial)

/-- The message that the challenge signs: "ECHL", the nonce, the KEY_ID of SUBJECT_PUB (R306). -/
def challenge (nonce : List Byte) : List Byte := le 4 0x4C484345 ++ padTo 32 nonce ++ keyId identityKey

/-- The structure that CNS selects (R306). -/
def Run.identity (r : Run s₀) (c : Cmd) : List Byte :=
  if c.f 0x18 1 = 0 then r.deviceData
  else if c.f 0x18 1 = 1 then padTo 192 Config.certificate
  else padTo 64 (identitySign (challenge ((c.entry.drop 0x20).take 32)))

/-- IDENTIFY (R306). -/
def execIdentify (h : HostData) (s : State) : Host.Outcome State Fault Refusal :=
  done s fun r => r.onCmd 1 fun c r => r.answerCmd c h (r.identity c) 0

/-! ## Features (R59, R307) -/

/-- The lowest 1 bit of a 128-bit set. -/
def lowBit (m : Nat) : Option Nat := lowest (bit m) 128

/-- The lowest offending bit of a set and its REASON; none when the set can be locked (R59). `req` is the woven bit-stream's
REQ_FEAT. -/
def featRefusal (offered req feat : Nat) : Option (Nat × Nat) :=
  let c1 := (lowBit (feat &&& (offered ^^^ (2 ^ 128 - 1)))).map fun b => (b, 1)
  let c2 := if bit feat 0 then none else some (0, 2)
  let c3 := (lowBit (req &&& (feat ^^^ (2 ^ 128 - 1)))).map fun b => (b, 3)
  ([c1, c2, c3].filterMap id).foldl (fun a x => match a with
    | none => some x
    | some y => if x.1 < y.1 then some x else some y) none

/-- REQ_FEAT of the woven bit-stream; 0 when none is woven (R59). -/
def Run.wovenReq (r : Run s₀) : Nat := if r.on GLB_MODE_VALID then field r.u.glb.woven 0x10 16 else 0

/-- The evaluation of R59: the set is locked, or refused with event 6. -/
def Run.negotiate (r : Run s₀) (feat : Nat) : Run s₀ :=
  match featRefusal r.offered r.wovenReq feat with
  | none =>
    let r := (((r.wr GLB_FEAT_CTL_FIRST_BAD 0).wr GLB_FEAT_CTL_REASON 0).wr GLB_FEAT_CTL_REFUSED 0).wr GLB_FEAT_CTL_LOCKED 1
    (r.wr GLB_FEAT_CTL_OK 1).glb fun g => { g with feat := feat }
  | some (b, why) =>
    ((((r.wr GLB_FEAT_CTL_FIRST_BAD b).wr GLB_FEAT_CTL_REASON why).wr GLB_FEAT_CTL_REFUSED 1).wr GLB_FEAT_CTL_OK 0).ev 6

/-- The set in GLB_FEAT_DRV_0 to GLB_FEAT_DRV_3. -/
def Run.drvFeat (r : Run s₀) : Nat :=
  ((List.range 4).map fun n => r.rd (GLB_FEAT_DRV_FEAT n) * 2 ^ (32 * n)).foldl (· + ·) 0

/-- A write of 1 to GLB_FEAT_CTL.OK; ignored while OK is 1 (R59). -/
def Run.writeOk (r : Run s₀) : Run s₀ := if r.on GLB_FEAT_CTL_OK then r.ignored else r.negotiate r.drvFeat

/-- A write of 1 to GLB_FEAT_CTL.OK (R59). -/
def execOk (s : State) : Host.Outcome State Fault Refusal := done s Run.writeOk

/-- NEGOTIATE-FEATURES (R307). -/
def execNegotiateFeatures (s : State) : Host.Outcome State Fault Refusal :=
  done s fun r => r.onCmd 2 fun c r =>
    if r.on GLB_FEAT_CTL_LOCKED then r.complete c.no 36 0
    else
      let r := r.negotiate (c.f 0x18 16)
      r.complete c.no (if r.on GLB_FEAT_CTL_LOCKED then 0 else 35) (r.rd GLB_FEAT_CTL_REASON * 16 + r.rd GLB_FEAT_CTL_FIRST_BAD * 256)

/-! ## Logs and routes (R309, R310) -/

/-- An entry of the error log (R303). -/
def ErrEntry.bytes (e : ErrEntry) : List Byte :=
  le 4 e.seq ++ le 2 e.q ++ le 2 e.cid ++ le 1 e.opc ++ le 1 e.status ++ le 6 0 ++ le 6 (timeSec e.time) ++ le 2 0 ++ le 4 (timeNs e.time)
    ++ le 4 e.detail

/-- The newest valid label copy of a drive; zeros when none is valid (Table 12-8). -/
def DrvU.label (v : DrvU) : List Byte :=
  match labelAt v.copy0, labelAt v.copy1 with
  | some a, some b => if b.gen < a.gen then v.copy0 else v.copy1
  | some _, none => v.copy0
  | none, some _ => v.copy1
  | none, none => List.replicate labelLen 0#8

/-- A log page (Table 12-8); the fields' check has bounded LOG and PARAM. -/
def Run.logPage (r : Run s₀) (page param : Nat) : List Byte :=
  if page = 1 then padTo 65536 (r.u.evt.log.reverse.flatMap Breach.bytes)
  else if page = 2 then padTo 2048 (r.u.qif.log.reverse.flatMap ErrEntry.bytes)
  else if page = 3 then (r.u.magu.drv.look param {}).label
  else (List.range 64).flatMap fun d => le 8 (r.u.magu.drv.look d {}).word1 ++ le 4 (r.reg32 (0x1301000 + 16 * d)) ++ le 4 0

/-- GET-LOG (R309). -/
def execGetLog (h : HostData) (s : State) : Host.Outcome State Fault Refusal :=
  done s fun r => r.onCmd 6 fun c r =>
    let page := r.logPage (c.f 0x18 1) (c.f 0x19 1)
    let off := c.f 0x1C 4
    let bs := (page.drop off).take (c.f 0x20 4)
    if page.length ≤ off then r.complete c.no 42 0
    else if (c.buffer h (c.f 0x20 4)).isNone then r.invalidField c.no 8
    else r.answerCmd c h bs bs.length

/-- EVT_ROUTE_e takes a route; FW_REQ does not change (R310, Table 15-13). -/
def Run.setRoute (r : Run s₀) (e v : Nat) : Run s₀ :=
  let pins := r.rd (EVT_ROUTE_PIN e) ||| bits v 12 4
  let r := ((r.wr (EVT_ROUTE_VECTOR e) (bits v 0 6)).wr (EVT_ROUTE_MSIX e) (bits v 6 1)).wr (EVT_ROUTE_WARDEN e) (bits v 8 4)
  (r.wr (EVT_ROUTE_PIN e) (bits v 12 4)).eventPins pins

/-- SET-EVENT-ROUTE (R310, R410). -/
def execSetEventRoute (s : State) : Host.Outcome State Fault Refusal :=
  done s fun r => r.onCmd 7 fun c r =>
    let e := c.f 0x18 4
    let v := c.f 0x1C 4
    if bits v 20 12 ≠ 0 ∨ bit v 7 = true then r.invalidField c.no 0x1C
    else
      let old := r.reg32 (0x101000 + 4 * e)
      (r.setRoute e v).complete c.no 0 old

/-! ## Fetches (R317, R318) -/

/-- VISION-FETCH: `changed` tells that the outlet rewrote the slot during the copy (R317). -/
def execVisionFetch (h : HostData) (changed : Bool) (s : State) : Host.Outcome State Fault Refusal :=
  done s fun r => r.onCmd 0x18 fun c r =>
    let o := c.f 0x18 1
    let nbuf := r.olN o 0x11 1
    let stride := visionStride (bit (r.olN o 0x10 1) 4) (r.olN o 0xC 2) (r.olN o 0xE 2)
    let slot := if c.f 0x19 1 = 0xFF then ((r.outU o).count + nbuf - 1) % nbuf else c.f 0x19 1
    if r.hasCfg 0x0701 o = false ∨ r.olKind o ≠ 3 then r.invalidField c.no 0x18
    else if nbuf ≤ slot then r.invalidField c.no 0x19
    else if c.f 0x1C 4 < stride then r.invalidField c.no 0x1C
    else if (c.buffer h (c.f 0x1C 4)).isNone then r.invalidField c.no 8
    else r.load? 12 (r.olSlot o slot) stride fun g r =>
      let seq := field g.bytes 0x3C 4
      if g.poison then r.complete c.no 39 0
      else if seq = 0 ∨ changed = true then r.complete c.no 44 0
      else r.answerCmd c h g.bytes (seq + field g.bytes 8 4 * 2 ^ 32)

/-- The whole records that fit in `left` bytes from OUT_RD on, as offset and length, with the OUT_RD after them; a WRAP header is
skipped (R318). -/
def auWalk (head : Nat → List Byte) (size wr : Nat) : Nat → Nat → Nat → List (Nat × Nat) × Nat
  | 0, rd, _ => ([], rd)
  | fuel + 1, rd, left =>
    if rd = wr then ([], rd)
    else
      let h := head rd
      if bit (field h 6 2) 7 then auWalk head size wr fuel 0 left
      else
        let len := 64 + ceilDiv (field h 0x24 4) 64 * 64
        if left < len then ([], rd)
        else
          let x := auWalk head size wr fuel (if size ≤ rd + len then 0 else rd + len) (left - len)
          ((rd, len) :: x.1, x.2)

/-- PROXY-FETCH (R318). -/
def execProxyFetch (h : HostData) (s : State) : Host.Outcome State Fault Refusal :=
  done s fun r => r.onCmd 0x19 fun c r =>
    let n := c.f 0x18 1
    let size := r.ringSize n
    let base := r.polder (r.encN n 8 1) + r.encN n 0x10 4 * 4096
    let head := fun rd => (r.peekMem 12 (base + rd) 64).bytes
    let wr := r.rd (ENC_OUT_WR_WR n)
    let w := auWalk head size wr (size / 64 + 2) (r.rd (ENC_OUT_RD_RD n)) (c.f 0x1C 4)
    if (c.buffer h (c.f 0x1C 4)).isNone then r.invalidField c.no 8
    else if w.1.isEmpty then
      r.complete c.no 0 (if w.2 = wr then 0 else (64 + ceilDiv (field (head w.2) 0x24 4) 64 * 64) * 2 ^ 32)
    else
      let bad := w.1.any fun x => (r.peekMem 12 (base + x.1) x.2).poison
      let bs := w.1.flatMap fun x => (r.peekMem 12 (base + x.1) x.2).bytes
      let r := r.each w.1 fun x r => r.load? 12 (base + x.1) x.2 fun _ r => r
      if bad then r.complete c.no 39 0
      else
        let r := r.when h.ok fun r => r.wr (ENC_OUT_RD_RD n) w.2
        r.answerCmd c h bs (w.1.length + bs.length * 2 ^ 32)

end Sys2Proof.Machine
end

