-- ==== Sys2Proof/Machine/Dma.lean ====
section
/-!
DEFINITION. DMA programs: instructions, semaphores, MOVEs in flight, channel control and faults (R351 to R361).
-/
namespace Sys2Proof.Machine
variable {s₀ : State}

/-! ## Instructions (Table 13-7) -/

/-- A DMA instruction. -/
inductive DmaOp where
  | move (sspace dspace len src dst pattern : Nat)
  | loop (level count sstep dstep back : Nat)
  | wait (sem timeout : Nat)
  | signal (sem : Nat) (irq : Bool)
  | fin (irq : Bool)
  deriving DecidableEq, Repr

/-- The instruction that 32 bytes encode; none for an unknown OPC, a reserved field that is not 0, a LEN outside 1 to
16,777,216, or COUNT or BACK 0 (Table 13-7, Table 13-9 cause 1). -/
def dmaDecode (l : List Byte) : Option DmaOp :=
  let opc := field l 0 1
  let arg := field l 1 1
  let flags := field l 2 1
  let a := field l 4 4
  let b := field l 8 8
  let c := field l 16 8
  let d := field l 24 8
  if field l 3 1 ≠ 0 then none
  else if opc = 1 then
    if flags = 0 ∧ bits arg 2 2 = 0 ∧ bits arg 6 2 = 0 ∧ bits arg 4 2 ≠ 3 ∧ 0 < a ∧ a ≤ 16777216 ∧ (bits arg 0 2 = 3 ∨ d = 0) then
      some (.move (bits arg 0 2) (bits arg 4 2) a b c d)
    else none
  else if opc = 2 then
    if flags = 0 ∧ arg ≤ 2 ∧ 0 < a ∧ 0 < d ∧ d < 65536 then some (.loop arg a b c d) else none
  else if opc = 3 then
    if flags = 0 ∧ arg < 64 ∧ b = 0 ∧ c = 0 ∧ d = 0 then some (.wait arg a) else none
  else if opc = 4 then
    if flags ≤ 1 ∧ arg < 64 ∧ a = 0 ∧ b = 0 ∧ c = 0 ∧ d = 0 then some (.signal arg (flags == 1)) else none
  else if opc = 5 then
    if flags ≤ 1 ∧ arg = 0 ∧ a = 0 ∧ b = 0 ∧ c = 0 ∧ d = 0 then some (.fin (flags == 1)) else none
  else none

/-! ## Channels -/

/-- The size of the DMA region of SRAM (R351). -/
def sramSize : Nat := 0x200000

/-- What channel n holds beside its registers. -/
def Run.dmaCh (r : Run s₀) (n : Nat) : DmaCh := r.u.dma.ch.look n {}

/-- Change what channel n holds; INFLIGHT follows its MOVEs in flight. -/
def Run.dmaMod (r : Run s₀) (n : Nat) (f : DmaCh → DmaCh) : Run s₀ :=
  let c := f (r.dmaCh n)
  (r.dma fun d => { d with ch := d.ch.put n c }).wr (DMA_STATUS_INFLIGHT n) c.flight.length

/-- The channel is in FAULT: CAUSE and FAULT_PC are set, its event is raised, and no further instruction completes
(R359). -/
def Run.dmaFault (r : Run s₀) (n cause pc : Nat) : Run s₀ :=
  let r := r.dmaMod n fun c => { c with flight := [] }
  let r := r.dma fun d => { d with waiting := d.waiting.filter (· != n) }
  (((r.wr (DMA_STATUS_STATE n) 4).wr (DMA_STATUS_CAUSE n) cause).wr (DMA_FAULT_PC_ADDR n) pc).ev (416 + n)

/-- Bytes of the DMA region of SRAM. -/
def Run.sram (r : Run s₀) (a n : Nat) : List Byte := (List.range n).map fun k => r.u.dma.sram.look (a + k) 0#8

/-- Write bytes of the DMA region of SRAM. -/
def Run.sramStore (r : Run s₀) (a : Nat) (bs : List Byte) : Run s₀ :=
  let rec go : Nat → List Byte → Tab Byte → Tab Byte
    | _, [], t => t
    | a, b :: bs, t => go (a + 1) bs (t.put a b)
  r.dma fun d => { d with sram := go a bs d.sram }

/-- Two ranges share a 64-byte block (R356). -/
def blocksMeet (a n b m : Nat) : Bool := 0 < n && 0 < m && a / 64 ≤ (b + m - 1) / 64 && b / 64 ≤ (a + n - 1) / 64

/-- A range in a space is held back by an earlier MOVE in flight that writes there (R356). -/
def DmaCh.heldBack (c : DmaCh) (space a n : Nat) : Bool := c.flight.any fun m => m.dspace == space && blocksMeet a n m.dst m.len

/-- A range in a space is read by an earlier MOVE in flight; a later write lands after that read (R356). -/
def DmaCh.readPending (c : DmaCh) (space a n : Nat) : Bool := c.flight.any fun m => m.sspace == space && blocksMeet a n m.src m.len

/-- The instruction at the channel's PC is fetched and given to `f`; a fetch outside its space, a refused or poisoned
fetch and an illegal instruction fault the channel, and an earlier MOVE that writes there holds the fetch back (R356,
R359). -/
def Run.dmaFetch (r : Run s₀) (n : Nat) (f : DmaOp → Nat → Run s₀ → Run s₀) : Run s₀ :=
  if r.rd (DMA_STATUS_STATE n) ≠ 1 then r
  else
    let pc := r.rd (DMA_PC_ADDR n)
    let space := if r.on (DMA_CTL_PSPACE n) then 0 else 1
    let go (bs : List Byte) (r : Run s₀) : Run s₀ :=
      match dmaDecode bs with
      | some op => f op pc r
      | none => r.dmaFault n 1 pc
    if (r.dmaCh n).heldBack space pc 32 then r
    else if space = 1 then (if pc + 32 ≤ sramSize then go (r.sram pc 32) r else r.dmaFault n 3 pc)
    else
      let g := r.peekMem 10 pc 32
      if !g.ok then (r.refused 10 pc (416 + n) 3).dmaFault n 3 pc
      else if g.poison then (r.poisonRead pc 32).dmaFault n 4 pc
      else go g.bytes r

/-- The instruction after the one at `pc`. -/
def Run.dmaNext (r : Run s₀) (n pc : Nat) : Run s₀ := r.wr (DMA_PC_ADDR n) (pc + 32)

/-! ## Semaphores (R357) -/

/-- Channels that wait for semaphore s are served in the order in which they began to wait. -/
def Run.semServe (r : Run s₀) (s : Nat) : List Nat → Run s₀
  | [] => r
  | n :: l =>
    if r.rd (DMA_STATUS_SEM_WAIT n) = s ∧ 0 < r.rd (DMA_SEM_COUNT s) then
      let r := r.wr (DMA_SEM_COUNT s) (r.rd (DMA_SEM_COUNT s) - 1)
      let r := r.dma fun d => { d with waiting := d.waiting.filter (· != n) }
      Run.semServe ((r.wr (DMA_STATUS_STATE n) 1).dmaNext n (r.rd (DMA_PC_ADDR n))) s l
    else Run.semServe r s l

/-- Semaphore s gains v; beyond 65,535 it stays there with GLB event 9 (R357). -/
def Run.semAdd (r : Run s₀) (s v : Nat) : Run s₀ :=
  let t := r.rd (DMA_SEM_COUNT s) + v
  let r := if 65535 < t then (r.wr (DMA_SEM_COUNT s) 65535).ignored else r.wr (DMA_SEM_COUNT s) t
  r.semServe s r.u.dma.waiting

/-- DMA_SEM: a host write adds bits [15:0] to the semaphore (R357). -/
def execDmaSem (k : Fin 64) (v : Nat) (s : State) : Host.Outcome State Fault Refusal := done s fun r => r.semAdd k (v % 65536)

/-! ## Control (R360) -/

/-- A channel starts at `pc` (R352, R359). -/
def Run.dmaStart (r : Run s₀) (n pc : Nat) : Run s₀ :=
  let r := r.dmaMod n fun c => { flight := c.flight }
  let r := ((r.wr (DMA_PC_ADDR n) pc).wr (DMA_BYTES_BYTES n) 0).wr (DMA_STATUS_CAUSE n) 0
  r.wr (DMA_STATUS_STATE n) 1

/-- The channel is RUNNING or WAITING. -/
def Run.dmaBusy (r : Run s₀) (n : Nat) : Bool := r.rd (DMA_STATUS_STATE n) == 1 || r.rd (DMA_STATUS_STATE n) == 2

/-- A host GO (R360). -/
def Run.dmaGo (r : Run s₀) (n : Nat) : Run s₀ :=
  let pc := r.rd (DMA_PC_ADDR n)
  let size := if r.on (DMA_CTL_PSPACE n) then Config.dramBytes else sramSize
  if r.dmaBusy n || pc % 32 != 0 || size ≤ pc then r.ignored else r.dmaStart n pc

/-- DMA_GO: a write of DMA_CH_n_CTL.GO (R360). -/
def execDmaGo (n : Fin 32) (s : State) : Host.Outcome State Fault Refusal := done s fun r => r.dmaGo n

/-! ## MOVE (R352, R355, R356) -/

/-- Byte k of a fill at effective destination d: PATTERN byte (d + k) mod 8 (R352). -/
def fillByte (pattern d k : Nat) : Byte := BitVec.ofNat 8 (pattern / 2 ^ (8 * ((d + k) % 8)))

/-- A range lies in its space and does not wrap: DRAM within a polder that grants requester 10 the access, SRAM within the
DMA region, HOST while the device may issue requests (R351, R352). -/
def Run.dmaInSpace (r : Run s₀) (space : Nat) (write : Bool) (a n : Nat) : Bool :=
  if 2 ^ 64 < a + n then false
  else if space = 0 then r.allowed 10 write a n
  else if space = 1 then a + n ≤ sramSize
  else true

/-- The bytes a MOVE has read reach its destination; they count in BYTES (R355). -/
def Run.dmaLand (r : Run s₀) (n : Nat) (m : DmaMove) (bs : List Byte) : Run s₀ :=
  let r := r.inc (DMA_BYTES_BYTES n) bs.length
  if m.dspace = 0 then r.rawStore m.dst bs
  else if m.dspace = 1 then r.sramStore m.dst bs
  else r.toHost (.hostWrite m.dst bs)

/-- The sum of a channel's three offsets. -/
def offsetSum (t : Tab Nat) : Nat := t.look 0 0 + t.look 1 0 + t.look 2 0

/-- A MOVE's checks, and its start. DRAM and SRAM sources are read now, HOST sources are requested, and the bytes land when
the MOVE completes. It is held back while four MOVEs are in flight or an earlier one meets its ranges (R352, R356). -/
def Run.dmaMove (r : Run s₀) (n pc sspace dspace len src dst pattern : Nat) : Run s₀ :=
  let c := r.dmaCh n
  let sa := (src + offsetSum c.os) % 2 ^ 64
  let da := (dst + offsetSum c.od) % 2 ^ 64
  if 4 ≤ c.flight.length || (sspace != 3 && c.heldBack sspace sa len) || c.heldBack dspace da len || c.readPending dspace da len then r
  else if (sspace != 3 && !r.dmaInSpace sspace false sa len) then
    (r.when (sspace == 0) fun r => r.refused 10 sa (416 + n) 3).dmaFault n 3 pc
  else if !r.dmaInSpace dspace true da len then
    (r.when (dspace == 0) fun r => r.refused 10 da (416 + n) 3).dmaFault n 3 pc
  else if (sspace = 2 ∨ dspace = 2) ∧ r.mayRequest = false then r.dmaFault n 5 pc
  else if sspace = 0 ∧ (r.poisonedBlock sa len).isSome = true then (r.poisonRead sa len).dmaFault n 4 pc
  else
    let data := if sspace = 0 then r.rawBytes sa len
      else if sspace = 1 then r.sram sa len
      else if sspace = 3 then (List.range len).map (fillByte pattern da)
      else []
    let r := r.when (sspace == 2) fun r => r.emit (.hostRead sa len)
    (r.dmaMod n fun c => { c with flight := c.flight ++ [⟨pc, sspace, dspace, sa, da, len, data⟩] }).dmaNext n pc

/-- MOVE: the instruction at the channel's PC is a MOVE (R352). -/
def execMove (n : Fin 32) (s : State) : Host.Outcome State Fault Refusal :=
  done s fun r => r.dmaFetch n fun op pc r =>
    match op with
    | .move ss ds len src dst pat => r.dmaMove n pc ss ds len src dst pat
    | _ => r

/-- MOVE_DONE: the k-th MOVE in flight completes; for a HOST source `data` is what the host returned, none for an access
that failed (R356, R358). -/
def execMoveDone (n : Fin 32) (k : Fin 4) (data : Option (List Byte)) (s : State) : Host.Outcome State Fault Refusal :=
  done s fun r =>
    match (r.dmaCh n).flight[k.val]? with
    | none => r
    | some m =>
      let bs := if m.sspace = 2 then data.map (padTo m.len) else some m.data
      match bs with
      | none => r.dmaFault n 5 m.pc
      | some bs => (r.dmaLand n m bs).dmaMod n fun c => { c with flight := c.flight.eraseIdx k.val }

/-! ## The other instructions -/

/-- A LOOP at `pc` (R353). -/
def Run.dmaLoop (r : Run s₀) (n pc l count sstep dstep back : Nat) : Run s₀ :=
  let c := r.dmaCh n
  if c.cnt.look l 0 ≠ 0 ∧ c.loopPc.look l 0 ≠ pc then r.dmaFault n 2 pc
  else if (List.range l).any fun j => c.cnt.look j 0 != 0 then r.dmaFault n 2 pc
  else
    let left := (if c.cnt.look l 0 = 0 then count else c.cnt.look l 0) - 1
    if 0 < left then
      if pc < 32 * back then r.dmaFault n 3 pc
      else
        let r := r.dmaMod n fun c => { c with
          cnt := c.cnt.put l left, loopPc := c.loopPc.put l pc,
          os := c.os.put l ((c.os.look l 0 + sstep) % 2 ^ 64), od := c.od.put l ((c.od.look l 0 + dstep) % 2 ^ 64) }
        r.wr (DMA_PC_ADDR n) (pc - 32 * back)
    else
      let r := r.dmaMod n fun c => { c with cnt := c.cnt.put l 0, loopPc := c.loopPc.put l pc, os := c.os.put l 0, od := c.od.put l 0 }
      r.dmaNext n pc

/-- LOOP_INSTR: the instruction at the channel's PC is a LOOP (R353). -/
def execLoopInstr (n : Fin 32) (s : State) : Host.Outcome State Fault Refusal :=
  done s fun r => r.dmaFetch n fun op pc r =>
    match op with
    | .loop l count ss ds back => r.dmaLoop n pc l count ss ds back
    | _ => r

/-- A WAIT at `pc` (R357). -/
def Run.dmaWait (r : Run s₀) (n pc sem : Nat) : Run s₀ :=
  if 0 < r.rd (DMA_SEM_COUNT sem) then (r.wr (DMA_SEM_COUNT sem) (r.rd (DMA_SEM_COUNT sem) - 1)).dmaNext n pc
  else
    ((r.wr (DMA_STATUS_STATE n) 2).wr (DMA_STATUS_SEM_WAIT n) sem).dma fun d => { d with waiting := d.waiting ++ [n] }

/-- WAIT: the instruction at the channel's PC is a WAIT (R357). -/
def execWait (n : Fin 32) (s : State) : Host.Outcome State Fault Refusal :=
  done s fun r => r.dmaFetch n fun op pc r =>
    match op with
    | .wait sem _ => r.dmaWait n pc sem
    | _ => r

/-- SIGNAL: the instruction at the channel's PC is a SIGNAL; it waits for the channel's earlier MOVEs (R357). -/
def execSignal (n : Fin 32) (s : State) : Host.Outcome State Fault Refusal :=
  done s fun r => r.dmaFetch n fun op pc r =>
    match op with
    | .signal sem irq =>
      if (r.dmaCh n).flight.isEmpty then (((r.semAdd sem 1).dmaNext n pc).when irq fun r => r.ev (416 + n.val)) else r
    | _ => r

/-- END: the instruction at the channel's PC is an END (R359). -/
def execEndInstr (n : Fin 32) (s : State) : Host.Outcome State Fault Refusal :=
  done s fun r => r.dmaFetch n fun op _ r =>
    match op with
    | .fin irq => (r.wr (DMA_STATUS_STATE n) 3).when irq fun r => r.ev (416 + n.val)
    | _ => r

/-- The TIMEOUT of the WAIT at the channel's PC; 0 when there is none. -/
def Run.waitLimit (r : Run s₀) (n : Nat) : Nat :=
  let pc := r.rd (DMA_PC_ADDR n)
  match dmaDecode (if r.on (DMA_CTL_PSPACE n) then r.rawBytes pc 32 else r.sram pc 32) with
  | some (.wait _ t) => t
  | _ => 0

/-- WAIT_TIMEOUT: a WAIT with a TIMEOUT has not been satisfied within it (R358). -/
def execWaitTimeout (n : Fin 32) (s : State) : Host.Outcome State Fault Refusal :=
  done s fun r =>
    if r.rd (DMA_STATUS_STATE n) = 2 ∧ r.waitLimit n ≠ 0 then r.dmaFault n 6 (r.rd (DMA_PC_ADDR n)) else r

/-- A RUNNING or WAITING channel is stopped with a cause: each MOVE in flight has moved the given number of units of 4 KiB
(R360). -/
def Run.dmaHalt (r : Run s₀) (n cause : Nat) (moved : List Nat) : Run s₀ :=
  if !r.dmaBusy n then r
  else
    let r := r.each ((r.dmaCh n).flight.zip moved) fun x r => r.dmaLand n x.1 (x.1.data.take (4096 * x.2))
    r.dmaFault n cause (r.rd (DMA_PC_ADDR n))

/-- DMA_STOP: a write of DMA_CH_n_CTL.STOP (R360). -/
def execDmaStop (n : Fin 32) (moved : List Nat) (s : State) : Host.Outcome State Fault Refusal :=
  done s fun r => r.dmaHalt n 7 moved

end Sys2Proof.Machine
end

