-- ==== Sys2Proof/Machine/LoadRules.lean ====
section
/-!
DEFINITION. The limits that the chapters set on the records of a bit-stream, as pure functions of its records, its mode word and
its REQ_FEAT (R25 to R30, R51, R55, R64 and the record rules of each chapter). Each function answers whether a limit is broken.
-/
namespace Sys2Proof.Machine

/-- A bit-stream under check: the records in force once it is woven, MODE (in the reader role Balanced for Packed, R33), ROLE and DUAL_MAG of its mode word, REQ_FEAT, and what
the limits need to know of the device: fitted DRAM, N of Table 13-1, whether DRAM runs at 6000 MT/s, and whether two channels were
retired at boot. -/
structure Load where
  cfg : List CfgRec
  mode : Nat
  reader : Bool
  dual : Bool
  feat : Nat
  dram : Nat
  bitsN : Nat
  slow : Bool
  lame : Bool

/-- `n` bytes at an offset of a record, as a number. -/
def CfgRec.n (c : CfgRec) (off n : Nat) : Nat := field c.body off n

/-- Bit k of the byte at an offset. -/
def CfgRec.b (c : CfgRec) (off k : Nat) : Bool := bit (c.n off 1) k

/-- Bytes from an offset that must be 0. -/
def CfgRec.zero (c : CfgRec) (off n : Nat) : Bool := c.n off n == 0

/-- The records of a REC_TYPE. -/
def Load.all (x : Load) (t : Nat) : List CfgRec := x.cfg.filter fun c => c.type == t

/-- The record of a REC_TYPE and INDEX. -/
def Load.get (x : Load) (t i : Nat) : Option CfgRec := x.cfg.find? fun c => c.type == t && c.index == i

/-- `n` bytes of the record of a REC_TYPE and INDEX, 0 without the record. -/
def Load.n (x : Load) (t i off n : Nat) : Nat := match x.get t i with | some c => c.n off n | none => 0

/-- The record exists. -/
def Load.has (x : Load) (t i : Nat) : Bool := (x.get t i).isSome

/-- A number occurs twice in a list. -/
def repeats : List Nat → Bool
  | [] => false
  | a :: l => l.contains a || repeats l

/-- An INDEX of a REC_TYPE is repeated or lies above `top`. -/
def Load.idxBad (x : Load) (t top : Nat) : Bool :=
  let l := (x.all t).map CfgRec.index
  repeats l || l.any fun i => top < i

/-- A value lies outside two bounds. -/
def outside (lo hi v : Nat) : Bool := v < lo || hi < v

/-- The record types of each section with their REC_LEN; 0 where the length follows from the record (Tables 03-2 to 15-11). -/
def recLens : List (Nat × Nat × Nat) :=
  [(1, 0x0301, 16), (1, 0x0401, 32), (1, 0x0703, 24), (2, 0x0402, 32), (2, 0x0501, 24), (2, 0x0502, 16), (2, 0x0601, 48),
   (2, 0x0704, 9704), (3, 0x0701, 32), (3, 0x0702, 1800), (3, 0x0801, 32), (3, 0x0802, 24), (3, 0x0901, 24), (3, 0x0902, 32),
   (4, 0x0D01, 40), (4, 0x0D02, 24), (5, 0x0D03, 0), (5, 0x0D04, 16)]
  ++ [(6, 0x0A01, 24), (6, 0x0A02, 48), (7, 0x0E01, 40), (8, 0x0F01, 144), (9, 0x0201, 24), (10, 0x0202, 40), (10, 0x0203, 16)]

/-- A record whose type its section does not hold, whose length is not that of its type, or whose REC_FLAGS is not 0 (R49, R50). -/
def CfgRec.misplaced (c : CfgRec) : Bool :=
  c.n 6 2 != 0 || match recLens.find? fun l => l.1 == c.sec && l.2.1 == c.type with
    | none => true
    | some l => c.body.length != (if l.2.2 = 0 then 16 + 32 * c.n 0xC 4 else l.2.2)

/-! ## Lanes, bundles, feed groups (R72, R122, R183) -/

/-- MODE of a lane; 0 without a record. -/
def Load.lane (x : Load) (n : Nat) : Nat := x.n 0x0301 n 8 1

/-- The lanes a bundle names: positions, then spares. -/
def namedLanes (c : CfgRec) : List Nat :=
  (List.range (c.n 8 1)).map (fun p => c.n (0xC + p) 1) ++ (List.range (c.n 9 1)).map fun p => c.n (0x18 + p) 1

/-- R72: a LANE record breaks its limits. -/
def Load.lanesBad (x : Load) : Bool :=
  x.idxBad 0x0301 47 || (x.all 0x0301).any fun c => 2 < c.n 8 1 || 1 < c.n 9 1 || 3 < c.n 0xA 1 || !c.zero 0xB 5

/-- R122: a BUNDLE record breaks its limits. -/
def Load.bundlesBad (x : Load) : Bool :=
  x.idxBad 0x0401 7 || repeats ((x.all 0x0401).flatMap namedLanes) || (x.all 0x0401).any fun c =>
    let w := c.n 8 1
    let sp := c.n 9 1
    let l := namedLanes c
    outside 1 12 w || 4 < sp || l.any (fun n => 23 < n || x.lane n == 0) || l.any (fun n => x.lane n != x.lane (l.headD 0))
      || (List.range (12 - w)).any (fun p => c.n (0xC + w + p) 1 != 0xFF)
      || (List.range (4 - sp)).any (fun p => c.n (0x18 + sp + p) 1 != 0xFF) || !c.zero 0x1C 4

/-- The LNK lanes of a feed group. -/
def feedLanes (c : CfgRec) : List Nat := ((List.range 8).filter fun j => c.b 9 j).map fun j => 40 + j

/-- R183: a FEEDGRP record breaks its limits. -/
def Load.feedsBad (x : Load) : Bool :=
  let gs := x.all 0x0703
  x.idxBad 0x0703 2 || repeats (gs.map fun c => c.n 8 1) || repeats (gs.flatMap feedLanes)
    || (gs.any fun c => 2 < c.n 8 1 || c.n 9 1 == 0 || (feedLanes c).any (fun n => x.lane n == 0)
        || (3 < c.n 0xA 1 && c.n 0xA 1 != 0xFF) || !c.zero 0xB 1 || !c.zero 0x12 2 || (c.n 8 1 == 2 && c.n 0xC 6 != 0))
    || gs.any fun c => gs.any fun d => c.n 0xA 1 != 0xFF && c.n 0xA 1 == d.n 0xA 1
        && (c.n 0xC 6 != d.n 0xC 6 || c.n 0x14 4 != d.n 0x14 4
          || (feedLanes c).any fun a => (feedLanes d).any fun b => x.lane a != x.lane b)

/-! ## Streams (R123, R125, R127, R151, R186) -/

/-- RECORDED, FRAME_MODE, PAIRED or INTERPRET of a context: bits 0 to 3 of the CTX record's byte 8. -/
def Load.ctxBit (x : Load) (ctx k : Nat) : Bool := bit (x.n 0x0501 ctx 8 1) k

/-- The VS record that binds a context. -/
def Load.vsOf (x : Load) (ctx : Nat) : Option CfgRec := (x.all 0x0402).find? fun c => c.n 9 1 == ctx

/-- WIDTH and HEIGHT of a context's frames. -/
def Load.size (x : Load) (ctx : Nat) : Nat × Nat := match x.vsOf ctx with | some c => (c.n 0xC 2, c.n 0xE 2) | none => (0, 0)

/-- R123: a VS record breaks its limits. -/
def Load.streamsBad (x : Load) : Bool :=
  x.idxBad 0x0402 15 || repeats ((x.all 0x0402).map fun c => c.n 9 1) || (x.all 0x0402).any fun c =>
    let w := c.n 0xC 2
    let h := c.n 0xE 2
    !x.has 0x0401 (c.n 8 1) || 15 < c.n 9 1 || outside 1 3 (c.n 0xA 1) || w % 32 != 0 || outside 256 16384 w
      || outside 16 16384 h || outside 1000 4000000 (c.n 0x10 4) || w * h * 18 / 4096 < c.n 0x18 2
      || outside 1 10000000 (c.n 0x14 4) || !c.zero 0xB 1 || !c.zero 0x1A 6

/-- R127: SPLIT breaks the stripe rule. -/
def Load.splitBad (x : Load) (c : CfgRec) : Bool :=
  let w := (x.size c.index).1
  let s := c.n 0xE 2
  if s = 0 then c.b 8 2 || 8192 < w
  else s % 16 != 0 || s % x.n 0x0601 c.index 8 1 != 0 || outside 256 8192 s || w < s || outside 256 8192 (w - s)

/-- HORIZON of an engine (Table 05-2). -/
def Load.horizon (x : Load) (ce : Nat) : Nat := if x.has 0x0502 ce then x.n 0x0502 ce 8 4 else 262144

/-- R125: a CTX or CE record breaks its limits. -/
def Load.contextsBad (x : Load) : Bool :=
  x.idxBad 0x0501 15 || x.idxBad 0x0502 1
    || (x.all 0x0502).any (fun c => outside 16384 16777216 (c.n 8 4) || !c.zero 0xC 4)
    || (x.all 0x0402).any (fun v => !x.has 0x0501 (v.n 9 1))
    || (x.all 0x0501).any fun c =>
      (x.vsOf c.index).isNone || !(c.b 8 0 || c.b 8 3) || 15 < c.n 8 1 || !c.zero 0x12 6
        || (c.b 8 3 && (7 < c.n 0xA 1 || c.n 0xB 1 == 0 || c.n 0xC 2 % 8 != 0 || outside 16 1024 (c.n 0xC 2) || 1 < c.n 9 1
          || (c.b 8 2 && c.n 9 1 != 0) || x.splitBad c || (c.b 8 1 && c.n 0x10 2 != 0)))

/-- The site code of site s of a MOSAIC record (Table 06-2). -/
def siteCode (c : CfgRec) (s : Nat) : Nat := bits (c.n (0x10 + s / 2) 1) (s % 2 * 4) 4

/-- R151: a MOSAIC record is missing or breaks its limits. -/
def Load.mosaicsBad (x : Load) : Bool :=
  x.idxBad 0x0601 15 || (x.all 0x0501).any (fun c => c.b 8 3 && !x.has 0x0601 c.index) || (x.all 0x0601).any fun c =>
    let k := c.n 8 1 * c.n 9 1
    !x.has 0x0501 c.index || outside 1 8 (c.n 8 1) || outside 1 8 (c.n 9 1) || !c.zero 0xA 6
      || (List.range 64).any fun s => if s < k then 5 < siteCode c s else siteCode c s != 0

/-- R186: the SLUICE record breaks its limits, or a sluice group has none. -/
def Load.sluiceBad (x : Load) : Bool :=
  let group := (x.all 0x0703).any fun c => c.n 8 1 == 2
  x.idxBad 0x0704 0 || (group && !x.has 0x0704 0) || (x.all 0x0704).any fun c =>
    (x.vsOf (c.n 8 1)).isNone || !(List.contains [1, 2, 4] (c.n 9 1)) || !group || 1 < c.n 0xA 1 || !c.zero 0xB 1 || !c.zero 0x5A 6
      || !c.zero 0x1866 2

/-! ## Outlets, composers, links, codecs (R172, R174, R192, R193, R218, R232) -/

/-- R174: an output size breaks its limits. -/
def Load.outSizeBad (x : Load) (c : CfgRec) : Bool :=
  let (iw, ih) := x.size (c.n 9 1)
  let w := c.n 0xC 2
  let h := c.n 0xE 2
  outside (ceilDiv iw 8) (2 * iw) w || outside (ceilDiv ih 8) (2 * ih) h ||
    match c.n 8 1 with
    | 1 => outside 64 8192 w || outside 64 4320 h
    | 2 => outside 64 4096 w || outside 64 2304 h || w % 8 != 0 || h % 8 != 0
    | _ => outside 128 4096 w || outside 128 4096 h

/-- DEST, byte 0x10 and NBUF of an OUTLET record do not suit its KIND (Table 07-1). -/
def outletFormBad (c : CfgRec) : Bool :=
  let dest := c.n 0xA 1
  let f := c.n 0x10 1
  match c.n 8 1 with
  | 1 => (7 < dest && dest != 0xFF) || 15 < f || f / 4 == 3 || outside 2 4 (c.n 0x11 1)
  | 2 => 1 < dest || 15 < f || f / 4 == 3 || f % 4 != 1 || outside 2 4 (c.n 0x11 1)
  | 3 => dest != 0xFF || (f != 0 && f != 16) || outside 2 16 (c.n 0x11 1)
  | _ => true

/-- R172: an OUTLET or SCALER record breaks its limits. -/
def Load.outletsBad (x : Load) : Bool :=
  x.idxBad 0x0701 23 || x.idxBad 0x0702 7 || (x.all 0x0701).any fun c =>
    !x.ctxBit (c.n 9 1) 3 || outletFormBad c || c.n 0x12 1 == 0 || x.outSizeBad c || !x.has 0x0702 (c.n 0x13 1) || !c.zero 0x18 8

/-- R192: a COMPOSER record breaks its limits, or a display outlet names a composer that has none. -/
def Load.composersBad (x : Load) : Bool :=
  let dests := ((x.all 0x0701).filter fun c => c.n 8 1 == 1 && c.n 0xA 1 != 0xFF).map fun c => c.n 0xA 1
  x.idxBad 0x0801 3 || repeats dests || dests.any (fun d => !x.has 0x0801 (d % 4)) || (x.all 0x0801).any fun c =>
    let f := c.n 0xC 1
    outside 64 8192 (c.n 8 2) || outside 64 4320 (c.n 0xA 2) || !c.zero 0xF 1 || !c.zero 0x18 8
      || (if c.index < 2 then f != 0 || c.n 0xE 1 != 0xFF || c.n 0x14 4 != 0
          else 15 < f || f / 4 == 3 || !(x.all 0x0703).any fun g => g.n 8 1 == c.index - 2)

/-- R193: a VFLINK record is missing, has no composer, or breaks its limits. -/
def Load.linksBad (x : Load) : Bool :=
  x.idxBad 0x0802 1 || (List.range 2).any (fun n => x.has 0x0801 n != x.has 0x0802 n) || (x.all 0x0802).any fun c =>
    let w := x.n 0x0801 c.index 8 2
    let h := x.n 0x0801 c.index 0xA 2
    let sw := c.n 0x12 2
    let sh := c.n 0x14 2
    outside 80 3500 (c.n 8 2) || outside 1000 120000 (c.n 0xC 4) || 7 < c.n 0xA 1 || !c.zero 0xB 1 || !c.zero 0x16 2
      || (if c.b 0xA 0 then outside 128 192 (c.n 0x10 2) || sw == 0 || sw % 64 != 0 || w % sw != 0 || !(List.contains [8, 16, 32, 64] sh)
            || h % sh != 0
          else c.b 0xA 2)

/-- R218, R232: an ENC or DEC record is missing or breaks its limits. -/
def Load.codecsBad (x : Load) : Bool :=
  x.idxBad 0x0901 1 || x.idxBad 0x0902 0
    || (x.all 0x0701).any (fun c => c.n 8 1 == 2 && !x.has 0x0901 (c.n 0xA 1))
    || (x.all 0x0901).any (fun c => outside 3 8 (c.n 9 1) || c.n 0x14 4 < 256 || !c.zero 0xA 2)
    || (x.all 0x0902).any fun c => outside 2 16 (c.n 9 1) || outside 2 8 (c.n 0xA 1) || !c.zero 0xB 1 || !c.zero 0x1C 4

/-! ## Polders (R337, R347, R348, R350) -/

/-- The bytes a polder covers: SIZE, plus SIZE / 8 with ECC (R347). -/
def footprint (c : CfgRec) : Nat := c.n 0x10 8 + (if c.b 0x1C 0 then c.n 0x10 8 / 8 else 0)

/-- R347, R350: a POLDER record breaks its form, or BAR2 windows overlap or leave 64 GiB. -/
def Load.poldersBad (x : Load) : Bool :=
  let ps := x.all 0x0D01
  let shown := ps.filter fun c => c.b 0x1C 1
  x.idxBad 0x0D01 31
    || (ps.any fun c => c.n 8 8 % 4096 != 0 || c.n 0x20 8 % 4096 != 0 || c.n 0x10 8 == 0
        || c.n 0x10 8 % (if c.b 0x1C 0 then 32768 else 4096) != 0 || 0x3FFF < c.n 0x18 2 || 0x3FFF < c.n 0x1A 2 || 3 < c.n 0x1C 1
        || !c.zero 0x1D 3)
    || (shown.any fun c => 2 ^ 36 < c.n 0x20 8 + c.n 0x10 8)
    || shown.any fun c => shown.any fun d => c.index != d.index && c.n 0x20 8 < d.n 0x20 8 + d.n 0x10 8 && d.n 0x20 8 < c.n 0x20 8 + c.n 0x10 8

/-- R347: footprints overlap, or one reaches the staging area or lies beyond the fitted DRAM. -/
def Load.poldersOver (x : Load) : Bool :=
  let ps := x.all 0x0D01
  ps.any (fun c => x.dram - 0x10000000 < c.n 8 8 + footprint c)
    || ps.any fun c => ps.any fun d => c.index != d.index && c.n 8 8 < d.n 8 8 + footprint d && d.n 8 8 < c.n 8 8 + footprint c

/-- R337: a mask of a MEMMAP record breaks its rule. -/
def Load.memmapBad (x : Load) : Bool :=
  x.idxBad 0x0D02 0 || (x.all 0x0D02).any fun c => (List.range 4).any fun i =>
    let m := c.n (8 + 4 * i) 4
    bits m 0 15 != 2 ^ (11 + i) || 2 ^ x.bitsN ≤ m || 8 < popcount 32 m

/-- A record lacks a polder that grants it rights: the bits of READ and WRITE that Table 13-6 asks for. -/
def Load.lacks (x : Load) (p rd wr : Nat) : Bool :=
  match x.get 0x0D01 p with
  | none => true
  | some c => (c.n 0x18 2 &&& rd) != rd || (c.n 0x1A 2 &&& wr) != wr

/-- Some frame-mode context is interpreted. -/
def Load.frameMode (x : Load) : Bool := (x.all 0x0501).any fun c => c.b 8 1 && c.b 8 3

/-- An audio port uses a ring: an output fed from its ring, or a recorded input (R380). -/
def ringUsed (c : CfgRec) : Bool := if c.b 8 0 then c.n 0xD 1 == 0xFF else c.b 0xE 0

/-- R348, R380: a named polder lacks a required right, or the recording polder grants one it must not. -/
def Load.rightsBad (x : Load) : Bool :=
  (x.all 0x0A01).any (fun c =>
    let p := c.n 0x10 1
    let pak := if x.mode = 1 then 4 else 0
    x.lacks p (2 + pak + if x.frameMode then 8 else 0) (1 + pak) || (x.all 0x0D01).any fun d =>
      d.index == p && ((d.n 0x18 2 ||| d.n 0x1A 2) &&& 0xC00 != 0 || d.n 0x1C 1 != 0))
    || (x.all 0x0701).any (fun c =>
      let rd := match c.n 8 1 with | 1 => (if c.n 0xA 1 = 0xFF then 0 else 2 ^ 5) | 2 => 2 ^ 7 | _ => 2 ^ 12
      x.lacks (c.n 0xB 1) rd (2 ^ 4))
    || (x.all 0x0801).any (fun c => x.lacks (c.n 0xD 1) (2 ^ 5) 0 || (2 ≤ c.index && x.lacks (c.n 0xE 1) (2 ^ 6) (2 ^ 5)))
    || (x.all 0x0901).any (fun c => x.lacks (c.n 8 1) (2 ^ 7 + 2 ^ 12) (2 ^ 7))
    || (x.all 0x0902).any (fun c => x.lacks (c.n 8 1) (2 ^ 8 + 2 ^ 5) (2 ^ 8))
    || (x.all 0x0E01).any fun c => ringUsed c && (if c.b 8 0 then x.lacks (c.n 0xF 1) (2 ^ 9) 0 else x.lacks (c.n 0xF 1) 2 (2 ^ 9))

/-! ## Magazines, DMA, audio, events, presets, keys (R51, R64, R240, R247, R354, R379, R410) -/

/-- CHAIN of a magazine lane. -/
def Load.chain (x : Load) (l : Nat) : Nat := bits (x.n 0x0A01 0 8 8) (4 * l) 4

/-- R240: the MAGCFG record is missing or breaks its limits. -/
def Load.magBad (x : Load) : Bool :=
  x.idxBad 0x0A01 0 || (!x.reader && !x.has 0x0A01 0)
    || (List.range 16).any (fun l => 4 < x.chain l || (0 < x.chain l && x.lane (24 + l) == 0))
    || (x.all 0x0A01).any fun c => !x.has 0x0D01 (c.n 0x10 1) || !c.zero 0x11 7

/-- The drives of a ring's slots. -/
def ringMembers (c : CfgRec) : List Nat := (List.range (c.n 8 1 + c.n 9 1)).map fun j => c.n (0x10 + j) 1

/-- R247: a RING record breaks its limits, or a magazine of a camera has no ring. -/
def Load.ringsBad (x : Load) : Bool :=
  let rs := x.all 0x0A02
  x.idxBad 0x0A02 3 || repeats (rs.flatMap ringMembers)
    || (rs.any fun c =>
      let km := c.n 8 1 + c.n 9 1
      let ms := ringMembers c
      outside 4 32 km || outside 1 3 (c.n 9 1) || c.n 8 1 == 0 || (if x.dual then 1 < c.n 0xA 1 else c.n 0xA 1 != 0)
        || !c.zero 0xB 5 || (List.range (32 - km)).any (fun j => c.n (0x10 + km + j) 1 != 0xFF)
        || ms.any (fun d => 63 < d || x.chain (d / 4) ≤ d % 4 || (x.dual && d / 32 != c.n 0xA 1)
          || c.n 9 1 < (ms.filter fun e => e / 4 == d / 4).length))
    || (rs.any fun c => rs.any fun d => c.n 0xA 1 == d.n 0xA 1 && c.n 8 2 != d.n 8 2)
    || (!x.reader && (List.range (if x.dual then 2 else 1)).any fun m => !rs.any fun c => c.n 0xA 1 == m)

/-- The instructions of a DMAPROG record, by number. -/
def progOps (c : CfgRec) : List (Option DmaOp) := (List.range (c.n 0xC 4)).map fun i => dmaDecode ((c.body.drop (0x10 + 32 * i)).take 32)

/-- An instruction of a program is not allowed (R354): no instruction, a LOOP that reaches before the program's start, or one
that encloses a LOOP of its level or a higher one. -/
def progBad (ops : List (Option DmaOp)) : Bool :=
  (List.range ops.length).any fun i => match (ops.drop i).headD none with
    | none => true
    | some (.loop l _ _ _ back) => i < back || ((ops.drop (i - back)).take back).any fun
        | some (.loop k _ _ _ _) => l ≤ k
        | _ => false
    | _ => false

/-- R354: a DMA record breaks its limits. -/
def Load.dmaBad (x : Load) : Bool :=
  let ps := x.all 0x0D03
  let stop := fun (c : CfgRec) => c.n 8 4 + 32 * c.n 0xC 4
  (ps.any fun c => 255 < c.index || outside 1 2047 (c.n 0xC 4) || c.n 8 4 % 32 != 0 || sramSize < stop c || progBad (progOps c))
    || ((List.range ps.length).any fun i => (List.range ps.length).any fun j => i != j && match ps.drop i, ps.drop j with
      | c :: _, d :: _ => c.n 8 4 < stop d && d.n 8 4 < stop c
      | _, _ => false)
    || x.idxBad 0x0D04 31 || (x.all 0x0D04).any fun c =>
      1 < c.n 0xC 4 || !ps.any fun p => p.n 8 4 ≤ c.n 8 4 && c.n 8 4 < stop p && c.n 8 4 % 32 == 0

/-- The channels of an audio port. -/
def portChannels (c : CfgRec) : Nat := popcount 32 (c.n 0x18 4)

/-- A range of 4 KiB units does not fit inside a polder. -/
def Load.spills (x : Load) (p off len : Nat) : Bool := x.n 0x0D01 p 0x10 8 < off + len

/-- R379: an AUPORT record breaks its form. -/
def Load.audioBad (x : Load) : Bool :=
  x.idxBad 0x0E01 7 || (x.all 0x0E01).any fun c =>
    let src := c.n 0xD 1
    let media := c.n 0x14 4
    let srcBad := match x.get 0x0E01 src with
      | none => true
      | some d => d.b 8 0 || d.n 0x14 4 != media || portChannels d < portChannels c
    !(List.contains [16, 20, 24, 32] (c.n 0xA 1)) || outside 1 32 (c.n 9 1) || (c.b 8 2 && c.n 9 1 != 2) || c.n 0x18 4 == 0
      || 2 ^ c.n 9 1 ≤ c.n 0x18 4 || !(List.contains [44100, 48000, 88200, 96000, 176400, 192000] media)
      || outside 44100 192000 (c.n 0x10 4) || (c.b 8 6 && !(c.b 8 1 && c.n 0x10 4 == media)) || (c.b 8 0 && c.b 0xE 0)
      || (src != 0xFF && (!c.b 8 0 || srcBad)) || (ringUsed c && x.spills (c.n 0xF 1) (c.n 0x1C 4 * 4096) (c.n 0x20 4 * 4096))
      || 31 < c.n 0xB 1 || c.n 0xC 1 == 0 || 15 < c.n 0xE 1 || !c.zero 0x24 4

/-- R410: an EVROUTE record breaks its form. -/
def Load.routesBad (x : Load) : Bool :=
  x.idxBad 0x0F01 15 || (x.all 0x0F01).any fun c =>
    !c.zero 0xC 4 || (List.range 32).any fun j => c.n (0x10 + 4 * j) 4 &&& 0xFFFF0080 != 0

/-- R51: a PRESET record breaks its form, names a block it must not, or sets a bit that is not RW or SH. -/
def presetBad (c : CfgRec) : Bool :=
  let o := c.n 8 4
  o % 4 != 0 || !c.zero 0x14 4 || (o < 0x100000 && !(0x1000 ≤ o && o < 0x2000)) || (0x200000 ≤ o && o < 0x300000)
    || (0x1500000 ≤ o && o < 0x1600000) || 0x1A00000 ≤ o || (c.n 0xC 4 &&& presetBits regTable o) != c.n 0xC 4

/-- R64: a key record breaks its form. -/
def keysBad (l : List CfgRec) : Bool :=
  l.isEmpty || 4 < l.length || repeats (l.map CfgRec.index) || l.any fun c =>
    outside 1 4 c.index || (c.type == 0x0202 && !curvePoint ((c.body.drop 8).take 32))

/-- R64: an ENROLL names a slot that is not empty or holds another key, or a REVOKE a slot that is not enrolled with its key. -/
def slotsUsed (keys : Tab KeySlot) (kid : List Byte → List Byte) (l : List CfgRec) : Bool :=
  l.any fun c =>
    let k := keys.look c.index {}
    if c.type = 0x0202 then k.state != .empty || (k.key != [] && k.key != (c.body.drop 8).take 32)
    else k.state != .enrolled || (c.body.drop 8).take 8 != kid k.key

/-- BAD_FORMAT of the records of a bit-stream to be woven (R49 to R51 and the record rules). -/
def Load.badRecords (x : Load) : Bool :=
  [x.lanesBad, x.bundlesBad, x.feedsBad, x.streamsBad, x.contextsBad, x.mosaicsBad, x.sluiceBad, x.outletsBad, x.composersBad,
   x.linksBad, x.codecsBad, x.poldersBad, x.memmapBad, x.rightsBad, x.magBad, x.ringsBad, x.dmaBad, x.audioBad, x.routesBad,
   (x.all 0x0201).any presetBad].any id

/-! ## Features (R55) -/

/-- REQ_FEAT lacks feature Fn. -/
def Load.without (x : Load) (n : Nat) : Bool := !bit x.feat n

/-- R55: the bit-stream uses a feature that its REQ_FEAT lacks. -/
def Load.featureBad (x : Load) : Bool :=
  (x.mode == 1 && x.without 2) || (x.dual && x.without 3) || (x.reader && x.without 10)
    || (repeats ((x.all 0x0402).map fun c => c.n 8 1) && x.without 12)
    || (!(x.all 0x0704).isEmpty && x.without 4)
    || ((x.all 0x0701).any (fun c => c.n 8 1 == 3 && c.b 0x10 4) && x.without 5)
    || ((x.all 0x0802).any (fun c => c.b 0xA 0) && x.without 6)
    || ((x.all 0x0501).any (fun c => c.b 8 3 && c.b 8 2) && x.without 13)
    || ((x.all 0x0A02).any (fun c => c.n 9 1 == 3) && x.without 15)
    || ((List.range 16).any (fun l => 3 ≤ x.chain l) && x.without 16)
    || (!(x.all 0x0902).isEmpty && x.without 20) || (x.cfg.any (fun c => c.sec == 7) && x.without 21)

/-! ## Mode limits (R29, R30, Table 01-6) -/

/-- The raw ceiling of a mode in pixels per second (R30). -/
def rawCeiling (mode : Nat) : Nat :=
  match mode with | 0 => 32000000000 | 1 => 17777777777 | 2 => 20000000000 | _ => 10000000000

/-- WIDTH * HEIGHT * MAX_RATE of a virtual stream, in pixels per 1,000 s. -/
def vsRate (c : CfgRec) : Nat := c.n 0xC 2 * c.n 0xE 2 * c.n 0x10 4

/-- The declared rate summed over the recorded contexts, in pixels per 1,000 s (R27, R30). -/
def Load.rawRate (x : Load) : Nat :=
  ((x.all 0x0402).filter fun c => x.ctxBit (c.n 9 1) 0).foldl (fun a c => a + vsRate c) 0

/-- R29: a count, unit or rate lies beyond what the mode allows. -/
def Load.modeBad (x : Load) : Bool :=
  let big := x.mode == 1 || x.mode == 2
  let cool := x.mode == 3
  let kind := fun k => ((x.all 0x0701).filter fun c => c.n 8 1 == k).length
  let groups := (x.all 0x0703).filter fun c => c.n 8 1 < 2
  (if big then 4 else 1) < kind 3 || (if big then 2 else 1) < kind 2 || (!big && x.has 0x0901 1)
    || (cool && ((x.all 0x0703).any (fun c => c.n 8 1 == 2) || x.has 0x0704 0))
    || (!big && groups.any fun c => c.n 8 1 == 1)
    || (cool && (x.has 0x0801 1 || x.has 0x0801 3))
    || (cool && (x.all 0x0501).any fun c => c.b 8 3 && (c.n 9 1 == 1 || c.b 8 2))
    || (x.mode == 1 && (x.all 0x0501).any fun c => c.b 8 0 && c.b 8 1 && c.b 8 3)
    || 1000 * rawCeiling x.mode < x.rawRate

/-! ## Capacity -/

/-- R25: the samples of a bundle exceed 90 % of its guaranteed payload. -/
def Load.bundleOver (x : Load) (c : CfgRec) : Bool :=
  let per := if x.lane ((namedLanes c).headD 0) = 2 then 26700000000 else 53400000000
  let rate := ((x.all 0x0402).filter fun v => v.n 8 1 == c.index).foldl (fun a v => a + vsRate v) 0
  9 * 1000 * c.n 8 1 * per < 10 * 18 * rate

/-- R26, R27, R241: the recorded raw of the contexts exceeds what magazine m accepts, in bytes per second. -/
def Load.magOver (x : Load) (m : Nat) : Bool :=
  match (x.all 0x0A02).filter fun c => c.n 0xA 1 == m with
  | [] => false
  | c :: l =>
    let lanes := ((c :: l).flatMap ringMembers).map fun d => d / 4
    let n := ((List.range 16).filter fun i => lanes.contains i).length
    let limit := min (if x.dual then 51800000000 else 103600000000) (6475000000 * n)
    4 * 1000 * limit * c.n 8 1 < 9 * x.rawRate * (c.n 8 1 + c.n 9 1)

/-- LINE_BYTES of a stripe-mode context (R126). -/
def lineBytes (w : Nat) : Nat := ceilDiv (w * 18) 512 * 64

/-- The stripe-mode contexts that enter R126. -/
def Load.stripeCtxs (x : Load) : List CfgRec := (x.all 0x0501).filter fun c => c.b 8 3 && !c.b 8 1

/-- R126: STORE_LINES of a context lies below its minimum on an engine it uses. -/
def Load.storeShort (x : Load) (c : CfgRec) : Bool :=
  let w := (x.size c.index).1
  let s := c.n 0xE 2
  let need := fun ce rc => 2 * c.n 0xC 2 + 12 + ceilDiv (x.horizon ce) rc
  let have_ := c.n 0x10 2
  if c.b 8 2 then have_ < need 0 ((s + 16) / 16) || have_ < need 1 ((w - s + 16) / 16)
  else have_ < need (c.n 9 1) (if s = 0 then w / 16 else (w + 32) / 16)

/-- The bytes of one buffer of an outlet, in whole 4 KiB units (R178, R180). -/
def outletStride (c : CfgRec) : Nat :=
  if c.n 8 1 = 3 then visionStride (c.b 0x10 4) (c.n 0xC 2) (c.n 0xE 2)
  else ceilDiv (olFrameBytes (c.n 0xC 2) (c.n 0xE 2) (c.b 0x10 0)) 4096 * 4096

/-- Bits per pixel of a feed FORMAT (Table 07-5). -/
def formatBpp (f : Nat) : Nat := (if bit f 1 then 12 else 10) * if bit f 0 then 2 else 3

/-- The bits of the largest frame of a composer group: VFS, timecode, VLNs, VFE and the audio of a PERIOD (R183). -/
def Load.frameBits (x : Load) (g : CfgRec) : Nat :=
  let n := 2 + g.n 8 1
  let w := x.n 0x0801 n 8 2
  let h := x.n 0x0801 n 0xA 2
  let bpp := formatBpp (x.n 0x0801 n 0xC 1)
  let line := ceilDiv w 4096 * 3 + ceilDiv w 32 * (bpp / 2)
  let audio := ((x.all 0x0E01).filter fun c => bit (c.n 0xE 1) (1 + g.index)).foldl (fun a c =>
    let f := ceilDiv (c.n 0x14 4 * g.n 0xC 6) (1000000000 * 65536)
    let ch := portChannels c
    let k := audFrames ch
    a + 5 * ceilDiv f k + f / k * ceilDiv (k * ch) 2 + ceilDiv (f % k * ch) 2) 0
  64 * (6 + 4 + h * line + 3 + audio)

/-- R183: a composer group's largest frame exceeds its lanes. -/
def Load.feedOver (x : Load) (g : CfgRec) : Bool :=
  let w : Int := (feedLanes g).length
  let room : Int := 9000 * (g.n 0xC 6 : Nat) - 585143 * 655360
  w * 534 * room < (x.frameBits g : Nat) * 6553600000

/-- R186: the sluice group's lanes are too few for its bundle. -/
def Load.sluiceOver (x : Load) : Bool :=
  (x.all 0x0704).any fun c =>
    let wf := ((x.all 0x0703).filter fun g => g.n 8 1 == 2).foldl (fun a g => a + (feedLanes g).length) 0
    let wb := match x.vsOf (c.n 8 1) with | some v => x.n 0x0401 (v.n 8 1) 8 1 | none => 0
    9 * wf * 18 * c.n 9 1 < 10 * wb * (if c.b 0xA 0 then 20 else 30)

/-- R192: the buffers or LEAD of a feed composer break their limits. -/
def Load.composerOver (x : Load) (c : CfgRec) : Bool :=
  let w := c.n 8 2
  let h := c.n 0xA 2
  let period := ((x.all 0x0703).filter fun g => g.n 8 1 == c.index - 2).foldl (fun a g => a + g.n 0xC 6) 0
  2 ≤ c.index && (x.spills (c.n 0xE 1) (c.n 0x10 4 * 4096) (3 * (ceilDiv (olFrameBytes w h (c.b 0xC 0)) 4096 * 4096))
    || 4 * c.n 0x14 4 < w * h + 80000 || period < c.n 0x14 4 * 65536)

/-- R193: a viewfinder link cannot carry its panel. -/
def Load.linkOver (x : Load) (c : CfgRec) : Bool :=
  let w := x.n 0x0801 c.index 8 2
  let h := x.n 0x0801 c.index 0xA 2
  let hz := c.n 0xC 4
  let dsc := c.b 0xA 0
  let push := if dsc then ceilDiv (w * h * c.n 0x10 2) 16 + 48 * h * w / c.n 0x12 2 else h * (w * 24 + 48)
  (if dsc then 3840 < w || 2160 < h || 60000 < hz else 2560 < w || 1600 < h || 120000 < hz)
    || 36 * c.n 8 2 * 1000000000 < 10 * push * hz

/-- R218: the reference pool or the output ring of an encoder does not fit. -/
def Load.encOver (x : Load) (c : CfgRec) : Bool :=
  let px := match (x.all 0x0701).find? fun o => o.n 8 1 == 2 && o.n 0xA 1 == c.index with
    | some o => o.n 0xC 2 * o.n 0xE 2
    | none => 0
  let ref := 4096 * ceilDiv (4 * px + px / 2 + px / 16) 4096
  x.spills (c.n 8 1) (c.n 0xC 4 * 4096) (c.n 9 1 * ref) || x.spills (c.n 8 1) (c.n 0x10 4 * 4096) (c.n 0x14 4 * 4096)

/-- R232: the pool, the input ring or the output buffers of the decoder do not fit. -/
def Load.decOver (x : Load) (c : CfgRec) : Bool :=
  x.spills (c.n 8 1) (c.n 0xC 4 * 4096) (c.n 9 1 * 38400 * 1024) || x.spills (c.n 8 1) (c.n 0x10 4 * 4096) (c.n 0x14 4 * 4096)
    || x.spills (c.n 8 1) (c.n 0x18 4 * 4096) (c.n 0xA 1 * 73728 * 1024)

/-- R379: an audio port's bit clock or rate ratio lies beyond its limits. -/
def audioOver (c : CfgRec) : Bool :=
  49152000 < c.n 0x10 4 * c.n 9 1 * c.n 0xA 1 || 4 * c.n 0x10 4 < c.n 0x14 4 || 4 * c.n 0x14 4 < c.n 0x10 4

/-- CAPACITY: a capacity rule of a chapter is broken (R25, R27, R126, R172, R183, R186, R192, R193, R218, R232, R250, R334, R335,
R347, R379). -/
def Load.capacityBad (x : Load) : Bool :=
  [(x.all 0x0401).any x.bundleOver, (List.range 2).any x.magOver,
   41943040 < x.stripeCtxs.foldl (fun a c => a + lineBytes (x.size c.index).1 * c.n 0x10 2) 0, x.stripeCtxs.any x.storeShort,
   (x.all 0x0701).any (fun c => x.spills (c.n 0xB 1) (c.n 0x14 4 * 4096) (c.n 0x11 1 * outletStride c)),
   ((x.all 0x0703).filter fun g => g.n 8 1 < 2).any x.feedOver, x.sluiceOver, (x.all 0x0801).any x.composerOver,
   (x.all 0x0802).any x.linkOver, (x.all 0x0901).any x.encOver, (x.all 0x0902).any x.decOver, (x.all 0x0E01).any audioOver,
   x.poldersOver, (x.all 0x0A01).any (fun c => 60129542144 < x.n 0x0D01 (c.n 0x10 1) 0x10 8 / 4096 * 3840),
   x.slow && x.mode == 0, x.lame && x.has 0x0A01 0].any id

end Sys2Proof.Machine
end

