-- ==== Sys2Proof/Machine/MemCtl.lean ====
section
/-!
DEFINITION. The DRAM controller: the order of block accesses (R22, R338, R339), neighbour-row refresh (R341), refresh (R340),
read errors (R344, R346, R252), retraining (R343) and the retirement of a channel (R253, R350, R394).
-/
namespace Sys2Proof.Machine
variable {s₀ : State}

/-- A channel of the controller. -/
def Run.memCh (r : Run s₀) (c : Nat) : MemCh := r.u.mem.ch.look c {}

/-- Change a channel of the controller. -/
def Run.memMod (r : Run s₀) (c : Nat) (f : MemCh → MemCh) : Run s₀ := r.memu fun m => { m with ch := m.ch.put c (f (m.ch.look c {})) }

/-! ## Retirement -/

/-- MEM retires channel c. The first retirement leaves its block out of every parity row; the second makes every parity row
unrecoverable and stops a record (R253, R350, R394). -/
def Run.channelRetire (r : Run s₀) (c detector block : Nat) : Run s₀ :=
  if r.retired c then r
  else
    let r := r.breach { type := 5, index := c, cls := 2, detector := detector, action := 4, event := 448 + c, detail0 := block }
    let r := ((r.cofferdam 5 c).set MEM_CFG_RETIRED (2 ^ c)).wr (MEM_CH_STATUS_STATE c) 4
    let r := ((r.clear MEM_RETRAIN_REQ (2 ^ c)).memMod c fun _ => {}).memu fun m => { m with due := m.due.filter (· != c) }
    let r := r.ev (448 + c)
    let r := r.when (!r.on MAG_PARITY_STATUS_OUT_VALID) fun r => (r.wr MAG_PARITY_STATUS_OUT_CH c).wr MAG_PARITY_STATUS_OUT_VALID 1
    r.when (r.retiredCount == 2) fun r =>
      let r := r.when r.recPolder.isSome fun r => r.ev 17
      r.when (r.rd MAG_REC_STATUS_STATE == 2) fun r => (r.recStop 4).recAdvance

/-! ## Accesses -/

/-- The request to issue, if any: of the highest class present, the oldest in the batch's direction whose bank can accept an
activate. The batch turns after 16 blocks, when the other direction has waited 1 µs, or when its own is empty; answers the
request, its direction and whether the batch turned (R22, R339). -/
def pickRequest (bank : Nat → Nat) (q : MemCh) (busy : List Nat) (waited : Bool) : Option (MemReq × Bool) :=
  let cls := (q.queue.map MemReq.cls).foldl min 4
  let l := q.queue.filter fun x => x.cls == cls
  let same := l.any fun x => x.write == q.batchWrite
  let other := l.any fun x => x.write != q.batchWrite
  let turn := other && (16 ≤ q.batch || waited || !same)
  let dir := q.batchWrite != turn
  (l.find? fun x => x.write == dir && !busy.contains (bank x.addr)).map (·, turn)

/-- One step of the neighbour-row generator, x^32 + x^22 + x^2 + x + 1 (R341). -/
def nrrStep (v : Nat) : Nat :=
  let fb := (b2n (bit v 31) + b2n (bit v 21) + b2n (bit v 1) + b2n (bit v 0)) % 2
  v * 2 % 2 ^ 32 + fb

/-- The generator's state at a draw, seeded at the first with a free value (R341). -/
def Run.nrrDraw (r : Run s₀) (c : Nat) (f : Nat → Run s₀ → Run s₀) : Run s₀ :=
  let go := fun (v : Nat) (r : Run s₀) =>
    let v := (List.range 16).foldl (fun v _ => nrrStep v) v
    f (v % 2 ^ 16) (r.memMod c fun x => { x with lfsr := some v })
  match (r.memCh c).lfsr with
  | some v => go v r
  | none => r.free 32 go

/-- A command leaves for the devices of channel c: 0 block access, 1 neighbour refresh, 2 refresh, 3 drift check, 4 retraining
step. -/
def Run.dramCmd (r : Run s₀) (c kind : Nat) (fields : List Nat) : Run s₀ := r.emit (.packet (160 + c) kind fields [])

/-- An activate of a row of a bank: now and then its neighbours are refreshed first (R341). -/
def Run.activate (r : Run s₀) (c bank row : Nat) : Run s₀ :=
  r.nrrDraw c fun x r =>
    if x < r.rd MEM_NRR_PROB then
      r.each ((if row = 0 then [] else [row - 1]) ++ (if row + 1 < r.rowCount then [row + 1] else [])) fun n r => r.dramCmd c 1 [bank, n]
    else r

/-- An uncorrectable read of the block at `b` on channel c: it reads poisoned until it is written; the fourth distinct block
within 1 ms retires the channel (R346, R252, Table 15-2). -/
def Run.badRead (r : Run s₀) (c b : Nat) : Run s₀ :=
  let r := r.memu fun m => { m with poison := b :: m.poison.filter (· != b) }
  let rec_ := (r.polderOf b 256).isSome && r.polderOf b 256 == r.recPolder
  let r := if rec_ then r.breach { type := 5, index := c, cls := 1, detector := 1, action := 5, detail0 := b } else r.uncorrectable b
  let t := r.tselNs
  let bad := (b, t) :: ((r.memCh c).bad.filter fun x => x.1 != b && t ≤ x.2 + 1000000)
  let r := r.memMod c fun x => { x with bad := bad }
  r.when (4 ≤ bad.length) fun r => r.channelRetire c 1 b

/-- The controller issues a channel's next block access. `result` of a read: 0 correct, 1 a link error that was corrected, 2 a
single-bit error in an ECC polder, 3 uncorrectable (R344, R346). -/
def Run.blockAccess (r : Run s₀) (c : Nat) (arrived : List MemReq) (busy : List Nat) (waited : Bool) (result : Nat) : Run s₀ :=
  let st := r.rd (MEM_CH_STATUS_STATE c)
  if st ≠ 2 ∧ st ≠ 3 then r
  else
    let r := r.memMod c fun x => { x with queue := x.queue ++ arrived.filter fun q => channelOf q.addr == c }
    let bank := fun a => r.bankOf (localAddr a)
    match pickRequest bank (r.memCh c) busy waited with
    | none => r
    | some (q, turn) =>
      let row := r.rowOf (localAddr q.addr)
      let r := r.memMod c fun x => { x with
        queue := x.queue.erase q, batchWrite := x.batchWrite != turn, batch := if turn || 16 ≤ x.batch then 1 else x.batch + 1 }
      let b := q.addr / 256 * 256
      let r := (r.activate c (bank q.addr) row).dramCmd c 0 [bank q.addr, row, b, b2n q.write]
      if q.write then r
      else if result = 1 then r.sat (MEM_CH_ERR_LINK_CE c)
      else if result = 2 then
        match r.polderOf b 256 with
        | some p => if r.on (MEM_POLDER_BAR2_ECC p) then r.sat (MEM_CH_ERR_ECC_CE c) else r
        | none => r
      else if result = 3 then r.badRead c b
      else r

/-- The request class of each traffic (Table 01-3, R15). -/
def trafficClass (t : Traffic) : Nat :=
  match t with
  | .intakeWrite | .magazineRead | .crossParity | .packing => 0
  | .displayOutlet | .composer | .feedRead | .viewfinderRead | .audio => 1
  | .codecReference | .codingOutlet | .visionOutlet | .frameModeRead => 2
  | .dmaProgram | .bar2 | .offload => 3

/-- The controller issues a block access (R339). The requests that arrive are named by their traffic, whose class Table 01-3 gives. -/
def execBlockAccess (c : Fin 16) (arrived : List (Traffic × Bool × Nat)) (busy : List (Fin 16)) (waited : Bool) (result : Fin 4) (s : State) :
    Host.Outcome State Fault Refusal :=
  done s fun r => r.blockAccess c (arrived.map fun q => ⟨trafficClass q.1, q.2.1, q.2.2⟩) (busy.map Fin.val) waited result

/-- A per-bank refresh falls due (R340). -/
def execRefresh (c : Fin 16) (bank : Fin 16) (s : State) : Host.Outcome State Fault Refusal :=
  done s fun r => if r.rd (MEM_CH_STATUS_STATE c) = 2 ∨ r.rd (MEM_CH_STATUS_STATE c) = 3 then r.dramCmd c 2 [bank.val] else r

/-! ## Retraining (R343) -/

/-- The PHY temperature of channel c in 0.25 °C: its own sensor's, or its substitute's (R342, R403). -/
def Run.phyTemp (r : Run s₀) (c : Nat) : Int :=
  let s := if bit (r.rd THM_RETIRED) (8 + c) then 8 + (c ^^^ 1) else 8 + c
  r.rdS (THM_TS_TEMP s)

/-- The channel is trained: its temperature is recorded (R342, R343). -/
def Run.channelTrained (r : Run s₀) (c : Nat) : Run s₀ :=
  let t := r.phyTemp c
  ((r.wr (MEM_CH_STATUS_STATE c) 2).wrSat (MEM_CH_STATUS_TRAIN_TEMP c) (roundShift t 2)).thm fun x => { x with trained := x.trained.put c t }

/-- The next retraining due starts when none runs: one channel at a time (R343). -/
def Run.retrainNext (r : Run s₀) : Run s₀ :=
  if (List.range 16).any fun c => r.rd (MEM_CH_STATUS_STATE c) == 3 then r
  else
    match r.u.mem.due.find? fun c => r.rd (MEM_CH_STATUS_STATE c) == 2 with
    | none => r
    | some c =>
      let r := (r.memu fun m => { m with due := m.due.filter (· != c) }).memMod c fun x => { x with steps := 0, fails := 0 }
      r.wr (MEM_CH_STATUS_STATE c) 3

/-- A retraining of channel c is due. One that runs already serves the request; one of a channel that is not active waits until the
channel is, and a retired channel's never runs (DESIGN CHOICE, assumption 33). -/
def Run.retrainDue (r : Run s₀) (c : Nat) : Run s₀ :=
  if r.rd (MEM_CH_STATUS_STATE c) = 3 ∨ r.u.mem.due.contains c = true then r else r.memu fun m => { m with due := m.due ++ [c] }

/-- A write of MEM_RETRAIN (R343). -/
def Run.writeRetrainReq (r : Run s₀) (v : Nat) : Run s₀ :=
  ((r.set MEM_RETRAIN_REQ (v % 2 ^ 16)).each ((List.range 16).filter (bit v)) fun c r => r.retrainDue c).retrainNext

/-- A write of MEM_RETRAIN (R343). -/
def execMemRetrain (v : Nat) (s : State) : Host.Outcome State Fault Refusal := done s fun r => r.writeRetrainReq v

/-- The oscillator of a channel is read and its drift corrected (R343). -/
def execDriftCheck (c : Fin 16) (s : State) : Host.Outcome State Fault Refusal :=
  done s fun r => if r.rd (MEM_CH_STATUS_STATE c) = 2 then r.dramCmd c 3 [] else r

/-- A retraining step ends: `last` when the retraining is complete, at the eighth step at the latest; a first failure repeats
the retraining, a second retires the channel (R343). -/
def Run.retrainStep (r : Run s₀) (c : Nat) (ok last : Bool) : Run s₀ :=
  if r.rd (MEM_CH_STATUS_STATE c) ≠ 3 then r
  else
    let r := (r.dramCmd c 4 []).memMod c fun x => { x with steps := x.steps + 1 }
    if ok then
      if last || 8 ≤ (r.memCh c).steps then
        (((r.sat (MEM_CH_STATUS_RETRAINS c)).channelTrained c).clear MEM_RETRAIN_REQ (2 ^ c)).retrainNext
      else r
    else
      let r := (r.sat (MEM_CH_ERR_TRAIN_FAIL c)).memMod c fun x => { x with steps := 0, fails := x.fails + 1 }
      if 2 ≤ (r.memCh c).fails then (r.channelRetire c 2 0).retrainNext else r.ev (448 + c)

/-- A retraining step ends (R343). -/
def execRetrainStepDone (c : Fin 16) (ok last : Bool) (s : State) : Host.Outcome State Fault Refusal := done s fun r => r.retrainStep c ok last

end Sys2Proof.Machine
end

