-- ==== Sys2Proof/Machine/LoadCheck.lean ====
section
/-!
DEFINITION. The checks of a bit-stream and of a firmware image, in the order of Table 02-17 (R46, R48 to R50, R52 to R55, R58,
R60, R64). Every check answers a reason code, 0 for OK.
-/
namespace Sys2Proof.Machine
variable {s₀ : State}

/-- The code of the first check of a list that fails, 0 when none does (R54). -/
def firstFailure (l : List (Bool × Nat)) : Nat :=
  match l.find? Prod.fst with
  | some p => p.2
  | none => 0

/-! ## Signature block and keys (R52) -/

/-- TOTAL_LEN of an image (Tables 02-12, 02-20). -/
def totalLen (b : List Byte) : Nat := field b 8 4

/-- The 96-byte signature block of an image (R52). -/
def sigBlock (b : List Byte) : List Byte := (b.drop (totalLen b - 96)).take 96

/-- The signature block breaks its form, given the KEY_SLOT it must hold (Table 02-16). -/
def sigBad (b : List Byte) (slot : Nat) : Bool :=
  let g := sigBlock b
  field g 0 4 != 0x4749534E || field g 4 1 != slot || field g 5 3 != 0 || field g 0x10 16 != 0

/-- The state of a key slot; slot 0 holds the Ovryn key (R52). -/
def Run.keySlot (r : Run s₀) (n : Nat) : KeySlot := if n = 0 then ⟨.enrolled, Config.ovrynKey⟩ else r.u.glb.keys.look n {}

/-- KEY_UNKNOWN: the slot does not exist or is empty, or its key has another KEY_ID. -/
def Run.keyUnknown (r : Run s₀) (b : List Byte) (slot : Nat) : Bool :=
  4 < slot || (r.keySlot slot).state == .empty || ((sigBlock b).drop 8).take 8 != keyId (r.keySlot slot).key

/-- The signature does not verify over bytes 0 to TOTAL_LEN − 97 (R52). -/
def Run.sigFails (r : Run s₀) (b : List Byte) (slot : Nat) : Bool :=
  !ed25519Verify (r.keySlot slot).key (b.take (totalLen b - 96)) ((sigBlock b).drop 0x20)

/-! ## Sections and records (R48, R49, R50) -/

/-- A directory entry (Table 02-14). -/
structure DirEntry where
  type : Nat
  inst : Nat
  off : Nat
  len : Nat
  crc : Nat

/-- The directory of a bit-stream. -/
def directory (b : List Byte) : List DirEntry :=
  (List.range (field b 0x34 2)).map fun i =>
    let o := 0x40 + 16 * i
    ⟨field b o 2, field b (o + 2) 2, field b (o + 4) 4, field b (o + 8) 4, field b (o + 12) 4⟩

/-- The header, TOTAL_LEN, the directory's size or the signature block break their form: the first BAD_FORMAT of Table 02-17. -/
def headerBad (b : List Byte) : Bool :=
  let t := totalLen b
  b.length < 64 || field b 0 4 != 0x4352524E || field b 4 2 != 1 || field b 6 2 != 64 || t % 16 != 0 || outside 256 2097152 t
    || b.length < t || 15 < field b 0xC 4 || 1 < field b 0x36 2 || field b 0x39 7 != 0 || outside 1 64 (field b 0x34 2)
    || t - 96 < 64 + 16 * field b 0x34 2 || sigBad b (field b 0x38 1)

/-- A section lies wholly between the end of the directory and the start of the signature block (R49). -/
def DirEntry.inSpan (e : DirEntry) (b : List Byte) : Bool :=
  64 + 16 * field b 0x34 2 ≤ e.off && e.off + e.len ≤ totalLen b - 96

/-- The bytes of a section. -/
def DirEntry.bytes (e : DirEntry) (b : List Byte) : List Byte := (b.drop e.off).take e.len

/-- CRC_ERROR: a section within its span differs from its CRC (Table 02-17). -/
def crcBad (b : List Byte) : Bool := (directory b).any fun e => e.inSpan b && crc32c (e.bytes b) != e.crc

/-- The records of a section; none when they do not fill it exactly (R49). The first argument bounds their number. -/
def sectionRecs (sec : Nat) : Nat → List Byte → Option (List CfgRec)
  | 0, l => if l.isEmpty then some [] else none
  | n + 1, l =>
    if l.isEmpty then some []
    else
      let len := field l 2 2
      if len < 8 ∨ len % 8 ≠ 0 ∨ l.length < len then none
      else (sectionRecs sec n (l.drop len)).map (⟨sec, field l 0 2, field l 4 2, l.take len⟩ :: ·)

/-- The records of a bit-stream, in order; none when a section's records do not fill it. -/
def streamRecs (b : List Byte) : Option (List CfgRec) :=
  ((directory b).mapM fun e => sectionRecs e.type (e.len / 8) (e.bytes b)).map List.flatten

/-- Sections are in ascending order and do not overlap. -/
def sectionsOverlap : List DirEntry → Bool
  | a :: b :: l => b.off < a.off + a.len || sectionsOverlap (b :: l)
  | _ => false

/-- FLAGS.DELTA_OUTLETS (R58). -/
def isDelta (b : List Byte) : Bool := bit (field b 0x36 2) 0

/-- The directory holds a KEYS section: a key-management bit-stream (R53). -/
def isKeys (b : List Byte) : Bool := (directory b).any fun e => e.type == 10

/-- The sections are not those that the kind of bit-stream needs (R50, Table 02-15). -/
def countsBad (b : List Byte) : Bool :=
  let n := fun t => ((directory b).filter fun e => e.type == t).length
  let total := (directory b).length
  if isKeys b then n 10 != 1 || total != 1
  else if isDelta b then n 3 != 1 || 1 < n 8 || total != n 3 + n 8
  else
    [1, 2, 3, 4, 8].any (fun t => n t != 1) || (if bit (field b 0xC 4) 2 then 1 < n 6 else n 6 != 1)
      || [5, 7, 9].any (fun t => 1 < n t) || (directory b).any fun e => outside 1 10 e.type

/-- The directory or a record's place and length break R49 or R50. -/
def sectionsBad (b : List Byte) : Bool :=
  (directory b).any (fun e => e.inst != 0 || e.off % 16 != 0 || !e.inSpan b) || sectionsOverlap (directory b) || countsBad b ||
    match streamRecs b with
    | none => true
    | some l => l.any CfgRec.misplaced

/-- The records that a bit-stream names, empty when they cannot be read. -/
def recordsOf (b : List Byte) : List CfgRec := (streamRecs b).getD []

/-- An outlet delta's OUTLETS and EVENTS sections replace their counterparts (R58). -/
def mergeDelta (woven : List CfgRec) (b : List Byte) : List CfgRec :=
  let new := recordsOf b
  let ev := (directory b).any fun e => e.type == 8
  (woven.filter fun c => c.sec != 3 && !(c.sec == 8 && ev)) ++ new

/-- The records in force once a bit-stream is woven. -/
def Run.recsAfter (r : Run s₀) (b : List Byte) : List CfgRec := if isDelta b then mergeDelta r.u.glb.cfg b else recordsOf b

/-- A bit-stream with what its limits need to know of the device. -/
def Run.loadOf (r : Run s₀) (b : List Byte) : Load :=
  let m := field b 0xC 4
  { cfg := r.recsAfter b, mode := effMode (bits m 0 2) (bit m 2), reader := bit m 2, dual := bit m 3, feat := field b 0x10 16, dram := Config.dramBytes,
    bitsN := r.rd MEM_CFG_CH_LOG2, slow := !r.on MEM_CFG_RATE, lame := decide (2 ≤ r.u.glb.bootRetired) }

/-- An outlet delta's BASE_ID is not that of the woven bit-stream (R58). -/
def Run.baseMissed (r : Run s₀) (b : List Byte) : Bool :=
  isDelta b && (!r.on GLB_MODE_VALID || field b 0x28 8 != r.rd GLB_NARRIC_ID_STREAM_ID)

/-- An outlet delta changes MODE_WORD or REQ_FEAT (R58). -/
def Run.deltaWide (r : Run s₀) (b : List Byte) : Bool :=
  isDelta b && (field b 0xC 4 != field r.u.glb.woven 0xC 4 || field b 0x10 16 != field r.u.glb.woven 0x10 16)

/-- A host load asks for features that are not negotiated: REQ_FEAT, F8 for a customer key, F9 for an outlet delta (R58,
Table 02-17). -/
def Run.featuresLack (r : Run s₀) (b : List Byte) : Bool :=
  let need := field b 0x10 16 ||| (if field b 0x38 1 = 0 then 0 else 2 ^ 8) ||| (if isDelta b then 2 ^ 9 else 0)
  (need &&& r.features) != need

/-- The checks of a bit-stream from its header to CAPACITY and the delta rules. `host` says that the host loads it, `stored` that
it comes from, or goes to, a bit-stream slot. The limits on the records of a delta whose base is not woven are not judged: they
rest on the base (DEDUCED, assumption 21). -/
def Run.streamCheck (r : Run s₀) (b : List Byte) (host stored : Bool) : Nat :=
  let slot := field b 0x38 1
  let keys := isKeys b
  let x := r.loadOf b
  let judged := !keys && !r.baseMissed b
  if headerBad b then 1
  else firstFailure
    [(field b 0x30 4 != 0x9618, 2), (r.keyUnknown b slot, 3), ((r.keySlot slot).state == .revoked, 4), (r.sigFails b slot, 5),
     (crcBad b, 6), (sectionsBad b, 1), (keys && (slot != 0 || stored || isDelta b || keysBad (recordsOf b)), 1),
     (judged && x.badRecords, 1), (keys && slotsUsed r.u.glb.keys keyId (recordsOf b), 14), (host && r.featuresLack b, 7),
     (judged && x.featureBad, 7), (judged && x.modeBad, 8), (judged && x.capacityBad, 9), (r.baseMissed b, 11), (r.deltaWide b, 12)]

/-! ## Firmware images (Table 02-20, R60) -/

/-- The checks of a firmware image (R46, R54, R60). -/
def Run.fwCheck (r : Run s₀) (b : List Byte) : Nat :=
  let t := totalLen b
  let slot := field (sigBlock b) 4 1
  if b.length < 64 || field b 0 4 != 0x4957464E || field b 4 2 != 64 || field b 6 2 != 0 || t % 16 != 0 || outside 256 4194304 t
      || b.length < t || 63 < field b 0x10 4 || field b 0x18 40 != 0 || sigBad b slot then 1
  else firstFailure
    [(field b 0x14 4 != 0x9618, 2), (slot != 0 || r.keyUnknown b 0, 3), (r.sigFails b 0, 5), (field b 0x10 4 < r.u.glb.secVerMin, 13)]

/-- What the device notes of a firmware image that runs. -/
def fwOf (b : List Byte) (slot : Nat) : FwImage := ⟨field b 0xC 4, field b 0x10 4, slot⟩

/-- An image fails its checks: ERROR holds the reason code, and event 4 occurs (R54). -/
def Run.imageFailed (r : Run s₀) (code : Nat) : Run s₀ := (r.wr GLB_BOOT_STATUS_ERROR code).ev 4

end Sys2Proof.Machine
end

