-- ==== Sys2Proof/Machine/Faults.lean ====
section
/-!
DEFINITION. Thermal supervision (R403 to R407), warden-core faults (R400), internal faults of the engines and cores (R395) and
the event registers' own writes (R408, R409).
-/
namespace Sys2Proof.Machine
variable {s₀ : State}

/-! ## Thermal supervision -/

/-- A reading lies from −55 °C to +150 °C, in 0.25 °C (R403). -/
def validReading (t : Int) : Bool := -220 ≤ t && t ≤ 600

/-- Sensor s is retired. -/
def Run.sensorRetired (r : Run s₀) (s : Nat) : Bool := bit (r.rd THM_RETIRED) s

/-- The levee drivers: unretired on-die sensors, and remote diodes that are enabled (R404). -/
def Run.drivers (r : Run s₀) : List Nat :=
  (List.range 28).filter fun s => !r.sensorRetired s && (s < 24 || bit (r.rd THM_CTL_TD_EN) (s - 24))

/-- A sensor is retired (R403, R394). -/
def Run.sensorRetire (r : Run s₀) (s : Nat) : Run s₀ :=
  let r := r.breach { type := 13, index := s, cls := 2, action := 4, event := 499 }
  ((r.cofferdam 13 s).wr (THM_TS_RETIRED s) 1).ev 499

/-- One sensor's reading: an invalid one keeps the last valid value, and the third within 100 ms retires the sensor. RISE is
the change over the last 100 readings (R403, R404). -/
def Run.sensorReading (r : Run s₀) (s : Nat) (x : Option Int) : Run s₀ :=
  if r.sensorRetired s then r
  else
    let good := x.any validReading
    let t := if good then x.getD 0 else r.rdS (THM_TS_TEMP s)
    let ages := (((r.u.thm.bad.look s []).map (· + 1)).filter (· < 100))
    let bad := if good then ages else 0 :: ages
    let hist := (t :: r.u.thm.hist.look s []).take 101
    let rise := if hist.length = 101 then t - hist.getD 100 t else 0
    let r := r.thm fun h => { h with hist := h.hist.put s hist, bad := h.bad.put s bad, valid := h.valid || good }
    let r := ((r.wrS (THM_TS_TEMP s) t).wrS (THM_TS_RISE s) rise).wr (THM_TS_VALID s) (b2n good)
    if good then r
    else if 3 ≤ bad.length then r.sensorRetire s
    else r.breach { type := 13, index := s, cls := 1 }

/-- HOT and MAX (Table 15-12): the hottest unretired sensor, the lowest-numbered of equals. -/
def Run.hotSync (r : Run s₀) : Run s₀ :=
  match (List.range 28).filter fun s => !r.sensorRetired s with
  | [] => r
  | d :: ds =>
    let hot := ds.foldl (fun a s => if r.rdS (THM_TS_TEMP a) < r.rdS (THM_TS_TEMP s) then s else a) d
    (r.wr THM_STATUS_HOT hot).wrS THM_STATUS_MAX (r.rdS (THM_TS_TEMP hot))

/-- T_UP_k as a temperature. -/
def Run.tUp (r : Run s₀) (k : Nat) : Int := signed 16 (r.rd (THM_LEVEE_T_UP (k - 1)))

/-- RISE of a sensor reaches RATE_k; a RATE of 0 is not used (Table 15-14). -/
def Run.rateReached (r : Run s₀) (s k : Nat) : Bool :=
  r.rd (THM_LEVEE_RATE (k - 1)) != 0 && (r.rd (THM_LEVEE_RATE (k - 1)) : Int) ≤ r.rdS (THM_TS_RISE s)

/-- The levee that conditions demand (R405). -/
def Run.leveeDemand (r : Run s₀) : Nat :=
  let meets := fun k => r.drivers.any fun s => r.tUp k ≤ r.rdS (THM_TS_TEMP s) || r.rateReached s k
  if meets 3 then 3 else if meets 2 then 2 else if meets 1 then 1 else 0

/-- Every driver is below T_UP_k − HYST and below RATE_k for the levee in force (R405). -/
def Run.leveeCalm (r : Run s₀) : Bool :=
  let k := r.rd THM_STATUS_LEVEE
  r.drivers.all fun s => r.rdS (THM_TS_TEMP s) < r.tUp k - r.rd THM_HYST_HYST && !r.rateReached s k

/-- The levee in force changes: event 496, and 497 on entry into L3 (R405, R32). The 100 ms of the new levee begin with the reading that
brought it, when that reading is below its thresholds. -/
def Run.leveeSet (r : Run s₀) (k : Nat) : Run s₀ :=
  let r := r.wr THM_STATUS_LEVEE k
  let calm := b2n r.leveeCalm
  let r := (r.thm fun h => { h with calm := calm }).ev 496
  r.when (k == 3) fun r => (r.ev 497).smbCond 0

/-- The levee in force rises to the demanded one. Levees are a duty of W_3 (Table 01-2). -/
def Run.leveeRise (r : Run s₀) : Run s₀ :=
  let want := r.leveeDemand
  r.when (r.duty 3 && r.rd THM_STATUS_LEVEE < want) fun r => r.leveeSet want

/-- THM reads every sensor (R403 to R405, R407, R343). While a reset is held it only reads. -/
def Run.thermalReading (r : Run s₀) (readings : List (Option Int)) : Run s₀ :=
  let rate1 := (List.range 28).filter fun s => r.rateReached s 1
  let r := r.each (List.range 28) fun s r => r.sensorReading s (readings.getD s none)
  let onDie := (List.range 24).filter fun s => !r.sensorRetired s
  let warm := onDie.any fun s => 480 ≤ r.rdS (THM_TS_TEMP s)
  let r := r.thm fun h => { h with cool := if warm then 0 else h.cool + 1 }
  if r.u.glb.phase = .held then r
  else
    let r := r.hotSync
    let r := r.each onDie fun s r =>
      let high := decide (520 ≤ r.rdS (THM_TS_TEMP s))
      let was := r.u.thm.near.contains s
      let r := r.thm fun h => { h with near := if high then s :: h.near.filter (· != s) else h.near.filter (· != s) }
      r.when (high && !was) fun r => r.ev 500
    let r := r.when (r.drivers.any fun s => r.rateReached s 1 && !rate1.contains s) fun r => r.ev 498
    let r := r.leveeRise
    let calm := r.leveeCalm
    let r := r.thm fun h => { h with calm := if calm then h.calm + 1 else 0 }
    (r.each (List.range 16) fun c r =>
      match r.u.thm.trained.find c with
      | some t => if 40 < (r.phyTemp c - t).natAbs then r.retrainDue c else r
      | none => r).retrainNext

/-- THM reads every sensor (R403). -/
def execThermalReading (readings : List (Option Int)) (s : State) : Host.Outcome State Fault Refusal := done s fun r => r.thermalReading readings

/-- The levee falls one level after 100 ms below its thresholds, which 101 readings bound (R405). -/
def execLeveeFall (s : State) : Host.Outcome State Fault Refusal :=
  done s fun r => if r.rd THM_STATUS_LEVEE ≠ 0 ∧ 100 < r.u.thm.calm ∧ r.duty 3 = true then r.leveeSet (r.rd THM_STATUS_LEVEE - 1) else r

/-! ## Warden cores (R400) -/

/-- A warden core is faulty: it is halted and retired; a second fault while a core is a cofferdam triggers the firmware
watchdog. -/
def Run.coreFault (r : Run s₀) (k : Nat) : Run s₀ :=
  if r.coreHalted k then r
  else
    let second := r.on EVT_COFFERDAM_UNITS_W
    let r := r.breach { type := 14, index := k, cls := 2, action := 6, event := 20 }
    let r := (r.cofferdam 14 k).evt fun e => { e with failing := k :: e.failing }
    r.when second fun r => r.glb fun g => { g with watchdogDue := true }

/-- A warden core's watchdog runs out (R400). -/
def execWardenWatchdog (k : Fin 4) (s : State) : Host.Outcome State Fault Refusal := done s fun r => r.coreFault k

/-- A warden core reads an uncorrectable error or traps an access (R400). -/
def execWardenFault (k : Fin 4) (s : State) : Host.Outcome State Fault Refusal := done s fun r => r.coreFault k

/-- The duties of a halted core resume on its partner: what W_1's and W_3's duties have left undone meanwhile is done now (R400). -/
def Run.wardenFailover (r : Run s₀) (k : Nat) : Run s₀ :=
  if r.u.evt.failing.contains k then
    let r := (r.evt fun e => { e with failing := e.failing.filter (· != k) }).ev 20
    (r.when (k == 3) fun r => r.leveeRise).when (k == 1) fun r => r.recAdvance
  else r

/-! ## Internal faults (R395) -/

/-- The decoder core suffers an internal fault: the picture in progress is concealed; a retired core decodes no more (R235, R395,
Table 15-2). -/
def Run.decFault (r : Run s₀) (au : Option (Nat × DecPic)) : Run s₀ :=
  if r.isCofferdam 9 0 || r.isResetting 9 0 then r
  else
    let r := match au with
      | some (n, p) => r.decoded n p true
      | none => r
    let x := r.internalFault 9 0
    x.2.when (x.1 && x.2.on DEC_STATUS_RUNNING) fun r => r.decStopped 0

/-- An internal fault in PAK, an encoder core or the decoder core (R395). -/
def execInternalFault (f : CoreFault) (s : State) : Host.Outcome State Fault Refusal :=
  done s fun r => match f with
    | .pak => r.pakFault.recAdvance
    | .enc n => r.encFault n
    | .dec au => r.decFault au

/-- TYPE and INDEX of a unit (Table 15-2). -/
def faultKey : FaultUnit → Nat × Nat
  | .ce n => (6, n)
  | .pak => (7, 0)
  | .enc n => (8, n)
  | .dec => (9, 0)

/-- A unit completes its reset after a transient internal fault (R395). -/
def execInternalFaultResetDone (u : FaultUnit) (s : State) : Host.Outcome State Fault Refusal :=
  done s fun r =>
    let k := faultKey u
    if r.isResetting k.1 k.2 then
      let r := r.evt fun e => { e with resetting := e.resetting.filter (· != k.1 * 16 + k.2) }
      if k.1 = 6 then ((List.range 16).foldl (fun r c => if r.on (PIX_CTX_CFG_INTERPRET c) then r.pixSync c else r) r).grants else r
    else r

/-! ## The event registers (R6, R408, R409) -/

/-- The EVENT_OUT pins that the sources of word k with bits `m` drive. -/
def Run.pinsOf (r : Run s₀) (k m : Nat) : Nat :=
  ((List.range 32).filter (bit m)).foldl (fun a j => a ||| r.rd (EVT_ROUTE_PIN (32 * k + j))) 0

/-- A write of EVT_ENABLE_k: a source that is enabled while its status bit is 1 delivers (R408). -/
def Run.writeEnable (r : Run s₀) (k v : Nat) : Run s₀ :=
  let old := r.rd (EVT_ENABLE k)
  let v := v % 2 ^ 32
  let r := r.wr (EVT_ENABLE k) v
  let r := r.each ((List.range 32).filter fun j => bit v j && !bit old j && bit (r.rd (EVT_STATUS k)) j) fun j r => r.deliver (32 * k + j)
  r.eventPins (r.pinsOf k (old &&& (v ^^^ 0xFFFFFFFF)))

/-- A write of EVT_ENABLE_k (R408). -/
def execEvtEnable (k : Fin 16) (v : Nat) (s : State) : Host.Outcome State Fault Refusal := done s fun r => r.writeEnable k v

/-- A W1C write of EVT_STATUS_k (R6, R408). -/
def Run.clearStatus (r : Run s₀) (k v : Nat) : Run s₀ :=
  let m := v % 2 ^ 32 &&& r.rd (EVT_STATUS k)
  let again := r.setNow.filterMap fun x => if x.2 && (EVT_STATUS k).key ≤ x.1 && x.1 < (EVT_STATUS k).key + 32 && bit m (x.1 - (EVT_STATUS k).key)
    then some (32 * k + (x.1 - (EVT_STATUS k).key)) else none
  let r := (r.w1c (EVT_STATUS k) m).eventPins (r.pinsOf k m)
  r.each again fun e r => r.when (r.evEnabled e) fun r => r.deliver e

/-- A W1C write of EVT_STATUS_k (R408). -/
def execEvtStatusClear (k : Fin 16) (v : Nat) (s : State) : Host.Outcome State Fault Refusal := done s fun r => r.clearStatus k v

/-- A write of EVT_INJECT with GO: the status of an event is set as an occurrence (R408). -/
def execEvtInject (e : Fin 512) (s : State) : Host.Outcome State Fault Refusal := done s fun r => r.occur e

/-- The toggle of an event is acknowledged in its source's clock domain (R409). -/
def execEventCrossingAck (e : Fin 512) (s : State) : Host.Outcome State Fault Refusal :=
  done s fun r => r.evt fun t => { t with crossing := t.crossing.filter (· != e.val) }

end Sys2Proof.Machine
end

