-- ==== Sys2Proof/Machine/RegWrite.lean ====
section
/-!
DEFINITION. What a write of a unit's register does besides storing its fields: ranges that the chapters give a field, and the
actions that a field starts (R3, R4, R365, R375, R219, R231, R234, R260, R343, R360 and the register tables). The registers of
GLB's resets, CLK, QIF and MON stand in Machine/HostBus.lean.
-/
namespace Sys2Proof.Machine
variable {s₀ : State}

/-- The write of the fields of a register that lie in bits `lo` to `lo + n - 1`; a field that `bad` names keeps its value, and a
write that names one raises event 9. -/
def Run.writeBut (r : Run s₀) (h : Hit) (lo n v : Nat) (bad : List Fld) : Run s₀ :=
  let r := r.each (h.fields.filter fun x => lo ≤ x.1.lo && x.1.lo < lo + n && !bad.contains x.1) fun x r =>
    r.writeField x.1 x.2.1 x.2.2 (bits v (x.1.lo - lo) x.1.w)
  r.when (!bad.isEmpty) Run.ignored

/-- Those of a list of fields whose condition holds. -/
def badFields (l : List (Bool × Fld)) : List Fld := (l.filter Prod.fst).map Prod.snd

/-- A write of GLB's board I/O registers (R65 to R69). A write of RX_THRESH 0 or above 256 is stored as written: R69 does not say what
it does (DESIGN CHOICE, assumption 37). -/
def Run.writeBoard (r : Run s₀) (h : Hit) (lo n v : Nat) : Run s₀ :=
  let i := h.i
  match h.reg.name with
  | "GLB_GPIO_DIR" => r.writeGpio GLB_GPIO_DIR_DIR v
  | "GLB_GPIO_OUT" => r.writeGpio GLB_GPIO_OUT_OUT v
  | "GLB_GPIO_FUNC" => r.writeGpio GLB_GPIO_FUNC_EVOUT v
  | "GLB_SMCLK_CTL" => r.writeSmclk i v
  | "GLB_I3C_CTL" => r.writeI3cCtl i v
  | "GLB_I3C_CMD" => if bit v 31 then r.i3cGo i (bits v 27 4) (bits v 16 7) (bits v 8 8) (bits v 0 7) else r
  | "GLB_UART_CTL" => r.writeUartCtl i v
  | "GLB_UART_TXDATA" => r.uartTx i (BitVec.ofNat 8 v)
  | _ => r.writeFields h lo n v

/-- A write of a register of EVT or THM (R408, R410, Table 15-14). -/
def Run.writeEvt (r : Run s₀) (h : Hit) (lo n v : Nat) : Run s₀ :=
  let i := h.i
  match h.reg.name with
  | "EVT_STATUS" => r.clearStatus i v
  | "EVT_ENABLE" => r.writeEnable i v
  | "EVT_INJECT" => if bit v 31 then r.occur (bits v 0 9) else r
  | "EVT_ROUTE" => r.setRoute i v
  | "THM_LEVEE" => r.writeBut h lo n v (badFields [(520 < signed 16 (bits v 0 16), THM_LEVEE_T_UP i)])
  | _ => r.writeFields h lo n v

/-- A write of a register of TIM, NET or AUD (R365, R367, R374 to R376, R385, Tables 14-9 and 14-10). -/
def Run.writeTime (r : Run s₀) (h : Hit) (lo n v : Nat) : Run s₀ :=
  let i := h.i
  match h.reg.name with
  | "TIM_TB_CTL" =>
    let r := r.writeBut h lo n v (badFields [(bits v 8 8 = 0, TIM_TB_CTL_TAU i)])
    (r.updateEff i).servoEnable i
  | "TIM_TB_INCR" => r.writeIncr i v
  | "TIM_TB_STEP" => r.writeStep i v
  | "TIM_TSEL_CTL" =>
    let r := r.writeBut h lo n v (badFields [(bits v 12 18 = 0 || 171798 < bits v 12 18, TIM_TSEL_CTL_SLEW)])
    let r := r.writeSrc (bits v 0 2)
    let r := r.when (bit v 31) Run.resyncTsel
    r.when (bit v 30) Run.establish
  | "TIM_SNAP" => if bit v 0 then r.snapTime else r
  | "TIM_COMP_CTL" => r.writeBut h lo n v (badFields [(27 < bits v 0 5, TIM_COMP_CTL_SENSOR)])
  | "NET_PTP_CFG" =>
    if (bit v 10 && !r.feature 17) || (i == 1 && !r.feature 7) then r.ignored
    else
      let was := r.on (NET_PTP_CFG_EN i)
      let r := r.writeFields h lo n v
      let port := r.rd (NET_PTP_CFG_PORT i)
      r.when (!was && r.on (NET_ETH_STATUS_LINK port)) fun r => r.igmpReport port
  | "AUD_CTL" =>
    let r := r.when (bit v 0) fun r => r.auStart i
    r.when (bit v 1) fun r => r.auStop i
  | "AUD_WR" => r.wr (AUD_WR i) v
  | _ => r.writeFields h lo n v

/-- A write of a register of LNK or ITK (R84, R90, R95 to R97, R119). -/
def Run.writeLink (r : Run s₀) (h : Hit) (lo n v : Nat) : Run s₀ :=
  let i := h.i
  match h.reg.name with
  | "LNK_CTL" => r.writeBut h lo n v (badFields [(bits v 16 10 = 0, LNK_CTL_TRAIN_TIMEOUT i)])
  | "LNK_ALIGN" =>
    let st := r.laneState i
    let r := r.writeBut h lo n v (badFields [(bits v 0 1 != r.rd (LNK_ALIGN_COMMA_EN i) && st != 2 && st != 6, LNK_ALIGN_COMMA_EN i)])
    let r := r.when (bit v 1) fun r => r.bitslip i
    r.when (bit v 2) fun r => r.writeAccept i
  | "LNK_TRAIN" => (r.writeFields h lo n v).when (bit v 0) fun r => r.writeRetrain i
  | "LNK_LOOP" => r.writeLoop i v
  | "LNK_PRBS_CTL" => r.writePrbs i v
  | "LNK_EYE_CTL" => (r.writeFields h lo n v).when (bit v 31) fun r => r.eyeStart i
  | "ITK_BND_CTL" => if bit v 0 then r.writeRestart i else r
  | "ITK_VS_SET_CTL" => (r.writeFields h lo n v).when (bit v 16) fun r => r.setGo i
  | _ => r.writeFields h lo n v

/-- The encoder's registers of a sequence, RW only while STATE is 0 (R219). -/
def encSeqNames : List String := ["ENC_SEQ", "ENC_GOP", "ENC_RATE", "ENC_CPB", "ENC_INIT_DELAY", "ENC_FPS"]

/-- A write of a register of VFD or COD (R207, R209, R212, R219, R231, R234). -/
def Run.writeCodec (r : Run s₀) (h : Hit) (lo n v : Nat) : Run s₀ :=
  let i := h.i
  if encSeqNames.contains h.reg.name then (if r.on (ENC_STATUS_STATE i) then r.ignored else r.writeFields h lo n v)
  else match h.reg.name with
  | "VFD_CTL" =>
    let r := r.writeBut h lo n v (badFields [(bits v 16 8 = 0, VFD_CTL_TE_TIMEOUT i), (bits v 8 8 < 10, VFD_CTL_WAKE i)])
    r.when (bit v 31) fun r => (r.dirtyAll i).vfWake i
  | "VFD_CMD_CTL" =>
    if bit v 31 && r.on (VFD_CMD_CTL_BUSY i) then r.ignored
    else (r.writeFields h lo n v).when (bit v 31) fun r => r.cmdGo i
  | "ENC_CTL" =>
    let r := r.when (bit v 0) fun r => r.encOpen i
    r.when (bit v 1) fun r => r.encClose i
  | "ENC_OUT_RD" => r.encOutRd i v
  | "DEC_CTL" =>
    let r := r.writeBut h lo n v (badFields [(bits v 16 8 = 0, DEC_CTL_IN_TIMEOUT)])
    let r := r.when (bit v 0) Run.decStart
    r.when (bit v 1) fun r => r.decStopAfter 0
  | "DEC_IN_WR" => r.decInWr v
  | _ => r.writeFields h lo n v

/-- A write of a register of PIX, MAG, DMA or MEM (R167, R259, R260, R267, R341, R343, R357, R360, Table 10-12). -/
def Run.writeCore (r : Run s₀) (h : Hit) (lo n v : Nat) : Run s₀ :=
  let i := h.i
  match h.reg.name with
  | "PIX_TBL_CTL" => (r.writeFields h lo n v).when (bit v 31) Run.tblGo
  | "MAG_CTL" =>
    let r := r.writeBut h lo n v (badFields [(bits v 16 8 = 0, MAG_CTL_RESERVE)])
    let r := ((r.magCheck 0).magCheck 1).fullCheck
    r.when (bit v 2) Run.changeNow
  | "DMA_CTL" =>
    let r := r.writeFields h lo n v
    let r := r.when (bit v 0) fun r => r.dmaGo i
    r.when (bit v 1) fun r => r.dmaHalt i 7 []
  | "DMA_PC" => if r.dmaBusy i then r.ignored else r.writeFields h lo n v
  | "DMA_SEM" => r.semAdd i (v % 65536)
  | "MEM_NRR" => r.writeBut h lo n v (badFields [(bits v 0 16 < 16, MEM_NRR_PROB)])
  | "MEM_RETRAIN" => r.writeRetrainReq v
  | "GLB_TIDE_COMMIT" => r.tideCommit v
  | _ => r.writeFields h lo n v

/-- The write of `n` bits of a unit's register from bit `lo` on. -/
def Run.writeUnit (r : Run s₀) (h : Hit) (lo n v : Nat) : Run s₀ :=
  let b := h.reg.base
  if b < 0x100000 then (if 0x1000 ≤ b then r.writeBoard h lo n v else r.writeCore h lo n v)
  else if b < 0x400000 then r.writeEvt h lo n v
  else if b < 0x500000 || 0x1800000 ≤ b then r.writeTime h lo n v
  else if b < 0xA00000 then r.writeLink h lo n v
  else if 0xD00000 ≤ b && b < 0x1200000 then r.writeCodec h lo n v
  else r.writeCore h lo n v

/-! ## Reads -/

/-- Bits of a register that a read computes, or of its fields (R2, R4, R66, R69, R369, R377). -/
def Run.readHit (r : Run s₀) (h : Hit) (lo n : Nat) : Nat :=
  match h.reg.name with
  | "GLB_GPIO_IN" => bits r.gpioIn lo n
  | "GLB_UART_RXDATA" => bits (r.rxValue h.i) lo n
  | "TIM_TC_NOW" => bits r.timecode lo n
  | "NET_ETH_MAC" => bits (Config.fuseMac h.i % 2 ^ 48) lo n
  | _ => h.read r.rd lo n

/-- What a read does besides: RC fields clear, and a read of IBI_DATA or RXDATA takes what it returned (Table 00-2, R68, R69). -/
def Run.readDone (r : Run s₀) (h : Hit) (lo n : Nat) : Run s₀ :=
  match h.reg.name with
  | "GLB_I3C_IBI_DATA" => r.ibiTaken h.i
  | "GLB_UART_RXDATA" => r.rxTaken h.i
  | _ => r.clearOnRead h lo n

end Sys2Proof.Machine
end

