-- ==== Sys2Proof/Machine/Weave.lean ====
section
/-!
DEFINITION. The weave: what a woven bit-stream sets in every unit (Table 02-13, R49 to R51, R56, and the weave rules of the
chapters), and what starts at its end.
-/
namespace Sys2Proof.Machine
variable {s₀ : State}

/-! ## Mode, polders, routes, PRESET -/

/-- RATE_CEIL of GLB_MODE (Table 01-7), for the mode whose ceiling applies (R33). -/
def rateCeil (mode : Nat) (dual : Bool) : Nat :=
  let c := match mode with | 0 => 3200 | 1 => 1778 | 2 => 2000 | _ => 1000
  if dual then min c 2014 else c

/-- GLB_MODE and GLB_NARRIC_ID show the bit-stream in force (Tables 01-7, 02-13, R48). -/
def Run.modeWeave (r : Run s₀) : Run s₀ :=
  let m := field r.u.glb.woven 0xC 4
  let r := (r.wr GLB_MODE_VALID 1).wr GLB_MODE_RATE_CEIL (rateCeil (effMode (bits m 0 2) (bit m 2)) (bit m 3))
  let r := ((r.wr GLB_MODE_DUAL_MAG (bits m 3 1)).wr GLB_MODE_ROLE (bits m 2 1)).wr GLB_MODE_MODE (bits m 0 2)
  r.wr GLB_NARRIC_ID_STREAM_ID r.u.glb.streamId

/-- No bit-stream is woven (R45, R46). -/
def Run.modeNone (r : Run s₀) : Run s₀ :=
  let r := (r.wr GLB_MODE_VALID 0).wr GLB_MODE_RATE_CEIL 0
  let r := ((r.wr GLB_MODE_DUAL_MAG 0).wr GLB_MODE_ROLE 0).wr GLB_MODE_MODE 0
  (r.wr GLB_NARRIC_ID_STREAM_ID 0).glb fun g => { g with woven := [], cfg := [], streamId := 0 }

/-- MEM_POLDER_p of every polder (R347, Table 13-11). -/
def Run.polderWeave (r : Run s₀) : Run s₀ :=
  r.each (List.range 32) fun p r =>
    let f := r.cfgN 0x0D01 p
    let r := ((r.wr (MEM_POLDER_BASE p) (f 8 8)).wr (MEM_POLDER_SIZE p) (f 0x10 8)).wr (MEM_POLDER_RIGHTS_READ p) (f 0x18 2)
    let r := (r.wr (MEM_POLDER_RIGHTS_WRITE p) (f 0x1A 2)).wr (MEM_POLDER_BAR2_VALID p) (b2n (r.hasCfg 0x0D01 p))
    let r := (r.wr (MEM_POLDER_BAR2_ECC p) (bits (f 0x1C 1) 0 1)).wr (MEM_POLDER_BAR2_EXPOSE p) (bits (f 0x1C 1) 1 1)
    r.wr (MEM_POLDER_BAR2_OFF p) (f 0x20 8 / 4096)

/-- The bank masks. A change leaves the content of every polder undefined: its bytes are as bytes that nothing has written
(R337, assumption 1). -/
def Run.maskWeave (r : Run s₀) : Run s₀ :=
  let mask := fun i => if r.hasCfg 0x0D02 0 then r.cfgN 0x0D02 0 (8 + 4 * i) 4 else (MEM_XOR_MASK i).rst
  let changed := (List.range 4).any fun i => mask i != r.rd (MEM_XOR_MASK i)
  let r := r.each (List.range 4) fun i r => r.wr (MEM_XOR_MASK i) (mask i)
  r.when changed fun r => r.clearMem.memu fun m => { m with poison := [] }

/-- The enables and routes of the bit-stream; a group without a record is disabled, with its routes 0 (R410). -/
def Run.routesLoad (r : Run s₀) : Run s₀ :=
  let r := r.each (List.range 512) fun e r =>
    let v := r.cfgN 0x0F01 (e / 32) (0x10 + 4 * (e % 32)) 4
    let r := ((r.wr (EVT_ROUTE_VECTOR e) (bits v 0 6)).wr (EVT_ROUTE_MSIX e) (bits v 6 1)).wr (EVT_ROUTE_WARDEN e) (bits v 8 4)
    r.wr (EVT_ROUTE_PIN e) (bits v 12 4)
  let r := r.each (List.range 16) fun k r => r.writeEnable k (r.cfgN 0x0F01 k 8 4)
  r.eventPins 15

/-- A PRESET record: (old AND NOT mask) OR (value AND mask) is written, and SH fields become active at once (R51). -/
def Run.preset (r : Run s₀) (c : CfgRec) : Run s₀ :=
  match locate regTable (c.n 8 4) with
  | none => r
  | some h =>
    let lo := h.r * 8
    let mask := c.n 0xC 4
    let old := h.read r.rd lo 32 &&& presetBits regTable (c.n 8 4)
    let r := r.writeUnit h lo 32 ((old &&& (mask ^^^ 0xFFFFFFFF)) ||| (c.n 0x10 4 &&& mask))
    r.each (h.fields.filter fun x => x.2.1 = .sh && lo ≤ x.1.lo && x.1.lo < lo + 32) fun x r => r.wrA x.1 (r.rd x.1)

/-! ## Units -/

/-- The DMA region takes the programs; every channel is IDLE and every semaphore 0 (R354, R357, R360). A channel of a DMACH
record has its PC at START in SRAM (DEDUCED, assumption 23). -/
def Run.dmaWeave (r : Run s₀) : Run s₀ :=
  let r := r.dma fun _ => {}
  let r := r.each (r.u.glb.cfg.filter fun c => c.type == 0x0D03) fun c r => r.sramStore (c.n 8 4) (c.body.drop 0x10)
  let r := r.each (List.range 64) fun s r => r.wr (DMA_SEM_COUNT s) 0
  let r := r.each (List.range 32) fun n r => ((r.wr (DMA_STATUS_STATE n) 0).wr (DMA_STATUS_INFLIGHT n) 0).wr (DMA_STATUS_SEM_WAIT n) 0
  r.each (r.cfgIdx 0x0D04) fun n r => (r.wr (DMA_PC_ADDR n) (r.cfgN 0x0D04 n 8 4)).wr (DMA_CTL_PSPACE n) 0

/-- AUD_AU_p_MASK takes MAP (R384). The media frames of a clip still to be rescued are kept. -/
def Run.audioWeave (r : Run s₀) : Run s₀ :=
  let held := !r.u.magu.segs.isEmpty
  let r := r.tim fun t => { t with au := if held then t.au.map fun a => (a.1, { media := a.2.media, gaps := a.2.gaps }) else [] }
  r.each (r.cfgIdx 0x0E01) fun p r => r.wrBoth (AUD_MASK p) (r.cfgN 0x0E01 p 0x18 4)

/-- LOOP_m of every marker port is measured (R371). -/
def Run.loopMeasure (r : Run s₀) : Run s₀ := r.each (List.range 52) fun m r => r.free 32 fun v r => r.wr (TIM_PORT_LOOP m) v

/-- MAG takes the rings of the bit-stream; drives and hops go on, and magazines are identified anew (R240, R247, R267). -/
def Run.magWeave (r : Run s₀) : Run s₀ :=
  let r := r.each (List.range 4) fun k r =>
    let r := ((r.wr (MAG_RING_STATUS_K k) 0).wr (MAG_RING_STATUS_M k) 0).wr (MAG_RING_STATUS_MAG k) 0
    let r := ((r.wr (MAG_RING_STATUS_STATE k) 0).wr (MAG_RING_STATUS_LOST_COUNT k) 0).wr (MAG_RING_LOST_LOST k) 0
    r.wr (MAG_RING_STRIPES_COUNT k) 0
  let r := r.each (List.range 64) fun d r => ((r.wr (MAG_DRV_STATUS_MEMBER d) 0).wr (MAG_DRV_STATUS_RING d) 0).wr (MAG_DRV_STATUS_SLOT d) 0
  let r := r.each (List.range 16) fun l r => r.wr (MAG_LINK_STATUS_CHAIN l) (r.chain l)
  let r := r.mag fun m => { m with mag := [], prerolls := [], recent := [] }
  r.each [0, 1] fun m r =>
    let geo := if r.reader then [] else r.cfgGeo m
    ((r.magzMod m fun z => { z with geo := geo }).each geo fun g r => r.ringRegs m g).magSync m

/-- Contexts and engines: what no CTX record names is 0, retired engines return, statistics count from 1 again (R139, R171). -/
def Run.ctxWeave (r : Run s₀) : Run s₀ :=
  let r := r.each (List.range 16) fun c r =>
    let r := ((r.wr (PIX_CTX_CFG_SPLIT16 c) 0).wr (PIX_CTX_CFG_BAND8 c) 0).wr (PIX_CTX_CFG_ENGINE c) 0
    let r := ((r.wr (PIX_CTX_CFG_INTERPRET c) 0).wr (PIX_CTX_CFG_PAIRED c) 0).wr (PIX_CTX_CFG_FRAME_MODE c) 0
    (r.wr (PIX_CTX_CFG_RECORDED c) 0).wr (PIX_CTX_STATS_SEQ_SEQ c) 0
  let r := (r.each [0, 1] fun n r => r.wr (PIX_CE_STATUS_RETIRED n) 0).pixWeave
  r.each (List.range 16) fun c r => r.pixSync c

/-- Outlets: nothing is published, and each uses the SCALER of its record (R172, R177; DEDUCED, assumption 24). -/
def Run.outletsWeave (r : Run s₀) : Run s₀ :=
  let r := r.mod fun u => { u with out := [], slu := {}, fed := [] }
  let r := r.each (List.range 24) fun o r =>
    let r := ((r.wr (OUT_STATUS_HELD o) 0).wr (OUT_STATUS_WRITING o) 0).wr (OUT_STATUS_BUSY o) 0
    let r := ((r.wr (OUT_STATUS_PUBLISHED o) 0).wr (OUT_PUB_FN o) 0).wr (OUT_PUB_IDX o) 0
    r.when (r.hasCfg 0x0701 o) fun r => r.wrBoth (OUT_CTL_SCALER o) (r.olN o 0x13 1)
  r.each (List.range 3) fun g r => ((r.wr (FED_STATUS_RETIRED g) 0).wr (FED_STATUS_REPEATING g) 0).fedSync g

/-- Composers and links: no composition, no held buffer (R198, R213). -/
def Run.composersWeave (r : Run s₀) : Run s₀ :=
  let r := r.each (List.range 4) fun n r =>
    let r := ((r.wr (CMP_STATUS_COMPOSING n) 0).wr (CMP_STATUS_HELD_V0 n) 0).wr (CMP_STATUS_HELD_V1 n) 0
    (r.wr (CMP_STATUS_HOLD_V0 n) 0).wr (CMP_STATUS_HOLD_V1 n) 0
  (r.each [0, 1] fun n r => r.wr (VFD_STATUS_PUSHING n) 0).cmpWeave

/-- Encoders and the decoder: no sequence is open. A ring whose record changed is empty (DEDUCED, assumption 25). `old` is what
was woven before. -/
def Run.codecsWeave (r : Run s₀) (old : List CfgRec) : Run s₀ :=
  let r := r.mod fun u => { u with enc := [], dec := {} }
  let r := r.each [0, 1] fun n r =>
    let r := (r.wr (ENC_STATUS_STATE n) 0).wr (ENC_STATUS_CODING n) 0
    r.when (findRec old 0x0901 n != findRec r.u.glb.cfg 0x0901 n) fun r => (r.wr (ENC_OUT_WR_WR n) 0).wr (ENC_OUT_RD_RD n) 0
  let r := r.wr DEC_STATUS_RUNNING 0
  r.when (findRec old 0x0902 0 != findRec r.u.glb.cfg 0x0902 0) fun r => (r.wr DEC_IN_WR_WR 0).wr DEC_IN_RD_RD 0

/-! ## The weave -/

/-- The bit-stream in `glb.woven` and `glb.cfg` is woven, `old` being the records woven before. Cofferdams of lanes and engines
end (R394), pending snapshots are discarded (R145), handles are lost (R313), and only frames of a clip keep their slots. -/
def Run.weave (r : Run s₀) (old : List CfgRec) : Run s₀ :=
  let r := r.modeWeave.endCofferdams fun t => List.contains [1, 2, 3, 6] t
  let r := (r.dropSnaps fun _ => true).mod fun u => { u with frames := u.frames.filter IFrame.inClip }
  let r := r.qif fun q => { q with handles := [], jobs := [], rebuild := none }
  let r := r.polderWeave.maskWeave.dmaWeave.loopMeasure
  let r := (r.lanesWeave.magWeave.ctxWeave.outletsWeave.composersWeave.codecsWeave old).audioWeave
  let r := r.itkWeave.pakSync.routesLoad
  r.each (r.u.glb.cfg.filter fun c => c.type == 0x0201) fun c r => r.preset c

/-- A checked bit-stream takes the place of the woven one, and is woven. -/
def Run.weaveNew (r : Run s₀) (b : List Byte) (cfg : List CfgRec) : Run s₀ :=
  let old := r.u.glb.cfg
  (r.glb fun g => { g with woven := b.take (totalLen b), cfg := cfg, streamId := field b 0x20 8 }).weave old

/-- What starts at the end of a weave: lanes leave OFF, viewfinder links power up, DMA channels and audio ports with AUTOSTART
start (R56, R213, R354, R385). -/
def Run.weaveEnd (r : Run s₀) : Run s₀ :=
  let r := r.lanesStart.linksUp
  let r := r.each ((r.cfgIdx 0x0D04).filter fun n => bit (r.cfgN 0x0D04 n 0xC 4) 0) fun n r =>
    r.when (!r.dmaBusy n) fun r => r.dmaStart n (r.cfgN 0x0D04 n 8 4)
  r.each ((r.cfgIdx 0x0E01).filter fun p => r.auBit p 7) fun p r => r.when (r.rd (AUD_STATUS_STATE p) == 0) fun r => r.auStart p

end Sys2Proof.Machine
end

