-- ==== Sys2Proof/Machine/Reset.lean ====
section
/-!
DEFINITION. The chip-level resets: power-on, cold and warm, their triggers and what each keeps (R39 to R42, R407, R429, R432,
R433, Tables 02-3 to 02-7), and the steps of the warm-reset sequence.
-/
namespace Sys2Proof.Machine
variable {s₀ : State}

/-! ## Power-on and cold reset -/

/-- A register's key lies in one of the byte ranges (first, bytes). -/
def inRanges (l : List (Nat × Nat)) (k : Nat) : Bool := l.any fun p => p.1 ≤ k / 8 && k / 8 < p.1 + p.2

/-- What a cold reset keeps: CLK, GLB_RESET_CAUSE, the SMBus target, and the levels of the GPIO balls (Table 02-3, R65, R70). -/
def coldKeeps (k : Nat) : Bool := inRanges [(0x24, 4), (0x1008, 4), (0x1C00, 8), (0x200000, 8)] k

/-- The balls of GLB follow a reset of their registers: what was driven is released, master clocks stop (R66, R67). -/
def Run.pinsDrop (r : Run s₀) : Run s₀ :=
  let r := r.each ((List.range 16).filter fun n => (r.gpioDrive n).isSome) fun n r => r.emit (.released ("GPIO_" ++ toString n))
  r.each ((List.range 8).filter fun n => r.on (GLB_SMCLK_CTL_EN n)) fun n r => r.emit (.smclk n none)

/-- GLB_FEAT_DEV_0 offers F8 while a customer key is enrolled (R59, R64). -/
def Run.featOffer (r : Run s₀) : Run s₀ :=
  r.wr (GLB_FEAT_DEV_FEAT 0) (if r.u.glb.keys.any fun e => e.2.state == .enrolled then 0x00FFFFFF else 0x00FFFEFF)

/-- The global unit after a power-on reset: keys, SEC_VER_MIN and the levels of the reset pins stay. -/
def Glb.cleared (g : Glb) : Glb :=
  { keys := g.keys, secVerMin := g.secVerMin, resetN := g.resetN, perstHigh := g.perstHigh }

/-- A power-on reset: the whole device (Table 02-3). It holds until the rails are good (R429). -/
def Run.powerOn (r : Run s₀) : Run s₀ :=
  let r := (r.pinsDrop.keepRegs fun k => inRanges [(0x1008, 4)] k).clearMem
  (r.mod fun u => { glb := u.glb.cleared }).featOffer

/-- A cold reset begins: the whole device but CLK and GLB_RESET_CAUSE; DRAM loses its contents (Table 02-3). A rescue that was
pending is abandoned (R42). Sensing and the trip go on (R407), and the SMBus target is not reset (R70). -/
def Run.coldReset (r : Run s₀) (cause : Fld) : Run s₀ :=
  let r := (r.hwSet cause 1).wr GLB_RESET_CAUSE_CLIP_RESCUE_PENDING 0
  let was := r.on GLB_BOOT_STATUS_READY
  let r := (r.pinsDrop.keepRegs coldKeeps).clearMem
  let r := r.mod fun u =>
    let g := u.glb
    { glb := { g.cleared with
        railsGood := g.railsGood, smbReleased := g.smbReleased, smbLow := g.smbLow, refSwitching := g.refSwitching }
      thm := { trip := u.thm.trip, cool := u.thm.cool, near := u.thm.near } }
  r.featOffer.when was fun r => r.smbCond 3

/-- A reset ends: the straps are sampled and the ROM waits for the root PLL (R43, R45). The straps are BOOT_SEL_1 and BOOT_SEL_0
in bits 1 and 0, DRAM_SEL in bit 2. -/
def Run.bootStart (r : Run s₀) (straps : Nat) : Run s₀ :=
  let r := (r.wr GLB_BOOT_STATUS_BOOT_SEL (bits straps 0 2)).wr GLB_BOOT_STATUS_STAGE 0
  r.glb fun g => { g with phase := .pll, dramFast := bit straps 2 }

/-- A supply rises through its threshold, or a rail is low (R39, R429). -/
def execPowerOnReset (s : State) : Host.Outcome State Fault Refusal := done s Run.powerOn

/-- The power-on reset ends; the device waits for RESET_N to be high (R429). -/
def execPorRelease (straps : Fin 8) (s : State) : Host.Outcome State Fault Refusal :=
  done s fun r =>
    if r.u.glb.railsGood then r
    else
      let r := r.glb fun g => { g with railsGood := true }
      r.when (r.u.glb.resetN && r.u.glb.phase == .held) fun r => r.bootStart straps.val

/-- RESET_N has been low for `ns` nanoseconds: a cold reset from 1 µs on, nothing below 0.5 µs, and between them either, which
the manual leaves open (R432, assumption 4). -/
def execResetNAssert (ns : Nat) (s : State) : Host.Outcome State Fault Refusal :=
  done s fun r =>
    let act := fun (r : Run s) => (r.coldReset GLB_RESET_CAUSE_PIN).glb fun g => { g with resetN := false }
    if !r.u.glb.resetN || ns < 500 then r
    else if 1000 ≤ ns then act r
    else r.free 1 fun v r => if v = 0 then r else act r

/-- RESET_N rises, which ends a cold reset and lets a power-on reset end; it stands too for the end of a cold reset of
GLB_RESET_CTL (R43, R45). A thermal trip holds the reset (R407). -/
def execResetNRise (straps : Fin 8) (s : State) : Host.Outcome State Fault Refusal :=
  done s fun r =>
    let r := r.glb fun g => { g with resetN := true }
    r.when (r.u.glb.phase == .held && r.u.glb.railsGood && !r.u.thm.trip) fun r => r.bootStart straps.val

/-- THERM_TRIP_N falls: an on-die reading is at or above 135.00 °C (R407). -/
def execThermalTrip (s : State) : Host.Outcome State Fault Refusal :=
  done s fun r =>
    let hot := (List.range 24).any fun k => !r.sensorRetired k && decide (540 ≤ r.rdS (THM_TS_TEMP k))
    if !hot || r.u.thm.trip then r
    else
      let r := r.thm fun h => { h with trip := true, cool := 0 }
      (r.coldReset GLB_RESET_CAUSE_THERM_TRIP).emit (.pin "THERM_TRIP_N" false)

/-- Every unretired on-die sensor has read below 120.00 °C for 100 ms: the trip and its reset end (R407). -/
def execTripRelease (straps : Fin 8) (s : State) : Host.Outcome State Fault Refusal :=
  done s fun r =>
    if !r.u.thm.trip || r.u.thm.cool ≤ 100 then r
    else
      let r := (r.thm fun h => { h with trip := false }).emit (.pin "THERM_TRIP_N" true)
      r.when (r.u.glb.phase == .held && r.u.glb.railsGood && r.u.glb.resetN) fun r => r.bootStart straps.val

/-! ## Warm reset: trigger -/

/-- Frames whose FE has not been received are discarded (Table 02-5). -/
def Run.openDrop (r : Run s₀) : Run s₀ :=
  r.each (List.range 16) fun v r =>
    match r.openFrame v with
    | some f => (r.closeFrame v).dropFrame f.sn
    | none => r

/-- The open clip becomes the clip to rescue: each of its segments that is to be sealed stops now, unless its manifest is already laid
(R41, R281). -/
def Run.clipFreeze (r : Run s₀) : Run s₀ :=
  let st := r.rd MAG_REC_STATUS_STATE
  let r := r.when (st == 2 || st == 3) fun r =>
    let t := r.tselQ
    let r := r.mag fun m => { m with segs := m.segs.map fun s =>
      if s.manifest.isSome || s.dead then s else { s with stop := some t, rescued := true } }
    r.wr GLB_RESET_CAUSE_CLIP_RESCUE_PENDING 1
  r

/-- Time 0 of Table 02-5. -/
def Run.warmBegin (r : Run s₀) : Run s₀ :=
  let was := r.on GLB_BOOT_STATUS_READY
  let r := (r.wr GLB_BOOT_STATUS_WARM 1).wr GLB_BOOT_STATUS_READY 0
  let r := r.when was fun r => r.smbCond 3
  let r := r.itkStop.openDrop.clipFreeze.sweepAbort.monLock
  r.glb fun g => { g with phase := .warmDrain, change := .none, job := none, deltaWait := [], watchdogDue := false }

/-- A warm-reset trigger: its cause is recorded, and the sequence of Table 02-5 starts, or starts again (R39, R42). While the reset
is held, or the ROM has not yet started a firmware image, there is nothing that the sequence could run on, and the boot goes on
(DEDUCED, assumption 26). -/
def Run.warmTrigger (r : Run s₀) (cause : Fld) : Run s₀ :=
  let r := r.hwSet cause 1
  if List.contains [Phase.held, .pll, .fwLoad, .halt] r.u.glb.phase then r else r.warmBegin

/-- A write of GLB_RESET_CTL (Table 02-6). -/
def Run.writeResetCtl (r : Run s₀) (key : Nat) (cold warm : Bool) : Run s₀ :=
  if !cold && !warm then r
  else if key ≠ 0xA5C3 then r.ignored
  else if cold then
    let r := r.when warm fun r => r.hwSet GLB_RESET_CAUSE_WARM_SW 1
    r.coldReset GLB_RESET_CAUSE_COLD_SW
  else r.warmTrigger GLB_RESET_CAUSE_WARM_SW

/-- A write of GLB_RESET_CTL.COLD (Table 02-6). -/
def execCold (key : Nat) (s : State) : Host.Outcome State Fault Refusal := done s fun r => r.writeResetCtl key true false

/-- A write of GLB_RESET_CTL.WARM (Table 02-6). -/
def execWarm (key : Nat) (s : State) : Host.Outcome State Fault Refusal := done s fun r => r.writeResetCtl key false true

/-- PCIE_PERST_N falls; while RESET_N is high that is a warm reset (R433). -/
def execPciePerstNAssert (s : State) : Host.Outcome State Fault Refusal :=
  done s fun r =>
    if !r.u.glb.perstHigh then r
    else
      let r := r.glb fun g => { g with perstHigh := false, linkUp := false, busMaster := false, d3hot := false }
      r.when r.u.glb.resetN fun r => r.warmTrigger GLB_RESET_CAUSE_PERST

/-- A PCIe hot reset or link-down reset (Table 02-3). -/
def execPcieHotReset (s : State) : Host.Outcome State Fault Refusal :=
  done s fun r =>
    if !r.u.glb.linkUp then r
    else (r.glb fun g => { g with linkUp := false, busMaster := false, d3hot := false }).warmTrigger GLB_RESET_CAUSE_PCIE_HOT

/-- A Function Level Reset (Table 12-1). -/
def execFunctionLevelReset (s : State) : Host.Outcome State Fault Refusal :=
  done s fun r =>
    if !r.u.glb.linkUp then r
    else (r.glb fun g => { g with busMaster := false, d3hot := false }).warmTrigger GLB_RESET_CAUSE_FLR

/-- The firmware watchdog acts after a fault in a second warden core (R400). -/
def execFirmwareWatchdog (s : State) : Host.Outcome State Fault Refusal :=
  done s fun r => if r.u.glb.watchdogDue then r.warmTrigger GLB_RESET_CAUSE_WATCHDOG else r

/-- SMBus WARM: 0xA5 with a correct PEC while READY is 1 (R70). -/
def execSmbWarm (data : Byte) (pec : Option Bool) (s : State) : Host.Outcome State Fault Refusal :=
  done s fun r => r.smb 0x20 fun r =>
    if data = 0xA5#8 ∧ pec = some true ∧ r.on GLB_BOOT_STATUS_READY = true then
      (r.sat GLB_SMB_COUNT_WARM).warmTrigger GLB_RESET_CAUSE_SMBUS
    else r.smbRefuse (pec == some false)

/-! ## Warm reset: sequence -/

/-- What GLB_BOOT_STATUS shows of the boot and of the warm reset in progress: the straps (R43), the slots of the images that are
kept, and WARM. -/
def bootFacts (k : Nat) : Bool :=
  k == GLB_BOOT_STATUS_BOOT_SEL.key || k == GLB_BOOT_STATUS_FW_SLOT.key || k == GLB_BOOT_STATUS_NARRIC_SLOT.key || k == GLB_BOOT_STATUS_WARM.key

/-- The registers that a warm reset keeps (Table 02-4): GLB_RESET_CAUSE, GLB_FEAT_DEV, the board settings and the SMBus target,
EVT_BREACH_SEQ and the cofferdams, CLK, the sensors' readings, the levee and the retired sensors, what keeps the time bases and TSEL
counting, the encoders' ring pointers, what DRAM initialisation and training set, and the retired channel that MAG_PARITY_STATUS
shows (assumption 32). -/
def warmKeeps (k : Nat) : Bool :=
  bootFacts k || inRanges ([(0x24, 4), (0x200, 16), (0x1000, 20), (0x1200, 32), (0x1C00, 8), (0x100110, 4), (0x100118, 16), (0x200000, 8),
             (0x300004, 4), (0x300100, 0x104), (0x400100, 16), (0x1000038, 8), (0x1001038, 8), (0x1700000, 4),
             (0x1700010, 24), (0x1302000, 4)]
    ++ (List.range 4).flatMap (fun n => [(0x400000 + 0x40 * n, 8), (0x400024 + 0x40 * n, 4)])
    ++ (List.range 16).map (fun c => (0x1700100 + 0x10 * c, 4))
    ++ (List.range 4).map (fun b => (0x1400 + 0x100 * b, 4))
    ++ (List.range 4).flatMap fun u => [(0x1800 + 0x100 * u, 4), (0x1810 + 0x100 * u, 4)]) k

/-- The global unit after a warm reset. -/
def Glb.warm (g : Glb) (temps : List Int) : Glb :=
  { g with phase := .warmFw, change := .none, next := [], nextCfg := [], job := none, deltaWait := [], recov := [], recovLen := 0,
           heldWords := [], latched := [], i3c := [], uarts := [], linkUp := false, busMaster := false, d3hot := false,
           warmTemp := temps, feat := 0, watchdogDue := false }

/-- A segment as the preserved open-clip state records it: stripes that are not durable are issued again with the same bytes, and
the sealing label is written again (R281). -/
def Seg.preserved (s : Seg) (inFlight : List Nat) : Seg :=
  let lost := inFlight.filter fun g => s.g0 ≤ g && g < s.g0 + s.issued
  { s with issued := lost.foldl (fun n g => min n (g - s.g0)) s.issued, sealGen := none }

/-- The units after a warm reset (Table 02-4): keys, images and start-up facts, the breach log and the cofferdams that requested
service, thermal supervision, the time bases, poisoned DRAM, the frames and segments of the open clip, and the media frames of
its audio. -/
def Units.warm (u : Units) (temps : List Int) : Units :=
  { glb := u.glb.warm temps
    evt := { log := u.evt.log, service := u.evt.service, pins := u.evt.pins }
    thm := u.thm
    tim := { tb := u.tim.tb.map fun e => (e.1, { t := e.2.t, present := e.2.present }), delta := u.tim.delta, c := u.tim.c
             au := if u.magu.segs.isEmpty then [] else u.tim.au.map fun a => (a.1, { media := a.2.media, gaps := a.2.gaps }) }
    mem := { poison := u.mem.poison }
    frames := u.frames.filter fun f => f.inClip && f.complete
    magu := { segs := u.magu.segs.map fun s => s.preserved ((u.magu.mag.look s.mag {}).stripes.map Prod.fst)
              start := u.magu.start, startTc := u.magu.startTc, marks := u.magu.marks } }

/-- Each drive command still outstanding is recorded as not acknowledged; records of one drive merge under R401 (Table 02-5). -/
def Run.drainBreaches (r : Run s₀) : Run s₀ :=
  r.each (List.range 64) fun d r => r.each (r.drv d).out fun _ r => r.breach { type := 4, index := d, cls := 1, detector := 4 }

/-- DRAM is initialised and trained: MEM_CFG is set, and the channels in `failed` are retired (R334, R335, R342). -/
def Run.dramInit (r : Run s₀) (failed : Nat) : Run s₀ :=
  let r := (r.wr MEM_CFG_CH_LOG2 (Nat.log2 (Config.dramBytes / 16))).wr MEM_CFG_RANKS (b2n Config.dramTwoRanks)
  let r := (r.wr MEM_CFG_TYPE (b2n Config.dramX)).wr MEM_CFG_RATE (b2n r.u.glb.dramFast)
  let r := r.each (List.range 16) fun c r => if bit failed c then (r.sat (MEM_CH_ERR_TRAIN_FAIL c)).channelRetire c 2 0 else r.channelTrained c
  r.glb fun g => { g with bootRetired := popcount 16 failed }

/-- MAG's wait ends: DRAM enters self-refresh and the units that Table 02-4 lists are reset. -/
def execWarmDriveDrainEnd (s : State) : Host.Outcome State Fault Refusal :=
  done s fun r =>
    if r.u.glb.phase ≠ .warmDrain then r
    else
      let r := r.drainBreaches
      let temps := (List.range 16).map r.phyTemp
      let r := (r.keepRegs warmKeeps).mod fun u => u.warm temps
      r.eventPins 15

/-- W_0 re-verifies the preserved firmware image, and the warden cores restart; their cofferdams end (R41, R46, R394). A preserved
image that fails leaves the device in recovery (DEDUCED, assumption 27). -/
def execWarmFirmwareRestart (s : State) : Host.Outcome State Fault Refusal :=
  done s fun r =>
    if r.u.glb.phase ≠ .warmFw then r
    else
      let code := r.fwCheck r.u.glb.fwBytes
      if code = 0 then ((r.endCofferdams (· == 14)).wr GLB_BOOT_STATUS_STAGE 2).glb fun g => { g with phase := .warmDram }
      else ((r.imageFailed code).wr GLB_BOOT_STATUS_STAGE 7).glb fun g => { g with phase := .recovery }

/-- DRAM leaves self-refresh. Channels retrain when a PHY temperature has changed by more than 10 °C, those in `failed` without
success; DRAM that an interrupted boot had not trained is trained now. Then the preserved bit-stream is re-verified and re-woven
(R41, R46, Tables 02-4, 02-5). One that fails leaves no bit-stream woven (DEDUCED, assumption 27). -/
def execSelfRefreshExit (failed : Nat) (s : State) : Host.Outcome State Fault Refusal :=
  done s fun r =>
    if r.u.glb.phase ≠ .warmDram then r
    else
      let hot := (List.range 16).any fun c => decide (40 < (r.phyTemp c - r.u.glb.warmTemp.getD c 0).natAbs)
      let live := (List.range 16).filter fun c => !r.retired c
      let r := if live.all fun c => !r.on (MEM_CH_STATUS_STATE c) then r.dramInit failed
        else r.when hot fun r => r.each live fun c r =>
          if bit failed c then (r.sat (MEM_CH_ERR_TRAIN_FAIL c)).channelRetire c 2 0 else (r.sat (MEM_CH_STATUS_RETRAINS c)).channelTrained c
      let r := r.each (live.filter fun c => r.rd (MEM_CH_STATUS_STATE c) == 3) fun c r => r.wr (MEM_CH_STATUS_STATE c) 2
      let r := r.endCofferdams fun t => List.contains [1, 2, 3, 6] t
      let code := r.streamCheck r.u.glb.woven false true
      let r := if r.u.glb.woven.isEmpty then r
        else if code = 0 then r.weave r.u.glb.cfg
        else (r.imageFailed code).modeNone
      let r := r.when r.u.glb.woven.isEmpty Run.routesLoad
      (r.wr GLB_BOOT_STATUS_STAGE 5).glb fun g => { g with phase := .weave }

end Sys2Proof.Machine
end

