-- ==== Sys2Proof/Machine/Boot.lean ====
section
/-!
DEFINITION. The boot sequence, READY, recovery and the PCIe link (R43 to R47, R293, R433, Tables 02-8 to 02-11).
-/
namespace Sys2Proof.Machine
variable {s₀ : State}

/-! ## Cold boot -/

/-- The phase and STAGE of GLB_BOOT_STATUS. -/
def Run.bootTo (r : Run s₀) (p : Phase) (stage : Nat) : Run s₀ :=
  (r.wr GLB_BOOT_STATUS_STAGE stage).glb fun g => { g with phase := p }

/-- The copy of the boot directory in force: the one of higher generation whose CRC is correct, with its number (R44). -/
def dirInForce (l : List DirCopy) : Option (Nat × DirCopy) :=
  match l with
  | a :: b :: _ =>
    if a.crcOk && b.crcOk then (if a.gen < b.gen then some (1, b) else some (0, a))
    else if a.crcOk then some (0, a)
    else if b.crcOk then some (1, b)
    else none
  | [a] => if a.crcOk then some (0, a) else none
  | [] => none

/-- The root PLL has locked, and the ROM reads the boot directory: firmware is read, or the device waits for a recovery image, or
halts for test (Tables 02-8, 02-10). Without a valid directory slot 0 of each serves (DEDUCED, assumption 28). -/
def execRootPllLock (dir : List DirCopy) (s : State) : Host.Outcome State Fault Refusal :=
  done s fun r =>
    if r.u.glb.phase ≠ .pll then r
    else
      let r := r.wr CLK_REF_STATUS_ROOT_LOCK 1
      let sel := r.rd GLB_BOOT_STATUS_BOOT_SEL
      if sel = 3 then r.bootTo .halt 8
      else if sel = 2 then r.bootTo .recovery 7
      else
        let (copy, gen, fw, bs) := match dirInForce dir with
          | some (n, d) => (n, d.gen, d.fw.val, d.bs.val)
          | none => (0, 0, 0, 0)
        let r := r.glb fun g => { g with dirCopy := copy, dirGen := gen, dirFw := fw, dirBs := bs, tryFw := fw, tryBs := bs }
        r.bootTo .fwLoad 1

/-- The firmware image of a slot starts on the warden cores (R45, R46). -/
def Run.fwStart (r : Run s₀) (image : List Byte) (slot : Nat) : Run s₀ :=
  (r.wr GLB_BOOT_STATUS_FW_SLOT slot).glb fun g => { g with fw := fwOf image slot, fwBytes := image.take (totalLen image) }

/-- The firmware image read from QSPI has been checked: it starts, or the other slot is read, or the device enters recovery
(R46). -/
def execFirmwareLoadDone (image : List Byte) (s : State) : Host.Outcome State Fault Refusal :=
  done s fun r =>
    if r.u.glb.phase ≠ .fwLoad then r
    else
      let slot := r.u.glb.tryFw
      let code := r.fwCheck image
      if code = 0 then (r.fwStart image slot).bootTo .dram 3
      else
        let r := r.imageFailed code
        if r.on GLB_BOOT_STATUS_FW_FALLBACK then r.bootTo .recovery 7
        else (r.wr GLB_BOOT_STATUS_FW_FALLBACK 1).glb fun g => { g with tryFw := 1 - slot }

/-- DRAM initialisation and training end: MEM_CFG is set, and the channels in `failed` are retired (R334, R335, R342). -/
def execDramTrainingDone (failed : Nat) (s : State) : Host.Outcome State Fault Refusal :=
  done s fun r =>
    if r.u.glb.phase ≠ .dram then r
    else
      let r := r.dramInit failed
      if r.rd GLB_BOOT_STATUS_BOOT_SEL = 0 ∧ r.u.glb.tryBs < 2 then r.bootTo .bsLoad 4 else r.modeNone.bootTo .weave 5

/-- The bit-stream read from QSPI has been checked: it is woven, or the other slot is read, or none is woven (R46). -/
def execBitstreamReadDone (image : List Byte) (s : State) : Host.Outcome State Fault Refusal :=
  done s fun r =>
    if r.u.glb.phase ≠ .bsLoad then r
    else
      let slot := r.u.glb.tryBs
      let code := r.streamCheck image false true
      if code = 0 then
        let r := (r.weaveNew image (r.recsAfter image)).wr GLB_BOOT_STATUS_NARRIC_SLOT slot
        r.bootTo .weave 5
      else
        let again := r.on GLB_BOOT_STATUS_NARRIC_FALLBACK
        let r := (r.imageFailed code).wr GLB_BOOT_STATUS_NARRIC_FALLBACK 1
        if again then r.bootTo .weave 5 else r.glb fun g => { g with tryBs := 1 - slot }

/-- The weave of a boot or a warm reset is complete: READY, event 0, event 5 when a boot used a fallback, and what starts at the
end of a weave (R45, R46, Tables 02-5, 02-10, 14-2). -/
def execReady (s : State) : Host.Outcome State Fault Refusal :=
  done s fun r =>
    if r.u.glb.phase ≠ .weave then r
    else
      let r := ((r.wr GLB_BOOT_STATUS_READY 1).bootTo .run 6).ev 0
      let warm := r.on GLB_BOOT_STATUS_WARM
      let r := r.when (!warm && (r.on GLB_BOOT_STATUS_FW_FALLBACK || r.on GLB_BOOT_STATUS_NARRIC_FALLBACK)) fun r => r.ev 5
      let r := r.smbCond 3
      let r := r.when warm fun r => (r.each (List.range 4) fun n r =>
        r.when (r.rd (TIM_TB_CTL_STATE n) != 0) fun r => r.setBaseState n 1).loopMeasure
      r.when (r.on GLB_MODE_VALID) Run.weaveEnd

/-! ## Recovery (R47) -/

/-- A write of GLB_RECOVERY.LEN starts the check; a value out of range, or any value outside recovery or while a check runs, is
ignored with event 9. -/
def Run.writeRecovery (r : Run s₀) (n : Nat) : Run s₀ :=
  if r.u.glb.phase ≠ .recovery ∨ n < 64 ∨ 4194304 < n ∨ r.u.glb.recovLen ≠ 0 then r.ignored
  else r.glb fun g => { g with recovLen := n }

/-- A write of GLB_RECOVERY.LEN (R47). -/
def execLen (n : Nat) (s : State) : Host.Outcome State Fault Refusal := done s fun r => r.writeRecovery n

/-- The check of the recovery image ends: the image runs, and the boot goes on without a bit-stream, or the device stays in
recovery with the reason code (R47; DEDUCED, assumption 28). -/
def execRecoveryCheckDone (s : State) : Host.Outcome State Fault Refusal :=
  done s fun r =>
    let n := r.u.glb.recovLen
    if r.u.glb.phase ≠ .recovery ∨ n = 0 then r
    else
      let image := (List.range n).map fun k => r.u.glb.recov.look k 0#8
      let code := r.fwCheck image
      let r := r.glb fun g => { g with recovLen := 0, tryBs := 2 }
      if code = 0 then (r.fwStart image (r.rd GLB_BOOT_STATUS_FW_SLOT)).bootTo .dram 3 else r.imageFailed code

/-! ## PCIe (R293, R433) -/

/-- PCIE_PERST_N rises: link training may start (R433). -/
def execPciePerstNRelease (s : State) : Host.Outcome State Fault Refusal := done s fun r => r.glb fun g => { g with perstHigh := true }

/-- The link reaches L0 (R433). A test halt does not train PCIe (Table 02-8). -/
def execPcieLinkUp (s : State) : Host.Outcome State Fault Refusal :=
  done s fun r =>
    let g := r.u.glb
    let ok := g.perstHigh && !(List.contains [Phase.held, .pll, .halt] g.phase)
    r.when ok fun r => r.glb fun g => { g with linkUp := true }

/-- A configuration write of Bus Master Enable and the power state. Requests that waited for it leave, and then the messages
(R293, R300, R325). -/
def execConfigurationRequest (busMaster d3hot : Bool) (s : State) : Host.Outcome State Fault Refusal :=
  done s fun r =>
    if !r.u.glb.linkUp then r
    else
      let r := r.glb fun g => { g with busMaster := busMaster, d3hot := d3hot }
      if !r.mayRequest then r
      else r.toHostAll.each ((List.range 64).filter fun v => bit (r.rd QIF_PBA) v && !r.on (QIF_MSIX_MASK v)) fun v r =>
        (r.clear QIF_PBA (2 ^ v)).emit (.msix v)

end Sys2Proof.Machine
end

