-- ==== Sys2Proof/Machine/Clock.lean ====
section
/-!
DEFINITION. The reference clocks and the root PLL (R36 to R38, Tables 02-1 and 02-2).
-/
namespace Sys2Proof.Machine
variable {s₀ : State}

/-- The bit that says whether reference n, 0 for A and 1 for B, is good. -/
def refOk (n : Nat) : Fld := if n = 0 then CLK_REF_STATUS_A_OK else CLK_REF_STATUS_B_OK

/-- The reference that is not in use. -/
def Run.otherRef (r : Run s₀) : Nat := 1 - r.rd CLK_REF_STATUS_ACTIVE

/-- A switch starts when the rules ask for one: from holdover under AUTO_SWITCH to a good reference (R37), or back to PREF under
REVERT (R38). A switch in progress goes on while its reference is good. -/
def Run.refEval (r : Run s₀) : Run s₀ :=
  let ok := r.on (refOk r.otherRef)
  let auto := r.on CLK_REF_STATUS_HOLDOVER && r.on CLK_REF_CTL_AUTO_SWITCH
  let revert := r.on CLK_REF_CTL_REVERT && r.rd CLK_REF_CTL_PREF == r.otherRef
  r.glb fun g => { g with refSwitching := ok && (auto || revert || g.refSwitching) }

/-- A write of CLK_REF_CTL. A write of PREF that names the reference not in use switches to it while both are good (R38). -/
def Run.writeClk (r : Run s₀) (v : Nat) : Run s₀ :=
  let r := r.wr CLK_REF_CTL_REVERT (bits v 2 1)
  let r := r.wr CLK_REF_CTL_AUTO_SWITCH (bits v 1 1)
  let r := r.wr CLK_REF_CTL_PREF (bits v 0 1)
  let both := r.on CLK_REF_STATUS_A_OK && r.on CLK_REF_STATUS_B_OK
  let r := r.when (both && bits v 0 1 == r.otherRef) fun r => r.glb fun g => { g with refSwitching := true }
  r.refEval

/-- R36, R37: the reference is declared lost. When it is the active one the PLL enters holdover; event 2 is raised when no switch
can follow. -/
def execReferenceLost (ref : Fin 2) (s : State) : Host.Outcome State Fault Refusal :=
  done s fun r =>
    let r := r.wr (refOk ref.val) 0
    if r.on CLK_REF_STATUS_ROOT_LOCK && r.rd CLK_REF_STATUS_ACTIVE == ref.val then
      let r := ((r.wr CLK_REF_STATUS_HOLDOVER 1).wr CLK_REF_STATUS_ROOT_LOCK 0).refEval
      if r.u.glb.refSwitching then r else r.ev 2
    else
      let was := r.u.glb.refSwitching
      let r := r.refEval
      r.when (was && !r.u.glb.refSwitching && r.on CLK_REF_STATUS_HOLDOVER) fun r => r.ev 2

/-- R37: the PLL has relocked to the other reference. -/
def execReferenceSwitch (s : State) : Host.Outcome State Fault Refusal :=
  done s fun r =>
    if !r.u.glb.refSwitching then r
    else
      let r := r.wr CLK_REF_STATUS_ACTIVE r.otherRef
      let r := (r.wr CLK_REF_STATUS_HOLDOVER 0).wr CLK_REF_STATUS_ROOT_LOCK 1
      let r := (r.sat CLK_REF_STATUS_SWITCH_COUNT).glb fun g => { g with refSwitching := false }
      (r.ev 1).refEval

/-- R36, R38: a reference is good again. The active one ends a holdover; another may start a switch. -/
def execReferenceGood (ref : Fin 2) (s : State) : Host.Outcome State Fault Refusal :=
  done s fun r =>
    let r := r.wr (refOk ref.val) 1
    let back := r.on CLK_REF_STATUS_HOLDOVER && r.rd CLK_REF_STATUS_ACTIVE == ref.val && !r.u.glb.refSwitching
    let r := r.when back fun r => (r.wr CLK_REF_STATUS_HOLDOVER 0).wr CLK_REF_STATUS_ROOT_LOCK 1
    r.refEval

/-- R38: a write of CLK_REF_CTL.PREF. -/
def execPref (ref : Fin 2) (s : State) : Host.Outcome State Fault Refusal :=
  done s fun r =>
    if r.on GLB_BOOT_STATUS_READY then
      r.writeClk (r.rd CLK_REF_CTL_REVERT * 4 + r.rd CLK_REF_CTL_AUTO_SWITCH * 2 + ref.val)
    else r

end Sys2Proof.Machine
end

