-- ==== Sys2Proof/Machine/Loads.lean ====
section
/-!
DEFINITION. LOAD-BITSTREAM with its three targets, the full re-weave, the outlet delta, key management, and the activation of
firmware (R31, R53, R54, R56 to R58, R60 to R64, R311, R329).
-/
namespace Sys2Proof.Machine
variable {s₀ : State}

/-! ## Targets -/

/-- A boot directory with new slots is written over the older copy (R44, R61, R62). -/
def Run.dirWrite (r : Run s₀) (fw bs : Nat) : Run s₀ :=
  let copy := 1 - r.u.glb.dirCopy
  let gen := (r.u.glb.dirGen + 1) % 2 ^ 32
  (r.glb fun g => { g with dirCopy := copy, dirGen := gen, dirFw := fw, dirBs := bs }).emit (.bootDir copy gen fw bs)

/-- A load is refused with a reason code (R54). -/
def Run.loadRefused (r : Run s₀) (no code : Nat) : Run s₀ := (r.imageFailed code).complete no code 0

/-- STORE_FIRMWARE: the image goes to the slot that is not running (R61). -/
def Run.storeFirmware (r : Run s₀) (no : Nat) (b : List Byte) : Run s₀ :=
  let code := r.fwCheck b
  if code ≠ 0 then r.loadRefused no code
  else
    let slot := 1 - r.rd GLB_BOOT_STATUS_FW_SLOT
    (r.emit (.flash (0x100000 + slot * 0x400000) (b.take (totalLen b)))).complete no 0 0

/-- STORE_NARRIC: the bit-stream goes to the slot not in use, and the boot directory then names it (R61). The slot in use is the one
that NARRIC_SLOT shows, also when no bit-stream was woven from QSPI at boot (DESIGN CHOICE, assumption 31). -/
def Run.storeNarric (r : Run s₀) (no : Nat) (b : List Byte) : Run s₀ :=
  let code := r.streamCheck b true true
  if code ≠ 0 then r.loadRefused no code
  else
    let slot := 1 - r.rd GLB_BOOT_STATUS_NARRIC_SLOT
    let r := r.emit (.flash (0x900000 + slot * 0x200000) (b.take (totalLen b)))
    (r.dirWrite r.u.glb.dirFw slot).complete no 0 0

/-- The slot state after a key record (R64). -/
def keyAfter (c : CfgRec) (k : KeySlot) : KeySlot :=
  if c.type = 0x0202 then ⟨.enrolled, (c.body.drop 8).take 32⟩ else { k with state := .revoked }

/-- A key-management bit-stream programs the slots in record order; event 504 (R64). -/
def Run.keysProgram (r : Run s₀) (no : Nat) (b : List Byte) : Run s₀ :=
  let r := r.glb fun g => { g with keys := (recordsOf b).foldl (fun k c => k.put c.index (keyAfter c (k.look c.index {}))) g.keys }
  (r.featOffer.complete no 0 0).ev 504

/-- WEAVE: the checks, then a full re-weave, an outlet delta, or the key slots (R31, R53, R54, R56, R58). -/
def Run.loadWeave (r : Run s₀) (no : Nat) (b : List Byte) : Run s₀ :=
  if r.recording then r.loadRefused no 10
  else
    let code := r.streamCheck b true false
    if code ≠ 0 then r.loadRefused no code
    else if isKeys b then r.keysProgram no b
    else
      let cfg := r.recsAfter b
      let r := (r.glb fun g => { g with job := some (no, 0) }).cmdRuns no
      if isDelta b then r.deltaBegin cfg b else r.glb fun g => { g with change := .check, next := b, nextCfg := cfg }

/-- LOAD-BITSTREAM (R311). -/
def execLoadBitstream (h : HostData) (s : State) : Host.Outcome State Fault Refusal :=
  done s fun r =>
    r.onCmd 0x08 fun c r =>
      let len := c.f 0x18 4
      let b := h.data.take len
      if r.u.glb.change ≠ .none then r.complete c.no 47 0
      else if (c.buffer h len).isNone then r.invalidField c.no 8
      else if !h.ok then (r.sat QIF_COUNT_HOST_ERR).complete c.no 39 0
      else match c.f 0x1C 1 with
        | 0 => r.loadWeave c.no b
        | 1 => r.storeNarric c.no b
        | _ => r.storeFirmware c.no b

/-! ## Full re-weave (R56, R57) -/

/-- Every fetched command but the one in progress has completed (R329). -/
def Run.othersDone (r : Run s₀) : Bool := r.u.qif.cmds.all fun c => (r.u.glb.job.map Prod.fst) == some c.no

/-- The check has passed, and quiescence begins. -/
def execReweaveCheckDone (s : State) : Host.Outcome State Fault Refusal :=
  done s fun r =>
    if r.u.glb.change ≠ .check then r
    else
      let r := ((r.glb fun g => { g with change := .quiesce }).wr QIF_STATUS_FETCH_STOPPED 1).itkStop
      let r := r.mag fun m => { m with prerolls := [], recent := [] }
      let r := (r.each [0, 1] fun n r => r.encClose n).decStopAfter 0
      let r := r.each [0, 1] fun n r => r.linkRests n
      r.each (List.range 8) fun p r => r.when (r.on (AUD_STATUS_STATE p) && r.rd (AUD_STATUS_STATE p) != 3) fun r => r.auState p 3

/-- Every unit has stopped and every other fetched command has completed. -/
def Run.quiet (r : Run s₀) : Bool :=
  r.othersDone && ((List.range 16).all fun v => (r.openFrame v).isNone) && r.u.pix.frames.isEmpty
    && ([0, 1].all fun n => !r.on (ENC_STATUS_STATE n)) && !r.on DEC_STATUS_RUNNING
    && ((List.range 32).all fun n => !r.dmaBusy n) && ((List.range 4).all fun n => !r.on (CMP_STATUS_COMPOSING n)) && (List.range 8).all fun p => !r.on (AUD_STATUS_STATE p)

/-- 100 ms have passed: what has not stopped is stopped, and partial frames are discarded (R56, R360). -/
def execReweaveQuiescenceTimeout (s : State) : Host.Outcome State Fault Refusal :=
  done s fun r =>
    if r.u.glb.change ≠ .quiesce then r
    else
      let r := r.openDrop.pixMod fun p => { p with frames := [], ce := [], stats := [] }
      let r := r.each (List.range 16) fun c r => r.pixSync c
      let r := r.each [0, 1] fun n r => r.when (r.on (ENC_STATUS_STATE n)) fun r => (r.encMod n fun u => { u with pic := none }).encClosed n
      let r := (r.when (r.on DEC_STATUS_RUNNING) fun r => r.decStopped 0).compositionsDrop
      let r := r.each (List.range 32) fun n r => r.dmaHalt n 8 []
      r.each (List.range 8) fun p r => r.when (r.on (AUD_STATUS_STATE p)) fun r => r.auState p 0

/-- All units have stopped, and the new bit-stream is woven. When the weave fails, with a reason code, the previous bit-stream is
woven again from its preserved copy (R57). -/
def execReweaveQuiescent (failure : Nat) (s : State) : Host.Outcome State Fault Refusal :=
  done s fun r =>
    if r.u.glb.change ≠ .quiesce ∨ r.quiet = false then r
    else
      let r := r.glb fun g => { g with change := .weaving, job := g.job.map fun j => (j.1, failure) }
      if failure = 0 then r.weaveNew r.u.glb.next r.u.glb.nextCfg
      else if r.u.glb.woven.isEmpty then r
      else r.weave r.u.glb.cfg

/-- The change in progress is over, and its command completes with a status and result. -/
def Run.changeEnd (r : Run s₀) (status result : Nat) : Run s₀ :=
  let job := r.u.glb.job
  let r := r.glb fun g => { g with change := .none, next := [], nextCfg := [], job := none, deltaWait := [], commit := false }
  match job with
  | some j => r.complete j.1 status result
  | none => r

/-- The weave ends: fetching resumes, the command completes, and event 3 reports success (R56, R57). -/
def execReweaveDone (s : State) : Host.Outcome State Fault Refusal :=
  done s fun r =>
    if r.u.glb.change ≠ .weaving then r
    else
      let code := (r.u.glb.job.map Prod.snd).getD 0
      let r := (r.when (r.on GLB_MODE_VALID) Run.weaveEnd).wr QIF_STATUS_FETCH_STOPPED 0
      (r.changeEnd code 0).when (code == 0) fun r => r.ev 3

/-- Every context that an outlet delta affects has passed its boundary (R58). -/
def execDeltaWoven (s : State) : Host.Outcome State Fault Refusal :=
  done s fun r =>
    if r.u.glb.change ≠ .delta ∨ r.u.glb.deltaWait ≠ [] then r
    else
      let b := r.u.glb.next
      let id := field b 0x20 8
      let r := r.glb fun g => { g with cfg := g.nextCfg, streamId := id }
      let r := r.when ((directory b).any fun e => e.type == 8) Run.routesLoad
      let r := r.changeEnd 0 0
      (r.ev 11).wr GLB_NARRIC_ID_STREAM_ID id

/-! ## Firmware activation (R62, R63) -/

/-- ACTIVATE-FIRMWARE: fetching stops, and the replacement begins once every other fetched command has completed (R62). -/
def execActivateFirmware (s : State) : Host.Outcome State Fault Refusal :=
  done s fun r =>
    r.onCmd 0x09 fun c r =>
      if r.u.glb.change ≠ .none then r.complete c.no 47 0
      else if r.recording then r.complete c.no 10 0
      else
        let r := r.glb fun g => { g with change := .activate, job := some (c.no, 0), commit := bit (c.f 0x18 1) 0 }
        (r.cmdRuns c.no).wr QIF_STATUS_FETCH_STOPPED 1

/-- The stored image has passed its checks and its self-test: it runs, fetching resumes, the boot directory names its slot, and a
COMMIT raises SEC_VER_MIN (R60, R62). -/
def Run.fwActivated (r : Run s₀) (image : List Byte) : Run s₀ :=
  if r.u.glb.change ≠ .activate ∨ r.othersDone = false ∨ r.fwCheck image ≠ 0 then r
  else
    let slot := 1 - r.rd GLB_BOOT_STATUS_FW_SLOT
    let r := (r.fwStart image slot).wr QIF_STATUS_FETCH_STOPPED 0
    let r := r.dirWrite slot r.u.glb.dirBs
    let r := r.when r.u.glb.commit fun r => r.glb fun g => { g with secVerMin := max g.secVerMin g.fw.secVer }
    (r.changeEnd 0 r.u.glb.fw.version).ev 7

/-- The new firmware has failed its checks or its self-test, or has not resumed fetching: the previous image runs again (R63). -/
def Run.fwRolledBack (r : Run s₀) (image : List Byte) : Run s₀ :=
  if r.u.glb.change ≠ .activate ∨ r.othersDone = false then r
  else
    let code := r.fwCheck image
    let r := r.when (code != 0) fun r => r.imageFailed code
    ((r.wr QIF_STATUS_FETCH_STOPPED 0).changeEnd 38 0).ev 8

end Sys2Proof.Machine
end

