-- ==== Sys2Proof/Machine/HostBus.lean ====
section
/-!
DEFINITION. Accesses to BAR0 and BAR2: 32-bit and 64-bit accesses, held low words and latched upper words (R2, R3, R442), the
registers of GLB's resets, CLK, QIF and MON, and the polder window (R294, R47, R348, R349).
-/
namespace Sys2Proof.Machine
variable {s₀ : State}

/-! ## The registers that other files leave to this one -/

/-- A write of MON_CTL.DISABLE (Table 16-3): 1 ends a running command with ERR 11 and locks the monitor. -/
def Run.writeDisable (r : Run s₀) (v : Nat) : Run s₀ :=
  let r := r.wr MON_CTL_DISABLE v
  if v % 2 = 1 then r.sweepAbort.monLock else r

/-- A write of QIF_CTL (R296, R327, Table 12-11). -/
def Run.writeQifCtl (r : Run s₀) (v : Nat) : Run s₀ :=
  if bit v 0 then
    let r := r.qifEnable
    r.when (bit v 1) Run.adminReset
  else r.qifDisable

/-- A write of an entry of the MSI-X table: the second half holds the data and the mask (R300). -/
def Run.writeMsix (r : Run s₀) (h : Hit) (lo n v : Nat) : Run s₀ :=
  let r := r.writeFields h lo n v
  if lo = 0 then r
  else if bit v 32 then r.wr (QIF_MSIX_MASK h.i) 1
  else if r.on (QIF_MSIX_MASK h.i) then r.unmask h.i
  else r

/-- The write of `n` bits of a register from bit `lo` on, with everything that it does. -/
def Run.writeHit (r : Run s₀) (h : Hit) (lo n v : Nat) : Run s₀ :=
  match h.reg.name with
  | "GLB_FEAT_DRV" => if r.on GLB_FEAT_CTL_OK then r.ignored else r.writeFields h lo n v
  | "GLB_FEAT_CTL" => if bit v 0 then r.writeOk else r
  | "GLB_RECOVERY" => r.writeRecovery (bits v 0 23)
  | "GLB_RESET_CTL" => r.writeResetCtl (bits v 16 16) (bit v 1) (bit v 0)
  | "CLK_REF_CTL" => r.writeClk v
  | "MON_CTL" => r.writeDisable (bits v 0 1)
  | "QIF_CTL" => r.writeQifCtl v
  | "QIF_ADMIN_DEPTH" => if r.on QIF_CTL_EN || bits v 0 12 == 0 then r.ignored else r.writeFields h lo n v
  | "QIF_ADMIN_SQ_BASE" => if r.on QIF_CTL_EN then r.ignored else r.wr QIF_ADMIN_SQ_BASE_ADDR (v / 4096 * 4096)
  | "QIF_ADMIN_CQ_BASE" => if r.on QIF_CTL_EN then r.ignored else r.wr QIF_ADMIN_CQ_BASE_ADDR (v / 4096 * 4096)
  | "QIF_SQ_TAIL" => r.writeSqTail h.i (bits v 0 12)
  | "QIF_CQ_HEAD" => r.writeCqHead h.i (bits v 0 12)
  | "QIF_MSIX" => r.writeMsix h lo n v
  | _ => r.writeUnit h lo n v

/-! ## BAR0 accesses (R2, R3, R45, R442) -/

/-- The low word of a 64-bit register that is held at an offset, while it is younger than 1,024 CCLK cycles (R3). -/
def Run.heldLow (r : Run s₀) (o : Nat) : Option Nat :=
  (r.u.glb.heldWords.find o).bind fun w => if r.now ≤ w.at_ + 1024 then some w.v else none

/-- A low word is no longer held. -/
def Run.lowGone (r : Run s₀) (o : Nat) : Run s₀ := r.glb fun g => { g with heldWords := g.heldWords.drop o }

/-- A 32-bit write at an aligned offset: of a wide register the low word is held, and the high word takes effect with it (R3). A
second low word replaces the one that is held and starts its 1,024 cycles again, without an event: R3 does not say what it does
(DESIGN CHOICE, assumption 36). -/
def Run.write32 (r : Run s₀) (o v : Nat) : Run s₀ :=
  match locate regTable o with
  | none => r
  | some h =>
    if h.reg.width = 32 then r.writeHit h 0 32 v
    else
      let low := o - h.r % 8
      if h.r % 8 = 0 then r.glb fun g => { g with heldWords := g.heldWords.put low ⟨v, r.now⟩ }
      else match r.heldLow low with
        | some w => (r.lowGone low).writeHit h (h.r / 8 * 64) 64 (w + v * 2 ^ 32)
        | none => (r.lowGone low).ignored

/-- Whether a 64-bit register begins at an offset (R3, R442). -/
def wideAt (o : Nat) : Option Hit := (locate regTable o).bind fun h => if h.reg.width != 32 && h.r % 8 == 0 then some h else none

/-- A write of BAR0 at an aligned offset. A block other than GLB is not served before READY, but a write of QIF_CTL.EN then
raises event 9 (R45, R296). -/
def Run.hostWrite (r : Run s₀) (o : Nat) (wide : Bool) (v : Nat) : Run s₀ :=
  if !r.served o then r.when (o == 0x1500000 && bit v 0) Run.ignored
  else if !wide then r.write32 o (v % 2 ^ 32)
  else match wideAt o with
    | some h => r.writeHit h (h.r * 8) 64 (v % 2 ^ 64)
    | none => (r.write32 o (v % 2 ^ 32)).write32 (o + 4) (bits v 32 32)

/-- The bits of a wide RO register latched at the read of its low word, while they are younger than 1,024 CCLK cycles (R442). -/
def Run.latchedAt (r : Run s₀) (o : Nat) : Option Nat :=
  (r.u.glb.latched.find o).bind fun w => if r.now ≤ w.at_ + 1024 then some w.v else none

/-- The value that `n` bits of a register show from byte `h.r` on: of a wide RO register those latched, if any (R442). -/
def Run.readValue (r : Run s₀) (h : Hit) (base n : Nat) : Nat :=
  let own := r.readHit h (h.r * 8) n
  if h.latches && h.r != 0 then
    match r.latchedAt base with
    | some w => bits w (h.r * 8) n
    | none => own
  else own

/-- A read of `n` bits of a register: the latch and the effects of the read (R442, Table 00-2). -/
def Run.readAt (r : Run s₀) (h : Hit) (base n : Nat) : Run s₀ :=
  let r := r.when (h.latches && h.r == 0) fun r =>
    let all := r.readHit h 0 h.reg.width
    r.glb fun g => { g with latched := g.latched.put base ⟨all, r.now⟩ }
  r.readDone h (h.r * 8) n

/-- What a 32-bit read at an aligned offset answers, and its effects (R2). -/
def Run.read32 (r : Run s₀) (o : Nat) : Nat × Run s₀ :=
  match locate regTable o with
  | none => (0, r)
  | some h => (r.readValue h (o - h.r) 32, r.readAt h (o - h.r) 32)

/-- What a read of BAR0 at an aligned offset answers, and its effects (R2, R3, R45). -/
def Run.hostRead (r : Run s₀) (o : Nat) (wide : Bool) : Nat × Run s₀ :=
  if !r.served o then (0, r)
  else if !wide then r.read32 o
  else match wideAt o with
    | some h => (r.readValue h (o - h.r) 64, r.readAt h (o - h.r) 64)
    | none =>
      let a := r.read32 o
      let b := a.2.read32 (o + 4)
      (a.1 + b.1 * 2 ^ 32, b.2)

/-- An access of 4 or 8 bytes is aligned. -/
def alignedTo (o : Nat) (wide : Bool) : Bool := o % (if wide then 8 else 4) == 0

/-- REGISTER_READ: a read of 32 or 64 bits of BAR0 (R2, R3, R4, R442). A misaligned access has no meaning in R3. -/
def execRegisterRead (off : Nat) (wide : Bool) (s : State) : Host.Outcome State Fault Refusal :=
  if alignedTo off wide then done s fun r =>
    let x := r.hostRead off wide
    x.2.emit (.answer x.1)
  else .fault .unalignedAccess

/-- LOW_WORD_DISCARD: 1,024 cycles have passed since the low word was written (R3). -/
def execLowWordDiscard (off : Nat) (s : State) : Host.Outcome State Fault Refusal :=
  done s fun r => if (r.u.glb.heldWords.find off).isSome then (r.lowGone off).ignored else r

/-- LATCH_RELEASE: 1,024 cycles have passed since the low word was read (R442). -/
def execLatchRelease (off : Nat) (s : State) : Host.Outcome State Fault Refusal :=
  done s fun r => r.glb fun g => { g with latched := g.latched.drop off }

/-! ## BAR2 (R294, R47, R349) -/

/-- The DRAM address at which BAR2 shows all `n` bytes from an offset: inside one exposed polder, while F11 is negotiated. -/
def Run.bar2Addr (r : Run s₀) (off n : Nat) : Option Nat :=
  if !r.feature 11 then none
  else
    let base := fun p => r.rd (MEM_POLDER_BAR2_OFF p) * 4096
    (lowest (fun p => r.on (MEM_POLDER_BAR2_VALID p) && r.on (MEM_POLDER_BAR2_EXPOSE p) && decide (base p ≤ off)
      && decide (off + n ≤ base p + r.rd (MEM_POLDER_SIZE p))) 32).map fun p => r.rd (MEM_POLDER_BASE p) + (off - base p)

/-- A BAR2 access that reaches nothing: event 404, a breach record of TYPE 15, and zeros on a read (R294, Table 15-2). -/
def Run.bar2Violation (r : Run s₀) (off len : Nat) (read : Bool) : Run s₀ :=
  ((r.ev 404).refused 11 off 404 0).when read fun r => r.emit (.answerBytes (List.replicate len 0#8))

/-- BAR2_ACCESS: a write of bytes, or a read of `len` bytes. In recovery the first 8 MiB are warden memory (R47). -/
def execBar2Access (off len : Nat) (data : Option (List Byte)) (s : State) : Host.Outcome State Fault Refusal :=
  done s fun r =>
    let n := match data with
      | some bs => bs.length
      | none => len
    if r.u.glb.phase = .recovery then
      if 0x800000 < off + n then r.bar2Violation off n data.isNone
      else match data with
        | some bs => r.glb fun g => { g with recov := (bs.zipIdx off).foldl (fun t x => t.put x.2 x.1) g.recov }
        | none => r.emit (.answerBytes ((List.range n).map fun k => r.u.glb.recov.look (off + k) 0#8))
    else match r.bar2Addr off n, data with
      | some a, some bs => if r.allowed 11 true a n then r.rawStore a bs else r.bar2Violation off n false
      | some a, none =>
        let g := r.peekMem 11 a n
        if !g.ok then r.bar2Violation off n true
        else
          let r := r.poisonRead a n
          r.emit (if g.poison then .poisoned g.bytes else .answerBytes g.bytes)
      | none, _ => r.bar2Violation off n data.isNone

end Sys2Proof.Machine
end

