-- ==== Sys2Proof/Machine/Monitor.lean ====
section
/-!
DEFINITION. The Kenok development monitor (chapter 16): lines and words, locking, the commands of Table 16-2, sweeps, and the
commands that reach it from outside. A write of a BAR0 register stands here because it may end a sweep.
-/
namespace Sys2Proof.Machine
variable {s₀ : State}

/-! ## Commands (Table 16-2) -/

/-- A command of Table 16-2. -/
inductive MonCmd where
  | help | ver
  | baud (c : Nat)
  | unlock (slot : Nat)
  | unlockResp (sig : List Byte)
  | lock
  | peek (off n : Nat)
  | poke (off v : Nat)
  | memrd (addr n : Nat)
  | traceOn (lo hi : Nat) (post : Option Nat)
  | traceOff | traceDump
  | eye (lane sel dwell : Nat)
  | breach (n : Nat)
  | inject (e : Nat)
  deriving DecidableEq, Repr

/-- A locked monitor accepts the command (R414). -/
def MonCmd.open (c : MonCmd) : Bool :=
  match c with
  | .help => true
  | .ver => true
  | .baud _ => true
  | .unlock _ => true
  | .unlockResp _ => true
  | .lock => true
  | _ => false

/-- Every argument is in its range (Table 16-2, R415, R416, R417). U and L are ranges of a PAM4 receive half only (R416). -/
def Run.monRange (r : Run s₀) (c : MonCmd) : Bool :=
  match c with
  | .baud c => decide (c ≤ 5)
  | .unlock s => decide (s ≤ 4)
  | .peek off n => off % 4 == 0 && decide (1 ≤ n) && decide (n ≤ 64) && decide (off + 4 * n ≤ 2 ^ 28)
  | .poke off v => off % 4 == 0 && decide (off < 2 ^ 28) && decide (v < 2 ^ 32)
  | .memrd _ n => decide (1 ≤ n) && decide (n ≤ 4096)
  | .traceOn lo hi _ => decide (lo ≤ hi) && decide (hi ≤ 511)
  | .eye lane sel dwell => decide (lane < 48) && decide (dwell ≤ 15) && (sel == 0 || r.rxPam lane)
  | .breach n => decide (1 ≤ n) && decide (n ≤ 1024)
  | .inject e => decide (e ≤ 511)
  | _ => true

/-- The blocks that POKE may not reach while a record is armed or active (R418, Table 18-1). -/
def pokeBarred (off : Nat) : Bool :=
  List.contains [0x0, 0x2, 0x5, 0x6, 0x7, 0x8, 0x9, 0x12, 0x13, 0x14, 0x15, 0x17, 0x1A] (off / 0x100000)

/-! ## Unlocking (R414, R415) -/

/-- UNLOCK is refused whatever it names: the monitor is disabled or barred, or a locked feature set lacks F18; 0 when it is not. -/
def Run.unlockRefusal (r : Run s₀) : Nat :=
  if r.on MON_CTL_DISABLE || r.u.mon.barred then 9
  else if r.on GLB_FEAT_CTL_LOCKED && !r.feature 18 then 6
  else 0

/-- Groups of 8 hex digits (R415). -/
def hexGroups : Nat → List Byte → List String
  | 0, _ => []
  | n + 1, bs => String.ofList ((bs.take 4).flatMap fun b => hexDigits 2 b.toNat) :: hexGroups n (bs.drop 4)

/-- UNLOCK s: a nonce is drawn and printed (R415, assumption 4). -/
def Run.monUnlock (r : Run s₀) (slot : Nat) : Run s₀ :=
  if r.unlockRefusal ≠ 0 then r.monEnd r.unlockRefusal
  else if (r.keySlot slot).state ≠ .enrolled then r.monEnd 9
  else r.free 256 fun v r =>
    let nonce := le 32 v
    let r := r.mon fun m => { m with nonce := some (slot, r.now, nonce) }
    (r.monText (String.intercalate " " (hexGroups 8 nonce))).monEnd 0

/-- The message that an unlock signature covers: "KUNL", the nonce, the KEY_ID of the identity key (R415). -/
def unlockMessage (nonce : List Byte) : List Byte := le 4 0x4C4E554B ++ nonce ++ keyId identityKey

/-- The slot that a response unlocks; none when no nonce is in force, 60 s have passed, or the signature is wrong (R415). -/
def Run.unlockSlot (r : Run s₀) (sig : List Byte) : Option Nat :=
  match r.u.mon.nonce with
  | none => none
  | some (slot, at_, nonce) =>
    let k := r.keySlot slot
    if r.now ≤ at_ + 30000000000 ∧ k.state = .enrolled ∧ ed25519Verify k.key (unlockMessage nonce) sig = true then some slot else none

/-- UNLOCK RESP (R415, R419). -/
def Run.monResponse (r : Run s₀) (sig : List Byte) : Run s₀ :=
  if r.unlockRefusal ≠ 0 then r.monEnd r.unlockRefusal
  else
    let slot := r.unlockSlot sig
    let r := r.mon fun m => { m with nonce := none }
    match slot with
    | some n =>
      let r := ((r.wr MON_STATUS_UNLOCKED 1).wr MON_STATUS_KEY_SLOT n).mon fun m => { m with wrongRow := 0 }
      (r.ev 508).monEnd 0
    | none =>
      let bar := 3 ≤ r.u.mon.wrongRow + 1
      let r := (r.sat MON_STATUS_FAILS).mon fun m => { m with wrongRow := m.wrongRow + 1, barred := m.barred || decide bar }
      (r.ev 509).monEnd 9

/-! ## Data commands -/

/-- The lines of HELP: one per command, as Table 16-2 writes them. -/
def helpLines : List String :=
  ["HELP", "VER", "BAUD c", "UNLOCK s", "UNLOCK RESP sig", "LOCK", "PEEK off [n]", "POKE off value", "MEMRD addr [n]",
   "TRACE ON lo hi [POST p]", "TRACE OFF", "TRACE DUMP", "EYE lane sel [dwell]", "BREACH [n]", "INJECT e"]

/-- The line of VER (Tables 16-2, 02-20). -/
def Run.verLine (r : Run s₀) : String :=
  let v := r.u.glb.fw.version
  "EN-9618 B1 FW " ++ toString (bits v 24 8) ++ "." ++ toString (bits v 16 8) ++ "." ++ toString (bits v 0 16) ++ " ID "
    ++ hex 16 (r.rd GLB_NARRIC_ID_STREAM_ID) ++ (if r.on MON_STATUS_UNLOCKED then " UNLOCKED" else " LOCKED")

/-- PEEK: reads as a host makes them, one line each (Table 16-2). -/
def Run.monPeek (r : Run s₀) (off n : Nat) : Run s₀ :=
  (r.each (List.range n) fun k r =>
    let x := r.hostRead (off + 4 * k) false
    x.2.monText (hex 8 (off + 4 * k) ++ " " ++ hex 8 x.1)).monEnd 0

/-- POKE: a write as a host makes it, and event 510 (R418, R419). -/
def Run.monPoke (r : Run s₀) (off v : Nat) : Run s₀ :=
  if r.recording && pokeBarred off then r.monEnd 7 else ((r.hostWrite off false v).ev 510).monEnd 0

/-- The lines that a command aborted after `k` of them still prints, and whether it was aborted (R413). -/
def cutAt (abort : Option Nat) (total : Nat) : Nat × Bool :=
  match abort with
  | some k => if k < total then (k, true) else (total, false)
  | none => (total, false)

/-- A line of MEMRD: up to 8 words (Table 16-2). -/
def Run.memLine (r : Run s₀) (addr n : Nat) : Run s₀ :=
  let words := (List.range n).map fun k => hex 8 (ofLe (r.peekMem 13 (addr + 4 * k) 4).bytes)
  let r := r.each (List.range n) fun k r => r.load? 13 (addr + 4 * k) 4 fun _ r => r
  r.monText (String.intercalate " " words)

/-- The first of `n` words that requester 13 may read but that reads poisoned. -/
def Run.memPoison (r : Run s₀) (addr n : Nat) : Option Nat := lowest (fun k => (r.peekMem 13 (addr + 4 * k) 4).poison) n

/-- MEMRD: DRAM reads as requester 13; refused as a whole when a word may not be read (R349). A poisoned read is a fault of the core that
runs the monitor, and the command has no more answer (R397, R400; assumption 61). -/
def Run.monMemrd (r : Run s₀) (addr n : Nat) (abort : Option Nat) : Run s₀ :=
  match lowest (fun k => !r.allowed 13 false (addr + 4 * k) 4) n with
  | some k => r.load? 13 (addr + 4 * k) 4 fun _ r => r.monEnd 9
  | none =>
    let lines := ceilDiv n 8
    let cut := cutAt abort lines
    let put := fun (m : Nat) (r : Run s₀) => r.each (List.range m) fun l r => r.memLine (addr + 32 * l) (min 8 (n - 8 * l))
    match r.memPoison addr (min n (8 * cut.1)) with
    | some k => (put (k / 8) r).load? 13 (addr + 4 * k) 4 fun _ r => r.coreFault (r.coreFor 3)
    | none => (put cut.1 r).monEnd (if cut.2 then 11 else 0)

/-- TRACE ON (R417). -/
def Run.monTraceOn (r : Run s₀) (lo hi : Nat) (post : Option Nat) : Run s₀ :=
  if r.on MON_STATUS_TRACE then r.monEnd 10
  else
    let r := r.evt fun t => { t with trace := [], traceN := 0, traceLo := lo, traceHi := hi, tracePost := post, traceLeft := none }
    (r.wr MON_STATUS_TRACE 1).monEnd 0

/-- A line of TRACE DUMP: number, event, seconds, nanoseconds (R417). -/
def traceLine (e : Nat × Nat × Nat × Nat × Nat) : String :=
  toString e.1 ++ " " ++ toString e.2.1 ++ " " ++ toString e.2.2.1 ++ " " ++ toString e.2.2.2.1

/-- TRACE DUMP: entries oldest first, and how many were overwritten (R417). -/
def Run.monDump (r : Run s₀) : Run s₀ :=
  let t := r.u.evt
  let r := r.each t.trace.reverse fun e r => r.monText (traceLine e)
  (r.monText ("LOST " ++ toString (t.traceN - t.trace.length))).monEnd 0

/-- The fields of a breach record in table order, as widths in bytes (Table 15-7). -/
def breachWidths : List Nat := [4, 4, 8, 4, 4, 1, 1, 1, 1, 1, 1, 2, 4, 4, 8, 8, 4, 4]

/-- A record's fields in hex. -/
def hexFields : List Nat → List Byte → List String
  | [], _ => []
  | w :: ws, bs => hex (2 * w) (ofLe (bs.take w)) :: hexFields ws (bs.drop w)

/-- BREACH: the newest n records, one line each; those with SEQ 0 are not printed (Table 16-2). -/
def Run.monBreach (r : Run s₀) (n : Nat) (abort : Option Nat) : Run s₀ :=
  let recs := (r.u.evt.log.filter fun b => b.seq != 0).take n
  let cut := cutAt abort recs.length
  (r.each (recs.take cut.1) fun b r => r.monText (String.intercalate " " (hexFields breachWidths b.bytes))).monEnd (if cut.2 then 11 else 0)

/-- INJECT e (R418, Table 16-2). -/
def Run.monInject (r : Run s₀) (e : Nat) : Run s₀ :=
  if r.recording && (decide (e ≤ 191) || (decide (336 ≤ e) && decide (e ≤ 399))) then r.monEnd 7 else (r.occur e).monEnd 0

/-! ## Sweeps (R416) -/

/-- VOFF of point i of a sweep. -/
def sweepVoff (i : Nat) : Int := 120 - 8 * (i / 16 : Nat)

/-- PHASE of point i of a sweep. -/
def sweepPhase (i : Nat) : Int := 4 * (i % 16 : Nat) - 32

/-- The character of a point (R416). -/
def sweepChar (errors : Nat) : Char := if errors = 0 then '.' else Char.ofNat (48 + min 9 (Nat.log 10 errors + 1))

/-- A lane in a state that allows a scan, with none running (R97). -/
def Run.eyeAllowed (r : Run s₀) (n : Nat) : Bool := List.contains [2, 3, 4, 6] (r.laneState n) && !(r.laneU n).eye

/-- EYE_CTL takes a point of the sweep, and the scan of it starts. -/
def Run.sweepPoint (r : Run s₀) (w : Sweep) : Run s₀ :=
  let n := w.lane
  let i := w.counts.length
  let r := ((r.wr (LNK_EYE_CTL_DWELL n) w.dwell).wr (LNK_EYE_CTL_EYE_SEL n) w.sel).wrS (LNK_EYE_CTL_VOFF n) (sweepVoff i)
  (r.wrS (LNK_EYE_CTL_PHASE n) (sweepPhase i)).eyeStart n

/-- A sweep ends with EYE_CTL at 0. -/
def Run.sweepEnd (r : Run s₀) (n err : Nat) : Run s₀ :=
  let r := ((r.wr (LNK_EYE_CTL_DWELL n) 0).wr (LNK_EYE_CTL_EYE_SEL n) 0).wr (LNK_EYE_CTL_VOFF n) 0
  ((r.wr (LNK_EYE_CTL_PHASE n) 0).mon fun m => { m with sweep := none }).monEnd err

/-- EYE starts a sweep (R416). -/
def Run.monEye (r : Run s₀) (lane sel dwell : Nat) : Run s₀ :=
  if !r.eyeAllowed lane then r.monEnd 8
  else
    let w : Sweep := { lane := lane, sel := sel, dwell := dwell }
    (r.mon fun m => { m with sweep := some w }).sweepPoint w

/-- A point of a sweep has ended: a row is printed after 16 points, and the next point starts. -/
def Run.sweepNext (r : Run s₀) (w : Sweep) (errors : Nat) : Run s₀ :=
  let w := { w with counts := errors :: w.counts }
  let i := w.counts.length
  let r := r.mon fun m => { m with sweep := some w }
  let r := r.when (i % 16 == 0) fun r => r.monText (String.ofList ((w.counts.take 16).reverse.map sweepChar))
  if 496 ≤ i then r.sweepEnd w.lane 0
  else if r.eyeAllowed w.lane then r.sweepPoint w
  else r.sweepEnd w.lane 8

/-! ## Execution -/

/-- A command of Table 16-2 runs; `abort` tells after how many lines of MEMRD or BREACH the character 0x03 came. -/
def Run.monRun (r : Run s₀) (c : MonCmd) (abort : Option Nat) : Run s₀ :=
  if !c.open && !r.on MON_STATUS_UNLOCKED then r.monEnd 4
  else if !r.monRange c then r.monEnd 5
  else match c with
    | .help => (r.each helpLines fun t r => r.monText t).monEnd 0
    | .ver => (r.monText r.verLine).monEnd 0
    | .baud c => ((r.monEnd 0).wr MON_STATUS_BAUD c).mon fun m => { m with baudWait := true }
    | .unlock s => r.monUnlock s
    | .unlockResp sig => r.monResponse sig
    | .lock => r.monLock.monEnd 0
    | .peek off n => r.monPeek off n
    | .poke off v => r.monPoke off v
    | .memrd a n => r.monMemrd a n abort
    | .traceOn lo hi post => r.monTraceOn lo hi post
    | .traceOff => (r.wr MON_STATUS_TRACE 0).monEnd 0
    | .traceDump => r.monDump
    | .eye lane sel dwell => r.monEye lane sel dwell
    | .breach n => r.monBreach n abort
    | .inject e => r.monInject e

/-- Kenok runs: the firmware has started and no reset is in progress (R45, Table 02-5). -/
def Run.monUp (r : Run s₀) : Bool := List.contains [Phase.dram, .bsLoad, .weave, .run, .warmDram] r.u.glb.phase && r.duty 3

/-! ## Lines (R413) -/

/-- A letter in upper case. -/
def upperOf (c : Nat) : Nat := if 97 ≤ c ∧ c ≤ 122 then c - 32 else c

/-- Words separated by spaces, in upper case: the words before, the word so far (reversed), the rest. -/
def splitWords (word : List Nat) : List Byte → List (List Nat)
  | [] => if word.isEmpty then [] else [word.reverse]
  | b :: bs =>
    if b.toNat = 32 then (if word.isEmpty then splitWords [] bs else word.reverse :: splitWords [] bs)
    else splitWords (upperOf b.toNat :: word) bs

/-- The value of a hex digit in upper case. -/
def hexVal (c : Nat) : Option Nat :=
  if 48 ≤ c ∧ c ≤ 57 then some (c - 48) else if 65 ≤ c ∧ c ≤ 70 then some (c - 55) else none

/-- Digits of a base from the left. -/
def digits (base : Nat) (acc : Nat) : List Nat → Option Nat
  | [] => some acc
  | c :: cs =>
    match hexVal c with
    | some d => if d < base then digits base (acc * base + d) cs else none
    | none => none

/-- A number: decimal, or hexadecimal with 0x and optional underscores (R413). -/
def number (w : List Nat) : Option Nat :=
  match w with
  | 48 :: 88 :: rest =>
    let d := rest.filter (· != 95)
    if d.isEmpty then none else digits 16 0 d
  | [] => none
  | _ => digits 10 0 w

/-- Numbers of a list of words. -/
def numbers (l : List (List Nat)) : Option (List Nat) :=
  match l with
  | [] => some []
  | w :: ws =>
    match number w, numbers ws with
    | some n, some ns => some (n :: ns)
    | _, _ => none

/-- The bytes of groups of 8 hex digits. -/
def groupBytes (l : List (List Nat)) : Option (List Byte) :=
  match l with
  | [] => some []
  | w :: ws =>
    match (if w.length = 8 then digits 16 0 w else none), groupBytes ws with
    | some n, some bs => some ((le 4 n).reverse ++ bs)
    | _, _ => none

/-- The characters of a word. -/
def word (s : String) : List Nat := s.toList.map Char.toNat

/-- The eye that a word names: 0 M, 1 U, 2 L (Table 03-17). -/
def eyeOf (w : List Nat) : Option Nat :=
  if w = word "M" then some 0 else if w = word "U" then some 1 else if w = word "L" then some 2 else none

/-- The keyword of a line is a command, and a locked monitor accepts it; none when it is no command (Table 16-2). -/
def keyword (w : List Nat) : Option Bool :=
  if List.contains [word "HELP", word "VER", word "BAUD", word "UNLOCK", word "LOCK"] w then some true
  else if List.contains [word "PEEK", word "POKE", word "MEMRD", word "TRACE", word "EYE", word "BREACH", word "INJECT"] w then some false
  else none

/-- The command of a keyword and arguments that are numbers. -/
def parseNumeric (key : List Nat) (ns : List Nat) : Option MonCmd :=
  if key = word "HELP" then (match ns with | [] => some .help | _ => none)
  else if key = word "VER" then (match ns with | [] => some .ver | _ => none)
  else if key = word "LOCK" then (match ns with | [] => some .lock | _ => none)
  else if key = word "BAUD" then (match ns with | [c] => some (.baud c) | _ => none)
  else if key = word "UNLOCK" then (match ns with | [s] => some (.unlock s) | _ => none)
  else if key = word "PEEK" then (match ns with | [o] => some (.peek o 1) | [o, n] => some (.peek o n) | _ => none)
  else if key = word "POKE" then (match ns with | [o, v] => some (.poke o v) | _ => none)
  else if key = word "MEMRD" then (match ns with | [a] => some (.memrd a 1) | [a, n] => some (.memrd a n) | _ => none)
  else if key = word "BREACH" then (match ns with | [] => some (.breach 16) | [n] => some (.breach n) | _ => none)
  else if key = word "INJECT" then (match ns with | [e] => some (.inject e) | _ => none)
  else none

/-- The command of TRACE and its arguments. -/
def parseTrace (args : List (List Nat)) : Option MonCmd :=
  match args with
  | [a] => if a = word "OFF" then some .traceOff else if a = word "DUMP" then some .traceDump else none
  | [a, lo, hi] =>
    match (if a = word "ON" then numbers [lo, hi] else none) with
    | some [l, h] => some (.traceOn l h none)
    | _ => none
  | [a, lo, hi, p, n] =>
    match (if a = word "ON" ∧ p = word "POST" then numbers [lo, hi, n] else none) with
    | some [l, h, k] => some (.traceOn l h (some k))
    | _ => none
  | _ => none

/-- The command of EYE and its arguments; DWELL is 4 unless given (R416). -/
def parseEye (args : List (List Nat)) : Option MonCmd :=
  match args with
  | lane :: sel :: rest =>
    match number lane, eyeOf sel, numbers rest with
    | some n, some k, some [] => some (.eye n k 4)
    | some n, some k, some [d] => some (.eye n k d)
    | _, _, _ => none
  | _ => none

/-- The command that a keyword and its arguments form; none when an argument is missing, surplus or malformed (Table 16-2). -/
def parseCmd (key : List Nat) (args : List (List Nat)) : Option MonCmd :=
  if key = word "TRACE" then parseTrace args
  else if key = word "EYE" then parseEye args
  else match args with
    | a :: rest =>
      if key = word "UNLOCK" ∧ a = word "RESP" then
        (if rest.length = 16 then (groupBytes rest).map MonCmd.unlockResp else none)
      else (numbers args).bind (parseNumeric key)
    | [] => parseNumeric key []

/-- A complete line is answered (R413, Table 16-1). A line without a word is no command. -/
def Run.monLine (r : Run s₀) (line : List Byte) (abort : Option Nat) : Run s₀ :=
  if 256 < line.length then r.monEnd 2
  else match splitWords [] line with
    | [] => r.monEnd 1
    | key :: args =>
      match keyword key with
      | none => r.monEnd 1
      | some free =>
        if !free && !r.on MON_STATUS_UNLOCKED then r.monEnd 4
        else match parseCmd key args with
          | none => r.monEnd 3
          | some c => r.monRun c abort

/-- The lines that arrived during a sweep are answered in order, until one of them starts a sweep again. -/
def Run.monHeld (r : Run s₀) : List (List Byte) → Run s₀
  | [] => r.mon fun m => { m with held := [] }
  | l :: ls =>
    let r := r.monLine l none
    if r.u.mon.sweep.isSome then r.mon fun m => { m with held := ls } else Run.monHeld r ls

/-- After a sweep has ended, or the monitor's duty has resumed, the lines that wait are answered. -/
def Run.monResume (r : Run s₀) : Run s₀ :=
  if r.u.mon.sweep.isSome || r.u.mon.held.isEmpty || !r.monUp then r else r.monHeld r.u.mon.held

/-- MONITOR_LINE: a complete line arrives; while a response is being sent, or W_3's duties are suspended, up to 256 characters wait
(R412, R413, R21; DESIGN CHOICE, assumption 34). -/
def execMonitorLine (line : List Byte) (abort : Option Nat) (s : State) : Host.Outcome State Fault Refusal :=
  done s fun r =>
    if !r.monUp && r.u.glb.phase ≠ .run then r
    else
      let r := r.mon fun m => { m with baudWait := false }
      if r.u.mon.sweep.isSome || !r.monUp then
        let used := (r.u.mon.held.map fun l => l.length + 1).foldl (· + ·) 0
        if used + line.length + 1 ≤ 256 then r.mon fun m => { m with held := m.held ++ [line] }
        else r.mon fun m => { m with lostChars := true }
      else if r.u.mon.lostChars then (r.mon fun m => { m with lostChars := false }).monEnd 2
      else r.monLine line abort

/-- A command that the monitor has parsed; none runs while a sweep does. -/
def Run.monCommand (r : Run s₀) (c : MonCmd) (abort : Option Nat) : Run s₀ :=
  if !r.monUp || r.u.mon.sweep.isSome then r else r.monRun c abort

/-- HELP (Table 16-2). -/
def execHelp (s : State) : Host.Outcome State Fault Refusal := done s fun r => r.monCommand .help none

/-- VER (Table 16-2). -/
def execVer (s : State) : Host.Outcome State Fault Refusal := done s fun r => r.monCommand .ver none

/-- BAUD (R412). -/
def execBaud (c : Nat) (s : State) : Host.Outcome State Fault Refusal := done s fun r => r.monCommand (.baud c) none

/-- BAUD_TIMEOUT: no complete line arrived at the new rate within 2 s (R412). -/
def execBaudTimeout (s : State) : Host.Outcome State Fault Refusal :=
  done s fun r => if r.u.mon.baudWait then (r.wr MON_STATUS_BAUD 0).mon fun m => { m with baudWait := false } else r

/-- UNLOCK s (R415). -/
def execUnlock (slot : Nat) (s : State) : Host.Outcome State Fault Refusal := done s fun r => r.monCommand (.unlock slot) none

/-- UNLOCK RESP (R415). -/
def execUnlockResp (sig : List Byte) (s : State) : Host.Outcome State Fault Refusal := done s fun r => r.monCommand (.unlockResp sig) none

/-- UNLOCK_BAR_END: 60 s after the third failure in a row UNLOCK is accepted again (R415). -/
def execUnlockBarEnd (s : State) : Host.Outcome State Fault Refusal :=
  done s fun r => if r.u.mon.barred then r.mon fun m => { m with barred := false, wrongRow := 0 } else r

/-- LOCK (R414). -/
def execLock (s : State) : Host.Outcome State Fault Refusal := done s fun r => r.monCommand .lock none

/-- IDLE_LOCK: 600 s without a complete line (R414). -/
def execIdleLock (s : State) : Host.Outcome State Fault Refusal := done s Run.monLock

/-- DISABLE: a write of MON_CTL.DISABLE (Table 16-3). -/
def execDisable (v : Fin 2) (s : State) : Host.Outcome State Fault Refusal :=
  done s fun r => if r.served 0x1B00000 then (r.writeDisable v.val).monResume else r

/-- PEEK (Table 16-2). -/
def execPeek (off n : Nat) (s : State) : Host.Outcome State Fault Refusal := done s fun r => r.monCommand (.peek off n) none

/-- POKE (R418). -/
def execPoke (off v : Nat) (s : State) : Host.Outcome State Fault Refusal := done s fun r => r.monCommand (.poke off v) none

/-- MEMRD (Table 16-2). -/
def execMemrd (addr n : Nat) (abort : Option Nat) (s : State) : Host.Outcome State Fault Refusal :=
  done s fun r => r.monCommand (.memrd addr n) abort

/-- TRACE ON (R417). -/
def execTraceOn (lo hi : Nat) (post : Option Nat) (s : State) : Host.Outcome State Fault Refusal :=
  done s fun r => r.monCommand (.traceOn lo hi post) none

/-- TRACE OFF (R417). -/
def execTraceOff (s : State) : Host.Outcome State Fault Refusal := done s fun r => r.monCommand .traceOff none

/-- TRACE DUMP (R417). -/
def execTraceDump (s : State) : Host.Outcome State Fault Refusal := done s fun r => r.monCommand .traceDump none

/-- EYE (R416). -/
def execEye (lane : Nat) (sel : Fin 3) (dwell : Nat) (s : State) : Host.Outcome State Fault Refusal :=
  done s fun r => r.monCommand (.eye lane sel.val dwell) none

/-- BREACH (Table 16-2). -/
def execBreachDump (n : Nat) (abort : Option Nat) (s : State) : Host.Outcome State Fault Refusal :=
  done s fun r => r.monCommand (.breach n) abort

/-- INJECT (R418). -/
def execInject (e : Nat) (s : State) : Host.Outcome State Fault Refusal := done s fun r => r.monCommand (.inject e) none

/-- ABORT_CHARACTER: 0x03 during a sweep (R413). -/
def execAbortCharacter (s : State) : Host.Outcome State Fault Refusal := done s fun r => r.sweepAbort.monResume

/-- EYE_DONE: an eye-scan point ends; in a sweep the next one starts (R97, R416). -/
def execEyeDone (n : Fin 48) (errors : Nat) (s : State) : Host.Outcome State Fault Refusal :=
  done s fun r =>
    if (r.laneU n.val).eye = false then r
    else
      let r := r.eyeEnd n.val errors
      match r.u.mon.sweep with
      | some w => if w.lane = n.val then (r.sweepNext w (min errors 0x7FFFFFFF)).monResume else r
      | none => r

/-- The duties of a halted core resume on its partner (R400). -/
def execWardenFailover (k : Fin 4) (s : State) : Host.Outcome State Fault Refusal := done s fun r => ((r.wardenFailover k).recResume).monResume

/-- The new firmware runs and fetching resumes (R62). -/
def execFwActivated (image : List Byte) (s : State) : Host.Outcome State Fault Refusal := done s fun r => ((r.fwActivated image).recResume).monResume

/-- The previous firmware runs again (R63). -/
def execFwRolledBack (image : List Byte) (s : State) : Host.Outcome State Fault Refusal := done s fun r => ((r.fwRolledBack image).recResume).monResume

/-- REGISTER_WRITE: a write of 32 or 64 bits of BAR0 (R2, R3, R4). A misaligned access has no meaning in R3. -/
def execRegisterWrite (off : Nat) (wide : Bool) (v : Nat) (s : State) : Host.Outcome State Fault Refusal :=
  if alignedTo off wide then done s fun r => (r.hostWrite off wide v).monResume else .fault .unalignedAccess

end Sys2Proof.Machine
end

