-- ==== Sys2Proof/Machine/Dispatch.lean ====
section
/-!
DEFINITION. One arm per command: a direct call of the command's meaning, or a rejection by name.
-/
namespace Sys2Proof.Machine

def exec (i : Instr) (s : State) : Host.Outcome State Fault Refusal :=
  match i with
  | .registerWrite off wide v => Sys2Proof.Machine.execRegisterWrite off wide v s
  | .lowWordDiscard off => Sys2Proof.Machine.execLowWordDiscard off s
  | .latchRelease off => Sys2Proof.Machine.execLatchRelease off s
  | .referenceLost ref => Sys2Proof.Machine.execReferenceLost ref s
  | .referenceSwitch => Sys2Proof.Machine.execReferenceSwitch s
  | .referenceGood ref => Sys2Proof.Machine.execReferenceGood ref s
  | .pref ref => Sys2Proof.Machine.execPref ref s
  | .powerOnReset => Sys2Proof.Machine.execPowerOnReset s
  | .porRelease straps => Sys2Proof.Machine.execPorRelease straps s
  | .resetNAssert ns => Sys2Proof.Machine.execResetNAssert ns s
  | .resetNRise straps => Sys2Proof.Machine.execResetNRise straps s
  | .cold key => Sys2Proof.Machine.execCold key s
  | .warm key => Sys2Proof.Machine.execWarm key s
  | .pciePerstNAssert => Sys2Proof.Machine.execPciePerstNAssert s
  | .pcieHotReset => Sys2Proof.Machine.execPcieHotReset s
  | .functionLevelReset => Sys2Proof.Machine.execFunctionLevelReset s
  | .firmwareWatchdog => Sys2Proof.Machine.execFirmwareWatchdog s
  | .warmDriveDrainEnd => Sys2Proof.Machine.execWarmDriveDrainEnd s
  | .warmFirmwareRestart => Sys2Proof.Machine.execWarmFirmwareRestart s
  | .selfRefreshExit failed => Sys2Proof.Machine.execSelfRefreshExit failed s
  | .rootPllLock dir => Sys2Proof.Machine.execRootPllLock dir s
  | .firmwareLoadDone image => Sys2Proof.Machine.execFirmwareLoadDone image s
  | .dramTrainingDone failed => Sys2Proof.Machine.execDramTrainingDone failed s
  | .bitstreamReadDone image => Sys2Proof.Machine.execBitstreamReadDone image s
  | .ready => Sys2Proof.Machine.execReady s
  | .pcieLinkUp => Sys2Proof.Machine.execPcieLinkUp s
  | .len n => Sys2Proof.Machine.execLen n s
  | .recoveryCheckDone => Sys2Proof.Machine.execRecoveryCheckDone s
  | .clipRescue => Sys2Proof.Machine.execClipRescue s
  | .rescueWaitTimeout => Sys2Proof.Machine.execRescueWaitTimeout s
  | .loadBitstream h => Sys2Proof.Machine.execLoadBitstream h s
  | .reweaveCheckDone => Sys2Proof.Machine.execReweaveCheckDone s
  | .reweaveQuiescenceTimeout => Sys2Proof.Machine.execReweaveQuiescenceTimeout s
  | .reweaveQuiescent failure => Sys2Proof.Machine.execReweaveQuiescent failure s
  | .reweaveDone => Sys2Proof.Machine.execReweaveDone s
  | .deltaWoven => Sys2Proof.Machine.execDeltaWoven s
  | .ok => Sys2Proof.Machine.execOk s
  | .negotiateFeatures => Sys2Proof.Machine.execNegotiateFeatures s
  | .activateFirmware => Sys2Proof.Machine.execActivateFirmware s
  | .fwActivated image => Sys2Proof.Machine.execFwActivated image s
  | .fwRolledBack image => Sys2Proof.Machine.execFwRolledBack image s
  | .gpioEdge n level => Sys2Proof.Machine.execGpioEdge n level s
  | .smclkCtl n v => Sys2Proof.Machine.execSmclkCtl n v s
  | .privateWrite b addr len => Sys2Proof.Machine.execPrivateWrite b addr len s
  | .privateRead b addr len => Sys2Proof.Machine.execPrivateRead b addr len s
  | .broadcastCcc b ccc len => Sys2Proof.Machine.execBroadcastCcc b ccc len s
  | .directCccWrite b addr ccc len => Sys2Proof.Machine.execDirectCccWrite b addr ccc len s
  | .directCccRead b addr ccc len => Sys2Proof.Machine.execDirectCccRead b addr ccc len s
  | .entdaa b addr => Sys2Proof.Machine.execEntdaa b addr s
  | .i2cWrite b addr len => Sys2Proof.Machine.execI2cWrite b addr len s
  | .i2cRead b addr len => Sys2Proof.Machine.execI2cRead b addr len s
  | .i3cTransferEnd b err data => Sys2Proof.Machine.execI3cTransferEnd b err data s
  | .i2cStretchTimeout b data => Sys2Proof.Machine.execI2cStretchTimeout b data s
  | .ibiRequest b addr data => Sys2Proof.Machine.execIbiRequest b addr data s
  | .hotJoin b => Sys2Proof.Machine.execHotJoin b s
  | .ibiDataRead b => Sys2Proof.Machine.execIbiDataRead b s
  | .txdata u c => Sys2Proof.Machine.execTxdata u c s
  | .uartCharacterSent u => Sys2Proof.Machine.execUartCharacterSent u s
  | .uartCharacterReceived u c framing brk => Sys2Proof.Machine.execUartCharacterReceived u c framing brk s
  | .rxdataRead u => Sys2Proof.Machine.execRxdataRead u s
  | .rxIdle u => Sys2Proof.Machine.execRxIdle u s
  | .smbStatus pec => Sys2Proof.Machine.execSmbStatus pec s
  | .temp pec => Sys2Proof.Machine.execTemp pec s
  | .hot pec => Sys2Proof.Machine.execHot pec s
  | .smbMode pec => Sys2Proof.Machine.execSmbMode pec s
  | .ident pec => Sys2Proof.Machine.execIdent pec s
  | .serial pec => Sys2Proof.Machine.execSerial pec s
  | .smbWarm data pec => Sys2Proof.Machine.execSmbWarm data pec s
  | .alertMask data pec => Sys2Proof.Machine.execAlertMask data pec s
  | .alertMaskRead pec => Sys2Proof.Machine.execAlertMaskRead pec s
  | .alertResponse => Sys2Proof.Machine.execAlertResponse s
  | .smbNak code badPec => Sys2Proof.Machine.execSmbNak code badPec s
  | .cdrLock n => Sys2Proof.Machine.execCdrLock n s
  | .reachReceived n sym => Sys2Proof.Machine.execReachReceived n sym s
  | .commaLock n => Sys2Proof.Machine.execCommaLock n s
  | .lossOfLock n => Sys2Proof.Machine.execLossOfLock n s
  | .alignTimeout n => Sys2Proof.Machine.execAlignTimeout n s
  | .trainingMessage n msg => Sys2Proof.Machine.execTrainingMessage n msg s
  | .echoTimeout n => Sys2Proof.Machine.execEchoTimeout n s
  | .trainTimeout n => Sys2Proof.Machine.execTrainTimeout n s
  | .bitslip n => Sys2Proof.Machine.execBitslip n s
  | .slipDone n => Sys2Proof.Machine.execSlipDone n s
  | .accept n => Sys2Proof.Machine.execAccept n s
  | .retrain n => Sys2Proof.Machine.execRetrain n s
  | .loop n v => Sys2Proof.Machine.execLoop n v s
  | .prbsCtl n v => Sys2Proof.Machine.execPrbsCtl n v s
  | .start n => Sys2Proof.Machine.execStart n s
  | .eyeDone n errors => Sys2Proof.Machine.execEyeDone n errors s
  | .fs b seq vs fn tag ts tns tf left0 left1 => Sys2Proof.Machine.execFs b seq vs fn tag ts tns tf left0 left1 s
  | .lp b seq vs y x samples => Sys2Proof.Machine.execLp b seq vs y x samples s
  | .fe b seq vs fn lines => Sys2Proof.Machine.execFe b seq vs fn lines s
  | .emb b seq vs fn off data => Sys2Proof.Machine.execEmb b seq vs fn off data s
  | .st b seq vs status alarm temp => Sys2Proof.Machine.execSt b seq vs status alarm temp s
  | .reservedType b seq => Sys2Proof.Machine.execReservedType b seq s
  | .packetError l crc lp => Sys2Proof.Machine.execPacketError l crc lp s
  | .ack l seq => Sys2Proof.Machine.execAck l seq s
  | .nak l seq => Sys2Proof.Machine.execNak l seq s
  | .ackSend b => Sys2Proof.Machine.execAckSend b s
  | .nakResend b => Sys2Proof.Machine.execNakResend b s
  | .nakRestart b => Sys2Proof.Machine.execNakRestart b s
  | .resyncPoint l => Sys2Proof.Machine.execResyncPoint l s
  | .deskewDone b skew => Sys2Proof.Machine.execDeskewDone b skew s
  | .mapResend b => Sys2Proof.Machine.execMapResend b s
  | .relockWaitTimeout b => Sys2Proof.Machine.execRelockWaitTimeout b s
  | .restart b => Sys2Proof.Machine.execRestart b s
  | .fsTimeout v => Sys2Proof.Machine.execFsTimeout v s
  | .go v => Sys2Proof.Machine.execGo v s
  | .syncSend b => Sys2Proof.Machine.execSyncSend b s
  | .turnEnd ce => Sys2Proof.Machine.execTurnEnd ce s
  | .statsRecordWrite ctx => Sys2Proof.Machine.execStatsRecordWrite ctx s
  | .engineFault ce spent => Sys2Proof.Machine.execEngineFault ce spent s
  | .internalFaultResetDone u => Sys2Proof.Machine.execInternalFaultResetDone u s
  | .glbTideCommit mask => Sys2Proof.Machine.execGlbTideCommit mask s
  | .tideIdleApply => Sys2Proof.Machine.execTideIdleApply s
  | .pixTblGo => Sys2Proof.Machine.execPixTblGo s
  | .tableLoadDone => Sys2Proof.Machine.execTableLoadDone s
  | .feedBoundary g => Sys2Proof.Machine.execFeedBoundary g s
  | .rxs g v good => Sys2Proof.Machine.execRxs g v good s
  | .teEdge n => Sys2Proof.Machine.execTeEdge n s
  | .feedCompositionStart n => Sys2Proof.Machine.execFeedCompositionStart n s
  | .compositionDone n => Sys2Proof.Machine.execCompositionDone n s
  | .readbackCheck n crc => Sys2Proof.Machine.execReadbackCheck n crc s
  | .teTimeout n => Sys2Proof.Machine.execTeTimeout n s
  | .internalTe n => Sys2Proof.Machine.execInternalTe n s
  | .wakeDone n => Sys2Proof.Machine.execWakeDone n s
  | .forceFull n => Sys2Proof.Machine.execForceFull n s
  | .vfdCmdGo n => Sys2Proof.Machine.execVfdCmdGo n s
  | .panelResponse n bad data => Sys2Proof.Machine.execPanelResponse n bad data s
  | .panelResponseTimeout n => Sys2Proof.Machine.execPanelResponseTimeout n s
  | .encOpen n => Sys2Proof.Machine.execEncOpen n s
  | .close n => Sys2Proof.Machine.execClose n s
  | .pictureStart n => Sys2Proof.Machine.execPictureStart n s
  | .ctuCoded n beta coded => Sys2Proof.Machine.execCtuCoded n beta coded s
  | .pictureDone n size => Sys2Proof.Machine.execPictureDone n size s
  | .outRd n v => Sys2Proof.Machine.execOutRd n v s
  | .decStart => Sys2Proof.Machine.execDecStart s
  | .decStop => Sys2Proof.Machine.execDecStop s
  | .decInWr v => Sys2Proof.Machine.execDecInWr v s
  | .decStarved => Sys2Proof.Machine.execDecStarved s
  | .decodedPicture n p => Sys2Proof.Machine.execDecodedPicture n p s
  | .cpl l seq p tag status blocks info => Sys2Proof.Machine.execCpl l seq p tag status blocks info s
  | .magData l seq p tag off data => Sys2Proof.Machine.execMagData l seq p tag off data s
  | .drvStatus l p st alarm progress qfree temp => Sys2Proof.Machine.execDrvStatus l p st alarm progress qfree temp s
  | .hopAckSend l => Sys2Proof.Machine.execHopAckSend l s
  | .hopNakResend l => Sys2Proof.Machine.execHopNakResend l s
  | .replayExhausted l => Sys2Proof.Machine.execReplayExhausted l s
  | .relockWindow l => Sys2Proof.Machine.execRelockWindow l s
  | .heartbeatLost d => Sys2Proof.Machine.execHeartbeatLost d s
  | .commandTimeout d tag => Sys2Proof.Machine.execCommandTimeout d tag s
  | .magazineIdentified m => Sys2Proof.Machine.execMagazineIdentified m s
  | .failedLaneRetry l => Sys2Proof.Machine.execFailedLaneRetry l s
  | .stripeIssue => Sys2Proof.Machine.execStripeIssue s
  | .changeNow => Sys2Proof.Machine.execChangeNow s
  | .armRecord => Sys2Proof.Machine.execArmRecord s
  | .recordStart => Sys2Proof.Machine.execRecordStart s
  | .recordStop => Sys2Proof.Machine.execRecordStop s
  | .mark => Sys2Proof.Machine.execMark s
  | .packSlice => Sys2Proof.Machine.execPackSlice s
  | .offload h => Sys2Proof.Machine.execOffload h s
  | .rebuild m ring slot d => Sys2Proof.Machine.execRebuild m ring slot d s
  | .sqTail q v => Sys2Proof.Machine.execSqTail q v s
  | .cqHead q v => Sys2Proof.Machine.execCqHead q v s
  | .en => Sys2Proof.Machine.execEn s
  | .qifDisable => Sys2Proof.Machine.execQifDisable s
  | .adminReset => Sys2Proof.Machine.execAdminReset s
  | .fetchRead => Sys2Proof.Machine.execFetchRead s
  | .entriesFetched data => Sys2Proof.Machine.execEntriesFetched data s
  | .commandDispatch => Sys2Proof.Machine.execCommandDispatch s
  | .coalesceTimeout q => Sys2Proof.Machine.execCoalesceTimeout q s
  | .msixUnmask v => Sys2Proof.Machine.execMsixUnmask v s
  | .identify h => Sys2Proof.Machine.execIdentify h s
  | .createQueue => Sys2Proof.Machine.execCreateQueue s
  | .deleteQueue => Sys2Proof.Machine.execDeleteQueue s
  | .resetQueue => Sys2Proof.Machine.execResetQueue s
  | .getLog h => Sys2Proof.Machine.execGetLog h s
  | .setEventRoute => Sys2Proof.Machine.execSetEventRoute s
  | .sanitise => Sys2Proof.Machine.execSanitise s
  | .format => Sys2Proof.Machine.execFormat s
  | .clipOpen => Sys2Proof.Machine.execClipOpen s
  | .readExtent h => Sys2Proof.Machine.execReadExtent h s
  | .writeExtent h => Sys2Proof.Machine.execWriteExtent h s
  | .flush => Sys2Proof.Machine.execFlush s
  | .visionFetch h changed => Sys2Proof.Machine.execVisionFetch h changed s
  | .proxyFetch h => Sys2Proof.Machine.execProxyFetch h s
  | .blockAccess c arrived busy waited result => Sys2Proof.Machine.execBlockAccess c arrived busy waited result s
  | .refresh c bank => Sys2Proof.Machine.execRefresh c bank s
  | .driftCheck c => Sys2Proof.Machine.execDriftCheck c s
  | .memRetrain v => Sys2Proof.Machine.execMemRetrain v s
  | .retrainStepDone c ok last => Sys2Proof.Machine.execRetrainStepDone c ok last s
  | .dmaGo n => Sys2Proof.Machine.execDmaGo n s
  | .dmaStop n moved => Sys2Proof.Machine.execDmaStop n moved s
  | .move n => Sys2Proof.Machine.execMove n s
  | .moveDone n k data => Sys2Proof.Machine.execMoveDone n k data s
  | .loopInstr n => Sys2Proof.Machine.execLoopInstr n s
  | .wait n => Sys2Proof.Machine.execWait n s
  | .signal n => Sys2Proof.Machine.execSignal n s
  | .endInstr n => Sys2Proof.Machine.execEndInstr n s
  | .dmaSem k v => Sys2Proof.Machine.execDmaSem k v s
  | .waitTimeout n => Sys2Proof.Machine.execWaitTimeout n s
  | .incr n v => Sys2Proof.Machine.execIncr n v s
  | .step n v => Sys2Proof.Machine.execStep n v s
  | .compUpdate => Sys2Proof.Machine.execCompUpdate s
  | .servoMeasurement n offset => Sys2Proof.Machine.execServoMeasurement n offset s
  | .sourceLost n => Sys2Proof.Machine.execSourceLost n s
  | .ptpMessage m => Sys2Proof.Machine.execPtpMessage m s
  | .ethLink n up => Sys2Proof.Machine.execEthLink n up s
  | .genlockEdge => Sys2Proof.Machine.execGenlockEdge s
  | .ppsEdge => Sys2Proof.Machine.execPpsEdge s
  | .syncOutPulse => Sys2Proof.Machine.execSyncOutPulse s
  | .ppsOutPulse => Sys2Proof.Machine.execPpsOutPulse s
  | .src b => Sys2Proof.Machine.execSrc b s
  | .tselRevert => Sys2Proof.Machine.execTselRevert s
  | .slewDone => Sys2Proof.Machine.execSlewDone s
  | .resync => Sys2Proof.Machine.execResync s
  | .forceEst => Sys2Proof.Machine.execForceEst s
  | .timSnap => Sys2Proof.Machine.execTimSnap s
  | .audStart p => Sys2Proof.Machine.execAudStart p s
  | .audStop p => Sys2Proof.Machine.execAudStop p s
  | .tdmFrame p maskAge words => Sys2Proof.Machine.execTdmFrame p maskAge words s
  | .frameSyncLost p => Sys2Proof.Machine.execFrameSyncLost p s
  | .ratioUpdate p ratio => Sys2Proof.Machine.execRatioUpdate p ratio s
  | .mediaFrame p => Sys2Proof.Machine.execMediaFrame p s
  | .audWr p v => Sys2Proof.Machine.execAudWr p v s
  | .thermalReading readings => Sys2Proof.Machine.execThermalReading readings s
  | .leveeFall => Sys2Proof.Machine.execLeveeFall s
  | .thermalTrip => Sys2Proof.Machine.execThermalTrip s
  | .tripRelease straps => Sys2Proof.Machine.execTripRelease straps s
  | .wardenWatchdog k => Sys2Proof.Machine.execWardenWatchdog k s
  | .wardenFault k => Sys2Proof.Machine.execWardenFault k s
  | .wardenFailover k => Sys2Proof.Machine.execWardenFailover k s
  | .evtEnable k v => Sys2Proof.Machine.execEvtEnable k v s
  | .evtStatusClear k v => Sys2Proof.Machine.execEvtStatusClear k v s
  | .evtInject e => Sys2Proof.Machine.execEvtInject e s
  | .eventCrossingAck e => Sys2Proof.Machine.execEventCrossingAck e s
  | .monitorLine line abort => Sys2Proof.Machine.execMonitorLine line abort s
  | .help => Sys2Proof.Machine.execHelp s
  | .ver => Sys2Proof.Machine.execVer s
  | .baud c => Sys2Proof.Machine.execBaud c s
  | .baudTimeout => Sys2Proof.Machine.execBaudTimeout s
  | .unlock slot => Sys2Proof.Machine.execUnlock slot s
  | .unlockResp sig => Sys2Proof.Machine.execUnlockResp sig s
  | .unlockBarEnd => Sys2Proof.Machine.execUnlockBarEnd s
  | .lock => Sys2Proof.Machine.execLock s
  | .idleLock => Sys2Proof.Machine.execIdleLock s
  | .disable v => Sys2Proof.Machine.execDisable v s
  | .peek off n => Sys2Proof.Machine.execPeek off n s
  | .poke off v => Sys2Proof.Machine.execPoke off v s
  | .memrd addr n abort => Sys2Proof.Machine.execMemrd addr n abort s
  | .traceOn lo hi post => Sys2Proof.Machine.execTraceOn lo hi post s
  | .traceOff => Sys2Proof.Machine.execTraceOff s
  | .traceDump => Sys2Proof.Machine.execTraceDump s
  | .eye lane sel dwell => Sys2Proof.Machine.execEye lane sel dwell s
  | .breachDump n abort => Sys2Proof.Machine.execBreachDump n abort s
  | .inject e => Sys2Proof.Machine.execInject e s
  | .abortCharacter => Sys2Proof.Machine.execAbortCharacter s
  | .registerRead off wide => Sys2Proof.Machine.execRegisterRead off wide s
  | .bar2Access off len data => Sys2Proof.Machine.execBar2Access off len data s
  | .pciePerstNRelease => Sys2Proof.Machine.execPciePerstNRelease s
  | .configurationRequest busMaster d3hot => Sys2Proof.Machine.execConfigurationRequest busMaster d3hot s
  | .internalFault f => Sys2Proof.Machine.execInternalFault f s
  | .timeBaseFault n => Sys2Proof.Machine.execTimeBaseFault n s
  | .laneSelfCheckEnd n => Sys2Proof.Machine.execLaneSelfCheckEnd n s
  | .feedLaneRetry j => Sys2Proof.Machine.execFeedLaneRetry j s
  | .prbsCheck n received => Sys2Proof.Machine.execPrbsCheck n received s
  | .ptpMessageTransmit d delayReq => Sys2Proof.Machine.execPtpMessageTransmit d delayReq s

end Sys2Proof.Machine
end

