-- ==== Sys2Proof/Machine/LaneTx.lean ====
section
/-!
DEFINITION. What the transmit halves of the lanes send: reaches back to back (R74, Table 03-7), the words of a stream in its
lanes' DATA reaches (R102 to R105), and test patterns (R95). The reaches of one rate start together, on a grid that the
model's count of cycles fixes (assumption 47).
-/
namespace Sys2Proof.Machine
variable {s₀ : State}

/-- A reach of a transmit half starts in the CCLK cycle that ends now: every 16,384 symbols of 7 GBd, or of 28 GBd (R74). -/
def Run.reachDue (r : Run s₀) (slow : Bool) : Bool := 14 * r.now % (if slow then 16384 else 4096) < 14

/-- Symbols leave at the pins of a lane, inverted as TX_INV says (R73). -/
def Run.txSymbols (r : Run s₀) (n : Nat) (l : List Nat) : Run s₀ :=
  r.emit (.reach n (invert (r.rd (LNK_CTL_TX_MODE n) == 1) (r.on (LNK_CTL_TX_INV n)) l))

/-- A reach of a TYPE leaves with data bits, under the lane's position and RX_LOCK (R78, R81). -/
def Run.txReach (r : Run s₀) (n type phase : Nat) (data : List Bool) : Run s₀ :=
  r.txSymbols n (reachSymbols (r.rd (LNK_CTL_TX_MODE n) == 1) type (r.laneU n).pos phase (r.on (LNK_STATUS_RX_LOCK n)) data)

/-- The lane sends TRAIN reaches (Table 03-7, R89). -/
def Run.txTrains (r : Run s₀) (n : Nat) : Bool :=
  let st := r.laneState n
  st == 1 || (st == 2 && !r.on (LNK_STATUS_TRAINED n)) || (st == 3 && !(r.laneU n).trained)

/-- The lane has left TRAIN reaches and may carry data (Table 03-7, R89). -/
def Run.txOpen (r : Run s₀) (n : Nat) : Bool := r.laneState n == 4 || (r.laneState n == 3 && (r.laneU n).trained)

/-- The lanes that send a stream, in the order of their positions: the lane that holds position 0 for the return stream of a
bundle in DESKEW, UP or RESYNC (R104), the lane of a hop (R242), the lanes of a feed group (R181). -/
def Run.txLanes (r : Run s₀) (dest : Nat) : List Nat :=
  if dest < 80 then (if r.bndRuns (dest - 64) then (r.bnd (dest - 64)).map.take 1 else [])
  else if dest < 128 then groupLanes (r.cfg 0x0703 (dest - 80))
  else if r.laneFree (dest - 104) then [] else [dest - 104]

/-- The next stream bits of a lane: what is left of its word, then whole words; the bits of a last word that the reach cannot
hold are left for the next one (R78, R102). -/
def Run.txData (r : Run s₀) (n cap : Nat) (words : List Nat) : Run s₀ :=
  let left := (r.laneU n).left
  let bs := left ++ words.flatMap (lsbBits 64)
  (r.txReach n 1 left.length (bs.take cap)).laneMod n fun l => { l with left := bs.drop cap }

/-- One reach of a stream: IDLE reaches while it does not run, and the first time that it can; then DATA reaches, in which the
words of the queue lie on the positions in turn and IDLE words fill what the queue leaves (R99, R102, R104, R105). -/
def Run.txStream (r : Run s₀) (dest : Nat) : Run s₀ :=
  let lanes := r.txLanes dest
  let t := r.txU dest
  let up := !lanes.isEmpty && lanes.all r.txOpen
  if !up || !t.going then
    let r := r.txMod dest fun t => { words := if up then t.words else [], going := up }
    r.each lanes fun n r => r.when (r.txOpen n) fun r => (r.laneMod n fun l => { l with left := [] }).txReach n 0 0 []
  else
    let w := lanes.length
    let n0 := lanes.headD 0
    let cap := if r.rd (LNK_CTL_TX_MODE n0) = 1 then 31272 else 15636
    let k := ceilDiv (cap - (r.laneU n0).left.length) 64
    let words := t.words.take (k * w)
    let r := r.txMod dest fun t => { t with words := t.words.drop (k * w) }
    r.each (lanes.zip (List.range w)) fun p r => r.txData p.1 cap ((List.range k).map fun i => words.getD (i * w + p.2) 0)

/-- The reach of a lane in TEST that runs in no loop: the generator's bits, or an IDLE reach without one (R95). -/
def Run.txTest (r : Run s₀) (n : Nat) : Run s₀ :=
  if r.on (LNK_LOOP_LOOP n) then r
  else if r.on (LNK_PRBS_CTL_GEN_SEL n) then
    let pam := r.rd (LNK_CTL_TX_MODE n) == 1
    r.prbsTake n (if pam then 32768 else 16384) fun l r => r.txSymbols n (bitSymbols pam l)
  else r.txReach n 0 0 []

/-- The lane carries no stream: it is a position lane's idle return half, a spare or a free lane (R94, R104). -/
def Run.txAlone (r : Run s₀) (n : Nat) : Bool :=
  if n < 24 then !(List.range 8).any fun b => (r.txLanes (64 + b)).contains n
  else if n < 40 then r.laneFree n
  else (r.groupOf n).isNone

/-- The reach of a lane apart from streams (Table 03-7). -/
def Run.txLane (r : Run s₀) (n : Nat) : Run s₀ :=
  let st := r.laneState n
  if st = 0 ∨ st = 7 then r
  else if st = 6 then r.txTest n
  else if r.txTrains n then r.txReach n 2 0 ((List.replicate 510 (lsbBits 64 (r.trainNow n))).flatMap id)
  else if r.txOpen n && !r.txAlone n then r
  else r.txReach n 0 0 []

/-- The transmit halves of one rate send a reach each: the return halves of intake lanes, or all others. -/
def Run.txReaches (r : Run s₀) (slow : Bool) : Run s₀ :=
  if r.reachDue slow then
    let r := r.each ((List.range 48).filter fun n => decide (n < 24) == slow) fun n r => r.txLane n
    r.each (if slow then (List.range 8).map (64 + ·) else (List.range 3).map (80 + ·) ++ (List.range 16).map (128 + ·)) fun d r => r.txStream d
  else r

/-- One CCLK cycle in which no command waits: the time bases and Δ move, frames of the cycle before join the clip (R274), and the lanes
send (assumptions 2 and 47). -/
def Run.idleCycle (r : Run s₀) : Run s₀ := (r.cycle.clipCycle.txReaches true).txReaches false

end Sys2Proof.Machine
end

