-- ==== Sys2Proof/Machine/Step.lean ====
section
/-!
DEFINITION. One step: the command at the front of the queue, or one CCLK cycle while none waits.
-/
namespace Sys2Proof.Machine

/-- The command at the front of the queue runs on the state with the queue's rest. With nothing waiting one CCLK cycle
passes, in which the time bases and Δ move and the lanes' transmit halves send (assumptions 2 and 47). -/
def step (s : State) : Host.Outcome State Fault Refusal :=
  match s.pending with
  | [] => done s Run.idleCycle
  | c :: rest => exec c { s with pending := rest }

/-- The command that a word spells, put at the front of the queue; no word spells one. -/
def State.withFetchWord (s : State) (nbits w : Nat) : State :=
  match Sys2Proof.decodeTableWord nbits w with
  | some c => { s with pending := c :: s.pending }
  | none => s

end Sys2Proof.Machine
end

