-- ==== Sys2Proof/Safety.lean ====
section
/-!
DEFINITION. What counts as a safe step: one that neither stops nor breaks the shape of the state; the status of an event; and
what a command leaves unchanged.
-/
namespace Sys2Proof.Machine

/-- The tables of the state are in canonical form: register keys rise, DRAM addresses rise and no listed byte equals what
an unlisted address reads as. -/
def State.Inv (s : State) : Prop := Tab.rising s.regs = true ∧ Tab.rising s.act = true ∧ Mem.wf s.mem = true

/-- A step answers a next state that keeps the invariant. -/
def SafeStep (s : State) : Prop := ∃ t, step s = .next t ∧ t.Inv

/-- The status bit of event e is 1 (R408). -/
def State.status (s : State) (e : Nat) : Bool := bit (s.rd (EVT_STATUS (e / 32))) (e % 32)

/-- Event e has been seen: its status bit is 1, or an occurrence merged into a crossing in progress and set OVERRUN (R408, R409). -/
def State.seen (s : State) (e : Nat) : Bool := s.status e || bit (s.rd (EVT_OVERRUN (e / 32))) (e % 32)

/-- The registers that the occurrence of an event may change beside a command's own: EVT_STATUS_k, EVT_OVERRUN_k, QIF_PBA,
MON_STATUS.TRACE and GLB_SMB_STATUS.PENDING (R408, R409, R300, R417, R70). -/
def eventKey (k : Nat) : Bool :=
  (0x100000 * 8 ≤ k && k < 0x100040 * 8) || (0x100080 * 8 ≤ k && k < 0x1000C0 * 8) || k == QIF_PBA.key || k == MON_STATUS_TRACE.key
    || k == GLB_SMB_STATUS_PENDING.key

/-- The units without what the occurrence of an event may change (crossings, trace, pins, messages, the SMBus alert line) and without
the words that wait for the lanes' transmit halves, which follow the packets that leave. -/
def Units.quiet (u : Units) : Units :=
  { u with tx := []
           evt := { u.evt with crossing := [], trace := [], traceN := 0, traceLeft := none, pins := 0, sent := [], setCycle := 0, setBits := [] }
           glb := { u.glb with smbReleased := false, smbLow := false } }

/-- Beside the events a command raises: every register field outside the keys `p`, shadow and active, keeps its value; every byte
of DRAM outside `m` reads as before; the queue and the cycle are as before; and so are the units, up to what `h` forgets of
them. -/
def State.KeepsBut (s t : State) (p : Nat → Bool) (m : Nat → Bool) (h : Units → Units) : Prop :=
  (∀ f : Fld, p f.key = false → eventKey f.key = false → t.rd f = s.rd f ∧ t.rdA f = s.rdA f)
    ∧ (∀ a, m a = false → Mem.get t.mem a = Mem.get s.mem a) ∧ t.pending = s.pending ∧ t.now = s.now ∧ h t.u.quiet = h s.u.quiet

/-- `KeepsBut` for a command that stores nothing in DRAM. -/
def State.Keeps (s t : State) (p : Nat → Bool) (h : Units → Units) : Prop := s.KeepsBut t p (fun _ => false) h

/-- The keys of some fields. -/
def own (l : List Fld) (k : Nat) : Bool := l.any fun f => f.key == k

/-- The keys of the registers at offsets `a` to `b - 1`. -/
def span (a b : Nat) (k : Nat) : Bool := a * 8 ≤ k && k < b * 8

/-- Time base n beside its registers: its count in units of 2^-32 ns and its servo's counters (R362, R367). -/
def State.base (s : State) (n : Nat) : Tb := s.u.tim.tb.look n {}

/-- TSEL in units of 2^-32 ns (R374). -/
def State.tsel (s : State) : Nat := (Run.start s).tselQ

/-- The registers that a breach record or a cofferdam changes: EVT_BREACH_SEQ, EVT_COFFERDAM_LANES, EVT_COFFERDAM_UNITS,
EVT_SERVICE and THM_RETIRED (R394, R401). -/
def retireKey (k : Nat) : Bool := span 0x100110 0x100128 k || k == THM_RETIRED.key

/-- BAR0 serves an offset: always in GLB, elsewhere from READY on (R45). -/
def State.serves (s : State) (o : Nat) : Bool := s.rd GLB_BOOT_STATUS_READY != 0 || o < 0x100000

/-- What a write of `v` leaves in a field of width `w` under its access code (Table 00-2). -/
def written (a : Acc) (old v w : Nat) : Nat :=
  match a with
  | .rw | .sh => v % 2 ^ w
  | .w1c => (old - (old &&& v % 2 ^ w)) % 2 ^ w
  | .w1s => (old ||| v % 2 ^ w) % 2 ^ w
  | .ro | .wo | .rc => old

/-- The registers whose writes do more than store their fields. -/
def registersWithEffects : List String :=
  ["GLB_FEAT_DRV", "GLB_FEAT_CTL", "GLB_RECOVERY", "GLB_RESET_CTL", "CLK_REF_CTL", "MON_CTL", "QIF_CTL", "QIF_ADMIN_DEPTH",
   "QIF_ADMIN_SQ_BASE", "QIF_ADMIN_CQ_BASE", "QIF_SQ_TAIL", "QIF_CQ_HEAD", "QIF_MSIX", "GLB_GPIO_DIR", "GLB_GPIO_OUT", "GLB_GPIO_FUNC",
   "GLB_SMCLK_CTL", "GLB_I3C_CTL", "GLB_I3C_CMD", "GLB_UART_CTL", "GLB_UART_TXDATA", "EVT_STATUS", "EVT_ENABLE", "EVT_INJECT", "EVT_ROUTE",
   "THM_LEVEE", "TIM_TB_CTL", "TIM_TB_INCR", "TIM_TB_STEP", "TIM_TSEL_CTL", "TIM_SNAP", "TIM_COMP_CTL", "NET_PTP_CFG", "AUD_CTL", "AUD_WR"]
    ++ ["LNK_CTL", "LNK_ALIGN", "LNK_TRAIN", "LNK_LOOP", "LNK_PRBS_CTL", "LNK_EYE_CTL", "ITK_BND_CTL", "ITK_VS_SET_CTL", "VFD_CTL",
   "VFD_CMD_CTL", "ENC_CTL", "ENC_OUT_RD", "DEC_CTL", "DEC_IN_WR", "PIX_TBL_CTL", "MAG_CTL", "DMA_CTL", "DMA_PC", "DMA_SEM", "MEM_NRR",
   "MEM_RETRAIN", "GLB_TIDE_COMMIT", "ENC_SEQ", "ENC_GOP", "ENC_RATE", "ENC_CPB", "ENC_INIT_DELAY", "ENC_FPS"]

/-- The registers whose reads compute a value or take one out of a queue. -/
def registersComputed : List String :=
  ["GLB_GPIO_IN", "GLB_UART_RXDATA", "GLB_I3C_IBI_DATA", "TIM_TC_NOW", "NET_ETH_MAC"]

/-- One thing has left the block between two states. -/
def State.sends (s t : State) (o : Out) : Prop := t.out = o :: s.out

/-- `t` follows `s` through a cold reset for a cause (Table 02-3): the cause and CLK, the SMBus target and the GPIO levels stay, every
other field is at its reset value, DRAM has lost its contents and the device is held. GLB_FEAT_DEV_0 follows the key slots (R59). -/
def State.ColdReset (s t : State) (cause : Fld) : Prop :=
  t.rd cause = 1 ∧ t.rd GLB_RESET_CAUSE_CLIP_RESCUE_PENDING = 0 ∧ t.mem = [] ∧ t.u.glb.phase = .held ∧ t.u.glb.keys = s.u.glb.keys
    ∧ (∀ f : Fld, f.key ≠ cause.key → f.key ≠ GLB_RESET_CAUSE_CLIP_RESCUE_PENDING.key → eventKey f.key = false →
        f.key ≠ (GLB_FEAT_DEV_FEAT 0).key → t.rd f = if coldKeeps f.key then s.rd f else f.rst)
    ∧ t.pending = s.pending ∧ t.now = s.now

/-- `t` follows `s` through time 0 of a warm reset for a cause (Table 02-5): the cause, WARM and READY, the drain begins; DRAM and
every block but GLB_BOOT_STATUS, GLB_RESET_CAUSE, LNK, ITK and MON are as before, and so are the units but GLB, ITK, MAG, the
monitor, the lanes and the frames. -/
def State.WarmReset (s t : State) (cause : Fld) : Prop :=
  t.rd cause = 1 ∧ t.rd GLB_BOOT_STATUS_WARM = 1 ∧ t.rd GLB_BOOT_STATUS_READY = 0 ∧ t.u.glb.phase = .warmDrain ∧ t.u.itk.stop = true
    ∧ t.rd MON_STATUS_UNLOCKED = 0
    ∧ s.Keeps t (fun k => span 0x500000 0xA00000 k || own [cause, GLB_BOOT_STATUS_WARM, GLB_BOOT_STATUS_READY,
        GLB_RESET_CAUSE_CLIP_RESCUE_PENDING, MON_STATUS_UNLOCKED, MON_STATUS_KEY_SLOT] k)
        fun u => { u with glb := {}, itk := {}, magu := {}, mon := {}, lane := [], frames := [] }

/-- The phases in which a warm-reset trigger starts the sequence of Table 02-5. -/
def State.runs (s : State) : Bool := List.contains [Phase.run, .warmDrain, .warmFw, .warmDram] s.u.glb.phase

/-- Command c is the oldest started one of its opcode that nothing holds back, its queue is not being reset (R305, R327). -/
abbrev State.issued (s : State) (opc : Nat) (c : Cmd) : Prop :=
  (Run.start s).startedCmd opc = some c ∧ s.u.qif.cmds.find? (fun x => x.no == c.no) = some c ∧ c.aborted = false ∧ s.u.qif.resets = []

/-- The completion entry of command c: RESULT, SQ_HEAD, QID, CID, STATUS, and FLAGS with DURABLE and PHASE, at the CQ's next place
(Table 12-3). -/
def State.entry (s : State) (c : Cmd) (status result : Nat) (durable : Bool) : Out :=
  let x := s.u.qif.q.look c.q {}
  .hostWrite (x.cq + 16 * x.cqTail)
    (le 8 result ++ le 2 x.head ++ le 2 c.q ++ le 2 (c.f 2 2) ++ le 1 status ++ le 1 (b2n durable + 128 * b2n x.phase))

/-- A request for host memory has been issued in a next state, or waits there in order while the device may issue none (R293,
assumption 58). -/
def State.toHost (t : State) (o : Out) : Prop := if (Run.start t).mayRequest = true then o ∈ t.out else o ∈ t.u.qif.gated

/-- Bytes have gone to the pieces of a command's buffer between two states, or wait to go (R307, R324). -/
def State.scattered (s t : State) (segs : List (Nat × Nat)) (bs : List Byte) (noSnoop : Bool) : Prop :=
  let r := (Run.start s).scatter segs bs noSnoop
  r.st.out ⊆ t.out ∧ r.u.qif.gated ⊆ t.u.qif.gated

/-- Command c has completed between two states: its entry is written, it waits no more, and its CQ has moved on, PHASE changing at
the wrap (R297, R303). -/
def State.Completed (s t : State) (c : Cmd) (status result : Nat) : Prop :=
  let x := s.u.qif.q.look c.q {}
  t.toHost (s.entry c status result false) ∧ t.u.qif.cmds = s.u.qif.cmds.filter (fun y => y.no != c.no)
    ∧ (t.u.qif.q.look c.q {}).cqTail = (if x.cqTail + 1 = x.depth then 0 else x.cqTail + 1)
    ∧ (t.u.qif.q.look c.q {}).phase = (x.phase != (x.cqTail + 1 == x.depth))

/-- The registers that show a queue's indices. -/
def queueKeys (q : Nat) : Nat → Bool := own [QIF_Q_INDEX_SQ_HEAD q, QIF_Q_INDEX_CQ_TAIL q, QIF_Q_INDEX_PHASE q, QIF_Q_STATUS_INFLIGHT q]

/-- The registers of PAK and MAG. -/
def magKeys : Nat → Bool := span 0x1200000 0x1400000

/-- The registers of serial lane n. -/
def laneKeys (n : Nat) : Nat → Bool := span (0x500000 + 0x1000 * n) (0x500000 + 0x1000 * (n + 1))

/-- Every magazine's geometry names rings and drives by the numbers of one byte that labels and records hold (R247, R272). -/
abbrev State.geoOk (s : State) : Prop := ∀ x ∈ s.u.magu.mag, ∀ g ∈ x.2.geo, g.idx < 256 ∧ ∀ d ∈ g.members, d < 256

/-- MAG and the host's access to clips have nothing in progress: no segment, job, staged write, close, flush, rebuild or
operation. -/
abbrev State.magQuiet (s : State) : Prop :=
  s.u.magu.segs = [] ∧ s.u.qif.jobs = [] ∧ s.u.qif.staged = [] ∧ s.u.qif.closes = [] ∧ s.u.qif.flushes = [] ∧ s.u.qif.rebuild = none
    ∧ ∀ m < 2, (s.u.magu.mag.look m {}).opCmd = none ∧ (s.u.magu.mag.look m {}).follow = false

/-- The units without MAG's part and the breach log. -/
def Units.noMag (u : Units) : Units := { u with magu := {}, evt := { u.evt with log := [] } }

/-- The newest records of the breach log hold one of a TYPE, INDEX and DETECTOR, with its class and action unless the fault
may have merged into a record that stood there before (Table 15-7, R401). -/
def State.logged (s t : State) (type index cls detector action : Nat) : Bool :=
  let fits := fun (b : Breach) => b.type == type && b.index == index && b.detector == detector
  t.u.evt.log.any fun b => fits b && (b.cls == cls && b.action == action || s.u.evt.log.any fits)

/-- Hop l asks for a replay between two states: a NAK for the expected SEQ leaves and is counted, and words are discarded (R108,
R245). -/
def State.HopNaks (s t : State) (l : Nat) : Prop :=
  let h := s.u.magu.hop.look l {}
  s.sends t (.packet (128 + l) 0x11 [0, 0, h.rx] (packetBytes 0x11 0 0 h.rx [])) ∧ t.u.magu.hop.look l {} = { h with discard := true }
    ∧ t.rd (MAG_LINK_STATUS_NAK_COUNT l) = s.rd (MAG_LINK_STATUS_NAK_COUNT l) + 1
    ∧ t.rd (MAG_LINK_ERR_NAKS_TX l) = min (s.rd (MAG_LINK_ERR_NAKS_TX l) + 1) (2 ^ (MAG_LINK_ERR_NAKS_TX l).w - 1)
    ∧ s.Keeps t (own [MAG_LINK_STATUS_NAK_COUNT l, MAG_LINK_ERR_NAKS_TX l]) fun u => { u with magu := { u.magu with hop := [] } }

/-- The record writes on no magazine of drive d, or the drive is no member: a fault of it removes nothing (R262, R268). -/
abbrev State.idleDrive (s : State) (d : Nat) : Prop :=
  s.rd (MAG_DRV_STATUS_REMOVED d) = 0
    ∧ (s.rd (MAG_DRV_STATUS_MEMBER d) = 0 ∨ (Run.start s).recordsOn ((Run.start s).magOfDrive d) = false)

/-- Drive d, in slot `j` of ring `g` on a magazine that is armed or recording, is removed for a cause between two states
(R262, R263): REMOVED, REMOVE_CAUSE, the lost slot, the ring's state, its event and its breach record. -/
def State.Removes (s t : State) (d cause : Nat) (g : Geo) (j : Nat) : Prop :=
  let lost := s.rd (MAG_RING_LOST_LOST g.idx) ||| 2 ^ j
  t.rd (MAG_DRV_STATUS_REMOVED d) = 1 ∧ t.rd (MAG_DRV_STATUS_REMOVE_CAUSE d) = cause ∧ t.rd (MAG_RING_LOST_LOST g.idx) = lost
    ∧ t.rd (MAG_RING_STATUS_LOST_COUNT g.idx) = popcount 32 lost ∧ t.rd (MAG_RING_STATUS_STATE g.idx) = (if popcount 32 lost ≤ g.m then 2 else 3)
    ∧ t.seen (336 + d) = true ∧ s.logged t 4 d 2 cause 3 = true

/-- Drive d is the member in slot `j` of ring `g` of a magazine that is armed or recording. -/
abbrev State.memberAt (s : State) (d : Nat) (g : Geo) (j : Nat) : Prop :=
  s.rd (MAG_DRV_STATUS_REMOVED d) = 0 ∧ s.rd (MAG_DRV_STATUS_MEMBER d) ≠ 0 ∧ s.rd (MAG_DRV_STATUS_RING d) = g.idx ∧ s.rd (MAG_DRV_STATUS_SLOT d) = j
    ∧ g.idx < 4 ∧ j < 32 ∧ s.rd (MAG_RING_LOST_LOST g.idx) < 2 ^ 32 ∧ (Run.start s).recordsOn ((Run.start s).magOfDrive d) = true
    ∧ (((Run.start s).magz ((Run.start s).magOfDrive d)).geo.find? fun x => x.idx == g.idx) = some g

/-- How many chunks of magazine stripe g some member can give (R249). -/
def State.givers (s : State) (m g : Nat) : Nat := ((List.range 34).filter fun c => ((Run.start s).chunkDrive m g c).isSome).length

/-- Command c has begun its work between two states and waits for its end. -/
def State.Begun (s t : State) (c : Cmd) : Prop :=
  t.u.qif.cmds = s.u.qif.cmds.map fun x => if x.no = c.no then { x with running := true } else x

/-- A transfer of a kind starts on I3C bus b between two states with bytes to send (R68, Table 02-23). -/
def State.I3cStarts (s t : State) (b kind addr ccc len : Nat) (bs : List Byte) : Prop :=
  t.rd (GLB_I3C_STATUS_BUSY b) = 1 ∧ t.rd (GLB_I3C_STATUS_ERR b) = 0 ∧ t.rd (GLB_I3C_STATUS_RX_LEN b) = 0
    ∧ t.u.glb.i3c.look b {} = { kind := kind, len := len } ∧ s.sends t (.i3c b kind addr ccc bs)
    ∧ s.Keeps t (own [GLB_I3C_STATUS_BUSY b, GLB_I3C_STATUS_ERR b, GLB_I3C_STATUS_RX_LEN b]) fun u => { u with glb := { u.glb with i3c := [] } }

/-- Between two states a command was ignored: event 9 and nothing else (R444). -/
def State.Ignores (s t : State) : Prop := t.seen 9 = true ∧ s.Keeps t (own []) id

/-- UART u holds FIFOs and a character in its transmitter, and its levels follow (R69). -/
def State.UartIs (t : State) (u : Nat) (x : Uart) : Prop :=
  t.u.glb.uarts.look u {} = x ∧ t.rd (GLB_UART_STATUS_TX_LEVEL u) = x.tx.length % 2 ^ (GLB_UART_STATUS_TX_LEVEL u).w
    ∧ t.rd (GLB_UART_STATUS_RX_LEVEL u) = x.rx.length % 2 ^ (GLB_UART_STATUS_RX_LEVEL u).w

/-- A read of the SMBus target has answered between two states: the answer, then its PEC when it is asked for, and LAST_CMD (R70). -/
def State.SmbReads (s t : State) (code : Nat) (answer : Out) (bytes : List Byte) (pec : Bool) : Prop :=
  t.out = (if pec = true then [.pec (readPec code bytes)] else []) ++ answer :: s.out ∧ t.rd GLB_SMB_STATUS_LAST_CMD = code
    ∧ s.Keeps t (own [GLB_SMB_STATUS_LAST_CMD]) id

/-- No bundle, ring or feed group reacts to lane n: it is a position or spare of no bundle, no magazine lane, and in no feed group. -/
abbrev State.unowned (s : State) (n : Nat) : Prop :=
  (n < 24 ∧ (Run.start s).bundleOf n = none) ∨ (40 ≤ n ∧ (Run.start s).groupOf n = none)

/-- The units without the lanes and the breach log. -/
def Units.noLane (u : Units) : Units := { u with lane := [], evt := { u.evt with log := [] } }

/-- Lane n is FAILED with a training result between two states: its event and a breach record (R88, R90). -/
def State.LaneFails (s t : State) (n result : Nat) : Prop :=
  t.rd (LNK_STATUS_STATE n) = 5 ∧ t.rd (LNK_TRAIN_LAST_RESULT n) = result ∧ t.seen (32 + 2 * n) = true
    ∧ s.logged t (laneType n) n 1 3 0 = true ∧ s.Keeps t (fun k => laneKeys n k || retireKey k) Units.noLane

/-- What lane n holds beside its registers. -/
def State.laneOf (s : State) (n : Nat) : LaneU := s.u.lane.look n {}

/-- Bundle b hears words and the SEQ is the one it expects (R100, R114). -/
abbrev State.takes (s : State) (b seq : Nat) : Prop := (Run.start s).bndHears b = true ∧ seq % 2 ^ 24 = s.rd (ITK_BND_SEQ_EXP_SEQ b)

/-- Bundle b has accepted a packet between two states: the expected SEQ moves on, the NAK series ends, an ACK is owed, and RESYNC
ends unless a position lane is out of lock (R108, Table 04-5). -/
def State.Taken (s t : State) (b seq : Nat) : Prop :=
  let x := s.u.itk.bnd.look b {}
  t.rd (ITK_BND_SEQ_EXP_SEQ b) = (seq + 1) % 2 ^ 24 ∧ t.rd (ITK_BND_STATUS_NAK_COUNT b) = 0
    ∧ t.u.itk.bnd.look b {} = { x with owed := true, restart := false }
    ∧ t.rd (ITK_BND_STATUS_STATE b) = (if x.wait = [] then 3 else s.rd (ITK_BND_STATUS_STATE b))

/-- The registers of a bundle that any accepted packet may change, and BND_STATE of the virtual streams. -/
def takeKeys (b k : Nat) : Bool :=
  own [ITK_BND_SEQ_EXP_SEQ b, ITK_BND_STATUS_NAK_COUNT b, ITK_BND_STATUS_STATE b] k || (List.range 16).any fun v => own [ITK_VS_STATUS_BND_STATE v] k

/-- The units without bundle b and the virtual streams. -/
def Units.noBnd (b : Nat) (u : Units) : Units := { u with itk := { u.itk with bnd := u.itk.bnd.drop b, vs := [] } }

/-- Bundle b asks for a replay between two states: a NAK for the expected SEQ leaves, words are discarded, and UP becomes RESYNC
(R108). -/
def State.Nakked (s t : State) (b : Nat) : Prop :=
  s.sends t (.packet (64 + b) 0x11 [0, 0, s.rd (ITK_BND_SEQ_EXP_SEQ b)] (packetBytes 0x11 0 0 (s.rd (ITK_BND_SEQ_EXP_SEQ b)) []))
    ∧ t.rd (ITK_BND_STATUS_NAK_COUNT b) = s.rd (ITK_BND_STATUS_NAK_COUNT b) + 1
    ∧ t.rd (ITK_BND_ERR2_NAKS_TX b) = min (s.rd (ITK_BND_ERR2_NAKS_TX b) + 1) 0xFFFF
    ∧ t.u.itk.bnd.look b {} = { s.u.itk.bnd.look b {} with discard := true } ∧ t.rd (ITK_BND_STATUS_STATE b) = 4

/-- The registers of a bundle that asking for a replay may change. -/
def nakKeys (b k : Nat) : Bool :=
  own [ITK_BND_ERR2_NAKS_TX b, ITK_BND_STATUS_NAK_COUNT b, ITK_BND_STATUS_STATE b] k || (List.range 16).any fun v => own [ITK_VS_STATUS_BND_STATE v] k

/-- A number of samples that an LP may carry (R100, Table 04-2). -/
abbrev lpLen (n : Nat) : Prop := n % 32 = 0 ∧ 32 ≤ n ∧ n ≤ 4096

/-- A number of data bytes that an EMB may carry (R100, Table 04-2). -/
abbrev embLen (n : Nat) : Prop := 0 < n ∧ n ≤ 16384

/-- Virtual stream v is bound to context c on bundle b (Table 04-12). -/
abbrev State.binds (s : State) (b v c : Nat) : Prop :=
  (Run.start s).hasCfg 0x0402 v = true ∧ (Run.start s).vsN v 8 1 = b ∧ (Run.start s).vsN v 9 1 = c

/-- Nothing but ITK acts on the frames of context c: no sluice, no interpretation, no record, no frame on an engine, no delta. -/
abbrev State.plain (s : State) (c : Nat) : Prop :=
  (Run.start s).hasCfg 0x0704 0 = false ∧ s.rd (PIX_CTX_CFG_INTERPRET c) = 0 ∧ (Run.start s).recCtx c = false ∧ s.u.pix.frames = []
    ∧ s.u.glb.change ≠ .delta ∧ s.u.magu.segs = []

/-- Frame f of context c is open on virtual stream v. -/
abbrev State.openIs (s : State) (v c : Nat) (f : IFrame) : Prop := (Run.start s).openFrame v = some f ∧ f.ctx = c

/-- The open frame of virtual stream v is lost whole between two states for a cause of Table 04-7 (R115). -/
def State.LosesFrame (s t : State) (v cause : Nat) (f : IFrame) : Prop :=
  t.rd (ITK_VS_ERR_LOST v) = min (s.rd (ITK_VS_ERR_LOST v) + 1) 0xFF ∧ t.rd (ITK_VS_LOST_FN v) = f.fn % 2 ^ 32
    ∧ t.rd (ITK_VS_STATUS_LOST_CAUSE v) = cause ∧ t.seen (129 + 4 * v) = true ∧ t.rd (ITK_VS_STATUS_FRAME_OPEN v) = 0
    ∧ (t.u.itk.vs.look v {}).open_ = none ∧ t.u.frames = s.u.frames.filter fun x => x.sn != f.sn

/-- The registers that losing a frame of virtual stream v changes. -/
def lossKeys (v : Nat) : Nat → Bool := own [ITK_VS_ERR_LOST v, ITK_VS_LOST_FN v, ITK_VS_STATUS_LOST_CAUSE v, ITK_VS_STATUS_FRAME_OPEN v]

/-- The units without bundle b, the virtual streams, the frames and the engines. -/
def Units.noFrames (b : Nat) (u : Units) : Units := { u.noBnd b with frames := [], pix := { u.pix with ce := [] } }

/-- Bundle b enters FAILED between two states, without an open frame on it: FAIL_CAUSE, BND_STATE and LINK on its virtual streams
(Table 04-5, R124). -/
def State.BndFails (s t : State) (b cause : Nat) : Prop :=
  let x := s.u.itk.bnd.look b {}
  t.rd (ITK_BND_STATUS_STATE b) = 5 ∧ t.rd (ITK_BND_STATUS_FAIL_CAUSE b) = cause ∧ t.rd (ITK_BND_STATUS_NAK_COUNT b) = 0
    ∧ t.u.itk.bnd.look b {} = { map := x.map, gen := x.gen }
    ∧ ∀ v ∈ (Run.start s).bndVs b, t.rd (ITK_VS_STATUS_BND_STATE v) = 5 ∧ t.rd (ITK_VS_STATUS_LINK_CAUSE v) = 2 ∧ t.seen (131 + 4 * v) = true

/-- The registers that a failing bundle changes. -/
def failKeys (b k : Nat) : Bool :=
  own [ITK_BND_STATUS_STATE b, ITK_BND_STATUS_FAIL_CAUSE b, ITK_BND_STATUS_NAK_COUNT b] k
    || (List.range 16).any fun v => own [ITK_VS_STATUS_BND_STATE v, ITK_VS_STATUS_LINK_CAUSE v] k

/-- No virtual stream of bundle b has an open frame. -/
abbrev State.noneOpen (s : State) (b : Nat) : Prop := ∀ v ∈ (Run.start s).bndVs b, (Run.start s).openFrame v = none

/-- Bundle b sends a MAP that it keeps under RSEQ `seq` (R106, R107, R109). -/
def State.MapSent (t : State) (b seq flags : Nat) : Prop :=
  let p := (Run.start t).mapPkt b flags
  .packet (64 + b) 0x14 [0, flags, seq] (packetBytes 0x14 0 flags seq p.body) ∈ t.out ∧ (seq, p) ∈ (t.u.itk.bnd.look b {}).kept

/-- The registers that follow the frames of context c on the engines (R132, R446). -/
def pixKeys (c : Nat) : Nat → Bool := own ([PIX_CTX_STATUS_ADMITTED c, PIX_CTX_STATUS_RUNNING c, PIX_CTX_STATUS_QUEUED c, PIX_CTX_STORE_FILL c,
  PIX_CTX_STORE_PEAK c] ++ [0, 1].flatMap fun n => [PIX_CE_BACKLOG n, PIX_CE_STATUS_FM_QUEUE n, PIX_CE_STATUS_BUSY n, PIX_CE_STATUS_GATED n])

/-- The units without the colour engines. -/
def Units.noPix (u : Units) : Units := { u with pix := {} }

/-- Frame f, alone on the engines, has completed `d` bands of its one stripe on engine ce, and a turn of it is in progress. -/
abbrev State.turnOf (s : State) (ce : Nat) (f : PFrame) (d cols cost : Nat) : Prop :=
  s.u.pix.frames = [f] ∧ f.stripes = [⟨ce, 0, cols, d, true⟩] ∧ f.frameMode = false ∧ f.ctx < 16 ∧ 1 ≤ f.band
    ∧ (((Run.start s).ce ce).turn.map fun x => (x.sn, x.ctx, x.idx, x.cost)) = some (f.sn, f.ctx, 0, cost)

/-- A turn of context c has ended on engine ce between two states (R129, R136). -/
def State.TurnEnds (s t : State) (ce c cost : Nat) : Prop :=
  ((Run.start t).ce ce).turn = none ∧ ((Run.start t).ce ce).prev = some (c, 0) ∧ t.rd (PIX_CE_STATUS_BUSY ce) = 0
    ∧ t.rd (PIX_CE_BUSY_CYCLES ce) = (s.rd (PIX_CE_BUSY_CYCLES ce) + cost) % 2 ^ 64

/-- Requester u may write in polder q, every other polder is empty, and DRAM is whole. -/
abbrev State.onlyPolder (s : State) (q u : Nat) : Prop :=
  q < 32 ∧ (Run.start s).mayWrite q u = true ∧ (∀ p < 32, p ≠ q → s.rd (MEM_POLDER_SIZE p) = 0) ∧ s.rd MEM_CFG_RETIRED = 0 ∧ s.u.mem.poison = []

/-- A transient internal fault of a unit between two states: a class 1 breach record, and its reset (R395). -/
def State.FaultsOnce (s t : State) (type index : Nat) : Prop :=
  s.logged t type index 1 1 1 = true ∧ t.u.evt.resetting = (type * 16 + index) :: s.u.evt.resetting

/-- A permanent internal fault of a unit between two states: a class 2 breach record, and a cofferdam (R394, R395). -/
def State.FaultsForGood (s t : State) (type index : Nat) : Prop :=
  s.logged t type index 2 1 4 = true ∧ t.seen 19 = true ∧ t.u.evt.resetting = s.u.evt.resetting
    ∧ ((cofferdamBit type index).all fun x => bit (t.rd x.1) x.2) = true

/-- How many internal faults a unit has had within the last 10 s (R395). -/
def State.recentFaults (s : State) (type index : Nat) : Nat :=
  ((s.u.evt.faults.look (type * 16 + index) []).filter fun x => (Run.start s).tselNs ≤ x + 10000000000).length

/-- The units without the colour engines and what an internal fault changes. -/
def Units.noFault (u : Units) : Units := { u with pix := {}, evt := { u.evt with log := [], faults := [], resetting := [], service := [] } }

/-- Both video layers of composer n are disabled and hold no buffer, and no snapshot of the composer waits. -/
abbrev State.plainCanvas (s : State) (n : Nat) : Prop :=
  s.rdA (CMP_L_CTL_EN n 0) = 0 ∧ s.rdA (CMP_L_CTL_EN n 1) = 0 ∧ s.rd (CMP_STATUS_HOLD_V0 n) = 0 ∧ s.rd (CMP_STATUS_HOLD_V1 n) = 0
    ∧ (Run.start s).snaps (40 + n) = [] ∧ s.rd GLB_TIDE_DEFERRED < 2 ^ 64

/-- CMP may read what every layer of composer n shows, and no block of it is poisoned. -/
abbrev State.layersReadable (s : State) (n : Nat) : Prop :=
  (∀ l ∈ (Run.start s).layers n, (Run.start s).allowed 5 false l.addr ((Run.start s).layerSpan l) = true) ∧ s.rd MEM_CFG_RETIRED = 0 ∧ s.u.mem.poison = []

/-- The units without composer n. -/
def Units.noCmp (n : Nat) (u : Units) : Units := { u with cmp := u.cmp.drop n }

/-- A composition of viewfinder n starts between two states (R198, R203, R204): every region goes out as its window and its pixel
packets, and no tile is dirty. -/
def State.Composes (s t : State) (n : Nat) : Prop :=
  let x := (Run.start s).regions n (s.u.cmp.look n {}).dirty
  let ls := (Run.start s).layers n
  t.rd (CMP_STATUS_COMPOSING n) = 1 ∧ t.rd (VFD_STATUS_PUSHING n) = 1 ∧ (t.u.cmp.look n {}).dirty = [] ∧ (t.u.cmp.look n {}).idle = 0
    ∧ (t.u.cmp.look n {}).mismatch = false
    ∧ (t.u.cmp.look n {}).regions = x.1.map (fun g => { g with crc := ((Run.start s).pixelPayloads n ls g).foldl crc16 0xFFFF })
    ∧ (∀ g ∈ x.1, .packet (96 + n) 0x39 [0] (le 1 0x2A ++ be2 g.x0 ++ be2 g.x1) ∈ t.out ∧ .packet (96 + n) 0x39 [0] (le 1 0x2B ++ be2 g.y0 ++ be2 g.y1) ∈ t.out
      ∧ ∀ p ∈ (Run.start s).pixelPayloads n ls g, .packet (96 + n) (if s.rd (VFD_STATUS_DSC n) ≠ 0 then 0x0B else 0x39) [0] p ∈ t.out)
    ∧ t.rd (CMP_COUNT_BBOX n) = (if x.2 = true then min (s.rd (CMP_COUNT_BBOX n) + 1) 0xFFFF else s.rd (CMP_COUNT_BBOX n))

/-- The registers that the start of a viewfinder composition changes. -/
def composeKeys (n : Nat) : Nat → Bool := own [CMP_STATUS_COMPOSING n, VFD_STATUS_PUSHING n, CMP_COUNT_BBOX n, GLB_TIDE_DEFERRED]

/-- Feed group g sends a frame between two states (R182, R184): its VFS with the next frame count and its VFE. -/
def State.FeedFrame (s t : State) (g flags w h fmt q src : Nat) : Prop :=
  let fc := (s.rd (FED_FC_FC g) + 1) % 2 ^ 32
  let n := (s.u.fed.look g {}).seq
  let m := (n + 2 + h) % 2 ^ 24
  let vfs := le 4 fc ++ le 2 w ++ le 2 h ++ le 6 (timeSec q) ++ le 1 fmt ++ le 1 0 ++ le 4 (timeNs q) ++ le 4 (timeFrac q) ++ le 4 src ++ le 4 0
  let vfe := le 4 fc ++ le 2 h ++ le 2 0
  t.rd (FED_FC_FC g) = fc ∧ .packet (80 + g) 0x21 [0, flags, n] (packetBytes 0x21 0 flags n vfs) ∈ t.out
    ∧ .packet (80 + g) 0x23 [0, 0, m] (packetBytes 0x23 0 0 m vfe) ∈ t.out ∧ (t.u.fed.look g {}).seq = (m + 1) % 2 ^ 24

/-- DMA channel n is RUNNING and fetches `op` at `pc`: from SRAM or, with PSPACE, from DRAM that it may read and that is not poisoned,
with no earlier MOVE of the channel writing there (R351, R356, R359). -/
abbrev State.dmaAt (s : State) (n pc : Nat) (op : DmaOp) : Prop :=
  s.rd (DMA_STATUS_STATE n) = 1 ∧ s.rd (DMA_PC_ADDR n) = pc
    ∧ if s.rd (DMA_CTL_PSPACE n) = 0 then ((Run.start s).dmaCh n).heldBack 1 pc 32 = false ∧ pc + 32 ≤ sramSize ∧ dmaDecode ((Run.start s).sram pc 32) = some op
      else ((Run.start s).dmaCh n).heldBack 0 pc 32 = false ∧ ((Run.start s).peekMem 10 pc 32).ok = true ∧ ((Run.start s).peekMem 10 pc 32).poison = false
        ∧ dmaDecode ((Run.start s).peekMem 10 pc 32).bytes = some op

/-- The OPC of a DMA instruction (Table 13-7). -/
def DmaOp.opc : DmaOp → Nat
  | .move .. => 1
  | .loop .. => 2
  | .wait .. => 3
  | .signal .. => 4
  | .fin .. => 5

/-- The registers of DMA channel n that an instruction or its control changes. -/
def dmaKeys (n : Nat) : Nat → Bool :=
  own [DMA_STATUS_STATE n, DMA_STATUS_CAUSE n, DMA_STATUS_INFLIGHT n, DMA_PC_ADDR n, DMA_FAULT_PC_ADDR n, DMA_BYTES_BYTES n]

/-- DMA channel n faults between two states (R359): STATE 4, CAUSE, FAULT_PC and its event; its MOVEs in flight are abandoned and it
waits no more; PC, BYTES, semaphores and other channels stay, and so does DRAM. -/
def State.DmaFaults (s t : State) (n cause pc : Nat) : Prop :=
  t.rd (DMA_STATUS_STATE n) = 4 ∧ t.rd (DMA_STATUS_CAUSE n) = cause ∧ t.rd (DMA_FAULT_PC_ADDR n) = pc % 2 ^ 64 ∧ t.seen (416 + n) = true
    ∧ (Run.start t).dmaCh n = { (Run.start s).dmaCh n with flight := [] } ∧ (∀ k, k ≠ n → (Run.start t).dmaCh k = (Run.start s).dmaCh k)
    ∧ t.u.dma.waiting = s.u.dma.waiting.filter (· != n) ∧ t.u.dma.sram = s.u.dma.sram
    ∧ t.rd (DMA_PC_ADDR n) = s.rd (DMA_PC_ADDR n) ∧ t.rd (DMA_BYTES_BYTES n) = s.rd (DMA_BYTES_BYTES n)

/-- What audio port p drives in slot j: a masked or unmapped slot as TRISTATE says, else `x` (R382, R384). -/
def State.slot (s : State) (p : Nat) (x : Option Nat) (j : Nat) : Option Nat :=
  if ((Run.start s).auSlots p).contains j = true ∧ bit (s.rdA (AUD_MASK p)) j = true then x else if (Run.start s).auBit p 5 then none else some 0

/-- Audio port p's frame of idle slots, which an output drives in CLOCKING and DRAINING and an input never does (R385). -/
def State.idleFrame (s : State) (p : Nat) : List Out :=
  if (Run.start s).auOut p then [.tdm p ((List.range ((Run.start s).auN p 9 1)).map (s.slot p (some 0)))] else []

/-- No open clip gathers a whole block of 4,096 audio frames at the next media instant (R274). -/
abbrev State.noBlock (s : State) : Prop :=
  ∀ g, (Run.start s).curSeg = some g → ∀ x ∈ g.aud, ((Run.start s).au x.1).media + 1 < x.2 + 4096

/-- Audio port p holds `a` after a media frame that it produced as number n between two states: its words are the newest, and every
feed group that selects it gathers them (R383, R389). -/
def State.Produced (s t : State) (p n : Nat) (words : List Nat) (gaps : List (Nat × Nat)) : Prop :=
  let a := (Run.start s).au p
  let b := (Run.start t).au p
  b.cur = words ∧ b.media = n + 1 ∧ b.gaps = gaps ∧ b.wasRunning = a.wasRunning ∧ b.slots = a.slots
    ∧ (∀ g < 3, b.feed.look g [] = if bit ((Run.start s).auN p 0xE 1) (g + 1) then (n, words) :: a.feed.look g [] else a.feed.look g [])
    ∧ ∀ k < 8, k ≠ p → (Run.start t).au k = (Run.start s).au k

/-- Sensor k drives the levees: it is not retired and lies on the die or is a remote diode that is enabled (R404). -/
abbrev State.drives (s : State) (k : Nat) : Prop := k < 28 ∧ bit (s.rd THM_RETIRED) k = false ∧ (k < 24 ∨ bit (s.rd THM_CTL_TD_EN) (k - 24) = true)

/-- Sensor k demands levee j: its temperature reaches T_UP_j, or its RISE a RATE_j that is used (R405, Table 15-14). -/
abbrev State.demands (s : State) (j k : Nat) : Prop :=
  signed 16 (s.rd (THM_LEVEE_T_UP (j - 1))) ≤ signed 16 (s.rd (THM_TS_TEMP k))
    ∨ (s.rd (THM_LEVEE_RATE (j - 1)) ≠ 0 ∧ (s.rd (THM_LEVEE_RATE (j - 1)) : Int) ≤ signed 12 (s.rd (THM_TS_RISE k)))

/-- The levee has risen to the highest that a driver demands between two states, with event 496, and 497 on entry into L3, or stays
(R405, R32). -/
def State.LeveeRises (s t : State) : Prop :=
  (∀ j < 4, 0 < j → (∃ k < 28, t.drives k ∧ t.demands j k) → j ≤ t.rd THM_STATUS_LEVEE)
    ∧ (t.rd THM_STATUS_LEVEE = s.rd THM_STATUS_LEVEE ∨ (s.rd THM_STATUS_LEVEE < t.rd THM_STATUS_LEVEE
        ∧ (∃ k < 28, t.drives k ∧ t.demands (t.rd THM_STATUS_LEVEE) k) ∧ t.seen 496 = true ∧ (t.rd THM_STATUS_LEVEE = 3 → t.seen 497 = true)))

/-- One thing has left the block between two states, maybe among others. -/
abbrev State.emitted (s t : State) (o : Out) : Prop := o ∈ t.out.take (t.out.length - s.out.length)

/-- Event e is delivered between two states as EVT_ROUTE_e says (R408): its MSI-X message, which sources of one vector share in one
cycle and which PBA holds while it is masked or requests are gated; its warden cores, or their partners; its EVENT_OUT pins. -/
def State.Delivers (s t : State) (e : Nat) : Prop :=
  let v := s.rd (EVT_ROUTE_VECTOR e)
  (s.rd (EVT_ROUTE_MSIX e) ≠ 0 → v < 64 → s.u.evt.sent.look v 0 ≠ s.now + 1 →
      if s.rd (QIF_MSIX_MASK v) = 0 ∧ (Run.start s).mayRequest = true then s.emitted t (.msix v) else bit (t.rd QIF_PBA) v = true)
    ∧ (∀ c < 4, bit (s.rd (EVT_ROUTE_WARDEN e) ||| s.rd (EVT_ROUTE_FW_REQ e)) c = true →
        s.emitted t (.warden (if bit (s.rd EVT_COFFERDAM_UNITS_W) c then (c + 2) % 4 else c) e))
    ∧ ∀ p < 4, bit (s.rd (EVT_ROUTE_PIN e)) p = true → bit t.u.evt.pins p = true
        ∧ (bit s.u.evt.pins p = false → bit (s.rd GLB_GPIO_FUNC_EVOUT) p = true → s.emitted t (.pin ("EVENT_OUT_" ++ toString p) true))

/-- A bit of a W1C field was set by hardware in the cycle of a state (R6). -/
abbrev State.setInCycle (s : State) (key : Nat) : Prop := s.u.evt.setCycle = s.now + 1 ∧ ∃ b, (key, b) ∈ s.u.evt.setBits

/-- The monitor is up and no sweep runs: it takes commands (R21, R413). -/
abbrev State.monReady (s : State) : Prop := (Run.start s).monUp = true ∧ s.u.mon.sweep = none

/-- The final line of an answer and the prompt, newest first (R413, Table 16-1). -/
def monTail (err : Nat) : List Out := [.text "K> ", .text (if err = 0 then "OK" else "ERR " ++ toString err ++ " " ++ monErrName err)]

/-- The monitor's answer between two states, and nothing else leaves: data lines, the final line and the prompt (R413). -/
def State.answers (s t : State) (lines : List String) (err : Nat) : Prop := t.out = monTail err ++ ((lines.map Out.text).reverse ++ s.out)

/-- A command's outcome is an answer with an error and no other change (Table 16-1). -/
def State.MonRefuses (s : State) (o : Host.Outcome State Fault Refusal) (err : Nat) : Prop := ∃ t, o = .next t ∧ s.answers t [] err ∧ s.Keeps t (own []) id

/-- What the command that a parsed line stands for does (Table 16-2). -/
def MonCmd.outcome (c : MonCmd) (abort : Option Nat) (s : State) : Host.Outcome State Fault Refusal :=
  match c with
  | .help => execHelp s
  | .ver => execVer s
  | .baud c => execBaud c s
  | .unlock k => execUnlock k s
  | .unlockResp sig => execUnlockResp sig s
  | .lock => execLock s
  | .peek off n => execPeek off n s
  | .poke off v => execPoke off v s
  | .memrd a n => execMemrd a n abort s
  | .traceOn lo hi post => execTraceOn lo hi post s
  | .traceOff => execTraceOff s
  | .traceDump => execTraceDump s
  | .eye lane sel dwell => execEye lane (Fin.ofNat 3 sel) dwell s
  | .breach n => execBreachDump n abort s
  | .inject e => execInject e s

/-- Encoder n beside its registers. -/
def State.encOf (s : State) (n : Nat) : EncU := s.u.enc.look n {}

/-- The DRAM address of encoder n's output ring (Table 09-2). -/
def State.encRing (s : State) (n : Nat) : Nat := (Run.start s).polder ((Run.start s).encN n 8 1) + (Run.start s).encN n 0x10 4 * 4096

/-- Encoder n's output ring lies in polder q, where its core may write, and DRAM is whole (Table 09-2, R349). -/
abbrev State.encHome (s : State) (n q : Nat) : Prop :=
  s.onlyPolder q 7 ∧ (Run.start s).encN n 8 1 = q ∧ (Run.start s).ringSize n < 2 ^ 32
    ∧ s.encRing n + (Run.start s).ringSize n ≤ s.rd (MEM_POLDER_BASE q) + s.rd (MEM_POLDER_SIZE q)

/-- The bytes that an access-unit record of `len` bytes takes in the ring (R230). -/
def recordBytes (len : Nat) : Nat := 64 + (len + 63) / 64 * 64

/-- Encoder n writes a record between two states, at OUT_WR or, where it would not fit before the ring's end, at its start (R230,
Table 09-7): its header with the next SEQ, OUT_WR behind it. -/
def State.Records (s t : State) (n type flags qp poc len : Nat) (i : PubInfo) : Prop :=
  let size := (Run.start s).ringSize n
  let wr := if s.rd (ENC_OUT_WR_WR n) + recordBytes len ≤ size then s.rd (ENC_OUT_WR_WR n) else 0
  (∀ k < 64, Mem.get t.mem (s.encRing n + wr + k) = (auHeader n type flags qp poc len (recordSeq ((s.encOf n).records + 1)) i).getD k 0#8)
    ∧ t.rd (ENC_OUT_WR_WR n) = (if wr + recordBytes len = size then 0 else wr + recordBytes len) ∧ (t.encOf n).records = (s.encOf n).records + 1

/-- An address lies in polder q. -/
def State.inPolder (s : State) (q a : Nat) : Bool := s.rd (MEM_POLDER_BASE q) ≤ a && a < s.rd (MEM_POLDER_BASE q) + s.rd (MEM_POLDER_SIZE q)

/-- Encoder n may start a picture: OPEN, none in progress, not in reset, its firmware on duty, no snapshot waiting, and `x` is the next
publication: outlet, buffer and what it holds (R220). -/
abbrev State.encReady (s : State) (n : Nat) (x : Nat × Nat × PubInfo) : Prop :=
  s.rd (ENC_STATUS_STATE n) = 1 ∧ (s.encOf n).pic = none ∧ (Run.start s).isResetting 8 n = false ∧ (Run.start s).duty 2 = true
    ∧ (Run.start s).snaps (44 + n) = [] ∧ s.rd GLB_TIDE_DEFERRED < 2 ^ 64 ∧ (Run.start s).nextPub n = some x

/-- The encoder's core may read an outlet buffer and none of it is poisoned. -/
abbrev State.pubReadable (s : State) (o b : Nat) : Prop :=
  let a := (Run.start s).olBuffer o b
  let len := olFrameBytes ((Run.start s).olN o 0xC 2) ((Run.start s).olN o 0xE 2) true
  (Run.start s).allowed 7 false a len = true ∧ (Run.start s).poisonedBlock a len = none

/-- A picture of encoder n is in progress in `t`: CODING, FULLNESS in bits, its outlet buffer held (R220, R227). -/
def State.Codes (t : State) (n full : Nat) (o : Nat) (b : Option Nat) (p : EncPic → Bool) : Prop :=
  t.rd (ENC_STATUS_CODING n) = 1 ∧ t.rd (ENC_FULLNESS_FULL n) = full / 65536 % 2 ^ 32 ∧ ((t.encOf n).pic.any p) = true ∧ (t.encOf n).full = full
    ∧ ∀ k, b = some k → bit (t.rd (OUT_STATUS_HELD o)) k = true

/-- The address of DEC_0's input ring. -/
def State.decAt (s : State) : Nat := (Run.start s).polder ((Run.start s).decN 8 1) + (Run.start s).decN 0x10 4 * 4096

/-- The next `n` input bytes of DEC_0 (R233). -/
def State.decBytes (s : State) (n : Nat) : List Byte :=
  (List.range n).map fun i => Mem.get s.mem (s.decAt + (s.rd DEC_IN_RD_RD + i) % (Run.start s).decRing)

/-- DEC_0 runs, is not in reset, no snapshot waits for it, and its next `n` input bytes are in the ring, readable and not poisoned. -/
abbrev State.decTakes (s : State) (n : Nat) : Prop :=
  let size := (Run.start s).decRing
  let first := min n (size - s.rd DEC_IN_RD_RD)
  s.rd DEC_STATUS_RUNNING ≠ 0 ∧ (Run.start s).isResetting 9 0 = false ∧ (Run.start s).snaps 46 = [] ∧ s.rd GLB_TIDE_DEFERRED < 2 ^ 64
    ∧ s.rd MEM_CFG_RETIRED = 0 ∧ s.rd DEC_IN_RD_RD < size ∧ s.rd DEC_IN_WR_WR < size ∧ size < 2 ^ 32
    ∧ n ≤ (s.rd DEC_IN_WR_WR + size - s.rd DEC_IN_RD_RD) % size
    ∧ (Run.start s).allowed 8 false (s.decAt + s.rd DEC_IN_RD_RD) first = true ∧ (first = n ∨ (Run.start s).allowed 8 false s.decAt (n - first) = true)
    ∧ s.u.mem.poison = []

/-- DEC_0 finishes an access unit of `n` bytes between two states: DEC_IN_RD passes them and `f` is what it does to the decoder; then it
stops where a stop is due, with its cause and event 307, else goes on with the next picture as soon as it has bytes and a buffer (R233, R234). -/
def State.DecGoes (s t : State) (n : Nat) (f : DecU → DecU) : Prop :=
  let u := f { s.u.dec with hist := s.u.dec.hist ++ s.decBytes n }
  t.rd DEC_IN_RD_RD = (s.rd DEC_IN_RD_RD + n) % (Run.start s).decRing
    ∧ (s.u.dec.stop ≠ none → t.rd DEC_STATUS_RUNNING = 0 ∧ t.rd DEC_STATUS_STOP_CAUSE = s.u.dec.stop.getD 0 % 2 ∧ t.seen 307 = true
        ∧ t.u.dec = { u with stop := none, begun := false })
    ∧ (s.u.dec.stop = none → t.rd DEC_STATUS_RUNNING = s.rd DEC_STATUS_RUNNING ∧ t.rd DEC_STATUS_STOP_CAUSE = s.rd DEC_STATUS_STOP_CAUSE
        ∧ t.u.dec = { u with begun := t.rd DEC_IN_RD_RD != s.rd DEC_IN_WR_WR && (Run.start t).decNext.isSome })

/-- The registers that finishing an access unit writes. -/
def decKeys : Nat → Bool := own [DEC_IN_RD_RD, DEC_STATUS_RUNNING, DEC_STATUS_STOP_CAUSE, GLB_TIDE_DEFERRED]

/-- DEC_0 writes a picture between two states (R235, R236): its samples, from the bytes decoded so far, are in output buffer k in the active
OUT_FMT, DEC_OUT says so, missing references are counted, and CONCEALING and event 305 say where concealment begins. -/
def State.Decodes (s t : State) (n k : Nat) (p : Sps) (irap : Bool) (poc : Nat) (missing lost : List Nat) (bad : Bool) : Prop :=
  let img := decImage (s.rdA DEC_OUT_CTL_OUT_FMT) p.w p.h (decPicture { s.u.dec with hist := s.u.dec.hist ++ s.decBytes n } p missing lost)
  let hides := bad || missing != [] || lost != []
  let was := !irap && s.rd DEC_STATUS_CONCEALING != 0
  (img.zipIdx.all fun x => Mem.get t.mem ((Run.start s).decBuffer k + x.2) == x.1) = true
    ∧ t.rd DEC_OUT_IDX = k ∧ t.rd DEC_OUT_POC_LOW = poc % 2 ^ 24 ∧ t.rd DEC_OUT_CONCEALED = t.rd DEC_STATUS_CONCEALING
    ∧ t.rd DEC_STATUS_CONCEALING = (if hides || was then 1 else 0) ∧ t.rd DEC_COUNT_CONCEAL = min (s.rd DEC_COUNT_CONCEAL + missing.length) 65535
    ∧ (hides = true → was = false → t.seen 305 = true)

end Sys2Proof.Machine
end

