-- ==== Sys2Proof/Certificates/Slice0/Obligations.lean ====
section
/-!
DEFINITION. The statements for the provers: what each family of commands does, where it completes and what it leaves
unchanged, and the invariants of the machine.
-/
open Sys2Proof Sys2Proof.Machine

/-- For every command c, every rest of the queue and every state s: step of s with c at the front of its queue is exec c on s with the queue's rest. -/
def Obligations.StepRunsFrontCommand : Prop :=
  ∀ (c : Instr) (rest : List Instr) (s : State), step { s with pending := c :: rest } = exec c { s with pending := rest }

/-- With no command waiting a step answers a next state one CCLK cycle later. In every second cycle, one of TCLK, each time base adds its effective increment; in the others it stands. DRAM, the queue and, but for TIM_TSEL_DELTA and SLEWING, every register are as before when no segment is open to take a frame of the cycle before; then nothing but the time bases, delta, and what the lanes' transmit halves hold (they send a reach where one is due) has moved. That a step on an empty queue is one cycle is the model's choice, assumption 2, and so is when a lane's reach is due, assumption 47. -/
def Obligations.IdleStepIsOneCycle : Prop :=
  ∀ s : State, s.pending = [] → ∃ t, step s = .next t ∧ t.now = s.now + 1
    ∧ (∀ n < 4, (t.base n).t = (s.base n).t + if (s.now + 1) % 2 = 0 then s.rd (TIM_TB_EFF_INCR n) * 256 else 0)
    ∧ (s.u.magu.segs = [] → { s with now := s.now + 1 }.Keeps t (own [TIM_TSEL_DELTA, TIM_TSEL_STATUS_SLEWING])
        fun u => { u with tim := { u.tim with tb := [], delta := 0 }, lane := [], tx := [] })

/-- Right after reset the register tables and DRAM are in canonical form: keys rise and no listed byte equals what an unlisted address reads as. -/
def Obligations.ResetKeepsForm : Prop := State.reset.Inv

/-- From every state whose register tables and DRAM are in canonical form, reachable or not and whatever commands wait, a step that answers a next state keeps that form: register keys rise strictly, DRAM addresses rise strictly, and no listed byte equals what an unlisted address reads as. -/
def Obligations.StepKeepsForm : Prop := ∀ s t : State, s.Inv → step s = .next t → t.Inv

/-- From every state in which each magazine's geometry names its rings and drives by numbers below 256, a step that answers a next state keeps that: labels, RING records and the commands that change a geometry give no other numbers. The statements about drives of a magazine take it as a premise. -/
def Obligations.StepKeepsGeometry : Prop := ∀ s t : State, s.geoOk → step s = .next t → t.geoOk

/-- Right after reset the invariant of the magazines' geometry holds: no magazine has one. -/
def Obligations.ResetKeepsGeometry : Prop := State.reset.geoOk ∧ State.reset.u.magu.mag = []

/-- Whatever the command, when exec answers a next state its queue is the queue it was given, its CCLK cycle and its count of free values are not below the old ones, and what has left the block before stays the tail of what has left it after. -/
def Obligations.CommandsOnlyAppend : Prop :=
  ∀ (c : Instr) (s t : State), exec c s = .next t → t.pending = s.pending ∧ s.now ≤ t.now ∧ s.fresh ≤ t.fresh ∧ s.out <:+ t.out

/-- In every state every command answers a next state, except a REGISTER_READ or REGISTER_WRITE whose offset is not a multiple of 4 bytes, or of 8 for a 64-bit access: that one faults with unalignedAccess, since R3 gives it no meaning. No command is refused. -/
def Obligations.OnlyMisalignedAccessStops : Prop :=
  (∀ (off : Nat) (wide : Bool) (v : Nat) (s : State), off % (if wide then 8 else 4) ≠ 0 →
      exec (.registerWrite off wide v) s = .fault .unalignedAccess ∧ exec (.registerRead off wide) s = .fault .unalignedAccess)
  ∧ ∀ (c : Instr) (s : State),
      (∀ off wide v, c = .registerWrite off wide v ∨ c = .registerRead off wide → off % (if wide then 8 else 4) = 0) → ∃ t, exec c s = .next t

/-- Right after reset every register field reads the reset value of its table, shadow and active, no byte of DRAM is listed, no command waits and nothing has left the block. That DRAM then reads as 0 is assumption 1, and hidden unit state being empty assumption 29. -/
def Obligations.ResetValues : Prop :=
  (∀ f : Fld, State.reset.rd f = f.rst ∧ State.reset.rdA f = f.rst)
    ∧ State.reset.mem = [] ∧ State.reset.pending = [] ∧ State.reset.out = [] ∧ State.reset.now = 0
    ∧ State.reset.rd CLK_REF_CTL_AUTO_SWITCH = 1 ∧ State.reset.rd GLB_BOOT_STATUS_READY = 0 ∧ State.reset.rd CLK_REF_STATUS_ROOT_LOCK = 0

/-- A 32-bit write at an offset that no chapter defines changes nothing. Outside GLB before READY a write changes nothing, save event 9 for QIF_CTL. A 32-bit write of a 32-bit register whose writes have no further effect gives every field the value Table 00-2 says, leaves active values and everything else. A 64-bit write of such a 64-bit register does the same. A 32-bit write of the low word of a wide register is only held; the write of the high word while a low word younger than 1,024 cycles is held acts as the one 64-bit write; without one it is ignored with event 9. A write of a register field whose row is INCR, STEP, EVT_STATUS_CLEAR, EVT_ENABLE or EVT_INJECT is that command. No monitor line waits. -/
def Obligations.RegisterWrite : Prop :=
  (∀ (s : State) (off v : Nat), s.u.mon.held = [] → off % 4 = 0 → locate regTable off = none → exec (.registerWrite off false v) s = .next s)
  ∧ (∀ (s : State) (off v : Nat), s.u.mon.held = [] → off % 4 = 0 → s.serves off = false → off ≠ 0x1500000 →
      exec (.registerWrite off false v) s = .next s)
  ∧ (∀ (s : State) (off v : Nat) (h : Hit), s.u.mon.held = [] → off % 4 = 0 → s.serves off = true → locate regTable off = some h →
      h.reg.width = 32 → h.reg.name ∉ registersWithEffects → h.r = 0 → (h.fields.map fun x => x.1.key).Nodup →
      (∀ x ∈ h.fields, x.1.off = off ∧ x.1.lo + x.1.w ≤ 32 ∧ x.2.2 = false) →
      ∃ t, exec (.registerWrite off false v) s = .next t
        ∧ (∀ x ∈ h.fields, t.rd x.1 = written x.2.1 (s.rd x.1) (bits v x.1.lo x.1.w) x.1.w ∧ t.rdA x.1 = s.rdA x.1)
        ∧ s.Keeps t (span off (off + 4)) id)
  ∧ (∀ (s : State) (off v : Nat) (h : Hit), s.u.mon.held = [] → off % 8 = 0 → s.serves off = true → wideAt off = some h →
      h.reg.width = 64 → h.reg.name ∉ registersWithEffects → (h.fields.map fun x => x.1.key).Nodup →
      (∀ x ∈ h.fields, x.1.off = off ∧ x.1.lo + x.1.w ≤ 64 ∧ x.2.2 = false) →
      ∃ t, exec (.registerWrite off true v) s = .next t
        ∧ (∀ x ∈ h.fields, t.rd x.1 = written x.2.1 (s.rd x.1) (bits v x.1.lo x.1.w) x.1.w ∧ t.rdA x.1 = s.rdA x.1)
        ∧ s.Keeps t (span off (off + 8)) id)
  ∧ (∀ (s : State) (off v : Nat) (h : Hit), s.u.mon.held = [] → off % 4 = 0 → s.serves off = true → wideAt off = some h →
      ∃ t, exec (.registerWrite off false v) s = .next t ∧ t.u.glb.heldWords.find off = some ⟨v % 2 ^ 32, s.now⟩
        ∧ s.Keeps t (own []) fun u => { u with glb := { u.glb with heldWords := [] } })
  ∧ (∀ (s : State) (off v : Nat) (h : Hit) (w : Held), s.u.mon.held = [] → off % 8 = 0 → s.serves (off + 4) = true → wideAt off = some h →
      locate regTable (off + 4) = some { h with r := h.r + 4 } → s.u.glb.heldWords.find off = some w → s.now ≤ w.at_ + 1024 → w.v < 2 ^ 32 →
      exec (.registerWrite (off + 4) false v) s
        = exec (.registerWrite off true (w.v + v % 2 ^ 32 * 2 ^ 32)) (s.modify fun u => { u with glb := { u.glb with heldWords := u.glb.heldWords.drop off } }))
  ∧ (∀ (s : State) (off v : Nat) (h : Hit), s.u.mon.held = [] → off % 8 = 0 → s.serves (off + 4) = true → wideAt off = some h →
      locate regTable (off + 4) = some { h with r := h.r + 4 } → (∀ w, s.u.glb.heldWords.find off = some w → w.at_ + 1024 < s.now) →
      ∃ t, exec (.registerWrite (off + 4) false v) s = .next t ∧ t.status 9 = true
        ∧ s.Keeps t (own []) fun u => { u with glb := { u.glb with heldWords := [] } })
  ∧ (∀ (s : State) (n : Fin 4) (v : Nat), s.u.mon.held = [] → s.rd GLB_BOOT_STATUS_READY ≠ 0 →
      exec (.registerWrite (TIM_TB_INCR_INCR n).off false v) s = exec (.incr n (v % 2 ^ 32)) s
      ∧ exec (.registerWrite (TIM_TB_STEP n).off true v) s = exec (.step n (v % 2 ^ 64)) s)
  ∧ (∀ (s : State) (k : Fin 16) (v : Nat), s.u.mon.held = [] → s.rd GLB_BOOT_STATUS_READY ≠ 0 →
      exec (.registerWrite (EVT_STATUS k).off false v) s = exec (.evtStatusClear k v) s
      ∧ exec (.registerWrite (EVT_ENABLE k).off false v) s = exec (.evtEnable k v) s)
  ∧ ∀ (s : State) (e : Fin 512), s.u.mon.held = [] → s.rd GLB_BOOT_STATUS_READY ≠ 0 →
      exec (.registerWrite EVT_INJECT_GO.off false (2 ^ 31 + e)) s = exec (.evtInject e) s

/-- A 32-bit read at an undefined offset, or outside GLB before READY, answers 0 and changes nothing else. A 32-bit read of a 32-bit register that no read computes answers its fields at their places, WO fields and reserved bits as 0, clears its RC fields and leaves the rest. A 32-bit read of the low word of a wide register all of RO fields latches the whole register; a read of its high word while the latch is younger than 1,024 cycles answers the latched bits, and after that the current ones. A 64-bit read of a 64-bit register answers all 64 bits. LOW_WORD_DISCARD of a held low word drops it and raises event 9. LATCH_RELEASE ends a latch. -/
def Obligations.RegisterRead : Prop :=
  (∀ (s : State) (off : Nat), off % 4 = 0 → locate regTable off = none ∨ s.serves off = false →
      exec (.registerRead off false) s = .next (s.emit (.answer 0)))
  ∧ (∀ (s : State) (off : Nat) (h : Hit), off % 4 = 0 → s.serves off = true → locate regTable off = some h → h.reg.width = 32 → h.r = 0 →
      h.reg.name ∉ registersComputed → (h.fields.map fun x => x.1.key).Nodup → (∀ x ∈ h.fields, x.1.off = off ∧ x.1.lo + x.1.w ≤ 32) →
      ∃ t, exec (.registerRead off false) s = .next t
        ∧ s.sends t (.answer (((h.fields.map fun x => if x.2.1 = .wo then 0 else s.rd x.1 * 2 ^ x.1.lo).foldl (· + ·) 0) % 2 ^ 32))
        ∧ (∀ x ∈ h.fields, t.rd x.1 = if x.2.1 = .rc then 0 else s.rd x.1)
        ∧ s.Keeps t (span off (off + 4)) id)
  ∧ (∀ (s : State) (off : Nat) (h : Hit), off % 8 = 0 → s.serves off = true → wideAt off = some h → h.latches = true → h.r = 0 →
      h.reg.name ∉ registersComputed →
      ∃ t, exec (.registerRead off false) s = .next t ∧ s.sends t (.answer (h.read s.rd 0 32))
        ∧ t.u.glb.latched.find off = some ⟨h.read s.rd 0 h.reg.width, s.now⟩
        ∧ s.Keeps t (own []) fun u => { u with glb := { u.glb with latched := [] } })
  ∧ (∀ (s : State) (off : Nat) (h : Hit) (w : Held), off % 8 = 0 → s.serves (off + 4) = true → locate regTable (off + 4) = some h →
      h.latches = true → h.r = 4 → h.reg.name ∉ registersComputed → s.u.glb.latched.find off = some w →
      ∃ t, exec (.registerRead (off + 4) false) s = .next t
        ∧ s.sends t (.answer (if s.now ≤ w.at_ + 1024 then bits w.v 32 32 else h.read s.rd 32 32)) ∧ s.Keeps t (own []) id)
  ∧ (∀ (s : State) (off : Nat) (h : Hit), off % 8 = 0 → s.serves off = true → wideAt off = some h → h.reg.width = 64 →
      h.reg.name ∉ registersComputed → h.r = 0 →
      ∃ t, exec (.registerRead off true) s = .next t ∧ s.sends t (.answer (h.read s.rd 0 64)))
  ∧ (∀ (s : State) (off : Nat) (w : Held), s.u.glb.heldWords.find off = some w →
      ∃ t, exec (.lowWordDiscard off) s = .next t ∧ t.status 9 = true ∧ (∀ k, k ≠ off → t.u.glb.heldWords.find k = s.u.glb.heldWords.find k)
        ∧ (Tab.rising s.u.glb.heldWords = true → t.u.glb.heldWords.find off = none)
        ∧ s.Keeps t (own []) fun u => { u with glb := { u.glb with heldWords := [] } })
  ∧ ∀ (s : State) (off : Nat),
      ∃ t, exec (.latchRelease off) s = .next t ∧ (∀ k, k ≠ off → t.u.glb.latched.find k = s.u.glb.latched.find k)
        ∧ (Tab.rising s.u.glb.latched = true → t.u.glb.latched.find off = none)
        ∧ s.Keeps t (own []) fun u => { u with glb := { u.glb with latched := [] } }

/-- REFERENCE_LOST of the active reference while the PLL is locked clears its OK bit and ROOT_LOCK, sets HOLDOVER, and starts a switch when the other reference is good and AUTO_SWITCH is 1; otherwise, with no switch under way or asked for by REVERT, it raises event 2. Of the reference not in use, with REVERT 0 and the PLL not in holdover, it only clears the OK bit. REFERENCE_SWITCH ends the switch: the other reference is ACTIVE, HOLDOVER 0, ROOT_LOCK 1, SWITCH_COUNT one more up to 255, event 1. REFERENCE_GOOD sets the OK bit; the active reference ends a holdover. PREF with both references good and the other one named starts a switch. Nothing else changes but for the events. -/
def Obligations.ReferenceClocks : Prop :=
  (∀ (s : State) (n : Fin 2), s.rd CLK_REF_STATUS_ROOT_LOCK = 1 → s.rd CLK_REF_STATUS_ACTIVE = n → s.rd (refOk (1 - n)) = 1 →
    s.rd CLK_REF_CTL_AUTO_SWITCH = 1 →
    ∃ t, exec (.referenceLost n) s = .next t ∧ t.rd (refOk n) = 0 ∧ t.rd CLK_REF_STATUS_HOLDOVER = 1 ∧ t.rd CLK_REF_STATUS_ROOT_LOCK = 0
      ∧ t.rd CLK_REF_STATUS_ACTIVE = n ∧ t.u.glb.refSwitching = true
      ∧ s.Keeps t (own [refOk n, CLK_REF_STATUS_HOLDOVER, CLK_REF_STATUS_ROOT_LOCK]) fun u => { u with glb := { u.glb with refSwitching := false } })
  ∧ (∀ (s : State) (n : Fin 2), s.rd CLK_REF_STATUS_ROOT_LOCK = 1 → s.rd CLK_REF_STATUS_ACTIVE = n →
    s.rd (refOk (1 - n)) = 0 ∨ (s.rd CLK_REF_CTL_AUTO_SWITCH = 0 ∧ s.rd CLK_REF_CTL_REVERT = 0 ∧ s.u.glb.refSwitching = false) →
    ∃ t, exec (.referenceLost n) s = .next t ∧ t.rd (refOk n) = 0 ∧ t.rd CLK_REF_STATUS_HOLDOVER = 1 ∧ t.rd CLK_REF_STATUS_ROOT_LOCK = 0
      ∧ t.u.glb.refSwitching = false ∧ t.status 2 = true
      ∧ s.Keeps t (own [refOk n, CLK_REF_STATUS_HOLDOVER, CLK_REF_STATUS_ROOT_LOCK]) fun u => { u with glb := { u.glb with refSwitching := false } })
  ∧ (∀ (s : State) (n : Fin 2), s.rd CLK_REF_STATUS_ACTIVE = 1 - n → s.rd CLK_REF_STATUS_HOLDOVER = 0 → s.rd CLK_REF_CTL_REVERT = 0 →
    s.u.glb.refSwitching = false →
    ∃ t, exec (.referenceLost n) s = .next t ∧ t.rd (refOk n) = 0 ∧ s.Keeps t (own [refOk n]) id)
  ∧ (∀ s : State, s.u.glb.refSwitching = true → s.rd CLK_REF_STATUS_ACTIVE < 2 →
    ∃ t, exec .referenceSwitch s = .next t ∧ t.rd CLK_REF_STATUS_ACTIVE = 1 - s.rd CLK_REF_STATUS_ACTIVE ∧ t.rd CLK_REF_STATUS_HOLDOVER = 0
      ∧ t.rd CLK_REF_STATUS_ROOT_LOCK = 1 ∧ t.rd CLK_REF_STATUS_SWITCH_COUNT = min (s.rd CLK_REF_STATUS_SWITCH_COUNT + 1) 255
      ∧ (s.rd CLK_REF_CTL_REVERT = 0 → t.u.glb.refSwitching = false) ∧ t.status 1 = true
      ∧ s.Keeps t (own [CLK_REF_STATUS_ACTIVE, CLK_REF_STATUS_HOLDOVER, CLK_REF_STATUS_ROOT_LOCK, CLK_REF_STATUS_SWITCH_COUNT])
          fun u => { u with glb := { u.glb with refSwitching := false } })
  ∧ (∀ (s : State) (n : Fin 2),
    ∃ t, exec (.referenceGood n) s = .next t ∧ t.rd (refOk n) = 1
      ∧ (s.rd CLK_REF_STATUS_HOLDOVER = 1 → s.rd CLK_REF_STATUS_ACTIVE = n → s.u.glb.refSwitching = false →
          t.rd CLK_REF_STATUS_HOLDOVER = 0 ∧ t.rd CLK_REF_STATUS_ROOT_LOCK = 1)
      ∧ (s.rd CLK_REF_STATUS_HOLDOVER = 1 → s.rd CLK_REF_STATUS_ACTIVE = 1 - n → s.rd CLK_REF_CTL_AUTO_SWITCH = 1 →
          t.u.glb.refSwitching = true ∧ t.rd CLK_REF_STATUS_HOLDOVER = 1)
      ∧ s.Keeps t (own [refOk n, CLK_REF_STATUS_HOLDOVER, CLK_REF_STATUS_ROOT_LOCK]) fun u => { u with glb := { u.glb with refSwitching := false } })
  ∧ ∀ (s : State) (n : Fin 2), s.rd GLB_BOOT_STATUS_READY ≠ 0 → s.rd CLK_REF_CTL_REVERT < 2 → s.rd CLK_REF_CTL_AUTO_SWITCH < 2 →
    ∃ t, exec (.pref n) s = .next t ∧ t.rd CLK_REF_CTL_PREF = n ∧ t.rd CLK_REF_CTL_REVERT = s.rd CLK_REF_CTL_REVERT
      ∧ t.rd CLK_REF_CTL_AUTO_SWITCH = s.rd CLK_REF_CTL_AUTO_SWITCH
      ∧ (s.rd CLK_REF_STATUS_A_OK = 1 → s.rd CLK_REF_STATUS_B_OK = 1 → s.rd CLK_REF_STATUS_ACTIVE = 1 - n → t.u.glb.refSwitching = true)
      ∧ s.Keeps t (own [CLK_REF_CTL_PREF, CLK_REF_CTL_REVERT, CLK_REF_CTL_AUTO_SWITCH])
          fun u => { u with glb := { u.glb with refSwitching := false } }

/-- A BAR2 write that one exposed polder allows stores its bytes at the polder's DRAM bytes, except on retired channels; a read answers the DRAM bytes when no block of it is poisoned. An access that reaches no exposed polder, or while F11 is not negotiated, raises event 404 with a TYPE 15 breach record, stores nothing and reads zeros. In recovery the first 8 MiB are warden memory. A configuration request sets Bus Master Enable and the power state, and when requests may go out the pending unmasked messages leave. PERST_N release, link up and a LEN from 64 to 4,194,304 in recovery do what R433 and R47 say; another LEN is ignored with event 9. -/
def Obligations.PcieAndBar2 : Prop :=
  (∀ (s : State) (off len a : Nat) (bs : List Byte), s.u.glb.phase ≠ .recovery → (Run.start s).bar2Addr off bs.length = some a →
    (Run.start s).allowed 11 true a bs.length = true →
    ∃ t, exec (.bar2Access off len (some bs)) s = .next t
      ∧ (∀ k < bs.length, Mem.get t.mem (a + k) = if bit (s.rd MEM_CFG_RETIRED) (channelOf (a + k)) then Mem.get s.mem (a + k) else bs.getD k 0#8)
      ∧ s.KeepsBut t (own []) (fun x => a ≤ x && x < a + bs.length) fun u => { u with mem := { u.mem with poison := [] } })
  ∧ (∀ (s : State) (off len a : Nat), s.u.glb.phase ≠ .recovery → (Run.start s).bar2Addr off len = some a →
    (Run.start s).allowed 11 false a len = true → (Run.start s).poisonedBlock a len = none →
    exec (.bar2Access off len none) s = .next (s.emit (.answerBytes ((List.range len).map fun k =>
      if bit (s.rd MEM_CFG_RETIRED) (channelOf (a + k)) then 0#8 else Mem.get s.mem (a + k)))))
  ∧ (∀ (s : State) (off len : Nat) (data : Option (List Byte)), s.u.glb.phase ≠ .recovery →
    s.rd GLB_FEAT_CTL_LOCKED = 0 ∨ bit s.u.glb.feat 11 = false ∨ (∀ p < 32, s.rd (MEM_POLDER_BAR2_EXPOSE p) = 0) →
    ∃ t, exec (.bar2Access off len data) s = .next t ∧ t.status 404 = true ∧ (t.u.evt.log.head?.any fun b => b.type == 15 && b.index == 11) = true
      ∧ (data = none → t.out.head? = some (.answerBytes (List.replicate len 0#8)))
      ∧ s.Keeps t (own [EVT_BREACH_SEQ_SEQ]) fun u => { u with evt := {} })
  ∧ (∀ (s : State) (off len : Nat) (bs : List Byte), s.u.glb.phase = .recovery → off + bs.length ≤ 0x800000 →
    ∃ t, exec (.bar2Access off len (some bs)) s = .next t
      ∧ (∀ k < bs.length, t.u.glb.recov.look (off + k) 0#8 = bs.getD k 0#8)
      ∧ (∀ x, x < off ∨ off + bs.length ≤ x → t.u.glb.recov.look x 0#8 = s.u.glb.recov.look x 0#8)
      ∧ s.Keeps t (own []) fun u => { u with glb := { u.glb with recov := [] } })
  ∧ (∀ (s : State) (off len : Nat), s.u.glb.phase = .recovery → off + len ≤ 0x800000 →
    exec (.bar2Access off len none) s
      = .next (s.emit (.answerBytes ((List.range len).map fun k => s.u.glb.recov.look (off + k) 0#8))))
  ∧ (∀ (s : State) (bm d3 : Bool), s.u.glb.linkUp = true →
    ∃ t, exec (.configurationRequest bm d3) s = .next t ∧ t.u.glb.busMaster = bm ∧ t.u.glb.d3hot = d3
      ∧ (bm = true → d3 = false → ∀ v < 64, bit (s.rd QIF_PBA) v = true →
          bit (t.rd QIF_PBA) v = (s.rd (QIF_MSIX_MASK v) != 0) ∧ (s.rd (QIF_MSIX_MASK v) = 0 → Out.msix v ∈ t.out))
      ∧ (bm = false ∨ d3 = true → t.rd QIF_PBA = s.rd QIF_PBA)
      ∧ s.Keeps t (own []) fun u => { u with glb := { u.glb with busMaster := false, d3hot := false } })
  ∧ (∀ s : State, ∃ t, exec .pciePerstNRelease s = .next t ∧ t.u.glb.perstHigh = true
      ∧ s.Keeps t (own []) fun u => { u with glb := { u.glb with perstHigh := false } })
  ∧ (∀ s : State, s.u.glb.perstHigh = true → s.u.glb.phase ≠ .held → s.u.glb.phase ≠ .pll → s.u.glb.phase ≠ .halt →
    ∃ t, exec .pcieLinkUp s = .next t ∧ t.u.glb.linkUp = true ∧ s.Keeps t (own []) fun u => { u with glb := { u.glb with linkUp := false } })
  ∧ (∀ (s : State) (n : Nat), s.u.glb.phase = .recovery → s.u.glb.recovLen = 0 → 64 ≤ n → n ≤ 4194304 →
    ∃ t, exec (.len n) s = .next t ∧ t.u.glb.recovLen = n ∧ s.Keeps t (own []) fun u => { u with glb := { u.glb with recovLen := 0 } })
  ∧ ∀ (s : State) (n : Nat), s.u.glb.phase ≠ .recovery ∨ n < 64 ∨ 4194304 < n →
    ∃ t, exec (.len n) s = .next t ∧ t.status 9 = true ∧ s.Keeps t (own []) id

/-- POWER_ON_RESET returns every register to its reset value but the GPIO levels and GLB_FEAT_DEV_0, and DRAM and the units to theirs. POR_RELEASE lets RESET_N end it. RESET_N low for 1 us or more, COLD with the key, and THERM_TRIP_N are cold resets; below 0.5 us nothing happens; between, either, which R432 leaves open (assumption 4). RESET_N_RISE and TRIP_RELEASE sample the straps and start the boot. WARM with the key, PCIE_PERST_N, a PCIe hot reset, a Function Level Reset, the firmware watchdog and SMBus WARM record their cause and start the warm sequence while the device runs. A wrong key is ignored with event 9. -/
def Obligations.Resets : Prop :=
  (∀ s : State, ∃ t, exec .powerOnReset s = .next t ∧ t.mem = [] ∧ t.u.glb.phase = .held ∧ t.u.glb.railsGood = false
      ∧ t.u.glb.keys = s.u.glb.keys ∧ t.u.evt = {} ∧ t.u.thm = {}
      ∧ (∀ f : Fld, f.key ≠ (GLB_FEAT_DEV_FEAT 0).key → t.rd f = if span 0x1008 0x100C f.key then s.rd f else f.rst)
      ∧ t.pending = s.pending)
  ∧ (∀ (s : State) (x : Fin 8), s.u.glb.railsGood = false →
    ∃ t, exec (.porRelease x) s = .next t ∧ t.u.glb.railsGood = true
      ∧ t.u.glb.phase = (if s.u.glb.resetN = true ∧ s.u.glb.phase = .held then .pll else s.u.glb.phase)
      ∧ s.Keeps t (own [GLB_BOOT_STATUS_BOOT_SEL, GLB_BOOT_STATUS_STAGE])
          fun u => { u with glb := { u.glb with railsGood := false, phase := .held, dramFast := false } })
  ∧ (∀ (s : State) (ns : Nat), s.u.glb.resetN = true → 1000 ≤ ns →
    ∃ t, exec (.resetNAssert ns) s = .next t ∧ t.u.glb.resetN = false ∧ s.ColdReset t GLB_RESET_CAUSE_PIN)
  ∧ (∀ (s : State) (ns : Nat), s.u.glb.resetN = false ∨ ns < 500 → exec (.resetNAssert ns) s = .next s)
  ∧ (∀ (s : State) (ns : Nat), s.u.glb.resetN = true → 500 ≤ ns → ns < 1000 →
    ∃ t, exec (.resetNAssert ns) s = .next t ∧ (t = s.draw ∨ (t.u.glb.resetN = false ∧ s.ColdReset t GLB_RESET_CAUSE_PIN)))
  ∧ (∀ (s : State) (x : Fin 8),
    ∃ t, exec (.resetNRise x) s = .next t ∧ t.u.glb.resetN = true
      ∧ (s.u.glb.phase = .held → s.u.glb.railsGood = true → s.u.thm.trip = false →
          t.u.glb.phase = .pll ∧ t.rd GLB_BOOT_STATUS_BOOT_SEL = x.val % 4 ∧ t.u.glb.dramFast = bit x 2)
      ∧ (s.u.thm.trip = true → t.u.glb.phase = s.u.glb.phase)
      ∧ s.Keeps t (own [GLB_BOOT_STATUS_BOOT_SEL, GLB_BOOT_STATUS_STAGE])
          fun u => { u with glb := { u.glb with resetN := false, phase := .held, dramFast := false } })
  ∧ (∀ s : State, ∃ t, exec (.cold 0xA5C3) s = .next t ∧ s.ColdReset t GLB_RESET_CAUSE_COLD_SW)
  ∧ (∀ (s : State) (key : Nat), key ≠ 0xA5C3 →
    (∃ t, exec (.cold key) s = .next t ∧ t.status 9 = true ∧ s.Keeps t (own []) id)
      ∧ ∃ t, exec (.warm key) s = .next t ∧ t.status 9 = true ∧ s.Keeps t (own []) id)
  ∧ (∀ s : State, s.runs = true → ∃ t, exec (.warm 0xA5C3) s = .next t ∧ s.WarmReset t GLB_RESET_CAUSE_WARM_SW)
  ∧ (∀ s : State, s.runs = false → ∃ t, exec (.warm 0xA5C3) s = .next t ∧ t.rd GLB_RESET_CAUSE_WARM_SW = 1
      ∧ s.Keeps t (own [GLB_RESET_CAUSE_WARM_SW]) id)
  ∧ (∀ s : State, s.runs = true → s.u.glb.perstHigh = true → s.u.glb.resetN = true →
    ∃ t, exec .pciePerstNAssert s = .next t ∧ t.u.glb.perstHigh = false ∧ t.u.glb.linkUp = false ∧ s.WarmReset t GLB_RESET_CAUSE_PERST)
  ∧ (∀ s : State, s.runs = true → s.u.glb.linkUp = true →
    (∃ t, exec .pcieHotReset s = .next t ∧ t.u.glb.linkUp = false ∧ s.WarmReset t GLB_RESET_CAUSE_PCIE_HOT)
      ∧ ∃ t, exec .functionLevelReset s = .next t ∧ t.u.glb.busMaster = false ∧ t.u.glb.linkUp = true ∧ s.WarmReset t GLB_RESET_CAUSE_FLR)
  ∧ (∀ s : State, s.runs = true → s.u.glb.watchdogDue = true →
    ∃ t, exec .firmwareWatchdog s = .next t ∧ t.u.glb.watchdogDue = false ∧ s.WarmReset t GLB_RESET_CAUSE_WATCHDOG)
  ∧ (∀ (s : State) (k : Nat), k < 24 → bit (s.rd THM_RETIRED) k = false → 540 ≤ signed 16 (s.rd (THM_TS_TEMP k)) → s.u.thm.trip = false →
    ∃ t, exec .thermalTrip s = .next t ∧ t.u.thm.trip = true ∧ s.ColdReset t GLB_RESET_CAUSE_THERM_TRIP
      ∧ t.out.head? = some (.pin "THERM_TRIP_N" false))
  ∧ (∀ (s : State) (x : Fin 8), s.u.thm.trip = true → 100 < s.u.thm.cool →
    ∃ t, exec (.tripRelease x) s = .next t ∧ t.u.thm.trip = false ∧ Out.pin "THERM_TRIP_N" true ∈ t.out
      ∧ (s.u.glb.phase = .held → s.u.glb.railsGood = true → s.u.glb.resetN = true → t.u.glb.phase = .pll)
      ∧ s.Keeps t (own [GLB_BOOT_STATUS_BOOT_SEL, GLB_BOOT_STATUS_STAGE])
          fun u => { u with thm := { u.thm with trip := false }, glb := { u.glb with phase := .held, dramFast := false } })
  ∧ ∀ s : State, s.runs = true → s.u.glb.railsGood = true → s.rd GLB_BOOT_STATUS_READY ≠ 0 →
    ∃ t, exec (.smbWarm 0xA5#8 (some true)) s = .next t
      ∧ ((s.wr GLB_SMB_STATUS_LAST_CMD 0x20).wr GLB_SMB_COUNT_WARM (min (s.rd GLB_SMB_COUNT_WARM + 1) (2 ^ GLB_SMB_COUNT_WARM.w - 1))).WarmReset t
          GLB_RESET_CAUSE_SMBUS

/-- When the drain ends the registers of Table 02-4 keep their values and every other one returns to its reset value; DRAM, the key slots, the woven bit-stream, thermal supervision and the poisoned blocks are kept, and the time bases go on. WARM_FIRMWARE_RESTART checks the preserved firmware image again: when it passes it ends the warden cofferdams and goes on to DRAM; one that fails leaves the device in recovery with the reason code and event 4 (assumption 27). SELF_REFRESH_EXIT ends the cofferdams of lanes and engines and goes on to the weave; with a bit-stream woven that fails its re-verification, no bit-stream is woven (assumption 27). -/
def Obligations.WarmSequence : Prop :=
  (∀ s : State, s.u.glb.phase = .warmDrain →
    ∃ t, exec .warmDriveDrainEnd s = .next t ∧ t.u.glb.phase = .warmFw ∧ t.mem = s.mem ∧ t.pending = s.pending ∧ t.now = s.now
      ∧ (∀ f : Fld, eventKey f.key = false → f.key ≠ EVT_BREACH_SEQ_SEQ.key →
          t.rd f = (if warmKeeps f.key then s.rd f else f.rst) ∧ t.rdA f = if warmKeeps f.key then s.rdA f else f.rst)
      ∧ t.u.glb.keys = s.u.glb.keys ∧ t.u.glb.woven = s.u.glb.woven ∧ t.u.glb.cfg = s.u.glb.cfg ∧ t.u.thm = s.u.thm
      ∧ t.u.mem.poison = s.u.mem.poison ∧ (∀ n, (t.base n).t = (s.base n).t) ∧ t.u.tim.delta = s.u.tim.delta
      ∧ t.u.frames = s.u.frames.filter (fun f => f.inClip && f.complete) ∧ t.u.qif = {} ∧ t.u.itk = {} ∧ t.u.lane = [])
  ∧ (∀ s : State, s.u.glb.phase = .warmFw →
    ∃ t, exec .warmFirmwareRestart s = .next t
      ∧ (if (Run.start s).fwCheck s.u.glb.fwBytes = 0 then
          t.u.glb.phase = .warmDram ∧ t.rd EVT_COFFERDAM_UNITS_W = 0 ∧ t.rd GLB_BOOT_STATUS_STAGE = 2
            ∧ s.Keeps t (own [EVT_COFFERDAM_UNITS_W, EVT_SERVICE_REQ, GLB_BOOT_STATUS_STAGE])
              fun u => { u with glb := { u.glb with phase := .held }, evt := { u.evt with service := [] } }
        else t.u.glb.phase = .recovery ∧ t.rd GLB_BOOT_STATUS_STAGE = 7
            ∧ t.rd GLB_BOOT_STATUS_ERROR = (Run.start s).fwCheck s.u.glb.fwBytes % 256 ∧ t.status 4 = true
            ∧ s.Keeps t (own [GLB_BOOT_STATUS_ERROR, GLB_BOOT_STATUS_STAGE]) fun u => { u with glb := { u.glb with phase := .held } }))
  ∧ ∀ (s : State) (failed : Nat), s.u.glb.phase = .warmDram →
    ∃ t, exec (.selfRefreshExit failed) s = .next t ∧ t.u.glb.phase = .weave ∧ t.pending = s.pending ∧ t.now = s.now
      ∧ (s.u.glb.woven = [] ∨ (Run.start s).streamCheck s.u.glb.woven false true ≠ 0 → t.rd EVT_COFFERDAM_LANES = 0 ∧ t.rd EVT_COFFERDAM_UNITS_CE = 0 ∧ t.u.glb.woven = [])
      ∧ (s.u.glb.woven ≠ [] → (Run.start s).streamCheck s.u.glb.woven false true ≠ 0 → t.rd GLB_MODE_VALID = 0
          ∧ t.rd GLB_BOOT_STATUS_ERROR = (Run.start s).streamCheck s.u.glb.woven false true % 256 ∧ t.status 4 = true)

/-- ROOT_PLL_LOCK goes, by BOOT_SEL, to the test halt, to recovery, or to the firmware slot of the boot directory. FIRMWARE_LOAD_DONE starts an image that passes its checks and trains DRAM; the first that fails sets ERROR, event 4 and FW_FALLBACK and the other slot is read, the second leaves the device in recovery. DRAM_TRAINING_DONE fills MEM_CFG, makes the trained channels active and retires the failed ones. BITSTREAM_READ_DONE weaves an image that passes, else falls back once. READY sets READY, STAGE 6 and event 0, and event 5 after a fallback. RECOVERY_CHECK_DONE starts a good image or keeps the device in recovery with the reason code. -/
def Obligations.BootSequence : Prop :=
  (∀ (s : State) (dir : List DirCopy), s.u.glb.phase = .pll →
    ∃ t, exec (.rootPllLock dir) s = .next t ∧ t.rd CLK_REF_STATUS_ROOT_LOCK = 1
      ∧ (s.rd GLB_BOOT_STATUS_BOOT_SEL = 3 → t.u.glb.phase = .halt ∧ t.rd GLB_BOOT_STATUS_STAGE = 8)
      ∧ (s.rd GLB_BOOT_STATUS_BOOT_SEL = 2 → t.u.glb.phase = .recovery ∧ t.rd GLB_BOOT_STATUS_STAGE = 7)
      ∧ (s.rd GLB_BOOT_STATUS_BOOT_SEL < 2 → t.u.glb.phase = .fwLoad ∧ t.rd GLB_BOOT_STATUS_STAGE = 1
          ∧ ((dirInForce dir).all fun x => t.u.glb.tryFw == x.2.fw && t.u.glb.tryBs == x.2.bs && t.u.glb.dirGen == x.2.gen && t.u.glb.dirCopy == x.1) = true)
      ∧ s.Keeps t (own [CLK_REF_STATUS_ROOT_LOCK, GLB_BOOT_STATUS_STAGE]) fun u => { u with glb := { u.glb with
          phase := .held, dirCopy := 0, dirGen := 0, dirFw := 0, dirBs := 0, tryFw := 0, tryBs := 0 } })
  ∧ (∀ (s : State) (image : List Byte), s.u.glb.phase = .fwLoad →
    ∃ t, exec (.firmwareLoadDone image) s = .next t
      ∧ (if (Run.start s).fwCheck image = 0 then
          t.u.glb.phase = .dram ∧ t.rd GLB_BOOT_STATUS_STAGE = 3 ∧ t.rd GLB_BOOT_STATUS_FW_SLOT = s.u.glb.tryFw % 2
            ∧ t.u.glb.fwBytes = image.take (totalLen image)
        else t.rd GLB_BOOT_STATUS_ERROR = (Run.start s).fwCheck image % 256 ∧ t.status 4 = true
          ∧ (if s.rd GLB_BOOT_STATUS_FW_FALLBACK = 0 then
              t.rd GLB_BOOT_STATUS_FW_FALLBACK = 1 ∧ t.u.glb.tryFw = 1 - s.u.glb.tryFw ∧ t.u.glb.phase = .fwLoad
            else t.u.glb.phase = .recovery ∧ t.rd GLB_BOOT_STATUS_STAGE = 7))
      ∧ s.Keeps t (own [GLB_BOOT_STATUS_STAGE, GLB_BOOT_STATUS_FW_SLOT, GLB_BOOT_STATUS_ERROR, GLB_BOOT_STATUS_FW_FALLBACK])
          fun u => { u with glb := { u.glb with phase := .held, fw := {}, fwBytes := [], tryFw := 0 } })
  ∧ (∀ s : State, s.u.glb.phase = .dram →
    ∃ t, exec (.dramTrainingDone 0) s = .next t ∧ (∀ c < 16, t.rd (MEM_CH_STATUS_STATE c) = 2)
      ∧ t.rd MEM_CFG_RATE = (if s.u.glb.dramFast then 1 else 0)
      ∧ (s.rd GLB_BOOT_STATUS_BOOT_SEL = 0 → s.u.glb.tryBs < 2 → t.u.glb.phase = .bsLoad ∧ t.rd GLB_BOOT_STATUS_STAGE = 4)
      ∧ (s.rd GLB_BOOT_STATUS_BOOT_SEL ≠ 0 → t.u.glb.phase = .weave ∧ t.rd GLB_BOOT_STATUS_STAGE = 5 ∧ t.rd GLB_MODE_VALID = 0)
      ∧ s.Keeps t (fun k => span 0x1700000 0x1700200 k || own [GLB_BOOT_STATUS_STAGE, GLB_MODE_VALID, GLB_MODE_RATE_CEIL,
          GLB_MODE_DUAL_MAG, GLB_MODE_ROLE, GLB_MODE_MODE, GLB_NARRIC_ID_STREAM_ID] k)
          fun u => { u with thm := { u.thm with trained := [] }, glb := { u.glb with phase := .held, bootRetired := 0, woven := [], cfg := [], streamId := 0 } })
  ∧ (∀ (s : State) (failed c : Nat), s.u.glb.phase = .dram → c < 16 → bit failed c = true →
    ∃ t, exec (.dramTrainingDone failed) s = .next t ∧ bit (t.rd MEM_CFG_RETIRED) c = true)
  ∧ (∀ (s : State) (image : List Byte), s.u.glb.phase = .bsLoad →
    ∃ t, exec (.bitstreamReadDone image) s = .next t
      ∧ (if (Run.start s).streamCheck image false true = 0 then
          t.u.glb.phase = .weave ∧ t.rd GLB_BOOT_STATUS_STAGE = 5 ∧ t.rd GLB_BOOT_STATUS_NARRIC_SLOT = s.u.glb.tryBs % 2
        else t.rd GLB_BOOT_STATUS_ERROR = (Run.start s).streamCheck image false true % 256 ∧ t.status 4 = true
          ∧ t.rd GLB_BOOT_STATUS_NARRIC_FALLBACK = 1
          ∧ (if s.rd GLB_BOOT_STATUS_NARRIC_FALLBACK = 0 then t.u.glb.tryBs = 1 - s.u.glb.tryBs ∧ t.u.glb.phase = .bsLoad
            else t.u.glb.phase = .weave ∧ t.rd GLB_BOOT_STATUS_STAGE = 5)
          ∧ s.Keeps t (own [GLB_BOOT_STATUS_STAGE, GLB_BOOT_STATUS_ERROR, GLB_BOOT_STATUS_NARRIC_FALLBACK])
              fun u => { u with glb := { u.glb with phase := .held, tryBs := 0 } }))
  ∧ (∀ s : State, s.u.glb.phase = .weave → s.rd GLB_MODE_VALID = 0 → s.rd GLB_BOOT_STATUS_WARM = 0 →
    ∃ t, exec .ready s = .next t ∧ t.rd GLB_BOOT_STATUS_READY = 1 ∧ t.rd GLB_BOOT_STATUS_STAGE = 6 ∧ t.u.glb.phase = .run ∧ t.status 0 = true
      ∧ (s.rd GLB_BOOT_STATUS_FW_FALLBACK ≠ 0 ∨ s.rd GLB_BOOT_STATUS_NARRIC_FALLBACK ≠ 0 → t.status 5 = true)
      ∧ bit (t.rd GLB_SMB_STATUS_PENDING) 3 = true
      ∧ s.Keeps t (own [GLB_BOOT_STATUS_READY, GLB_BOOT_STATUS_STAGE]) fun u => { u with glb := { u.glb with phase := .held } })
  ∧ (∀ s : State, s.u.glb.phase = .weave → s.rd GLB_MODE_VALID ≠ 0 →
    ∃ t, exec .ready s = .next t ∧ t.rd GLB_BOOT_STATUS_READY = 1 ∧ t.rd GLB_BOOT_STATUS_STAGE = 6 ∧ t.status 0 = true)
  ∧ ∀ s : State, s.u.glb.phase = .recovery → s.u.glb.recovLen ≠ 0 →
    ∃ t, exec .recoveryCheckDone s = .next t ∧ t.u.glb.recovLen = 0
      ∧ (let image := (List.range s.u.glb.recovLen).map fun k => s.u.glb.recov.look k 0#8
        if (Run.start s).fwCheck image = 0 then t.u.glb.phase = .dram ∧ t.rd GLB_BOOT_STATUS_STAGE = 3 ∧ t.u.glb.fwBytes = image.take (totalLen image)
        else t.u.glb.phase = .recovery ∧ t.rd GLB_BOOT_STATUS_ERROR = (Run.start s).fwCheck image % 256 ∧ t.status 4 = true)
      ∧ s.Keeps t (own [GLB_BOOT_STATUS_STAGE, GLB_BOOT_STATUS_FW_SLOT, GLB_BOOT_STATUS_ERROR])
          fun u => { u with glb := { u.glb with phase := .held, fw := {}, fwBytes := [], recovLen := 0, tryBs := 0 } }

/-- LOAD_BITSTREAM completes with 47 while a change runs, with 10 while recording for a WEAVE, with 39 when its data cannot be read; an image that fails its checks completes with its reason code, ERROR and event 4; a stored one goes to the other slot's flash; a WEAVE starts the check, the delta or the key programming. REWEAVE_CHECK_DONE begins quiescence; the timeout stops what has not stopped; REWEAVE_QUIESCENT weaves; REWEAVE_DONE resumes fetching, completes the command and raises event 3 on success. DELTA_WOVEN makes the delta's records and STREAM_ID the woven ones, event 11. ACTIVATE_FIRMWARE stops fetching; FW_ACTIVATED runs the image from the other slot, event 7; FW_ROLLED_BACK completes with 38, event 8. -/
def Obligations.Loads : Prop :=
  (∀ (s : State) (h : HostData) (c : Cmd), s.issued 8 c → s.u.glb.change ≠ .none →
    ∃ t, exec (.loadBitstream h) s = .next t ∧ s.Completed t c 47 0 ∧ s.Keeps t (queueKeys c.q) fun u => { u with qif := {} })
  ∧ (∀ (s : State) (h : HostData) (c : Cmd), s.issued 8 c → s.u.glb.change = .none → c.buffer h (c.f 0x18 4) ≠ none → h.ok = false →
    ∃ t, exec (.loadBitstream h) s = .next t ∧ s.Completed t c 39 0
      ∧ t.rd QIF_COUNT_HOST_ERR = min (s.rd QIF_COUNT_HOST_ERR + 1) (2 ^ QIF_COUNT_HOST_ERR.w - 1)
      ∧ s.Keeps t (fun k => queueKeys c.q k || own [QIF_COUNT_HOST_ERR] k) fun u => { u with qif := {} })
  ∧ (∀ (s : State) (h : HostData) (c : Cmd), s.issued 8 c → s.u.glb.change = .none → c.buffer h (c.f 0x18 4) ≠ none → h.ok = true →
    2 ≤ c.f 0x1C 1 →
    ∃ t, exec (.loadBitstream h) s = .next t
      ∧ (let b := h.data.take (c.f 0x18 4)
        let code := (Run.start s).fwCheck b
        if code = 0 then s.Completed t c 0 0 ∧ Out.flash (0x100000 + (1 - s.rd GLB_BOOT_STATUS_FW_SLOT) * 0x400000) (b.take (totalLen b)) ∈ t.out
        else s.Completed t c code 0 ∧ t.rd GLB_BOOT_STATUS_ERROR = code % 256 ∧ t.status 4 = true)
      ∧ s.Keeps t (fun k => queueKeys c.q k || own [GLB_BOOT_STATUS_ERROR] k) fun u => { u with qif := {} })
  ∧ (∀ (s : State) (h : HostData) (c : Cmd), s.issued 8 c → s.u.glb.change = .none → c.buffer h (c.f 0x18 4) ≠ none → h.ok = true →
    c.f 0x1C 1 = 1 →
    ∃ t, exec (.loadBitstream h) s = .next t
      ∧ (let b := h.data.take (c.f 0x18 4)
        let code := (Run.start s).streamCheck b true true
        let slot := 1 - s.rd GLB_BOOT_STATUS_NARRIC_SLOT
        if code = 0 then s.Completed t c 0 0 ∧ Out.flash (0x900000 + slot * 0x200000) (b.take (totalLen b)) ∈ t.out ∧ t.u.glb.dirBs = slot
          ∧ Out.bootDir (1 - s.u.glb.dirCopy) ((s.u.glb.dirGen + 1) % 2 ^ 32) s.u.glb.dirFw slot ∈ t.out
        else s.Completed t c code 0 ∧ t.rd GLB_BOOT_STATUS_ERROR = code % 256 ∧ t.status 4 = true)
      ∧ s.Keeps t (fun k => queueKeys c.q k || own [GLB_BOOT_STATUS_ERROR] k)
          fun u => { u with qif := {}, glb := { u.glb with dirCopy := 0, dirGen := 0, dirFw := 0, dirBs := 0 } })
  ∧ (∀ (s : State) (h : HostData) (c : Cmd), s.issued 8 c → s.u.glb.change = .none → c.buffer h (c.f 0x18 4) ≠ none → h.ok = true →
    c.f 0x1C 1 = 0 →
    ∃ t, exec (.loadBitstream h) s = .next t
      ∧ (let b := h.data.take (c.f 0x18 4)
        let code := if 1 ≤ s.rd MAG_REC_STATUS_STATE ∧ s.rd MAG_REC_STATUS_STATE ≤ 4 then 10 else (Run.start s).streamCheck b true false
        if code ≠ 0 then s.Completed t c code 0 ∧ t.rd GLB_BOOT_STATUS_ERROR = code % 256 ∧ t.status 4 = true
        else if isKeys b then s.Completed t c 0 0 ∧ t.status 504 = true
        else t.u.glb.job = some (c.no, 0) ∧ t.u.glb.next = b ∧ t.u.glb.change = (if isDelta b then .delta else .check)))
  ∧ (∀ s : State, s.u.glb.change = .check →
    ∃ t, exec .reweaveCheckDone s = .next t ∧ t.u.glb.change = .quiesce ∧ t.rd QIF_STATUS_FETCH_STOPPED = 1 ∧ t.u.itk.stop = true
      ∧ (∀ p < 8, s.rd (AUD_STATUS_STATE p) ≠ 0 → t.rd (AUD_STATUS_STATE p) = 3) ∧ t.pending = s.pending)
  ∧ (∀ s : State, s.u.glb.change = .quiesce →
    ∃ t, exec .reweaveQuiescenceTimeout s = .next t ∧ t.u.pix.frames = [] ∧ t.rd DEC_STATUS_RUNNING = 0 ∧ t.rd (ENC_STATUS_STATE 0) = 0
      ∧ t.rd (ENC_STATUS_STATE 1) = 0 ∧ (∀ p < 8, t.rd (AUD_STATUS_STATE p) = 0)
      ∧ (∀ n < 32, t.rd (DMA_STATUS_STATE n) ≠ 1 ∧ t.rd (DMA_STATUS_STATE n) ≠ 2) ∧ t.pending = s.pending)
  ∧ (∀ (s : State) (code : Nat), s.u.glb.change = .quiesce → (Run.start s).quiet = true → code ≠ 0 → s.u.glb.woven = [] →
    ∃ t, exec (.reweaveQuiescent code) s = .next t ∧ t.u.glb.change = .weaving
      ∧ t.u.glb.job = s.u.glb.job.map (fun j => (j.1, code))
      ∧ s.Keeps t (own []) fun u => { u with glb := { u.glb with change := .none, job := none } })
  ∧ (∀ s : State, s.u.glb.change = .quiesce → (Run.start s).quiet = true → (∀ c ∈ s.u.glb.nextCfg, c.type ≠ 0x0201) →
    ∃ t, exec (.reweaveQuiescent 0) s = .next t ∧ t.u.glb.change = .weaving ∧ t.u.glb.woven = s.u.glb.next.take (totalLen s.u.glb.next)
      ∧ t.u.glb.cfg = s.u.glb.nextCfg ∧ t.rd GLB_MODE_VALID = 1
      ∧ t.rd GLB_MODE_MODE = bits (field (s.u.glb.next.take (totalLen s.u.glb.next)) 0xC 4) 0 2
      ∧ t.pending = s.pending)
  ∧ (∀ (s : State) (c : Cmd) (code : Nat), s.u.glb.change = .weaving → s.u.glb.job = some (c.no, code) →
    s.u.qif.cmds.find? (fun x => x.no == c.no) = some c → c.aborted = false → s.u.qif.resets = [] → s.rd GLB_MODE_VALID = 0 →
    ∃ t, exec .reweaveDone s = .next t ∧ t.u.glb.change = .none ∧ t.u.glb.job = none ∧ t.rd QIF_STATUS_FETCH_STOPPED = 0
      ∧ s.Completed t c code 0 ∧ (code = 0 → t.status 3 = true)
      ∧ s.Keeps t (fun k => queueKeys c.q k || own [QIF_STATUS_FETCH_STOPPED] k) fun u => { u with qif := {}, glb := { u.glb with
          change := .none, next := [], nextCfg := [], job := none, deltaWait := [], commit := false } })
  ∧ (∀ s : State, s.u.glb.change = .weaving → s.rd GLB_MODE_VALID ≠ 0 →
    ∃ t, exec .reweaveDone s = .next t ∧ t.u.glb.change = .none ∧ t.u.glb.job = none ∧ t.pending = s.pending
      ∧ ((s.u.glb.job.map Prod.snd).getD 0 = 0 → t.status 3 = true))
  ∧ (∀ (s : State) (c : Cmd) (x : Nat), s.u.glb.change = .delta → s.u.glb.deltaWait = [] → s.u.glb.job = some (c.no, x) →
    s.u.qif.cmds.find? (fun x => x.no == c.no) = some c → c.aborted = false → s.u.qif.resets = [] →
    ∃ t, exec .deltaWoven s = .next t ∧ t.u.glb.change = .none ∧ t.u.glb.cfg = s.u.glb.nextCfg
      ∧ t.rd GLB_NARRIC_ID_STREAM_ID = field s.u.glb.next 0x20 8 % 2 ^ 64 ∧ s.Completed t c 0 0 ∧ t.status 11 = true
      ∧ s.Keeps t (fun k => queueKeys c.q k || span 0x100000 0x200000 k || own [GLB_NARRIC_ID_STREAM_ID] k)
          fun u => { u with qif := {}, glb := { u.glb with
            change := .none, next := [], nextCfg := [], job := none, commit := false, cfg := [], streamId := 0 } })
  ∧ (∀ (s : State) (c : Cmd), s.issued 9 c → s.u.glb.change = .none → s.rd MAG_REC_STATUS_STATE = 0 →
    ∃ t, exec .activateFirmware s = .next t ∧ t.u.glb.change = .activate ∧ t.u.glb.job = some (c.no, 0) ∧ t.rd QIF_STATUS_FETCH_STOPPED = 1
      ∧ t.u.glb.commit = bit (c.f 0x18 1) 0
      ∧ s.Keeps t (own [QIF_STATUS_FETCH_STOPPED])
          fun u => { u with qif := {}, glb := { u.glb with change := .none, job := none, commit := false } })
  ∧ (∀ (s : State) (c : Cmd), s.issued 9 c → s.u.glb.change ≠ .none ∨ (1 ≤ s.rd MAG_REC_STATUS_STATE ∧ s.rd MAG_REC_STATUS_STATE ≤ 4) →
    ∃ t, exec .activateFirmware s = .next t ∧ s.Completed t c (if s.u.glb.change = .none then 10 else 47) 0
      ∧ s.Keeps t (queueKeys c.q) fun u => { u with qif := {} })
  ∧ (∀ (s : State) (image : List Byte) (c : Cmd) (x : Nat), s.u.glb.change = .activate → (Run.start s).othersDone = true →
    s.u.glb.job = some (c.no, x) → s.u.qif.cmds.find? (fun x => x.no == c.no) = some c → c.aborted = false → s.u.qif.resets = [] →
    ∃ t, exec (.fwActivated image) s = .next t
      ∧ (if (Run.start s).fwCheck image = 0 then
          t.u.glb.change = .none ∧ t.u.glb.fwBytes = image.take (totalLen image) ∧ t.rd GLB_BOOT_STATUS_FW_SLOT = (1 - s.rd GLB_BOOT_STATUS_FW_SLOT) % 2
            ∧ t.rd QIF_STATUS_FETCH_STOPPED = 0 ∧ s.Completed t c 0 (field image 0xC 4) ∧ t.status 7 = true
            ∧ Out.bootDir (1 - s.u.glb.dirCopy) ((s.u.glb.dirGen + 1) % 2 ^ 32) (1 - s.rd GLB_BOOT_STATUS_FW_SLOT) s.u.glb.dirBs ∈ t.out
            ∧ t.u.glb.secVerMin = (if s.u.glb.commit then max s.u.glb.secVerMin (field image 0x10 4) else s.u.glb.secVerMin)
        else t = s))
  ∧ ∀ (s : State) (image : List Byte) (c : Cmd) (x : Nat), s.u.glb.change = .activate → (Run.start s).othersDone = true →
    s.u.glb.job = some (c.no, x) → s.u.qif.cmds.find? (fun x => x.no == c.no) = some c → c.aborted = false → s.u.qif.resets = [] →
    ∃ t, exec (.fwRolledBack image) s = .next t ∧ t.u.glb.change = .none ∧ t.rd QIF_STATUS_FETCH_STOPPED = 0 ∧ s.Completed t c 38 0
      ∧ t.status 8 = true ∧ ((Run.start s).fwCheck image ≠ 0 → t.status 4 = true)
      ∧ s.Keeps t (fun k => queueKeys c.q k || own [QIF_STATUS_FETCH_STOPPED, GLB_BOOT_STATUS_ERROR] k) fun u => { u with qif := {}, glb := { u.glb with
          change := .none, next := [], nextCfg := [], job := none, deltaWait := [], commit := false } }

/-- SQ_TAIL and CQ_HEAD of an active queue take an index inside it; an index that is not, or an absent queue, is recorded in QIF_DB_ERR, counted and raises event 401; one of a queue being reset is recorded and counted but raises no event and has no other effect (assumption 59). EN = 1 after READY with Bus Master Enable creates the admin queue with DEPTH_M1 + 1 entries; else it is ignored with event 9. QIF_DISABLE clears EN and RDY and, with no command fetched, deletes every queue. ADMIN_RESET with none of the queue's commands fetched returns queue 0 to indices 0 and PHASE 1. COALESCE_TIMEOUT with completions unsignalled sends the queue's message, or sets its PBA bit when masked or gated. MSIX_UNMASK clears the mask and sends a message that waited. -/
def Obligations.QueueRegisters : Prop :=
  (∀ (s : State) (q : Fin 64) (v : Nat), s.rd (QIF_Q_STATUS_STATE q) = 1 ∨ s.rd (QIF_Q_STATUS_STATE q) = 2 → v < (s.u.qif.q.look q {}).depth →
    ∃ t, exec (.sqTail q v) s = .next t ∧ t.u.qif.q.look q {} = { s.u.qif.q.look q {} with tail := v }
      ∧ (∀ k, k ≠ q.val → t.u.qif.q.look k {} = s.u.qif.q.look k {})
      ∧ s.Keeps t (queueKeys q) fun u => { u with qif := { u.qif with q := [] } })
  ∧ (∀ (s : State) (q : Fin 64) (v : Nat), s.rd (QIF_Q_STATUS_STATE q) = 1 ∨ s.rd (QIF_Q_STATUS_STATE q) = 2 → v < (s.u.qif.q.look q {}).depth →
    (let x := s.u.qif.q.look q {}
     (v + x.depth - x.cqHead) % x.depth ≤ (x.cqTail + x.depth - x.cqHead) % x.depth) →
    ∃ t, exec (.cqHead q v) s = .next t ∧ t.u.qif.q.look q {} = { s.u.qif.q.look q {} with cqHead := v }
      ∧ s.Keeps t (queueKeys q) fun u => { u with qif := { u.qif with q := [] } })
  ∧ (∀ (s : State) (q : Fin 64) (v : Nat),
    s.rd (QIF_Q_STATUS_STATE q) = 0 ∨ (s.rd (QIF_Q_STATUS_STATE q) ≠ 3 ∧ (s.u.qif.q.look q {}).depth ≤ v) →
    (∃ t, exec (.sqTail q v) s = .next t ∧ t.rd QIF_DB_ERR_QID = q ∧ t.rd QIF_DB_ERR_VALID = 1 ∧ t.status 401 = true
      ∧ t.rd QIF_DB_ERR_KIND = (if s.rd (QIF_Q_STATUS_STATE q) = 0 then 3 else 1)
      ∧ t.rd QIF_COUNT_DB_ERR = min (s.rd QIF_COUNT_DB_ERR + 1) (2 ^ QIF_COUNT_DB_ERR.w - 1)
      ∧ s.Keeps t (own [QIF_DB_ERR_QID, QIF_DB_ERR_KIND, QIF_DB_ERR_VALID, QIF_COUNT_DB_ERR]) id)
    ∧ ∃ t, exec (.cqHead q v) s = .next t ∧ t.rd QIF_DB_ERR_KIND = (if s.rd (QIF_Q_STATUS_STATE q) = 0 then 3 else 2) ∧ t.status 401 = true
      ∧ s.Keeps t (own [QIF_DB_ERR_QID, QIF_DB_ERR_KIND, QIF_DB_ERR_VALID, QIF_COUNT_DB_ERR]) id)
  ∧ (∀ (s : State) (q : Fin 64) (v : Nat), s.rd (QIF_Q_STATUS_STATE q) = 3 →
    ∃ t, exec (.sqTail q v) s = .next t ∧ exec (.cqHead q v) s = .next t ∧ t.rd QIF_DB_ERR_QID = q ∧ t.rd QIF_DB_ERR_KIND = 3
      ∧ t.rd QIF_DB_ERR_VALID = 1 ∧ t.rd QIF_COUNT_DB_ERR = min (s.rd QIF_COUNT_DB_ERR + 1) (2 ^ QIF_COUNT_DB_ERR.w - 1) ∧ t.out = s.out
      ∧ s.Keeps t (own [QIF_DB_ERR_QID, QIF_DB_ERR_KIND, QIF_DB_ERR_VALID, QIF_COUNT_DB_ERR]) id)
  ∧ (∀ s : State, s.rd QIF_CTL_EN = 0 → s.rd (QIF_Q_STATUS_STATE 0) ≠ 3 → s.rd GLB_BOOT_STATUS_READY ≠ 0 → s.u.glb.busMaster = true →
    ∃ t, exec .en s = .next t ∧ t.rd QIF_CTL_EN = 1 ∧ t.rd QIF_STATUS_RDY = 1 ∧ t.rd (QIF_Q_STATUS_STATE 0) = 1
      ∧ (t.u.qif.q.look 0 {}).depth = s.rd QIF_ADMIN_DEPTH_DEPTH_M1 + 1 ∧ (t.u.qif.q.look 0 {}).tail = 0 ∧ (t.u.qif.q.look 0 {}).phase = true
      ∧ s.Keeps t (fun k => queueKeys 0 k || own [QIF_CTL_EN, QIF_STATUS_RDY, QIF_Q_STATUS_STATE 0, QIF_Q_STATUS_CLASS 0, QIF_Q_STATUS_VECTOR 0] k)
          fun u => { u with qif := { u.qif with q := [] } })
  ∧ (∀ s : State, s.rd QIF_CTL_EN = 0 → s.rd (QIF_Q_STATUS_STATE 0) ≠ 3 → s.rd GLB_BOOT_STATUS_READY = 0 ∨ s.u.glb.busMaster = false →
    ∃ t, exec .en s = .next t ∧ t.status 9 = true ∧ s.Keeps t (own []) id)
  ∧ (∀ s : State, s.rd QIF_CTL_EN ≠ 0 → s.u.qif.cmds = [] → s.u.qif.resets = [] →
    ∃ t, exec .qifDisable s = .next t ∧ t.rd QIF_CTL_EN = 0 ∧ t.rd QIF_STATUS_RDY = 0 ∧ t.rd QIF_STATUS_ADMIN_ERR = 0
      ∧ (∀ q < 64, s.rd (QIF_Q_STATUS_STATE q) = 1 ∨ s.rd (QIF_Q_STATUS_STATE q) = 2 → t.rd (QIF_Q_STATUS_STATE q) = 0)
      ∧ s.Keeps t (span 0x1500000 0x1520000) fun u => { u with qif := {} })
  ∧ (∀ s : State, s.rd QIF_CTL_EN ≠ 0 → s.rd (QIF_Q_STATUS_STATE 0) ≠ 3 → s.u.qif.cmds = [] → s.u.qif.resets = [] →
    ∃ t, exec .adminReset s = .next t ∧ t.rd (QIF_Q_STATUS_STATE 0) = 1 ∧ t.rd QIF_STATUS_ADMIN_ERR = 0
      ∧ (let x := t.u.qif.q.look 0 {}
         x.tail = 0 ∧ x.head = 0 ∧ x.cqTail = 0 ∧ x.cqHead = 0 ∧ x.phase = true ∧ x.depth = (s.u.qif.q.look 0 {}).depth)
      ∧ s.Keeps t (fun k => queueKeys 0 k || own [QIF_Q_STATUS_STATE 0, QIF_STATUS_ADMIN_ERR] k) fun u => { u with qif := {} })
  ∧ (∀ (s : State) (q : Fin 64) (v : Nat), (s.u.qif.q.look q {}).unsent ≠ 0 → s.rd (QIF_Q_STATUS_VECTOR q) = v →
    ∃ t, exec (.coalesceTimeout q) s = .next t ∧ (t.u.qif.q.look q {}).unsent = 0
      ∧ (if s.rd (QIF_MSIX_MASK v) = 0 ∧ s.u.glb.busMaster = true ∧ s.u.glb.d3hot = false then t.out = .msix v :: s.out
        else t.rd QIF_PBA = (s.rd QIF_PBA ||| 2 ^ v) % 2 ^ 64)
      ∧ s.Keeps t (queueKeys q) fun u => { u with qif := { u.qif with q := [] } })
  ∧ ∀ (s : State) (v : Fin 64),
    ∃ t, exec (.msixUnmask v) s = .next t ∧ t.rd (QIF_MSIX_MASK v) = 0
      ∧ (bit (s.rd QIF_PBA) v = true → s.u.glb.busMaster = true → s.u.glb.d3hot = false → t.out = .msix v :: s.out ∧ bit (t.rd QIF_PBA) v = false)
      ∧ (bit (s.rd QIF_PBA) v = false → t.out = s.out)
      ∧ s.Keeps t (own [QIF_MSIX_MASK v]) id

/-- With no read outstanding, fetching not stopped and requests allowed, FETCH_READ reads up to 8 entries: of the first URGENT queue that has any, else of the first class of HIGH, MEDIUM, LOW that has entries and credit, at most its credit, which it spends; when none of them has credit all take their weights anew. ENTRIES_FETCHED appends the commands, moves the SQ head and counts them fetched; a failed read puts the queue in error, counts HOST_ERR and raises event 402; the entries of a queue reset meanwhile are dropped. COMMAND_DISPATCH takes the oldest urgent waiting command, else the oldest, and starts it, or completes it at the first of checks 1 to 5 that fails. -/
def Obligations.CommandFetch : Prop :=
  (∀ (s : State) (q : Nat), s.u.qif.reading = none → s.rd QIF_STATUS_FETCH_STOPPED = 0 → s.u.glb.busMaster = true → s.u.glb.d3hot = false →
    (Run.start s).nextQueue 0 = some q →
    ∃ t, exec .fetchRead s = .next t
      ∧ (let x := s.u.qif.q.look q {}
         let n := min 8 ((Run.start s).fetchable q)
         t.u.qif.reading = some (q, x.head, n, true) ∧ s.sends t (.hostRead (x.sq + 64 * x.head) (64 * n)))
      ∧ t.u.qif.cmds = s.u.qif.cmds ∧ s.Keeps t (own []) fun u => { u with qif := { u.qif with reading := none, last := [], credit := [] } })
  ∧ (∀ (s : State) (c q : Nat), s.u.qif.reading = none → s.rd QIF_STATUS_FETCH_STOPPED = 0 → s.u.glb.busMaster = true → s.u.glb.d3hot = false →
    (Run.start s).nextQueue 0 = none → c = 1 ∨ c = 2 ∨ c = 3 → (Run.start s).nextQueue c = some q → 0 < s.u.qif.credit.look c 0 →
    (∀ d, 1 ≤ d → d < c → (Run.start s).nextQueue d = none ∨ s.u.qif.credit.look d 0 = 0) →
    ∃ t, exec .fetchRead s = .next t
      ∧ (let x := s.u.qif.q.look q {}
         let n := min (min 8 ((Run.start s).fetchable q)) (s.u.qif.credit.look c 0)
         t.u.qif.reading = some (q, x.head, n, true) ∧ s.sends t (.hostRead (x.sq + 64 * x.head) (64 * n))
           ∧ t.u.qif.credit.look c 0 = s.u.qif.credit.look c 0 - n)
      ∧ s.Keeps t (own []) fun u => { u with qif := { u.qif with reading := none, last := [], credit := [] } })
  ∧ (∀ (s : State) (c q : Nat), s.u.qif.reading = none → s.rd QIF_STATUS_FETCH_STOPPED = 0 → s.u.glb.busMaster = true → s.u.glb.d3hot = false →
    (Run.start s).nextQueue 0 = none → c = 1 ∨ c = 2 ∨ c = 3 → (Run.start s).nextQueue c = some q →
    (∀ d, 1 ≤ d → d < 4 → (Run.start s).nextQueue d = none ∨ s.u.qif.credit.look d 0 = 0) → (∀ d, 1 ≤ d → d < c → (Run.start s).nextQueue d = none) →
    ∃ t, exec .fetchRead s = .next t
      ∧ (let x := s.u.qif.q.look q {}
         let n := min (min 8 ((Run.start s).fetchable q)) ((Run.start s).arbWeight c)
         t.u.qif.reading = some (q, x.head, n, true) ∧ s.sends t (.hostRead (x.sq + 64 * x.head) (64 * n))
           ∧ t.u.qif.credit.look c 0 = (Run.start s).arbWeight c - n)
      ∧ s.Keeps t (own []) fun u => { u with qif := { u.qif with reading := none, last := [], credit := [] } })
  ∧ (∀ (s : State) (q a n : Nat) (bs : List Byte), s.u.qif.reading = some (q, a, n, true) →
    ∃ t, exec (.entriesFetched (some bs)) s = .next t ∧ t.u.qif.reading = none
      ∧ t.u.qif.cmds = s.u.qif.cmds ++ (List.range n).map (fun i =>
          { no := s.u.qif.next + i, q := q, urgent := s.rd (QIF_Q_STATUS_CLASS q) == 0, entry := padTo 64 ((bs.drop (64 * i)).take 64) })
      ∧ t.u.qif.q.look q {} = { s.u.qif.q.look q {} with head := (a + n) % (s.u.qif.q.look q {}).depth, fetched := (s.u.qif.q.look q {}).fetched + n }
      ∧ s.Keeps t (queueKeys q) fun u => { u with qif := { u.qif with reading := none, q := [], cmds := [], next := 0 } })
  ∧ (∀ (s : State) (q a n : Nat), s.u.qif.reading = some (q, a, n, true) →
    ∃ t, exec (.entriesFetched none) s = .next t ∧ t.u.qif.reading = none ∧ t.rd (QIF_Q_STATUS_STATE q) = 2 ∧ t.status 402 = true
      ∧ t.rd QIF_COUNT_HOST_ERR = min (s.rd QIF_COUNT_HOST_ERR + 1) (2 ^ QIF_COUNT_HOST_ERR.w - 1)
      ∧ (q = 0 → t.rd QIF_STATUS_ADMIN_ERR = 1)
      ∧ s.Keeps t (own [QIF_Q_STATUS_STATE q, QIF_COUNT_HOST_ERR, QIF_STATUS_ADMIN_ERR]) fun u => { u with qif := { u.qif with reading := none } })
  ∧ (∀ (s : State) (q a n : Nat) (data : Option (List Byte)), s.u.qif.reading = some (q, a, n, false) →
    ∃ t, exec (.entriesFetched data) s = .next t ∧ t.u.qif.reading = none ∧ s.Keeps t (own []) fun u => { u with qif := { u.qif with reading := none } })
  ∧ (∀ (s : State) (c : Cmd), (let w := s.u.qif.cmds.filter fun c => !c.started
      (w.find? Cmd.urgent).or w.head? = some c) → (Run.start s).duty 0 = true → (Run.start s).precheck c = none →
    ∃ t, exec .commandDispatch s = .next t ∧ t.u.qif.cmds = s.u.qif.cmds.map (fun x => if x.no = c.no then { x with started := true } else x)
      ∧ s.Keeps t (own []) fun u => { u with qif := { u.qif with cmds := [] } })
  ∧ ∀ (s : State) (c : Cmd) (st d : Nat), (let w := s.u.qif.cmds.filter fun c => !c.started
      (w.find? Cmd.urgent).or w.head? = some c) → (Run.start s).duty 0 = true → (Run.start s).precheck c = some (st, d) →
    s.u.qif.cmds.find? (fun x => x.no == c.no) = some c → c.aborted = false → s.u.qif.resets = [] →
    ∃ t, exec .commandDispatch s = .next t ∧ s.Completed t c st 0 ∧ s.Keeps t (queueKeys c.q) fun u => { u with qif := {} }

/-- OK and NEGOTIATE_FEATURES lock a set that R59 allows, else show REFUSED, REASON and FIRST_BAD with event 6; a second lock is turned away. IDENTIFY and GET_LOG send what Tables 12-6 and 12-8 say to the command's buffer and complete; past a page's end GET_LOG completes with 42; with host memory unreachable the status is 39. CREATE_QUEUE makes a queue ACTIVE with its depth, class and vector; DELETE_QUEUE and RESET_QUEUE of a queue without commands end at once. SET_EVENT_ROUTE answers the old route and stores the new one. VISION_FETCH sends a published slot with its SEQ, or completes with 44 when it is stale; PROXY_FETCH sends the whole records that fit and moves OUT_RD, or answers how long the next one is. A field out of range completes with 33. -/
def Obligations.AdminCommands : Prop :=
  (∀ s : State, s.rd GLB_FEAT_CTL_OK = 0 → featRefusal (Run.start s).offered (Run.start s).wovenReq (Run.start s).drvFeat = none →
    ∃ t, exec .ok s = .next t ∧ t.rd GLB_FEAT_CTL_LOCKED = 1 ∧ t.rd GLB_FEAT_CTL_OK = 1 ∧ t.rd GLB_FEAT_CTL_REFUSED = 0
      ∧ t.u.glb.feat = (Run.start s).drvFeat
      ∧ s.Keeps t (own [GLB_FEAT_CTL_LOCKED, GLB_FEAT_CTL_OK, GLB_FEAT_CTL_REFUSED, GLB_FEAT_CTL_REASON, GLB_FEAT_CTL_FIRST_BAD])
          fun u => { u with glb := { u.glb with feat := 0 } })
  ∧ (∀ (s : State) (b why : Nat), s.rd GLB_FEAT_CTL_OK = 0 →
    featRefusal (Run.start s).offered (Run.start s).wovenReq (Run.start s).drvFeat = some (b, why) →
    ∃ t, exec .ok s = .next t ∧ t.rd GLB_FEAT_CTL_REFUSED = 1 ∧ t.rd GLB_FEAT_CTL_OK = 0 ∧ t.rd GLB_FEAT_CTL_FIRST_BAD = b
      ∧ t.rd GLB_FEAT_CTL_REASON = why ∧ t.status 6 = true
      ∧ s.Keeps t (own [GLB_FEAT_CTL_OK, GLB_FEAT_CTL_REFUSED, GLB_FEAT_CTL_REASON, GLB_FEAT_CTL_FIRST_BAD]) id)
  ∧ (∀ s : State, s.rd GLB_FEAT_CTL_OK ≠ 0 → ∃ t, exec .ok s = .next t ∧ t.status 9 = true ∧ s.Keeps t (own []) id)
  ∧ (∀ (s : State) (c : Cmd), s.issued 2 c → s.rd GLB_FEAT_CTL_LOCKED ≠ 0 →
    ∃ t, exec .negotiateFeatures s = .next t ∧ s.Completed t c 36 0 ∧ s.Keeps t (queueKeys c.q) fun u => { u with qif := {} })
  ∧ (∀ (s : State) (c : Cmd), s.issued 2 c → s.rd GLB_FEAT_CTL_LOCKED = 0 →
    featRefusal (Run.start s).offered (Run.start s).wovenReq (c.f 0x18 16) = none →
    ∃ t, exec .negotiateFeatures s = .next t ∧ s.Completed t c 0 0 ∧ t.rd GLB_FEAT_CTL_LOCKED = 1 ∧ t.rd GLB_FEAT_CTL_OK = 1
      ∧ t.u.glb.feat = c.f 0x18 16
      ∧ s.Keeps t (fun k => queueKeys c.q k || own [GLB_FEAT_CTL_LOCKED, GLB_FEAT_CTL_OK, GLB_FEAT_CTL_REFUSED, GLB_FEAT_CTL_REASON,
          GLB_FEAT_CTL_FIRST_BAD] k) fun u => { u with qif := {}, glb := { u.glb with feat := 0 } })
  ∧ (∀ (s : State) (c : Cmd) (b why : Nat), s.issued 2 c → s.rd GLB_FEAT_CTL_LOCKED = 0 →
    featRefusal (Run.start s).offered (Run.start s).wovenReq (c.f 0x18 16) = some (b, why) →
    ∃ t, exec .negotiateFeatures s = .next t ∧ s.Completed t c 35 (why * 16 + b * 256) ∧ t.rd GLB_FEAT_CTL_LOCKED = 0
      ∧ t.rd GLB_FEAT_CTL_REFUSED = 1 ∧ t.rd GLB_FEAT_CTL_OK = 0 ∧ t.status 6 = true
      ∧ s.Keeps t (fun k => queueKeys c.q k || own [GLB_FEAT_CTL_OK, GLB_FEAT_CTL_REFUSED, GLB_FEAT_CTL_REASON, GLB_FEAT_CTL_FIRST_BAD] k)
          fun u => { u with qif := {} })
  ∧ (∀ (s : State) (h : HostData) (c : Cmd) (segs : List (Nat × Nat)), s.issued 1 c →
    c.buffer h ((Run.start s).identity c).length = some segs →
    ∃ t, exec (.identify h) s = .next t
      ∧ (if h.ok then s.Completed t c 0 0 ∧ s.scattered t segs ((Run.start s).identity c) false else s.Completed t c 39 0)
      ∧ s.Keeps t (fun k => queueKeys c.q k || own [QIF_COUNT_HOST_ERR] k) fun u => { u with qif := {} })
  ∧ (∀ (s : State) (c : Cmd) (q : Nat), s.issued 3 c → q = c.f 0x18 2 → q ≠ c.q → s.rd (QIF_Q_STATUS_STATE q) = 0 →
    c.f 8 8 % 4096 = 0 → c.f 0x10 8 % 4096 = 0 →
    ∃ t, exec .createQueue s = .next t ∧ s.Completed t c 0 0 ∧ t.rd (QIF_Q_STATUS_STATE q) = 1 ∧ t.rd (QIF_Q_STATUS_CLASS q) = c.f 0x1C 1 % 4
      ∧ t.rd (QIF_Q_STATUS_VECTOR q) = c.f 0x1D 1 % 64
      ∧ t.u.qif.q.look q {} = { depth := c.f 0x1A 2 + 1, sq := c.f 8 8, cq := c.f 0x10 8, coalN := c.f 0x1E 1, coalT := c.f 0x1F 1 }
      ∧ s.Keeps t (fun k => queueKeys c.q k || queueKeys q k || own [QIF_Q_STATUS_STATE q, QIF_Q_STATUS_CLASS q, QIF_Q_STATUS_VECTOR q] k)
          fun u => { u with qif := {} })
  ∧ (∀ (s : State) (c : Cmd), s.issued 3 c →
    s.rd (QIF_Q_STATUS_STATE (c.f 0x18 2)) ≠ 0 ∨ c.f 8 8 % 4096 ≠ 0 ∨ c.f 0x10 8 % 4096 ≠ 0 →
    ∃ t, exec .createQueue s = .next t ∧ s.Completed t c 33 0 ∧ s.Keeps t (queueKeys c.q) fun u => { u with qif := {} })
  ∧ (∀ (s : State) (c : Cmd) (q : Nat), s.issued 4 c → q = c.f 0x18 2 →
    s.rd (QIF_Q_STATUS_STATE q) = 1 ∨ s.rd (QIF_Q_STATUS_STATE q) = 2 → (∀ x ∈ s.u.qif.cmds, x.q ≠ q) →
    ∃ t, exec .deleteQueue s = .next t ∧ s.Completed t c 0 0 ∧ t.rd (QIF_Q_STATUS_STATE q) = 0 ∧ t.u.qif.q.look q {} = {}
      ∧ s.Keeps t (fun k => queueKeys c.q k || queueKeys q k || own [QIF_Q_STATUS_STATE q, QIF_Q_STATUS_CLASS q, QIF_Q_STATUS_VECTOR q,
          QIF_STATUS_ADMIN_ERR] k) fun u => { u with qif := {} })
  ∧ (∀ (s : State) (c : Cmd) (q : Nat), s.issued 5 c → q = c.f 0x18 2 →
    s.rd (QIF_Q_STATUS_STATE q) = 1 ∨ s.rd (QIF_Q_STATUS_STATE q) = 2 → (∀ x ∈ s.u.qif.cmds, x.q ≠ q) →
    ∃ t, exec .resetQueue s = .next t ∧ s.Completed t c 0 0 ∧ t.rd (QIF_Q_STATUS_STATE q) = 1
      ∧ t.u.qif.q.look q {} = { s.u.qif.q.look q {} with tail := 0, head := 0, cqTail := 0, cqHead := 0, phase := true, fetched := 0, unsent := 0 }
      ∧ s.Keeps t (fun k => queueKeys c.q k || queueKeys q k || own [QIF_Q_STATUS_STATE q, QIF_STATUS_ADMIN_ERR] k) fun u => { u with qif := {} })
  ∧ (∀ (s : State) (c : Cmd), (s.issued 4 c → s.rd (QIF_Q_STATUS_STATE (c.f 0x18 2)) = 0 ∨ s.rd (QIF_Q_STATUS_STATE (c.f 0x18 2)) = 3 →
      ∃ t, exec .deleteQueue s = .next t ∧ s.Completed t c 33 0)
    ∧ (s.issued 5 c → s.rd (QIF_Q_STATUS_STATE (c.f 0x18 2)) = 0 ∨ s.rd (QIF_Q_STATUS_STATE (c.f 0x18 2)) = 3 →
      ∃ t, exec .resetQueue s = .next t ∧ s.Completed t c 33 0))
  ∧ (∀ (s : State) (h : HostData) (c : Cmd) (segs : List (Nat × Nat)), s.issued 6 c →
    (let page := (Run.start s).logPage (c.f 0x18 1) (c.f 0x19 1)
     let bs := (page.drop (c.f 0x1C 4)).take (c.f 0x20 4)
     c.f 0x1C 4 < page.length → c.buffer h (c.f 0x20 4) ≠ none → c.buffer h bs.length = some segs →
     ∃ t, exec (.getLog h) s = .next t
      ∧ (if h.ok then s.Completed t c 0 bs.length ∧ s.scattered t segs bs false else s.Completed t c 39 0)
      ∧ s.Keeps t (fun k => queueKeys c.q k || own [QIF_COUNT_HOST_ERR] k) fun u => { u with qif := {} }))
  ∧ (∀ (s : State) (h : HostData) (c : Cmd), s.issued 6 c → ((Run.start s).logPage (c.f 0x18 1) (c.f 0x19 1)).length ≤ c.f 0x1C 4 →
    ∃ t, exec (.getLog h) s = .next t ∧ s.Completed t c 42 0)
  ∧ (∀ (s : State) (c : Cmd) (e v : Nat), s.issued 7 c → e = c.f 0x18 4 → v = c.f 0x1C 4 → e < 512 → bits v 20 12 = 0 → bit v 7 = false →
    ∃ t, exec .setEventRoute s = .next t ∧ s.Completed t c 0 ((Run.start s).reg32 (0x101000 + 4 * e))
      ∧ t.rd (EVT_ROUTE_VECTOR e) = bits v 0 6 ∧ t.rd (EVT_ROUTE_MSIX e) = bits v 6 1 ∧ t.rd (EVT_ROUTE_WARDEN e) = bits v 8 4
      ∧ t.rd (EVT_ROUTE_PIN e) = bits v 12 4
      ∧ s.Keeps t (fun k => queueKeys c.q k || own [EVT_ROUTE_VECTOR e, EVT_ROUTE_MSIX e, EVT_ROUTE_WARDEN e, EVT_ROUTE_PIN e] k)
          fun u => { u with qif := {} })
  ∧ (∀ (s : State) (c : Cmd), s.issued 7 c → bits (c.f 0x1C 4) 20 12 ≠ 0 ∨ bit (c.f 0x1C 4) 7 = true →
    ∃ t, exec .setEventRoute s = .next t ∧ s.Completed t c 33 0 ∧ s.Keeps t (queueKeys c.q) fun u => { u with qif := {} })
  ∧ (∀ (s : State) (h : HostData) (changed : Bool) (c : Cmd) (o : Nat), s.issued 0x18 c → o = c.f 0x18 1 →
    (Run.start s).hasCfg 0x0701 o = false ∨ (Run.start s).olKind o ≠ 3 →
    ∃ t, exec (.visionFetch h changed) s = .next t ∧ s.Completed t c 33 0)
  ∧ (∀ (s : State) (h : HostData) (changed : Bool) (c : Cmd) (o k n : Nat) (g : Got) (segs : List (Nat × Nat)), s.issued 0x18 c →
    o = c.f 0x18 1 → k = (if c.f 0x19 1 = 0xFF then (((Run.start s).outU o).count + (Run.start s).olN o 0x11 1 - 1) % (Run.start s).olN o 0x11 1 else c.f 0x19 1) →
    k < (Run.start s).olN o 0x11 1 →
    n = visionStride (bit ((Run.start s).olN o 0x10 1) 4) ((Run.start s).olN o 0xC 2) ((Run.start s).olN o 0xE 2) →
    (Run.start s).hasCfg 0x0701 o = true → (Run.start s).olKind o = 3 → n ≤ c.f 0x1C 4 → c.buffer h (c.f 0x1C 4) ≠ none →
    g = (Run.start s).peekMem 12 ((Run.start s).olSlot o k) n → g.ok = true → g.poison = false → c.buffer h g.bytes.length = some segs → h.ok = true →
    ∃ t, exec (.visionFetch h changed) s = .next t
      ∧ (if field g.bytes 0x3C 4 = 0 ∨ changed = true then s.Completed t c 44 0
        else s.Completed t c 0 (field g.bytes 0x3C 4 + field g.bytes 8 4 * 2 ^ 32) ∧ s.scattered t segs g.bytes ((Run.start s).feature 1))
      ∧ s.Keeps t (queueKeys c.q) fun u => { u with qif := {} })
  ∧ ∀ (s : State) (h : HostData) (c : Cmd) (n base : Nat) (w : List (Nat × Nat) × Nat) (segs : List (Nat × Nat)), s.issued 0x19 c → n = c.f 0x18 1 →
    base = (Run.start s).polder ((Run.start s).encN n 8 1) + (Run.start s).encN n 0x10 4 * 4096 →
    w = auWalk (fun rd => ((Run.start s).peekMem 12 (base + rd) 64).bytes) ((Run.start s).ringSize n) (s.rd (ENC_OUT_WR_WR n))
      ((Run.start s).ringSize n / 64 + 2) (s.rd (ENC_OUT_RD_RD n)) (c.f 0x1C 4) →
    (∀ x ∈ w.1, ((Run.start s).peekMem 12 (base + x.1) x.2).ok = true ∧ ((Run.start s).peekMem 12 (base + x.1) x.2).poison = false) →
    c.buffer h (c.f 0x1C 4) ≠ none → c.buffer h (w.1.flatMap fun x => ((Run.start s).peekMem 12 (base + x.1) x.2).bytes).length = some segs →
    h.ok = true →
    ∃ t, exec (.proxyFetch h) s = .next t
      ∧ (let bs := w.1.flatMap fun x => ((Run.start s).peekMem 12 (base + x.1) x.2).bytes
        if w.1 = [] then s.Completed t c 0 (if w.2 = s.rd (ENC_OUT_WR_WR n) then 0
          else (64 + ceilDiv (field ((Run.start s).peekMem 12 (base + w.2) 64).bytes 0x24 4) 64 * 64) * 2 ^ 32)
        else s.Completed t c 0 (w.1.length + bs.length * 2 ^ 32) ∧ t.rd (ENC_OUT_RD_RD n) = w.2 % 2 ^ (ENC_OUT_RD_RD n).w
          ∧ s.scattered t segs bs ((Run.start s).feature 1))
      ∧ s.Keeps t (fun k => queueKeys c.q k || own [ENC_OUT_RD_RD n] k) fun u => { u with qif := {} }

/-- CPL and MAG_DATA in sequence on a LINKED hop move the expected SEQ on, owe an ACK and end a NAK sequence; a successful CPL of a stripe's last chunk makes the stripe durable and counts it; one that is short or failed raises the drive's event, and status 1 counts a media error. A packet ahead of the expected SEQ is answered by a NAK and words are discarded to the next resync point, as is a DATA packet whose LEN is not that of 1,024 bytes; a duplicate, or anything while words are discarded or the hop is not LINKED, changes nothing. A DATA packet lands in its command's bytes. DRV_STATUS shows state and alarm, a rising ALARM is counted and raises the drive's event, and an alarm on a member asks for a new magazine. HOP_ACK_SEND sends the ACK that is owed, HOP_NAK_RESEND repeats a NAK up to eight times. -/
def Obligations.MagazineHops : Prop :=
  (∀ (s : State) (l : Fin 16) (p : Fin 4) (seq tag blocks info d m g i : Nat) (c : DCmd) (x : StripeU) (q : Geo), d = 4 * l.val + p.val →
    (Run.start s).hopLinked l = true → ((Run.start s).hop l).discard = false → seq = ((Run.start s).hop l).rx → s.magQuiet →
    ((Run.start s).drv d).wait = [] → (((Run.start s).drv d).out.find? fun y => y.tag == tag) = some c → c.count ≤ blocks → c.why = .chunk m g →
    ((Run.start s).magz m).stripes.find g = some x → x.left = [d] → (Run.start s).magK m ≤ x.ok + 1 → x.dead = false →
    (Run.start s).ringOf m g = some (q, i) → q.idx < 4 →
    ∃ t, exec (.cpl l seq p tag 0 blocks info) s = .next t
      ∧ t.u.magu.hop.look l {} = { s.u.magu.hop.look l {} with rx := (seq + 1) % 2 ^ 24, owed := true } ∧ t.rd (MAG_LINK_STATUS_NAK_COUNT l) = 0
      ∧ (t.u.magu.drv.look d {}).out = ((s.u.magu.drv.look d {}).out.filter fun y => y.tag != tag)
      ∧ t.rd (MAG_DRV_STATUS_OUTSTANDING d) = ((s.u.magu.drv.look d {}).out.filter fun y => y.tag != tag).length % 2 ^ (MAG_DRV_STATUS_OUTSTANDING d).w
      ∧ (t.u.magu.mag.look m {}).stripes = (s.u.magu.mag.look m {}).stripes.drop g
      ∧ t.rd (MAG_RING_STRIPES_COUNT q.idx) = (s.rd (MAG_RING_STRIPES_COUNT q.idx) + 1) % 2 ^ (MAG_RING_STRIPES_COUNT q.idx).w
      ∧ s.Keeps t magKeys Units.noMag)
  ∧ (∀ (s : State) (l : Fin 16) (p : Fin 4) (seq tag status blocks info d no g k : Nat) (c : DCmd), d = 4 * l.val + p.val →
    (Run.start s).hopLinked l = true → ((Run.start s).hop l).discard = false → seq = ((Run.start s).hop l).rx → s.magQuiet →
    ((Run.start s).drv d).wait = [] → (((Run.start s).drv d).out.find? fun y => y.tag == tag) = some c → c.why = .read no g k →
    status ≠ 0 ∨ blocks < c.count →
    ∃ t, exec (.cpl l seq p tag status blocks info) s = .next t ∧ t.seen (336 + d) = true
      ∧ t.u.magu.hop.look l {} = { s.u.magu.hop.look l {} with rx := (seq + 1) % 2 ^ 24, owed := true } ∧ t.rd (MAG_LINK_STATUS_NAK_COUNT l) = 0
      ∧ (t.u.magu.drv.look d {}).out = ((s.u.magu.drv.look d {}).out.filter fun y => y.tag != tag)
      ∧ t.rd (MAG_DRV_ERR_MEDIA_ERR d) = (if status = 1 then min (s.rd (MAG_DRV_ERR_MEDIA_ERR d) + 1) (2 ^ (MAG_DRV_ERR_MEDIA_ERR d).w - 1)
          else s.rd (MAG_DRV_ERR_MEDIA_ERR d))
      ∧ s.Keeps t (fun k => magKeys k || retireKey k) Units.noMag)
  ∧ (∀ (s : State) (l : Fin 16) (p : Fin 4) (seq tag off status blocks info : Nat) (data : List Byte) (h : HopU), h = s.u.magu.hop.look l {} →
    (Run.start s).hopLinked l = true → h.discard = false → seq ≠ h.rx → laterThan 24 seq h.rx = true ∨ subMod 24 seq h.rx = 2 ^ 23 →
    s.rd (MAG_LINK_STATUS_NAK_COUNT l) < 8 →
    ∃ t, exec (.cpl l seq p tag status blocks info) s = .next t ∧ exec (.magData l seq p tag off data) s = .next t
      ∧ s.HopNaks t l)
  ∧ (∀ (s : State) (l : Fin 16) (p : Fin 4) (seq tag off : Nat) (data : List Byte), (Run.start s).hopHears l = true → data.length ≠ 1024 →
    s.rd (MAG_LINK_STATUS_NAK_COUNT l) < 8 → ∃ t, exec (.magData l seq p tag off data) s = .next t ∧ s.HopNaks t l)
  ∧ (∀ (s : State) (l : Fin 16) (p : Fin 4) (seq tag off status blocks info : Nat) (data : List Byte), (Run.start s).hopLinked l = false
      ∨ ((Run.start s).hop l).discard = true ∨ (seq ≠ ((Run.start s).hop l).rx ∧ laterThan 24 seq ((Run.start s).hop l).rx = false
        ∧ subMod 24 seq ((Run.start s).hop l).rx ≠ 2 ^ 23) →
    exec (.cpl l seq p tag status blocks info) s = .next s
      ∧ ((Run.start s).hopHears l = false ∨ data.length = 1024 → exec (.magData l seq p tag off data) s = .next s))
  ∧ (∀ (s : State) (l : Fin 16) (p : Fin 4) (seq tag off d : Nat) (data : List Byte), d = 4 * l.val + p.val →
    (Run.start s).hopLinked l = true → ((Run.start s).hop l).discard = false → seq = ((Run.start s).hop l).rx → data.length = 1024 →
    ∃ t, exec (.magData l seq p tag off data) s = .next t
      ∧ t.u.magu.hop.look l {} = { s.u.magu.hop.look l {} with rx := (seq + 1) % 2 ^ 24, owed := true } ∧ t.rd (MAG_LINK_STATUS_NAK_COUNT l) = 0
      ∧ (t.u.magu.drv.look d {}).out = ((s.u.magu.drv.look d {}).out.map fun c =>
          if c.tag = tag ∧ (c.opc = 2 ∨ c.opc = 3) then { c with data := overlay (padTo (max c.data.length (off * 1024)) c.data) (off * 1024) data } else c)
      ∧ s.Keeps t (own [MAG_LINK_STATUS_NAK_COUNT l, MAG_DRV_STATUS_OUTSTANDING d]) fun u => { u with magu := { u.magu with hop := [], drv := [] } })
  ∧ (∀ (s : State) (l : Fin 16) (p : Fin 4) (st : Fin 5) (alarm : Bool) (progress qfree temp d : Nat), d = 4 * l.val + p.val →
    (Run.start s).hopLinked l = true → ((Run.start s).hop l).discard = false → s.magQuiet → st.val < 3 ∨ s.rd (MAG_DRV_STATUS_REMOVED d) ≠ 0 →
    ∃ t, exec (.drvStatus l p st alarm progress qfree temp) s = .next t ∧ t.rd (MAG_DRV_STATUS_DSTATE d) = st.val
      ∧ t.rd (MAG_DRV_STATUS_ALARM d) = b2n alarm
      ∧ (t.u.magu.drv.look d {}).word1 = st.val + 16 * b2n alarm + progress % 256 * 2 ^ 8 + qfree % 256 * 2 ^ 16 + temp % 2 ^ 16 * 2 ^ 48
      ∧ (alarm = true → s.rd (MAG_DRV_STATUS_ALARM d) = 0 → t.seen (336 + d) = true
          ∧ t.rd (MAG_DRV_ERR_ALARMS d) = min (s.rd (MAG_DRV_ERR_ALARMS d) + 1) (2 ^ (MAG_DRV_ERR_ALARMS d).w - 1))
      ∧ (alarm = true → s.rd (MAG_DRV_STATUS_MEMBER d) ≠ 0 → s.rd (MAG_MAG_STATUS_REPLACE ((Run.start s).magOfDrive d)) = 0 → t.seen 14 = true)
      ∧ s.Keeps t magKeys Units.noMag)
  ∧ (∀ (s : State) (l : Fin 16) (p : Fin 4) (st : Fin 5) (alarm : Bool) (progress qfree temp : Nat),
    (Run.start s).hopLinked l = false ∨ ((Run.start s).hop l).discard = true → exec (.drvStatus l p st alarm progress qfree temp) s = .next s)
  ∧ (∀ (s : State) (l : Fin 16) (n : Nat), (Run.start s).hopLinked l = true → ((Run.start s).hop l).owed = true →
    n = (((Run.start s).hop l).rx + 2 ^ 24 - 1) % 2 ^ 24 →
    ∃ t, exec (.hopAckSend l) s = .next t ∧ s.sends t (.packet (128 + l) 0x10 [0, 0, n] (packetBytes 0x10 0 0 n []))
      ∧ t.u.magu.hop.look l {} = { s.u.magu.hop.look l {} with owed := false }
      ∧ s.Keeps t (own []) fun u => { u with magu := { u.magu with hop := [] } })
  ∧ ∀ (s : State) (l : Fin 16) (n : Nat), (Run.start s).hopLinked l = true → 0 < s.rd (MAG_LINK_STATUS_NAK_COUNT l) →
    s.rd (MAG_LINK_STATUS_NAK_COUNT l) < 8 → n = ((Run.start s).hop l).rx →
    ∃ t, exec (.hopNakResend l) s = .next t ∧ s.sends t (.packet (128 + l) 0x11 [0, 0, n] (packetBytes 0x11 0 0 n []))
      ∧ t.rd (MAG_LINK_STATUS_NAK_COUNT l) = s.rd (MAG_LINK_STATUS_NAK_COUNT l) + 1
      ∧ t.rd (MAG_LINK_ERR_NAKS_TX l) = min (s.rd (MAG_LINK_ERR_NAKS_TX l) + 1) (2 ^ (MAG_LINK_ERR_NAKS_TX l).w - 1)
      ∧ s.Keeps t (own [MAG_LINK_STATUS_NAK_COUNT l, MAG_LINK_ERR_NAKS_TX l]) id

/-- The detectors of Table 10-9. Where no record writes on the magazine, HEARTBEAT_LOST shows DSTATE 15, COMMAND_TIMEOUT counts and raises the drive's event, REPLAY_EXHAUSTED and RELOCK_WINDOW act on every drive of the lane: commands are abandoned and a breach record of class 1 names the detector. On an armed or recording magazine a member is removed: REMOVED and its cause, the slot of its ring is lost, the ring is DEGRADED or FAILED, the drive's event and a breach record of class 2. For a drive already removed the fault is counted in the breach record of its removal. FAILED_LANE_RETRY returns a FAILED lane to ACQUIRE. A detector whose condition does not hold changes nothing (log entry 3). -/
def Obligations.MagazineDetectors : Prop :=
  (∀ (s : State) (d : Fin 64), s.rd (MAG_DRV_STATUS_DSTATE d) ≠ 15 → s.idleDrive d → s.magQuiet → s.geoOk →
    ∃ t, exec (.heartbeatLost d) s = .next t ∧ t.rd (MAG_DRV_STATUS_DSTATE d) = 15 ∧ t.rd (MAG_DRV_STATUS_OUTSTANDING d) = 0
      ∧ (t.u.magu.drv.look d {}).out = [] ∧ (t.u.magu.drv.look d {}).wait = []
      ∧ s.logged t 4 d 1 3 0 = true ∧ s.Keeps t (fun k => magKeys k || retireKey k) Units.noMag)
  ∧ (∀ (s : State) (d : Fin 64) (pre post : List Breach) (b : Breach), s.rd (MAG_DRV_STATUS_DSTATE d) ≠ 15 → s.rd (MAG_DRV_STATUS_REMOVED d) ≠ 0 →
    s.magQuiet → s.geoOk → s.u.evt.log = pre ++ b :: post → b.type = 4 → b.index = d.val → b.action = 3 →
    (∀ x ∈ pre, x.type ≠ 4 ∨ x.index ≠ d.val ∨ x.action ≠ 3) →
    ∃ t, exec (.heartbeatLost d) s = .next t ∧ t.rd (MAG_DRV_STATUS_DSTATE d) = 15
      ∧ t.u.evt.log.map (fun (x : Breach) => { x with inner := 0 })
        = (pre ++ { b with count := min (b.count + 1) 0xFFFF } :: post).map (fun (x : Breach) => { x with inner := 0 })
      ∧ s.Keeps t (fun k => magKeys k || retireKey k) Units.noMag)
  ∧ (∀ (s : State) (d : Fin 64) (g : Geo) (j : Nat), s.rd (MAG_DRV_STATUS_DSTATE d) ≠ 15 → s.memberAt d g j → s.magQuiet → s.geoOk →
    ∃ t, exec (.heartbeatLost d) s = .next t ∧ t.rd (MAG_DRV_STATUS_DSTATE d) = 15 ∧ s.Removes t d 3 g j
      ∧ s.Keeps t (fun k => magKeys k || retireKey k) Units.noMag)
  ∧ (∀ (s : State) (l : Fin 16) (p : Fin 4) (st : Fin 5) (alarm : Bool) (progress qfree temp d : Nat) (g : Geo) (j : Nat), d = 4 * l.val + p.val →
    (Run.start s).hopLinked l = true → ((Run.start s).hop l).discard = false → st.val = 3 ∨ st.val = 4 → s.memberAt d g j → s.magQuiet → s.geoOk →
    ∃ t, exec (.drvStatus l p st alarm progress qfree temp) s = .next t ∧ t.rd (MAG_DRV_STATUS_DSTATE d) = st.val ∧ s.Removes t d 6 g j
      ∧ s.Keeps t (fun k => magKeys k || retireKey k) Units.noMag)
  ∧ (∀ (s : State) (d : Fin 64), s.rd (MAG_DRV_STATUS_DSTATE d) = 15 → exec (.heartbeatLost d) s = .next s)
  ∧ (∀ (s : State) (d tag : Fin 64) (c : DCmd), (((Run.start s).drv d).out.find? fun x => x.tag == tag.val) = some c →
    ((Run.start s).drv d).wait = [] → s.idleDrive d → s.magQuiet → s.geoOk →
    ∃ t, exec (.commandTimeout d tag) s = .next t ∧ t.rd (MAG_DRV_ERR_TIMEOUTS d) = min (s.rd (MAG_DRV_ERR_TIMEOUTS d) + 1) 255
      ∧ t.seen (336 + d) = true ∧ (t.u.magu.drv.look d {}).out = ((s.u.magu.drv.look d {}).out.filter fun x => x.tag != tag.val)
      ∧ s.logged t 4 d 1 4 0 = true
      ∧ s.Keeps t (fun k => magKeys k || retireKey k) Units.noMag)
  ∧ (∀ (s : State) (d tag : Fin 64) (c : DCmd) (g : Geo) (j : Nat), (((Run.start s).drv d).out.find? fun x => x.tag == tag.val) = some c →
    s.memberAt d g j → s.magQuiet → s.geoOk →
    ∃ t, exec (.commandTimeout d tag) s = .next t ∧ t.rd (MAG_DRV_ERR_TIMEOUTS d) = min (s.rd (MAG_DRV_ERR_TIMEOUTS d) + 1) 255
      ∧ s.Removes t d 4 g j ∧ s.Keeps t (fun k => magKeys k || retireKey k) Units.noMag)
  ∧ (∀ (s : State) (d tag : Fin 64), (((Run.start s).drv d).out.find? fun x => x.tag == tag.val) = none →
    exec (.commandTimeout d tag) s = .next s)
  ∧ (∀ (s : State) (l : Fin 16), s.rd (MAG_LINK_STATUS_EXHAUSTED l) = 0 →
    s.rd (MAG_LINK_STATUS_NAK_COUNT l) = 8 ∨ ((Run.start s).hop l).kept ≠ [] → (Run.start s).chain l ≤ 4 →
    (∀ p < (Run.start s).chain l, s.idleDrive (4 * l + p)) → s.magQuiet → s.geoOk →
    ∃ t, exec (.replayExhausted l) s = .next t ∧ t.rd (MAG_LINK_STATUS_EXHAUSTED l) = 1 ∧ (t.u.magu.hop.look l {}).stopped = true
      ∧ (∀ p < (Run.start s).chain l, let v := t.u.magu.drv.look (4 * l + p) {}
          v.out = [] ∧ v.wait = [] ∧ v.ident = false ∧ s.logged t 4 (4 * l + p) 1 2 0 = true)
      ∧ s.Keeps t (fun k => magKeys k || retireKey k) Units.noMag)
  ∧ (∀ (s : State) (l : Fin 16), s.rd (MAG_LINK_STATUS_EXHAUSTED l) ≠ 0 ∨ (s.rd (MAG_LINK_STATUS_NAK_COUNT l) ≠ 8 ∧ ((Run.start s).hop l).kept = []) →
    exec (.replayExhausted l) s = .next s)
  ∧ (∀ (s : State) (l : Fin 16), s.rd (MAG_LINK_STATUS_RELOCK_WAIT l) ≠ 0 → (Run.start s).chain l ≤ 4 →
    (∀ p < (Run.start s).chain l, s.idleDrive (4 * l + p)) → s.magQuiet → s.geoOk →
    ∃ t, exec (.relockWindow l) s = .next t ∧ t.rd (MAG_LINK_STATUS_RELOCK_WAIT l) = 0
      ∧ (∀ p < (Run.start s).chain l, let v := t.u.magu.drv.look (4 * l + p) {}
          v.out = [] ∧ v.wait = [] ∧ v.ident = false ∧ s.logged t 4 (4 * l + p) 1 1 0 = true)
      ∧ s.Keeps t (fun k => magKeys k || retireKey k) Units.noMag)
  ∧ (∀ (s : State) (l : Fin 16), s.rd (MAG_LINK_STATUS_RELOCK_WAIT l) = 0 → exec (.relockWindow l) s = .next s)
  ∧ ∀ (s : State) (l : Fin 16) (n : Nat), n = 24 + l.val → s.rd (LNK_STATUS_STATE n) = 5 → ((Run.start s).laneU n).checking = false →
    ((Run.start s).laneU n).checkLater = false → (Run.start s).recordsOn ((Run.start s).magOfLane l) = false →
    ∃ t, exec (.failedLaneRetry l) s = .next t ∧ t.rd (LNK_STATUS_STATE n) = 1 ∧ t.rd (LNK_STATUS_TRAINED n) = 0 ∧ t.rd (LNK_STATUS_RX_LOCK n) = 0
      ∧ t.rd (LNK_TRAIN_ECHO_FAILS n) = 0 ∧ t.rd (LNK_TRAIN_REQ_COUNT n) = 0
      ∧ s.Keeps t (own [LNK_STATUS_STATE n, LNK_STATUS_TRAINED n, LNK_STATUS_RX_LOCK n, LNK_TRAIN_ECHO_FAILS n, LNK_TRAIN_REQ_COUNT n])
          fun u => { u with lane := [] }

/-- ARM_RECORD from IDLE on a READY magazine that is fast enough and with a pre-roll that fits moves STATE to ARMED, shows the magazine and completes; from another STATE it completes with 40, on a magazine that is not READY with 41. RECORD_START from ARMED opens a clip, completes with the low half of its CLIP_ID (free: log entry 4), and the record is RECORDING, or STOPPING with cause 2 where the magazine is full. RECORD_STOP ends an armed record at once and gives a running one its stop point, answering the time of TSEL. MARK adds a mark to a running record. CHANGE_NOW with the other magazine READY moves a running record there with event 15; where no changeover is possible it raises event 9, and with no record running it does nothing. A change of STATE raises event 12. -/
def Obligations.RecordCommands : Prop :=
  (∀ (s : State) (c : Cmd) (m : Nat) (pre : List Nat), s.issued 0x10 c → (Run.start s).duty 1 = true → m = c.f 0x18 1 → m < 2 →
    pre = ((List.range 16).map fun n => c.f (0x20 + 2 * n) 2) → s.rd MAG_REC_STATUS_STATE = 0 → s.rd GLB_RESET_CAUSE_CLIP_RESCUE_PENDING = 0 →
    (∀ h ∈ s.u.qif.handles, h.2.write = false ∨ h.2.mag ≠ m) → m = 0 ∨ (Run.start s).dual = true →
    (lowest (fun n => pre.getD n 0 != 0 && !((Run.start s).recCtxs.contains n)) 16) = none → s.rd (MAG_MAG_STATUS_READY m) ≠ 0 →
    (Run.start s).magSlow m = false → (Run.start s).prerollTooBig pre = false →
    ∃ t, exec .armRecord s = .next t ∧ s.Completed t c 0 0 ∧ t.rd MAG_REC_STATUS_STATE = 1 ∧ t.rd MAG_REC_STATUS_ACTIVE_MAG = m
      ∧ t.u.magu.prerolls = pre ∧ t.seen 12 = true
      ∧ (s.rd DEC_STATUS_RUNNING = 0 →
          s.Keeps t (fun k => queueKeys c.q k || own [MAG_REC_STATUS_STATE, MAG_REC_STATUS_ACTIVE_MAG] k)
            fun u => { u with qif := {}, magu := { u.magu with prerolls := [] } }))
  ∧ (∀ (s : State) (c : Cmd), s.issued 0x10 c → (Run.start s).duty 1 = true → s.rd MAG_REC_STATUS_STATE ≠ 0 →
    ∃ t, exec .armRecord s = .next t ∧ s.Completed t c 40 0 ∧ s.Keeps t (queueKeys c.q) fun u => { u with qif := {} })
  ∧ (∀ (s : State) (c : Cmd) (pre : List Nat), s.issued 0x10 c → (Run.start s).duty 1 = true → c.f 0x18 1 = 0 →
    pre = ((List.range 16).map fun n => c.f (0x20 + 2 * n) 2) → s.rd MAG_REC_STATUS_STATE = 0 → s.rd GLB_RESET_CAUSE_CLIP_RESCUE_PENDING = 0 →
    (∀ h ∈ s.u.qif.handles, h.2.write = false ∨ h.2.mag ≠ 0) →
    (lowest (fun n => pre.getD n 0 != 0 && !((Run.start s).recCtxs.contains n)) 16) = none → s.rd (MAG_MAG_STATUS_READY 0) = 0 →
    ∃ t, exec .armRecord s = .next t ∧ s.Completed t c 41 0 ∧ s.Keeps t (queueKeys c.q) fun u => { u with qif := {} })
  ∧ (∀ (s : State) (c : Cmd), s.issued 0x11 c → (Run.start s).duty 1 = true → s.rd MAG_REC_STATUS_STATE = 1 → (Run.start s).startFrames = [] →
    (Run.start s).recPorts = [] → s.u.magu.segs = [] → s.geoOk →
    ∃ t, exec .recordStart s = .next t ∧ s.Completed t c 0 (Config.free s.fresh % 2 ^ 128 % 2 ^ 64)
      ∧ (t.rd MAG_REC_STATUS_STATE = 2 ∨ (t.rd MAG_REC_STATUS_STATE = 3 ∧ t.rd MAG_REC_STATUS_STOP_CAUSE = 2)) ∧ t.seen 12 = true
      ∧ t.u.magu.start = s.tsel ∧ t.u.magu.marks = 0
      ∧ (t.u.magu.segs.head?.any fun x => x.clip == Config.free s.fresh % 2 ^ 128 && x.seg == 0 && x.mag == s.rd MAG_REC_STATUS_ACTIVE_MAG) = true
      ∧ s.Keeps t (fun k => magKeys k || queueKeys c.q k) fun u => { u with qif := {}, magu := {} })
  ∧ (∀ (s : State) (c : Cmd), s.issued 0x11 c → (Run.start s).duty 1 = true → s.rd MAG_REC_STATUS_STATE ≠ 1 →
    ∃ t, exec .recordStart s = .next t ∧ s.Completed t c 40 0 ∧ s.Keeps t (queueKeys c.q) fun u => { u with qif := {} })
  ∧ (∀ (s : State) (c : Cmd), s.issued 0x12 c → (Run.start s).duty 1 = true → s.rd MAG_REC_STATUS_STATE = 1 →
    ∃ t, exec .recordStop s = .next t ∧ s.Completed t c 0 0 ∧ t.rd MAG_REC_STATUS_STATE = 0 ∧ t.rd MAG_REC_STATUS_STOP_CAUSE = 1 ∧ t.seen 12 = true
      ∧ s.Keeps t (fun k => queueKeys c.q k || own [MAG_REC_STATUS_STATE, MAG_REC_STATUS_STOP_CAUSE] k) fun u => { u with qif := {} })
  ∧ (∀ (s : State) (c : Cmd) (x : Seg), s.issued 0x12 c → (Run.start s).duty 1 = true → s.rd MAG_REC_STATUS_STATE = 2 →
    (Run.start s).curSeg = some x →
    ∃ t, exec .recordStop s = .next t ∧ s.Completed t c 0 (shortTime s.tsel) ∧ t.rd MAG_REC_STATUS_STATE = 3 ∧ t.rd MAG_REC_STATUS_STOP_CAUSE = 1
      ∧ t.seen 12 = true ∧ t.u.magu.segs = (s.u.magu.segs.map fun y => if y.seg = x.seg then { y with stop := some s.tsel } else y)
      ∧ s.Keeps t (fun k => queueKeys c.q k || own [MAG_REC_STATUS_STATE, MAG_REC_STATUS_STOP_CAUSE] k)
          fun u => { u with qif := {}, magu := { u.magu with segs := [] } })
  ∧ (∀ (s : State) (c : Cmd), s.issued 0x12 c → (Run.start s).duty 1 = true → s.rd MAG_REC_STATUS_STATE ≠ 1 → s.rd MAG_REC_STATUS_STATE ≠ 2 →
    ∃ t, exec .recordStop s = .next t ∧ s.Completed t c 40 0 ∧ s.Keeps t (queueKeys c.q) fun u => { u with qif := {} })
  ∧ (∀ (s : State) (c : Cmd) (x : Seg), s.issued 0x13 c → (Run.start s).duty 1 = true → s.rd MAG_REC_STATUS_STATE = 2 →
    (Run.start s).curSeg = some x →
    ∃ t, exec .mark s = .next t ∧ s.Completed t c 0 (shortTime s.tsel) ∧ t.u.magu.marks = s.u.magu.marks + 1
      ∧ s.Keeps t (queueKeys c.q) fun u => { u with qif := {}, magu := { u.magu with segs := [], marks := 0 } })
  ∧ (∀ (s : State) (c : Cmd), s.issued 0x13 c → (Run.start s).duty 1 = true → s.rd MAG_REC_STATUS_STATE ≠ 2 →
    ∃ t, exec .mark s = .next t ∧ s.Completed t c 40 0 ∧ s.Keeps t (queueKeys c.q) fun u => { u with qif := {} })
  ∧ (∀ (s : State) (x : Seg), (Run.start s).canChange = true → s.rd MAG_REC_STATUS_STATE = 2 → (Run.start s).curSeg = some x → x.aud = [] → x.mag < 2 → s.geoOk →
    ∃ t, exec .changeNow s = .next t ∧ t.rd MAG_REC_STATUS_ACTIVE_MAG = 1 - x.mag ∧ t.seen 15 = true ∧ t.rd MAG_REC_STATUS_STATE = 2
      ∧ (t.u.magu.segs.any fun y => y.seg == x.seg + 1 && y.clip == x.clip && y.mag == 1 - x.mag && y.continued) = true
      ∧ s.Keeps t magKeys fun u => { u with magu := {} })
  ∧ (∀ s : State, (Run.start s).canChange = false → ∃ t, exec .changeNow s = .next t ∧ t.seen 9 = true ∧ s.Keeps t (own []) id)
  ∧ ∀ s : State, (Run.start s).canChange = true → s.rd MAG_REC_STATUS_STATE ≠ 2 → exec .changeNow s = .next s

/-- STRIPE_ISSUE sends the next full stripe of the oldest segment that has one to the slots of its ring that are not removed; a stopped segment whose frames are appended gets its manifest first; without either nothing happens. PACK_SLICE codes the next slice of the oldest frame that has one: PAK counts bytes in and out and the frame's bytes stay in its slot's rows; a retired PAK stores the frame unpacked with cause 3 and event 320. MAGAZINE_IDENTIFIED takes the labels of the drives that have answered and gives the magazine its geometry; while a lane of the magazine is not LINKED, or a read of a drive's identity or label is outstanding, nothing is taken. CLIP_RESCUE after READY starts the rescue of a clip that a warm reset found open; RESCUE_WAIT_TIMEOUT, or magazines of another MAG_ID or geometry, abandon it with STOP_CAUSE 6 and a breach record. -/
def Obligations.StripesAndIdentification : Prop :=
  (∀ (s : State) (x : Seg) (q : Geo) (i sb : Nat), s.u.magu.segs = [x] → 2 ≤ s.rd MAG_REC_STATUS_STATE → s.rd MAG_REC_STATUS_STATE ≠ 4 →
    s.u.glb.phase ≠ .warmDrain → x.dead = false → x.aud = [] → x.stop = none → x.manifest = none → x.sealGen = none → x.mag < 2 →
    sb = (Run.start s).stripeBytes x.mag → 0 < sb → x.issued * sb + sb ≤ x.bytes.length →
    (Run.start s).ringOf x.mag (x.g0 + x.issued) = some (q, i) → q.idx < 4 → s.geoOk →
    ∃ t, exec .stripeIssue s = .next t
      ∧ (t.u.magu.segs.head?.any fun y => y.seg == x.seg && y.issued == x.issued + 1 && y.bytes == x.bytes) = true
      ∧ (t.u.magu.mag.look x.mag {}).stripes.find (x.g0 + x.issued) = some { left := ((List.range (q.k + q.m)).filter fun j =>
          q.members.getD j 0xFF != 0xFF && !bit (s.rd (MAG_RING_LOST_LOST q.idx)) j).map fun j => q.members.getD j 0xFF }
      ∧ s.Keeps t magKeys fun u => { u with magu := {}, frames := [] })
  ∧ (∀ (s : State) (x : Seg) (sb : Nat), s.u.magu.segs = [x] → 2 ≤ s.rd MAG_REC_STATUS_STATE → s.rd MAG_REC_STATUS_STATE ≠ 4 →
    (Run.start s).duty 1 = true → x.dead = false → x.aud = [] → x.stop.isSome = true → x.todo = [] → x.manifest = none → x.sealGen = none → x.degr = [] →
    x.mag < 2 → sb = (Run.start s).stripeBytes x.mag → 0 < sb → x.bytes.length < x.issued * sb + sb → ((Run.start s).magz x.mag).geo ≠ [] → s.geoOk →
    ∃ t, exec .stripeIssue s = .next t
      ∧ (t.u.magu.segs.head?.any fun y => y.seg == x.seg && y.issued == x.issued + 1 && y.manifest == some x.bytes.length
          && y.bytes.length % sb == 0 && y.bytes.take x.bytes.length == x.bytes) = true
      ∧ s.Keeps t magKeys fun u => { u with magu := {}, frames := [] })
  ∧ (∀ s : State, s.rd MAG_REC_STATUS_STATE < 2 ∨ s.u.magu.segs = [] → exec .stripeIssue s = .next s)
  ∧ (∀ s : State, (Run.start s).pakNext = none → exec .packSlice s = .next s)
  ∧ (∀ (s : State) (f : IFrame), (Run.start s).pakNext = some f → s.rd PAK_STATUS_RETIRED ≠ 0 → s.u.magu.segs = [] →
    ∃ t, exec .packSlice s = .next t ∧ t.rd PAK_STATUS_FAIL_CAUSE = 3 ∧ t.rd PAK_FAIL_FN_FN = f.fn % 2 ^ 32 ∧ t.seen 320 = true
      ∧ t.rd PAK_COUNT_FALLBACKS = min (s.rd PAK_COUNT_FALLBACKS + 1) 65535
      ∧ t.u.frames = (s.u.frames.map fun y => if y.sn = f.sn then { y with pakDone := some 3, pakOut := [] } else y)
      ∧ s.Keeps t (own [PAK_STATUS_FAIL_CAUSE, PAK_FAIL_FN_FN, PAK_COUNT_FALLBACKS, PAK_STATUS_PACKING]) fun u => { u with frames := [] })
  ∧ (∀ (s : State) (f : IFrame) (n off len : Nat) (raw : List Byte) (x : List Bool × Nat × Bool), (Run.start s).pakNext = some f →
    s.rd PAK_STATUS_RETIRED = 0 → (Run.start s).isResetting 7 0 = false → s.u.mem.poison = [] → s.rd MEM_CFG_RETIRED = 0 →
    64 * f.slices + 64 < f.h → n = 64 → len = n * f.w * 9 / 4 → off = f.rawOff + 64 * f.slices * f.w * 9 / 4 →
    raw = (Run.start s).slotBytes f off len →
    x = codeBlocks (8 * f.pakOut.length) (64 * f.slices * f.w * 9 / 4) (sliceBlocks ((Run.start s).packPeriod f.ctx).1 ((Run.start s).packPeriod f.ctx).2
      ((List.range n).map fun j => (List.range f.w).map fun y => bits (ofLe raw) (18 * (j * f.w + y)) 18)) [] → x.2.2 = false →
    ∃ t, exec .packSlice s = .next t
      ∧ t.rd PAK_IN_BYTES_BYTES = (s.rd PAK_IN_BYTES_BYTES + (x.2.1 - 64 * f.slices * f.w * 9 / 4)) % 2 ^ 64
      ∧ t.rd PAK_OUT_BYTES_BYTES = (s.rd PAK_OUT_BYTES_BYTES + (bitBytes x.1).length) % 2 ^ 64
      ∧ ((t.u.frames.find? fun y => y.sn == f.sn).any fun y => y.slices == f.slices + 1 && y.offs == f.offs ++ [f.pakOut.length]
          && y.pakOut == f.pakOut ++ bitBytes x.1 && y.pakRaw == f.pakRaw ++ raw) = true
      ∧ s.KeepsBut t (own [PAK_IN_BYTES_BYTES, PAK_OUT_BYTES_BYTES, PAK_STATUS_PACKING])
          (fun a => (List.range ((f.rawOff + f.pakRaw.length + len) / 3840 + 1)).any fun i =>
            let b := (Run.start s).recBase + extRow f.exts i * 4096; b ≤ a && a < b + 4096)
          fun u => { u with frames := [] })
  ∧ (∀ (s : State) (m : Fin 2) (lanes all : List Nat), lanes = (Run.start s).magLanes m →
    all = (lanes.flatMap fun l => (List.range ((Run.start s).chain l)).map fun p => 4 * l + p) →
    lanes = [] ∨ (lanes.all fun l => (Run.start s).hopLinked l) = false ∨ all.any (Run.start s).identPending = true →
    ∃ t, exec (.magazineIdentified m) s = .next t ∧ t.u.magu = s.u.magu ∧ s.Keeps t magKeys id)
  ∧ (∀ (s : State) (m : Fin 2) (lanes mine : List Nat) (seen : List (Nat × Label)) (newest : Option Label), lanes = (Run.start s).magLanes m →
    mine = ((lanes.flatMap fun l => (List.range ((Run.start s).chain l)).map fun p => 4 * l + p).filter fun d => ((Run.start s).drv d).ident) →
    seen = (mine.filterMap fun d => ((Run.start s).drvLabel d).map fun l => (d, l)) →
    newest = seen.foldl (fun (a : Option Label) x => newestLabel (some x.2) a) none →
    lanes ≠ [] → (lanes.all fun l => (Run.start s).hopLinked l) = true →
    (∀ l ∈ lanes, ∀ p < (Run.start s).chain l, (Run.start s).identPending (4 * l + p) = false) →
    s.rd MAG_REC_STATUS_STATE ≠ 4 → (Run.start s).recordsOn m = false →
    ∃ t, exec (.magazineIdentified m) s = .next t
      ∧ (let z := t.u.magu.mag.look m {}
        z.identified = true ∧ z.label = newest.getD {}
          ∧ z.geo = if s.rd GLB_MODE_ROLE = 0 then (Run.start s).cfgGeo m else labelGeo seen)
      ∧ s.Keeps t magKeys Units.noMag)
  ∧ (∀ s : State, s.rd GLB_BOOT_STATUS_READY ≠ 0 → s.rd GLB_RESET_CAUSE_CLIP_RESCUE_PENDING ≠ 0 → s.rd MAG_REC_STATUS_STATE = 0 →
    (Run.start s).duty 1 = true → s.u.magu.segs.any (fun x => s.rd (MAG_MAG_STATUS_READY x.mag) == 0) = true →
    ∃ t, exec .clipRescue s = .next t ∧ t.rd MAG_REC_STATUS_STATE = 4 ∧ t.u.magu.resume = false ∧ t.seen 12 = true
      ∧ s.Keeps t (own [MAG_REC_STATUS_STATE]) fun u => { u with magu := { u.magu with resume := false } })
  ∧ (∀ s : State, s.rd GLB_BOOT_STATUS_READY ≠ 0 → s.rd GLB_RESET_CAUSE_CLIP_RESCUE_PENDING ≠ 0 → s.rd MAG_REC_STATUS_STATE = 0 →
    (Run.start s).duty 1 = true → s.u.magu.segs.all (fun x => s.rd (MAG_MAG_STATUS_READY x.mag) != 0) = true →
    s.u.magu.segs.any (fun x => ((Run.start s).magz x.mag).label.magId != x.magId || ((Run.start s).magz x.mag).geo != x.geo) = true →
    ∃ t, exec .clipRescue s = .next t ∧ t.rd MAG_REC_STATUS_STATE = 0 ∧ t.rd MAG_REC_STATUS_STOP_CAUSE = 6
      ∧ t.rd GLB_RESET_CAUSE_CLIP_RESCUE_PENDING = 0 ∧ t.u.magu.segs = [] ∧ t.seen 12 = true ∧ s.logged t 4 0xFF 2 0 0 = true
      ∧ s.Keeps t (fun k => retireKey k || own [MAG_REC_STATUS_STATE, MAG_REC_STATUS_STOP_CAUSE, GLB_RESET_CAUSE_CLIP_RESCUE_PENDING] k)
          fun u => { u with magu := {}, frames := [], evt := { u.evt with log := [] } })
  ∧ (∀ s : State, s.rd GLB_BOOT_STATUS_READY = 0 ∨ s.rd GLB_RESET_CAUSE_CLIP_RESCUE_PENDING = 0 ∨ s.rd MAG_REC_STATUS_STATE ≠ 0 →
    exec .clipRescue s = .next s)
  ∧ (∀ s : State, s.rd MAG_REC_STATUS_STATE = 4 → s.u.magu.resume = false →
    ∃ t, exec .rescueWaitTimeout s = .next t ∧ t.rd MAG_REC_STATUS_STATE = 0 ∧ t.rd MAG_REC_STATUS_STOP_CAUSE = 6
      ∧ t.rd GLB_RESET_CAUSE_CLIP_RESCUE_PENDING = 0 ∧ t.u.magu.segs = [] ∧ t.seen 12 = true ∧ s.logged t 4 0xFF 2 0 0 = true
      ∧ s.Keeps t (fun k => retireKey k || own [MAG_REC_STATUS_STATE, MAG_REC_STATUS_STOP_CAUSE, GLB_RESET_CAUSE_CLIP_RESCUE_PENDING] k)
          fun u => { u with magu := {}, frames := [], evt := { u.evt with log := [] } })
  ∧ ∀ s : State, s.rd MAG_REC_STATUS_STATE ≠ 4 ∨ s.u.magu.resume = true → exec .rescueWaitTimeout s = .next s

/-- CLIP_OPEN MODE 0 takes a free handle for a segment of the clip table and completes with its number and length; MODE 1 on an idle READY magazine with room opens a write handle and writes the label; MODE 2 drops a read handle, and for a write handle sends the stripes never written and waits for durability. READ_EXTENT through a write handle answers the staged bytes; else it reads the stripes from the drives, with any K chunks, and completes with 43 where fewer are at hand. WRITE_EXTENT lays its bytes into the handle, sends the stripes it touches and completes, or with FUA waits; while a stripe it touches is in flight or staging is full it waits. FLUSH completes when no staged write is left. Errors complete with 33, 39, 40, 41, 42 or 47, and nothing else changes. -/
def Obligations.HandlesAndExtents : Prop :=
  (∀ (s : State) (c : Cmd) (m k len : Nat) (e : Clip), s.issued 0x14 c → c.f 0x19 1 = 0 → m = c.f 0x18 1 → (Run.start s).freeHandle = some k →
    (Run.start s).clipEntry m (c.f 0x1C 2) = some e → e.state ≠ 0 → (∀ x ∈ (Run.start s).segsOn m, x.clip ≠ e.id ∨ x.seg ≠ e.seg) →
    len = ((if e.state = 2 then e.endG else ((Run.start s).magz m).label.nextG) - e.startG) * (Run.start s).stripeBytes m →
    ∃ t, exec .clipOpen s = .next t ∧ s.Completed t c 0 (k + len * 256)
      ∧ t.u.qif.handles = s.u.qif.handles.put k { mag := m, id := e.id, seg := e.seg, startG := e.startG, len := len, write := false }
      ∧ s.Keeps t (queueKeys c.q) fun u => { u with qif := {} })
  ∧ (∀ (s : State) (c : Cmd) (m k len g0 : Nat), s.issued 0x14 c → c.f 0x19 1 = 1 → m = c.f 0x18 1 → m < 2 → len = c.f 0x20 8 →
    (Run.start s).freeHandle = some k → s.rd MAG_REC_STATUS_STATE = 0 → s.rd (MAG_MAG_STATUS_READY m) ≠ 0 → len ≠ 0 → len % 4096 = 0 →
    len ≤ (Run.start s).magFree m → g0 = (Run.start s).nextStripe m → s.geoOk →
    ∃ t, exec .clipOpen s = .next t ∧ s.Completed t c 0 (k + len * 256)
      ∧ t.u.qif.handles = s.u.qif.handles.put k { mag := m, id := c.f 0x28 16, seg := c.f 0x38 2, startG := g0, len := len, write := true }
      ∧ (t.u.magu.mag.look m {}).label.clips = ((Run.start s).magz m).label.clips
          ++ [{ id := c.f 0x28 16, seg := c.f 0x38 2, state := 1, startG := g0, startS := timeSec s.tsel }]
      ∧ s.Keeps t (fun x => magKeys x || queueKeys c.q x) fun u => { u with qif := {}, magu := {} })
  ∧ (∀ (s : State) (c : Cmd) (k : Nat) (h : Handle), s.issued 0x14 c → 2 ≤ c.f 0x19 1 → k = c.f 0x1A 1 → s.u.qif.handles.find k = some h →
    h.write = false →
    ∃ t, exec .clipOpen s = .next t ∧ s.Completed t c 0 0 ∧ t.u.qif.handles = s.u.qif.handles.drop k
      ∧ s.Keeps t (queueKeys c.q) fun u => { u with qif := {} })
  ∧ (∀ (s : State) (c : Cmd) (k : Nat) (h : Handle), s.issued 0x14 c → 2 ≤ c.f 0x19 1 → k = c.f 0x1A 1 → s.u.qif.handles.find k = some h →
    h.write = true → h.blocks = [] → 0 < h.len → h.mag < 2 → ((Run.start s).magz h.mag).geo ≠ [] → 0 < (Run.start s).stripeBytes h.mag →
    s.magQuiet → s.geoOk →
    ∃ t, exec .clipOpen s = .next t ∧ s.Begun t c ∧ (t.u.qif.closes.any fun x => x.no == c.no && x.handle == k && x.gen == none) = true
      ∧ t.u.qif.handles = s.u.qif.handles ∧ s.Keeps t magKeys fun u => { u with qif := {}, magu := {} })
  ∧ (∀ (s : State) (c : Cmd), s.issued 0x14 c →
    (c.f 0x19 1 = 0 → (Run.start s).freeHandle = none → ∃ t, exec .clipOpen s = .next t ∧ s.Completed t c 47 0)
    ∧ (c.f 0x19 1 = 0 → (Run.start s).freeHandle ≠ none → (Run.start s).clipEntry (c.f 0x18 1) (c.f 0x1C 2) = none →
        ∃ t, exec .clipOpen s = .next t ∧ s.Completed t c 33 0)
    ∧ (c.f 0x19 1 = 1 → (Run.start s).freeHandle ≠ none → s.rd MAG_REC_STATUS_STATE ≠ 0 → ∃ t, exec .clipOpen s = .next t ∧ s.Completed t c 40 0)
    ∧ (c.f 0x19 1 = 1 → (Run.start s).freeHandle ≠ none → s.rd MAG_REC_STATUS_STATE = 0 → s.rd (MAG_MAG_STATUS_READY (c.f 0x18 1)) = 0 →
        ∃ t, exec .clipOpen s = .next t ∧ s.Completed t c 41 0)
    ∧ (2 ≤ c.f 0x19 1 → s.u.qif.handles.find (c.f 0x1A 1) = none → ∃ t, exec .clipOpen s = .next t ∧ s.Completed t c 33 0))
  ∧ (∀ (s : State) (h : HostData) (c : Cmd) (x : Handle) (off len : Nat) (segs : List (Nat × Nat)), s.issued 0x15 c → off = c.f 0x20 8 →
    len = c.f 0x28 4 → s.u.qif.handles.find (c.f 0x18 1) = some x → off + len ≤ x.len → x.write = true → c.buffer h len = some segs → h.ok = true →
    ∃ t, exec (.readExtent h) s = .next t ∧ s.Completed t c 0 len ∧ s.scattered t segs (x.bytes off len) false
      ∧ s.Keeps t (queueKeys c.q) fun u => { u with qif := {} })
  ∧ (∀ (s : State) (h : HostData) (c : Cmd) (x : Handle) (off len sb : Nat) (segs : List (Nat × Nat)), s.issued 0x15 c → off = c.f 0x20 8 →
    len = c.f 0x28 4 → s.u.qif.handles.find (c.f 0x18 1) = some x → off + len ≤ x.len → x.write = false → (Run.start s).writerOf x = none →
    c.buffer h len = some segs → h.ok = true → sb = (Run.start s).stripeBytes x.mag → 0 < sb → 0 < len → s.u.qif.jobs = [] → s.geoOk →
    ∃ t, exec (.readExtent h) s = .next t
      ∧ (if (Run.start s).magK x.mag ≤ s.givers x.mag (x.startG + off / sb) then
          s.Begun t c ∧ (t.u.qif.jobs.any fun j => j.no == c.no && j.cur == some (off / sb) && j.left.length == (Run.start s).magK x.mag) = true
        else s.Completed t c 43 0)
      ∧ s.Keeps t (fun x => magKeys x || queueKeys c.q x) fun u => { u with qif := {}, magu := {} })
  ∧ (∀ (s : State) (h : HostData) (c : Cmd), s.issued 0x15 c →
    (s.u.qif.handles.find (c.f 0x18 1) = none → ∃ t, exec (.readExtent h) s = .next t ∧ s.Completed t c 33 0)
    ∧ (((s.u.qif.handles.find (c.f 0x18 1)).any fun x => x.len < c.f 0x20 8 + c.f 0x28 4) = true →
        ∃ t, exec (.readExtent h) s = .next t ∧ s.Completed t c 42 0)
    ∧ (((s.u.qif.handles.find (c.f 0x18 1)).any fun x => c.f 0x20 8 + c.f 0x28 4 ≤ x.len) = true → (c.buffer h (c.f 0x28 4)).isSome = true →
        h.ok = false → ∃ t, exec (.readExtent h) s = .next t ∧ s.Completed t c 39 0 ∧ t.rd QIF_COUNT_HOST_ERR = min (s.rd QIF_COUNT_HOST_ERR + 1) 65535))
  ∧ (∀ (s : State) (h : HostData) (c : Cmd) (x : Handle) (k off len : Nat) (gs : List Nat), s.issued 0x16 c → k = c.f 0x18 1 → off = c.f 0x20 8 →
    len = c.f 0x28 4 → s.u.qif.handles.find k = some x → x.write = true → off + len ≤ x.len → (c.buffer h len).isSome = true → h.ok = true →
    gs = ((clipStripes ((Run.start s).stripeBytes x.mag) off len).map (· + x.startG)) →
    (((Run.start s).magz x.mag).stripes.all fun y => !(gs.contains y.1 && !y.2.dead)) = true → len ≤ 0x10000000 → gs ≠ [] →
    ((Run.start s).magz x.mag).geo ≠ [] → s.magQuiet → s.geoOk →
    ∃ t, exec (.writeExtent h) s = .next t
      ∧ (if bit (c.f 1 1) 1 then s.Begun t c else s.Completed t c 0 0)
      ∧ (t.u.qif.handles.find k = some { x with blocks := layBlocks x.blocks (off / 4096) (padTo len h.data) })
      ∧ t.u.qif.staged = [{ no := c.no, len := len, mag := x.mag, stripes := gs, fua := bit (c.f 1 1) 1 }]
      ∧ (gs.all fun g => ((t.u.magu.mag.look x.mag {}).stripes.find g).any fun y => !y.dead) = true
      ∧ s.Keeps t (fun x => magKeys x || queueKeys c.q x) fun u => { u with qif := {}, magu := {} })
  ∧ (∀ (s : State) (h : HostData) (c : Cmd) (x : Handle) (off len : Nat), s.issued 0x16 c → off = c.f 0x20 8 → len = c.f 0x28 4 →
    s.u.qif.handles.find (c.f 0x18 1) = some x → x.write = true → off + len ≤ x.len → (c.buffer h len).isSome = true → h.ok = true →
    (((Run.start s).magz x.mag).stripes.any fun y => ((clipStripes ((Run.start s).stripeBytes x.mag) off len).map (· + x.startG)).contains y.1
        && !y.2.dead) = true ∨ 0x10000000 < (Run.start s).stagedBytes + len →
    exec (.writeExtent h) s = .next s)
  ∧ (∀ (s : State) (h : HostData) (c : Cmd), s.issued 0x16 c →
    (s.u.qif.handles.find (c.f 0x18 1) = none → ∃ t, exec (.writeExtent h) s = .next t ∧ s.Completed t c 33 0)
    ∧ (((s.u.qif.handles.find (c.f 0x18 1)).any fun x => !x.write) = true → ∃ t, exec (.writeExtent h) s = .next t ∧ s.Completed t c 40 0)
    ∧ (((s.u.qif.handles.find (c.f 0x18 1)).any fun x => x.write && x.len < c.f 0x20 8 + c.f 0x28 4) = true →
        ∃ t, exec (.writeExtent h) s = .next t ∧ s.Completed t c 42 0))
  ∧ (∀ (s : State) (c : Cmd), s.issued 0x17 c → s.magQuiet →
    ∃ t, exec .flush s = .next t ∧ s.Completed t c 0 0 ∧ s.Keeps t (queueKeys c.q) fun u => { u with qif := {} })
  ∧ ∀ (s : State) (c : Cmd) (x : Staged), s.issued 0x17 c → s.u.qif.staged = [x] → x.fua = false → (Run.start s).stagedBad x = false →
    (Run.start s).stagedOpen x ≠ [] → s.u.qif.jobs = [] → s.u.qif.rebuild = none → s.u.qif.closes = [] → s.u.qif.flushes = [] →
    (∀ m < 2, ((Run.start s).magz m).opCmd = none ∧ ((Run.start s).magz m).follow = false) →
    ∃ t, exec .flush s = .next t ∧ s.Begun t c ∧ t.u.qif.flushes = [(c.no, [x.no])] ∧ t.u.qif.staged = [x]
      ∧ s.Keeps t (own []) fun u => { u with qif := {} }

/-- OFFLOAD of a sealed segment reads its stripes, restoring chunks from any K, while PAK_STATUS shows the outcome: 1 for labels that are not valid, 2 for a segment that the clip table lacks, each with event 322 and status 48; it completes with 47 during SANITISE or FORMAT and with 42 past the segment's end. REBUILD in the reader role of a lost slot on a drive that fits starts at the label's position and shows its progress; with nothing left it ends at once with event 323, the slot no longer lost and the drive no longer removed. SANITISE and FORMAT go to every drive of the span that answers, whose labels are gone with them; they complete with 10 while a record is armed or runs, 40 with an open handle, 41 without a magazine and 47 while another runs. FORMAT of labels only writes the first label generation with a free MAG_ID (log entry 4). -/
def Obligations.OffloadRebuildFormat : Prop :=
  (∀ (s : State) (h : HostData) (c : Cmd) (m off len sb : Nat) (e : Clip) (segs : List (Nat × Nat)), s.issued 0x1A c → m = c.f 0x18 1 →
    off = c.f 0x20 8 → len = c.f 0x28 4 → sb = (Run.start s).stripeBytes m → 0 < sb → 0 < len → ((Run.start s).magz m).op = 0 →
    ((Run.start s).magz m).identified = true → ((Run.start s).magz m).valid = true → (Run.start s).clipEntry m (c.f 0x1C 2) = some e → e.state = 3 →
    c.f 0x19 1 = 0 → c.f 0x1A 1 = 0 → off + len ≤ (e.endG - e.startG) * sb → c.buffer h len = some segs → h.ok = true → s.u.qif.jobs = [] →
    (Run.start s).magK m ≤ s.givers m (e.startG + off / sb) → s.geoOk →
    ∃ t, exec (.offload h) s = .next t ∧ s.Begun t c ∧ t.rd PAK_STATUS_UNPACKING = 0
      ∧ (t.u.qif.jobs.any fun j => j.no == c.no && j.mag == m && j.startG == e.startG && j.cur == some (off / sb)
          && j.left.length == (Run.start s).magK m) = true
      ∧ s.Keeps t magKeys fun u => { u with qif := {}, magu := {} })
  ∧ (∀ (s : State) (h : HostData) (c : Cmd) (m : Nat), s.issued 0x1A c → m = c.f 0x18 1 → ((Run.start s).magz m).op = 0 →
    ((Run.start s).magz m).identified = false ∨ ((Run.start s).magz m).valid = false →
    ∃ t, exec (.offload h) s = .next t ∧ s.Completed t c 48 1 ∧ t.rd PAK_STATUS_OFFLOAD_OUT = 1 ∧ t.rd PAK_STATUS_UNPACKING = 0 ∧ t.seen 322 = true
      ∧ s.Keeps t (fun x => queueKeys c.q x || own [PAK_STATUS_OFFLOAD_OUT, PAK_STATUS_UNPACKING] x) fun u => { u with qif := {} })
  ∧ (∀ (s : State) (h : HostData) (c : Cmd) (m : Nat), s.issued 0x1A c → m = c.f 0x18 1 → ((Run.start s).magz m).op = 0 →
    ((Run.start s).magz m).identified = true → ((Run.start s).magz m).valid = true → (Run.start s).clipEntry m (c.f 0x1C 2) = none →
    ∃ t, exec (.offload h) s = .next t ∧ s.Completed t c 48 2 ∧ t.rd PAK_STATUS_OFFLOAD_OUT = 2 ∧ t.rd PAK_STATUS_UNPACKING = 0 ∧ t.seen 322 = true
      ∧ s.Keeps t (fun x => queueKeys c.q x || own [PAK_STATUS_OFFLOAD_OUT, PAK_STATUS_UNPACKING] x) fun u => { u with qif := {} })
  ∧ (∀ (s : State) (h : HostData) (c : Cmd), s.issued 0x1A c → ((Run.start s).magz (c.f 0x18 1)).op ≠ 0 →
    ∃ t, exec (.offload h) s = .next t ∧ s.Completed t c 47 0 ∧ s.Keeps t (queueKeys c.q) fun u => { u with qif := {} })
  ∧ (∀ (s : State) (m : Fin 2) (ring : Fin 4) (slot : Fin 32) (d : Fin 64) (g : Geo) (i pos stop n : Nat),
    (((Run.start s).magz m).geo.find? fun x => x.idx == ring.val) = some g → (Run.start s).reader = true → s.u.qif.rebuild = none →
    (Run.start s).slotLost ring slot = true → ((Run.start s).drv d).ident = true → (Run.start s).ringStripes g * 64 + 256 ≤ ((Run.start s).drv d).cap →
    n = ((Run.start s).magz m).geo.length →
    i = (lowest (fun i => match ((Run.start s).magz m).geo[i]? with | some x => x.idx == ring.val | none => false) n).getD 0 →
    pos = (let l := ((Run.start s).magz m).label
      if l.rebRing = ring.val ∧ l.rebSlot = slot.val then l.rebPos else 0) →
    stop = ringFrom n i ((Run.start s).magz m).label.nextG → stop ≤ pos → s.geoOk → s.rd (MAG_RING_LOST_LOST ring) < 2 ^ 32 →
    ∃ t, exec (.rebuild m ring slot d) s = .next t ∧ t.u.qif.rebuild = none ∧ t.rd PAK_STATUS_REBUILD_PCT = 100 ∧ t.seen 323 = true
      ∧ t.rd (MAG_RING_LOST_LOST ring) = s.rd (MAG_RING_LOST_LOST ring) - 2 ^ slot.val ∧ t.rd (MAG_DRV_STATUS_REMOVED d) = 0
      ∧ s.Keeps t magKeys fun u => { u with qif := {}, magu := {} })
  ∧ (∀ (s : State) (m : Fin 2) (ring : Fin 4) (slot : Fin 32) (d : Fin 64) (g : Geo), (((Run.start s).magz m).geo.find? fun x => x.idx == ring.val) = some g →
    (Run.start s).reader = false ∨ s.u.qif.rebuild ≠ none ∨ (Run.start s).slotLost ring slot = false ∨ ((Run.start s).drv d).ident = false
      ∨ ((Run.start s).drv d).cap < (Run.start s).ringStripes g * 64 + 256 →
    exec (.rebuild m ring slot d) s = .next s)
  ∧ (∀ (s : State) (m : Fin 2) (ring : Fin 4) (slot : Fin 32) (d : Fin 64) (g : Geo),
    ((Run.start s).magz m).geo = [g] → g.idx = ring.val → (Run.start s).reader = true → s.u.qif.rebuild = none → s.u.qif.jobs = [] →
    (Run.start s).slotLost ring slot = true → ((Run.start s).drv d).ident = true → (Run.start s).ringStripes g * 64 + 256 ≤ ((Run.start s).drv d).cap →
    ((Run.start s).magz m).label.rebRing ≠ ring.val → 0 < ((Run.start s).magz m).label.nextG → (Run.start s).hopLinked (d.val / 4) = true →
    g.k ≤ s.givers m 0 → 0 < g.k → g.k + g.m ≤ 20 → s.geoOk →
    ∃ t, exec (.rebuild m ring slot d) s = .next t ∧ t.rd PAK_STATUS_REBUILD_PCT = 0
      ∧ (t.u.qif.rebuild.any fun x => x.mag == m.val && x.ring == ring.val && x.slot == slot.val && x.d == d.val && x.pos == 0
          && x.stop == ((Run.start s).magz m).label.nextG) = true
      ∧ (let l := (t.u.magu.mag.look m {}).label
        l.rebRing = ring.val ∧ l.rebSlot = slot.val ∧ l.rebPos = 0)
      ∧ s.Keeps t magKeys fun u => { u with qif := {}, magu := {} })
  ∧ (∀ (s : State) (c : Cmd) (m : Nat) (ds : List Nat), (s.issued 0x0A c ∨ (s.issued 0x0B c ∧ c.f 0x19 1 ≠ 1 ∧ (Run.start s).cfgGeo m ≠ [])) →
    m = c.f 0x18 1 → m < 2 → ds = ((Run.start s).spanDrives m).filter (fun d => ((Run.start s).drv d).ident) → ds ≠ [] →
    s.rd MAG_REC_STATUS_STATE = 0 → (∀ x ∈ s.u.qif.handles, x.2.mag ≠ m) → s.rd (MAG_MAG_STATUS_PRESENT m) ≠ 0 → ((Run.start s).magz m).op = 0 →
    s.magQuiet →
    (s.issued 0x0A c → ∃ t, exec .sanitise s = .next t ∧ s.Begun t c ∧ (t.u.magu.mag.look m {}).op = 6 ∧ (t.u.magu.mag.look m {}).opCmd = some c.no
      ∧ (t.u.magu.mag.look m {}).opLeft = ds ∧ (t.u.magu.mag.look m {}).valid = false
      ∧ (ds.all fun d => let v := t.u.magu.drv.look d {}; v.copy0 == [] && v.copy1 == [] && (v.out ++ v.wait).any fun x => x.opc == 6) = true
      ∧ s.Keeps t magKeys fun u => { u with qif := {}, magu := {} })
    ∧ (s.issued 0x0B c → ∃ t, exec .format s = .next t ∧ s.Begun t c ∧ (t.u.magu.mag.look m {}).op = 7 ∧ (t.u.magu.mag.look m {}).opCmd = some c.no
      ∧ (t.u.magu.mag.look m {}).opLeft = ds ∧ (t.u.magu.mag.look m {}).geo = (Run.start s).cfgGeo m
      ∧ (ds.all fun d => let v := t.u.magu.drv.look d {}; v.copy0 == [] && v.copy1 == [] && (v.out ++ v.wait).any fun x => x.opc == 7) = true
      ∧ s.Keeps t magKeys fun u => { u with qif := {}, magu := {} }))
  ∧ (∀ (s : State) (c : Cmd) (m : Nat), s.issued 0x0B c → c.f 0x19 1 = 1 → m = c.f 0x18 1 → m < 2 → (Run.start s).cfgGeo m ≠ [] →
    (∀ d ∈ (Run.start s).spanDrives m, newestLabel (labelAt ((Run.start s).drv d).copy0) (labelAt ((Run.start s).drv d).copy1) = none) →
    s.rd MAG_REC_STATUS_STATE = 0 → (∀ x ∈ s.u.qif.handles, x.2.mag ≠ m) → s.rd (MAG_MAG_STATUS_PRESENT m) ≠ 0 → s.magQuiet →
    ((Run.start s).magz m).op = 0 →
    ∃ t, exec .format s = .next t ∧ s.Completed t c 0 0
      ∧ (let z := t.u.magu.mag.look m {}
        z.identified = true ∧ z.valid = true ∧ z.geo = (Run.start s).cfgGeo m ∧ z.label.gen = 1 ∧ z.label.clips = []
          ∧ z.label.magId = Config.free s.fresh % 2 ^ 128)
      ∧ s.Keeps t (fun x => magKeys x || queueKeys c.q x) fun u => { u with qif := {}, magu := {} })
  ∧ ∀ (s : State) (c : Cmd) (m st : Nat), m = c.f 0x18 1 →
    ((Run.start s).recording = true ∧ st = 10
      ∨ (Run.start s).recording = false ∧ (s.u.qif.handles.any fun x => x.2.mag == m) = true ∧ st = 40
      ∨ (Run.start s).recording = false ∧ (s.u.qif.handles.any fun x => x.2.mag == m) = false ∧ s.rd (MAG_MAG_STATUS_PRESENT m) = 0 ∧ st = 41
      ∨ (Run.start s).recording = false ∧ (s.u.qif.handles.any fun x => x.2.mag == m) = false ∧ s.rd (MAG_MAG_STATUS_PRESENT m) ≠ 0
        ∧ ((Run.start s).magz m).op ≠ 0 ∧ st = 47) →
    (s.issued 0x0A c → ∃ t, exec .sanitise s = .next t ∧ s.Completed t c st 0 ∧ s.Keeps t (queueKeys c.q) fun u => { u with qif := {} })
    ∧ (s.issued 0x0B c → ∃ t, exec .format s = .next t ∧ s.Completed t c st 0 ∧ s.Keeps t (queueKeys c.q) fun u => { u with qif := {} })

/-- GPIO_EDGE to a new level shows it; on an input line whose edge is selected it sets EDGE, stamps TSEL less 6 ns, sets OVER when EDGE was set already, and raises event 22; an output line or an edge not selected captures nothing. SMCLK_CTL stores EN and a divider in range and drives the clock; out of range it is ignored with event 9. GO starts the transfer of its kind on an idle, enabled bus with at most 64 bytes and a CCC in range; else it is ignored with event 9. A transfer's end stores the received bytes with RX_LEN and ERR, clears BUSY and raises the bus's event. An in-band request, or a Hot-Join with HJ_EN, is acknowledged and reported when VALID is 0, else refused; reading IBI_DATA answers it and clears it and VALID. -/
def Obligations.GpioSmclkI3c : Prop :=
  (∀ (s : State) (n : Fin 16) (level : Bool), bit (s.rd GLB_GPIO_IN_IN) n ≠ level → (Run.start s).gpioDrive n = none →
    bit (s.rd GLB_GPIO_EDGE_CFG_EDGE) (2 * n + b2n (!level)) = true → s.rd GLB_GPIO_IN_IN < 2 ^ 16 → s.rd GLB_GPIO_EDGE_EDGE < 2 ^ 16 →
    ∃ t, exec (.gpioEdge n level) s = .next t ∧ bit (t.rd GLB_GPIO_IN_IN) n = level ∧ bit (t.rd GLB_GPIO_EDGE_EDGE) n = true
      ∧ t.rd (GLB_GPIO_TS n) = shortTime (s.tsel - 6 * 2 ^ 32) % 2 ^ 64
      ∧ (bit (s.rd GLB_GPIO_EDGE_EDGE) n = true → bit (t.rd GLB_GPIO_OVER_OVER) n = true) ∧ t.seen 22 = true
      ∧ (∀ k < 16, k ≠ n.val → bit (t.rd GLB_GPIO_IN_IN) k = bit (s.rd GLB_GPIO_IN_IN) k ∧ bit (t.rd GLB_GPIO_EDGE_EDGE) k = bit (s.rd GLB_GPIO_EDGE_EDGE) k)
      ∧ s.Keeps t (own [GLB_GPIO_IN_IN, GLB_GPIO_EDGE_EDGE, GLB_GPIO_OVER_OVER, GLB_GPIO_TS n]) id)
  ∧ (∀ (s : State) (n : Fin 16) (level : Bool), bit (s.rd GLB_GPIO_IN_IN) n ≠ level →
    (Run.start s).gpioDrive n ≠ none ∨ bit (s.rd GLB_GPIO_EDGE_CFG_EDGE) (2 * n + b2n (!level)) = false → s.rd GLB_GPIO_IN_IN < 2 ^ 16 →
    ∃ t, exec (.gpioEdge n level) s = .next t ∧ bit (t.rd GLB_GPIO_IN_IN) n = level
      ∧ s.Keeps t (fun k => k == GLB_GPIO_IN_IN.key) id ∧ t.u = s.u ∧ t.out = s.out)
  ∧ (∀ (s : State) (n : Fin 16) (level : Bool), bit (s.rd GLB_GPIO_IN_IN) n = level → exec (.gpioEdge n level) s = .next s)
  ∧ (∀ (s : State) (n : Fin 8) (v : Nat), 0x1E000 ≤ bits v 8 24 → bits v 8 24 ≤ 0xBB8000 →
    ∃ t, exec (.smclkCtl n v) s = .next t ∧ t.rd (GLB_SMCLK_CTL_EN n) = v % 2 ∧ t.rd (GLB_SMCLK_CTL_DIV n) = bits v 8 24
      ∧ (s.rd (GLB_SMCLK_CTL_EN n) = 0 → v % 2 = 1 → s.sends t (.smclk n (some (bits v 8 24))))
      ∧ (s.rd (GLB_SMCLK_CTL_EN n) ≠ 0 → v % 2 = 0 → s.sends t (.smclk n none))
      ∧ s.Keeps t (own [GLB_SMCLK_CTL_EN n, GLB_SMCLK_CTL_DIV n]) id)
  ∧ (∀ (s : State) (n : Fin 8) (v : Nat), bits v 8 24 < 0x1E000 ∨ 0xBB8000 < bits v 8 24 → ∃ t, exec (.smclkCtl n v) s = .next t ∧ s.Ignores t)
  ∧ (∀ (s : State) (b : Fin 4) (addr ccc len : Nat), s.rd (GLB_I3C_CTL_EN b) ≠ 0 → s.rd (GLB_I3C_STATUS_BUSY b) = 0 → len ≤ 64 →
    (∃ t, exec (.privateWrite b addr len) s = .next t ∧ s.I3cStarts t b 0 (addr % 128) 0 len ((Run.start s).i3cData b len))
    ∧ (∃ t, exec (.privateRead b addr len) s = .next t ∧ s.I3cStarts t b 1 (addr % 128) 0 len [])
    ∧ (ccc % 256 ≤ 0x7F → ∃ t, exec (.broadcastCcc b ccc len) s = .next t ∧ s.I3cStarts t b 2 0 (ccc % 256) len ((Run.start s).i3cData b len))
    ∧ (0x80 ≤ ccc % 256 → ccc % 256 ≤ 0xFE →
        (∃ t, exec (.directCccWrite b addr ccc len) s = .next t ∧ s.I3cStarts t b 3 (addr % 128) (ccc % 256) len ((Run.start s).i3cData b len))
        ∧ ∃ t, exec (.directCccRead b addr ccc len) s = .next t ∧ s.I3cStarts t b 4 (addr % 128) (ccc % 256) len [])
    ∧ (∃ t, exec (.entdaa b addr) s = .next t ∧ s.I3cStarts t b 5 (addr % 128) 0 0 [])
    ∧ (∃ t, exec (.i2cWrite b addr len) s = .next t ∧ s.I3cStarts t b 6 (addr % 128) 0 len ((Run.start s).i3cData b len))
    ∧ ∃ t, exec (.i2cRead b addr len) s = .next t ∧ s.I3cStarts t b 7 (addr % 128) 0 len [])
  ∧ (∀ (s : State) (b : Fin 4) (addr ccc len : Nat), s.rd (GLB_I3C_CTL_EN b) = 0 ∨ s.rd (GLB_I3C_STATUS_BUSY b) ≠ 0 ∨ 64 < len →
    (∃ t, exec (.privateWrite b addr len) s = .next t ∧ s.Ignores t) ∧ (∃ t, exec (.privateRead b addr len) s = .next t ∧ s.Ignores t)
    ∧ (∃ t, exec (.broadcastCcc b ccc len) s = .next t ∧ s.Ignores t) ∧ (∃ t, exec (.directCccWrite b addr ccc len) s = .next t ∧ s.Ignores t)
    ∧ (∃ t, exec (.directCccRead b addr ccc len) s = .next t ∧ s.Ignores t) ∧ (∃ t, exec (.i2cWrite b addr len) s = .next t ∧ s.Ignores t)
    ∧ (∃ t, exec (.i2cRead b addr len) s = .next t ∧ s.Ignores t))
  ∧ (∀ (s : State) (b : Fin 4) (err : Fin 5) (data l : List Byte), s.rd (GLB_I3C_STATUS_BUSY b) ≠ 0 → l = data.take (s.u.glb.i3c.look b {}).most →
    l.length ≤ 64 →
    ∃ t, exec (.i3cTransferEnd b err data) s = .next t ∧ t.rd (GLB_I3C_STATUS_BUSY b) = 0 ∧ t.rd (GLB_I3C_STATUS_ERR b) = err.val
      ∧ t.rd (GLB_I3C_STATUS_RX_LEN b) = l.length ∧ t.seen (23 + b.val) = true
      ∧ (∀ k < 16, t.rd (GLB_I3C_DATA b k) = field (overlay ((Run.start s).i3cData b 64) 0 l) (4 * k) 4)
      ∧ s.Keeps t (fun k => own [GLB_I3C_STATUS_BUSY b, GLB_I3C_STATUS_ERR b, GLB_I3C_STATUS_RX_LEN b] k
          || (List.range 16).any fun j => k == (GLB_I3C_DATA b j).key) id)
  ∧ (∀ (s : State) (b : Fin 4) (err : Fin 5) (data : List Byte), s.rd (GLB_I3C_STATUS_BUSY b) = 0 →
    exec (.i3cTransferEnd b err data) s = .next s ∧ exec (.i2cStretchTimeout b data) s = .next s)
  ∧ (∀ (s : State) (b : Fin 4) (data l : List Byte), s.rd (GLB_I3C_STATUS_BUSY b) ≠ 0 → 6 ≤ (s.u.glb.i3c.look b {}).kind →
    l = data.take (s.u.glb.i3c.look b {}).most → l.length ≤ 64 →
    ∃ t, exec (.i2cStretchTimeout b data) s = .next t ∧ t.rd (GLB_I3C_STATUS_BUSY b) = 0 ∧ t.rd (GLB_I3C_STATUS_ERR b) = 5
      ∧ t.rd (GLB_I3C_STATUS_RX_LEN b) = l.length ∧ t.seen (23 + b.val) = true
      ∧ s.Keeps t (fun k => own [GLB_I3C_STATUS_BUSY b, GLB_I3C_STATUS_ERR b, GLB_I3C_STATUS_RX_LEN b] k
          || (List.range 16).any fun j => k == (GLB_I3C_DATA b j).key) id)
  ∧ (∀ (s : State) (b : Fin 4) (addr : Nat) (data : List Byte), s.rd (GLB_I3C_CTL_EN b) ≠ 0 → s.rd (GLB_I3C_IBI_VALID b) = 0 →
    (∃ t, exec (.ibiRequest b addr data) s = .next t ∧ Out.ibi b true ∈ t.out ∧ t.rd (GLB_I3C_IBI_VALID b) = 1
      ∧ t.rd (GLB_I3C_IBI_ADDR b) = addr % 2 ^ (GLB_I3C_IBI_ADDR b).w ∧ t.rd (GLB_I3C_IBI_LEN b) = min data.length 4
      ∧ t.rd (GLB_I3C_IBI_DATA b) = ofLe (data.take 4) % 2 ^ 32 ∧ t.seen (23 + b.val) = true
      ∧ s.Keeps t (own [GLB_I3C_IBI_VALID b, GLB_I3C_IBI_ADDR b, GLB_I3C_IBI_LEN b, GLB_I3C_IBI_DATA b]) id)
    ∧ (s.rd (GLB_I3C_CTL_HJ_EN b) ≠ 0 → ∃ t, exec (.hotJoin b) s = .next t ∧ Out.ibi b true ∈ t.out ∧ t.rd (GLB_I3C_IBI_VALID b) = 1
      ∧ t.rd (GLB_I3C_IBI_ADDR b) = 2 ∧ t.rd (GLB_I3C_IBI_LEN b) = 0 ∧ t.seen (23 + b.val) = true
      ∧ s.Keeps t (own [GLB_I3C_IBI_VALID b, GLB_I3C_IBI_ADDR b, GLB_I3C_IBI_LEN b, GLB_I3C_IBI_DATA b]) id))
  ∧ (∀ (s : State) (b : Fin 4) (addr : Nat) (data : List Byte), s.rd (GLB_I3C_CTL_EN b) ≠ 0 →
    (s.rd (GLB_I3C_IBI_VALID b) ≠ 0 → exec (.ibiRequest b addr data) s = .next (s.emit (.ibi b false)))
    ∧ (s.rd (GLB_I3C_IBI_VALID b) ≠ 0 ∨ s.rd (GLB_I3C_CTL_HJ_EN b) = 0 → exec (.hotJoin b) s = .next (s.emit (.ibi b false))))
  ∧ ∀ (s : State) (b : Fin 4),
    ∃ t, exec (.ibiDataRead b) s = .next t ∧ s.sends t (.answer (s.rd (GLB_I3C_IBI_DATA b))) ∧ t.rd (GLB_I3C_IBI_DATA b) = 0
      ∧ t.rd (GLB_I3C_IBI_VALID b) = 0 ∧ s.Keeps t (own [GLB_I3C_IBI_DATA b, GLB_I3C_IBI_VALID b]) id

/-- TXDATA on an enabled UART enters the idle transmitter or the FIFO; at a full FIFO it is dropped with event 9 and TX_OVF. A character sent leaves and the next one follows. A received character joins the FIFO with its flags; at a full FIFO it is dropped with RX_OVERRUN; a framing error sets FRAMING, reaching RX_THRESH sets RX_READY; a cause that rises raises event 27. RXDATA answers the oldest character with its flags and removes it, or 0; RX_IDLE over waiting characters sets RX_READY. With rails good the SMBus target answers STATUS and clears the pending bits, TEMP (0x8000 without a valid reading), HOT, MODE, IDENT, SERIAL and ALERT_MASK, stores ALERT_MASK, answers the Alert Response Address and then releases the line, and refuses unlisted codes and wrong PECs with a count; LAST_CMD follows. -/
def Obligations.UartAndSmbus : Prop :=
  (∀ (s : State) (u : Fin 4) (c : Byte) (x : Uart), x = s.u.glb.uarts.look u {} → s.rd (GLB_UART_CTL_EN u) ≠ 0 →
    (x.sending = none → ∃ t, exec (.txdata u c) s = .next t ∧ t.UartIs u { x with sending := some c.toNat }
      ∧ s.Keeps t (own [GLB_UART_STATUS_TX_LEVEL u, GLB_UART_STATUS_RX_LEVEL u]) fun v => { v with glb := { v.glb with uarts := [] } })
    ∧ (x.sending ≠ none → x.tx.length ≠ 256 → ∃ t, exec (.txdata u c) s = .next t ∧ t.UartIs u { x with tx := x.tx ++ [c.toNat] }
      ∧ s.Keeps t (own [GLB_UART_STATUS_TX_LEVEL u, GLB_UART_STATUS_RX_LEVEL u]) fun v => { v with glb := { v.glb with uarts := [] } })
    ∧ (x.sending ≠ none → x.tx.length = 256 → ∃ t, exec (.txdata u c) s = .next t ∧ t.seen 9 = true
      ∧ (s.rd (GLB_UART_STATUS_TX_OVF u) = 0 → t.rd (GLB_UART_STATUS_TX_OVF u) = 1 ∧ t.seen 27 = true)
      ∧ s.Keeps t (own [GLB_UART_STATUS_TX_OVF u]) id))
  ∧ (∀ (s : State) (u : Fin 4) (c : Byte) (framing brk : Bool), s.rd (GLB_UART_CTL_EN u) = 0 →
    exec (.txdata u c) s = .next s ∧ exec (.uartCharacterReceived u c framing brk) s = .next s)
  ∧ (∀ (s : State) (u : Fin 4) (c : Nat) (x : Uart), x = s.u.glb.uarts.look u {} → x.sending = some c →
    ∃ t, exec (.uartCharacterSent u) s = .next t ∧ s.sends t (.uart u (BitVec.ofNat 8 c)) ∧ t.UartIs u { x with tx := x.tx.tail, sending := x.tx.head? }
      ∧ s.Keeps t (own [GLB_UART_STATUS_TX_LEVEL u, GLB_UART_STATUS_RX_LEVEL u]) fun v => { v with glb := { v.glb with uarts := [] } })
  ∧ (∀ (s : State) (u : Fin 4), (s.u.glb.uarts.look u {}).sending = none → exec (.uartCharacterSent u) s = .next s)
  ∧ (∀ (s : State) (u : Fin 4) (c : Byte) (framing brk : Bool) (x : Uart), x = s.u.glb.uarts.look u {} → s.rd (GLB_UART_CTL_EN u) ≠ 0 →
    x.rx.length ≠ 256 →
    ∃ t, exec (.uartCharacterReceived u c framing brk) s = .next t ∧ t.UartIs u { x with rx := x.rx ++ [⟨c.toNat, framing, brk⟩] }
      ∧ (framing = true → s.rd (GLB_UART_STATUS_FRAMING u) = 0 → t.rd (GLB_UART_STATUS_FRAMING u) = 1 ∧ t.seen 27 = true)
      ∧ (x.rx.length + 1 = s.rd (GLB_UART_THRESH_RX_THRESH u) → s.rd (GLB_UART_STATUS_RX_READY u) = 0 →
          t.rd (GLB_UART_STATUS_RX_READY u) = 1 ∧ t.seen 27 = true)
      ∧ s.Keeps t (own [GLB_UART_STATUS_TX_LEVEL u, GLB_UART_STATUS_RX_LEVEL u, GLB_UART_STATUS_FRAMING u, GLB_UART_STATUS_RX_READY u])
          fun v => { v with glb := { v.glb with uarts := [] } })
  ∧ (∀ (s : State) (u : Fin 4) (c : Byte) (framing brk : Bool), s.rd (GLB_UART_CTL_EN u) ≠ 0 → (s.u.glb.uarts.look u {}).rx.length = 256 →
    ∃ t, exec (.uartCharacterReceived u c framing brk) s = .next t
      ∧ (s.rd (GLB_UART_STATUS_RX_OVERRUN u) = 0 → t.rd (GLB_UART_STATUS_RX_OVERRUN u) = 1 ∧ t.seen 27 = true)
      ∧ s.Keeps t (own [GLB_UART_STATUS_RX_OVERRUN u]) id)
  ∧ (∀ (s : State) (u : Fin 4) (x : Uart) (c : RxChar) (l : List RxChar), x = s.u.glb.uarts.look u {} → x.rx = c :: l →
    ∃ t, exec (.rxdataRead u) s = .next t ∧ s.sends t (.answer (c.c + 256 + 512 * b2n c.framing + 1024 * b2n c.brk)) ∧ t.UartIs u { x with rx := l }
      ∧ s.Keeps t (own [GLB_UART_STATUS_TX_LEVEL u, GLB_UART_STATUS_RX_LEVEL u]) fun v => { v with glb := { v.glb with uarts := [] } })
  ∧ (∀ (s : State) (u : Fin 4), (s.u.glb.uarts.look u {}).rx = [] →
    exec (.rxdataRead u) s = .next (s.emit (.answer 0)) ∧ exec (.rxIdle u) s = .next s)
  ∧ (∀ (s : State) (u : Fin 4), (s.u.glb.uarts.look u {}).rx ≠ [] → s.rd (GLB_UART_THRESH_RX_IDLE u) ≠ 0 →
    ∃ t, exec (.rxIdle u) s = .next t ∧ (s.rd (GLB_UART_STATUS_RX_READY u) = 0 → t.rd (GLB_UART_STATUS_RX_READY u) = 1 ∧ t.seen 27 = true)
      ∧ s.Keeps t (own [GLB_UART_STATUS_RX_READY u]) id)
  ∧ (∀ (s : State) (pec : Bool), s.u.glb.railsGood = true →
    (∃ t, exec (.smbStatus pec) s = .next t ∧ Out.answer (Run.start s).smbWord ∈ t.out ∧ t.rd GLB_SMB_STATUS_PENDING = 0 ∧ t.rd GLB_SMB_STATUS_LAST_CMD = 1
      ∧ (pec = true → Out.pec (readPec 1 (le 2 (Run.start s).smbWord)) ∈ t.out) ∧ s.Keeps t (own [GLB_SMB_STATUS_LAST_CMD]) id)
    ∧ (∃ t, exec (.temp pec) s = .next t ∧ (let v := if s.u.thm.valid then s.rd THM_STATUS_MAX else 0x8000
        s.SmbReads t 2 (.answer v) (le 2 v) pec))
    ∧ (∃ t, exec (.hot pec) s = .next t ∧ s.SmbReads t 3 (.answer (s.rd THM_STATUS_HOT)) (le 1 (s.rd THM_STATUS_HOT)) pec)
    ∧ (∃ t, exec (.smbMode pec) s = .next t ∧ (let v := s.rd GLB_MODE_MODE + 4 * s.rd GLB_MODE_ROLE + 8 * s.rd GLB_MODE_DUAL_MAG
        s.SmbReads t 4 (.answer v) (le 1 v) pec))
    ∧ (∃ t, exec (.ident pec) s = .next t ∧ (let b := le 4 0x9618 ++ le 4 0xB1 ++ le 4 s.u.glb.fw.version
        s.SmbReads t 8 (.answerBytes b) (le 1 12 ++ b) pec))
    ∧ (∃ t, exec (.serial pec) s = .next t ∧ s.SmbReads t 9 (.answerBytes (padTo 16 Config.serial)) (le 1 (padTo 16 Config.serial).length ++ padTo 16 Config.serial) pec)
    ∧ (∃ t, exec (.alertMaskRead pec) s = .next t
      ∧ s.SmbReads t 0x22 (.answer (s.rd GLB_SMB_STATUS_ALERT_MASK)) (le 1 (s.rd GLB_SMB_STATUS_ALERT_MASK)) pec)
    ∧ (∃ t, exec .alertResponse s = .next t ∧ Out.answer 0xB8 ∈ t.out ∧ t.u.glb.smbReleased = true ∧ t.u.glb.smbLow = false ∧ s.Keeps t (own []) id))
  ∧ (∀ (s : State) (data : Byte) (pec : Option Bool), s.u.glb.railsGood = true → pec ≠ some false →
    ∃ t, exec (.alertMask data pec) s = .next t ∧ t.rd GLB_SMB_STATUS_ALERT_MASK = data.toNat % 16 ∧ t.rd GLB_SMB_STATUS_LAST_CMD = 0x21
      ∧ s.Keeps t (own [GLB_SMB_STATUS_ALERT_MASK, GLB_SMB_STATUS_LAST_CMD]) id)
  ∧ (∀ (s : State) (data : Byte), s.u.glb.railsGood = true →
    ∃ t, exec (.alertMask data (some false)) s = .next t ∧ s.sends t .nak ∧ t.rd GLB_SMB_STATUS_LAST_CMD = 0x21
      ∧ t.rd GLB_SMB_COUNT_PEC_ERR = min (s.rd GLB_SMB_COUNT_PEC_ERR + 1) (2 ^ GLB_SMB_COUNT_PEC_ERR.w - 1)
      ∧ s.Keeps t (own [GLB_SMB_STATUS_LAST_CMD, GLB_SMB_COUNT_PEC_ERR]) id)
  ∧ (∀ (s : State) (code : Byte), s.u.glb.railsGood = true →
    (∃ t, exec (.smbNak code true) s = .next t ∧ s.sends t .nak
      ∧ t.rd GLB_SMB_COUNT_PEC_ERR = min (s.rd GLB_SMB_COUNT_PEC_ERR + 1) (2 ^ GLB_SMB_COUNT_PEC_ERR.w - 1)
      ∧ s.Keeps t (own [GLB_SMB_COUNT_PEC_ERR]) id)
    ∧ (smbCodes.contains code.toNat = false → ∃ t, exec (.smbNak code false) s = .next t ∧ s.sends t .nak
      ∧ t.rd GLB_SMB_COUNT_NAK = min (s.rd GLB_SMB_COUNT_NAK + 1) (2 ^ GLB_SMB_COUNT_NAK.w - 1) ∧ s.Keeps t (own [GLB_SMB_COUNT_NAK]) id))
  ∧ ∀ (s : State) (data code : Byte) (pec : Option Bool) (q badPec : Bool), s.u.glb.railsGood = false →
    exec (.smbStatus q) s = .next s ∧ exec (.temp q) s = .next s ∧ exec (.hot q) s = .next s ∧ exec (.smbMode q) s = .next s ∧ exec (.ident q) s = .next s
      ∧ exec (.serial q) s = .next s ∧ exec (.alertMask data pec) s = .next s ∧ exec (.alertMaskRead q) s = .next s ∧ exec .alertResponse s = .next s
      ∧ exec (.smbNak code badPec) s = .next s

/-- CDR_LOCK moves ACQUIRE to ALIGN. A reach is heard in TRAIN and LINKED: a DATA reach of the lane's position delivers its words, a header that is not valid is a miss and counts in HDR_ERR; in ALIGN without COMMA_EN it sets HDR_OK by the symbols at BOUNDARY, with COMMA_EN a fourth comma with a valid header, each one reach after the last, declares lock. COMMA_LOCK moves an untrained lane to TRAIN with its first request, a trained one to LINKED. LOSS_OF_LOCK returns TRAIN or LINKED to ALIGN with a breach record; ALIGN_TIMEOUT retrains. A training message acts on a new request once, within each tap's range, and answers; an echo leads to a request or readiness of the device's own choice (a free value, log entry 4). ECHO_TIMEOUT repeats, and the fourth fails the training as TRAIN_TIMEOUT does. In any other state each changes nothing (log entry 3), but that LOOP 3 sends a reach out again. -/
def Obligations.LaneTraining : Prop :=
  (∀ (s : State) (n : Fin 48), s.rd (LNK_STATUS_STATE n) = 1 →
    ∃ t, exec (.cdrLock n) s = .next t ∧ t.rd (LNK_STATUS_STATE n) = 2 ∧ t.rd (LNK_STATUS_RX_LOCK n) = 0
      ∧ s.Keeps t (own [LNK_STATUS_STATE n, LNK_STATUS_RX_LOCK n]) fun u => { u with lane := [] })
  ∧ (∀ (s : State) (n : Fin 48) (sym : List Nat) (msg : Nat), s.rd (LNK_STATUS_STATE n) = 0 ∨ 5 ≤ s.rd (LNK_STATUS_STATE n) →
    exec (.cdrLock n) s = .next s ∧ exec (.commaLock n) s = .next s ∧ exec (.lossOfLock n) s = .next s
      ∧ exec (.alignTimeout n) s = .next s ∧ exec (.trainingMessage n msg) s = .next s ∧ exec (.echoTimeout n) s = .next s
      ∧ exec (.trainTimeout n) s = .next s
      ∧ (if s.rd (LNK_STATUS_STATE n) = 6 ∧ s.rd (LNK_LOOP_LOOP n) = 3 then
          ∃ t, exec (.reachReceived n sym) s = .next t ∧ s.Keeps t (own []) id ∧ s.sends t (.reach n
            (invert ((Run.start s).rxPam n) (s.rd (LNK_CTL_TX_INV n) != 0) (invert ((Run.start s).rxPam n) (s.rd (LNK_CTL_RX_INV n) != 0) sym)))
        else exec (.reachReceived n sym) s = .next s))
  ∧ (∀ (s : State) (n : Fin 48) (sym sy l : List Nat) (top i : Nat) (x : LaneU), s.rd (LNK_STATUS_STATE n) = 2 → s.rd (LNK_ALIGN_COMMA_EN n) = 0 →
    top = (if (Run.start s).rxPam n then 3 else 1) → sy = (if s.rd (LNK_CTL_RX_INV n) ≠ 0 then sym.map (top - ·) else sym) →
    x = s.laneOf n → l = x.tail ++ sy → i = (s.rd (LNK_ALIGN_BOUNDARY n) + 16384 - (x.count - x.tail.length) % 16384) % 16384 → i + 64 ≤ l.length →
    ∃ t, exec (.reachReceived n sym) s = .next t ∧ t.rd (LNK_ALIGN_HDR_OK n) = b2n (reachHeader top (l.drop i)).isSome
      ∧ t.laneOf n = { x with count := x.count + sym.length, tail := l.drop (l.length - 63) }
      ∧ s.Keeps t (own [LNK_ALIGN_HDR_OK n]) fun u => { u with lane := [] })
  ∧ (∀ (s : State) (n : Fin 48) (sym sy l : List Nat) (top i : Nat) (x : LaneU), s.rd (LNK_STATUS_STATE n) = 2 → s.rd (LNK_ALIGN_COMMA_EN n) ≠ 0 →
    s.rd (LNK_STATUS_TRAINED n) = 0 → top = (if (Run.start s).rxPam n then 3 else 1) → sy = (if s.rd (LNK_CTL_RX_INV n) ≠ 0 then sym.map (top - ·) else sym) →
    x = s.laneOf n → l = x.tail ++ sy → commasAt top l 0 0 = [i] → i + 64 ≤ l.length →
    (if (reachHeader top (l.drop i)).isSome = true ∧ x.commas = 3 ∧ x.count - x.tail.length + i = x.comma + 16384 then
      ∃ t, exec (.reachReceived n sym) s = .next t ∧ t.rd (LNK_STATUS_STATE n) = 3 ∧ t.rd (LNK_STATUS_RX_LOCK n) = 1
        ∧ t.rd (LNK_ALIGN_BOUNDARY n) = (x.count - x.tail.length + i) % 16384
        ∧ s.Keeps t (own [LNK_STATUS_STATE n, LNK_STATUS_RX_LOCK n, LNK_ALIGN_BOUNDARY n, LNK_TRAIN_REQ_COUNT n]) fun u => { u with lane := [] }
    else x.commas < 3 ∨ (reachHeader top (l.drop i)).isNone = true →
      ∃ t, exec (.reachReceived n sym) s = .next t ∧ (t.laneOf n).comma = x.count - x.tail.length + i
        ∧ (t.laneOf n).commas = (if (reachHeader top (l.drop i)).isNone = true then 0
            else if 0 < x.commas ∧ x.count - x.tail.length + i = x.comma + 16384 then x.commas + 1 else 1)
        ∧ s.Keeps t (own []) fun u => { u with lane := [] }))
  ∧ (∀ (s : State) (n : Fin 48) (sym sy : List Nat) (top : Nat) (h : ReachHeader) (l : LaneU) (bs : List Bool), n.val < 40 → s.rd (LNK_STATUS_STATE n) = 4 →
    top = (if (Run.start s).rxPam n then 3 else 1) → sy = (if s.rd (LNK_CTL_RX_INV n) ≠ 0 then sym.map (top - ·) else sym) →
    reachHeader top sy = some h → h.type = 1 → l = s.laneOf n → h.pos = l.pos → h.pos ≠ 15 → l.type = 1 → h.phase = (64 - l.acc.length) % 64 →
    (Run.start s).payload n 1 sy = (bs, 0) →
    ∃ t, exec (.reachReceived n sym) s = .next t ∧ t.rd (LNK_STATUS_LANE_POS n) = h.pos % 16 ∧ t.rd (LNK_STATUS_FAR_RX_LOCK n) = b2n h.rxLock
      ∧ t.rd (LNK_ALIGN_HDR_OK n) = 1 ∧ t.laneOf n = { l with misses := 0, words := (cutWords 600 (l.acc ++ bs)).1, acc := (cutWords 600 (l.acc ++ bs)).2 }
      ∧ (24 ≤ n.val ∨ (Run.start s).bundleOf n = none → s.Keeps t (own [LNK_STATUS_LANE_POS n, LNK_STATUS_FAR_RX_LOCK n, LNK_ALIGN_HDR_OK n]) fun u => { u with lane := [] }))
  ∧ (∀ (s : State) (n : Fin 48) (sym sy : List Nat) (top : Nat) (l : LaneU) (bs : List Bool), s.rd (LNK_STATUS_STATE n) = 4 →
    top = (if (Run.start s).rxPam n then 3 else 1) → sy = (if s.rd (LNK_CTL_RX_INV n) ≠ 0 then sym.map (top - ·) else sym) →
    (reachHeader top sy).isNone = true → l = s.laneOf n → l.type ≠ 1 → l.misses < 3 → (Run.start s).payload n l.type sy = (bs, 0) →
    ∃ t, exec (.reachReceived n sym) s = .next t ∧ t.rd (LNK_ERR_HDR_ERR n) = min (s.rd (LNK_ERR_HDR_ERR n) + 1) 65535
      ∧ t.laneOf n = { l with misses := l.misses + 1, words := [] } ∧ t.rd (LNK_STATUS_STATE n) = 4
      ∧ (s.rd (LNK_STATUS_ERR_SEEN n) = 0 → t.rd (LNK_STATUS_ERR_SEEN n) = 1 ∧ t.seen (33 + 2 * n.val) = true)
      ∧ t.rd (LNK_ALIGN_HDR_OK n) = 0
      ∧ (24 ≤ n.val ∨ (Run.start s).bundleOf n = none → s.Keeps t (own [LNK_ERR_HDR_ERR n, LNK_STATUS_ERR_SEEN n, LNK_ALIGN_HDR_OK n]) fun u => { u with lane := [] }))
  ∧ (∀ (s : State) (n : Fin 48) (sym sy : List Nat) (top : Nat) (h : ReachHeader) (bs : List Bool), n.val < 24 → (Run.start s).bundleOf n = none →
    s.rd (LNK_STATUS_STATE n) = 3 → top = (if (Run.start s).rxPam n then 3 else 1) →
    sy = (if s.rd (LNK_CTL_RX_INV n) ≠ 0 then sym.map (top - ·) else sym) → reachHeader top sy = some h → h.type ≠ 2 → (s.laneOf n).trained = true →
    (Run.start s).payload n h.type sy = (bs, 0) →
    ∃ t, exec (.reachReceived n sym) s = .next t ∧ t.rd (LNK_STATUS_STATE n) = 4 ∧ t.rd (LNK_STATUS_RX_LOCK n) = 1 ∧ t.rd (LNK_STATUS_TRAINED n) = 1
      ∧ t.rd (LNK_TRAIN_LAST_RESULT n) = 1 ∧ t.rd (LNK_STATUS_TRAIN_COUNT n) = min (s.rd (LNK_STATUS_TRAIN_COUNT n) + 1) 255
      ∧ t.seen (32 + 2 * n.val) = true
      ∧ s.Keeps t (own [LNK_STATUS_STATE n, LNK_STATUS_RX_LOCK n, LNK_STATUS_TRAINED n, LNK_TRAIN_LAST_RESULT n, LNK_STATUS_TRAIN_COUNT n,
          LNK_STATUS_LANE_POS n, LNK_STATUS_FAR_RX_LOCK n, LNK_ALIGN_HDR_OK n]) fun u => { u with lane := [] })
  ∧ (∀ (s : State) (n : Fin 48), s.rd (LNK_STATUS_STATE n) = 2 → s.rd (LNK_ALIGN_COMMA_EN n) ≠ 0 →
    (s.rd (LNK_STATUS_TRAINED n) = 0 → ∃ t, exec (.commaLock n) s = .next t ∧ t.rd (LNK_STATUS_STATE n) = 3 ∧ t.rd (LNK_STATUS_RX_LOCK n) = 1
      ∧ (if n.val < 40 then t.rd (LNK_TRAIN_REQ_COUNT n) = min (s.rd (LNK_TRAIN_REQ_COUNT n) + 1) 255 ∧ (t.laneOf n).waiting = true
            ∧ (t.laneOf n).seq = ((s.laneOf n).seq + 1) % 256
            ∧ s.sends t (.packet n 0 [trainMsg ((s.laneOf n).preset * 64 + 64) (s.laneOf n).stat (s.laneOf n).ready (((s.laneOf n).seq + 1) % 256)
                ((s.laneOf n).acted.getD 0) n] [])
          else (t.laneOf n).ready = true
            ∧ s.sends t (.packet n 0 [trainMsg 0 (s.laneOf n).stat true (s.laneOf n).seq ((s.laneOf n).acted.getD 0) n] []))
      ∧ s.Keeps t (own [LNK_STATUS_STATE n, LNK_STATUS_RX_LOCK n, LNK_TRAIN_REQ_COUNT n]) fun u => { u with lane := [] })
    ∧ (s.rd (LNK_STATUS_TRAINED n) ≠ 0 → s.unowned n → ∃ t, exec (.commaLock n) s = .next t ∧ t.rd (LNK_STATUS_STATE n) = 4
      ∧ t.rd (LNK_STATUS_RX_LOCK n) = 1 ∧ t.seen (32 + 2 * n.val) = true
      ∧ s.Keeps t (own [LNK_STATUS_STATE n, LNK_STATUS_RX_LOCK n]) fun u => { u with lane := [] }))
  ∧ (∀ (s : State) (n : Fin 48), s.rd (LNK_STATUS_STATE n) = 3 ∨ s.rd (LNK_STATUS_STATE n) = 4 → s.unowned n →
    ∃ t, exec (.lossOfLock n) s = .next t ∧ t.rd (LNK_STATUS_STATE n) = 2 ∧ t.rd (LNK_STATUS_RX_LOCK n) = 0 ∧ t.seen (32 + 2 * n.val) = true
      ∧ ((s.laneOf n).misses < 4 → t.rd (LNK_ERR_HDR_ERR n) = min (s.rd (LNK_ERR_HDR_ERR n) + (4 - (s.laneOf n).misses)) 65535)
      ∧ s.logged t (laneType n) n 1 1 0 = true ∧ s.Keeps t (fun k => laneKeys n k || retireKey k) Units.noLane)
  ∧ (∀ (s : State) (n : Fin 48), s.rd (LNK_STATUS_STATE n) = 2 → s.rd (LNK_STATUS_TRAINED n) ≠ 0 →
    ∃ t, exec (.alignTimeout n) s = .next t ∧ t.rd (LNK_STATUS_STATE n) = 1 ∧ t.rd (LNK_STATUS_TRAINED n) = 0 ∧ t.rd (LNK_TRAIN_REQ_COUNT n) = 0
      ∧ s.Keeps t (laneKeys n) fun u => { u with lane := [] })
  ∧ (∀ (s : State) (n : Fin 48) (msg seq : Nat) (l : LaneU), s.rd (LNK_STATUS_STATE n) = 3 → crc8 (le 7 msg) = bits msg 56 8 → seq = bits msg 16 8 →
    l = s.laneOf n → (l.waiting = true → bits msg 24 8 ≠ l.seq) →
    ∃ t, exec (.trainingMessage n msg) s = .next t ∧ (t.laneOf n).acted = some seq
      ∧ (if l.acted = some seq then s.sends t (.packet n 0 [trainMsg 0 l.stat l.ready l.seq seq n] [])
            ∧ s.Keeps t (own []) fun u => { u with lane := [] }
          else (t.laneOf n).sender = bits msg 32 8
            ∧ s.sends t (.packet n 0 [trainMsg 0 (t.laneOf n).stat l.ready l.seq seq n] [])
            ∧ (24 ≤ n.val → bits msg 6 2 = 1 → t.rd (LNK_TXEQ_PRE n) = 4 ∧ t.rd (LNK_TXEQ_MAIN n) = 52 ∧ t.rd (LNK_TXEQ_POST n) = 8)
            ∧ (24 ≤ n.val → bits msg 6 2 = 2 → t.rd (LNK_TXEQ_PRE n) = 0 ∧ t.rd (LNK_TXEQ_MAIN n) = 64 ∧ t.rd (LNK_TXEQ_POST n) = 0)
            ∧ (24 ≤ n.val → bits msg 0 8 = 1 → s.rd (LNK_TXEQ_PRE n) < 16 → s.rd (LNK_TXEQ_PRE n) + s.rd (LNK_TXEQ_MAIN n) + s.rd (LNK_TXEQ_POST n) < 64 →
                t.rd (LNK_TXEQ_PRE n) = s.rd (LNK_TXEQ_PRE n) + 1 ∧ (t.laneOf n).stat = 1)
            ∧ (24 ≤ n.val → bits msg 0 8 = 8 → 32 < s.rd (LNK_TXEQ_MAIN n) → s.rd (LNK_TXEQ_MAIN n) ≤ 64 →
                t.rd (LNK_TXEQ_MAIN n) = s.rd (LNK_TXEQ_MAIN n) - 1 ∧ (t.laneOf n).stat = 4)
            ∧ (24 ≤ n.val → bits msg 0 8 = 8 → s.rd (LNK_TXEQ_MAIN n) = 32 → t.rd (LNK_TXEQ_MAIN n) = 32 ∧ (t.laneOf n).stat = 8)
            ∧ s.Keeps t (own [LNK_TXEQ_PRE n, LNK_TXEQ_MAIN n, LNK_TXEQ_POST n]) fun u => { u with lane := [] }))
  ∧ (∀ (s : State) (n : Fin 48) (msg : Nat) (l : LaneU), s.rd (LNK_STATUS_STATE n) = 3 → crc8 (le 7 msg) = bits msg 56 8 → l = s.laneOf n →
    l.acted = some (bits msg 16 8) → l.waiting = true → bits msg 24 8 = l.seq →
    ∃ t, exec (.trainingMessage n msg) s = .next t
      ∧ (if Config.free s.fresh % 8 < 6 then (t.laneOf n).waiting = true ∧ (t.laneOf n).seq = (l.seq + 1) % 256
            ∧ t.rd (LNK_TRAIN_REQ_COUNT n) = min (s.rd (LNK_TRAIN_REQ_COUNT n) + 1) 255
          else (t.laneOf n).waiting = false ∧ (t.laneOf n).ready = true)
      ∧ s.Keeps t (own [LNK_TRAIN_REQ_COUNT n]) fun u => { u with lane := [] })
  ∧ (∀ (s : State) (n : Fin 48) (msg : Nat), crc8 (le 7 msg) ≠ bits msg 56 8 → exec (.trainingMessage n msg) s = .next s)
  ∧ (∀ (s : State) (n : Fin 48), s.rd (LNK_STATUS_STATE n) = 3 → (s.laneOf n).waiting = true → s.rd (LNK_TRAIN_ECHO_FAILS n) < 255 →
    (s.rd (LNK_TRAIN_ECHO_FAILS n) < 3 → ∃ t, exec (.echoTimeout n) s = .next t ∧ t.rd (LNK_TRAIN_ECHO_FAILS n) = s.rd (LNK_TRAIN_ECHO_FAILS n) + 1
      ∧ (t.laneOf n).seq = ((s.laneOf n).seq + 1) % 256 ∧ (t.laneOf n).waiting = true
      ∧ t.rd (LNK_TRAIN_REQ_COUNT n) = min (s.rd (LNK_TRAIN_REQ_COUNT n) + 1) 255
      ∧ s.Keeps t (own [LNK_TRAIN_ECHO_FAILS n, LNK_TRAIN_REQ_COUNT n]) fun u => { u with lane := [] })
    ∧ (3 ≤ s.rd (LNK_TRAIN_ECHO_FAILS n) → s.unowned n → ∃ t, exec (.echoTimeout n) s = .next t ∧ s.LaneFails t n 3))
  ∧ ∀ (s : State) (n : Fin 48), 1 ≤ s.rd (LNK_STATUS_STATE n) → s.rd (LNK_STATUS_STATE n) ≤ 3 → s.rd (LNK_STATUS_TRAINED n) = 0 →
    (s.unowned n → ∃ t, exec (.trainTimeout n) s = .next t ∧ s.LaneFails t n 2)
    ∧ (40 ≤ n.val → (Run.start s).groupOf n ≠ none → ∃ t, exec (.trainTimeout n) s = .next t ∧ t.rd (LNK_STATUS_STATE n) = 6
        ∧ t.rd (LNK_TRAIN_LAST_RESULT n) = 2 ∧ t.rd (LNK_LOOP_LOOP n) = 2 ∧ t.rd (LNK_PRBS_CTL_GEN_SEL n) = 4 ∧ t.rd (LNK_PRBS_CTL_CHK_SEL n) = 4
        ∧ (t.laneOf n).checking = true ∧ t.seen (32 + 2 * n.val) = true)

/-- BITSLIP in ALIGN without COMMA_EN makes SLIP_BUSY 1, and SLIP_DONE moves BOUNDARY one UI on; ACCEPT with HDR_OK locks the lane at the boundary. LOOP and PRBS_CTL on a lane that may be tested put it in TEST, with the checker unlocked, and clearing both ends the test; START begins an eye-scan point and EYE_DONE ends it with its count. PRBS_CHECK counts bits and errors while the checker has lock. RETRAIN returns a running lane to ACQUIRE, not while a record needs it. A self-check that passed leaves the lane FAILED, one that failed retires it as a cofferdam with a breach record and for a feed lane its group's event. FEED_LANE_RETRY returns a FAILED lane of a group to ACQUIRE. A command that the lane's state rules out is ignored with event 9. -/
def Obligations.LaneSoftware : Prop :=
  (∀ (s : State) (n : Fin 48), s.rd (LNK_ALIGN_SLIP_BUSY n) = 0 → s.rd (LNK_STATUS_STATE n) = 2 → s.rd (LNK_ALIGN_COMMA_EN n) = 0 →
    ∃ t, exec (.bitslip n) s = .next t ∧ t.rd (LNK_ALIGN_SLIP_BUSY n) = 1 ∧ s.Keeps t (own [LNK_ALIGN_SLIP_BUSY n]) id)
  ∧ (∀ (s : State) (n : Fin 48), s.rd (LNK_ALIGN_SLIP_BUSY n) ≠ 0 →
    ∃ t, exec (.slipDone n) s = .next t ∧ t.rd (LNK_ALIGN_SLIP_BUSY n) = 0
      ∧ t.rd (LNK_ALIGN_BOUNDARY n) = (s.rd (LNK_ALIGN_BOUNDARY n) + 1) % 2 ^ 14
      ∧ s.Keeps t (own [LNK_ALIGN_SLIP_BUSY n, LNK_ALIGN_BOUNDARY n]) id)
  ∧ (∀ (s : State) (n : Fin 48), s.rd (LNK_ALIGN_HDR_OK n) ≠ 0 → s.rd (LNK_STATUS_STATE n) = 2 → s.rd (LNK_ALIGN_COMMA_EN n) = 0 →
    (s.rd (LNK_STATUS_TRAINED n) = 0 → ∃ t, exec (.accept n) s = .next t ∧ t.rd (LNK_STATUS_STATE n) = 3 ∧ t.rd (LNK_STATUS_RX_LOCK n) = 1
      ∧ s.Keeps t (own [LNK_STATUS_STATE n, LNK_STATUS_RX_LOCK n, LNK_TRAIN_REQ_COUNT n]) fun u => { u with lane := [] })
    ∧ (s.rd (LNK_STATUS_TRAINED n) ≠ 0 → s.unowned n → ∃ t, exec (.accept n) s = .next t ∧ t.rd (LNK_STATUS_STATE n) = 4
      ∧ t.rd (LNK_STATUS_RX_LOCK n) = 1 ∧ t.seen (32 + 2 * n.val) = true
      ∧ s.Keeps t (own [LNK_STATUS_STATE n, LNK_STATUS_RX_LOCK n]) fun u => { u with lane := [] }))
  ∧ (∀ (s : State) (n : Fin 48),
    (s.rd (LNK_ALIGN_SLIP_BUSY n) ≠ 0 ∨ s.rd (LNK_STATUS_STATE n) ≠ 2 ∨ s.rd (LNK_ALIGN_COMMA_EN n) ≠ 0 →
      ∃ t, exec (.bitslip n) s = .next t ∧ s.Ignores t)
    ∧ (s.rd (LNK_ALIGN_SLIP_BUSY n) = 0 → exec (.slipDone n) s = .next s)
    ∧ (s.rd (LNK_ALIGN_HDR_OK n) = 0 → ∃ t, exec (.accept n) s = .next t ∧ s.Ignores t)
    ∧ (s.rd (LNK_STATUS_STATE n) = 0 ∨ 6 ≤ s.rd (LNK_STATUS_STATE n) → ∃ t, exec (.retrain n) s = .next t ∧ s.Ignores t))
  ∧ (∀ (s : State) (n : Fin 48) (v : Nat), v % 4 ≠ 0 → (Run.start s).testable n = true → (v % 4 = 3 → 24 ≤ n.val ∧ n.val < 40) →
    ∃ t, exec (.loop n v) s = .next t ∧ t.rd (LNK_LOOP_LOOP n) = v % 4 ∧ t.rd (LNK_STATUS_STATE n) = 6 ∧ t.rd (LNK_PRBS_CTL_CHK_LOCK n) = 0
      ∧ (s.rd (LNK_STATUS_STATE n) ≠ 6 → (t.laneOf n).back = s.rd (LNK_STATUS_STATE n))
      ∧ s.Keeps t (own [LNK_LOOP_LOOP n, LNK_STATUS_STATE n, LNK_STATUS_RX_LOCK n, LNK_PRBS_CTL_CHK_LOCK n]) fun u => { u with lane := [] })
  ∧ (∀ (s : State) (n : Fin 48) (v : Nat), v % 4 ≠ 0 → (Run.start s).testable n = false ∨ (v % 4 = 3 ∧ (n.val < 24 ∨ 40 ≤ n.val)) →
    ∃ t, exec (.loop n v) s = .next t ∧ s.Ignores t)
  ∧ (∀ (s : State) (n : Fin 48) (v : Nat), v % 4 = 0 → s.rd (LNK_STATUS_STATE n) = 6 → s.rd (LNK_PRBS_CTL_GEN_SEL n) = 0 →
    s.rd (LNK_PRBS_CTL_CHK_SEL n) = 0 → (Run.start s).laneFree n = false →
    ∃ t, exec (.loop n v) s = .next t ∧ t.rd (LNK_LOOP_LOOP n) = 0 ∧ t.rd (LNK_STATUS_STATE n) = (if (s.laneOf n).back = 7 then 7 else 5)
      ∧ s.Keeps t (own [LNK_LOOP_LOOP n, LNK_STATUS_STATE n, LNK_STATUS_RX_LOCK n, LNK_PRBS_CTL_CHK_LOCK n]) fun u => { u with lane := [] })
  ∧ (∀ (s : State) (n : Fin 48) (v : Nat), bits v 0 3 ≤ 4 → bits v 4 3 ≤ 4 → bits v 0 3 ≠ 0 ∨ bits v 4 3 ≠ 0 → (Run.start s).testable n = true →
    (s.rd (LNK_PRBS_CTL_GEN_SEL n), s.rd (LNK_PRBS_CTL_CHK_SEL n)) ≠ (bits v 0 3, bits v 4 3) →
    ∃ t, exec (.prbsCtl n v) s = .next t ∧ t.rd (LNK_PRBS_CTL_GEN_SEL n) = bits v 0 3 ∧ t.rd (LNK_PRBS_CTL_CHK_SEL n) = bits v 4 3
      ∧ t.rd (LNK_PRBS_CTL_GEN_INV n) = bits v 3 1 ∧ t.rd (LNK_PRBS_CTL_CHK_INV n) = bits v 7 1 ∧ t.rd (LNK_PRBS_CTL_CHK_LOCK n) = 0
      ∧ t.rd (LNK_STATUS_STATE n) = 6 ∧ (bit v 9 = true → t.rd (LNK_PRBS_ERR_ERRORS n) = 0 ∧ t.rd (LNK_PRBS_BITS_BITS n) = 0)
      ∧ s.Keeps t (own [LNK_PRBS_CTL_GEN_SEL n, LNK_PRBS_CTL_CHK_SEL n, LNK_PRBS_CTL_GEN_INV n, LNK_PRBS_CTL_CHK_INV n, LNK_PRBS_CTL_CHK_LOCK n,
          LNK_STATUS_STATE n, LNK_STATUS_RX_LOCK n, LNK_PRBS_ERR_ERRORS n, LNK_PRBS_BITS_BITS n]) fun u => { u with lane := [] })
  ∧ (∀ (s : State) (n : Fin 48) (v : Nat), 4 < bits v 0 3 ∨ 4 < bits v 4 3 ∨ ((bits v 0 3 ≠ 0 ∨ bits v 4 3 ≠ 0) ∧ (Run.start s).testable n = false) →
    ∃ t, exec (.prbsCtl n v) s = .next t ∧ s.Ignores t)
  ∧ (∀ (s : State) (n : Fin 48) (k : Nat), k = s.rd (LNK_STATUS_STATE n) → k = 2 ∨ k = 3 ∨ k = 4 ∨ k = 6 → (s.laneOf n).eye = false →
    s.rd (LNK_EYE_CTL_VOFF n) ≠ 0x80 →
    ∃ t, exec (.start n) s = .next t ∧ (t.laneOf n).eye = true ∧ t.rd (LNK_EYE_RESULT_DONE n) = 0 ∧ t.rd (LNK_EYE_RESULT_ERRORS n) = 0
      ∧ s.Keeps t (own [LNK_EYE_RESULT_DONE n, LNK_EYE_RESULT_ERRORS n]) fun u => { u with lane := [] })
  ∧ (∀ (s : State) (n : Fin 48), s.rd (LNK_STATUS_STATE n) < 2 ∨ s.rd (LNK_STATUS_STATE n) = 5 ∨ 7 ≤ s.rd (LNK_STATUS_STATE n)
      ∨ (s.laneOf n).eye = true ∨ s.rd (LNK_EYE_CTL_VOFF n) = 0x80 → ∃ t, exec (.start n) s = .next t ∧ s.Ignores t)
  ∧ (∀ (s : State) (n : Fin 48) (errors : Nat), (s.laneOf n).eye = true → (∀ w, s.u.mon.sweep = some w → w.lane ≠ n.val) →
    ∃ t, exec (.eyeDone n errors) s = .next t ∧ (t.laneOf n).eye = false ∧ t.rd (LNK_EYE_RESULT_DONE n) = 1
      ∧ t.rd (LNK_EYE_RESULT_ERRORS n) = min errors 0x7FFFFFFF
      ∧ s.Keeps t (own [LNK_EYE_RESULT_DONE n, LNK_EYE_RESULT_ERRORS n]) fun u => { u with lane := [] })
  ∧ (∀ (s : State) (n : Fin 48) (errors : Nat), (s.laneOf n).eye = false → exec (.eyeDone n errors) s = .next s)
  ∧ (∀ (s : State) (n : Fin 48) (b want : Bool) (sel : Nat), sel = s.rd (LNK_PRBS_CTL_CHK_SEL n) → sel ≠ 0 → s.rd (LNK_STATUS_STATE n) = 6 →
    s.rd (LNK_PRBS_CTL_CHK_LOCK n) ≠ 0 → want = (prbsNext sel (s.laneOf n).prbs != (s.rd (LNK_PRBS_CTL_CHK_INV n) != 0)) →
    ∃ t, exec (.prbsCheck n [b]) s = .next t ∧ t.rd (LNK_PRBS_BITS_BITS n) = (s.rd (LNK_PRBS_BITS_BITS n) + 1) % 2 ^ 64
      ∧ t.rd (LNK_PRBS_ERR_ERRORS n) = (if b = want then s.rd (LNK_PRBS_ERR_ERRORS n) else min (s.rd (LNK_PRBS_ERR_ERRORS n) + 1) 0xFFFFFFFF)
      ∧ (b ≠ want → 256 ≤ (s.laneOf n).winErr → t.rd (LNK_PRBS_CTL_CHK_LOCK n) = 0)
      ∧ (b ≠ want → s.rd (LNK_STATUS_ERR_SEEN n) = 0 → t.rd (LNK_STATUS_ERR_SEEN n) = 1 ∧ t.seen (33 + 2 * n.val) = true)
      ∧ s.Keeps t (own [LNK_PRBS_BITS_BITS n, LNK_PRBS_ERR_ERRORS n, LNK_PRBS_CTL_CHK_LOCK n, LNK_STATUS_ERR_SEEN n]) fun u => { u with lane := [] })
  ∧ (∀ (s : State) (n : Fin 48) (b : Bool) (sel : Nat), sel = s.rd (LNK_PRBS_CTL_CHK_SEL n) → sel ≠ 0 → s.rd (LNK_STATUS_STATE n) = 6 →
    s.rd (LNK_PRBS_CTL_CHK_LOCK n) = 0 → (s.laneOf n).prbs.length = (prbsTaps sel).1 → (s.laneOf n).good = 63 →
    b = (prbsNext sel (s.laneOf n).prbs != (s.rd (LNK_PRBS_CTL_CHK_INV n) != 0)) →
    ∃ t, exec (.prbsCheck n [b]) s = .next t ∧ t.rd (LNK_PRBS_CTL_CHK_LOCK n) = 1
      ∧ s.Keeps t (own [LNK_PRBS_CTL_CHK_LOCK n]) fun u => { u with lane := [] })
  ∧ (∀ (s : State) (n : Fin 48) (l : List Bool), s.rd (LNK_STATUS_STATE n) ≠ 6 ∨ s.rd (LNK_PRBS_CTL_CHK_SEL n) = 0 →
    exec (.prbsCheck n l) s = .next s)
  ∧ (∀ (s : State) (n : Fin 48), 1 ≤ s.rd (LNK_STATUS_STATE n) → s.rd (LNK_STATUS_STATE n) ≤ 5 → s.rd MAG_REC_STATUS_STATE = 0 → s.unowned n →
    ∃ t, exec (.retrain n) s = .next t ∧ t.rd (LNK_STATUS_STATE n) = 1 ∧ t.rd (LNK_STATUS_TRAINED n) = 0
      ∧ (s.rd (LNK_STATUS_RX_LOCK n) ≠ 0 → t.seen (32 + 2 * n.val) = true ∧ s.logged t (laneType n) n 1 1 0 = true)
      ∧ s.Keeps t (fun k => laneKeys n k || retireKey k) Units.noLane)
  ∧ (∀ (s : State) (n : Fin 48), 1 ≤ s.rd (LNK_STATUS_STATE n) → (Run.start s).recording = true → (Run.start s).ringLane n = true →
    ∃ t, exec (.retrain n) s = .next t ∧ s.Ignores t)
  ∧ (∀ (s : State) (n : Fin 48), (s.laneOf n).checking = true → s.rd (LNK_STATUS_STATE n) = 6 → (Run.start s).laneFree n = false →
    s.rd (LNK_PRBS_CTL_CHK_LOCK n) ≠ 0 → s.rd (LNK_PRBS_ERR_ERRORS n) = 0 →
    ∃ t, exec (.laneSelfCheckEnd n) s = .next t ∧ t.rd (LNK_STATUS_STATE n) = 5 ∧ t.rd (LNK_LOOP_LOOP n) = 0 ∧ t.rd (LNK_PRBS_CTL_GEN_SEL n) = 0
      ∧ t.rd (LNK_PRBS_CTL_CHK_SEL n) = 0 ∧ (t.laneOf n).checking = false ∧ t.seen (32 + 2 * n.val) = true
      ∧ s.Keeps t (laneKeys n) fun u => { u with lane := [] })
  ∧ (∀ (s : State) (n : Fin 48), (s.laneOf n).checking = true → s.rd (LNK_STATUS_STATE n) = 6 → (Run.start s).laneFree n = false →
    s.rd (LNK_PRBS_CTL_CHK_LOCK n) = 0 ∨ s.rd (LNK_PRBS_ERR_ERRORS n) ≠ 0 → s.rd EVT_COFFERDAM_LANES < 2 ^ 48 →
    ∃ t, exec (.laneSelfCheckEnd n) s = .next t ∧ t.rd (LNK_STATUS_STATE n) = 7 ∧ bit (t.rd EVT_COFFERDAM_LANES) n = true
      ∧ s.logged t (laneType n) n 2 4 4 = true ∧ t.seen 19 = true
      ∧ ((Run.start s).groupOf n).all (fun g => t.rd (FED_STATUS_RETIRED g) == 1 && t.seen (281 + 2 * g)) = true
      ∧ s.Keeps t (fun k => laneKeys n k || retireKey k || ((Run.start s).groupOf n).any fun g => own [FED_STATUS_RETIRED g, FED_STATUS_FAR_LOCK g,
          FED_STATUS_UP g] k) fun u => { u with lane := [], evt := { u.evt with log := [], service := [] } })
  ∧ (∀ (s : State) (n : Fin 48), (s.laneOf n).checking = false → exec (.laneSelfCheckEnd n) s = .next s)
  ∧ (∀ (s : State) (j : Fin 8) (n : Nat), n = 40 + j.val → s.rd (LNK_STATUS_STATE n) = 5 → (Run.start s).groupOf n ≠ none →
    ∃ t, exec (.feedLaneRetry j) s = .next t ∧ t.rd (LNK_STATUS_STATE n) = 1 ∧ t.rd (LNK_STATUS_TRAINED n) = 0 ∧ t.rd (LNK_TRAIN_REQ_COUNT n) = 0
      ∧ s.Keeps t (laneKeys n) fun u => { u with lane := [] })
  ∧ ∀ (s : State) (j : Fin 8), s.rd (LNK_STATUS_STATE (40 + j.val)) ≠ 5 ∨ (Run.start s).groupOf (40 + j.val) = none →
    exec (.feedLaneRetry j) s = .next s

/-- A forward packet with the expected SEQ, on a bundle in UP or RESYNC that discards no words, is accepted: the expected SEQ moves on, the NAK series ends, an ACK is owed. An FS opens a frame with its FN, TAG and time, and counts a gap when the FN skips; an LP in order extends the frame, and with a slot lands in the recording polder; an EMB counts its words; an FE completes the frame. An LP, EMB or FE without an open frame and an EMB of another FN count in ORPHAN, a packet of an unbound virtual stream in UNBOUND. An LP out of order (cause 2), an FE short of lines (cause 4) and an FS over an open frame (cause 3) lose the frame; an FS not later than the last (cause 5) opens none. ST shows status and alarm, a rising alarm raises LINK with cause 5. A SEQ ahead or a packet error, an LP or EMB whose LEN is out of range included, is answered by a NAK (four at most) and words are discarded; a duplicate, or a packet while words are discarded, changes nothing. An ACK releases kept packets, a NAK replays them after an all-IDLE reach, the fourth restarts the return stream. A resync point ends the discarding. -/
def Obligations.IntakePackets : Prop :=
  (∀ (s : State) (b : Fin 8) (v : Fin 16) (seq c fn tag ts tns tf l0 l1 last : Nat), s.takes b seq → s.binds b v c → s.plain c → s.u.itk.stop = false →
    (Run.start s).openFrame v = none → (s.u.itk.vs.look v {}).queue = [] → (s.u.itk.vs.look v {}).pend = [] → last = s.rd (ITK_VS_LAST_FN v) →
    (s.u.itk.vs.look v {}).first = true ∨ laterThan 32 (fn % 2 ^ 32) last = true →
    ∃ t, exec (.fs b seq v fn tag ts tns tf l0 l1) s = .next t ∧ s.Taken t b seq ∧ t.rd (ITK_VS_LAST_FN v) = fn % 2 ^ 32
      ∧ t.rd (ITK_VS_LAST_TAG_TAG v) = tag % 2 ^ 16 ∧ t.rd (ITK_VS_STATUS_FRAME_OPEN v) = 1 ∧ t.rd (ITK_VS_STATUS_STALLED v) = 0
      ∧ t.rd (ITK_VS_ERR_GAPS v) = (if (s.u.itk.vs.look v {}).first = false ∧ fn % 2 ^ 32 ≠ (last + 1) % 2 ^ 32
          then min (s.rd (ITK_VS_ERR_GAPS v) + 1) 0xFF else s.rd (ITK_VS_ERR_GAPS v))
      ∧ t.u.itk.vs.look v {} = { armed := true, seen := true, open_ := some s.u.itk.sn } ∧ t.u.itk.sn = s.u.itk.sn + 1
      ∧ t.u.frames = s.u.frames ++ [{ sn := s.u.itk.sn, vs := v, ctx := c, fn := fn % 2 ^ 32, tag := tag % 2 ^ 16, ts := ts % 2 ^ 48, tns := tns % 2 ^ 30, tf := tf % 2 ^ 18, w := (Run.start s).vsN v 0xC 2, h := (Run.start s).vsN v 0xE 2, embMax := (Run.start s).vsN v 0x18 2 }]
      ∧ s.Keeps t (fun k => takeKeys b k || own [ITK_VS_LAST_FN v, ITK_VS_LAST_TAG_TAG v, ITK_VS_STATUS_FRAME_OPEN v, ITK_VS_STATUS_STALLED v,
          ITK_VS_ERR_GAPS v, ITK_VS_SET_CTL_QUEUED v, ITK_VS_SET_CTL_PENDING v] k) fun u => { u.noFrames b with itk := { (u.noBnd b).itk with sn := 0 } })
  ∧ (∀ (s : State) (b : Fin 8) (v : Fin 16) (seq c fn tag ts tns tf l0 l1 last : Nat), s.takes b seq → s.binds b v c → s.u.itk.stop = false →
    (Run.start s).openFrame v = none → last = s.rd (ITK_VS_LAST_FN v) → (s.u.itk.vs.look v {}).first = false → laterThan 32 (fn % 2 ^ 32) last = false →
    (s.u.itk.vs.look v {}).queue = [] → (s.u.itk.vs.look v {}).pend = [] →
    ∃ t, exec (.fs b seq v fn tag ts tns tf l0 l1) s = .next t ∧ s.Taken t b seq ∧ t.rd (ITK_VS_ERR_LOST v) = min (s.rd (ITK_VS_ERR_LOST v) + 1) 0xFF
      ∧ t.rd (ITK_VS_LOST_FN v) = fn % 2 ^ 32 ∧ t.rd (ITK_VS_STATUS_LOST_CAUSE v) = 5 ∧ t.seen (129 + 4 * v) = true
      ∧ t.rd (ITK_VS_STATUS_STALLED v) = 0 ∧ (t.u.itk.vs.look v {}).armed = true
      ∧ s.Keeps t (fun k => takeKeys b k || lossKeys v k || own [ITK_VS_STATUS_STALLED v, ITK_VS_SET_CTL_QUEUED v, ITK_VS_SET_CTL_PENDING v] k) (Units.noFrames b))
  ∧ (∀ (s : State) (b : Fin 8) (v : Fin 16) (seq c fn tag ts tns tf l0 l1 last : Nat) (f : IFrame), s.takes b seq → s.binds b v c → s.plain c →
    s.u.itk.stop = false → s.openIs v c f → f.exts = [] → last = s.rd (ITK_VS_LAST_FN v) → (s.u.itk.vs.look v {}).first = true →
    (s.u.itk.vs.look v {}).queue = [] → (s.u.itk.vs.look v {}).pend = [] →
    ∃ t, exec (.fs b seq v fn tag ts tns tf l0 l1) s = .next t ∧ s.Taken t b seq ∧ t.rd (ITK_VS_ERR_LOST v) = min (s.rd (ITK_VS_ERR_LOST v) + 1) 0xFF
      ∧ t.rd (ITK_VS_LOST_FN v) = f.fn % 2 ^ 32 ∧ t.rd (ITK_VS_STATUS_LOST_CAUSE v) = 3 ∧ t.seen (129 + 4 * v) = true
      ∧ t.rd (ITK_VS_STATUS_FRAME_OPEN v) = 1 ∧ t.rd (ITK_VS_LAST_FN v) = fn % 2 ^ 32 ∧ (t.u.itk.vs.look v {}).open_ = some s.u.itk.sn
      ∧ t.u.frames.length = (s.u.frames.filter fun x => x.sn != f.sn).length + 1
      ∧ s.Keeps t (fun k => takeKeys b k || lossKeys v k || own [ITK_VS_LAST_FN v, ITK_VS_LAST_TAG_TAG v, ITK_VS_STATUS_STALLED v,
          ITK_VS_SET_CTL_QUEUED v, ITK_VS_SET_CTL_PENDING v] k) fun u => { u.noFrames b with itk := { (u.noBnd b).itk with sn := 0 } })
  ∧ (∀ (s : State) (b : Fin 8) (v : Fin 16) (seq c y x n : Nat) (l : List Nat) (f : IFrame), s.takes b seq → s.binds b v c → s.plain c → s.openIs v c f →
    f.exts = [] → n = l.length → y = f.nextY → x = f.nextX → y < f.h → lpLen n → x + n ≤ f.w →
    ∃ t, exec (.lp b seq v y x l) s = .next t ∧ s.Taken t b seq
      ∧ t.u.frames = s.u.frames.map (fun g => if g.sn = f.sn then { g with nextY := if x + n = f.w then y + 1 else y, nextX := if x + n = f.w then 0 else x + n, crc := (packBits 18 l).foldl (fun k d => crcReflByte 0x82F63B78 8 (k ^^^ d.toNat)) g.crc } else g)
      ∧ s.Keeps t (takeKeys b) (Units.noFrames b))
  ∧ (∀ (s : State) (b : Fin 8) (v : Fin 16) (seq c y x n a r at_ base : Nat) (l : List Nat) (f : IFrame), s.takes b seq → s.binds b v c → s.plain c →
    s.openIs v c f → f.exts = [(a, r)] → n = l.length → y = f.nextY → x = f.nextX → y < f.h → lpLen n → x + n ≤ f.w →
    (Run.start s).retiredCount < 2 → at_ = f.rawOff + (y * f.w + x) * 9 / 4 → at_ + n * 9 / 4 ≤ 3840 * r → base = (Run.start s).recBase →
    s.rd MEM_CFG_RETIRED = 0 → s.u.mem.poison = [] →
    ∃ t, exec (.lp b seq v y x l) s = .next t ∧ s.Taken t b seq ∧ (Run.start t).slotBytes f at_ (n * 9 / 4) = packBits 18 l
      ∧ s.KeepsBut t (takeKeys b) (fun p => base + 4096 * a ≤ p && p < base + 4096 * (a + r)) (Units.noFrames b))
  ∧ (∀ (s : State) (b : Fin 8) (v : Fin 16) (seq c y x n : Nat) (l : List Nat) (f : IFrame), s.takes b seq → s.binds b v c → s.plain c → s.openIs v c f →
    f.exts = [] → n = l.length → lpLen n → y ≠ f.nextY ∨ f.h ≤ y ∨ x ≠ f.nextX ∨ f.w < x + n →
    ∃ t, exec (.lp b seq v y x l) s = .next t ∧ s.Taken t b seq ∧ s.LosesFrame t v 2 f
      ∧ s.Keeps t (fun k => takeKeys b k || lossKeys v k) (Units.noFrames b))
  ∧ (∀ (s : State) (b : Fin 8) (v : Fin 16) (seq c fn off words keep : Nat) (data : List Byte) (f : IFrame), s.takes b seq → s.binds b v c → s.plain c →
    s.openIs v c f → f.exts = [] → fn = f.fn → embLen data.length → words = (data.length + 7) / 8 → keep = min words (f.embMax - off) →
    ∃ t, exec (.emb b seq v fn off data) s = .next t ∧ s.Taken t b seq
      ∧ t.u.frames = s.u.frames.map (fun g => if g.sn = f.sn then { g with emb := if keep = 0 then g.emb else max g.emb (off + keep), trunc := g.trunc || keep < words } else g)
      ∧ s.Keeps t (takeKeys b) (Units.noFrames b))
  ∧ (∀ (s : State) (b : Fin 8) (v : Fin 16) (seq c fn lines : Nat) (f : IFrame), s.takes b seq → s.binds b v c → s.plain c → s.openIs v c f →
    f.exts = [] → fn = f.fn → f.h ≤ lines → f.h ≤ f.nextY →
    ∃ t, exec (.fe b seq v fn lines) s = .next t ∧ s.Taken t b seq ∧ t.rd (ITK_VS_FRAMES v) = (s.rd (ITK_VS_FRAMES v) + 1) % 2 ^ 32
      ∧ t.rd (ITK_VS_STATUS_FRAME_OPEN v) = 0 ∧ (t.u.itk.vs.look v {}).open_ = none
      ∧ t.u.frames = s.u.frames.filter (fun x => x.sn != f.sn)
      ∧ s.Keeps t (fun k => takeKeys b k || own [ITK_VS_FRAMES v, ITK_VS_STATUS_FRAME_OPEN v] k) (Units.noFrames b))
  ∧ (∀ (s : State) (b : Fin 8) (v : Fin 16) (seq c fn lines : Nat) (f : IFrame), s.takes b seq → s.binds b v c → s.plain c → s.openIs v c f →
    f.exts = [] → fn ≠ f.fn ∨ lines < f.h ∨ f.nextY < f.h →
    ∃ t, exec (.fe b seq v fn lines) s = .next t ∧ s.Taken t b seq ∧ s.LosesFrame t v 4 f
      ∧ s.Keeps t (fun k => takeKeys b k || lossKeys v k) (Units.noFrames b))
  ∧ (∀ (s : State) (b : Fin 8) (v : Fin 16) (seq c x y fn lines off : Nat) (l : List Nat) (data : List Byte), s.takes b seq → s.binds b v c →
    (Run.start s).hasCfg 0x0704 0 = false → (∀ f, (Run.start s).openFrame v = some f → fn ≠ f.fn) →
    lpLen l.length → embLen data.length →
    (∃ t, exec (.emb b seq v fn off data) s = .next t ∧ s.Taken t b seq ∧ t.rd (ITK_VS_ERR_ORPHAN v) = min (s.rd (ITK_VS_ERR_ORPHAN v) + 1) 0xFF
      ∧ s.Keeps t (fun k => takeKeys b k || own [ITK_VS_ERR_ORPHAN v] k) (Units.noBnd b))
    ∧ ((Run.start s).openFrame v = none → ∃ t, exec (.lp b seq v y x l) s = .next t ∧ exec (.fe b seq v fn lines) s = .next t ∧ s.Taken t b seq
      ∧ t.rd (ITK_VS_ERR_ORPHAN v) = min (s.rd (ITK_VS_ERR_ORPHAN v) + 1) 0xFF
      ∧ s.Keeps t (fun k => takeKeys b k || own [ITK_VS_ERR_ORPHAN v] k) (Units.noBnd b)))
  ∧ (∀ (s : State) (b : Fin 8) (v : Fin 16) (seq c st temp : Nat) (alarm : Bool), s.takes b seq → s.binds b v c →
    ∃ t, exec (.st b seq v st alarm temp) s = .next t ∧ s.Taken t b seq
      ∧ t.rd (ITK_VS_ST v) = st % 2 ^ 32 + b2n alarm * 2 ^ 32 + temp % 2 ^ 16 * 2 ^ 48 ∧ t.rd (ITK_VS_STATUS_ALARM v) = b2n alarm
      ∧ (alarm = true → s.rd (ITK_VS_STATUS_ALARM v) = 0 → t.rd (ITK_VS_STATUS_LINK_CAUSE v) = 5 ∧ t.seen (131 + 4 * v) = true)
      ∧ (alarm = false → t.rd (ITK_VS_STATUS_LINK_CAUSE v) = s.rd (ITK_VS_STATUS_LINK_CAUSE v))
      ∧ s.Keeps t (fun k => takeKeys b k || own [ITK_VS_ST v, ITK_VS_STATUS_ALARM v, ITK_VS_STATUS_LINK_CAUSE v] k) (Units.noBnd b))
  ∧ (∀ (s : State) (b : Fin 8) (v : Fin 16) (seq fn tag ts tns tf l0 l1 y x lines off st temp : Nat) (l : List Nat) (data : List Byte) (alarm : Bool),
    s.takes b seq → (Run.start s).hasCfg 0x0402 v = false ∨ (Run.start s).vsN v 8 1 ≠ b →
    lpLen l.length → embLen data.length →
    ∃ t, exec (.fs b seq v fn tag ts tns tf l0 l1) s = .next t ∧ exec (.lp b seq v y x l) s = .next t ∧ exec (.fe b seq v fn lines) s = .next t
      ∧ exec (.emb b seq v fn off data) s = .next t ∧ exec (.st b seq v st alarm temp) s = .next t ∧ s.Taken t b seq
      ∧ t.rd (ITK_BND_ERR2_UNBOUND b) = min (s.rd (ITK_BND_ERR2_UNBOUND b) + 1) 0xFF
      ∧ s.Keeps t (fun k => takeKeys b k || own [ITK_BND_ERR2_UNBOUND b] k) (Units.noBnd b))
  ∧ (∀ (s : State) (b : Fin 8) (seq : Nat), s.takes b seq →
    ∃ t, exec (.reservedType b seq) s = .next t ∧ s.Taken t b seq
      ∧ t.rd (ITK_BND_ERR2_RESERVED_TYPE b) = min (s.rd (ITK_BND_ERR2_RESERVED_TYPE b) + 1) 0xFF
      ∧ s.Keeps t (fun k => takeKeys b k || own [ITK_BND_ERR2_RESERVED_TYPE b] k) (Units.noBnd b))
  ∧ (∀ (s : State) (b : Fin 8) (v : Fin 16) (seq q want fn tag ts tns tf l0 l1 y x lines off st temp : Nat) (l : List Nat) (data : List Byte) (alarm : Bool),
    (Run.start s).bndHears b = true → (Run.start s).hasCfg 0x0704 0 = false → want = s.rd (ITK_BND_SEQ_EXP_SEQ b) → q = seq % 2 ^ 24 → q ≠ want →
    laterThan 24 q want = true ∨ subMod 24 q want = 2 ^ 23 → s.rd (ITK_BND_STATUS_NAK_COUNT b) < 4 → lpLen l.length → embLen data.length →
    ∃ t, exec (.fs b seq v fn tag ts tns tf l0 l1) s = .next t ∧ exec (.lp b seq v y x l) s = .next t ∧ exec (.fe b seq v fn lines) s = .next t
      ∧ exec (.emb b seq v fn off data) s = .next t ∧ exec (.st b seq v st alarm temp) s = .next t ∧ exec (.reservedType b seq) s = .next t
      ∧ s.Nakked t b ∧ t.rd (ITK_BND_ERR_SEQ_GAP b) = min (s.rd (ITK_BND_ERR_SEQ_GAP b) + 1) 0xFF
      ∧ s.Keeps t (fun k => nakKeys b k || own [ITK_BND_ERR_SEQ_GAP b] k) (Units.noBnd b))
  ∧ (∀ (s : State) (b : Fin 8) (v : Fin 16) (seq q want fn tag ts tns tf l0 l1 y x lines off st temp : Nat) (l : List Nat) (data : List Byte) (alarm crc : Bool),
    (Run.start s).hasCfg 0x0704 0 = false → want = s.rd (ITK_BND_SEQ_EXP_SEQ b) → q = seq % 2 ^ 24 →
    (Run.start s).bndHears b = false ∨ (q ≠ want ∧ laterThan 24 q want = false ∧ subMod 24 q want ≠ 2 ^ 23) → lpLen l.length → embLen data.length →
    exec (.fs b seq v fn tag ts tns tf l0 l1) s = .next s ∧ exec (.lp b seq v y x l) s = .next s ∧ exec (.fe b seq v fn lines) s = .next s
      ∧ exec (.emb b seq v fn off data) s = .next s ∧ exec (.st b seq v st alarm temp) s = .next s ∧ exec (.reservedType b seq) s = .next s
      ∧ ((Run.start s).bndHears b = false → exec (.packetError (.bundle b) crc none) s = .next s ∧ exec (.ack (.bundle b) seq) s = .next s
        ∧ exec (.nak (.bundle b) seq) s = .next s))
  ∧ (∀ (s : State) (b : Fin 8) (v : Fin 16) (seq y x fn off : Nat) (l : List Nat) (data : List Byte), (Run.start s).bndHears b = true →
    ¬ lpLen l.length → ¬ embLen data.length → s.rd (ITK_BND_STATUS_NAK_COUNT b) < 4 →
    ∃ t, exec (.lp b seq v y x l) s = .next t ∧ exec (.emb b seq v fn off data) s = .next t ∧ s.Nakked t b
      ∧ t.rd (ITK_BND_ERR_HDR_ERR b) = min (s.rd (ITK_BND_ERR_HDR_ERR b) + 1) 0xFF
      ∧ s.Keeps t (fun k => nakKeys b k || own [ITK_BND_ERR_HDR_ERR b] k) (Units.noBnd b))
  ∧ (∀ (s : State) (b : Fin 8) (crc : Bool), (Run.start s).bndHears b = true →
    ∃ t, exec (.packetError (.bundle b) crc none) s = .next t
      ∧ t.rd (ITK_BND_ERR_CRC_ERR b) = (if crc = true then min (s.rd (ITK_BND_ERR_CRC_ERR b) + 1) 0xFF else s.rd (ITK_BND_ERR_CRC_ERR b))
      ∧ t.rd (ITK_BND_ERR_HDR_ERR b) = (if crc = true then s.rd (ITK_BND_ERR_HDR_ERR b) else min (s.rd (ITK_BND_ERR_HDR_ERR b) + 1) 0xFF)
      ∧ (s.rd (ITK_BND_STATUS_NAK_COUNT b) < 4 → s.Nakked t b)
      ∧ (4 ≤ s.rd (ITK_BND_STATUS_NAK_COUNT b) → t.out = s.out ∧ t.rd (ITK_BND_STATUS_STATE b) = 4 ∧ (t.u.itk.bnd.look b {}).discard = true)
      ∧ s.Keeps t (fun k => nakKeys b k || own [ITK_BND_ERR_CRC_ERR b, ITK_BND_ERR_HDR_ERR b] k) (Units.noBnd b))
  ∧ (∀ (s : State) (l : Fin 16) (crc : Bool), (Run.start s).hopHears l = false → exec (.packetError (.hop l) crc none) s = .next s)
  ∧ (∀ (s : State) (l : Fin 16) (crc : Bool) (h : HopU), h = s.u.magu.hop.look l {} → (Run.start s).hopHears l = true →
    ∃ t, exec (.packetError (.hop l) crc none) s = .next t
      ∧ t.rd (MAG_LINK_ERR_CRC_ERR l) = (if crc = true then min (s.rd (MAG_LINK_ERR_CRC_ERR l) + 1) (2 ^ (MAG_LINK_ERR_CRC_ERR l).w - 1) else s.rd (MAG_LINK_ERR_CRC_ERR l))
      ∧ (s.rd (MAG_LINK_STATUS_NAK_COUNT l) < 8 →
        s.sends t (.packet (128 + l) 0x11 [0, 0, h.rx] (packetBytes 0x11 0 0 h.rx [])) ∧ t.u.magu.hop.look l {} = { h with discard := true }
        ∧ t.rd (MAG_LINK_STATUS_NAK_COUNT l) = s.rd (MAG_LINK_STATUS_NAK_COUNT l) + 1)
      ∧ (8 ≤ s.rd (MAG_LINK_STATUS_NAK_COUNT l) → t.out = s.out ∧ t.u.magu.hop = s.u.magu.hop)
      ∧ s.Keeps t (own [MAG_LINK_ERR_CRC_ERR l, MAG_LINK_STATUS_NAK_COUNT l, MAG_LINK_ERR_NAKS_TX l]) fun u => { u with magu := { u.magu with hop := [] } })
  ∧ (∀ (s : State) (b : Fin 8) (seq : Nat) (x : BndU), (Run.start s).bndHears b = true → x = s.u.itk.bnd.look b {} →
    ∃ t, exec (.ack (.bundle b) seq) s = .next t ∧ t.u.itk.bnd.look b {} = { x with kept := x.kept.filter fun k => stillKept k.1 (seq % 2 ^ 24) }
      ∧ t.out = s.out ∧ s.Keeps t (own []) fun u => { u with itk := { u.itk with bnd := u.itk.bnd.drop b } })
  ∧ (∀ (s : State) (l : Fin 16) (seq : Nat) (h : HopU), (Run.start s).hopHears l = true → h = s.u.magu.hop.look l {} → h.queue = [] →
    ∃ t, exec (.ack (.hop l) seq) s = .next t ∧ t.u.magu.hop.look l {} = { h with kept := h.kept.filter fun k => stillKept k.1 (seq % 2 ^ 24) }
      ∧ t.out = s.out ∧ s.Keeps t (own []) fun u => { u with magu := { u.magu with hop := [] } })
  ∧ (∀ (s : State) (b : Fin 8) (seq n : Nat) (x : BndU) (p : RetPkt), (Run.start s).bndHears b = true → x = s.u.itk.bnd.look b {} →
    x.kept = [(seq, p)] → seq < 2 ^ 24 → p.type ≠ 0x13 → n = (if x.nakSeq = seq then x.nakN + 1 else 1) → n < 4 →
    ∃ t, exec (.nak (.bundle b) seq) s = .next t ∧ t.rd (ITK_BND_ERR_NAKS_RX b) = min (s.rd (ITK_BND_ERR_NAKS_RX b) + 1) 0xFF
      ∧ t.u.itk.bnd.look b {} = { x with nakSeq := seq, nakN := n }
      ∧ t.out = .packet (64 + b) p.type [p.vs, p.flags, seq] (packetBytes p.type p.vs p.flags seq p.body) :: (((Run.start s).idleReach (64 + b)).st.out)
      ∧ s.Keeps t (own [ITK_BND_ERR_NAKS_RX b]) fun u => { u with itk := { u.itk with bnd := u.itk.bnd.drop b } })
  ∧ (∀ (s : State) (b : Fin 8) (v : Fin 16) (c seq r : Nat) (x : BndU) (m : RetPkt), (Run.start s).bndHears b = true → x = s.u.itk.bnd.look b {} →
    x.nakSeq = seq → 3 ≤ x.nakN → seq < 2 ^ 24 → s.binds b v c → r = s.rd (ITK_BND_RSEQ_NEXT_RSEQ b) → m = (Run.start s).mapPkt b 1 →
    ∃ t, exec (.nak (.bundle b) seq) s = .next t ∧ t.rd (ITK_BND_ERR_NAKS_RX b) = min (s.rd (ITK_BND_ERR_NAKS_RX b) + 1) 0xFF
      ∧ t.u.itk.bnd.look b {} = { x with kept := [(r, m)], nakN := 0 } ∧ t.rd (ITK_BND_RSEQ_NEXT_RSEQ b) = (r + 1) % 2 ^ 24
      ∧ List.Sublist (.packet (64 + b) 0x14 [0, 1, r] (packetBytes 0x14 0 1 r m.body) :: ((Run.start s).idleReach (64 + b)).st.out) t.out
      ∧ t.rd (ITK_VS_STATUS_LINK_CAUSE v) = 4 ∧ t.seen (131 + 4 * v) = true
      ∧ s.Keeps t (fun k => own [ITK_BND_ERR_NAKS_RX b, ITK_BND_RSEQ_NEXT_RSEQ b] k || (List.range 16).any fun w => own [ITK_VS_STATUS_LINK_CAUSE w] k)
          fun u => { u with itk := { u.itk with bnd := u.itk.bnd.drop b } })
  ∧ (∀ (s : State) (l : Fin 16) (seq : Nat) (h : HopU) (p : HopPkt), (Run.start s).hopHears l = true → h = s.u.magu.hop.look l {} → h.stopped = false → h.kept = [(seq, p)] →
    ∃ t, exec (.nak (.hop l) seq) s = .next t ∧ t.rd (MAG_LINK_ERR_NAKS_RX l) = min (s.rd (MAG_LINK_ERR_NAKS_RX l) + 1) (2 ^ (MAG_LINK_ERR_NAKS_RX l).w - 1)
      ∧ t.rd (MAG_LINK_ERR_REPLAYS l) = min (s.rd (MAG_LINK_ERR_REPLAYS l) + 1) (2 ^ (MAG_LINK_ERR_REPLAYS l).w - 1)
      ∧ t.out = .packet (128 + l) p.type [p.drv, 0, seq] (packetBytes p.type p.drv 0 seq p.body) :: (((Run.start s).idleReach (128 + l)).st.out)
      ∧ s.Keeps t (own [MAG_LINK_ERR_NAKS_RX l, MAG_LINK_ERR_REPLAYS l]) id)
  ∧ (∀ (s : State) (b : Fin 8) (x : BndU) (st : Nat), x = s.u.itk.bnd.look b {} → st = s.rd (ITK_BND_STATUS_STATE b) → x.wait = [] →
    (st = 2 → ∃ t, exec (.resyncPoint (.bundle b)) s = .next t ∧ t.u.itk.bnd.look b {} = { x with synced := true }
      ∧ s.Keeps t (own []) fun u => { u with itk := { u.itk with bnd := u.itk.bnd.drop b } })
    ∧ (st = 3 ∨ st = 4 → ∃ t, exec (.resyncPoint (.bundle b)) s = .next t ∧ t.u.itk.bnd.look b {} = { x with discard := false, restart := false }
      ∧ t.rd (ITK_BND_STATUS_STATE b) = (if x.restart = true then 3 else st)
      ∧ s.Keeps t (takeKeys b) (Units.noBnd b))
    ∧ (st < 2 ∨ 4 < st → exec (.resyncPoint (.bundle b)) s = .next s))
  ∧ (∀ (s : State) (b : Fin 8), (s.u.itk.bnd.look b {}).wait ≠ [] → exec (.resyncPoint (.bundle b)) s = .next s)
  ∧ ∀ (s : State) (l : Fin 16), ∃ t, exec (.resyncPoint (.hop l)) s = .next t
      ∧ t.u.magu.hop.look l {} = { s.u.magu.hop.look l {} with discard := false } ∧ s.Keeps t (own []) fun u => { u with magu := { u.magu with hop := [] } }

/-- ACK_SEND sends an ACK for the last accepted SEQ when one is owed. NAK_RESEND repeats the NAK, four at most; then NAK_RESTART sends a NAK with RESTART, ends the series, loses open frames with cause 6 and raises LINK with cause 3. DESKEW_DONE takes a measured skew of at most 512 symbols to UP and fails the bundle with cause 2 above it; MAP_RESEND repeats the initial MAP three times, then fails it with cause 3; RELOCK_WAIT_TIMEOUT fails it with cause 4, a class 2 breach record and open frames lost with cause 7. A position lane that loses lock is replaced by the first LINKED spare, with a MAP, a NAK and LINK cause 1, or the bundle waits in RESYNC. RESTART leads a FAILED bundle to LINKING, and with all lanes LINKED on to DESKEW with an initial MAP. FS_TIMEOUT sets STALLED and loses an open frame with cause 1. GO dispatches a SET, or queues it until its frame. SYNC_SEND sends the time of its pins. A command the state rules out changes nothing (log entry 3); a wrong GO or RESTART is ignored with event 9. -/
def Obligations.IntakeBundles : Prop :=
  (∀ (s : State) (b : Fin 8) (q : Nat) (x : BndU), x = s.u.itk.bnd.look b {} → q = subMod 24 (s.rd (ITK_BND_SEQ_EXP_SEQ b)) 1 →
    (x.owed = true → (Run.start s).bndRuns b = true → ∃ t, exec (.ackSend b) s = .next t ∧ t.u.itk.bnd.look b {} = { x with owed := false }
      ∧ s.sends t (.packet (64 + b) 0x10 [0, 0, q] (packetBytes 0x10 0 0 q [])) ∧ s.Keeps t (own []) fun u => { u with itk := { u.itk with bnd := u.itk.bnd.drop b } })
    ∧ (x.owed = false ∨ (Run.start s).bndRuns b = false → exec (.ackSend b) s = .next s))
  ∧ (∀ (s : State) (b : Fin 8) (n : Nat), n = s.rd (ITK_BND_STATUS_NAK_COUNT b) → s.rd (ITK_BND_STATUS_STATE b) = 4 →
    (1 ≤ n → n < 4 → ∃ t, exec (.nakResend b) s = .next t ∧ t.rd (ITK_BND_STATUS_NAK_COUNT b) = n + 1
      ∧ t.rd (ITK_BND_ERR2_NAKS_TX b) = min (s.rd (ITK_BND_ERR2_NAKS_TX b) + 1) 0xFFFF
      ∧ s.sends t (.packet (64 + b) 0x11 [0, 0, s.rd (ITK_BND_SEQ_EXP_SEQ b)] (packetBytes 0x11 0 0 (s.rd (ITK_BND_SEQ_EXP_SEQ b)) []))
      ∧ s.Keeps t (own [ITK_BND_STATUS_NAK_COUNT b, ITK_BND_ERR2_NAKS_TX b]) id)
    ∧ (n = 0 ∨ 4 ≤ n → exec (.nakResend b) s = .next s) ∧ (n ≠ 4 → exec (.nakRestart b) s = .next s)
    ∧ (n = 4 → s.noneOpen b → ∃ t, exec (.nakRestart b) s = .next t ∧ t.rd (ITK_BND_STATUS_NAK_COUNT b) = 0
      ∧ t.rd (ITK_BND_ERR2_NAKS_TX b) = min (s.rd (ITK_BND_ERR2_NAKS_TX b) + 1) 0xFFFF
      ∧ .packet (64 + b) 0x11 [0, 1, s.rd (ITK_BND_SEQ_EXP_SEQ b)] (packetBytes 0x11 0 1 (s.rd (ITK_BND_SEQ_EXP_SEQ b)) []) ∈ t.out
      ∧ t.u.itk.bnd.look b {} = { s.u.itk.bnd.look b {} with discard := true, restart := true }
      ∧ (∀ v ∈ (Run.start s).bndVs b, t.rd (ITK_VS_STATUS_LINK_CAUSE v) = 3 ∧ t.seen (131 + 4 * v) = true)
      ∧ s.Keeps t (fun k => own [ITK_BND_STATUS_NAK_COUNT b, ITK_BND_ERR2_NAKS_TX b] k || (List.range 16).any fun v => own [ITK_VS_STATUS_LINK_CAUSE v] k)
          fun u => { u with itk := { u.itk with bnd := u.itk.bnd.drop b } }))
  ∧ (∀ (s : State) (b : Fin 8), s.rd (ITK_BND_STATUS_STATE b) ≠ 4 → exec (.nakResend b) s = .next s ∧ exec (.nakRestart b) s = .next s)
  ∧ (∀ (s : State) (b : Fin 8) (v : Fin 16) (c : Nat) (f : IFrame), s.rd (ITK_BND_STATUS_STATE b) = 4 → s.rd (ITK_BND_STATUS_NAK_COUNT b) = 4 →
    (Run.start s).bndVs b = [v.val] → s.binds b v c → s.plain c → s.openIs v c f → f.exts = [] →
    ∃ t, exec (.nakRestart b) s = .next t ∧ s.LosesFrame t v 6 f ∧ t.rd (ITK_VS_STATUS_LINK_CAUSE v) = 3 ∧ t.seen (131 + 4 * v) = true
      ∧ s.Keeps t (fun k => nakKeys b k || lossKeys v k || own [ITK_VS_STATUS_LINK_CAUSE v] k) (Units.noFrames b))
  ∧ (∀ (s : State) (b : Fin 8) (skew : Nat), s.rd (ITK_BND_STATUS_STATE b) = 2 → (s.u.itk.bnd.look b {}).synced = true → skew ≤ 512 →
    ∃ t, exec (.deskewDone b skew) s = .next t ∧ t.rd (ITK_BND_STATUS_STATE b) = 3 ∧ t.rd (ITK_BND_SKEW_SKEW b) = skew
      ∧ (∀ v ∈ (Run.start s).bndVs b, t.rd (ITK_VS_STATUS_BND_STATE v) = 3
        ∧ t.u.itk.vs.look v {} = { s.u.itk.vs.look v {} with seen := false, first := true, armed := true })
      ∧ s.Keeps t (fun k => own [ITK_BND_STATUS_STATE b, ITK_BND_SKEW_SKEW b] k || (List.range 16).any fun v => own [ITK_VS_STATUS_BND_STATE v] k)
          fun u => { u with itk := { u.itk with vs := [] } })
  ∧ (∀ (s : State) (b : Fin 8) (skew : Nat), s.rd (ITK_BND_STATUS_STATE b) = 2 → s.noneOpen b →
    ((s.u.itk.bnd.look b {}).synced = true → 512 < skew →
      ∃ t, exec (.deskewDone b skew) s = .next t ∧ s.BndFails t b 2 ∧ s.Keeps t (failKeys b) (Units.noBnd b))
    ∧ ((s.u.itk.bnd.look b {}).synced = false → 3 ≤ (s.u.itk.bnd.look b {}).resends →
      ∃ t, exec (.mapResend b) s = .next t ∧ s.BndFails t b 3 ∧ s.Keeps t (failKeys b) (Units.noBnd b)))
  ∧ (∀ (s : State) (b : Fin 8) (x : BndU), x = s.u.itk.bnd.look b {} → s.rd (ITK_BND_STATUS_STATE b) = 2 → x.synced = false → x.resends < 3 →
    s.rd (ITK_BND_RSEQ_NEXT_RSEQ b) < 2 ^ 24 →
    ∃ t, exec (.mapResend b) s = .next t ∧ t.MapSent b 0 2 ∧ (t.u.itk.bnd.look b {}).resends = x.resends + 1
      ∧ (t.u.itk.bnd.look b {}).kept.length = (x.kept.filter fun k => k.1 != 0).length + 1
      ∧ t.rd (ITK_BND_RSEQ_NEXT_RSEQ b) = max 1 (s.rd (ITK_BND_RSEQ_NEXT_RSEQ b))
      ∧ s.Keeps t (own [ITK_BND_RSEQ_NEXT_RSEQ b]) fun u => { u with itk := { u.itk with bnd := u.itk.bnd.drop b } })
  ∧ (∀ (s : State) (b : Fin 8) (skew : Nat) (x : BndU), x = s.u.itk.bnd.look b {} →
    (s.rd (ITK_BND_STATUS_STATE b) ≠ 2 ∨ x.synced = false → exec (.deskewDone b skew) s = .next s)
    ∧ (s.rd (ITK_BND_STATUS_STATE b) ≠ 2 ∨ x.synced = true → exec (.mapResend b) s = .next s)
    ∧ ((Run.start s).bndRuns b = false ∨ x.wait = [] → exec (.relockWaitTimeout b) s = .next s))
  ∧ (∀ (s : State) (b : Fin 8) (n time : Nat) (l : List (Nat × Nat)), (Run.start s).bndRuns b = true → (s.u.itk.bnd.look b {}).wait = (n, time) :: l →
    s.noneOpen b →
    ∃ t, exec (.relockWaitTimeout b) s = .next t ∧ s.BndFails t b 4 ∧ s.logged t 1 n 2 1 4 = true
      ∧ s.Keeps t (fun k => failKeys b k || retireKey k) fun u => { u.noBnd b with evt := { u.evt with log := [] } })
  ∧ (∀ (s : State) (b : Fin 8) (v : Fin 16) (c : Nat) (f : IFrame), (Run.start s).bndRuns b = true → (s.u.itk.bnd.look b {}).wait ≠ [] →
    (Run.start s).bndVs b = [v.val] → s.binds b v c → s.plain c → s.openIs v c f → f.exts = [] →
    ∃ t, exec (.relockWaitTimeout b) s = .next t ∧ s.LosesFrame t v 7 f ∧ t.rd (ITK_BND_STATUS_STATE b) = 5
      ∧ t.rd (ITK_BND_STATUS_FAIL_CAUSE b) = 4 ∧ t.rd (ITK_VS_STATUS_LINK_CAUSE v) = 2 ∧ t.seen (131 + 4 * v) = true
      ∧ s.Keeps t (fun k => failKeys b k || lossKeys v k || retireKey k) fun u => { u.noFrames b with evt := { u.evt with log := [] } })
  ∧ (∀ (s : State) (b : Fin 8) (n : Fin 24) (k : Nat) (x : BndU), (Run.start s).bundleOf n = some b.val → x = s.u.itk.bnd.look b {} →
    s.rd (ITK_BND_STATUS_STATE b) = 3 → s.rd (ITK_BND_STATUS_NAK_COUNT b) = 0 → x.map = [n.val] → x.wait = [] →
    s.rd (LNK_STATUS_STATE n) = 4 → (Run.start s).freeSpare b x.map = some k →
    n.val ∈ bundleLanes ((Run.start s).cfg 0x0401 b) → k ∈ bundleLanes ((Run.start s).cfg 0x0401 b) → k ≠ n.val → k < 48 → x.gen < 256 →
    s.rd EVT_COFFERDAM_LANES < 2 ^ 48 →
    ∃ t, exec (.lossOfLock ⟨n.val, by omega⟩) s = .next t ∧ t.rd (LNK_STATUS_STATE n) = 7 ∧ bit (t.rd EVT_COFFERDAM_LANES) n = true ∧ s.logged t 1 n 2 1 2 = true
      ∧ (t.u.itk.bnd.look b {}).map = [k] ∧ t.rd (ITK_BND_STATUS_MAP_GEN b) = x.gen ∧ (t.laneOf k).pos = 0 ∧ (t.laneOf n).pos = 15
      ∧ t.rd (ITK_BND_STATUS_SUBST_COUNT b) = min (s.rd (ITK_BND_STATUS_SUBST_COUNT b) + 1) 0xFF
      ∧ t.rd (ITK_BND_STATUS_STATE b) = 4 ∧ t.rd (ITK_BND_STATUS_NAK_COUNT b) = 1 ∧ (t.u.itk.bnd.look b {}).discard = true
      ∧ .packet (64 + b) 0x11 [0, 0, s.rd (ITK_BND_SEQ_EXP_SEQ b)] (packetBytes 0x11 0 0 (s.rd (ITK_BND_SEQ_EXP_SEQ b)) []) ∈ t.out
      ∧ t.MapSent b (s.rd (ITK_BND_RSEQ_NEXT_RSEQ b)) 0
      ∧ (∀ v ∈ (Run.start s).bndVs b, t.rd (ITK_VS_STATUS_LINK_CAUSE v) = 1 ∧ t.seen (131 + 4 * v) = true)
      ∧ s.Keeps t (fun j => laneKeys n j || retireKey j || nakKeys b j || own [ITK_BND_STATUS_SUBST_COUNT b, ITK_BND_STATUS_SPARES_LEFT b,
          ITK_BND_STATUS_MAP_GEN b, ITK_BND_RSEQ_NEXT_RSEQ b] j || (List.range 16).any fun v => own [ITK_VS_STATUS_LINK_CAUSE v] j)
          fun u => { u.noBnd b with lane := [], evt := { u.evt with log := [], service := [] } })
  ∧ (∀ (s : State) (b : Fin 8) (n : Fin 24) (x : BndU), (Run.start s).bundleOf n = some b.val → x = s.u.itk.bnd.look b {} →
    s.rd (ITK_BND_STATUS_STATE b) = 3 → x.map = [n.val] → x.wait = [] → s.rd (LNK_STATUS_STATE n) = 4 → (Run.start s).freeSpare b x.map = none →
    ∃ t, exec (.lossOfLock ⟨n.val, by omega⟩) s = .next t ∧ t.rd (LNK_STATUS_STATE n) = 2 ∧ t.rd (ITK_BND_STATUS_STATE b) = 4
      ∧ t.u.itk.bnd.look b {} = { x with wait := [(n.val, (Run.start s).tselQ)] } ∧ t.seen (32 + 2 * n.val) = true
      ∧ s.Keeps t (fun j => laneKeys n j || nakKeys b j || own [ITK_BND_STATUS_SPARES_LEFT b] j) fun u => { u.noBnd b with lane := [] })
  ∧ (∀ (s : State) (b : Fin 8), s.rd (ITK_BND_STATUS_STATE b) = 5 → ((Run.start s).bndSpares b).all (fun n => !(Run.start s).linked n) = true →
    ((Run.start s).bndOwn b).all (fun n => (Run.start s).linked n) = false →
    ∃ t, exec (.restart b) s = .next t ∧ t.rd (ITK_BND_STATUS_STATE b) = 1 ∧ t.rd (ITK_BND_STATUS_FAIL_CAUSE b) = 0
      ∧ t.rd (ITK_BND_STATUS_SPARES_LEFT b) = 0 ∧ (∀ v ∈ (Run.start s).bndVs b, t.rd (ITK_VS_STATUS_BND_STATE v) = 1)
      ∧ s.Keeps t (fun k => failKeys b k || own [ITK_BND_STATUS_SPARES_LEFT b] k) id)
  ∧ (∀ (s : State) (b : Fin 8) (lanes : List Nat), s.rd (ITK_BND_STATUS_STATE b) = 5 → lanes = (Run.start s).bndOwn b → lanes.all (fun n => (Run.start s).linked n) = true →
    (s.u.itk.bnd.look b {}).gen < 256 →
    ∃ t, exec (.restart b) s = .next t ∧ t.rd (ITK_BND_STATUS_STATE b) = 2 ∧ t.rd (ITK_BND_STATUS_FAIL_CAUSE b) = 0
      ∧ t.rd (ITK_BND_SEQ_EXP_SEQ b) = 0 ∧ t.rd (ITK_BND_RSEQ_NEXT_RSEQ b) = 1 ∧ t.MapSent b 0 2 ∧ (t.u.itk.bnd.look b {}).map = lanes
      ∧ t.rd (ITK_BND_STATUS_MAP_GEN b) = (s.u.itk.bnd.look b {}).gen ∧ (∀ v ∈ (Run.start s).bndVs b, t.rd (ITK_VS_STATUS_BND_STATE v) = 2)
      ∧ s.Keeps t (fun k => failKeys b k || own [ITK_BND_STATUS_SPARES_LEFT b, ITK_BND_SEQ_EXP_SEQ b, ITK_BND_RSEQ_NEXT_RSEQ b, ITK_BND_STATUS_MAP_GEN b] k)
          fun u => { u with lane := [], itk := { u.itk with bnd := u.itk.bnd.drop b } })
  ∧ (∀ (s : State) (b : Fin 8), s.rd (ITK_BND_STATUS_STATE b) ≠ 5 → ∃ t, exec (.restart b) s = .next t ∧ s.Ignores t)
  ∧ (∀ (s : State) (v : Fin 16) (x : VsU), x = s.u.itk.vs.look v {} → x.armed = true → (Run.start s).openFrame v = none →
    ∃ t, exec (.fsTimeout v) s = .next t ∧ t.rd (ITK_VS_STATUS_STALLED v) = 1 ∧ t.seen (128 + 4 * v) = true
      ∧ t.u.itk.vs.look v {} = { x with armed := false } ∧ s.Keeps t (own [ITK_VS_STATUS_STALLED v]) fun u => { u with itk := { u.itk with vs := [] } })
  ∧ (∀ (s : State) (v : Fin 16) (c : Nat) (f : IFrame), (s.u.itk.vs.look v {}).armed = true → s.plain c → s.openIs v c f → f.exts = [] →
    ∃ t, exec (.fsTimeout v) s = .next t ∧ s.LosesFrame t v 1 f ∧ t.rd (ITK_VS_STATUS_STALLED v) = 1 ∧ t.seen (128 + 4 * v) = true
      ∧ s.Keeps t (fun k => lossKeys v k || own [ITK_VS_STATUS_STALLED v] k)
          fun u => { u with itk := { u.itk with vs := [] }, frames := [], pix := { u.pix with ce := [] } })
  ∧ (∀ (s : State) (v : Fin 16), (s.u.itk.vs.look v {}).armed = false → exec (.fsTimeout v) s = .next s)
  ∧ (∀ (s : State) (v : Fin 16) (len tag : Nat) (x : VsU), x = s.u.itk.vs.look v {} → len = s.rd (ITK_VS_SET_CTL_LEN v) → tag = s.rd (ITK_VS_SET_TAG_TAG v) →
    len = 0 ∨ 256 < len ∨ 8 ≤ x.queue.length + x.pend.length ∨ (Run.start s).hasCfg 0x0402 v = false ∨ tag = s.rd (ITK_VS_LAST_TAG_TAG v)
      ∨ tag ∈ (x.queue ++ x.pend).map SetReq.tag → ∃ t, exec (.go v) s = .next t ∧ s.Ignores t)
  ∧ (∀ (s : State) (b : Fin 8) (v : Fin 16) (len tag l seq : Nat) (x : VsU) (q : SetReq), x = s.u.itk.vs.look v {} → len = s.rd (ITK_VS_SET_CTL_LEN v) →
    tag = s.rd (ITK_VS_SET_TAG_TAG v) → 1 ≤ len → len ≤ 256 → x.queue.length + x.pend.length < 8 → (Run.start s).hasCfg 0x0402 v = true →
    (Run.start s).vsN v 8 1 = b → l = (Run.start s).vsN v 0xA 1 → tag ≠ s.rd (ITK_VS_LAST_TAG_TAG v) → tag ∉ (x.queue ++ x.pend).map SetReq.tag →
    (Run.start s).bndRuns b = true → seq = s.rd (ITK_BND_RSEQ_NEXT_RSEQ b) →
    q = { fn := s.rd (ITK_VS_SET_FN v), tag := tag, data := (List.range len).map fun k => s.rd (ITK_VS_SET_DATA v k), d := s.rd (ITK_VS_LAST_FN v) } →
    (x.seen = false ∨ laterThan 32 (subMod 32 q.fn l) q.d = false →
      ∃ t, exec (.go v) s = .next t ∧ t.u.itk.vs.look v {} = { x with pend := x.pend ++ [q] } ∧ t.rd (ITK_VS_SET_CTL_PENDING v) = x.pend.length + 1
        ∧ s.sends t (.packet (64 + b) 0x12 [v, 0, seq] (packetBytes 0x12 v 0 seq q.body)) ∧ t.rd (ITK_BND_RSEQ_NEXT_RSEQ b) = (seq + 1) % 2 ^ 24
        ∧ (t.u.itk.bnd.look b {}).kept = (s.u.itk.bnd.look b {}).kept ++ [(seq, ⟨0x12, v, 0, q.body⟩)]
        ∧ s.Keeps t (own [ITK_VS_SET_CTL_PENDING v, ITK_VS_SET_CTL_QUEUED v, ITK_BND_RSEQ_NEXT_RSEQ b]) (Units.noBnd b))
    ∧ (x.seen = true → laterThan 32 (subMod 32 q.fn l) q.d = true →
      ∃ t, exec (.go v) s = .next t ∧ t.u.itk.vs.look v {} = { x with queue := x.queue ++ [{ q with d := 0 }] } ∧ t.out = s.out
        ∧ t.rd (ITK_VS_SET_CTL_QUEUED v) = x.queue.length + 1
        ∧ s.Keeps t (own [ITK_VS_SET_CTL_PENDING v, ITK_VS_SET_CTL_QUEUED v]) fun u => { u with itk := { u.itk with vs := [] } }))
  ∧ (∀ (s : State) (b : Fin 8) (v : Fin 16) (seq q : Nat) (body : List Byte), (Run.start s).cfgN 0x0401 b 0xA 2 ≠ 0 → (Run.start s).bndRuns b = true →
    (Run.start s).bndVs b = [v.val] → s.rd (TIM_VS_NEXT_CTL_EN v) = 0 → seq = s.rd (ITK_BND_RSEQ_NEXT_RSEQ b) →
    q = (Run.start s).pinTx ((s.u.itk.bnd.look b {}).map.getD 0 0) s.tsel →
    body = timeBytes (timeSec q) (timeNs q) (timeFrac q) ++ List.replicate 16 0#8 →
    ∃ t, exec (.syncSend b) s = .next t ∧ s.sends t (.packet (64 + b) 0x13 [v, 0, seq] (packetBytes 0x13 v 0 seq body))
      ∧ t.rd (ITK_BND_RSEQ_NEXT_RSEQ b) = (seq + 1) % 2 ^ 24 ∧ (t.u.itk.bnd.look b {}).kept = (s.u.itk.bnd.look b {}).kept ++ [(seq, ⟨0x13, v, 0, body⟩)]
      ∧ s.Keeps t (own [ITK_BND_RSEQ_NEXT_RSEQ b]) fun u => { u with itk := { u.itk with bnd := u.itk.bnd.drop b } })
  ∧ (∀ (s : State) (b : Fin 8) (v : Fin 16) (seq q n : Nat) (body : List Byte), (Run.start s).cfgN 0x0401 b 0xA 2 ≠ 0 → (Run.start s).bndRuns b = true →
    (Run.start s).bndVs b = [v.val] → s.rd (TIM_VS_NEXT_CTL_EN v) = 1 → seq = s.rd (ITK_BND_RSEQ_NEXT_RSEQ b) →
    q = (Run.start s).pinTx ((s.u.itk.bnd.look b {}).map.getD 0 0) s.tsel → n = (Run.start s).nextExposure v q → q ≤ n →
    body = timeBytes (timeSec q) (timeNs q) (timeFrac q) ++ timeBytes (timeSec n) (timeNs n) (timeFrac n) →
    ∃ t, exec (.syncSend b) s = .next t ∧ s.sends t (.packet (64 + b) 0x13 [v, 1, seq] (packetBytes 0x13 v 1 seq body))
      ∧ t.rd (ITK_BND_RSEQ_NEXT_RSEQ b) = (seq + 1) % 2 ^ 24 ∧ s.Keeps t (own [ITK_BND_RSEQ_NEXT_RSEQ b]) fun u => { u with itk := { u.itk with bnd := u.itk.bnd.drop b } })
  ∧ ∀ (s : State) (b : Fin 8), (Run.start s).cfgN 0x0401 b 0xA 2 = 0 ∨ (Run.start s).bndRuns b = false → exec (.syncSend b) s = .next s

/-- TURN_END completes a band: the engine is idle, its cycles are counted, and with the last band the frame is done: DONE_FN, a statistics record due when enabled, and each of its outlets publishes the image in the buffer it chose. STATS_RECORD_WRITE stores the oldest record of a context in its slot with the next SEQ, or sets STATS_ERR where PIX may not write. An engine fault loses started frames with cause 5 and moves unstarted ones; the first two within 10 s reset the engine, the third retires it as a cofferdam. PAK resets or is retired the same way. PIX_TBL_GO refuses a bad table (ERR 1) and one in use (ERR 6), is ignored while BUSY, and otherwise starts a load; TABLE_LOAD_DONE makes the table VALID, or EMPTY with ERR 3, 2, 4 or 5 in that order of checks. A command the state rules out changes nothing (log entry 3). -/
def Obligations.ColourEngines : Prop :=
  (∀ (s : State) (ce : Fin 2) (f : PFrame) (d cols cost : Nat), s.turnOf ce f d cols cost → d + 1 < f.bands →
    f.rows < min ((d + 1) * f.band + f.band + 4) f.h →
    ∃ t, exec (.turnEnd ce) s = .next t ∧ s.TurnEnds t ce f.ctx cost ∧ t.u.pix.frames = [{ f with stripes := [⟨ce, 0, cols, d + 1, true⟩] }]
      ∧ s.Keeps t (fun k => pixKeys f.ctx k || own [PIX_CE_BUSY_CYCLES ce] k) Units.noPix)
  ∧ (∀ (s : State) (ce : Fin 2) (f : PFrame) (d cols cost : Nat), s.turnOf ce f d cols cost → f.bands ≤ d + 1 → f.bufs = [] →
    ∃ t, exec (.turnEnd ce) s = .next t ∧ s.TurnEnds t ce f.ctx cost ∧ t.u.pix.frames = [] ∧ t.rd (PIX_CTX_DONE_FN f.ctx) = f.fn % 2 ^ 32
      ∧ t.rd (PIX_CTX_STATUS_ADMITTED f.ctx) = 0 ∧ t.rd (PIX_CTX_STATUS_RUNNING f.ctx) = 0
      ∧ t.u.pix.stats.length = s.u.pix.stats.length + (if f.par (PIX_CTX_STATS_CTL_EN f.ctx) = 1 then 1 else 0)
      ∧ s.Keeps t (fun k => pixKeys f.ctx k || own [PIX_CE_BUSY_CYCLES ce, PIX_CTX_DONE_FN f.ctx] k) Units.noPix)
  ∧ (∀ (s : State) (ce : Fin 2) (f : PFrame) (d cols cost q o n a len : Nat), s.turnOf ce f d cols cost → f.bands ≤ d + 1 → f.bufs = [(o, some n)] → o < 24 →
    (Run.start s).olKind o = 1 → 8 ≤ (Run.start s).olN o 0xA 1 → n < 16 → s.onlyPolder q 4 → a = (Run.start s).olBuffer o n → 1 ≤ len →
    len = olFrameBytes ((Run.start s).olN o 0xC 2) ((Run.start s).olN o 0xE 2) (bit ((Run.start s).olN o 0x10 1) 0) →
    s.rd (MEM_POLDER_BASE q) ≤ a → a + len ≤ s.rd (MEM_POLDER_BASE q) + s.rd (MEM_POLDER_SIZE q) →
    ∃ t, exec (.turnEnd ce) s = .next t ∧ s.TurnEnds t ce f.ctx cost ∧ t.u.pix.frames = []
      ∧ (Run.start t).bytes a len = (Run.start s).olImage ((Run.start s).envOf f) s.u.pix.tables o
      ∧ t.rd (OUT_STATUS_PUBLISHED o) = 1 ∧ t.rd (OUT_STATUS_BUSY o) = 0 ∧ t.rd (OUT_PUB_FN o) = f.info.fn % 2 ^ 28 ∧ t.rd (OUT_PUB_IDX o) = n
      ∧ (t.u.out.look o {}).order = (s.u.out.look o {}).order ++ [n] ∧ (t.u.out.look o {}).pubs = (s.u.out.look o {}).pubs + 1
      ∧ s.KeepsBut t (fun k => pixKeys f.ctx k || own [PIX_CE_BUSY_CYCLES ce, PIX_CTX_DONE_FN f.ctx, OUT_STATUS_PUBLISHED o, OUT_STATUS_BUSY o,
          OUT_PUB_FN o, OUT_PUB_IDX o] k) (fun p => a ≤ p && p < a + len) fun u => { u with pix := {}, out := u.out.drop o })
  ∧ (∀ (s : State) (ce : Fin 2), ((Run.start s).ce ce).turn = none → exec (.turnEnd ce) s = .next s)
  ∧ (∀ (s : State) (c : Fin 16) (q a old seq : Nat) (d : StatsDue) (l : List StatsDue), s.u.pix.stats = d :: l → d.ctx = c → d.head.length = 64 →
    1 ≤ d.body.length → 64 + d.body.length ≤ 164928 → old = s.rd (PIX_CTX_STATS_SEQ_SEQ c) → old < 2 ^ 32 → seq = (if old = 0xFFFFFFFF then 1 else old + 1) →
    a = d.base + (seq - 1) % d.slots * 0x29000 → s.onlyPolder q 3 → s.rd (MEM_POLDER_BASE q) ≤ a →
    a + 164928 ≤ s.rd (MEM_POLDER_BASE q) + s.rd (MEM_POLDER_SIZE q) →
    ∃ t, exec (.statsRecordWrite c) s = .next t ∧ (Run.start t).bytes a 60 = d.head.take 60 ∧ (Run.start t).bytes (a + 60) 4 = le 4 seq
      ∧ (Run.start t).bytes (a + 64) d.body.length = d.body ∧ t.rd (PIX_CTX_STATS_SEQ_SEQ c) = seq ∧ t.u.pix.stats = l
      ∧ s.KeepsBut t (own [PIX_CTX_STATS_SEQ_SEQ c]) (fun p => a ≤ p && p < a + 64 + d.body.length) fun u => { u with pix := { u.pix with stats := [] } })
  ∧ (∀ (s : State) (c : Fin 16) (seq : Nat) (d : StatsDue) (l : List StatsDue), s.u.pix.stats = d :: l → d.ctx = c →
    seq = s.rd (PIX_CTX_STATS_SEQ_SEQ c) + 1 → seq < 2 ^ 32 → (∀ p < 32, (Run.start s).mayWrite p 3 = false) → (Run.start s).mayWrite 32 3 = false →
    ∃ t, exec (.statsRecordWrite c) s = .next t ∧ t.rd (PIX_CTX_STATS_CTL_STATS_ERR c) = 1 ∧ t.rd (PIX_CTX_STATS_SEQ_SEQ c) = seq ∧ t.u.pix.stats = l
      ∧ s.Keeps t (own [PIX_CTX_STATS_SEQ_SEQ c, PIX_CTX_STATS_CTL_STATS_ERR c]) fun u => { u with pix := { u.pix with stats := [] } })
  ∧ (∀ (s : State) (c : Fin 16), (∀ d ∈ s.u.pix.stats, d.ctx ≠ c) → exec (.statsRecordWrite c) s = .next s)
  ∧ (∀ (s : State) (ce : Fin 2) (spent : Nat), (Run.start s).ceUsable ce = false → exec (.engineFault ce spent) s = .next s)
  ∧ (∀ (s : State) (ce : Fin 2) (spent : Nat) (f : PFrame) (d cols cost : Nat), (Run.start s).ceUsable ce = true → s.rd (PIX_CE_STATUS_RETIRED (1 - ce.val)) = 0 →
    s.recentFaults 6 ce < 2 → s.turnOf ce f d cols cost → f.bufs = [] → (∀ c < 16, c ≠ f.ctx → s.rd (PIX_CTX_CFG_INTERPRET c) = 0) →
    ∃ t, exec (.engineFault ce spent) s = .next t ∧ s.FaultsOnce t 6 ce ∧ ((Run.start t).ce ce).turn = none ∧ t.u.pix.frames = []
      ∧ t.rd (PIX_CE_BUSY_CYCLES ce) = (s.rd (PIX_CE_BUSY_CYCLES ce) + min spent cost) % 2 ^ 64
      ∧ t.rd (PIX_CTX_STATUS_SHED_CAUSE f.ctx) = 5 ∧ t.rd (PIX_CTX_SHED_FN f.ctx) = f.fn % 2 ^ 32
      ∧ t.rd (PIX_CTX_SHED_SHED f.ctx) = min (s.rd (PIX_CTX_SHED_SHED f.ctx) + 1) 0xFFFF ∧ t.seen (192 + 2 * f.ctx) = true
      ∧ s.Keeps t (fun k => pixKeys f.ctx k || retireKey k || own [PIX_CE_BUSY_CYCLES ce, PIX_CTX_STATUS_SHED_CAUSE f.ctx, PIX_CTX_SHED_FN f.ctx,
          PIX_CTX_SHED_SHED f.ctx] k) Units.noFault)
  ∧ (∀ (s : State) (ce : Fin 2) (spent : Nat), (Run.start s).ceUsable ce = true → s.rd (PIX_CE_STATUS_RETIRED (1 - ce.val)) = 0 → 2 ≤ s.recentFaults 6 ce →
    s.u.pix.frames = [] → ((Run.start s).ce ce).turn = none → (∀ c < 16, s.rd (PIX_CTX_CFG_INTERPRET c) = 0) →
    ∃ t, exec (.engineFault ce spent) s = .next t ∧ s.FaultsForGood t 6 ce ∧ t.rd (PIX_CE_STATUS_RETIRED ce) = 1 ∧ t.u.pix.frames = []
      ∧ s.Keeps t (fun k => retireKey k || own [PIX_CE_STATUS_RETIRED ce] k) Units.noFault)
  ∧ (∀ (s : State) (ce : Fin 2) (spent : Nat) (f : PFrame) (cols : Nat), (Run.start s).ceUsable ce = true → (Run.start s).ceUsable (1 - ce.val) = true →
    s.recentFaults 6 ce < 2 → s.u.pix.frames = [f] → f.stripes = [⟨ce, 0, cols, 0, false⟩] → f.frameMode = false → f.ctx < 16 → f.rows = 0 → 1 ≤ f.h → 1 ≤ f.band →
    ((Run.start s).ce ce).turn = none → (∀ c < 16, c ≠ f.ctx → s.rd (PIX_CTX_CFG_INTERPRET c) = 0) →
    ∃ t, exec (.engineFault ce spent) s = .next t ∧ s.FaultsOnce t 6 ce
      ∧ t.u.pix.frames = [{ f with paired := false, stripes := [⟨1 - ce.val, 0, cols, 0, false⟩] }]
      ∧ s.Keeps t (fun k => pixKeys f.ctx k || retireKey k) Units.noFault)
  ∧ (∀ (s : State), s.rd PAK_STATUS_RETIRED = 0 → s.u.frames = [] → s.u.magu.segs = [] →
    ∃ t, exec (.internalFault .pak) s = .next t ∧ (if s.recentFaults 7 0 < 2 then s.FaultsOnce t 7 0 else s.FaultsForGood t 7 0)
      ∧ t.rd PAK_STATUS_RETIRED = (if s.recentFaults 7 0 < 2 then 0 else 1)
      ∧ s.Keeps t (fun k => retireKey k || own [PAK_STATUS_RETIRED] k) Units.noFault)
  ∧ (∀ (s : State), s.rd PAK_STATUS_RETIRED ≠ 0 → s.u.magu.segs = [] → exec (.internalFault .pak) s = .next s)
  ∧ (∀ (s : State) (ce : Fin 2), 96 + ce.val ∈ s.u.evt.resetting → s.u.pix.frames = [] → (∀ c < 16, s.rd (PIX_CTX_CFG_INTERPRET c) = 0) →
    ∃ t, exec (.internalFaultResetDone (.ce ce)) s = .next t ∧ t.u.evt.resetting = s.u.evt.resetting.filter (· != 96 + ce.val)
      ∧ s.Keeps t (own []) fun u => { u with pix := {}, evt := { u.evt with resetting := [] } })
  ∧ (∀ (s : State) (u : FaultUnit) (k : Nat), k = (faultKey u).1 * 16 + (faultKey u).2 →
    (k ∉ s.u.evt.resetting → exec (.internalFaultResetDone u) s = .next s)
    ∧ (k ∈ s.u.evt.resetting → 112 ≤ k → ∃ t, exec (.internalFaultResetDone u) s = .next t ∧ t.u.evt.resetting = s.u.evt.resetting.filter (· != k)
      ∧ s.Keeps t (own []) fun u => { u with evt := { u.evt with resetting := [] } }))
  ∧ (∀ (s : State) (ty k : Nat), ty = s.rd PIX_TBL_CTL_TYPE → k = s.rd PIX_TBL_CTL_INDEX →
    (s.rd PIX_TBL_CTL_BUSY ≠ 0 → ∃ t, exec .pixTblGo s = .next t ∧ s.Ignores t)
    ∧ (s.rd PIX_TBL_CTL_BUSY = 0 → tableCount ty ≤ k → ∃ t, exec .pixTblGo s = .next t ∧ t.rd PIX_TBL_CTL_ERR = 1 ∧ s.Keeps t (own [PIX_TBL_CTL_ERR]) id)
    ∧ (s.rd PIX_TBL_CTL_BUSY = 0 → k < tableCount ty → (Run.start s).tblInUse ty k = true →
      ∃ t, exec .pixTblGo s = .next t ∧ t.rd PIX_TBL_CTL_ERR = 6 ∧ s.Keeps t (own [PIX_TBL_CTL_ERR]) id)
    ∧ (s.rd PIX_TBL_CTL_BUSY = 0 → k < tableCount ty → ty < 4 → (Run.start s).tblInUse ty k = false → (∀ i < 3, s.rd (PIX_TBL_STATE i) < 2 ^ 32) →
      ∃ t, exec .pixTblGo s = .next t ∧ t.rd PIX_TBL_CTL_BUSY = 1 ∧ (Run.start t).tblState ty k = 1
        ∧ (∀ y < 4, ∀ j < tableCount y, (y, j) ≠ (ty, k) → (Run.start t).tblState y j = (Run.start s).tblState y j)
        ∧ t.u.pix = { s.u.pix with load := some (ty, k, s.rd PIX_TBL_SRC_ADDR / 8 * 8, s.rd PIX_TBL_LEN_LEN, s.rd PIX_TBL_CRC_CRC) }
        ∧ s.Keeps t (own [PIX_TBL_CTL_BUSY, PIX_TBL_STATE 0, PIX_TBL_STATE 1, PIX_TBL_STATE 2]) Units.noPix))
  ∧ (∀ (s : State) (ty k a n crc e : Nat) (img : List Byte), s.u.pix.load = some (ty, k, a, n, crc) → ty < 4 → k < tableCount ty →
    (∀ i < 3, s.rd (PIX_TBL_STATE i) < 2 ^ 32) → s.rd MEM_CFG_RETIRED = 0 → s.u.mem.poison = [] → n < 100 → img = (Run.start s).bytes a n →
    e = (if (Run.start s).allowed 3 false a n = false ∨ (Run.start s).polderOf a n = none then 3
      else if n ≠ (if ty = 1 then 4 + 4 * field img 0 4 else imageLen ty) ∨ (ty = 1 ∧ (n < 4 ∨ 65536 < field img 0 4)) then 2
      else if crc32c img ≠ crc then 4 else if tableBitsOk ty img = false then 5 else 0) →
    ∃ t, exec .tableLoadDone s = .next t ∧ t.rd PIX_TBL_CTL_ERR = e ∧ t.rd PIX_TBL_CTL_BUSY = 0 ∧ (Run.start t).tblState ty k = (if e = 0 then 2 else 0)
      ∧ (∀ y < 4, ∀ j < tableCount y, (y, j) ≠ (ty, k) → (Run.start t).tblState y j = (Run.start s).tblState y j)
      ∧ t.u.pix = { s.u.pix with load := none, tables := if e = 0 then s.u.pix.tables.put (ty * 16 + k) img else s.u.pix.tables }
      ∧ s.Keeps t (own [PIX_TBL_CTL_ERR, PIX_TBL_CTL_BUSY, PIX_TBL_STATE 0, PIX_TBL_STATE 1, PIX_TBL_STATE 2]) Units.noPix)
  ∧ ∀ (s : State), s.u.pix.load = none → exec .tableLoadDone s = .next s

/-- A write of GLB_TIDE_COMMIT takes, for each selected unit's group, a snapshot of every shadow value of the unit at the write's cycle, with a value that the commit must replace replaced, and shows it in PENDING; a mask that selects no unit changes nothing. No active value changes at the write. At cycle w + 65 a group that has no boundary running applies its newest snapshot due: the active values take the snapshot's, APPLIED is set, the unit's TIDE event occurs, PENDING clears, and a context's parameter version changes unless an unfinished frame holds the other one; a group that has one running waits and changes nothing active. -/
def Obligations.TideGate : Prop :=
  (∀ (s : State) (mask u g : Nat), s.Inv → u < 47 → bit mask u = true → g = (Run.start s).tideGroup u →
    ∃ t, exec (.glbTideCommit mask) s = .next t ∧ bit (t.rd GLB_TIDE_PENDING) u = true
      ∧ ((Run.start t).snaps g).head?.any (fun x => x.at_ == s.now && x.units.contains u && !x.judged) = true
      ∧ (∀ f : Fld, inUnit u f.key = true → ((Run.start s).tideFixes u).all (fun e => !e.2.1 (s.rd e.1)) = true →
          (((Run.start t).snaps g).head?.map fun x => x.vals.find f.key) = some (s.regs.find f.key))
      ∧ (∀ f : Fld, inUnit u f.key = true → t.rdA f = s.rdA f))
  ∧ (∀ (s : State) (mask : Nat), (∀ u < 47, 40 ≤ u → u < 44 → bit mask u = false) →
    ∃ t, exec (.glbTideCommit mask) s = .next t
      ∧ (bit mask 44 = true → t.rd (ENC_PIC_FORCE_IRAP 0) = 0) ∧ (bit mask 45 = true → t.rd (ENC_PIC_FORCE_IRAP 1) = 0)
      ∧ s.Keeps t (own [GLB_TIDE_PENDING, ENC_PIC_FORCE_IRAP 0, ENC_PIC_FORCE_IRAP 1]) fun u => { u with tide := {} })
  ∧ (∀ (s : State) (n : Fin 2), s.Inv → s.rd (ENC_QP_MAX n) < s.rd (ENC_QP_MIN n) → s.rd (ENC_QP_MAX n) < 2 ^ (ENC_QP_MIN n).w →
    ∃ t, exec (.glbTideCommit (2 ^ (44 + n.val))) s = .next t
      ∧ (((Run.start t).snaps (44 + n)).head?.map fun x => (x.vals.find (ENC_QP_MIN n).key, x.fixes)) = some (some (s.rd (ENC_QP_MAX n)), [44 + n.val])
      ∧ t.rd (ENC_QP_MIN n) = s.rd (ENC_QP_MIN n) ∧ s.Keeps t (own [GLB_TIDE_PENDING, ENC_PIC_FORCE_IRAP n]) fun u => { u with tide := {} })
  ∧ (∀ (s : State) (mask : Nat), mask % 2 ^ 47 = 0 → exec (.glbTideCommit mask) s = .next s)
  ∧ (∀ (s : State) (n : Fin 2) (u : Nat) (x : Snap), u = 44 + n.val → s.u.tide.snaps = [(u, [x])] → x.units = [u] → x.fixes = [] → x.judged = false →
    x.at_ + 65 ≤ s.now → s.rd (ENC_STATUS_STATE n) = 0 → Tab.rising x.vals = true → x.vals.all (fun e => inUnit u e.1 && decide (e.2 < 2 ^ 64)) = true →
    s.rd GLB_TIDE_APPLIED < 2 ^ 64 →
    ∃ t, exec .tideIdleApply s = .next t ∧ (∀ f : Fld, inUnit u f.key = true → t.rd f = s.rd f ∧ t.rdA f = x.vals.look f.key (s.rdA f))
      ∧ t.rd GLB_TIDE_APPLIED = s.rd GLB_TIDE_APPLIED ||| 2 ^ u ∧ t.rd GLB_TIDE_PENDING = 0 ∧ t.seen (288 + 8 * n.val) = true
      ∧ (Run.start t).snaps u = []
      ∧ s.Keeps t (fun k => inUnit u k || own [GLB_TIDE_APPLIED, GLB_TIDE_PENDING] k) fun u => { u with tide := {} })
  ∧ (∀ (s : State) (c : Fin 16) (x : Snap), s.u.tide.snaps = [(c.val, [x])] → x.units = [c.val] → x.fixes = [] → x.judged = false → x.at_ + 65 ≤ s.now →
    s.rd (PIX_CTX_CFG_INTERPRET c) = 0 → Tab.rising x.vals = true → x.vals.all (fun e => inUnit c e.1 && decide (e.2 < 2 ^ 64)) = true →
    s.rd (PIX_CTX_STATUS_VERSION c) < 2 → s.rd GLB_TIDE_APPLIED < 2 ^ 64 →
    ∃ t, exec .tideIdleApply s = .next t ∧ (∀ f : Fld, inUnit c f.key = true → t.rdA f = x.vals.look f.key (s.rdA f))
      ∧ t.rd GLB_TIDE_APPLIED = s.rd GLB_TIDE_APPLIED ||| 2 ^ c.val ∧ t.rd GLB_TIDE_PENDING = 0 ∧ t.seen (193 + 2 * c.val) = true
      ∧ t.rd (PIX_CTX_STATUS_VERSION c) = (if (Run.start s).verHeld c (1 - s.rd (PIX_CTX_STATUS_VERSION c)) then s.rd (PIX_CTX_STATUS_VERSION c)
          else 1 - s.rd (PIX_CTX_STATUS_VERSION c))
      ∧ s.Keeps t (fun k => inUnit c k || own [GLB_TIDE_APPLIED, GLB_TIDE_PENDING] k) fun u => { u with tide := {} })
  ∧ (∀ (s : State) (n : Fin 2) (u : Nat) (x : Snap), u = 44 + n.val → s.u.tide.snaps = [(u, [x])] → x.units = [u] → x.judged = false → x.at_ + 65 ≤ s.now →
    s.rd (ENC_STATUS_STATE n) ≠ 0 →
    ∃ t, exec .tideIdleApply s = .next t ∧ (Run.start t).snaps u = [{ x with judged := true }]
      ∧ s.Keeps t (own [GLB_TIDE_PENDING]) fun u => { u with tide := {} })
  ∧ ∀ (s : State), (∀ e ∈ s.u.tide.snaps, ((Run.start s).snaps e.1).all (fun x => decide (s.now < x.at_ + 65) || x.judged) = true) →
    exec .tideIdleApply s = .next s

/-- FEED_BOUNDARY sends the newest composition with the next frame count, counting skipped ones in DROPS, or repeats the last frame with REPEATS and its event; a composition still running counts LATE once; a group that is off sends nothing. RXS shows a received word, or counts a bad one. FEED_COMPOSITION_START on an idle composer starts a composition in an output buffer that is neither newest nor being sent. COMPOSITION_DONE counts it: a feed's image lies in the output buffer, a viewfinder's push is over. A TE edge on an active link starts a composition that is due and sends its regions, counts LATE while one runs, or counts toward self-refresh and enters it. A TE timeout marks TE lost, and INTERNAL_TE then starts compositions. Elsewhere these change nothing (log entry 3). -/
def Obligations.FeedsAndCompositions : Prop :=
  (∀ (s : State) (g : Fin 3), (Run.start s).hasCfg 0x0703 g = false ∨ (Run.start s).fedN g 8 1 = 2 → exec (.feedBoundary g) s = .next s)
  ∧ (∀ (s : State) (g : Fin 3) (n w h q : Nat), (Run.start s).hasCfg 0x0703 g = true → n = 2 + (Run.start s).fedN g 8 1 → n = 2 ∨ n = 3 →
    s.rd (CMP_STATUS_COMPOSING n) = 0 ∨ (s.u.cmp.look n {}).late = true → (Run.start s).fedOn g = true → (s.u.cmp.look n {}).done = 0 →
    (s.u.fed.look g {}).sending = none → (Run.start s).canvas n = (w, h) → 1 ≤ w → w ≤ 4096 → (∀ p < 8, ((s.u.tim.au.look p {}).feed.look g []) = []) →
    (s.u.fed.look g {}).seq < 2 ^ 24 → q = (Run.start s).fedBoundary g →
    ∃ t, exec (.feedBoundary g) s = .next t ∧ s.FeedFrame t g 1 w h ((Run.start s).cmpN n 0xC 1 % 16) q (s.u.fed.look g {}).comp
      ∧ t.rd (FED_STATUS_REPEATING g) = 1 ∧ t.rd (FED_COUNT_REPEATS g) = min (s.rd (FED_COUNT_REPEATS g) + 1) 0xFFFF ∧ t.seen (280 + 2 * g.val) = true
      ∧ s.Keeps t (own [FED_STATUS_REPEATING g, FED_COUNT_REPEATS g, FED_FC_FC g]) fun u => { u with fed := u.fed.drop g, tim := { u.tim with au := [] } })
  ∧ (∀ (s : State) (g : Fin 3) (n w h q b a len k : Nat), (Run.start s).hasCfg 0x0703 g = true → n = 2 + (Run.start s).fedN g 8 1 → n = 2 ∨ n = 3 →
    s.rd (CMP_STATUS_COMPOSING n) = 0 → (Run.start s).fedOn g = true → k = (s.u.cmp.look n {}).done → 1 ≤ k → (s.u.cmp.look n {}).newest = some b →
    (Run.start s).canvas n = (w, h) → 1 ≤ w → w ≤ 4096 → (∀ p < 8, ((s.u.tim.au.look p {}).feed.look g []) = []) → (s.u.fed.look g {}).seq < 2 ^ 24 →
    q = (Run.start s).fedBoundary g → a = (Run.start s).cmpBuffer n b → len = olFrameBytes w h (bit ((Run.start s).cmpN n 0xC 1) 0) →
    (Run.start s).allowed 6 false a len = true → s.rd MEM_CFG_RETIRED = 0 → s.u.mem.poison = [] →
    ∃ t, exec (.feedBoundary g) s = .next t ∧ s.FeedFrame t g 0 w h ((Run.start s).cmpN n 0xC 1 % 16) q (s.rd (CMP_SEQ_SEQ n))
      ∧ t.rd (FED_STATUS_REPEATING g) = 0 ∧ t.rd (FED_COUNT_DROPS g) = min (s.rd (FED_COUNT_DROPS g) + (k - 1)) 0xFFFF
      ∧ (t.u.fed.look g {}).sending = some b ∧ (t.u.fed.look g {}).sent = true ∧ (t.u.cmp.look n {}).done = 0
      ∧ s.Keeps t (own [FED_STATUS_REPEATING g, FED_COUNT_DROPS g, FED_FC_FC g])
          fun u => { u.noCmp n with fed := u.fed.drop g, tim := { u.tim with au := [] } })
  ∧ (∀ (s : State) (g : Fin 3) (n : Nat) (x : CmpU), (Run.start s).hasCfg 0x0703 g = true → n = 2 + (Run.start s).fedN g 8 1 → n = 2 ∨ n = 3 →
    (Run.start s).fedOn g = false → x = s.u.cmp.look n {} →
    ∃ t, exec (.feedBoundary g) s = .next t ∧ (t.u.cmp.look n {}).done = min x.done 1
      ∧ (s.rd (CMP_STATUS_COMPOSING n) ≠ 0 → x.late = false →
        t.rd (CMP_COUNT_LATE n) = min (s.rd (CMP_COUNT_LATE n) + 1) 0xFFFF ∧ t.seen (256 + n) = true ∧ (t.u.cmp.look n {}).late = true)
      ∧ (s.rd (CMP_STATUS_COMPOSING n) = 0 ∨ x.late = true → t.rd (CMP_COUNT_LATE n) = s.rd (CMP_COUNT_LATE n))
      ∧ s.Keeps t (own [CMP_COUNT_LATE n]) (Units.noCmp n))
  ∧ (∀ (s : State) (g : Fin 3) (v : Nat) (good : Bool) (k : Nat) (l : List Nat), (Run.start s).hasCfg 0x0703 g = true →
    groupLanes ((Run.start s).cfg 0x0703 g) = k :: l → k < 48 →
    ∃ t, exec (.rxs g v good) s = .next t ∧ t.rd (FED_RXS g) = (if good = true then v % 2 ^ 32 else s.rd (FED_RXS g))
      ∧ t.rd (LNK_ERR_HDR_ERR k) = (if good = true then s.rd (LNK_ERR_HDR_ERR k) else min (s.rd (LNK_ERR_HDR_ERR k) + 1) 65535)
      ∧ (good = false → t.rd (LNK_STATUS_ERR_SEEN k) = 1 ∧ (s.rd (LNK_STATUS_ERR_SEEN k) = 0 → t.seen (33 + 2 * k) = true))
      ∧ s.Keeps t (own [FED_RXS g, LNK_ERR_HDR_ERR k, LNK_STATUS_ERR_SEEN k]) id)
  ∧ (∀ (s : State) (g : Fin 3) (v : Nat) (good : Bool), (Run.start s).hasCfg 0x0703 g = false → exec (.rxs g v good) s = .next s)
  ∧ (∀ (s : State) (n : Fin 4), (Run.start s).hasCfg 0x0801 n = false ∨ n.val < 2 ∨ s.rdA (CMP_CTL_EN n) = 0 ∨ s.rd (CMP_STATUS_COMPOSING n) ≠ 0 →
    exec (.feedCompositionStart n) s = .next s)
  ∧ (∀ (s : State) (n : Fin 4) (x : CmpU), (Run.start s).hasCfg 0x0801 n = true → 2 ≤ n.val → s.rdA (CMP_CTL_EN n) ≠ 0 → s.rd (CMP_STATUS_COMPOSING n) = 0 →
    s.plainCanvas n → x = s.u.cmp.look n {} →
    ∃ t, exec (.feedCompositionStart n) s = .next t ∧ t.rd (CMP_STATUS_COMPOSING n) = 1 ∧ (t.u.cmp.look n {}).late = false
      ∧ t.rd (CMP_STATUS_OUT_BUF n) < 3 ∧ some (t.rd (CMP_STATUS_OUT_BUF n)) ≠ x.newest
      ∧ (∀ g < 3, (Run.start s).hasCfg 0x0703 g = true → (Run.start s).fedN g 8 1 = n.val - 2 →
          (∀ k < g, (Run.start s).hasCfg 0x0703 k = false ∨ (Run.start s).fedN k 8 1 ≠ n.val - 2) → some (t.rd (CMP_STATUS_OUT_BUF n)) ≠ (s.u.fed.look g {}).sending)
      ∧ s.Keeps t (own [CMP_STATUS_COMPOSING n, CMP_STATUS_OUT_BUF n, GLB_TIDE_DEFERRED]) (Units.noCmp n))
  ∧ (∀ (s : State) (n : Fin 4) (o b : Nat), (Run.start s).hasCfg 0x0801 n = true → 2 ≤ n.val → s.rdA (CMP_CTL_EN n) ≠ 0 → s.rd (CMP_STATUS_COMPOSING n) = 0 →
    (Run.start s).snaps (40 + n) = [] → s.rd GLB_TIDE_DEFERRED < 2 ^ 64 → s.rdA (CMP_L_CTL_EN n 0) ≠ 0 → s.rdA (CMP_L_CTL_EN n 1) = 0 →
    s.rd (CMP_STATUS_HOLD_V0 n) = 0 → s.rd (CMP_STATUS_HOLD_V1 n) = 0 → (Run.start s).videoOutlet n 0 = some o → b = s.rd (OUT_PUB_IDX o) → b < 4 →
    s.rd (OUT_STATUS_PUBLISHED o) ≠ 0 → s.rd (OUT_STATUS_BUSY o) = 0 → s.rd (OUT_STATUS_HELD o) < 16 →
    ∃ t, exec (.feedCompositionStart n) s = .next t ∧ t.rd (CMP_STATUS_COMPOSING n) = 1 ∧ t.rd (CMP_STATUS_HOLD_V0 n) = 1 ∧ t.rd (CMP_STATUS_HELD_V0 n) = b
      ∧ bit (t.rd (OUT_STATUS_HELD o)) b = true
      ∧ s.Keeps t (own [CMP_STATUS_COMPOSING n, CMP_STATUS_OUT_BUF n, CMP_STATUS_HOLD_V0 n, CMP_STATUS_HELD_V0 n, OUT_STATUS_HELD o, GLB_TIDE_DEFERRED]) (Units.noCmp n))
  ∧ (∀ (s : State) (n : Fin 4), s.rd (CMP_STATUS_COMPOSING n) = 0 → exec (.compositionDone n) s = .next s)
  ∧ (∀ (s : State) (n : Fin 2), s.rd (CMP_STATUS_COMPOSING n) ≠ 0 → (s.u.cmp.look n {}).cmdWait = false →
    ∃ t, exec (.compositionDone ⟨n.val, by omega⟩) s = .next t ∧ t.rd (CMP_STATUS_COMPOSING n) = 0 ∧ t.rd (CMP_SEQ_SEQ n) = (s.rd (CMP_SEQ_SEQ n) + 1) % 2 ^ 32
      ∧ t.rd (VFD_PUSHES_COUNT n) = (s.rd (VFD_PUSHES_COUNT n) + 1) % 2 ^ 32 ∧ t.rd (VFD_STATUS_PUSHING n) = 0
      ∧ s.Keeps t (own [CMP_STATUS_COMPOSING n, CMP_SEQ_SEQ n, VFD_PUSHES_COUNT n, VFD_STATUS_PUSHING n]) id)
  ∧ (∀ (s : State) (n : Fin 4) (w h a len q b : Nat), 2 ≤ n.val → s.rd (CMP_STATUS_COMPOSING n) ≠ 0 → s.plainCanvas n → s.layersReadable n →
    (Run.start s).canvas n = (w, h) → b = s.rd (CMP_STATUS_OUT_BUF n) → a = (Run.start s).cmpBuffer n b → len = olFrameBytes w h (bit ((Run.start s).cmpN n 0xC 1) 0) →
    s.onlyPolder q 5 → 1 ≤ len → s.rd (MEM_POLDER_BASE q) ≤ a → a + len ≤ s.rd (MEM_POLDER_BASE q) + s.rd (MEM_POLDER_SIZE q) →
    ∃ t, exec (.compositionDone n) s = .next t ∧ t.rd (CMP_STATUS_COMPOSING n) = 0 ∧ t.rd (CMP_SEQ_SEQ n) = (s.rd (CMP_SEQ_SEQ n) + 1) % 2 ^ 32
      ∧ (Run.start t).bytes a len = (Run.start s).feedImage n ((Run.start s).layers n)
      ∧ t.u.cmp.look n {} = { s.u.cmp.look n {} with newest := some b, done := (s.u.cmp.look n {}).done + 1 }
      ∧ s.KeepsBut t (own [CMP_STATUS_COMPOSING n, CMP_SEQ_SEQ n]) (fun p => a ≤ p && p < a + len) (Units.noCmp n))
  ∧ (∀ (s : State) (n : Fin 2), s.rd (VFD_STATUS_LINK_STATE n) ≠ 2 → exec (.teEdge n) s = .next s ∧ exec (.internalTe n) s = .next s ∧ exec (.teTimeout n) s = .next s)
  ∧ (∀ (s : State) (n : Fin 2), s.rd (VFD_STATUS_LINK_STATE n) = 2 → s.rd (CMP_STATUS_COMPOSING n) ≠ 0 →
    ∃ t, exec (.teEdge n) s = .next t ∧ t.rd (CMP_COUNT_LATE n) = min (s.rd (CMP_COUNT_LATE n) + 1) 0xFFFF ∧ t.seen (256 + n.val) = true
      ∧ t.rd (VFD_STATUS_TE_OK n) = 1 ∧ (t.u.cmp.look n {}).teLost = false ∧ s.Keeps t (own [CMP_COUNT_LATE n, VFD_STATUS_TE_OK n]) (Units.noCmp n))
  ∧ (∀ (s : State) (n : Fin 2) (x : CmpU) (k : Nat), s.rd (VFD_STATUS_LINK_STATE n) = 2 → s.rd (CMP_STATUS_COMPOSING n) = 0 → (Run.start s).vfDue n = false →
    x = s.u.cmp.look n {} → k = s.rd (VFD_CTL_SR_FRAMES n) →
    ∃ t, exec (.teEdge n) s = .next t ∧ t.rd (VFD_STATUS_TE_OK n) = 1
      ∧ (k = 0 ∨ x.idle + 1 < k → t.u.cmp.look n {} = { x with teLost := false, idle := x.idle + 1 } ∧ t.rd (VFD_STATUS_LINK_STATE n) = 2
        ∧ t.rd (VFD_ERR_SR_ENTRIES n) = s.rd (VFD_ERR_SR_ENTRIES n))
      ∧ (k ≠ 0 → k ≤ x.idle + 1 → t.u.cmp.look n {} = { x with teLost := false, idle := 0 } ∧ t.rd (VFD_STATUS_LINK_STATE n) = 3
        ∧ t.rd (VFD_ERR_SR_ENTRIES n) = min (s.rd (VFD_ERR_SR_ENTRIES n) + 1) 0xFF ∧ t.seen (270 + n.val) = true)
      ∧ s.Keeps t (own [VFD_STATUS_TE_OK n, VFD_STATUS_LINK_STATE n, VFD_ERR_SR_ENTRIES n]) (Units.noCmp n))
  ∧ (∀ (s : State) (n : Fin 2), s.rd (VFD_STATUS_LINK_STATE n) = 2 → s.rd (CMP_STATUS_COMPOSING n) = 0 → s.rdA (CMP_CTL_EN n) = 1 →
    (s.u.cmp.look n {}).dirty ≠ [] → s.rd (VFD_STATUS_READBACK_FAIL n) = 0 → s.rd (VFD_STATUS_DSC n) = 0 → s.plainCanvas n → s.layersReadable n →
    ∃ t, exec (.teEdge n) s = .next t ∧ s.Composes t n ∧ t.rd (VFD_STATUS_TE_OK n) = 1
      ∧ s.Keeps t (fun k => composeKeys n k || own [VFD_STATUS_TE_OK n] k) (Units.noCmp n))
  ∧ (∀ (s : State) (n : Fin 2), s.rd (VFD_STATUS_LINK_STATE n) = 2 → s.rd (CMP_STATUS_COMPOSING n) = 0 → s.rdA (CMP_CTL_EN n) = 1 →
    (s.u.cmp.look n {}).dirty ≠ [] → s.rd (VFD_STATUS_READBACK_FAIL n) = 0 → s.rd (VFD_STATUS_DSC n) = 0 → s.plainCanvas n → s.layersReadable n →
    (s.u.cmp.look n {}).teLost = true → ∃ t, exec (.internalTe n) s = .next t ∧ s.Composes t n ∧ s.Keeps t (composeKeys n) (Units.noCmp n))
  ∧ (∀ (s : State) (n : Fin 2), (s.u.cmp.look n {}).teLost = false ∨ s.rd (CMP_STATUS_COMPOSING n) ≠ 0 ∨ (Run.start s).vfDue n = false →
    exec (.internalTe n) s = .next s)
  ∧ (∀ (s : State) (n : Fin 2) (x : CmpU), s.rd (VFD_STATUS_LINK_STATE n) = 2 → x = s.u.cmp.look n {} → x.teLost = false →
    ∃ t, exec (.teTimeout n) s = .next t ∧ t.rd (VFD_STATUS_TE_OK n) = 0 ∧ t.u.cmp.look n {} = { x with teLost := true }
      ∧ t.rd (VFD_ERR_TE_LOST n) = min (s.rd (VFD_ERR_TE_LOST n) + 1) 0xFF ∧ t.seen (268 + n.val) = true
      ∧ s.Keeps t (own [VFD_STATUS_TE_OK n, VFD_ERR_TE_LOST n]) (Units.noCmp n))
  ∧ ∀ (s : State) (n : Fin 2), (s.u.cmp.look n {}).teLost = true → exec (.teTimeout n) s = .next s

/-- READBACK_CHECK compares the panel's CRC of the oldest region: both values are shown, a mismatch counts, raises its event and makes the region dirty; the last region of a composition without a mismatch clears READBACK_FAIL, and the third composition in a row with one sets it, with its event and a breach record. WAKE_DONE makes the link active. FORCE_FULL makes the whole canvas dirty and wakes a link in ULPS. VFD_CMD_GO sends the host's command on an active link that pushes nothing, waits on any other and wakes one in ULPS, and is ignored with event 9 while BUSY or with LEN above 256. The response, an error report or 10 ms without one end a read with ERR 0, 2 or 1. A command the state rules out changes nothing (log entry 3). -/
def Obligations.ViewfinderLinks : Prop :=
  (∀ (s : State) (n : Fin 2) (crc : Nat) (g : Region) (l : List Region) (x : CmpU), x = s.u.cmp.look n {} → x.regions = g :: l → crc < 2 ^ 16 → g.crc < 2 ^ 16 →
    crc = g.crc →
    ∃ t, exec (.readbackCheck n crc) s = .next t ∧ t.rd (VFD_CRC_SENT n) = g.crc ∧ t.rd (VFD_CRC_READ n) = crc
      ∧ (l ≠ [] → t.u.cmp.look n {} = { x with regions := l } ∧ t.rd (VFD_STATUS_READBACK_FAIL n) = s.rd (VFD_STATUS_READBACK_FAIL n))
      ∧ (l = [] → x.mismatch = false → t.u.cmp.look n {} = { x with regions := [], bad := 0 } ∧ t.rd (VFD_STATUS_READBACK_FAIL n) = 0)
      ∧ (l = [] → x.mismatch = true → t.u.cmp.look n {} = { x with regions := [], bad := x.bad + 1 })
      ∧ s.Keeps t (fun k => own [VFD_CRC_SENT n, VFD_CRC_READ n, VFD_STATUS_READBACK_FAIL n] k || retireKey k)
          fun u => { u.noCmp n with evt := { u.evt with log := [] } })
  ∧ (∀ (s : State) (n : Fin 2) (crc : Nat) (g : Region) (x : CmpU), x = s.u.cmp.look n {} → x.regions = [g] → crc < 2 ^ 16 → g.crc < 2 ^ 16 → crc ≠ g.crc →
    (Run.start s).hasCfg 0x0801 n = true →
    ∃ t, exec (.readbackCheck n crc) s = .next t ∧ t.rd (VFD_CRC_SENT n) = g.crc ∧ t.rd (VFD_CRC_READ n) = crc
      ∧ t.rd (VFD_ERR_MISMATCH n) = min (s.rd (VFD_ERR_MISMATCH n) + 1) 0xFF ∧ t.seen (264 + n.val) = true
      ∧ t.u.cmp.look n {} = { x with regions := [], mismatch := true, bad := x.bad + 1, dirty := ((Run.start s).tiles n).filter fun k => x.dirty.contains k || touches g k }
      ∧ (2 ≤ x.bad → s.rd (VFD_STATUS_READBACK_FAIL n) = 0 → t.rd (VFD_STATUS_READBACK_FAIL n) = 1 ∧ t.seen (266 + n.val) = true ∧ s.logged t 10 n 1 0 1 = true)
      ∧ (x.bad < 2 → t.rd (VFD_STATUS_READBACK_FAIL n) = s.rd (VFD_STATUS_READBACK_FAIL n))
      ∧ s.Keeps t (fun k => own [VFD_CRC_SENT n, VFD_CRC_READ n, VFD_STATUS_READBACK_FAIL n, VFD_ERR_MISMATCH n, VFD_STATUS_LINK_STATE n] k || retireKey k)
          fun u => { u.noCmp n with evt := { u.evt with log := [] } })
  ∧ (∀ (s : State) (n : Fin 2) (crc : Nat), (s.u.cmp.look n {}).regions = [] → exec (.readbackCheck n crc) s = .next s)
  ∧ (∀ (s : State) (n : Fin 2), s.rd (VFD_STATUS_LINK_STATE n) = 1 → (s.u.cmp.look n {}).cmdWait = false →
    ∃ t, exec (.wakeDone n) s = .next t ∧ t.rd (VFD_STATUS_LINK_STATE n) = 2 ∧ t.u.cmp.look n {} = { s.u.cmp.look n {} with ppsDue := true }
      ∧ t.seen (270 + n.val) = true ∧ s.Keeps t (own [VFD_STATUS_LINK_STATE n]) (Units.noCmp n))
  ∧ (∀ (s : State) (n : Fin 2), s.rd (VFD_STATUS_LINK_STATE n) ≠ 1 → exec (.wakeDone n) s = .next s)
  ∧ (∀ (s : State) (n : Fin 2),
    ∃ t, exec (.forceFull n) s = .next t ∧ ((Run.start s).hasCfg 0x0801 n = true → (t.u.cmp.look n {}).dirty = (Run.start s).tiles n)
      ∧ t.rd (VFD_STATUS_LINK_STATE n) = (if s.rd (VFD_STATUS_LINK_STATE n) = 3 then 1 else s.rd (VFD_STATUS_LINK_STATE n))
      ∧ s.Keeps t (own [VFD_STATUS_LINK_STATE n]) fun u => { u with cmp := [] })
  ∧ (∀ (s : State) (n : Fin 2), s.rd (VFD_CMD_CTL_BUSY n) ≠ 0 ∨ 256 < s.rd (VFD_CMD_CTL_LEN n) → ∃ t, exec (.vfdCmdGo n) s = .next t ∧ s.Ignores t)
  ∧ (∀ (s : State) (n : Fin 2) (len : Nat) (payload : List Byte) (x : CmpU), s.rd (VFD_CMD_CTL_BUSY n) = 0 → len = s.rd (VFD_CMD_CTL_LEN n) → len ≤ 256 →
    s.rd (VFD_STATUS_LINK_STATE n) = 2 → s.rd (CMP_STATUS_COMPOSING n) = 0 → x = s.u.cmp.look n {} →
    payload = (if len = 0 then le 1 (s.rd (VFD_CMD_HDR_DATA0 n)) ++ le 1 (s.rd (VFD_CMD_HDR_DATA1 n))
      else ((List.range 64).flatMap fun k => le 4 (s.rd (VFD_CMD_DATA n k))).take len) →
    ∃ t, exec (.vfdCmdGo n) s = .next t ∧ t.rd (VFD_CMD_CTL_ERR n) = 0 ∧ t.rd (VFD_CMD_CTL_BUSY n) = (if s.rd (VFD_CMD_CTL_READ n) = 0 then 0 else 1)
      ∧ t.u.cmp.look n {} = { x with cmdWait := false, cmdResp := s.rd (VFD_CMD_CTL_READ n) != 0 }
      ∧ s.sends t (.packet (96 + n) (s.rd (VFD_CMD_HDR_DT n)) [s.rd (VFD_CMD_HDR_VC n), s.rd (VFD_CMD_CTL_LP n), s.rd (VFD_CMD_CTL_READ n)] payload)
      ∧ s.Keeps t (own [VFD_CMD_CTL_ERR n, VFD_CMD_CTL_BUSY n]) (Units.noCmp n))
  ∧ (∀ (s : State) (n : Fin 2) (st : Nat), s.rd (VFD_CMD_CTL_BUSY n) = 0 → s.rd (VFD_CMD_CTL_LEN n) ≤ 256 → st = s.rd (VFD_STATUS_LINK_STATE n) →
    st ≠ 2 ∨ s.rd (CMP_STATUS_COMPOSING n) ≠ 0 →
    ∃ t, exec (.vfdCmdGo n) s = .next t ∧ t.rd (VFD_CMD_CTL_BUSY n) = 1 ∧ t.u.cmp.look n {} = { s.u.cmp.look n {} with cmdWait := true }
      ∧ (if st = 3 ∧ (Run.start s).stopping = false then t.rd (VFD_STATUS_LINK_STATE n) = 1 ∧ s.sends t (.dphy n 1)
        else t.rd (VFD_STATUS_LINK_STATE n) = st ∧ t.out = s.out)
      ∧ s.Keeps t (own [VFD_CMD_CTL_BUSY n, VFD_STATUS_LINK_STATE n]) (Units.noCmp n))
  ∧ (∀ (s : State) (n : Fin 2) (bad : Bool) (data : List Byte) (x : CmpU), x = s.u.cmp.look n {} → x.cmdResp = true →
    ∃ t, exec (.panelResponse n bad data) s = .next t ∧ t.rd (VFD_CMD_CTL_BUSY n) = 0 ∧ t.rd (VFD_CMD_CTL_ERR n) = (if bad = true then 2 else 0)
      ∧ t.u.cmp.look n {} = { x with cmdResp := false }
      ∧ (bad = false → t.rd (VFD_RSP_BYTES n) = ofLe (data.take 8) % 2 ^ 64 ∧ t.rd (VFD_CMD_CTL_RSP_LEN n) = min data.length 8)
      ∧ (bad = true → t.rd (VFD_ERR_CMD_ERR n) = min (s.rd (VFD_ERR_CMD_ERR n) + 1) 0xFF ∧ t.rd (VFD_RSP_BYTES n) = s.rd (VFD_RSP_BYTES n))
      ∧ s.Keeps t (own ([VFD_CMD_CTL_BUSY n, VFD_CMD_CTL_ERR n] ++ if bad then [VFD_ERR_CMD_ERR n] else [VFD_RSP_BYTES n, VFD_CMD_CTL_RSP_LEN n])) (Units.noCmp n))
  ∧ (∀ (s : State) (n : Fin 2) (x : CmpU), x = s.u.cmp.look n {} → x.cmdResp = true →
    ∃ t, exec (.panelResponseTimeout n) s = .next t ∧ t.rd (VFD_CMD_CTL_BUSY n) = 0 ∧ t.rd (VFD_CMD_CTL_ERR n) = 1
      ∧ t.u.cmp.look n {} = { x with cmdResp := false } ∧ t.rd (VFD_ERR_CMD_ERR n) = min (s.rd (VFD_ERR_CMD_ERR n) + 1) 0xFF
      ∧ s.Keeps t (own [VFD_CMD_CTL_BUSY n, VFD_CMD_CTL_ERR n, VFD_ERR_CMD_ERR n]) (Units.noCmp n))
  ∧ ∀ (s : State) (n : Fin 2) (bad : Bool) (data : List Byte), (s.u.cmp.look n {}).cmdResp = false →
    exec (.panelResponse n bad data) s = .next s ∧ exec (.panelResponseTimeout n) s = .next s

/-- OPEN of a closed encoder whose core is not retired sets OPEN_ERR to the first failing check of Table 09-3 with event 292 + 8n, and with none opens: LEVEL_USED, an empty sequence at F_0, every reference buffer free. CLOSE closes at once, with an end-of-sequence record where a picture was coded and the ring has room (assumption 54), or after the picture in progress. PICTURE_START takes the next publication: with a short ring it stalls; else it holds the buffer and sets limit, target and base QP; for a missing frame it codes a repeat at minimum cost, counted with events; 8 missing frames, or a stall, restart the sequence with event 291; a poisoned buffer is passed over. CTU_CODED commits a CTU that fits before the freeboard, with the row rule at a row's end and the buffer's release at the last, else the picture falls to minimum cost. PICTURE_DONE writes the record, with filler under CBR, advances the buffer model and the reference marks, and closes a sequence that waits for it; a poisoned reference discards the picture. OUT_RD takes a free multiple of 64. A fault discards the picture, and the third within 10 s retires the core. Bytes of the coded picture are free values (assumption 54). -/
def Obligations.ProxyEncoder : Prop :=
  (∀ (s : State) (n : Fin 2) (br cpb num den del mI w h : Nat), s.rd (ENC_STATUS_STATE n) = 0 → (Run.start s).isCofferdam 8 n = false →
    br = s.rd (ENC_RATE_BR n) → cpb = s.rd (ENC_CPB_CPB_SIZE n) → num = s.rd (ENC_FPS_NUM n) → den = s.rd (ENC_FPS_DEN n) → del = s.rd (ENC_INIT_DELAY_DELAY n) →
    w = ((Run.start s).encSize n).1 → h = ((Run.start s).encSize n).2 →
    mI = 3584 + 512 * (if s.rd (ENC_SEQ_SLICE_ROWS n) = 0 then 1 else ceilDiv ((h + 63) / 64) (s.rd (ENC_SEQ_SLICE_ROWS n))) + 48 * ((w + 63) / 64 * ((h + 63) / 64)) + 128 →
    ∃ t, exec (.encOpen n) s = .next t ∧ t.seen (292 + 8 * n) = true
      ∧ t.rd (ENC_STATUS_OPEN_ERR n) = (if 2 < s.rd (ENC_SEQ_PROFILE n) ∨ ((s.rd (ENC_SEQ_PROFILE n) = 2 ∨ s.rd (ENC_SEQ_TIER n) = 1) ∧ (Run.start s).feature 14 = false) then 1
          else if (Run.start s).hasCfg 0x0901 n = false ∨ (Run.start s).encOutlet n = none then 2
          else if s.rd (ENC_GOP_NUM_REF n) = 0 ∨ (Run.start s).encN n 9 1 < s.rd (ENC_GOP_NUM_REF n) + 2 ∨ 6 < s.rd (ENC_GOP_NUM_REF n) ∨ 2 < s.rd (ENC_GOP_GOP_TYPE n) then 3
          else if den = 0 ∨ 261120 * den < (w + 63) / 64 * ((h + 63) / 64) * num then 4
          else if (Run.start s).levelFor n = none then 5
          else if br * den < mI * num then 6
          else if cpb * num < br * den + 64 * num ∨ cpb * 90000 < del * br ∨ del * br < mI * 90000 then 7
          else if (Run.start s).ringSize n * 8 < 2 * (cpb + 1024) then 8 else 0)
      ∧ t.rd (ENC_STATUS_STATE n) = (if t.rd (ENC_STATUS_OPEN_ERR n) = 0 then 1 else 0)
      ∧ (t.rd (ENC_STATUS_OPEN_ERR n) ≠ 0 → t.encOf n = s.encOf n ∧ t.rd (ENC_STATUS_LEVEL_USED n) = s.rd (ENC_STATUS_LEVEL_USED n))
      ∧ (t.rd (ENC_STATUS_OPEN_ERR n) = 0 → t.rd (ENC_STATUS_LEVEL_USED n) = ((Run.start s).levelFor n).getD 0 % 256 ∧ (t.encOf n).first = true
          ∧ (t.encOf n).full = (2 * (br * del) * 65536 + 90000) / 180000 ∧ (t.encOf n).free = List.range ((Run.start s).encN n 9 1) ∧ (t.encOf n).refs = []
          ∧ (t.encOf n).pic = none ∧ (t.encOf n).records = (s.encOf n).records)
      ∧ s.Keeps t (own [ENC_STATUS_OPEN_ERR n, ENC_STATUS_STATE n, ENC_STATUS_LEVEL_USED n]) fun u => { u with enc := u.enc.drop n })
  ∧ (∀ (s : State) (n : Fin 2), s.rd (ENC_STATUS_STATE n) ≠ 0 ∨ (Run.start s).isCofferdam 8 n = true → ∃ t, exec (.encOpen n) s = .next t ∧ s.Ignores t)
  ∧ (∀ (s : State) (n : Fin 2), s.rd (ENC_STATUS_STATE n) = 0 → exec (.close n) s = .next s)
  ∧ (∀ (s : State) (n : Fin 2), s.rd (ENC_STATUS_STATE n) ≠ 0 → (s.encOf n).pic ≠ none →
    ∃ t, exec (.close n) s = .next t ∧ t.rd (ENC_STATUS_STATE n) = 2 ∧ s.Keeps t (own [ENC_STATUS_STATE n]) id)
  ∧ (∀ (s : State) (n : Fin 2), s.rd (ENC_STATUS_STATE n) ≠ 0 → (s.encOf n).pic = none → (s.encOf n).first = true ∨ (Run.start s).encFree n < 128 →
    ∃ t, exec (.close n) s = .next t ∧ t.rd (ENC_STATUS_STATE n) = 0 ∧ t.encOf n = s.encOf n ∧ s.Keeps t (own [ENC_STATUS_STATE n]) fun u => { u with enc := u.enc.drop n })
  ∧ (∀ (s : State) (n : Fin 2) (q : Nat), s.rd (ENC_STATUS_STATE n) ≠ 0 → (s.encOf n).pic = none → (s.encOf n).first = false → 128 ≤ (Run.start s).encFree n →
    s.encHome n q →
    ∃ t, exec (.close n) s = .next t ∧ t.rd (ENC_STATUS_STATE n) = 0 ∧ s.Records t n 1 64 0 (s.encOf n).poc 6 (s.encOf n).last
      ∧ s.KeepsBut t (own [ENC_STATUS_STATE n, ENC_OUT_WR_WR n]) (s.inPolder q) fun u => { u with enc := u.enc.drop n })
  ∧ (∀ (s : State) (n : Fin 2), s.rd (ENC_STATUS_STATE n) ≠ 1 ∨ (s.encOf n).pic ≠ none ∨ (Run.start s).isResetting 8 n = true ∨ (Run.start s).duty 2 = false
      ∨ (Run.start s).nextPub n = none → exec (.pictureStart n) s = .next s)
  ∧ (∀ (s : State) (n : Fin 2) (o b : Nat) (i : PubInfo), s.encReady n (o, b, i) → (Run.start s).ringShort n ((Run.start s).nextPic n o i) = true →
    ∃ t, exec (.pictureStart n) s = .next t ∧ t.encOf n = { s.encOf n with stalled := true, taken := i.no } ∧ s.Keeps t (own []) fun u => { u with enc := u.enc.drop n })
  ∧ (∀ (s : State) (n : Fin 2) (o b full : Nat) (i : PubInfo) (due irap idr : Bool) (u : EncU), s.encReady n (o, b, i) → (Run.start s).ringShort n .plain = false →
    (Run.start s).nextPic n o i = .plain → s.pubReadable o b → b < 4 → u = s.encOf n → full = u.full →
    due = (u.irapDue || s.rdA (ENC_PIC_FORCE_IRAP n) == 1 || s.rd (ENC_GOP_INTRA_PERIOD n) != 0 && !u.first && u.since % s.rd (ENC_GOP_INTRA_PERIOD n) == 0) →
    irap = (u.first || due) → idr = (u.first || due && s.rd (ENC_GOP_IRAP_IDR n) != 0) →
    ∃ t, exec (.pictureStart n) s = .next t
      ∧ t.Codes n full o (some b) (fun p => p.type == (if irap then 0 else s.rd (ENC_GOP_GOP_TYPE n)) && p.irap == irap && p.idr == idr && !p.repeated && !p.restart
          && p.info == i && p.buf == some b && p.limit == full / 65536 - 64 && p.target == (Run.start s).target n p.type full p.limit
          && p.qp == (Run.start s).baseQp n p.type p.target u.qps && !p.minCost && p.ctu == 0 && p.rows == [0]
          && decide (p.bits ≤ if p.type = 0 then 4096 else 1024))
      ∧ (t.encOf n).taken = i.no ∧ (t.encOf n).poc = (if idr then 0 else u.poc + 1) ∧ (t.encOf n).refs = (if idr then [] else u.refs)
      ∧ (t.encOf n).lastFn = u.lastFn ∧ (s.rdA (ENC_PIC_FORCE_IRAP n) = 1 → t.rdA (ENC_PIC_FORCE_IRAP n) = 0)
      ∧ s.Keeps t (own [ENC_STATUS_CODING n, ENC_FULLNESS_FULL n, OUT_STATUS_HELD o, ENC_PIC_FORCE_IRAP n, GLB_TIDE_DEFERRED]) fun u => { u with enc := u.enc.drop n })
  ∧ (∀ (s : State) (n : Fin 2) (o b fn : Nat) (i : PubInfo), s.encReady n (o, b, i) → (Run.start s).ringShort n (.repeated fn) = false →
    (Run.start s).nextPic n o i = .repeated fn →
    ∃ t, exec (.pictureStart n) s = .next t
      ∧ t.Codes n (s.encOf n).full o none (fun p => p.type == 1 && p.repeated && p.minCost && !p.irap && !p.idr && p.info.fn == fn && p.info.tag == 0 && p.buf == none)
      ∧ (t.encOf n).taken = (s.encOf n).taken ∧ t.rd (ENC_COUNT_REPEATS n) = min (s.rd (ENC_COUNT_REPEATS n) + 1) 4095
      ∧ t.rd (ENC_COUNT_MINCOST n) = min (s.rd (ENC_COUNT_MINCOST n) + 1) 4095 ∧ t.seen (290 + 8 * n) = true ∧ t.seen (289 + 8 * n) = true
      ∧ s.Keeps t (own [ENC_STATUS_CODING n, ENC_FULLNESS_FULL n, ENC_COUNT_REPEATS n, ENC_COUNT_MINCOST n, ENC_PIC_FORCE_IRAP n, GLB_TIDE_DEFERRED])
          fun u => { u with enc := u.enc.drop n })
  ∧ (∀ (s : State) (n : Fin 2) (o b cause q full : Nat) (i : PubInfo), s.encReady n (o, b, i) → (Run.start s).ringShort n (.restart cause) = false →
    (Run.start s).nextPic n o i = .restart cause → s.pubReadable o b → b < 4 → s.encHome n q → s.rd GLB_TIDE_DEFERRED < 2 ^ 64 →
    full = (2 * (s.rd (ENC_RATE_BR n) * s.rd (ENC_INIT_DELAY_DELAY n)) * 65536 + 90000) / 180000 →
    ∃ t, exec (.pictureStart n) s = .next t
      ∧ t.Codes n full o (some b) (fun p => p.type == 0 && p.irap && p.idr && p.restart && !p.repeated && p.info == i && p.qp == s.rd (ENC_QP_INIT n))
      ∧ (t.encOf n).taken = i.no ∧ (t.encOf n).poc = 0 ∧ (t.encOf n).refs = [] ∧ (t.encOf n).stalled = false
      ∧ t.rd (ENC_STATUS_RESTART_CAUSE n) = cause ∧ t.rd (ENC_COUNT_RESTARTS n) = min (s.rd (ENC_COUNT_RESTARTS n) + 1) 255 ∧ t.seen (291 + 8 * n) = true
      ∧ s.KeepsBut t (own [ENC_STATUS_CODING n, ENC_FULLNESS_FULL n, OUT_STATUS_HELD o, ENC_PIC_FORCE_IRAP n, GLB_TIDE_DEFERRED, ENC_STATUS_RESTART_CAUSE n,
          ENC_COUNT_RESTARTS n, ENC_OUT_WR_WR n]) (s.inPolder q) fun u => { u with enc := u.enc.drop n })
  ∧ (∀ (s : State) (n : Fin 2) (beta coded : Nat), (∀ p, (s.encOf n).pic = some p → p.minCost = true ∨ (Run.start s).ctuCount n ≤ p.ctu) →
    exec (.ctuCoded n beta coded) s = .next s)
  ∧ (∀ (s : State) (n : Fin 2) (beta coded cols rows c sum : Nat) (p : EncPic), (s.encOf n).pic = some p → p.minCost = false → p.ctu < cols * rows →
    cols = ((Run.start s).ctus n).1 → rows = ((Run.start s).ctus n).2 → p.bits + beta + (Run.start s).freeboard n p.type p.ctu ≤ p.limit →
    c = p.ctu + 1 → sum = p.bits + min coded beta →
    ∃ t, exec (.ctuCoded n beta coded) s = .next t
      ∧ t.encOf n = { s.encOf n with pic := some { p with
          ctu := c, bits := sum + (Run.start s).headerAt n p c
          rows := if c % cols = 0 then rowStep sum p.target (c / cols - 1) rows :: p.rows else p.rows } }
      ∧ (c < cols * rows → s.Keeps t (own []) fun u => { u with enc := u.enc.drop n })
      ∧ (∀ o b, (Run.start s).encOutlet n = some o → p.buf = some b → c = cols * rows → b < 4 → bit (t.rd (OUT_STATUS_HELD o)) b = false
          ∧ s.Keeps t (own [OUT_STATUS_HELD o]) fun u => { u with enc := u.enc.drop n }))
  ∧ (∀ (s : State) (n : Fin 2) (beta coded : Nat) (p : EncPic), (s.encOf n).pic = some p → p.minCost = false → p.ctu < (Run.start s).ctuCount n →
    p.limit < p.bits + beta + (Run.start s).freeboard n p.type p.ctu →
    ∃ t, exec (.ctuCoded n beta coded) s = .next t ∧ t.encOf n = { s.encOf n with pic := some { p with minCost := true } }
      ∧ t.rd (ENC_COUNT_MINCOST n) = min (s.rd (ENC_COUNT_MINCOST n) + 1) 4095 ∧ t.seen (289 + 8 * n) = true
      ∧ s.Keeps t (own [ENC_COUNT_MINCOST n]) fun u => { u with enc := u.enc.drop n })
  ∧ (∀ (s : State) (n : Fin 2) (size : Nat), (∀ p, (s.encOf n).pic = some p → p.minCost = false ∧ p.ctu < (Run.start s).ctuCount n) →
    exec (.pictureDone n size) s = .next s)
  ∧ (∀ (s : State) (n : Fin 2) (size q coded fill per b a cpb : Nat) (p : EncPic) (u : EncU), u = s.encOf n → u.pic = some p →
    p.minCost = true ∨ (Run.start s).ctuCount n ≤ p.ctu → s.rd (ENC_STATUS_STATE n) = 1 → s.encHome n q → cpb = s.rd (ENC_CPB_CPB_SIZE n) →
    coded = (Run.start s).codedSize n p size → per = (Run.start s).perPicture n →
    fill = (if s.rd (ENC_SEQ_CBR n) = 0 then 0 else fillerBytes u.full (8 * coded) per cpb) → b = 8 * (coded + fill) →
    recordBytes (coded + fill) ≤ (Run.start s).ringSize n → a = (Run.start s).poolBuffer n p.cur → s.rd (MEM_POLDER_BASE q) ≤ a →
    a + poolBytes ((Run.start s).encSize n).1 ((Run.start s).encSize n).2 ≤ s.rd (MEM_POLDER_BASE q) + s.rd (MEM_POLDER_SIZE q) →
    p.type = 0 ∨ (∀ x ∈ u.refs, (Run.start s).allowed 7 false ((Run.start s).poolBuffer n x.1) (poolBytes ((Run.start s).encSize n).1 ((Run.start s).encSize n).2) = true) →
    ∃ t, exec (.pictureDone n size) s = .next t
      ∧ s.Records t n p.type (b2n p.irap + 2 * b2n p.idr + 4 * b2n p.repeated + 8 * b2n p.minCost + 16 * b2n (fill != 0) + 32 * b2n (u.first || p.restart)) p.qp u.poc
          (coded + fill) p.info
      ∧ t.rd (ENC_STATUS_CODING n) = 0 ∧ (t.encOf n).pic = none ∧ (t.encOf n).first = false ∧ (t.encOf n).lastFn = some p.info.fn
      ∧ (t.encOf n).full = (if s.rd (ENC_SEQ_CBR n) = 0 then min (u.full - b * 65536 + per) (cpb * 65536) else u.full - b * 65536 + per)
      ∧ (t.encOf n).qps.find p.type = some (p.qp, b)
      ∧ (t.encOf n).refs = (if u.refs.length < s.rd (ENC_GOP_NUM_REF n) then (p.cur, u.poc) :: u.refs else ((p.cur, u.poc) :: u.refs).dropLast)
      ∧ s.KeepsBut t (own [ENC_STATUS_CODING n, ENC_OUT_WR_WR n, OUT_STATUS_HELD (((Run.start s).encOutlet n).getD 0)]) (s.inPolder q)
          fun u => { u with enc := u.enc.drop n })
  ∧ (∀ (s : State) (n : Fin 2) (size : Nat) (p : EncPic), (s.encOf n).pic = some p → p.minCost = true ∨ (Run.start s).ctuCount n ≤ p.ctu → p.type ≠ 0 → p.buf = none →
    s.rd (ENC_STATUS_STATE n) = 1 → ((s.encOf n).refs.map fun x => (Run.start s).peekMem 7 ((Run.start s).poolBuffer n x.1)
      (poolBytes ((Run.start s).encSize n).1 ((Run.start s).encSize n).2)).any Got.poison = true →
    ∃ t, exec (.pictureDone n size) s = .next t ∧ t.rd (ENC_STATUS_CODING n) = 0 ∧ t.encOf n = { s.encOf n with pic := none, free := (s.encOf n).free ++ [p.cur] })
  ∧ (∀ (s : State) (n : Fin 2) (v : Nat), v % 64 = 0 → v < (Run.start s).ringSize n → v < 2 ^ 32 → (Run.start s).proxyRuns n = false →
    ∃ t, exec (.outRd n v) s = .next t ∧ t.rd (ENC_OUT_RD_RD n) = v ∧ s.Keeps t (own [ENC_OUT_RD_RD n]) id)
  ∧ (∀ (s : State) (n : Fin 2) (v : Nat), v % 64 ≠ 0 ∨ (Run.start s).ringSize n ≤ v ∨ (Run.start s).proxyRuns n = true → ∃ t, exec (.outRd n v) s = .next t ∧ s.Ignores t)
  ∧ (∀ (s : State) (n : Fin 2), (Run.start s).isCofferdam 8 n = true ∨ (Run.start s).isResetting 8 n = true → exec (.internalFault (.enc n)) s = .next s)
  ∧ (∀ (s : State) (n : Fin 2), (Run.start s).isCofferdam 8 n = false → (Run.start s).isResetting 8 n = false → s.rd (ENC_STATUS_STATE n) = 0 ∨ (s.encOf n).first = true →
    (s.encOf n).pic = none →
    ∃ t, exec (.internalFault (.enc n)) s = .next t ∧ (if s.recentFaults 8 n < 2 then s.FaultsOnce t 8 n else s.FaultsForGood t 8 n)
      ∧ t.rd (ENC_STATUS_STATE n) = (if s.recentFaults 8 n < 2 then s.rd (ENC_STATUS_STATE n) else 0) ∧ t.encOf n = s.encOf n
      ∧ s.Keeps t (fun k => retireKey k || own [ENC_STATUS_STATE n] k) fun u => { u.noFault with enc := u.enc.drop n })
  ∧ ∀ (s : State) (n : Fin 2) (p : EncPic), (Run.start s).isCofferdam 8 n = false → (Run.start s).isResetting 8 n = false → s.rd (ENC_STATUS_STATE n) = 1 →
    (s.encOf n).pic = some p → s.recentFaults 8 n < 2 →
    ∃ t, exec (.internalFault (.enc n)) s = .next t ∧ s.FaultsOnce t 8 n ∧ t.encOf n = { s.encOf n with pic := none, free := (s.encOf n).free ++ [p.cur] }
      ∧ t.rd (ENC_STATUS_CODING n) = 0 ∧ (∀ o b, (Run.start s).encOutlet n = some o → p.buf = some b → b < 4 → bit (t.rd (OUT_STATUS_HELD o)) b = false)
      ∧ s.Keeps t (fun k => retireKey k || own [ENC_STATUS_CODING n, OUT_STATUS_HELD (((Run.start s).encOutlet n).getD 0)] k) fun u => { u.noFault with enc := u.enc.drop n }

/-- START of a stopped decoder with its record, no record armed or active and no retired core, sets RUNNING and forgets all but the output buffer tried first; else it is ignored with event 9. STOP with no input left stops at once with cause 0 and event 307, else after the picture in progress. A write of IN_WR inside the ring is stored. Starvation raises event 308 once. An access unit whose bytes are all there and readable leaves the ring: a RASL picture is dropped; a picture before the first IRAP, or while NAL units are discarded, is dropped too and counted in SKIPPED where no picture has been decoded; an SPS beyond R233's limits sets ERR_CAUSE with event 306 and makes DEC_0 discard until a supported IRAP; any other picture is written to the next buffer that is not held, with DEC_OUT, the concealment count and event 305 where concealment begins. With every buffer held it waits. Then DEC_0 stops if a stop is due, else goes on. A transient internal fault conceals the picture in progress and resets the core; the third within 10 s retires it and stops DEC_0. That unused input is the picture in progress, and the decoded samples themselves, are the model's (assumptions 5 and 54). -/
def Obligations.ProxyDecoder : Prop :=
  (∀ s : State, (Run.start s).recording = true ∨ (Run.start s).isCofferdam 9 0 = true ∨ (Run.start s).hasCfg 0x0902 0 = false →
    ∃ t, exec .decStart s = .next t ∧ s.Ignores t)
  ∧ (∀ s : State, (Run.start s).recording = false → (Run.start s).isCofferdam 9 0 = false → (Run.start s).hasCfg 0x0902 0 = true → s.rd DEC_STATUS_RUNNING ≠ 0 →
    exec .decStart s = .next s)
  ∧ (∀ s : State, (Run.start s).recording = false → (Run.start s).isCofferdam 9 0 = false → (Run.start s).hasCfg 0x0902 0 = true → s.rd DEC_STATUS_RUNNING = 0 →
    (Run.start s).snaps 46 = [] → s.rd GLB_TIDE_DEFERRED < 2 ^ 64 →
    ∃ t, exec .decStart s = .next t ∧ t.rd DEC_STATUS_RUNNING = 1
      ∧ t.u.dec = { nextOut := s.u.dec.nextOut, begun := s.rd DEC_IN_RD_RD != s.rd DEC_IN_WR_WR && (Run.start s).decNext.isSome }
      ∧ s.Keeps t (own [DEC_STATUS_RUNNING, GLB_TIDE_DEFERRED]) fun u => { u with dec := {} })
  ∧ (∀ s : State, s.rd DEC_STATUS_RUNNING = 0 → exec .decStop s = .next s)
  ∧ (∀ s : State, s.rd DEC_STATUS_RUNNING ≠ 0 → s.rd DEC_IN_RD_RD = s.rd DEC_IN_WR_WR →
    ∃ t, exec .decStop s = .next t ∧ t.rd DEC_STATUS_RUNNING = 0 ∧ t.rd DEC_STATUS_STOP_CAUSE = 0 ∧ t.seen 307 = true
      ∧ t.u.dec = { s.u.dec with stop := none, begun := false } ∧ s.Keeps t (own [DEC_STATUS_RUNNING, DEC_STATUS_STOP_CAUSE]) fun u => { u with dec := {} })
  ∧ (∀ s : State, s.rd DEC_STATUS_RUNNING ≠ 0 → s.rd DEC_IN_RD_RD ≠ s.rd DEC_IN_WR_WR →
    ∃ t, exec .decStop s = .next t ∧ t.u.dec = { s.u.dec with stop := some (s.u.dec.stop.getD 0) } ∧ s.Keeps t (own []) fun u => { u with dec := {} })
  ∧ (∀ (s : State) (v : Nat), (Run.start s).decRing ≤ v → ∃ t, exec (.decInWr v) s = .next t ∧ s.Ignores t)
  ∧ (∀ (s : State) (v : Nat), v < (Run.start s).decRing → v < 2 ^ 32 → (Run.start s).snaps 46 = [] → s.rd GLB_TIDE_DEFERRED < 2 ^ 64 →
    ∃ t, exec (.decInWr v) s = .next t ∧ t.rd DEC_IN_WR_WR = v
      ∧ t.u.dec = { s.u.dec with starved := false, begun := s.u.dec.begun || s.rd DEC_STATUS_RUNNING != 0 && s.rd DEC_IN_RD_RD != v && (Run.start s).decNext.isSome }
      ∧ s.Keeps t (own [DEC_IN_WR_WR, GLB_TIDE_DEFERRED]) fun u => { u with dec := {} })
  ∧ (∀ s : State, s.rd DEC_STATUS_RUNNING ≠ 0 → s.u.dec.starved = false →
    ∃ t, exec .decStarved s = .next t ∧ t.seen 308 = true ∧ t.u.dec = { s.u.dec with starved := true } ∧ s.Keeps t (own []) fun u => { u with dec := {} })
  ∧ (∀ s : State, s.rd DEC_STATUS_RUNNING = 0 ∨ s.u.dec.starved = true → exec .decStarved s = .next s)
  ∧ (∀ (s : State) (n : Nat) (p : DecPic), s.rd DEC_STATUS_RUNNING = 0 ∨ (Run.start s).isResetting 9 0 = true
      ∨ (s.rd DEC_IN_WR_WR + max 1 (Run.start s).decRing - s.rd DEC_IN_RD_RD) % max 1 (Run.start s).decRing < n → exec (.decodedPicture n p) s = .next s)
  ∧ (∀ (s : State) (n : Nat), s.decTakes n →
    ∃ t, exec (.decodedPicture n .rasl) s = .next t ∧ s.DecGoes t n id ∧ s.Keeps t decKeys fun u => { u with dec := {} })
  ∧ (∀ (s : State) (n poc : Nat) (sps : Option Sps) (missing lost : List Nat), s.decTakes n → sps = none →
    s.u.dec.sps = none ∨ s.u.dec.deaf = true ∨ s.u.dec.any = false →
    ∃ t, exec (.decodedPicture n (.picture sps poc missing lost)) s = .next t ∧ s.DecGoes t n id
      ∧ t.rd DEC_COUNT_SKIPPED = (if s.u.dec.sps = none ∨ s.u.dec.any = false then min (s.rd DEC_COUNT_SKIPPED + 1) 65535 else s.rd DEC_COUNT_SKIPPED)
      ∧ s.Keeps t (fun k => decKeys k || own [DEC_COUNT_SKIPPED] k) fun u => { u with dec := {} })
  ∧ (∀ (s : State) (n poc : Nat) (p : Sps) (missing lost : List Nat), s.decTakes n → 2 < p.profile ∨ 4096 < p.w ∨ 2304 < p.h ∨ 1061683200 < p.rate ∨ (Run.start s).decN 9 1 < p.dpb →
    ∃ t, exec (.decodedPicture n (.picture (some p) poc missing lost)) s = .next t ∧ s.DecGoes t n (fun u => { u with deaf := true }) ∧ t.seen 306 = true
      ∧ t.rd DEC_STATUS_ERR_CAUSE = (if 2 < p.profile then 1 else if 4096 < p.w ∨ 2304 < p.h ∨ 1061683200 < p.rate then 2 else 3)
      ∧ s.Keeps t (fun k => decKeys k || own [DEC_STATUS_ERR_CAUSE] k) fun u => { u with dec := {} })
  ∧ (∀ (s : State) (n poc k len : Nat) (sps : Option Sps) (p : Sps) (missing lost : List Nat), s.decTakes n → (sps.or s.u.dec.sps) = some p →
    sps = none ∧ s.u.dec.deaf = false ∧ s.u.dec.any = true ∨ sps ≠ none ∧ p.profile ≤ 2 ∧ p.w ≤ 4096 ∧ p.h ≤ 2304 ∧ p.rate ≤ 1061683200 ∧ p.dpb ≤ (Run.start s).decN 9 1 →
    (Run.start s).decNext = some k → k < 8 → len = (decImage (s.rdA DEC_OUT_CTL_OUT_FMT) p.w p.h fun _ _ _ => 0).length →
    (Run.start s).allowed 8 true ((Run.start s).decBuffer k) len = true →
    ∃ t, exec (.decodedPicture n (.picture sps poc missing lost)) s = .next t
      ∧ s.Decodes t n k p sps.isSome poc missing lost false
      ∧ s.DecGoes t n (fun u =>
          let v := decPicture u p missing lost
          { u with deaf := u.deaf && !sps.isSome, sps := some p, any := true, nextOut := k + 1, last := keptPlanes p.w p.h v, lastW := p.w, lastH := p.h })
      ∧ s.KeepsBut t (fun j => decKeys j || own [DEC_OUT_IDX, DEC_OUT_POC_LOW, DEC_OUT_CONCEALED, DEC_STATUS_CONCEALING, DEC_COUNT_CONCEAL] j)
          (fun a => (Run.start s).decBuffer k ≤ a && a < (Run.start s).decBuffer k + len) fun u => { u with dec := {} })
  ∧ (∀ (s : State) (n poc : Nat) (sps : Option Sps) (missing lost : List Nat), s.decTakes n → (sps.or s.u.dec.sps) ≠ none →
    sps = none ∧ s.u.dec.deaf = false ∧ s.u.dec.any = true ∨ ((sps.map (Run.start s).spsBad) = some 0) → (Run.start s).decNext = none →
    exec (.decodedPicture n (.picture sps poc missing lost)) s = .next s)
  ∧ (∀ (s : State) (au : Option (Nat × DecPic)), (Run.start s).isCofferdam 9 0 = true ∨ (Run.start s).isResetting 9 0 = true →
    exec (.internalFault (.dec au)) s = .next s)
  ∧ (∀ s : State, (Run.start s).isCofferdam 9 0 = false → (Run.start s).isResetting 9 0 = false →
    ∃ t, exec (.internalFault (.dec none)) s = .next t ∧ (if s.recentFaults 9 0 < 2 then s.FaultsOnce t 9 0 else s.FaultsForGood t 9 0)
      ∧ (if s.recentFaults 9 0 < 2 ∨ s.rd DEC_STATUS_RUNNING = 0 then t.rd DEC_STATUS_RUNNING = s.rd DEC_STATUS_RUNNING ∧ t.u.dec = s.u.dec
         else t.rd DEC_STATUS_RUNNING = 0 ∧ t.rd DEC_STATUS_STOP_CAUSE = 0 ∧ t.seen 307 = true ∧ t.u.dec = { s.u.dec with stop := none, begun := false })
      ∧ s.Keeps t (fun k => retireKey k || own [DEC_STATUS_RUNNING, DEC_STATUS_STOP_CAUSE] k) fun u => { u.noFault with dec := {} })
  ∧ ∀ (s : State) (n poc k len : Nat) (p : Sps), s.decTakes n → s.u.dec.sps = some p → s.u.dec.deaf = false → s.u.dec.any = true →
    (Run.start s).isCofferdam 9 0 = false → s.recentFaults 9 0 < 2 → (Run.start s).decNext = some k → k < 8 →
    len = (decImage (s.rdA DEC_OUT_CTL_OUT_FMT) p.w p.h fun _ _ _ => 0).length → (Run.start s).allowed 8 true ((Run.start s).decBuffer k) len = true →
    ∃ t, exec (.internalFault (.dec (some (n, .picture none poc [] [])))) s = .next t ∧ s.FaultsOnce t 9 0 ∧ s.Decodes t n k p false poc [] [] true
      ∧ s.KeepsBut t (fun j => retireKey j || decKeys j || own [DEC_OUT_IDX, DEC_OUT_POC_LOW, DEC_OUT_CONCEALED, DEC_STATUS_CONCEALING, DEC_COUNT_CONCEAL] j)
          (fun a => (Run.start s).decBuffer k ≤ a && a < (Run.start s).decBuffer k + len) fun u => { u.noFault with dec := {} }

/-- INCR in 3.5 to 4.5 ns with SERVO_EN 0 sets INCR, and the effective increment too while COMP_EN is 0; outside, or with SERVO_EN 1, it is ignored with event 9. STEP with SERVO_EN 0 and a result that is not negative adds its signed ns to the base; TSEL does not step once it is ESTABLISHED and follows the base; a step that would go below 0, or with SERVO_EN 1, is ignored with event 9. COMP_UPDATE with a valid sensor takes c from the table of R366; with none it keeps c, sets COMP_HELD and raises event 475. SERVO_MEASUREMENT of a PTP base in ACQUIRE with an offset above 1 us steps the base by -offset and stays in ACQUIRE; of a FREE base, or while W_3's duties are suspended, it changes nothing. SOURCE_LOST of a source that is present takes a base from ACQUIRE or LOCKED to HOLDOVER and raises 464 + n. TIME_BASE_FAULT retires the base: its cofferdam bit is 1, SERVO_EN is 0, its state is FREE, event 19 occurs, and TSEL leaves it while an unretired base is left. Each leaves the other registers, DRAM, the queue and the other units as they were, but for its events. -/
def Obligations.TimeBaseCommands : Prop :=
  (∀ (s : State) (n : Fin 4) (v : Nat), 0x03800000 ≤ v → v ≤ 0x04800000 → s.rd (TIM_TB_CTL_SERVO_EN n) = 0 →
    ∃ t, exec (.incr n v) s = .next t ∧ t.rd (TIM_TB_INCR_INCR n) = v
      ∧ (s.rd (TIM_TB_CTL_COMP_EN n) = 0 → t.rd (TIM_TB_EFF_INCR n) = v)
      ∧ s.Keeps t (own [TIM_TB_INCR_INCR n, TIM_TB_EFF_INCR n]) id)
  ∧ (∀ (s : State) (n : Fin 4) (v : Nat), v < 0x03800000 ∨ 0x04800000 < v ∨ s.rd (TIM_TB_CTL_SERVO_EN n) ≠ 0 →
    ∃ t, exec (.incr n v) s = .next t ∧ t.status 9 = true ∧ s.Keeps t (own []) id)
  ∧ (∀ (s : State) (n : Fin 4) (v : Nat), s.rd (TIM_TB_CTL_SERVO_EN n) = 0 → 0 ≤ ((s.base n).t : Int) + signed 64 v * 2 ^ 32 →
    ∃ t, exec (.step n v) s = .next t ∧ ((t.base n).t : Int) = (s.base n).t + signed 64 v * 2 ^ 32
      ∧ (∀ k, k ≠ n.val → t.base k = s.base k)
      ∧ (s.rd TIM_TSEL_STATUS_ESTABLISHED ≠ 0 → s.rd TIM_TSEL_STATUS_SRC_USED = n → t.tsel = s.tsel)
      ∧ s.Keeps t (own [TIM_TSEL_DELTA, TIM_TSEL_STATUS_SLEWING]) fun u => { u with tim := { u.tim with tb := [], delta := 0 } })
  ∧ (∀ (s : State) (n : Fin 4) (v : Nat), s.rd (TIM_TB_CTL_SERVO_EN n) ≠ 0 ∨ ((s.base n).t : Int) + signed 64 v * 2 ^ 32 < 0 →
    ∃ t, exec (.step n v) s = .next t ∧ t.status 9 = true ∧ s.Keeps t (own []) id)
  ∧ (∀ s : State, s.rd (THM_TS_VALID (s.rd TIM_COMP_CTL_SENSOR)) ≠ 0 → bit (s.rd THM_RETIRED) (s.rd TIM_COMP_CTL_SENSOR) = false →
    ∃ t, exec .compUpdate s = .next t ∧ t.rd TIM_COMP_STATUS_COMP_HELD = 0
      ∧ t.u.tim.c = compC (fun k => signed 32 (s.rd (TIM_COMP k))) (signed 16 (s.rd (THM_TS_TEMP (s.rd TIM_COMP_CTL_SENSOR))))
      ∧ s.Keeps t (own [TIM_COMP_STATUS_TEMP, TIM_COMP_STATUS_COMP_HELD, TIM_TB_EFF_INCR 0, TIM_TB_EFF_INCR 1, TIM_TB_EFF_INCR 2,
          TIM_TB_EFF_INCR 3]) fun u => { u with tim := { u.tim with c := 0 } })
  ∧ (∀ s : State, s.rd (THM_TS_VALID (s.rd TIM_COMP_CTL_SENSOR)) = 0 ∨ bit (s.rd THM_RETIRED) (s.rd TIM_COMP_CTL_SENSOR) = true →
    ∃ t, exec .compUpdate s = .next t ∧ t.rd TIM_COMP_STATUS_COMP_HELD = 1 ∧ t.seen 475 = true
      ∧ s.Keeps t (own [TIM_COMP_STATUS_COMP_HELD]) id)
  ∧ (∀ (s : State) (n : Fin 4) (o : Int), n.val < 2 → s.rd (TIM_TB_CTL_STATE n) = 1 → 2000 < o.natAbs → (Run.start s).duty 3 = true →
    ∃ t, exec (.servoMeasurement n o) s = .next t ∧ ((t.base n).t : Int) = max 0 ((s.base n).t - o * 2 ^ 31)
      ∧ t.rd (TIM_TB_CTL_STATE n) = 1
      ∧ s.Keeps t (own [TIM_TB_OFFSET n, TIM_TSEL_DELTA, TIM_TSEL_STATUS_SLEWING]) fun u => { u with tim := { u.tim with tb := [], delta := 0 } })
  ∧ (∀ (s : State) (n : Fin 4) (o : Int), s.rd (TIM_TB_CTL_STATE n) = 0 ∨ (Run.start s).duty 3 = false → exec (.servoMeasurement n o) s = .next s)
  ∧ (∀ (s : State) (n : Fin 4), (s.base n).present = false → exec (.sourceLost n) s = .next s)
  ∧ (∀ (s : State) (n : Fin 4), (s.base n).present = true → s.rd (TIM_TB_CTL_STATE n) = 1 ∨ s.rd (TIM_TB_CTL_STATE n) = 2 →
    ∃ t, exec (.sourceLost n) s = .next t ∧ t.rd (TIM_TB_CTL_STATE n) = 3 ∧ t.seen (464 + n) = true ∧ (t.base n).present = false
      ∧ s.Keeps t (own [TIM_TB_CTL_STATE n, TIM_TB_INCR_INCR n, TIM_TB_EFF_INCR n, TIM_TSEL_STATUS_SRC_USED, TIM_TSEL_STATUS_ESTABLISHED,
          TIM_TSEL_STATUS_SLEWING, TIM_TSEL_DELTA]) fun u => { u with tim := { u.tim with tb := [], delta := 0 } })
  ∧ (∀ (s : State) (n : Fin 4), bit (s.rd EVT_COFFERDAM_UNITS_TB) n = false → s.rd TIM_TSEL_CTL_ALT < 4 →
    ∃ t, exec (.timeBaseFault n) s = .next t ∧ bit (t.rd EVT_COFFERDAM_UNITS_TB) n = true ∧ t.rd (TIM_TB_CTL_SERVO_EN n) = 0
      ∧ t.rd (TIM_TB_CTL_STATE n) = 0 ∧ t.status 19 = true
      ∧ ((∃ k < 4, k ≠ n.val ∧ bit (s.rd EVT_COFFERDAM_UNITS_TB) k = false) → t.rd TIM_TSEL_STATUS_SRC_USED ≠ n)
      ∧ s.Keeps t (fun k => retireKey k || own [TIM_TB_CTL_SERVO_EN n, TIM_TB_CTL_STATE n, TIM_TSEL_STATUS_SRC_USED,
          TIM_TSEL_STATUS_ESTABLISHED, TIM_TSEL_STATUS_SLEWING, TIM_TSEL_DELTA] k)
          fun u => { u with evt := {}, tim := { u.tim with tb := [], delta := 0 } })

/-- On a channel that is active or retraining BLOCK_ACCESS adds the requests that arrive, under the class of their traffic, and issues one: of the highest class waiting, in the batch's direction, to a bank that can accept it; the batch goes on or turns. Before it the neighbour rows are refreshed when the generator's draw is below PROB (its seed is a free value, assumption 4). A read that came with a link error counts LINK_CE, an uncorrectable one UE with its address, event 448 + c and a poisoned block, and retires the channel when it is the fourth distinct one within 1 ms. REFRESH and DRIFT_CHECK send their command. MEM_RETRAIN sets REQ and starts the lowest channel asked for when none retrains, else it waits. A step that passes ends the retraining at its last or eighth step; the first that fails starts it again with event 448 + c, the second retires the channel. In any other state of the channel each changes nothing (log entry 3). -/
def Obligations.DramChannels : Prop :=
  (∀ (s : State) (c bank : Fin 16) (l : List (Traffic × Bool × Nat)) (busy : List (Fin 16)) (waited ok last : Bool) (res : Fin 4) (st : Nat),
    st = s.rd (MEM_CH_STATUS_STATE c) →
    (st ≠ 2 → st ≠ 3 → exec (.blockAccess c l busy waited res) s = .next s ∧ exec (.refresh c bank) s = .next s)
      ∧ (st ≠ 2 → exec (.driftCheck c) s = .next s) ∧ (st ≠ 3 → exec (.retrainStepDone c ok last) s = .next s))
  ∧ (∀ (s : State) (c bank : Fin 16), s.rd (MEM_CH_STATUS_STATE c) = 2 →
    (∃ t, exec (.refresh c bank) s = .next t ∧ s.sends t (.packet (160 + c) 2 [bank] []) ∧ s.Keeps t (own []) id)
      ∧ ∃ t, exec (.driftCheck c) s = .next t ∧ s.sends t (.packet (160 + c) 3 [] []) ∧ s.Keeps t (own []) id)
  ∧ (∀ (bank : Nat → Nat) (q : MemCh) (busy : List Nat) (waited turn : Bool) (m : MemReq), pickRequest bank q busy waited = some (m, turn) →
    m ∈ q.queue ∧ (∀ x ∈ q.queue, m.cls ≤ x.cls) ∧ bank m.addr ∉ busy ∧ m.write = (q.batchWrite != turn)
      ∧ (turn = true → 16 ≤ q.batch ∨ waited = true ∨ ∀ x ∈ q.queue, x.cls = m.cls → x.write = m.write)
      ∧ ∀ pre post, q.queue = pre ++ m :: post → m ∉ pre → ∀ x ∈ pre, x.cls = m.cls → x.write = m.write → bank x.addr ∈ busy)
  ∧ (∀ (s : State) (c : Fin 16) (l : List (Traffic × Bool × Nat)) (busy : List (Fin 16)) (waited : Bool) (res : Fin 4) (x : MemCh),
    s.rd (MEM_CH_STATUS_STATE c) = 2 ∨ s.rd (MEM_CH_STATUS_STATE c) = 3 →
    x = { (Run.start s).memCh c with queue := ((Run.start s).memCh c).queue ++ (l.map fun q => ⟨trafficClass q.1, q.2.1, q.2.2⟩).filter fun q => channelOf q.addr == c.val } →
    pickRequest (fun a => (Run.start s).bankOf (localAddr a)) x (busy.map Fin.val) waited = none →
    ∃ t, exec (.blockAccess c l busy waited res) s = .next t ∧ (Run.start t).memCh c = x ∧ t.out = s.out
      ∧ s.Keeps t (own []) fun u => { u with mem := { u.mem with ch := [] } })
  ∧ (∀ (s : State) (c : Fin 16) (l : List (Traffic × Bool × Nat)) (busy : List (Fin 16)) (waited turn : Bool) (res : Fin 4) (x : MemCh) (m : MemReq)
      (bank row b v : Nat) (nb : List Out),
    s.rd (MEM_CH_STATUS_STATE c) = 2 ∨ s.rd (MEM_CH_STATUS_STATE c) = 3 →
    x = { (Run.start s).memCh c with queue := ((Run.start s).memCh c).queue ++ (l.map fun q => ⟨trafficClass q.1, q.2.1, q.2.2⟩).filter fun q => channelOf q.addr == c.val } →
    pickRequest (fun a => (Run.start s).bankOf (localAddr a)) x (busy.map Fin.val) waited = some (m, turn) →
    bank = (Run.start s).bankOf (localAddr m.addr) → row = (Run.start s).rowOf (localAddr m.addr) → b = m.addr / 256 * 256 →
    v = (List.range 16).foldl (fun v _ => nrrStep v) (x.lfsr.getD (Config.free s.fresh % 2 ^ 32)) →
    nb = (if v % 2 ^ 16 < s.rd MEM_NRR_PROB then ((if row = 0 then [] else [row - 1]) ++ if row + 1 < (Run.start s).rowCount then [row + 1] else []).map
      fun n => Out.packet (160 + c) 1 [bank, n] [] else []) →
    m.write = true ∨ res.val < 2 →
    ∃ t, exec (.blockAccess c l busy waited res) s = .next t
      ∧ t.out = .packet (160 + c) 0 [bank, row, b, b2n m.write] [] :: (nb.reverse ++ s.out)
      ∧ (Run.start t).memCh c = { x with queue := x.queue.erase m, batchWrite := x.batchWrite != turn, batch := if turn || 16 ≤ x.batch then 1 else x.batch + 1, lfsr := some v }
      ∧ t.rd (MEM_CH_ERR_LINK_CE c) = (if m.write = false ∧ res.val = 1 then min (s.rd (MEM_CH_ERR_LINK_CE c) + 1) (2 ^ (MEM_CH_ERR_LINK_CE c).w - 1)
          else s.rd (MEM_CH_ERR_LINK_CE c))
      ∧ s.Keeps t (own [MEM_CH_ERR_LINK_CE c]) fun u => { u with mem := { u.mem with ch := [] } })
  ∧ (∀ (s : State) (c : Fin 16) (busy : List (Fin 16)) (waited turn : Bool) (m : MemReq) (b : Nat) (bad : List (Nat × Nat)),
    s.rd (MEM_CH_STATUS_STATE c) = 2 ∨ s.rd (MEM_CH_STATUS_STATE c) = 3 → bit (s.rd MEM_CFG_RETIRED) c = false →
    pickRequest (fun a => (Run.start s).bankOf (localAddr a)) ((Run.start s).memCh c) (busy.map Fin.val) waited = some (m, turn) → m.write = false →
    b = m.addr / 256 * 256 → channelOf m.addr = c → (Run.start s).recPolder = none →
    bad = (b, (Run.start s).tselNs) :: ((Run.start s).memCh c).bad.filter (fun x => x.1 != b && (Run.start s).tselNs ≤ x.2 + 1000000) →
    ∃ t, exec (.blockAccess c [] busy waited 3) s = .next t
      ∧ t.rd (MEM_CH_ERR_UE c) = min (s.rd (MEM_CH_ERR_UE c) + 1) (2 ^ (MEM_CH_ERR_UE c).w - 1)
      ∧ t.rd MEM_UE_ADDR_ADDR = b % 2 ^ MEM_UE_ADDR_ADDR.w ∧ t.seen (448 + c) = true ∧ b ∈ t.u.mem.poison
      ∧ (bad.length < 4 → ((Run.start t).memCh c).bad = bad ∧ t.rd (MEM_CH_STATUS_STATE c) = s.rd (MEM_CH_STATUS_STATE c)
          ∧ s.Keeps t (own [MEM_CH_ERR_UE c, MEM_UE_ADDR_ADDR]) fun u => { u with mem := { u.mem with ch := [], poison := [] } })
      ∧ (4 ≤ bad.length → t.rd (MEM_CH_STATUS_STATE c) = 4 ∧ bit (t.rd MEM_CFG_RETIRED) c = true ∧ s.logged t 5 c 2 1 4 = true))
  ∧ (∀ (s : State) (v : Nat) (c : Fin 16), s.u.mem.due = [] → (∀ k < 16, s.rd (MEM_CH_STATUS_STATE k) ≠ 3) → s.rd (MEM_CH_STATUS_STATE c) = 2 → bit v c = true →
    (∀ k < c.val, bit v k = true → s.rd (MEM_CH_STATUS_STATE k) ≠ 2) →
    ∃ t, exec (.memRetrain v) s = .next t ∧ t.rd MEM_RETRAIN_REQ = (s.rd MEM_RETRAIN_REQ ||| v % 2 ^ 16) % 2 ^ 16 ∧ t.rd (MEM_CH_STATUS_STATE c) = 3
      ∧ t.u.mem.due = (List.range 16).filter (fun k => bit v k && k != c.val) ∧ ((Run.start t).memCh c).steps = 0 ∧ ((Run.start t).memCh c).fails = 0
      ∧ s.Keeps t (own [MEM_RETRAIN_REQ, MEM_CH_STATUS_STATE c]) fun u => { u with mem := { u.mem with ch := [], due := [] } })
  ∧ (∀ (s : State) (v : Nat) (c : Fin 16), s.u.mem.due = [] → s.rd (MEM_CH_STATUS_STATE c) = 3 →
    ∃ t, exec (.memRetrain v) s = .next t ∧ t.rd MEM_RETRAIN_REQ = (s.rd MEM_RETRAIN_REQ ||| v % 2 ^ 16) % 2 ^ 16
      ∧ t.u.mem.due = (List.range 16).filter (fun k => bit v k && s.rd (MEM_CH_STATUS_STATE k) != 3)
      ∧ s.Keeps t (own [MEM_RETRAIN_REQ]) fun u => { u with mem := { u.mem with due := [] } })
  ∧ (∀ (s : State) (c : Fin 16) (last : Bool) (x : MemCh), s.rd (MEM_CH_STATUS_STATE c) = 3 → x = (Run.start s).memCh c → s.u.mem.due = [] →
    s.rd MEM_RETRAIN_REQ < 2 ^ 16 →
    ∃ t, exec (.retrainStepDone c true last) s = .next t ∧ s.sends t (.packet (160 + c) 4 [] []) ∧ (Run.start t).memCh c = { x with steps := x.steps + 1 }
      ∧ (last = false → x.steps < 7 → s.Keeps t (own []) fun u => { u with mem := { u.mem with ch := [] } })
      ∧ (last = true ∨ 7 ≤ x.steps → t.rd (MEM_CH_STATUS_STATE c) = 2 ∧ bit (t.rd MEM_RETRAIN_REQ) c = false
          ∧ t.rd (MEM_CH_STATUS_RETRAINS c) = min (s.rd (MEM_CH_STATUS_RETRAINS c) + 1) (2 ^ (MEM_CH_STATUS_RETRAINS c).w - 1)
          ∧ signed 8 (t.rd (MEM_CH_STATUS_TRAIN_TEMP c)) = satS 8 (roundShift ((Run.start s).phyTemp c) 2)
          ∧ s.Keeps t (own [MEM_CH_STATUS_STATE c, MEM_CH_STATUS_RETRAINS c, MEM_CH_STATUS_TRAIN_TEMP c, MEM_RETRAIN_REQ])
              fun u => { u with mem := { u.mem with ch := [] }, thm := { u.thm with trained := [] } }))
  ∧ (∀ (s : State) (c : Fin 16) (last : Bool) (x : MemCh), s.rd (MEM_CH_STATUS_STATE c) = 3 → x = (Run.start s).memCh c → x.fails = 0 →
    ∃ t, exec (.retrainStepDone c false last) s = .next t ∧ (Run.start t).memCh c = { x with steps := 0, fails := 1 } ∧ t.seen (448 + c) = true
      ∧ t.rd (MEM_CH_ERR_TRAIN_FAIL c) = min (s.rd (MEM_CH_ERR_TRAIN_FAIL c) + 1) (2 ^ (MEM_CH_ERR_TRAIN_FAIL c).w - 1)
      ∧ s.Keeps t (own [MEM_CH_ERR_TRAIN_FAIL c]) fun u => { u with mem := { u.mem with ch := [] } })
  ∧ ∀ (s : State) (c : Fin 16) (last : Bool), s.rd (MEM_CH_STATUS_STATE c) = 3 → 1 ≤ ((Run.start s).memCh c).fails → s.rd MEM_CFG_RETIRED = 0 → s.u.mem.due = [] →
    ∃ t, exec (.retrainStepDone c false last) s = .next t ∧ t.rd (MEM_CH_STATUS_STATE c) = 4 ∧ t.rd MEM_CFG_RETIRED = 2 ^ c.val
      ∧ (Run.start t).memCh c = {} ∧ t.seen (448 + c) = true ∧ s.logged t 5 c 2 2 4 = true
      ∧ (s.rd MAG_PARITY_STATUS_OUT_VALID = 0 → t.rd MAG_PARITY_STATUS_OUT_VALID = 1 ∧ t.rd MAG_PARITY_STATUS_OUT_CH = c)
      ∧ s.Keeps t (fun k => retireKey k || own [MEM_CH_STATUS_STATE c, MEM_CFG_RETIRED, MEM_RETRAIN_REQ, MEM_CH_ERR_TRAIN_FAIL c, MAG_PARITY_STATUS_OUT_CH,
          MAG_PARITY_STATUS_OUT_VALID] k) fun u => { u with mem := { u.mem with ch := [] }, evt := {} }

/-- GO starts an idle channel at an aligned PC in its space with offsets, counters, BYTES and CAUSE 0; any other GO is ignored with event 9. STOP lands the whole 4 KiB units already moved and ends the channel with cause 7. Each instruction command acts on the instruction at PC when that is of its kind, else changes nothing (log entry 3); an illegal one faults with cause 1. MOVE checks both ranges, reads its source (a host source is requested) and stands in flight, PC moves on; with four in flight or an earlier one that meets its ranges it waits; a range outside its space faults with cause 3. MOVE_DONE lands the bytes and counts them; a failed host read faults with cause 5. LOOP jumps back with its steps added or, at the end of its count, goes on with offsets 0; another LOOP of its level or a lower one at work faults with cause 2. WAIT takes one from its semaphore or enters WAITING behind the others. SIGNAL waits for the channel's MOVEs and adds one; DMA_SEM adds v; both serve the first waiting channel, and stop at 65,535 with event 9. END enters DONE. A WAIT's timeout faults with cause 6. -/
def Obligations.DmaPrograms : Prop :=
  (∀ (s : State) (n : Fin 32) (pc : Nat), pc = s.rd (DMA_PC_ADDR n) → pc < 2 ^ 64 → ((Run.start s).dmaCh n).flight.length < 8 →
    s.rd (DMA_STATUS_STATE n) ≠ 1 → s.rd (DMA_STATUS_STATE n) ≠ 2 → pc % 32 = 0 →
    pc < (if s.rd (DMA_CTL_PSPACE n) = 0 then sramSize else Config.dramBytes) →
    ∃ t, exec (.dmaGo n) s = .next t ∧ t.rd (DMA_STATUS_STATE n) = 1 ∧ t.rd (DMA_STATUS_CAUSE n) = 0 ∧ t.rd (DMA_PC_ADDR n) = pc ∧ t.rd (DMA_BYTES_BYTES n) = 0
      ∧ (Run.start t).dmaCh n = { flight := ((Run.start s).dmaCh n).flight } ∧ (∀ k, k ≠ n.val → (Run.start t).dmaCh k = (Run.start s).dmaCh k)
      ∧ s.Keeps t (dmaKeys n) fun u => { u with dma := { u.dma with ch := [] } })
  ∧ (∀ (s : State) (n : Fin 32), s.rd (DMA_STATUS_STATE n) = 1 ∨ s.rd (DMA_STATUS_STATE n) = 2 ∨ s.rd (DMA_PC_ADDR n) % 32 ≠ 0
      ∨ (if s.rd (DMA_CTL_PSPACE n) = 0 then sramSize else Config.dramBytes) ≤ s.rd (DMA_PC_ADDR n) →
    ∃ t, exec (.dmaGo n) s = .next t ∧ s.Ignores t)
  ∧ (∀ (s : State) (n : Fin 32) (moved : List Nat), s.rd (DMA_STATUS_STATE n) ≠ 1 → s.rd (DMA_STATUS_STATE n) ≠ 2 → exec (.dmaStop n moved) s = .next s)
  ∧ (∀ (s : State) (n : Fin 32) (moved : List Nat), s.rd (DMA_STATUS_STATE n) = 1 ∨ s.rd (DMA_STATUS_STATE n) = 2 → ((Run.start s).dmaCh n).flight = [] →
    ∃ t, exec (.dmaStop n moved) s = .next t ∧ s.DmaFaults t n 7 (s.rd (DMA_PC_ADDR n)) ∧ s.Keeps t (dmaKeys n) fun u => { u with dma := {} })
  ∧ (∀ (s : State) (n : Fin 32) (u : Nat) (m : DmaMove) (bs : List Byte), s.rd (DMA_STATUS_STATE n) = 1 ∨ s.rd (DMA_STATUS_STATE n) = 2 →
    ((Run.start s).dmaCh n).flight = [m] → m.dspace = 1 → bs = m.data.take (4096 * u) →
    ∃ t, exec (.dmaStop n [u]) s = .next t ∧ t.rd (DMA_STATUS_STATE n) = 4 ∧ t.rd (DMA_STATUS_CAUSE n) = 7 ∧ t.seen (416 + n) = true
      ∧ (∀ a, t.u.dma.sram.look a 0#8 = if m.dst ≤ a ∧ a < m.dst + bs.length then bs.getD (a - m.dst) 0#8 else s.u.dma.sram.look a 0#8)
      ∧ t.rd (DMA_BYTES_BYTES n) = (s.rd (DMA_BYTES_BYTES n) + bs.length) % 2 ^ 64 ∧ ((Run.start t).dmaCh n).flight = []
      ∧ s.Keeps t (dmaKeys n) fun u => { u with dma := {} })
  ∧ (∀ (s : State) (n : Fin 32) (pc ss ds len src dst pat sa da : Nat) (c : DmaCh), s.dmaAt n pc (.move ss ds len src dst pat) → c = (Run.start s).dmaCh n →
    sa = (src + offsetSum c.os) % 2 ^ 64 → da = (dst + offsetSum c.od) % 2 ^ 64 → c.flight.length < 4 → (ss ≠ 3 → c.heldBack ss sa len = false) →
    c.heldBack ds da len = false → c.readPending ds da len = false → (ss ≠ 3 → (Run.start s).dmaInSpace ss false sa len = true) →
    (Run.start s).dmaInSpace ds true da len = true → (ss = 2 ∨ ds = 2 → (Run.start s).mayRequest = true) →
    (ss = 0 → (Run.start s).poisonedBlock sa len = none) →
    ∃ t, exec (.move n) s = .next t ∧ t.rd (DMA_PC_ADDR n) = (pc + 32) % 2 ^ 64 ∧ t.rd (DMA_STATUS_INFLIGHT n) = c.flight.length + 1
      ∧ (Run.start t).dmaCh n = { c with flight := c.flight ++ [⟨pc, ss, ds, sa, da, len, if ss = 0 then (Run.start s).rawBytes sa len
          else if ss = 1 then (List.range len).map fun k => s.u.dma.sram.look (sa + k) 0#8
          else if ss = 3 then (List.range len).map fun k => BitVec.ofNat 8 (pat / 2 ^ (8 * ((da + k) % 8))) else []⟩] }
      ∧ (∀ k, k ≠ n.val → (Run.start t).dmaCh k = (Run.start s).dmaCh k) ∧ t.out = (if ss = 2 then [Out.hostRead sa len] else []) ++ s.out
      ∧ s.Keeps t (own [DMA_PC_ADDR n, DMA_STATUS_INFLIGHT n]) fun u => { u with dma := { u.dma with ch := [] } })
  ∧ (∀ (s : State) (n : Fin 32) (pc ss ds len src dst pat : Nat) (c : DmaCh), s.dmaAt n pc (.move ss ds len src dst pat) → c = (Run.start s).dmaCh n →
    4 ≤ c.flight.length ∨ (ss ≠ 3 ∧ c.heldBack ss ((src + offsetSum c.os) % 2 ^ 64) len = true) ∨ c.heldBack ds ((dst + offsetSum c.od) % 2 ^ 64) len = true
      ∨ c.readPending ds ((dst + offsetSum c.od) % 2 ^ 64) len = true →
    exec (.move n) s = .next s)
  ∧ (∀ (s : State) (n : Fin 32) (pc ss ds len src dst pat da : Nat), s.dmaAt n pc (.move ss ds len src dst pat) → ((Run.start s).dmaCh n).flight = [] →
    da = (dst + offsetSum ((Run.start s).dmaCh n).od) % 2 ^ 64 → ss = 3 → (Run.start s).dmaInSpace ds true da len = false →
    ∃ t, exec (.move n) s = .next t ∧ s.DmaFaults t n 3 pc ∧ (ds = 0 → s.logged t 15 10 3 3 0 = true)
      ∧ s.Keeps t (fun k => dmaKeys n k || retireKey k) fun u => { u with dma := {}, evt := { u.evt with log := [] } })
  ∧ (∀ (s : State) (n : Fin 32) (k : Fin 4) (data : Option (List Byte)) (m : DmaMove) (bs : List Byte) (c : DmaCh), c = (Run.start s).dmaCh n →
    c.flight[k.val]? = some m → c.flight.length ≤ 4 → bs = (if m.sspace = 2 then padTo m.len (data.getD []) else m.data) → (m.sspace = 2 → data ≠ none) →
    (m.dspace = 0 → s.rd MEM_CFG_RETIRED = 0) →
    ∃ t, exec (.moveDone n k data) s = .next t ∧ t.rd (DMA_BYTES_BYTES n) = (s.rd (DMA_BYTES_BYTES n) + bs.length) % 2 ^ 64
      ∧ (Run.start t).dmaCh n = { c with flight := c.flight.eraseIdx k } ∧ t.rd (DMA_STATUS_INFLIGHT n) = c.flight.length - 1
      ∧ (m.dspace = 0 → t.u.dma.sram = s.u.dma.sram ∧ ∀ j < bs.length, Mem.get t.mem (m.dst + j) = bs.getD j 0#8)
      ∧ (m.dspace = 1 → ∀ a, t.u.dma.sram.look a 0#8 = if m.dst ≤ a ∧ a < m.dst + bs.length then bs.getD (a - m.dst) 0#8 else s.u.dma.sram.look a 0#8)
      ∧ (2 ≤ m.dspace → t.u.dma.sram = s.u.dma.sram ∧ t.toHost (.hostWrite m.dst bs))
      ∧ s.KeepsBut t (own [DMA_BYTES_BYTES n, DMA_STATUS_INFLIGHT n]) (fun a => m.dspace == 0 && m.dst ≤ a && a < m.dst + bs.length) fun u =>
          { u with dma := { u.dma with ch := u.dma.ch.drop n, sram := [] }, mem := { u.mem with poison := [] }, qif := { u.qif with gated := [] } })
  ∧ (∀ (s : State) (n : Fin 32) (k : Fin 4) (m : DmaMove), ((Run.start s).dmaCh n).flight[k.val]? = some m → m.sspace = 2 →
    ∃ t, exec (.moveDone n k none) s = .next t ∧ s.DmaFaults t n 5 m.pc ∧ s.Keeps t (dmaKeys n) fun u => { u with dma := {} })
  ∧ (∀ (s : State) (n : Fin 32) (pc l count ss ds back left : Nat) (c : DmaCh), s.dmaAt n pc (.loop l count ss ds back) → c = (Run.start s).dmaCh n →
    c.flight.length < 8 → c.cnt.look l 0 = 0 ∨ c.loopPc.look l 0 = pc → (∀ j < l, c.cnt.look j 0 = 0) →
    left = (if c.cnt.look l 0 = 0 then count else c.cnt.look l 0) - 1 → 32 * back ≤ pc ∨ left = 0 →
    ∃ t, exec (.loopInstr n) s = .next t ∧ t.rd (DMA_PC_ADDR n) = (if 0 < left then pc - 32 * back else pc + 32) % 2 ^ 64
      ∧ ((Run.start t).dmaCh n).cnt.look l 0 = left ∧ ((Run.start t).dmaCh n).loopPc.look l 0 = pc
      ∧ ((Run.start t).dmaCh n).os.look l 0 = (if 0 < left then (c.os.look l 0 + ss) % 2 ^ 64 else 0)
      ∧ ((Run.start t).dmaCh n).od.look l 0 = (if 0 < left then (c.od.look l 0 + ds) % 2 ^ 64 else 0)
      ∧ (∀ j, j ≠ l → ((Run.start t).dmaCh n).cnt.look j 0 = c.cnt.look j 0 ∧ ((Run.start t).dmaCh n).loopPc.look j 0 = c.loopPc.look j 0
          ∧ ((Run.start t).dmaCh n).os.look j 0 = c.os.look j 0 ∧ ((Run.start t).dmaCh n).od.look j 0 = c.od.look j 0)
      ∧ ((Run.start t).dmaCh n).flight = c.flight ∧ (∀ k, k ≠ n.val → (Run.start t).dmaCh k = (Run.start s).dmaCh k)
      ∧ s.Keeps t (own [DMA_PC_ADDR n, DMA_STATUS_INFLIGHT n]) fun u => { u with dma := { u.dma with ch := [] } })
  ∧ (∀ (s : State) (n : Fin 32) (pc l count ss ds back : Nat) (c : DmaCh), s.dmaAt n pc (.loop l count ss ds back) → c = (Run.start s).dmaCh n →
    (c.cnt.look l 0 ≠ 0 ∧ c.loopPc.look l 0 ≠ pc) ∨ c.cnt.look 0 0 ≠ 0 ∧ 0 < l →
    ∃ t, exec (.loopInstr n) s = .next t ∧ s.DmaFaults t n 2 pc ∧ s.Keeps t (dmaKeys n) fun u => { u with dma := {} })
  ∧ (∀ (s : State) (n : Fin 32) (pc sem limit : Nat), s.dmaAt n pc (.wait sem limit) → 0 < s.rd (DMA_SEM_COUNT sem) → s.rd (DMA_SEM_COUNT sem) < 2 ^ 16 →
    ∃ t, exec (.wait n) s = .next t ∧ t.rd (DMA_SEM_COUNT sem) = s.rd (DMA_SEM_COUNT sem) - 1 ∧ t.rd (DMA_PC_ADDR n) = (pc + 32) % 2 ^ 64
      ∧ s.Keeps t (own [DMA_SEM_COUNT sem, DMA_PC_ADDR n]) id)
  ∧ (∀ (s : State) (n : Fin 32) (pc sem limit : Nat), s.dmaAt n pc (.wait sem limit) → s.rd (DMA_SEM_COUNT sem) = 0 →
    ∃ t, exec (.wait n) s = .next t ∧ t.rd (DMA_STATUS_STATE n) = 2 ∧ t.rd (DMA_STATUS_SEM_WAIT n) = sem ∧ t.u.dma.waiting = s.u.dma.waiting ++ [n.val]
      ∧ s.Keeps t (own [DMA_STATUS_STATE n, DMA_STATUS_SEM_WAIT n]) fun u => { u with dma := { u.dma with waiting := [] } })
  ∧ (∀ (s : State) (n : Fin 32) (pc sem : Nat) (irq : Bool), s.dmaAt n pc (.signal sem irq) → ((Run.start s).dmaCh n).flight = [] →
    (∀ k ∈ s.u.dma.waiting, s.rd (DMA_STATUS_SEM_WAIT k) ≠ sem) →
    ∃ t, exec (.signal n) s = .next t ∧ t.rd (DMA_SEM_COUNT sem) = min (s.rd (DMA_SEM_COUNT sem) + 1) 65535 ∧ t.rd (DMA_PC_ADDR n) = (pc + 32) % 2 ^ 64
      ∧ (irq = true → t.seen (416 + n) = true) ∧ (65535 ≤ s.rd (DMA_SEM_COUNT sem) → t.seen 9 = true)
      ∧ s.Keeps t (own [DMA_SEM_COUNT sem, DMA_PC_ADDR n]) id)
  ∧ (∀ (s : State) (n : Fin 32) (pc sem : Nat) (irq : Bool), s.dmaAt n pc (.signal sem irq) → ((Run.start s).dmaCh n).flight ≠ [] → exec (.signal n) s = .next s)
  ∧ (∀ (s : State) (sem : Fin 64) (v m pc : Nat) (more : List Nat), s.u.dma.waiting = m :: more → m < 32 → s.rd (DMA_STATUS_SEM_WAIT m) = sem →
    0 < s.rd (DMA_SEM_COUNT sem) + v % 65536 → s.rd (DMA_SEM_COUNT sem) + v % 65536 ≤ 65535 → (∀ k ∈ more, k < 32 ∧ k ≠ m ∧ s.rd (DMA_STATUS_SEM_WAIT k) ≠ sem) →
    pc = s.rd (DMA_PC_ADDR m) →
    ∃ t, exec (.dmaSem sem v) s = .next t ∧ t.rd (DMA_SEM_COUNT sem) = s.rd (DMA_SEM_COUNT sem) + v % 65536 - 1 ∧ t.u.dma.waiting = more
      ∧ t.rd (DMA_STATUS_STATE m) = 1 ∧ t.rd (DMA_PC_ADDR m) = (pc + 32) % 2 ^ 64
      ∧ s.Keeps t (own [DMA_SEM_COUNT sem, DMA_STATUS_STATE m, DMA_PC_ADDR m]) fun u => { u with dma := { u.dma with waiting := [] } })
  ∧ (∀ (s : State) (sem : Fin 64) (v : Nat), (∀ k ∈ s.u.dma.waiting, s.rd (DMA_STATUS_SEM_WAIT k) ≠ sem) →
    ∃ t, exec (.dmaSem sem v) s = .next t ∧ t.rd (DMA_SEM_COUNT sem) = min (s.rd (DMA_SEM_COUNT sem) + v % 65536) 65535
      ∧ (65535 < s.rd (DMA_SEM_COUNT sem) + v % 65536 → t.seen 9 = true) ∧ s.Keeps t (own [DMA_SEM_COUNT sem]) id)
  ∧ (∀ (s : State) (n : Fin 32) (pc : Nat) (irq : Bool), s.dmaAt n pc (.fin irq) →
    ∃ t, exec (.endInstr n) s = .next t ∧ t.rd (DMA_STATUS_STATE n) = 3 ∧ (irq = true → t.seen (416 + n) = true)
      ∧ (irq = false → t.u = s.u) ∧ s.Keeps t (own [DMA_STATUS_STATE n]) id)
  ∧ (∀ (s : State) (n : Fin 32), s.rd (DMA_STATUS_STATE n) = 2 → (Run.start s).waitLimit n ≠ 0 →
    ∃ t, exec (.waitTimeout n) s = .next t ∧ s.DmaFaults t n 6 (s.rd (DMA_PC_ADDR n)) ∧ s.Keeps t (dmaKeys n) fun u => { u with dma := {} })
  ∧ (∀ (s : State) (n : Fin 32), s.rd (DMA_STATUS_STATE n) ≠ 2 ∨ (Run.start s).waitLimit n = 0 → exec (.waitTimeout n) s = .next s)
  ∧ (∀ (s : State) (n : Fin 32) (pc : Nat), s.rd (DMA_STATUS_STATE n) = 1 → pc = s.rd (DMA_PC_ADDR n) → s.rd (DMA_CTL_PSPACE n) = 0 →
    ((Run.start s).dmaCh n).heldBack 1 pc 32 = false → sramSize < pc + 32 ∨ dmaDecode ((Run.start s).sram pc 32) = none →
    ∀ i ∈ [Instr.move n, .loopInstr n, .wait n, .signal n, .endInstr n],
      ∃ t, exec i s = .next t ∧ s.DmaFaults t n (if sramSize < pc + 32 then 3 else 1) pc ∧ s.Keeps t (dmaKeys n) fun u => { u with dma := {} })
  ∧ ∀ (s : State) (n : Fin 32) (pc : Nat) (op : DmaOp), s.rd (DMA_STATUS_STATE n) ≠ 1 ∨ s.dmaAt n pc op →
    ∀ x ∈ [(Instr.move n, 1), (.loopInstr n, 2), (.wait n, 3), (.signal n, 4), (.endInstr n, 5)], op.opc ≠ x.2 ∨ s.rd (DMA_STATUS_STATE n) ≠ 1 →
      exec x.1 s = .next s

/-- A switch of TSEL by SRC or TSEL_REVERT leaves TSEL continuous once it is ESTABLISHED, else takes the base's time with Δ 0, raises event 468 and establishes TSEL when the new base is LOCKED; SRC of the base in use only stores. SLEW_DONE passes the TCLK cycles that bring Δ to 0: each base counts on by its effective increment, event 468. RESYNC without a record armed or active sets Δ to 0 with event 468; with one it is ignored with event 9. FORCE_EST establishes TSEL. TIM_SNAP copies the four bases and TSEL. An edge of GENLOCK_IN or PPS_IN is stamped, to 0.5 ns and corrected by LOOP and ASYM, against TSEL and its base, whose source is then present. A pulse leaves only while enabled and TSEL is ESTABLISHED. ARP, echo and membership queries are answered; Announce, Sync and Delay_Req of an enabled domain set its grandmaster (event 471 + d), UTC offset, port state, jam time and path delay, or are answered; any other frame counts in DISCARDS. A transmitted stamp adds TX_ADJ. ETH_LINK sets LINK with event 473 + n, joins the group, and a link that goes down loses its domain's source. -/
def Obligations.TimeSelection : Prop :=
  (∀ (s : State) (b : Fin 4), s.rd TIM_TSEL_STATUS_SRC_USED = b →
    ∃ t, exec (.src b) s = .next t ∧ t.rd TIM_TSEL_CTL_SRC = b ∧ s.Keeps t (own [TIM_TSEL_CTL_SRC]) id)
  ∧ (∀ (s : State) (b : Fin 4), s.rd TIM_TSEL_STATUS_SRC_USED ≠ b →
    ∃ t, exec (.src b) s = .next t ∧ t.rd TIM_TSEL_CTL_SRC = b ∧ t.rd TIM_TSEL_STATUS_SRC_USED = b ∧ t.seen 468 = true
      ∧ t.tsel = (if s.rd TIM_TSEL_STATUS_ESTABLISHED = 0 then (s.base b).t else s.tsel)
      ∧ t.rd TIM_TSEL_STATUS_ESTABLISHED = (if s.rd (TIM_TB_CTL_STATE b) = 2 then 1 else s.rd TIM_TSEL_STATUS_ESTABLISHED)
      ∧ t.rd TIM_TSEL_STATUS_SLEWING = (if s.rd TIM_TSEL_STATUS_ESTABLISHED = 0 ∨ (s.base b).t = s.tsel then 0 else 1)
      ∧ s.Keeps t (own [TIM_TSEL_CTL_SRC, TIM_TSEL_STATUS_SRC_USED, TIM_TSEL_STATUS_ESTABLISHED, TIM_TSEL_STATUS_SLEWING, TIM_TSEL_DELTA])
          fun u => { u with tim := { u.tim with delta := 0 } })
  ∧ (∀ (s : State) (p : Nat), p = s.rd TIM_TSEL_CTL_PRIMARY → p < 4 → s.rd TIM_TSEL_CTL_AUTO ≠ 0 → s.rd TIM_TSEL_CTL_REVERT ≠ 0 →
    s.rd (TIM_TB_CTL_STATE p) = 2 → s.rd TIM_TSEL_STATUS_SRC_USED ≠ p →
    ∃ t, exec .tselRevert s = .next t ∧ t.rd TIM_TSEL_STATUS_SRC_USED = p ∧ t.rd TIM_TSEL_STATUS_ESTABLISHED = 1 ∧ t.seen 468 = true
      ∧ t.tsel = (if s.rd TIM_TSEL_STATUS_ESTABLISHED = 0 then (s.base p).t else s.tsel)
      ∧ s.Keeps t (own [TIM_TSEL_STATUS_SRC_USED, TIM_TSEL_STATUS_ESTABLISHED, TIM_TSEL_STATUS_SLEWING, TIM_TSEL_DELTA])
          fun u => { u with tim := { u.tim with delta := 0 } })
  ∧ (∀ (s : State) (p : Nat), p = s.rd TIM_TSEL_CTL_PRIMARY → s.rd TIM_TSEL_CTL_AUTO = 0 ∨ s.rd TIM_TSEL_CTL_REVERT = 0 ∨ s.rd (TIM_TB_CTL_STATE p) ≠ 2
      ∨ s.rd TIM_TSEL_STATUS_SRC_USED = p → exec .tselRevert s = .next s)
  ∧ (∀ (s : State) (n : Nat), s.u.tim.delta ≠ 0 → 0 < s.rd TIM_TSEL_CTL_SLEW → n = ceilDiv s.u.tim.delta.natAbs (s.rd TIM_TSEL_CTL_SLEW) →
    ∃ t, exec .slewDone s = .next t ∧ t.u.tim.delta = 0 ∧ t.rd TIM_TSEL_DELTA = 0 ∧ t.rd TIM_TSEL_STATUS_SLEWING = 0 ∧ t.seen 468 = true
      ∧ (∀ k < 4, t.base k = { s.base k with t := (s.base k).t + n * (s.rd (TIM_TB_EFF_INCR k) * 256) })
      ∧ s.Keeps t (own [TIM_TSEL_DELTA, TIM_TSEL_STATUS_SLEWING]) fun u => { u with tim := { u.tim with delta := 0, tb := [] } })
  ∧ (∀ s : State, s.u.tim.delta = 0 →
    ∃ t, exec .slewDone s = .next t ∧ (∀ k < 4, t.base k = s.base k) ∧ s.Keeps t (own []) fun u => { u with tim := { u.tim with tb := [] } })
  ∧ (∀ s : State, (Run.start s).recording = true → ∃ t, exec .resync s = .next t ∧ s.Ignores t)
  ∧ (∀ s : State, (Run.start s).recording = false → (∀ p < 8, ((Run.start s).au p).wasRunning = false) →
    ∃ t, exec .resync s = .next t ∧ t.u.tim.delta = 0 ∧ t.rd TIM_TSEL_DELTA = 0 ∧ t.rd TIM_TSEL_STATUS_SLEWING = 0 ∧ t.seen 468 = true
      ∧ t.tsel = (s.base (s.rd TIM_TSEL_STATUS_SRC_USED)).t
      ∧ s.Keeps t (own [TIM_TSEL_DELTA, TIM_TSEL_STATUS_SLEWING]) fun u => { u with tim := { u.tim with delta := 0 } })
  ∧ (∀ s : State, ∃ t, exec .forceEst s = .next t ∧ t.rd TIM_TSEL_STATUS_ESTABLISHED = 1 ∧ s.Keeps t (own [TIM_TSEL_STATUS_ESTABLISHED]) id)
  ∧ (∀ s : State, ∃ t, exec .timSnap s = .next t
      ∧ (∀ k < 4, t.rd (TIM_TB_SNAP_S_SEC k) = (s.base k).t / (1000000000 * 2 ^ 32) % 2 ^ 48
          ∧ t.rd (TIM_TB_SNAP_NS_NS k) = (s.base k).t / 2 ^ 32 % 1000000000 ∧ t.rd (TIM_TB_SNAP_NS_FRAC k) = (s.base k).t % 2 ^ 32)
      ∧ t.rd TIM_TSEL_SNAP_S_SEC = s.tsel / (1000000000 * 2 ^ 32) % 2 ^ 48 ∧ t.rd TIM_TSEL_SNAP_NS_NS = s.tsel / 2 ^ 32 % 1000000000
      ∧ t.rd TIM_TSEL_SNAP_NS_FRAC = s.tsel % 2 ^ 32
      ∧ s.Keeps t (fun k => own [TIM_TSEL_SNAP_S_SEC, TIM_TSEL_SNAP_NS_NS, TIM_TSEL_SNAP_NS_FRAC] k
          || (List.range 4).any fun i => own [TIM_TB_SNAP_S_SEC i, TIM_TB_SNAP_NS_NS i, TIM_TB_SNAP_NS_FRAC i] k) id)
  ∧ (∀ (s : State) (q e : Nat), q = (((s.tsel : Int) - s.rd (TIM_PORT_LOOP 48) * 2 ^ 30 + signed 32 (s.rd (TIM_PORT_ASYM 48)) * 2 ^ 31) / 2 ^ 31).toNat * 2 ^ 31 →
    e = ((((s.base 2).t : Int) - s.rd (TIM_PORT_LOOP 48) * 2 ^ 30 + signed 32 (s.rd (TIM_PORT_ASYM 48)) * 2 ^ 31) / 2 ^ 31).toNat * 2 ^ 31 →
    ∃ t, exec .genlockEdge s = .next t ∧ t.rd TIM_GL_TS_SEC = q / (1000000000 * 2 ^ 32) % 2 ^ 48
      ∧ t.rd TIM_GL_TS_NS = q / 2 ^ 32 % 1000000000 ∧ (t.base 2).edge = e ∧ (t.base 2).present = true
      ∧ t.rd (TIM_TB_CTL_STATE 2) = (if bit (s.rd EVT_COFFERDAM_UNITS_TB) 2 = false ∧ (s.rd (TIM_TB_CTL_STATE 2) = 3
          ∨ (s.rd (TIM_TB_CTL_STATE 2) = 0 ∧ s.rd (TIM_TB_CTL_SERVO_EN 2) ≠ 0)) then 1 else s.rd (TIM_TB_CTL_STATE 2))
      ∧ s.Keeps t (own [TIM_GL_TS_SEC, TIM_GL_TS_NS, TIM_TB_CTL_STATE 2]) fun u => { u with tim := { u.tim with tb := u.tim.tb.drop 2 } })
  ∧ (∀ (s : State) (q e : Nat), q = (((s.tsel : Int) - s.rd (TIM_PORT_LOOP 50) * 2 ^ 30 + signed 32 (s.rd (TIM_PORT_ASYM 50)) * 2 ^ 31) / 2 ^ 31).toNat * 2 ^ 31 →
    e = ((((s.base 3).t : Int) - s.rd (TIM_PORT_LOOP 50) * 2 ^ 30 + signed 32 (s.rd (TIM_PORT_ASYM 50)) * 2 ^ 31) / 2 ^ 31).toNat * 2 ^ 31 →
    ∃ t, exec .ppsEdge s = .next t ∧ t.rd TIM_PPS_TS_SEC = q / (1000000000 * 2 ^ 32) % 2 ^ 48
      ∧ t.rd TIM_PPS_TS_NS = q / 2 ^ 32 % 1000000000 ∧ (t.base 3).edge = e ∧ (t.base 3).present = true
      ∧ t.rd (TIM_TB_CTL_STATE 3) = (if bit (s.rd EVT_COFFERDAM_UNITS_TB) 3 = false ∧ (s.rd (TIM_TB_CTL_STATE 3) = 3
          ∨ (s.rd (TIM_TB_CTL_STATE 3) = 0 ∧ s.rd (TIM_TB_CTL_SERVO_EN 3) ≠ 0)) then 1 else s.rd (TIM_TB_CTL_STATE 3))
      ∧ s.Keeps t (own [TIM_PPS_TS_SEC, TIM_PPS_TS_NS, TIM_TB_CTL_STATE 3]) fun u => { u with tim := { u.tim with tb := u.tim.tb.drop 3 } })
  ∧ (∀ s : State, s.rd TIM_TSEL_STATUS_ESTABLISHED ≠ 0 →
    (s.rd TIM_PULSE_CTL_SO_EN ≠ 0 → ∃ t, exec .syncOutPulse s = .next t ∧ t.out = .pin "SYNC_OUT" false :: .pin "SYNC_OUT" true :: s.out ∧ s.Keeps t (own []) id)
      ∧ (s.rd TIM_PULSE_CTL_PPS_EN ≠ 0 → ∃ t, exec .ppsOutPulse s = .next t ∧ t.out = .pin "PPS_OUT" false :: .pin "PPS_OUT" true :: s.out ∧ s.Keeps t (own []) id))
  ∧ (∀ s : State, (s.rd TIM_TSEL_STATUS_ESTABLISHED = 0 ∨ s.rd TIM_PULSE_CTL_SO_EN = 0 → exec .syncOutPulse s = .next s)
      ∧ (s.rd TIM_TSEL_STATUS_ESTABLISHED = 0 ∨ s.rd TIM_PULSE_CTL_PPS_EN = 0 → exec .ppsOutPulse s = .next s))
  ∧ (∀ (s : State) (p : Fin 2) (icmp : Bool), ∃ t, exec (.ptpMessage (.echo p icmp)) s = .next t ∧ s.sends t (.ether p (if icmp then 17 else 16) []) ∧ s.Keeps t (own []) id)
  ∧ (∀ (s : State) (p : Fin 2), (∃ d < 2, s.rd (NET_PTP_CFG_EN d) ≠ 0 ∧ s.rd (NET_PTP_CFG_PORT d) = p) →
    ∃ t, exec (.ptpMessage (.query p)) s = .next t ∧ s.sends t (.ether p 18 [0xE0000181]) ∧ s.Keeps t (own []) id)
  ∧ (∀ (s : State) (p : Fin 2) (dom gm utc st d : Nat) (jam : Option Nat), (Run.start s).ptpDomain p dom = some d → gm < 2 ^ 64 → (∀ j, jam = some j → j < 2 ^ 64) →
    ∃ t, exec (.ptpMessage (.announce p dom gm utc st jam)) s = .next t ∧ t.rd (NET_PTP_GM d) = gm ∧ t.rd (NET_PTP_STATUS_UTC_OFFSET d) = utc % 2 ^ 16
      ∧ t.rd (NET_PTP_STATUS_PORT_STATE d) = st % 16 ∧ (s.rd (NET_PTP_GM d) ≠ gm → t.seen (471 + d) = true)
      ∧ t.rd (NET_PTP_JAM d) = jam.getD (s.rd (NET_PTP_JAM d))
      ∧ t.rd TIM_TC_JAM = (if jam.getD (s.rd (NET_PTP_JAM d)) ≠ s.rd (NET_PTP_JAM d) ∧ s.rdA TIM_TC_CTL_JAM_SM = 1 ∧ s.rd TIM_TSEL_STATUS_SRC_USED = d
          then jam.getD 0 else s.rd TIM_TC_JAM)
      ∧ s.Keeps t (own [NET_PTP_GM d, NET_PTP_STATUS_UTC_OFFSET d, NET_PTP_STATUS_PORT_STATE d, NET_PTP_JAM d, TIM_TC_JAM]) id)
  ∧ (∀ (s : State) (p : Fin 2) (dom path d : Nat), (Run.start s).ptpDomain p dom = some d →
    ∃ t, exec (.ptpMessage (.sync p dom path)) s = .next t ∧ t.rd (NET_PTP_PATH d) = path % 2 ^ 32 ∧ (t.base d).present = true
      ∧ t.rd (TIM_TB_CTL_STATE d) = (if bit (s.rd EVT_COFFERDAM_UNITS_TB) d = false ∧ (s.rd (TIM_TB_CTL_STATE d) = 3
          ∨ (s.rd (TIM_TB_CTL_STATE d) = 0 ∧ s.rd (TIM_TB_CTL_SERVO_EN d) ≠ 0)) then 1 else s.rd (TIM_TB_CTL_STATE d))
      ∧ s.Keeps t (own [NET_PTP_PATH d, TIM_TB_CTL_STATE d]) fun u => { u with tim := { u.tim with tb := u.tim.tb.drop d } })
  ∧ (∀ (s : State) (p : Fin 2) (dom d q : Nat), (Run.start s).ptpDomain p dom = some d → q = ((s.base d).t - s.rd (NET_ETH_RX_ADJ p) * 2 ^ 31) / 2 ^ 31 * 2 ^ 31 →
    ∃ t, exec (.ptpMessage (.delayReq p dom)) s = .next t
      ∧ t.out = (if s.rd (NET_PTP_CFG_SLAVE_ONLY d) = 0 then [Out.ether p 9 [dom, timeSec q, timeNs q, timeFrac q]] else []) ++ s.out ∧ s.Keeps t (own []) id)
  ∧ (∀ (s : State) (p : Fin 2) (dom x y z : Nat) (jam : Option Nat) (m : PtpMsg), m = .other p ∨ ((Run.start s).ptpDomain p dom = none
      ∧ m ∈ [PtpMsg.announce p dom x y z jam, .sync p dom x, .delayReq p dom, .management p dom]) →
    ∃ t, exec (.ptpMessage m) s = .next t ∧ t.rd (NET_ETH_STATUS_DISCARDS p) = min (s.rd (NET_ETH_STATUS_DISCARDS p) + 1) 65535
      ∧ s.Keeps t (own [NET_ETH_STATUS_DISCARDS p]) id)
  ∧ (∀ (s : State) (p : Fin 2) (dom d : Nat), (Run.start s).ptpDomain p dom = some d → exec (.ptpMessage (.management p dom)) s = .next s)
  ∧ (∀ (s : State) (d : Fin 2) (req : Bool) (p q : Nat), p = s.rd (NET_PTP_CFG_PORT d) → q = ((s.base d).t + s.rd (NET_ETH_TX_ADJ p) * 2 ^ 31) / 2 ^ 31 * 2 ^ 31 →
    s.rd (NET_PTP_CFG_EN d) ≠ 0 → s.rd (NET_ETH_STATUS_LINK p) ≠ 0 → req = true ∨ s.rd (NET_PTP_CFG_SLAVE_ONLY d) = 0 →
    ∃ t, exec (.ptpMessageTransmit d req) s = .next t
      ∧ s.sends t (.ether p (if req then 1 else 0) [s.rd (NET_PTP_CFG_DOMAIN d), timeSec q, timeNs q, timeFrac q]) ∧ s.Keeps t (own []) id)
  ∧ (∀ (s : State) (d : Fin 2) (req : Bool), s.rd (NET_PTP_CFG_EN d) = 0 ∨ s.rd (NET_ETH_STATUS_LINK (s.rd (NET_PTP_CFG_PORT d))) = 0
      ∨ (req = false ∧ s.rd (NET_PTP_CFG_SLAVE_ONLY d) ≠ 0) → exec (.ptpMessageTransmit d req) s = .next s)
  ∧ (∀ (s : State) (n : Fin 2) (up : Bool), (s.rd (NET_ETH_STATUS_LINK n) ≠ 0 ↔ up = true) → exec (.ethLink n up) s = .next s)
  ∧ (∀ (s : State) (n : Fin 2) (up : Bool), (s.rd (NET_ETH_STATUS_LINK n) = 0 ↔ up = true) →
    (up = false → ∀ d < 2, s.rd (NET_PTP_CFG_EN d) = 0 ∨ s.rd (NET_PTP_CFG_PORT d) ≠ n ∨ (s.base d).present = false) →
    ∃ t, exec (.ethLink n up) s = .next t ∧ t.rd (NET_ETH_STATUS_LINK n) = (if up then 1 else 0) ∧ t.seen (473 + n) = true
      ∧ (up = true → (∃ d < 2, s.rd (NET_PTP_CFG_EN d) ≠ 0 ∧ s.rd (NET_PTP_CFG_PORT d) = n) → Out.ether n 18 [0xE0000181] ∈ t.out)
      ∧ s.Keeps t (own [NET_ETH_STATUS_LINK n]) id)
  ∧ ∀ (s : State) (n d : Fin 2), s.rd (NET_ETH_STATUS_LINK n) ≠ 0 → s.rd (NET_PTP_CFG_EN d) ≠ 0 → s.rd (NET_PTP_CFG_PORT d) = n → (s.base d).present = true →
    s.rd (TIM_TB_CTL_STATE d) = 1 ∨ s.rd (TIM_TB_CTL_STATE d) = 2 →
    (∀ e < 2, e ≠ d.val → s.rd (NET_PTP_CFG_EN e) = 0 ∨ s.rd (NET_PTP_CFG_PORT e) ≠ n ∨ (s.base e).present = false) →
    ∃ t, exec (.ethLink n false) s = .next t ∧ t.rd (NET_ETH_STATUS_LINK n) = 0 ∧ t.seen (473 + n) = true ∧ t.rd (TIM_TB_CTL_STATE d) = 3
      ∧ t.seen (464 + d) = true ∧ (t.base d).present = false
      ∧ s.Keeps t (own [NET_ETH_STATUS_LINK n, TIM_TB_CTL_STATE d, TIM_TB_INCR_INCR d, TIM_TB_EFF_INCR d, TIM_TSEL_STATUS_SRC_USED, TIM_TSEL_STATUS_ESTABLISHED,
          TIM_TSEL_STATUS_SLEWING, TIM_TSEL_DELTA]) fun u => { u with tim := { u.tim with tb := [], delta := 0 } }

/-- START of an OFF port with a record enters CLOCKING, STOP drains a RUNNING port and ends a clocking or faulty one, each with AU_STATE; START in any other state, and STOP in OFF, is ignored with event 9. A TDM frame of a port that is not OFF commits the mask 3 bit clocks or more after its write; in CLOCKING an output drives idle slots and the last LEAD frame makes the port RUNNING, with the next media frame of TSEL and a LAT that is a free value (assumption 4), while a slave whose ratio is outside 0.25 to 4 counts afresh; in RUNNING an input takes its slots and an output drives its media words, left-justified with BYPASS, else free values of the rate converter; in DRAINING the last LEAD frame ends in OFF; in FAULT a ratio in range returns to CLOCKING. A slave that loses sync, or a ratio out of range, faults a RUNNING port with cause 1 or 2; inputs raise AU_ERROR too. A media instant of an input gives its slots, or silence which it counts and spans; an output plays its source, or frame RD of its ring, or counts an underrun with AU_ERROR at its start. A recorded frame goes to the history ring. -/
def Obligations.AudioPorts : Prop :=
  (∀ (s : State) (p : Fin 8), s.rd (AUD_STATUS_STATE p) = 0 → (Run.start s).hasCfg 0x0E01 p = true →
    ∃ t, exec (.audStart p) s = .next t ∧ t.rd (AUD_STATUS_STATE p) = 1 ∧ t.rd (AUD_STATUS_FAULT_CAUSE p) = 0
      ∧ t.rd (AUD_STATUS_LEAD_LEFT p) = (Run.start s).auLead p % 256 ∧ t.seen (480 + 2 * p) = true
      ∧ s.Keeps t (own [AUD_STATUS_STATE p, AUD_STATUS_FAULT_CAUSE p, AUD_STATUS_LEAD_LEFT p]) id)
  ∧ (∀ (s : State) (p : Fin 8), (s.rd (AUD_STATUS_STATE p) ≠ 0 ∨ (Run.start s).hasCfg 0x0E01 p = false → ∃ t, exec (.audStart p) s = .next t ∧ s.Ignores t)
      ∧ (s.rd (AUD_STATUS_STATE p) = 0 → ∃ t, exec (.audStop p) s = .next t ∧ s.Ignores t) ∧ (s.rd (AUD_STATUS_STATE p) = 3 → exec (.audStop p) s = .next s))
  ∧ (∀ (s : State) (p : Fin 8), s.rd (AUD_STATUS_STATE p) = 2 →
    ∃ t, exec (.audStop p) s = .next t ∧ t.rd (AUD_STATUS_STATE p) = 3 ∧ t.rd (AUD_STATUS_LEAD_LEFT p) = (Run.start s).auLead p % 256 ∧ t.seen (480 + 2 * p) = true
      ∧ s.Keeps t (own [AUD_STATUS_STATE p, AUD_STATUS_FAULT_CAUSE p, AUD_STATUS_LEAD_LEFT p]) id)
  ∧ (∀ (s : State) (p : Fin 8), s.rd (AUD_STATUS_STATE p) = 1 ∨ s.rd (AUD_STATUS_STATE p) = 4 →
    ∃ t, exec (.audStop p) s = .next t ∧ t.rd (AUD_STATUS_STATE p) = 0 ∧ t.rd (AUD_STATUS_FAULT_CAUSE p) = 0 ∧ t.seen (480 + 2 * p) = true
      ∧ (Run.start t).au p = { (Run.start s).au p with wasRunning := false, slots := [], cur := [] }
      ∧ s.Keeps t (own [AUD_STATUS_STATE p, AUD_STATUS_FAULT_CAUSE p, AUD_STATUS_LEAD_LEFT p, AUD_STATUS_UNDERRUN p])
          fun u => { u with tim := { u.tim with au := u.tim.au.drop p } })
  ∧ (∀ (s : State) (p : Fin 8) (age : Nat) (words : List Nat), s.rd (AUD_STATUS_STATE p) = 0 → exec (.tdmFrame p age words) s = .next s)
  ∧ (∀ (s : State) (p : Fin 8) (age : Nat) (words : List Nat), s.rd (AUD_STATUS_STATE p) ≠ 0 → s.rd (AUD_STATUS_STATE p) < 5 → 3 ≤ age → s.rd (AUD_MASK p) < 2 ^ 32 →
    exec (.tdmFrame p age words) s = exec (.tdmFrame p 0 words) (s.wrA (AUD_MASK p) (s.rd (AUD_MASK p)))
      ∧ ∃ t, exec (.tdmFrame p age words) s = .next t ∧ t.rdA (AUD_MASK p) = s.rd (AUD_MASK p))
  ∧ (∀ (s : State) (p : Fin 8) (age : Nat) (words : List Nat) (left : Nat), s.rd (AUD_STATUS_STATE p) = 1 → age < 3 →
    left = s.rd (AUD_STATUS_LEAD_LEFT p) → (Run.start s).auMaster p = true ∨ (0x04000000 ≤ s.rd (AUD_RATIO p) ∧ s.rd (AUD_RATIO p) ≤ 0x40000000) →
    (1 < left → left < 256 → ∃ t, exec (.tdmFrame p age words) s = .next t ∧ t.rd (AUD_STATUS_LEAD_LEFT p) = left - 1 ∧ t.out = s.idleFrame p ++ s.out
        ∧ s.Keeps t (own [AUD_STATUS_LEAD_LEFT p]) id)
      ∧ (left ≤ 1 → ∃ t, exec (.tdmFrame p age words) s = .next t ∧ t.rd (AUD_STATUS_STATE p) = 2 ∧ t.seen (480 + 2 * p) = true ∧ s.idleFrame p ⊆ t.out
        ∧ t.rd (AUD_LAT p) = Config.free s.fresh % 2 ^ 32
        ∧ (Run.start t).au p = { (Run.start s).au p with wasRunning := true, media := ceilDiv (s.tsel * (Run.start s).auFs p) secondQ }
        ∧ s.Keeps t (own [AUD_STATUS_STATE p, AUD_STATUS_FAULT_CAUSE p, AUD_STATUS_LEAD_LEFT p, AUD_LAT p]) fun u => { u with tim := { u.tim with au := u.tim.au.drop p } }))
  ∧ (∀ (s : State) (p : Fin 8) (age : Nat) (words : List Nat), s.rd (AUD_STATUS_STATE p) = 1 → age < 3 → (Run.start s).auMaster p = false →
    s.rd (AUD_RATIO p) < 0x04000000 ∨ 0x40000000 < s.rd (AUD_RATIO p) →
    ∃ t, exec (.tdmFrame p age words) s = .next t ∧ t.rd (AUD_STATUS_LEAD_LEFT p) = (Run.start s).auLead p % 256 ∧ t.out = s.idleFrame p ++ s.out
      ∧ s.Keeps t (own [AUD_STATUS_LEAD_LEFT p]) id)
  ∧ (∀ (s : State) (p : Fin 8) (age : Nat) (words : List Nat), s.rd (AUD_STATUS_STATE p) = 2 → age < 3 → (Run.start s).auOut p = false →
    ∃ t, exec (.tdmFrame p age words) s = .next t ∧ ((Run.start t).au p).slots = words.map (· % 2 ^ (Run.start s).auSlotW p)
      ∧ s.Keeps t (own []) fun u => { u with tim := { u.tim with au := u.tim.au.put p { u.tim.au.look p {} with slots := [] } } })
  ∧ (∀ (s : State) (p : Fin 8) (age w : Nat) (words slots : List Nat), s.rd (AUD_STATUS_STATE p) = 2 → age < 3 → (Run.start s).auOut p = true →
    w = (Run.start s).auSlotW p → slots = (Run.start s).auSlots p →
    ∃ t, exec (.tdmFrame p age words) s = .next t
      ∧ s.sends t (.tdm p ((List.range ((Run.start s).auN p 9 1)).map fun j => s.slot p (some (
          if (Run.start s).auBypass p then ((Run.start s).au p).cur.getD (slots.idxOf j) 0 / 2 ^ (32 - w)
          else slotWord false w (Config.free (s.fresh + (List.range j).countP fun i => slots.contains i && bit (s.rdA (AUD_MASK p)) i) % 2 ^ 24 * 256))) j))
      ∧ s.Keeps t (own []) id)
  ∧ (∀ (s : State) (p : Fin 8) (age : Nat) (words : List Nat) (left : Nat), s.rd (AUD_STATUS_STATE p) = 3 → age < 3 → left = s.rd (AUD_STATUS_LEAD_LEFT p) →
    (1 < left → left < 256 → ∃ t, exec (.tdmFrame p age words) s = .next t ∧ t.rd (AUD_STATUS_LEAD_LEFT p) = left - 1 ∧ t.out = s.idleFrame p ++ s.out
        ∧ s.Keeps t (own [AUD_STATUS_LEAD_LEFT p]) id)
      ∧ (left ≤ 1 → ∃ t, exec (.tdmFrame p age words) s = .next t ∧ t.rd (AUD_STATUS_STATE p) = 0 ∧ t.seen (480 + 2 * p) = true ∧ s.idleFrame p ⊆ t.out
        ∧ s.Keeps t (own [AUD_STATUS_STATE p, AUD_STATUS_FAULT_CAUSE p, AUD_STATUS_LEAD_LEFT p, AUD_STATUS_UNDERRUN p])
            fun u => { u with tim := { u.tim with au := u.tim.au.drop p } }))
  ∧ (∀ (s : State) (p : Fin 8) (age : Nat) (words : List Nat), s.rd (AUD_STATUS_STATE p) = 4 → age < 3 → 0x04000000 ≤ s.rd (AUD_RATIO p) → s.rd (AUD_RATIO p) ≤ 0x40000000 →
    ∃ t, exec (.tdmFrame p age words) s = .next t ∧ t.rd (AUD_STATUS_STATE p) = 1 ∧ t.rd (AUD_STATUS_FAULT_CAUSE p) = 0 ∧ t.seen (480 + 2 * p) = true
      ∧ t.rd (AUD_STATUS_LEAD_LEFT p) = (Run.start s).auLead p % 256
      ∧ s.Keeps t (own [AUD_STATUS_STATE p, AUD_STATUS_FAULT_CAUSE p, AUD_STATUS_LEAD_LEFT p]) id)
  ∧ (∀ (s : State) (p : Fin 8), (Run.start s).auMaster p = false → s.rd (AUD_STATUS_STATE p) = 2 →
    ∃ t, exec (.frameSyncLost p) s = .next t ∧ t.rd (AUD_STATUS_STATE p) = 4 ∧ t.rd (AUD_STATUS_FAULT_CAUSE p) = 1 ∧ t.seen (480 + 2 * p) = true
      ∧ ((Run.start s).auOut p = false → t.seen (481 + 2 * p) = true)
      ∧ s.Keeps t (own [AUD_STATUS_STATE p, AUD_STATUS_FAULT_CAUSE p, AUD_STATUS_LEAD_LEFT p]) id)
  ∧ (∀ (s : State) (p : Fin 8), (Run.start s).auMaster p = true ∨ (s.rd (AUD_STATUS_STATE p) ≠ 1 ∧ s.rd (AUD_STATUS_STATE p) ≠ 2) → exec (.frameSyncLost p) s = .next s)
  ∧ (∀ (s : State) (p : Fin 8), (Run.start s).auMaster p = false → s.rd (AUD_STATUS_STATE p) = 1 →
    ∃ t, exec (.frameSyncLost p) s = .next t ∧ t.rd (AUD_STATUS_LEAD_LEFT p) = (Run.start s).auLead p % 256 ∧ s.Keeps t (own [AUD_STATUS_LEAD_LEFT p]) id)
  ∧ (∀ (s : State) (p : Fin 8) (ratio : Nat), s.rd (AUD_STATUS_STATE p) ≠ 0 → (Run.start s).duty 3 = true →
    s.rd (AUD_STATUS_STATE p) ≠ 2 ∨ (0x04000000 ≤ ratio % 2 ^ 32 ∧ ratio % 2 ^ 32 ≤ 0x40000000) →
    ∃ t, exec (.ratioUpdate p ratio) s = .next t ∧ t.rd (AUD_RATIO p) = ratio % 2 ^ 32 ∧ s.Keeps t (own [AUD_RATIO p]) id)
  ∧ (∀ (s : State) (p : Fin 8) (ratio : Nat), s.rd (AUD_STATUS_STATE p) = 2 → (Run.start s).duty 3 = true →
    ratio % 2 ^ 32 < 0x04000000 ∨ 0x40000000 < ratio % 2 ^ 32 →
    ∃ t, exec (.ratioUpdate p ratio) s = .next t ∧ t.rd (AUD_RATIO p) = ratio % 2 ^ 32 ∧ t.rd (AUD_STATUS_STATE p) = 4 ∧ t.rd (AUD_STATUS_FAULT_CAUSE p) = 2
      ∧ t.seen (480 + 2 * p) = true ∧ ((Run.start s).auOut p = false → t.seen (481 + 2 * p) = true)
      ∧ s.Keeps t (own [AUD_RATIO p, AUD_STATUS_STATE p, AUD_STATUS_FAULT_CAUSE p, AUD_STATUS_LEAD_LEFT p]) id)
  ∧ (∀ (s : State) (p : Fin 8) (ratio : Nat), s.rd (AUD_STATUS_STATE p) = 0 ∨ (Run.start s).duty 3 = false → exec (.ratioUpdate p ratio) s = .next s)
  ∧ (∀ (s : State) (p : Fin 8), s.noBlock → s.rd (AUD_STATUS_STATE p) = 0 ∨ ((Run.start s).au p).wasRunning = false → exec (.mediaFrame p) s = .next s)
  ∧ (∀ (s : State) (p : Fin 8) (n a : Nat) (words : List Nat), s.noBlock → s.rd (AUD_STATUS_STATE p) = 2 → ((Run.start s).au p).wasRunning = true →
    (Run.start s).auOut p = false → (Run.start s).auBypass p = true → n = ((Run.start s).au p).media → a = (Run.start s).auRing p n →
    words = (((Run.start s).auSlots p).map fun j => if bit (s.rdA (AUD_MASK p)) j then ((Run.start s).au p).slots.getD j 0 * 2 ^ (32 - (Run.start s).auSlotW p) else 0) →
    bit ((Run.start s).auN p 0xE 1) 0 = false ∨ ((Run.start s).allowed 9 true a (4 * words.length) = true ∧ s.rd MEM_CFG_RETIRED = 0) →
    ∃ t, exec (.mediaFrame p) s = .next t ∧ s.Produced t p n words ((Run.start s).au p).gaps
      ∧ (bit ((Run.start s).auN p 0xE 1) 0 = true → ∀ k < 4 * words.length, Mem.get t.mem (a + k) = (words.flatMap (le 4)).getD k 0#8)
      ∧ s.KeepsBut t (own []) (fun x => bit ((Run.start s).auN p 0xE 1) 0 && a ≤ x && x < a + 4 * words.length)
          fun u => { u with tim := { u.tim with au := [] }, mem := { u.mem with poison := [] } })
  ∧ (∀ (s : State) (p : Fin 8) (n a c : Nat), s.noBlock → s.rd (AUD_STATUS_STATE p) = 4 ∨ s.rd (AUD_STATUS_STATE p) = 1 → ((Run.start s).au p).wasRunning = true →
    (Run.start s).auOut p = false → n = ((Run.start s).au p).media → a = (Run.start s).auRing p n → c = (Run.start s).auChannels p →
    bit ((Run.start s).auN p 0xE 1) 0 = false ∨ ((Run.start s).allowed 9 true a (4 * c) = true ∧ s.rd MEM_CFG_RETIRED = 0) →
    ∃ t, exec (.mediaFrame p) s = .next t ∧ s.Produced t p n (List.replicate c 0) (((Run.start s).au p).silence n).gaps
      ∧ t.rd (AUD_COUNT_SILENCE p) = min (s.rd (AUD_COUNT_SILENCE p) + 1) 65535
      ∧ (bit ((Run.start s).auN p 0xE 1) 0 = true → ∀ k < 4 * c, Mem.get t.mem (a + k) = 0#8)
      ∧ s.KeepsBut t (own [AUD_COUNT_SILENCE p]) (fun x => bit ((Run.start s).auN p 0xE 1) 0 && a ≤ x && x < a + 4 * c)
          fun u => { u with tim := { u.tim with au := [] }, mem := { u.mem with poison := [] } })
  ∧ (∀ (s : State) (p : Fin 8) (n src : Nat), s.noBlock → s.rd (AUD_STATUS_STATE p) ≠ 0 → ((Run.start s).au p).wasRunning = true → (Run.start s).auOut p = true →
    n = ((Run.start s).au p).media → src = (Run.start s).auN p 0xD 1 → s.rd (AUD_STATUS_STATE p) ≠ 2 ∨ src ≠ 0xFF →
    ∃ t, exec (.mediaFrame p) s = .next t ∧ s.Produced t p n (if s.rd (AUD_STATUS_STATE p) = 2 then ((Run.start s).au src).cur.take ((Run.start s).auChannels p)
        else List.replicate ((Run.start s).auChannels p) 0) ((Run.start s).au p).gaps
      ∧ s.Keeps t (own []) fun u => { u with tim := { u.tim with au := [] } })
  ∧ (∀ (s : State) (p : Fin 8) (n : Nat), s.noBlock → s.rd (AUD_STATUS_STATE p) = 2 → ((Run.start s).au p).wasRunning = true → (Run.start s).auOut p = true →
    n = ((Run.start s).au p).media → (Run.start s).auN p 0xD 1 = 0xFF → signed 32 ((s.rd (AUD_WR p) + 2 ^ 32 - s.rd (AUD_RD p) % 2 ^ 32) % 2 ^ 32) ≤ 0 →
    ∃ t, exec (.mediaFrame p) s = .next t ∧ s.Produced t p n (List.replicate ((Run.start s).auChannels p) 0) ((Run.start s).au p).gaps
      ∧ t.rd (AUD_COUNT_UNDERRUN p) = min (s.rd (AUD_COUNT_UNDERRUN p) + 1) 65535 ∧ (s.rd (AUD_STATUS_UNDERRUN p) = 0 → t.rd (AUD_STATUS_UNDERRUN p) = 1 ∧ t.seen (481 + 2 * p) = true)
      ∧ t.rd (AUD_RD p) = (s.rd (AUD_RD p) + 1) % 2 ^ 32
      ∧ s.Keeps t (own [AUD_COUNT_UNDERRUN p, AUD_STATUS_UNDERRUN p, AUD_RD p]) fun u => { u with tim := { u.tim with au := [] } })
  ∧ (∀ (s : State) (p : Fin 8) (n c a : Nat), s.noBlock → s.rd (AUD_STATUS_STATE p) = 2 → ((Run.start s).au p).wasRunning = true → (Run.start s).auOut p = true →
    n = ((Run.start s).au p).media → (Run.start s).auN p 0xD 1 = 0xFF → 0 < signed 32 ((s.rd (AUD_WR p) + 2 ^ 32 - s.rd (AUD_RD p) % 2 ^ 32) % 2 ^ 32) →
    c = (Run.start s).auChannels p → a = (Run.start s).auRing p (s.rd (AUD_RD p)) → ((Run.start s).peekMem 9 a (4 * c)).ok = true →
    ((Run.start s).peekMem 9 a (4 * c)).poison = false → s.rd MEM_CFG_RETIRED = 0 →
    ∃ t, exec (.mediaFrame p) s = .next t
      ∧ s.Produced t p n ((List.range c).map fun k => ofLe ((List.range 4).map fun i => Mem.get s.mem (a + 4 * k + i))) ((Run.start s).au p).gaps
      ∧ t.rd (AUD_STATUS_UNDERRUN p) = 0 ∧ t.rd (AUD_RD p) = (s.rd (AUD_RD p) + 1) % 2 ^ 32
      ∧ s.Keeps t (own [AUD_STATUS_UNDERRUN p, AUD_RD p]) fun u => { u with tim := { u.tim with au := [] } })
  ∧ ∀ (s : State) (p : Fin 8) (v : Nat), ∃ t, exec (.audWr p v) s = .next t ∧ t.rd (AUD_WR p) = v % 2 ^ 32 ∧ s.Keeps t (own [AUD_WR p]) id

/-- A thermal reading gives each unretired sensor its temperature, VALID and RISE; an invalid reading keeps the last temperature, and the third within 100 readings retires the sensor with event 499. While a reset is held no more happens. Else HOT and MAX name the hottest unretired sensor, a sensor that newly reaches 130 °C raises event 500, a driver that newly rises at RATE_1 raises 498, the levee rises to the highest demanded while W_3 is on duty, with event 496 and on entry into L3 497, and a DRAM channel more than 10 °C from its training is due for another. The levee falls one level after more than 100 calm readings. A warden core that fails is halted and retired with its breach record; a second one while a core is a cofferdam makes the firmware watchdog due; at the failover event 20 is raised and the partner takes the duties (with no record to take further and no monitor line waiting). A source that is enabled while its status is 1, and an occurrence that changes its status from 0 to 1 while it is enabled, is delivered. A write clears the status bits it names but for those that hardware sets in the same cycle, and the pins follow. An acknowledged crossing ends. -/
def Obligations.ThermalAndEvents : Prop :=
  (∀ (s : State) (l : List (Option Int)),
    ∃ t, exec (.thermalReading l) s = .next t
      ∧ (∀ k < 28, bit (s.rd THM_RETIRED) k = true → t.rd (THM_TS_TEMP k) = s.rd (THM_TS_TEMP k) ∧ t.rd (THM_TS_RISE k) = s.rd (THM_TS_RISE k)
          ∧ t.rd (THM_TS_VALID k) = s.rd (THM_TS_VALID k) ∧ bit (t.rd THM_RETIRED) k = true)
      ∧ (∀ k < 28, bit (s.rd THM_RETIRED) k = false → (l.getD k none).any validReading = true →
          signed 16 (t.rd (THM_TS_TEMP k)) = (l.getD k none).getD 0 ∧ t.rd (THM_TS_VALID k) = 1 ∧ bit (t.rd THM_RETIRED) k = false)
      ∧ (∀ k < 28, bit (s.rd THM_RETIRED) k = false → (l.getD k none).any validReading = false →
          signed 16 (t.rd (THM_TS_TEMP k)) = signed 16 (s.rd (THM_TS_TEMP k)) ∧ t.rd (THM_TS_VALID k) = 0
          ∧ (bit (t.rd THM_RETIRED) k = true ↔ 2 ≤ ((s.u.thm.bad.look k []).filter (· + 1 < 100)).length)
          ∧ (bit (t.rd THM_RETIRED) k = true → t.rd (THM_TS_RETIRED k) = 1 ∧ t.seen 499 = true))
      ∧ (∀ k < 28, bit (s.rd THM_RETIRED) k = false → 100 ≤ (s.u.thm.hist.look k []).length →
          t.rd (THM_TS_RISE k) = unsigned 12 (signed 16 (t.rd (THM_TS_TEMP k)) - (s.u.thm.hist.look k []).getD 99 0))
      ∧ (s.u.glb.phase = .held → t.rd THM_STATUS_LEVEE = s.rd THM_STATUS_LEVEE ∧ t.rd THM_STATUS_HOT = s.rd THM_STATUS_HOT ∧ t.u.mem = s.u.mem)
      ∧ s.Keeps t (fun k => span 0x300004 0x300008 k || span 0x300100 0x300170 k || retireKey k || (List.range 16).any fun c => k == (MEM_CH_STATUS_STATE c).key)
          fun u => { u with thm := {}, mem := { u.mem with ch := [], due := [] }, evt := { u.evt with log := [], service := [] } })
  ∧ (∀ (s : State) (l : List (Option Int)), s.u.glb.phase ≠ .held →
    ∃ t, exec (.thermalReading l) s = .next t
      ∧ ((∃ k < 28, bit (t.rd THM_RETIRED) k = false) →
          bit (t.rd THM_RETIRED) (t.rd THM_STATUS_HOT) = false ∧ signed 16 (t.rd THM_STATUS_MAX) = signed 16 (t.rd (THM_TS_TEMP (t.rd THM_STATUS_HOT)))
          ∧ ∀ k < 28, bit (t.rd THM_RETIRED) k = false → signed 16 (t.rd (THM_TS_TEMP k)) ≤ signed 16 (t.rd THM_STATUS_MAX))
      ∧ (∀ k < 24, bit (t.rd THM_RETIRED) k = false → 520 ≤ signed 16 (t.rd (THM_TS_TEMP k)) → k ∉ s.u.thm.near → t.seen 500 = true)
      ∧ (∀ k < 28, t.drives k → t.rd (THM_LEVEE_RATE 0) ≠ 0 → (t.rd (THM_LEVEE_RATE 0) : Int) ≤ signed 12 (t.rd (THM_TS_RISE k)) →
            signed 12 (s.rd (THM_TS_RISE k)) < t.rd (THM_LEVEE_RATE 0) → t.seen 498 = true)
      ∧ (if (Run.start s).duty 3 then s.LeveeRises t else t.rd THM_STATUS_LEVEE = s.rd THM_STATUS_LEVEE)
      ∧ ∀ c < 16, ∀ v, s.u.thm.trained.find c = some v → 40 < ((Run.start t).phyTemp c - v).natAbs → c ∈ t.u.mem.due ∨ t.rd (MEM_CH_STATUS_STATE c) = 3)
  ∧ (∀ s : State, s.rd THM_STATUS_LEVEE ≠ 0 → s.rd THM_STATUS_LEVEE < 4 → 100 < s.u.thm.calm → (Run.start s).duty 3 = true →
    ∃ t, exec .leveeFall s = .next t ∧ t.rd THM_STATUS_LEVEE = s.rd THM_STATUS_LEVEE - 1 ∧ t.seen 496 = true
      ∧ s.Keeps t (own [THM_STATUS_LEVEE]) fun u => { u with thm := { u.thm with calm := 0 } })
  ∧ (∀ s : State, s.rd THM_STATUS_LEVEE = 0 ∨ s.u.thm.calm ≤ 100 ∨ (Run.start s).duty 3 = false → exec .leveeFall s = .next s)
  ∧ (∀ (s : State) (k : Fin 4), bit (s.rd EVT_COFFERDAM_UNITS_W) k = false → ∀ i ∈ [Instr.wardenWatchdog k, .wardenFault k],
    ∃ t, exec i s = .next t ∧ bit (t.rd EVT_COFFERDAM_UNITS_W) k = true ∧ t.seen 19 = true ∧ s.logged t 14 k 2 0 6 = true ∧ t.u.evt.failing = k.val :: s.u.evt.failing
      ∧ (∀ j < 4, j ≠ k.val → bit (t.rd EVT_COFFERDAM_UNITS_W) j = bit (s.rd EVT_COFFERDAM_UNITS_W) j) ∧ t.rd EVT_SERVICE_REQ ≠ 0
      ∧ t.u.glb.watchdogDue = (s.u.glb.watchdogDue || s.rd EVT_COFFERDAM_UNITS_W != 0)
      ∧ s.Keeps t retireKey fun u => { u with evt := { u.evt with log := [], service := [], failing := [] }, glb := { u.glb with watchdogDue := false } })
  ∧ (∀ (s : State) (k : Fin 4), (bit (s.rd EVT_COFFERDAM_UNITS_W) k = true → exec (.wardenWatchdog k) s = .next s ∧ exec (.wardenFault k) s = .next s)
      ∧ (s.u.evt.failing.contains k.val = false → exec (.wardenFailover k) s = .next s))
  ∧ (∀ (s : State) (k : Fin 4), s.u.evt.failing.contains k.val = true → s.u.magu.segs = [] → s.rd MAG_REC_STATUS_STATE ≠ 2 → s.u.mon.held = [] →
    ∃ t, exec (.wardenFailover k) s = .next t ∧ t.seen 20 = true ∧ t.u.evt.failing = s.u.evt.failing.filter (· != k.val)
      ∧ (k = 3 → (Run.start t).duty 3 = true → s.LeveeRises t) ∧ (k ≠ 3 → t.rd THM_STATUS_LEVEE = s.rd THM_STATUS_LEVEE)
      ∧ s.Keeps t (own [THM_STATUS_LEVEE]) fun u => { u with evt := { u.evt with failing := [] }, thm := { u.thm with calm := 0 } })
  ∧ (∀ (s : State) (k : Fin 16) (v : Nat),
    ∃ t, exec (.evtEnable k v) s = .next t ∧ t.rd (EVT_ENABLE k) = v % 2 ^ 32
      ∧ (∀ j < 32, bit v j = true → bit (s.rd (EVT_ENABLE k)) j = false → bit (s.rd (EVT_STATUS k)) j = true → s.Delivers t (32 * k + j))
      ∧ (∀ j < 32, bit v j = false → bit (s.rd (EVT_ENABLE k)) j = true → ∀ p < 4, bit (s.rd (EVT_ROUTE_PIN (32 * k + j))) p = true →
          bit t.u.evt.pins p = (Run.start t).eventOutLevel p)
      ∧ (∀ j < 16, t.rd (EVT_STATUS j) = s.rd (EVT_STATUS j) ∧ t.rd (EVT_OVERRUN j) = s.rd (EVT_OVERRUN j)) ∧ s.Keeps t (own [EVT_ENABLE k]) id)
  ∧ (∀ (s : State) (k : Fin 16) (v : Nat),
    ∃ t, exec (.evtStatusClear k v) s = .next t
      ∧ (∀ j < 32, bit v j = false ∨ bit (s.rd (EVT_STATUS k)) j = false ∨ s.setInCycle ((EVT_STATUS k).key + j) → bit (t.rd (EVT_STATUS k)) j = bit (s.rd (EVT_STATUS k)) j)
      ∧ (∀ j < 32, bit v j = true → ¬ s.setInCycle ((EVT_STATUS k).key + j) → bit (t.rd (EVT_STATUS k)) j = false
          ∧ ∀ p < 4, bit (s.rd (EVT_STATUS k)) j = true → bit (s.rd (EVT_ROUTE_PIN (32 * k + j))) p = true → bit t.u.evt.pins p = (Run.start t).eventOutLevel p)
      ∧ (∀ j < 16, (j ≠ k.val → t.rd (EVT_STATUS j) = s.rd (EVT_STATUS j)) ∧ t.rd (EVT_OVERRUN j) = s.rd (EVT_OVERRUN j)) ∧ s.Keeps t (own []) id)
  ∧ (∀ (s : State) (e : Fin 512),
    ∃ t, exec (.evtInject e) s = .next t ∧ t.rd (EVT_STATUS (e / 32)) = (s.rd (EVT_STATUS (e / 32)) ||| 2 ^ (e.val % 32)) % 2 ^ 32
      ∧ (s.status e = false → bit (s.rd (EVT_ENABLE (e / 32))) (e % 32) = true → s.Delivers t e)
      ∧ (s.status e = true ∨ bit (s.rd (EVT_ENABLE (e / 32))) (e % 32) = false → t.out = s.out ∧ t.rd QIF_PBA = s.rd QIF_PBA ∧ t.u.evt.pins = s.u.evt.pins)
      ∧ (∀ j < 16, (j ≠ e.val / 32 → t.rd (EVT_STATUS j) = s.rd (EVT_STATUS j)) ∧ t.rd (EVT_OVERRUN j) = s.rd (EVT_OVERRUN j)) ∧ s.Keeps t (own []) id)
  ∧ ∀ (s : State) (e : Fin 512),
    exec (.eventCrossingAck e) s = .next (s.modify fun u => { u with evt := { u.evt with crossing := u.evt.crossing.filter (· != e.val) } })

/-- While the monitor is down or sweeps, a parsed command does nothing; a line waits in up to 256 characters, beyond that it is lost (assumption 34). A line of more than 256 characters, or the one after lost characters, is answered with ERR 2; one without a command with ERR 1; a command that needs an unlocked monitor with ERR 4; malformed arguments with ERR 3; any other does what its command does. HELP and VER answer their lines, BAUD a code up to 5, else ERR 5; without a line at the new rate the rate returns. UNLOCK of an enrolled slot draws a nonce (a free value, assumption 4) and prints it; it is refused with ERR 9 while disabled or barred or for another slot, with ERR 6 for a locked feature set without F18, with ERR 5 for a slot above 4. A right response in 60 s unlocks with event 508, any other counts in FAILS with event 509, and the third in a row bars UNLOCK until its bar ends. LOCK, 600 s without a line and DISABLE lock, with event 511 when it was unlocked. -/
def Obligations.MonitorLock : Prop :=
  (∀ (s : State) (line : List Byte) (abort : Option Nat), (Run.start s).monUp = false → s.u.glb.phase ≠ .run → exec (.monitorLine line abort) s = .next s)
  ∧ (∀ (s : State) (line : List Byte) (abort : Option Nat), ((Run.start s).monUp = false ∧ s.u.glb.phase = .run) ∨ ((Run.start s).monUp = true ∧ s.u.mon.sweep ≠ none) →
    exec (.monitorLine line abort) s = .next (s.modify fun u => { u with mon :=
      if ((u.mon.held.map fun l => l.length + 1).foldl (· + ·) 0) + line.length + 1 ≤ 256 then { u.mon with baudWait := false, held := u.mon.held ++ [line] }
      else { u.mon with baudWait := false, lostChars := true } }))
  ∧ (∀ (s : State) (line : List Byte) (abort : Option Nat), s.monReady →
    s.u.mon.lostChars = true ∨ 256 < line.length ∨ splitWords [] line = [] ∨ (∃ a, (splitWords [] line).head? = some a ∧ keyword a = none) →
    ∃ t, exec (.monitorLine line abort) s = .next t ∧ s.answers t [] (if s.u.mon.lostChars = true ∨ 256 < line.length then 2 else 1)
      ∧ t.u.mon.lostChars = false ∧ s.Keeps t (own []) fun u => { u with mon := { u.mon with lostChars := false, baudWait := false } })
  ∧ (∀ (s : State) (line : List Byte) (abort : Option Nat) (key : List Nat) (args : List (List Nat)) (free : Bool), s.monReady → s.u.mon.lostChars = false →
    line.length ≤ 256 → splitWords [] line = key :: args → keyword key = some free →
    (free = false ∧ s.rd MON_STATUS_UNLOCKED = 0) ∨ parseCmd key args = none →
    ∃ t, exec (.monitorLine line abort) s = .next t ∧ s.answers t [] (if free = false ∧ s.rd MON_STATUS_UNLOCKED = 0 then 4 else 3)
      ∧ s.Keeps t (own []) fun u => { u with mon := { u.mon with baudWait := false } })
  ∧ (∀ (s : State) (line : List Byte) (abort : Option Nat) (key : List Nat) (args : List (List Nat)) (free : Bool) (c : MonCmd), s.monReady → s.u.mon.lostChars = false →
    line.length ≤ 256 → splitWords [] line = key :: args → keyword key = some free → free = true ∨ s.rd MON_STATUS_UNLOCKED ≠ 0 → parseCmd key args = some c →
    exec (.monitorLine line abort) s = c.outcome abort (s.modify fun u => { u with mon := { u.mon with baudWait := false } }))
  ∧ (∀ s : State, s.monReady → (∃ t, exec .help s = .next t ∧ s.answers t ["HELP", "VER", "BAUD c", "UNLOCK s", "UNLOCK RESP sig", "LOCK", "PEEK off [n]", "POKE off value",
      "MEMRD addr [n]", "TRACE ON lo hi [POST p]", "TRACE OFF", "TRACE DUMP", "EYE lane sel [dwell]", "BREACH [n]", "INJECT e"] 0 ∧ s.Keeps t (own []) id)
    ∧ ∃ t, exec .ver s = .next t ∧ s.answers t ["EN-9618 B1 FW " ++ toString (bits s.u.glb.fw.version 24 8) ++ "." ++ toString (bits s.u.glb.fw.version 16 8) ++ "."
        ++ toString (bits s.u.glb.fw.version 0 16) ++ " ID " ++ hex 16 (s.rd GLB_NARRIC_ID_STREAM_ID)
        ++ (if s.rd MON_STATUS_UNLOCKED ≠ 0 then " UNLOCKED" else " LOCKED")] 0 ∧ s.Keeps t (own []) id)
  ∧ (∀ (s : State) (c : Nat), s.monReady → c ≤ 5 →
    ∃ t, exec (.baud c) s = .next t ∧ s.answers t [] 0 ∧ t.rd MON_STATUS_BAUD = c ∧ t.u.mon.baudWait = true
      ∧ s.Keeps t (own [MON_STATUS_BAUD]) fun u => { u with mon := { u.mon with baudWait := false } })
  ∧ (∀ s : State, s.u.mon.baudWait = true →
    ∃ t, exec .baudTimeout s = .next t ∧ t.rd MON_STATUS_BAUD = 0 ∧ t.u.mon.baudWait = false
      ∧ s.Keeps t (own [MON_STATUS_BAUD]) fun u => { u with mon := { u.mon with baudWait := false } })
  ∧ (∀ s : State, (s.u.mon.baudWait = false → exec .baudTimeout s = .next s) ∧ (s.u.mon.barred = false → exec .unlockBarEnd s = .next s))
  ∧ (∀ (s : State) (k : Nat), s.monReady → k ≤ 4 → s.rd MON_CTL_DISABLE = 0 → s.u.mon.barred = false →
    s.rd GLB_FEAT_CTL_LOCKED = 0 ∨ bit s.u.glb.feat 18 = true → ((Run.start s).keySlot k).state = .enrolled →
    ∃ t, exec (.unlock k) s = .next t ∧ s.answers t [String.intercalate " " (hexGroups 8 (le 32 (Config.free s.fresh % 2 ^ 256)))] 0
      ∧ t.u.mon.nonce = some (k, s.now, le 32 (Config.free s.fresh % 2 ^ 256))
      ∧ s.Keeps t (own []) fun u => { u with mon := { u.mon with nonce := none } })
  ∧ (∀ (s : State) (k : Nat) (sig : List Byte), s.monReady →
    (5 ≤ k → s.MonRefuses (exec (.unlock k) s) 5)
    ∧ (k ≤ 4 → s.rd MON_CTL_DISABLE ≠ 0 ∨ s.u.mon.barred = true → s.MonRefuses (exec (.unlock k) s) 9 ∧ s.MonRefuses (exec (.unlockResp sig) s) 9)
    ∧ (k ≤ 4 → s.rd MON_CTL_DISABLE = 0 → s.u.mon.barred = false → s.rd GLB_FEAT_CTL_LOCKED ≠ 0 → bit s.u.glb.feat 18 = false →
        s.MonRefuses (exec (.unlock k) s) 6 ∧ s.MonRefuses (exec (.unlockResp sig) s) 6)
    ∧ (k ≤ 4 → s.rd MON_CTL_DISABLE = 0 → s.u.mon.barred = false → s.rd GLB_FEAT_CTL_LOCKED = 0 ∨ bit s.u.glb.feat 18 = true →
        ((Run.start s).keySlot k).state ≠ .enrolled → s.MonRefuses (exec (.unlock k) s) 9)
    ∧ (5 < k → s.MonRefuses (exec (.baud k) s) 5))
  ∧ (∀ (s : State) (sig : List Byte), s.monReady → s.rd MON_CTL_DISABLE = 0 → s.u.mon.barred = false →
    s.rd GLB_FEAT_CTL_LOCKED = 0 ∨ bit s.u.glb.feat 18 = true →
    ∃ t, exec (.unlockResp sig) s = .next t ∧ t.u.mon.nonce = none ∧ t.out.take 2 = monTail (if (Run.start s).unlockSlot sig = none then 9 else 0)
      ∧ (∀ k, (Run.start s).unlockSlot sig = some k → t.rd MON_STATUS_UNLOCKED = 1 ∧ t.rd MON_STATUS_KEY_SLOT = k % 8 ∧ t.seen 508 = true
          ∧ t.u.mon.wrongRow = 0 ∧ t.u.mon.barred = false ∧ t.rd MON_STATUS_FAILS = s.rd MON_STATUS_FAILS)
      ∧ ((Run.start s).unlockSlot sig = none → t.rd MON_STATUS_UNLOCKED = s.rd MON_STATUS_UNLOCKED ∧ t.rd MON_STATUS_KEY_SLOT = s.rd MON_STATUS_KEY_SLOT
          ∧ t.rd MON_STATUS_FAILS = min (s.rd MON_STATUS_FAILS + 1) 255 ∧ t.seen 509 = true ∧ t.u.mon.wrongRow = s.u.mon.wrongRow + 1
          ∧ t.u.mon.barred = decide (2 ≤ s.u.mon.wrongRow))
      ∧ s.Keeps t (own [MON_STATUS_UNLOCKED, MON_STATUS_KEY_SLOT, MON_STATUS_FAILS])
          fun u => { u with mon := { u.mon with nonce := none, wrongRow := 0, barred := false } })
  ∧ (∀ (s : State) (sig : List Byte), s.u.mon.nonce = none ∨ (∃ x, s.u.mon.nonce = some x ∧ (x.2.1 + 30000000000 < s.now
      ∨ ((Run.start s).keySlot x.1).state ≠ .enrolled ∨ ed25519Verify ((Run.start s).keySlot x.1).key (unlockMessage x.2.2) sig = false)) →
    (Run.start s).unlockSlot sig = none)
  ∧ (∀ s : State, s.u.mon.barred = true →
    ∃ t, exec .unlockBarEnd s = .next t ∧ t.u.mon.barred = false ∧ t.u.mon.wrongRow = 0
      ∧ s.Keeps t (own []) fun u => { u with mon := { u.mon with barred := false, wrongRow := 0 } })
  ∧ (∀ s : State, (s.monReady → ∃ t, exec .lock s = .next t ∧ t.rd MON_STATUS_UNLOCKED = 0 ∧ t.rd MON_STATUS_KEY_SLOT = 0 ∧ t.out.take 2 = monTail 0
        ∧ (s.rd MON_STATUS_UNLOCKED ≠ 0 → t.seen 511 = true) ∧ s.Keeps t (own [MON_STATUS_UNLOCKED, MON_STATUS_KEY_SLOT]) id)
      ∧ ∃ t, exec .idleLock s = .next t ∧ t.rd MON_STATUS_UNLOCKED = 0 ∧ t.rd MON_STATUS_KEY_SLOT = 0
        ∧ (s.rd MON_STATUS_UNLOCKED ≠ 0 → t.seen 511 = true) ∧ s.Keeps t (own [MON_STATUS_UNLOCKED, MON_STATUS_KEY_SLOT]) id)
  ∧ (∀ (s : State) (v : Fin 2), s.rd GLB_BOOT_STATUS_READY ≠ 0 → s.u.mon.sweep = none → s.u.mon.held = [] →
    ∃ t, exec (.disable v) s = .next t ∧ t.rd MON_CTL_DISABLE = v
      ∧ (v = 1 → t.rd MON_STATUS_UNLOCKED = 0 ∧ t.rd MON_STATUS_KEY_SLOT = 0 ∧ (s.rd MON_STATUS_UNLOCKED ≠ 0 → t.seen 511 = true))
      ∧ (v = 0 → t.rd MON_STATUS_UNLOCKED = s.rd MON_STATUS_UNLOCKED ∧ t.rd MON_STATUS_KEY_SLOT = s.rd MON_STATUS_KEY_SLOT)
      ∧ s.Keeps t (own [MON_CTL_DISABLE, MON_STATUS_UNLOCKED, MON_STATUS_KEY_SLOT]) id)
  ∧ (∀ (s : State) (w : Sweep), s.rd GLB_BOOT_STATUS_READY ≠ 0 → s.u.mon.sweep = some w → s.u.mon.held = [] → w.lane < 48 →
    ∃ t, exec (.disable 1) s = .next t ∧ t.rd MON_CTL_DISABLE = 1 ∧ t.rd MON_STATUS_UNLOCKED = 0 ∧ t.u.mon.sweep = none ∧ t.rd (LNK_EYE_CTL_VOFF w.lane) = 0
      ∧ (t.laneOf w.lane).eye = false ∧ monTail 11 ⊆ t.out
      ∧ s.Keeps t (own [MON_CTL_DISABLE, MON_STATUS_UNLOCKED, MON_STATUS_KEY_SLOT, LNK_EYE_CTL_DWELL w.lane, LNK_EYE_CTL_EYE_SEL w.lane, LNK_EYE_CTL_VOFF w.lane,
          LNK_EYE_CTL_PHASE w.lane]) fun u => { u with mon := { u.mon with sweep := none }, lane := u.lane.drop w.lane })
  ∧ ∀ (s : State) (v : Fin 2), s.rd GLB_BOOT_STATUS_READY = 0 → exec (.disable v) s = .next s

/-- While the monitor is down or sweeps none of these commands does anything; a locked one answers ERR 4, an unlocked one ERR 5 for an argument out of range. PEEK prints what a host read answers, word by word; POKE writes as a host does, with event 510; POKE of a barred block and INJECT of a barred event during a record answer ERR 7. MEMRD prints the DRAM words that requester 13 may read, 8 a line, up to an abort with ERR 11; one it may not read answers ERR 9 with a TYPE 15 breach record; a poisoned one faults the core that runs the monitor (assumption 61). TRACE ON arms an empty trace, or answers ERR 10 when one is armed; OFF ends it; DUMP prints the entries oldest first and how many were lost. EYE starts a sweep at VOFF 120 and PHASE -32, or answers ERR 8 in a lane state without scans. BREACH prints the newest records. INJECT sets the event's status as an occurrence does. 0x03 ends a sweep with ERR 11 and EYE_CTL 0. -/
def Obligations.MonitorData : Prop :=
  (∀ (s : State) (a b : Nat) (x : Option Nat) (sel : Fin 3), (Run.start s).monUp = false ∨ s.u.mon.sweep ≠ none →
    exec (.peek a b) s = .next s ∧ exec (.poke a b) s = .next s ∧ exec (.memrd a b x) s = .next s ∧ exec (.traceOn a b x) s = .next s ∧ exec .traceOff s = .next s
      ∧ exec .traceDump s = .next s ∧ exec (.eye a sel b) s = .next s ∧ exec (.breachDump a x) s = .next s ∧ exec (.inject a) s = .next s)
  ∧ (∀ (s : State) (a b : Nat) (x : Option Nat) (sel : Fin 3), s.monReady → s.rd MON_STATUS_UNLOCKED = 0 →
    s.MonRefuses (exec (.peek a b) s) 4 ∧ s.MonRefuses (exec (.poke a b) s) 4 ∧ s.MonRefuses (exec (.memrd a b x) s) 4 ∧ s.MonRefuses (exec (.traceOn a b x) s) 4
      ∧ s.MonRefuses (exec .traceOff s) 4 ∧ s.MonRefuses (exec .traceDump s) 4 ∧ s.MonRefuses (exec (.eye a sel b) s) 4
      ∧ s.MonRefuses (exec (.breachDump a x) s) 4 ∧ s.MonRefuses (exec (.inject a) s) 4)
  ∧ (∀ (s : State) (a b : Nat) (x : Option Nat) (sel : Fin 3), s.monReady → s.rd MON_STATUS_UNLOCKED ≠ 0 →
    (a % 4 ≠ 0 ∨ b = 0 ∨ 64 < b ∨ 2 ^ 28 < a + 4 * b → s.MonRefuses (exec (.peek a b) s) 5)
      ∧ (a % 4 ≠ 0 ∨ 2 ^ 28 ≤ a ∨ 2 ^ 32 ≤ b → s.MonRefuses (exec (.poke a b) s) 5)
      ∧ (b = 0 ∨ 4096 < b → s.MonRefuses (exec (.memrd a b x) s) 5)
      ∧ (b < a ∨ 511 < b → s.MonRefuses (exec (.traceOn a b x) s) 5)
      ∧ (48 ≤ a ∨ 15 < b ∨ (sel ≠ 0 ∧ (Run.start s).rxPam a = false) → s.MonRefuses (exec (.eye a sel b) s) 5)
      ∧ (a = 0 ∨ 1024 < a → s.MonRefuses (exec (.breachDump a x) s) 5) ∧ (511 < a → s.MonRefuses (exec (.inject a) s) 5))
  ∧ (∀ (s : State) (off n : Nat), s.monReady → s.rd MON_STATUS_UNLOCKED ≠ 0 → off % 4 = 0 → 0 < n → n ≤ 64 → off + 4 * n ≤ 2 ^ 28 →
    (∀ k < n, ((Run.start s).hostRead (off + 4 * k) false).2.st = s) →
    ∃ t, exec (.peek off n) s = .next t
      ∧ s.answers t ((List.range n).map fun k => hex 8 (off + 4 * k) ++ " " ++ hex 8 ((Run.start s).hostRead (off + 4 * k) false).1) 0 ∧ s.Keeps t (own []) id)
  ∧ (∀ (s : State) (off : Nat), s.monReady → s.rd MON_STATUS_UNLOCKED ≠ 0 → off % 4 = 0 → off < 2 ^ 28 →
    ∃ t, exec (.peek off 1) s = .next t ∧ ((Run.start s).hostRead off false).2.st.answers t [hex 8 off ++ " " ++ hex 8 ((Run.start s).hostRead off false).1] 0 ∧ ((Run.start s).hostRead off false).2.st.Keeps t (own []) id)
  ∧ (∀ (s : State) (off v : Nat), s.monReady → s.rd MON_STATUS_UNLOCKED ≠ 0 → off % 4 = 0 → off < 2 ^ 28 → v < 2 ^ 32 →
    (Run.start s).recording = false ∨ off / 0x100000 ∉ [0x0, 0x2, 0x5, 0x6, 0x7, 0x8, 0x9, 0x12, 0x13, 0x14, 0x15, 0x17, 0x1A] →
    ∃ t, exec (.poke off v) s = .next t ∧ t.seen 510 = true ∧ t.out.take 2 = monTail 0 ∧ ((Run.start s).hostRead off false).2.st.Keeps t (own []) id)
  ∧ (∀ (s : State) (off v e : Nat), s.monReady → s.rd MON_STATUS_UNLOCKED ≠ 0 → (Run.start s).recording = true →
    (off % 4 = 0 → v < 2 ^ 32 → off / 0x100000 ∈ [0x0, 0x2, 0x5, 0x6, 0x7, 0x8, 0x9, 0x12, 0x13, 0x14, 0x15, 0x17, 0x1A] → s.MonRefuses (exec (.poke off v) s) 7)
      ∧ (e ≤ 191 ∨ (336 ≤ e ∧ e ≤ 399) → s.MonRefuses (exec (.inject e) s) 7))
  ∧ (∀ (s : State) (a n lines : Nat) (abort : Option Nat), s.monReady → s.rd MON_STATUS_UNLOCKED ≠ 0 → 0 < n → n ≤ 4096 →
    (∀ k < n, (Run.start s).allowed 13 false (a + 4 * k) 4 = true ∧ (Run.start s).poisonedBlock (a + 4 * k) 4 = none) → s.rd MEM_CFG_RETIRED = 0 →
    lines = min (abort.getD n) ((n + 7) / 8) →
    ∃ t, exec (.memrd a n abort) s = .next t
      ∧ s.answers t ((List.range lines).map fun l => String.intercalate " " ((List.range (min 8 (n - 8 * l))).map fun k =>
          hex 8 (ofLe ((List.range 4).map fun i => Mem.get s.mem (a + 32 * l + 4 * k + i))))) (if lines < (n + 7) / 8 then 11 else 0) ∧ s.Keeps t (own []) id)
  ∧ (∀ (s : State) (a n : Nat) (abort : Option Nat), s.monReady → s.rd MON_STATUS_UNLOCKED ≠ 0 → 0 < n → n ≤ 4096 → (Run.start s).allowed 13 false a 4 = false →
    ∃ t, exec (.memrd a n abort) s = .next t ∧ t.out.take 2 = monTail 9 ∧ s.logged t 15 13 3 0 0 = true
      ∧ s.Keeps t retireKey fun u => { u with evt := { u.evt with log := [] } })
  ∧ (∀ (s : State) (a : Nat), s.monReady → s.rd MON_STATUS_UNLOCKED ≠ 0 → (Run.start s).allowed 13 false a 4 = true → (Run.start s).poisonedBlock a 4 ≠ none →
    bit (s.rd EVT_COFFERDAM_UNITS_W) 3 = false → bit (s.rd MEM_CFG_RETIRED) (channelOf a) = false →
    ∃ t, exec (.memrd a 1 none) s = .next t ∧ bit (t.rd EVT_COFFERDAM_UNITS_W) 3 = true ∧ s.logged t 14 3 2 0 6 = true ∧ t.u.evt.failing = 3 :: s.u.evt.failing
      ∧ s.Keeps t retireKey fun u => { u with evt := { u.evt with log := [], failing := [], service := [] }, glb := { u.glb with watchdogDue := false } })
  ∧ (∀ (s : State) (lo hi : Nat) (post : Option Nat), s.monReady → s.rd MON_STATUS_UNLOCKED ≠ 0 → s.rd MON_STATUS_TRACE = 0 → lo ≤ hi → hi ≤ 511 →
    ∃ t, exec (.traceOn lo hi post) s = .next t ∧ s.answers t [] 0 ∧ t.rd MON_STATUS_TRACE = 1
      ∧ t.u.evt = { s.u.evt with trace := [], traceN := 0, traceLo := lo, traceHi := hi, tracePost := post, traceLeft := none }
      ∧ s.Keeps t (own []) fun u => { u with evt := {} })
  ∧ (∀ (s : State) (lo hi : Nat) (post : Option Nat), s.monReady → s.rd MON_STATUS_UNLOCKED ≠ 0 → s.rd MON_STATUS_TRACE ≠ 0 → lo ≤ hi → hi ≤ 511 →
    s.MonRefuses (exec (.traceOn lo hi post) s) 10)
  ∧ (∀ s : State, s.monReady → s.rd MON_STATUS_UNLOCKED ≠ 0 → (∃ t, exec .traceOff s = .next t ∧ s.answers t [] 0 ∧ t.rd MON_STATUS_TRACE = 0 ∧ t.u.evt = s.u.evt ∧ s.Keeps t (own []) id)
    ∧ ∃ t, exec .traceDump s = .next t ∧ s.answers t ((s.u.evt.trace.reverse.map fun e => toString e.1 ++ " " ++ toString e.2.1 ++ " " ++ toString e.2.2.1 ++ " " ++ toString e.2.2.2.1)
        ++ ["LOST " ++ toString (s.u.evt.traceN - s.u.evt.trace.length)]) 0 ∧ t.u.evt = s.u.evt ∧ s.Keeps t (own []) id)
  ∧ (∀ (s : State) (n : Nat) (sel : Fin 3) (dwell : Nat), s.monReady → s.rd MON_STATUS_UNLOCKED ≠ 0 → n < 48 → dwell ≤ 15 → sel = 0 ∨ (Run.start s).rxPam n = true →
    s.rd (LNK_STATUS_STATE n) ∈ [2, 3, 4, 6] → (s.laneOf n).eye = false →
    ∃ t, exec (.eye n sel dwell) s = .next t ∧ t.u.mon.sweep = some { lane := n, sel := sel, dwell := dwell } ∧ (t.laneOf n).eye = true ∧ t.out = s.out
      ∧ t.rd (LNK_EYE_CTL_DWELL n) = dwell ∧ t.rd (LNK_EYE_CTL_EYE_SEL n) = sel ∧ t.rd (LNK_EYE_CTL_VOFF n) = 120 ∧ t.rd (LNK_EYE_CTL_PHASE n) = 32
      ∧ t.rd (LNK_EYE_RESULT_DONE n) = 0 ∧ t.rd (LNK_EYE_RESULT_ERRORS n) = 0
      ∧ s.Keeps t (own [LNK_EYE_CTL_DWELL n, LNK_EYE_CTL_EYE_SEL n, LNK_EYE_CTL_VOFF n, LNK_EYE_CTL_PHASE n, LNK_EYE_RESULT_DONE n, LNK_EYE_RESULT_ERRORS n])
          fun u => { u with mon := { u.mon with sweep := none }, lane := u.lane.put n { u.lane.look n {} with eye := false } })
  ∧ (∀ (s : State) (n : Nat) (sel : Fin 3) (dwell : Nat), s.monReady → s.rd MON_STATUS_UNLOCKED ≠ 0 → n < 48 → dwell ≤ 15 → sel = 0 ∨ (Run.start s).rxPam n = true →
    s.rd (LNK_STATUS_STATE n) ∉ [2, 3, 4, 6] ∨ (s.laneOf n).eye = true → s.MonRefuses (exec (.eye n sel dwell) s) 8)
  ∧ (∀ (s : State) (n lines : Nat) (abort : Option Nat) (l : List Breach), s.monReady → s.rd MON_STATUS_UNLOCKED ≠ 0 → 0 < n → n ≤ 1024 →
    l = (s.u.evt.log.filter fun b => b.seq != 0).take n → lines = min (abort.getD l.length) l.length →
    ∃ t, exec (.breachDump n abort) s = .next t
      ∧ s.answers t ((l.take lines).map fun b => String.intercalate " " (hexFields [4, 4, 8, 4, 4, 1, 1, 1, 1, 1, 1, 2, 4, 4, 8, 8, 4, 4] b.bytes)) (if lines < l.length then 11 else 0)
      ∧ s.Keeps t (own []) id)
  ∧ (∀ (s : State) (e : Nat), s.monReady → s.rd MON_STATUS_UNLOCKED ≠ 0 → e ≤ 511 → (Run.start s).recording = false ∨ (191 < e ∧ (e < 336 ∨ 399 < e)) →
    ∃ t, exec (.inject e) s = .next t ∧ t.status e = true ∧ t.out.take 2 = monTail 0
      ∧ (s.status e = false → bit (s.rd (EVT_ENABLE (e / 32))) (e % 32) = true → s.Delivers t e) ∧ s.Keeps t (own []) id)
  ∧ (∀ s : State, s.u.mon.sweep = none → s.u.mon.held = [] → exec .abortCharacter s = .next s)
  ∧ ∀ (s : State) (w : Sweep), s.u.mon.sweep = some w → s.u.mon.held = [] → w.lane < 48 →
    ∃ t, exec .abortCharacter s = .next t ∧ s.answers t [] 11 ∧ t.u.mon.sweep = none ∧ (t.laneOf w.lane).eye = false
      ∧ t.rd (LNK_EYE_CTL_DWELL w.lane) = 0 ∧ t.rd (LNK_EYE_CTL_EYE_SEL w.lane) = 0 ∧ t.rd (LNK_EYE_CTL_VOFF w.lane) = 0 ∧ t.rd (LNK_EYE_CTL_PHASE w.lane) = 0
      ∧ s.Keeps t (own [LNK_EYE_CTL_DWELL w.lane, LNK_EYE_CTL_EYE_SEL w.lane, LNK_EYE_CTL_VOFF w.lane, LNK_EYE_CTL_PHASE w.lane])
          fun u => { u with mon := { u.mon with sweep := none }, lane := u.lane.put w.lane { u.lane.look w.lane {} with eye := false } }

/-- For a field of w bits, a is later than b exactly when (a - b) mod 2^w lies in 1 to 2^(w-1) - 1, and equals it when the difference is 0; at a difference of exactly 2^(w-1) neither is later than the other. The machine handles such a pair as out of range: an FS whose frame number differs so from LAST_FN is lost with cause 5 as one that is not later, and a packet whose SEQ differs so from the expected one is a packet error, counted in SEQ_GAP. -/
def Obligations.LaterComparison : Prop :=
  (∀ (w a b : Nat) (d : Int), 1 ≤ w → d = ((a : Int) - b) % (2 ^ w : Nat) →
    (laterThan w a b = true ↔ 1 ≤ d ∧ d ≤ (2 ^ (w - 1) : Nat) - 1) ∧ (subMod w a b = 0 ↔ d = 0) ∧ ((subMod w a b : Int) = d)
      ∧ (d = (2 ^ (w - 1) : Nat) → laterThan w a b = false ∧ laterThan w b a = false))
  ∧ (∀ (s : State) (b : Fin 8) (v : Fin 16) (seq c fn tag ts tns tf l0 l1 : Nat), s.takes b seq → s.binds b v c → s.u.itk.stop = false →
    (Run.start s).openFrame v = none → (s.u.itk.vs.look v {}).first = false → fn < 2 ^ 32 → s.rd (ITK_VS_LAST_FN v) < 2 ^ 32 →
    subMod 32 fn (s.rd (ITK_VS_LAST_FN v)) = 2 ^ 31 →
    ∃ t, exec (.fs b seq v fn tag ts tns tf l0 l1) s = .next t ∧ t.rd (ITK_VS_STATUS_LOST_CAUSE v) = 5 ∧ t.rd (ITK_VS_LOST_FN v) = fn
      ∧ t.rd (ITK_VS_LAST_FN v) = s.rd (ITK_VS_LAST_FN v))
  ∧ ∀ (s : State) (b : Fin 8) (seq : Nat), (Run.start s).bndHears b = true → seq < 2 ^ 24 → s.rd (ITK_BND_SEQ_EXP_SEQ b) < 2 ^ 24 →
    subMod 24 seq (s.rd (ITK_BND_SEQ_EXP_SEQ b)) = 2 ^ 23 →
    ∃ t, exec (.reservedType b seq) s = .next t ∧ t.rd (ITK_BND_ERR_SEQ_GAP b) = min (s.rd (ITK_BND_ERR_SEQ_GAP b) + 1) 0xFF
      ∧ t.rd (ITK_BND_SEQ_EXP_SEQ b) = s.rd (ITK_BND_SEQ_EXP_SEQ b) ∧ (t.u.itk.bnd.look b {}).discard = true

/-- A lane in ALIGN whose TRAINED flag is 1 goes to LINKED at the declared comma lock, or at the host's ACCEPT in software mode, and no training is counted; if 100 us pass in ALIGN first, it clears TRAINED and goes to ACQUIRE. The premise on bundles is the invariant that a lane the bundle waits for holds a position. -/
def Obligations.RegainedLock : Prop :=
  (∀ (s : State) (n : Fin 48), s.rd (LNK_STATUS_STATE n) = 2 → s.rd (LNK_STATUS_TRAINED n) ≠ 0 →
    (∀ b < 8, (Run.start s).bundleOf n = some b → (s.u.itk.bnd.look b {}).wait.all (fun w => (s.u.itk.bnd.look b {}).map.contains w.1) = true) →
    (s.rd (LNK_ALIGN_COMMA_EN n) ≠ 0 → ∃ t, exec (.commaLock n) s = .next t ∧ t.rd (LNK_STATUS_STATE n) = 4 ∧ t.rd (LNK_STATUS_RX_LOCK n) = 1
      ∧ t.rd (LNK_STATUS_TRAINED n) = s.rd (LNK_STATUS_TRAINED n) ∧ t.rd (LNK_STATUS_TRAIN_COUNT n) = s.rd (LNK_STATUS_TRAIN_COUNT n))
    ∧ (s.rd (LNK_ALIGN_COMMA_EN n) = 0 → s.rd (LNK_ALIGN_HDR_OK n) ≠ 0 → ∃ t, exec (.accept n) s = .next t ∧ t.rd (LNK_STATUS_STATE n) = 4
      ∧ t.rd (LNK_STATUS_RX_LOCK n) = 1 ∧ t.rd (LNK_STATUS_TRAIN_COUNT n) = s.rd (LNK_STATUS_TRAIN_COUNT n)))
  ∧ ∀ (s : State) (n : Fin 48), s.rd (LNK_STATUS_STATE n) = 2 → s.rd (LNK_STATUS_TRAINED n) ≠ 0 →
    ∃ t, exec (.alignTimeout n) s = .next t ∧ t.rd (LNK_STATUS_TRAINED n) = 0 ∧ t.rd (LNK_STATUS_STATE n) = 1

/-- For the m values and the n samples of a block, with the cost of k the sum of q + 1 + k when q = m >> k is below 24 and of 42 otherwise, some k from 0 to 17 has the lowest cost, the smallest such k, and the block's bits are the header H = 31 and the raw samples when 18n is strictly below that cost, else the header H = k and the codes of the m values under k; each code has exactly the bits the cost counts. -/
def Obligations.PackParameter : Prop :=
  ∀ (ms ss : List Nat) (cost : Nat → Nat), (∀ k, cost k = (ms.map fun m => if m / 2 ^ k < 24 then m / 2 ^ k + 1 + k else 42).sum) → ms.length = ss.length →
    ∃ k, k ≤ 17 ∧ (∀ j ≤ 17, cost k ≤ cost j ∧ (cost j = cost k → k ≤ j)) ∧ (ms.flatMap (riceBits k)).length = cost k
      ∧ blockBits ms ss = (if 18 * ss.length < cost k then lsbBits 5 31 ++ ss.flatMap (lsbBits 18) else lsbBits 5 k ++ ms.flatMap (riceBits k))

/-- For every slice of rows of one width whose samples are below 2^18, and periods PW and PH of at least 1, the decoder of R288 reads from the blocks' bits, followed by anything, exactly the rows that were coded: the packing of R284 to R286 loses nothing. -/
def Obligations.PackingIsLossless : Prop :=
  ∀ (pw ph w : Nat) (rows : List (List Nat)) (rest : List Bool), 1 ≤ pw → 1 ≤ ph → rows.all (fun row => row.length == w && row.all fun v => decide (v < 2 ^ 18)) = true →
    decodeRows pw ph w rows.length [] ((sliceBlocks pw ph rows).flatMap (fun b => blockBits b.1 b.2) ++ rest) = (rows, true)
end

