-- ==== Sys2Proof/Laws/Tab.lean ====
section
/-!
SUPPORT. The laws of sparse tables: what a lookup finds after a change, and that every change keeps keys rising.
-/
namespace Sys2Proof
variable {α : Type}

theorem Tab.look_put_same (t : Tab α) (n : Nat) (v d : α) : (t.put n v).look n d = v := by
  induction t with
  | nil => simp [Tab.put, Tab.look]
  | cons e t ih =>
    obtain ⟨k, w⟩ := e
    unfold Tab.put
    split_ifs with h1 h2
    · simp [Tab.look]
    · simp [Tab.look]
    · simp only [Tab.look]; rw [if_neg (fun h => h2 h.symm)]; exact ih

theorem Tab.look_put_ne (t : Tab α) {n m : Nat} (v d : α) (h : m ≠ n) : (t.put n v).look m d = t.look m d := by
  induction t with
  | nil => simp [Tab.put, Tab.look, h.symm]
  | cons e t ih =>
    obtain ⟨k, w⟩ := e
    unfold Tab.put
    split_ifs with h1 h2
    · simp [Tab.look, h.symm]
    · subst h2; simp [Tab.look, h.symm]
    · simp only [Tab.look, ih]

theorem Tab.look_drop_ne (t : Tab α) {n m : Nat} (d : α) (h : m ≠ n) : (t.drop n).look m d = t.look m d := by
  induction t with
  | nil => rfl
  | cons e t ih =>
    obtain ⟨k, w⟩ := e
    unfold Tab.drop
    split_ifs with h1
    · subst h1; simp [Tab.look, h.symm]
    · simp only [Tab.look, ih]

/-- A key below every key of a table is not in it. -/
theorem Tab.look_above {n : Nat} (t : Tab α) (d : α) (h : t.above n = true) : t.look n d = d := by
  induction t with
  | nil => rfl
  | cons e t ih =>
    obtain ⟨k, w⟩ := e
    simp only [Tab.above, List.all_cons, Bool.and_eq_true, decide_eq_true_eq] at h
    simp only [Tab.look]
    rw [if_neg (by omega)]
    exact ih (by simpa [Tab.above] using h.2)

theorem Tab.look_drop_same (t : Tab α) (n : Nat) (d : α) (h : t.rising = true) : (t.drop n).look n d = d := by
  induction t with
  | nil => rfl
  | cons e t ih =>
    obtain ⟨k, w⟩ := e
    simp only [Tab.rising, Bool.and_eq_true] at h
    unfold Tab.drop
    split_ifs with h1
    · subst h1; exact Tab.look_above t d h.1
    · simp only [Tab.look]; rw [if_neg h1]; exact ih h.2

theorem Tab.above_mono {n m : Nat} (t : Tab α) (h : t.above n = true) (hm : m ≤ n) : t.above m = true := by
  simp only [Tab.above, List.all_eq_true, decide_eq_true_eq] at *
  intro x hx; exact lt_of_le_of_lt hm (h x hx)

theorem Tab.above_put {n k : Nat} (t : Tab α) (v : α) (h : t.above k = true) (hk : k < n) : (t.put n v).above k = true := by
  induction t with
  | nil => simpa [Tab.put, Tab.above] using hk
  | cons e t ih =>
    obtain ⟨j, w⟩ := e
    simp only [Tab.above, List.all_cons, Bool.and_eq_true, decide_eq_true_eq] at h
    unfold Tab.put
    split_ifs with h1 h2
    · simp only [Tab.above, List.all_cons, Bool.and_eq_true, decide_eq_true_eq]; exact ⟨hk, h.1, h.2⟩
    · simp only [Tab.above, List.all_cons, Bool.and_eq_true, decide_eq_true_eq]; exact ⟨hk, h.2⟩
    · simp only [Tab.above, List.all_cons, Bool.and_eq_true, decide_eq_true_eq]
      exact ⟨h.1, ih (by simpa [Tab.above] using h.2)⟩

/-- A change of one key keeps the keys rising. -/
theorem Tab.rising_put (t : Tab α) (n : Nat) (v : α) (h : t.rising = true) : (t.put n v).rising = true := by
  induction t with
  | nil => simp [Tab.put, Tab.rising, Tab.above]
  | cons e t ih =>
    obtain ⟨k, w⟩ := e
    simp only [Tab.rising, Bool.and_eq_true] at h
    unfold Tab.put
    split_ifs with h1 h2
    · simp only [Tab.rising, Bool.and_eq_true]
      refine ⟨?_, h.1, h.2⟩
      simp only [Tab.above, List.all_cons, Bool.and_eq_true, decide_eq_true_eq]
      exact ⟨h1, by simpa [Tab.above] using Tab.above_mono t h.1 h1.le⟩
    · subst h2; simp only [Tab.rising, Bool.and_eq_true]; exact ⟨h.1, h.2⟩
    · simp only [Tab.rising, Bool.and_eq_true]
      exact ⟨Tab.above_put t v h.1 (by omega), ih h.2⟩

theorem Tab.above_drop {k : Nat} (t : Tab α) (n : Nat) (h : t.above k = true) : (t.drop n).above k = true := by
  induction t with
  | nil => rfl
  | cons e t ih =>
    obtain ⟨j, w⟩ := e
    simp only [Tab.above, List.all_cons, Bool.and_eq_true, decide_eq_true_eq] at h
    unfold Tab.drop
    split_ifs
    · simpa [Tab.above] using h.2
    · simp only [Tab.above, List.all_cons, Bool.and_eq_true, decide_eq_true_eq]
      exact ⟨h.1, ih (by simpa [Tab.above] using h.2)⟩

/-- Removing a key keeps the keys rising. -/
theorem Tab.rising_drop (t : Tab α) (n : Nat) (h : t.rising = true) : (t.drop n).rising = true := by
  induction t with
  | nil => rfl
  | cons e t ih =>
    obtain ⟨k, w⟩ := e
    simp only [Tab.rising, Bool.and_eq_true] at h
    unfold Tab.drop
    split_ifs
    · exact h.2
    · simp only [Tab.rising, Bool.and_eq_true]; exact ⟨Tab.above_drop t n h.1, ih h.2⟩

/-- Keeping some of the keys keeps them rising. -/
theorem Tab.rising_filter (t : Tab α) (p : Nat × α → Bool) (h : t.rising = true) : Tab.rising (t.filter p) = true := by
  induction t with
  | nil => rfl
  | cons e t ih =>
    obtain ⟨k, w⟩ := e
    simp only [Tab.rising, Bool.and_eq_true] at h
    simp only [List.filter]
    split
    · simp only [Tab.rising, Bool.and_eq_true]
      refine ⟨?_, ih h.2⟩
      have := h.1
      simp only [Tab.above, List.all_eq_true, decide_eq_true_eq] at *
      intro x hx; exact this x (List.mem_filter.mp hx).1
    · exact ih h.2

/-- Every entry of a table after a removal was in it before. -/
theorem Tab.mem_drop (t : Tab α) (n : Nat) : ∀ x ∈ t.drop n, x ∈ t := by
  induction t with
  | nil => intro x h; exact h
  | cons e t ih =>
    obtain ⟨k, w⟩ := e
    intro x h
    unfold Tab.drop at h
    split_ifs at h
    · exact List.mem_cons_of_mem _ h
    · rcases List.mem_cons.mp h with rfl | h
      · exact List.mem_cons_self
      · exact List.mem_cons_of_mem _ (ih x h)

/-- Every entry of a table after a change is the new one or was in it before. -/
theorem Tab.mem_put (t : Tab α) (n : Nat) (v : α) : ∀ x ∈ t.put n v, x = (n, v) ∨ x ∈ t := by
  induction t with
  | nil => intro x h; simpa [Tab.put] using h
  | cons e t ih =>
    obtain ⟨k, w⟩ := e
    intro x h
    unfold Tab.put at h
    split_ifs at h
    · rcases List.mem_cons.mp h with rfl | h
      · exact .inl rfl
      · exact .inr h
    · rcases List.mem_cons.mp h with rfl | h
      · exact .inl rfl
      · exact .inr (List.mem_cons_of_mem _ h)
    · rcases List.mem_cons.mp h with rfl | h
      · exact .inr List.mem_cons_self
      · exact (ih x h).imp id (List.mem_cons_of_mem _)

namespace Machine

/-- A write of one byte is read back (MEMORY's first law). -/
theorem Mem.get_set_same (m : List Host.Cell) (a : Nat) (b : Byte) (h : Mem.wf m = true) : Mem.get (Mem.set m a b) a = b := by
  simp only [Mem.wf, Bool.and_eq_true] at h
  unfold Mem.set Mem.get
  split_ifs with hb
  · subst hb; exact Tab.look_drop_same m a _ h.1
  · exact Tab.look_put_same m a b _

/-- A write of one byte leaves every other byte alone. -/
theorem Mem.get_set_ne (m : List Host.Cell) {a c : Nat} (b : Byte) (h : c ≠ a) : Mem.get (Mem.set m a b) c = Mem.get m c := by
  unfold Mem.set Mem.get
  split_ifs
  · exact Tab.look_drop_ne m _ h
  · exact Tab.look_put_ne m b _ h

/-- A write of one byte keeps the canonical form. -/
theorem Mem.wf_set (m : List Host.Cell) (a : Nat) (b : Byte) (h : Mem.wf m = true) : Mem.wf (Mem.set m a b) = true := by
  simp only [Mem.wf, Bool.and_eq_true, List.all_eq_true] at *
  unfold Mem.set
  split_ifs with hb
  · exact ⟨Tab.rising_drop m a h.1, fun x hx => h.2 x (Tab.mem_drop m a x hx)⟩
  · refine ⟨Tab.rising_put m a b h.1, fun x hx => ?_⟩
    rcases Tab.mem_put m a b x hx with rfl | hx
    · simpa using hb
    · exact h.2 x hx

end Machine
end Sys2Proof
end

