-- ==== Sys2Proof/Laws/State.lean ====
section
/-!
SUPPORT. What each primitive does to each field of the state, and what register reads, DRAM reads and the canonical form see of
it. Every meaning is made of these primitives, so no later proof needs to unfold a record update.
-/
namespace Sys2Proof.Machine

@[simp] theorem State.wr_regs (s : State) (f : Fld) (v : Nat) : (s.wr f v).regs = s.regs.put f.key (v % 2 ^ f.w) := rfl
@[simp] theorem State.wr_act (s : State) (f : Fld) (v : Nat) : (s.wr f v).act = s.act := rfl
@[simp] theorem State.wr_mem (s : State) (f : Fld) (v : Nat) : (s.wr f v).mem = s.mem := rfl
@[simp] theorem State.wr_u (s : State) (f : Fld) (v : Nat) : (s.wr f v).u = s.u := rfl
@[simp] theorem State.wr_now (s : State) (f : Fld) (v : Nat) : (s.wr f v).now = s.now := rfl
@[simp] theorem State.wr_fresh (s : State) (f : Fld) (v : Nat) : (s.wr f v).fresh = s.fresh := rfl
@[simp] theorem State.wr_out (s : State) (f : Fld) (v : Nat) : (s.wr f v).out = s.out := rfl
@[simp] theorem State.wr_pending (s : State) (f : Fld) (v : Nat) : (s.wr f v).pending = s.pending := rfl

@[simp] theorem State.wrA_regs (s : State) (f : Fld) (v : Nat) : (s.wrA f v).regs = s.regs := rfl
@[simp] theorem State.wrA_act (s : State) (f : Fld) (v : Nat) : (s.wrA f v).act = s.act.put f.key (v % 2 ^ f.w) := rfl
@[simp] theorem State.wrA_mem (s : State) (f : Fld) (v : Nat) : (s.wrA f v).mem = s.mem := rfl
@[simp] theorem State.wrA_u (s : State) (f : Fld) (v : Nat) : (s.wrA f v).u = s.u := rfl
@[simp] theorem State.wrA_now (s : State) (f : Fld) (v : Nat) : (s.wrA f v).now = s.now := rfl
@[simp] theorem State.wrA_fresh (s : State) (f : Fld) (v : Nat) : (s.wrA f v).fresh = s.fresh := rfl
@[simp] theorem State.wrA_out (s : State) (f : Fld) (v : Nat) : (s.wrA f v).out = s.out := rfl
@[simp] theorem State.wrA_pending (s : State) (f : Fld) (v : Nat) : (s.wrA f v).pending = s.pending := rfl

@[simp] theorem State.store_regs (s : State) (a : Nat) (b : Byte) : (s.store a b).regs = s.regs := rfl
@[simp] theorem State.store_act (s : State) (a : Nat) (b : Byte) : (s.store a b).act = s.act := rfl
@[simp] theorem State.store_mem (s : State) (a : Nat) (b : Byte) : (s.store a b).mem = Mem.set s.mem a b := rfl
@[simp] theorem State.store_u (s : State) (a : Nat) (b : Byte) : (s.store a b).u = s.u := rfl
@[simp] theorem State.store_now (s : State) (a : Nat) (b : Byte) : (s.store a b).now = s.now := rfl
@[simp] theorem State.store_fresh (s : State) (a : Nat) (b : Byte) : (s.store a b).fresh = s.fresh := rfl
@[simp] theorem State.store_out (s : State) (a : Nat) (b : Byte) : (s.store a b).out = s.out := rfl
@[simp] theorem State.store_pending (s : State) (a : Nat) (b : Byte) : (s.store a b).pending = s.pending := rfl

@[simp] theorem State.emit_regs (s : State) (o : Out) : (s.emit o).regs = s.regs := rfl
@[simp] theorem State.emit_act (s : State) (o : Out) : (s.emit o).act = s.act := rfl
@[simp] theorem State.emit_mem (s : State) (o : Out) : (s.emit o).mem = s.mem := rfl
@[simp] theorem State.emit_u (s : State) (o : Out) : (s.emit o).u = s.u := rfl
@[simp] theorem State.emit_now (s : State) (o : Out) : (s.emit o).now = s.now := rfl
@[simp] theorem State.emit_fresh (s : State) (o : Out) : (s.emit o).fresh = s.fresh := rfl
@[simp] theorem State.emit_out (s : State) (o : Out) : (s.emit o).out = o :: s.out := rfl
@[simp] theorem State.emit_pending (s : State) (o : Out) : (s.emit o).pending = s.pending := rfl

@[simp] theorem State.tick_regs (s : State) (n : Nat) : (s.tick n).regs = s.regs := rfl
@[simp] theorem State.tick_act (s : State) (n : Nat) : (s.tick n).act = s.act := rfl
@[simp] theorem State.tick_mem (s : State) (n : Nat) : (s.tick n).mem = s.mem := rfl
@[simp] theorem State.tick_u (s : State) (n : Nat) : (s.tick n).u = s.u := rfl
@[simp] theorem State.tick_now (s : State) (n : Nat) : (s.tick n).now = s.now + n := rfl
@[simp] theorem State.tick_fresh (s : State) (n : Nat) : (s.tick n).fresh = s.fresh := rfl
@[simp] theorem State.tick_out (s : State) (n : Nat) : (s.tick n).out = s.out := rfl
@[simp] theorem State.tick_pending (s : State) (n : Nat) : (s.tick n).pending = s.pending := rfl

@[simp] theorem State.draw_regs (s : State) : (s.draw).regs = s.regs := rfl
@[simp] theorem State.draw_act (s : State) : (s.draw).act = s.act := rfl
@[simp] theorem State.draw_mem (s : State) : (s.draw).mem = s.mem := rfl
@[simp] theorem State.draw_u (s : State) : (s.draw).u = s.u := rfl
@[simp] theorem State.draw_now (s : State) : (s.draw).now = s.now := rfl
@[simp] theorem State.draw_fresh (s : State) : (s.draw).fresh = s.fresh + 1 := rfl
@[simp] theorem State.draw_out (s : State) : (s.draw).out = s.out := rfl
@[simp] theorem State.draw_pending (s : State) : (s.draw).pending = s.pending := rfl

@[simp] theorem State.modify_regs (s : State) (f : Units → Units) : (s.modify f).regs = s.regs := rfl
@[simp] theorem State.modify_act (s : State) (f : Units → Units) : (s.modify f).act = s.act := rfl
@[simp] theorem State.modify_mem (s : State) (f : Units → Units) : (s.modify f).mem = s.mem := rfl
@[simp] theorem State.modify_u (s : State) (f : Units → Units) : (s.modify f).u = f s.u := rfl
@[simp] theorem State.modify_now (s : State) (f : Units → Units) : (s.modify f).now = s.now := rfl
@[simp] theorem State.modify_fresh (s : State) (f : Units → Units) : (s.modify f).fresh = s.fresh := rfl
@[simp] theorem State.modify_out (s : State) (f : Units → Units) : (s.modify f).out = s.out := rfl
@[simp] theorem State.modify_pending (s : State) (f : Units → Units) : (s.modify f).pending = s.pending := rfl

@[simp] theorem State.keepRegs_regs (s : State) (p : Nat → Bool) : (s.keepRegs p).regs = s.regs.filter (fun e => p e.1) := rfl
@[simp] theorem State.keepRegs_act (s : State) (p : Nat → Bool) : (s.keepRegs p).act = s.act.filter (fun e => p e.1) := rfl
@[simp] theorem State.keepRegs_mem (s : State) (p : Nat → Bool) : (s.keepRegs p).mem = s.mem := rfl
@[simp] theorem State.keepRegs_u (s : State) (p : Nat → Bool) : (s.keepRegs p).u = s.u := rfl
@[simp] theorem State.keepRegs_now (s : State) (p : Nat → Bool) : (s.keepRegs p).now = s.now := rfl
@[simp] theorem State.keepRegs_fresh (s : State) (p : Nat → Bool) : (s.keepRegs p).fresh = s.fresh := rfl
@[simp] theorem State.keepRegs_out (s : State) (p : Nat → Bool) : (s.keepRegs p).out = s.out := rfl
@[simp] theorem State.keepRegs_pending (s : State) (p : Nat → Bool) : (s.keepRegs p).pending = s.pending := rfl

@[simp] theorem State.clearMem_regs (s : State) : (s.clearMem).regs = s.regs := rfl
@[simp] theorem State.clearMem_act (s : State) : (s.clearMem).act = s.act := rfl
@[simp] theorem State.clearMem_mem (s : State) : (s.clearMem).mem = [] := rfl
@[simp] theorem State.clearMem_u (s : State) : (s.clearMem).u = s.u := rfl
@[simp] theorem State.clearMem_now (s : State) : (s.clearMem).now = s.now := rfl
@[simp] theorem State.clearMem_fresh (s : State) : (s.clearMem).fresh = s.fresh := rfl
@[simp] theorem State.clearMem_out (s : State) : (s.clearMem).out = s.out := rfl
@[simp] theorem State.clearMem_pending (s : State) : (s.clearMem).pending = s.pending := rfl

/-! ## Register reads -/

/-- A field that was written reads as the value written, cut to its width. -/
@[simp] theorem State.rd_wr_same (s : State) (f : Fld) (v : Nat) : (s.wr f v).rd f = v % 2 ^ f.w := Tab.look_put_same _ _ _ _

/-- A write of one field leaves every other field alone. -/
theorem State.rd_wr_ne (s : State) {f g : Fld} (v : Nat) (h : g.key ≠ f.key) : (s.wr f v).rd g = s.rd g := Tab.look_put_ne _ _ _ h

@[simp] theorem State.rdA_wrA_same (s : State) (f : Fld) (v : Nat) : (s.wrA f v).rdA f = v % 2 ^ f.w := Tab.look_put_same _ _ _ _

theorem State.rdA_wrA_ne (s : State) {f g : Fld} (v : Nat) (h : g.key ≠ f.key) : (s.wrA f v).rdA g = s.rdA g := Tab.look_put_ne _ _ _ h

@[simp] theorem State.rdA_wr (s : State) (f : Fld) (v : Nat) (g : Fld) : (s.wr f v).rdA g = s.rdA g := rfl
@[simp] theorem State.rd_wrA (s : State) (f : Fld) (v : Nat) (g : Fld) : (s.wrA f v).rd g = s.rd g := rfl
@[simp] theorem State.rd_store (s : State) (a : Nat) (b : Byte) (g : Fld) : (s.store a b).rd g = s.rd g := rfl
@[simp] theorem State.rdA_store (s : State) (a : Nat) (b : Byte) (g : Fld) : (s.store a b).rdA g = s.rdA g := rfl
@[simp] theorem State.rd_emit (s : State) (o : Out) (g : Fld) : (s.emit o).rd g = s.rd g := rfl
@[simp] theorem State.rdA_emit (s : State) (o : Out) (g : Fld) : (s.emit o).rdA g = s.rdA g := rfl
@[simp] theorem State.rd_tick (s : State) (n : Nat) (g : Fld) : (s.tick n).rd g = s.rd g := rfl
@[simp] theorem State.rdA_tick (s : State) (n : Nat) (g : Fld) : (s.tick n).rdA g = s.rdA g := rfl
@[simp] theorem State.rd_draw (s : State) (g : Fld) : (s.draw).rd g = s.rd g := rfl
@[simp] theorem State.rdA_draw (s : State) (g : Fld) : (s.draw).rdA g = s.rdA g := rfl
@[simp] theorem State.rd_modify (s : State) (f : Units → Units) (g : Fld) : (s.modify f).rd g = s.rd g := rfl
@[simp] theorem State.rdA_modify (s : State) (f : Units → Units) (g : Fld) : (s.modify f).rdA g = s.rdA g := rfl
@[simp] theorem State.rd_clearMem (s : State) (g : Fld) : (s.clearMem).rd g = s.rd g := rfl
@[simp] theorem State.rdA_clearMem (s : State) (g : Fld) : (s.clearMem).rdA g = s.rdA g := rfl

end Sys2Proof.Machine
end

