-- ==== Sys2Proof/Laws/Reach.lean ====
section
/-!
SUPPORT. What the primitives keep, said once for every meaning: `Reach s t` says that t comes from s by primitives, and every
Run carries such a fact.
-/
namespace Sys2Proof.Machine

/-- Primitives keep the tables canonical. -/
theorem Reach.inv {s t : State} (h : Reach s t) (hs : s.Inv) : t.Inv := by
  induction h with
  | refl => exact hs
  | wr _ f v ih => exact ⟨Tab.rising_put _ _ _ ih.1, ih.2⟩
  | wrA _ f v ih => exact ⟨ih.1, Tab.rising_put _ _ _ ih.2.1, ih.2.2⟩
  | store _ a b ih => exact ⟨ih.1, ih.2.1, Mem.wf_set _ _ _ ih.2.2⟩
  | emit _ o ih => exact ih
  | tick _ n ih => exact ih
  | draw _ ih => exact ih
  | modify _ f ih => exact ih
  | keepRegs _ p ih => exact ⟨Tab.rising_filter _ _ ih.1, Tab.rising_filter _ _ ih.2.1, ih.2.2⟩
  | clearMem _ ih => exact ⟨ih.1, ih.2.1, rfl⟩

/-- Primitives leave the queue alone. -/
theorem Reach.pending {s t : State} (h : Reach s t) : t.pending = s.pending := by
  induction h <;> simp_all

/-- Time never runs backwards. -/
theorem Reach.now_le {s t : State} (h : Reach s t) : s.now ≤ t.now := by
  induction h with
  | refl => exact le_refl _
  | tick _ n ih => simpa using ih.trans (Nat.le_add_right _ n)
  | _ => simpa using ‹_ ≤ _›

/-- What has left the block stays on record. -/
theorem Reach.out_suffix {s t : State} (h : Reach s t) : s.out <:+ t.out := by
  induction h with
  | refl => exact List.suffix_refl _
  | emit _ o ih => exact ih.trans (List.suffix_cons _ _)
  | _ => simpa using ‹_ <:+ _›

/-- No free value is drawn twice. -/
theorem Reach.fresh_le {s t : State} (h : Reach s t) : s.fresh ≤ t.fresh := by
  induction h with
  | refl => exact le_refl _
  | draw _ ih => simpa using ih.trans (Nat.le_succ _)
  | _ => simpa using ‹_ ≤ _›

/-- A meaning that is `done s f` answers a next state. -/
theorem done_next (s : State) (f : Run s → Run s) : done s f = .next (f (.start s)).st := rfl

/-- What `done s f` answers comes from s by primitives. -/
theorem done_reach {s t : State} {f : Run s → Run s} (h : done s f = .next t) : Reach s t := by
  have : (f (.start s)).st = t := by simpa [done] using h
  exact this ▸ (f (.start s)).ok

end Sys2Proof.Machine
end

