-- ==== Sys2Proof/Laws/Run.lean ====
section
/-!
SUPPORT. What a register reads after the operations every meaning is made of, and what the shared operations (an event, a breach
record, a cofferdam) leave unchanged: each said once, so that a proof about a meaning never unfolds them.
-/
namespace Sys2Proof.Machine
variable {s₀ s : State} {p m : Nat → Bool} {h : Units → Units}

/-! ## Reads after writes -/

theorem Run.rd_wr_same (r : Run s₀) (f : Fld) (v : Nat) : (r.wr f v).rd f = v % 2 ^ f.w := by
  simp [Run.rd, Run.wr, State.rd, State.wr, Tab.look_put_same]

theorem Run.rd_wr_key (r : Run s₀) {f g : Fld} (v : Nat) (hk : g.key = f.key) : (r.wr f v).rd g = v % 2 ^ f.w := by
  simp [Run.rd, Run.wr, State.rd, State.wr, hk, Tab.look_put_same]

theorem Run.rd_wr_ne (r : Run s₀) {f g : Fld} (v : Nat) (hk : g.key ≠ f.key) : (r.wr f v).rd g = r.rd g := by
  simp [Run.rd, Run.wr, State.rd, State.wr, Tab.look_put_ne _ _ _ hk]

theorem Run.rdA_wrA_same (r : Run s₀) (f : Fld) (v : Nat) : (r.wrA f v).rdA f = v % 2 ^ f.w := by
  simp [Run.rdA, Run.wrA, State.rdA, State.wrA, Tab.look_put_same]

theorem Run.rdA_wrA_ne (r : Run s₀) {f g : Fld} (v : Nat) (hk : g.key ≠ f.key) : (r.wrA f v).rdA g = r.rdA g := by
  simp [Run.rdA, Run.wrA, State.rdA, State.wrA, Tab.look_put_ne _ _ _ hk]

@[simp] theorem Run.rdA_wr (r : Run s₀) (f g : Fld) (v : Nat) : (r.wr f v).rdA g = r.rdA g := rfl
@[simp] theorem Run.rd_wrA (r : Run s₀) (f g : Fld) (v : Nat) : (r.wrA f v).rd g = r.rd g := rfl
@[simp] theorem Run.rd_mod (r : Run s₀) (f : Units → Units) (g : Fld) : (r.mod f).rd g = r.rd g := rfl
@[simp] theorem Run.rdA_mod (r : Run s₀) (f : Units → Units) (g : Fld) : (r.mod f).rdA g = r.rdA g := rfl
@[simp] theorem Run.rd_emit (r : Run s₀) (o : Out) (g : Fld) : (r.emit o).rd g = r.rd g := rfl
@[simp] theorem Run.rdA_emit (r : Run s₀) (o : Out) (g : Fld) : (r.emit o).rdA g = r.rdA g := rfl
@[simp] theorem Run.rd_start (s : State) (g : Fld) : (Run.start s).rd g = s.rd g := rfl
@[simp] theorem Run.rdA_start (s : State) (g : Fld) : (Run.start s).rdA g = s.rdA g := rfl
@[simp] theorem Run.st_start (s : State) : (Run.start s).st = s := rfl
@[simp] theorem Run.u_start (s : State) : (Run.start s).u = s.u := rfl
@[simp] theorem Run.rd_hwSet (r : Run s₀) (f : Fld) (m : Nat) (g : Fld) : (r.hwSet f m).rd g = (r.set f m).rd g := rfl
@[simp] theorem Run.rdA_hwSet (r : Run s₀) (f : Fld) (m : Nat) (g : Fld) : (r.hwSet f m).rdA g = r.rdA g := rfl
@[simp] theorem Run.u_wr (r : Run s₀) (f : Fld) (v : Nat) : (r.wr f v).u = r.u := rfl
@[simp] theorem Run.u_wrA (r : Run s₀) (f : Fld) (v : Nat) : (r.wrA f v).u = r.u := rfl
@[simp] theorem Run.u_emit (r : Run s₀) (o : Out) : (r.emit o).u = r.u := rfl
@[simp] theorem Run.u_mod (r : Run s₀) (f : Units → Units) : (r.mod f).u = f r.u := rfl
@[simp] theorem Run.when_true (r : Run s₀) (f : Run s₀ → Run s₀) : r.when true f = f r := rfl
@[simp] theorem Run.when_false (r : Run s₀) (f : Run s₀ → Run s₀) : r.when false f = r := rfl
@[simp] theorem Run.each_nil {α : Type} (r : Run s₀) (f : α → Run s₀ → Run s₀) : r.each [] f = r := rfl
@[simp] theorem Run.each_cons {α : Type} (r : Run s₀) (a : α) (l : List α) (f : α → Run s₀ → Run s₀) :
    r.each (a :: l) f = (f a r).each l f := rfl

/-! ## What operations keep -/

theorem State.KeepsBut.refl (s : State) : s.KeepsBut s p m h := ⟨fun _ _ _ => ⟨rfl, rfl⟩, fun _ _ => rfl, rfl, rfl, rfl⟩

theorem State.KeepsBut.wr {r : Run s₀} (H : s.KeepsBut r.st p m h) (f : Fld) (v : Nat) (hf : p f.key = true ∨ eventKey f.key = true) :
    s.KeepsBut (r.wr f v).st p m h := by
  refine ⟨fun g hp he => ?_, H.2.1, H.2.2.1, H.2.2.2.1, H.2.2.2.2⟩
  have hk : g.key ≠ f.key := by
    rintro hk; rw [hk] at hp he; simp [hp, he] at hf
  have := H.1 g hp he
  exact ⟨(Run.rd_wr_ne r v hk).trans this.1, this.2⟩

theorem State.KeepsBut.wrA {r : Run s₀} (H : s.KeepsBut r.st p m h) (f : Fld) (v : Nat) (hf : p f.key = true ∨ eventKey f.key = true) :
    s.KeepsBut (r.wrA f v).st p m h := by
  refine ⟨fun g hp he => ?_, H.2.1, H.2.2.1, H.2.2.2.1, H.2.2.2.2⟩
  have hk : g.key ≠ f.key := by
    rintro hk; rw [hk] at hp he; simp [hp, he] at hf
  have := H.1 g hp he
  exact ⟨this.1, (Run.rdA_wrA_ne r v hk).trans this.2⟩

theorem State.KeepsBut.emit {r : Run s₀} (H : s.KeepsBut r.st p m h) (o : Out) : s.KeepsBut (r.emit o).st p m h := H

theorem State.KeepsBut.draw {r : Run s₀} (H : s.KeepsBut r.st p m h) : s.KeepsBut r.st.draw p m h := H

theorem State.KeepsBut.mod {r : Run s₀} (H : s.KeepsBut r.st p m h) (f : Units → Units)
    (hf : ∀ u : Units, h (f u).quiet = h u.quiet) : s.KeepsBut (r.mod f).st p m h :=
  ⟨H.1, H.2.1, H.2.2.1, H.2.2.2.1, (hf r.st.u).trans H.2.2.2.2⟩

theorem State.KeepsBut.evt {r : Run s₀} (H : s.KeepsBut r.st p m h) (f : Evt → Evt)
    (hf : ∀ u : Units, h { u with evt := f u.evt }.quiet = h u.quiet) : s.KeepsBut (r.evt f).st p m h := H.mod _ hf

theorem State.KeepsBut.glb {r : Run s₀} (H : s.KeepsBut r.st p m h) (f : Glb → Glb)
    (hf : ∀ u : Units, h { u with glb := f u.glb }.quiet = h u.quiet) : s.KeepsBut (r.glb f).st p m h := H.mod _ hf

theorem State.KeepsBut.thm {r : Run s₀} (H : s.KeepsBut r.st p m h) (f : Thm → Thm)
    (hf : ∀ u : Units, h { u with thm := f u.thm }.quiet = h u.quiet) : s.KeepsBut (r.thm f).st p m h := H.mod _ hf

theorem State.KeepsBut.tim {r : Run s₀} (H : s.KeepsBut r.st p m h) (f : Tim → Tim)
    (hf : ∀ u : Units, h { u with tim := f u.tim }.quiet = h u.quiet) : s.KeepsBut (r.tim f).st p m h := H.mod _ hf

theorem State.KeepsBut.mon {r : Run s₀} (H : s.KeepsBut r.st p m h) (f : Mon → Mon)
    (hf : ∀ u : Units, h { u with mon := f u.mon }.quiet = h u.quiet) : s.KeepsBut (r.mon f).st p m h := H.mod _ hf

theorem State.KeepsBut.memu {r : Run s₀} (H : s.KeepsBut r.st p m h) (f : MemU → MemU)
    (hf : ∀ u : Units, h { u with mem := f u.mem }.quiet = h u.quiet) : s.KeepsBut (r.memu f).st p m h := H.mod _ hf

theorem State.KeepsBut.dma {r : Run s₀} (H : s.KeepsBut r.st p m h) (f : DmaU → DmaU)
    (hf : ∀ u : Units, h { u with dma := f u.dma }.quiet = h u.quiet) : s.KeepsBut (r.dma f).st p m h := H.mod _ hf

theorem State.KeepsBut.poke {r : Run s₀} (H : s.KeepsBut r.st p m h) (a : Nat) (b : Byte) (ha : m a = true) :
    s.KeepsBut (r.poke a b).st p m h := by
  refine ⟨H.1, fun x hx => ?_, H.2.2.1, H.2.2.2.1, H.2.2.2.2⟩
  have hne : x ≠ a := by rintro rfl; simp [ha] at hx
  exact (Mem.get_set_ne r.st.mem b hne).trans (H.2.1 x hx)

theorem State.KeepsBut.storeBytes {r : Run s₀} (H : s.KeepsBut r.st p m h) (a : Nat) (bs : List Byte)
    (ha : ∀ k, k < bs.length → m (a + k) = true) : s.KeepsBut (r.storeBytes a bs).st p m h := by
  induction bs generalizing r a with
  | nil => exact H
  | cons b bs ih =>
    refine ih (H.poke a b (by simpa using ha 0 (by simp))) (a + 1) fun k hk => ?_
    have := ha (k + 1) (by simpa using hk)
    rwa [show a + 1 + k = a + (k + 1) by omega]

theorem State.KeepsBut.when {r : Run s₀} (H : s.KeepsBut r.st p m h) (c : Bool) {f : Run s₀ → Run s₀}
    (hf : c = true → s.KeepsBut (f r).st p m h) : s.KeepsBut (r.when c f).st p m h := by
  cases c
  · exact H
  · exact hf rfl

theorem State.KeepsBut.each {α : Type} {r : Run s₀} (l : List α) {f : α → Run s₀ → Run s₀} (H : s.KeepsBut r.st p m h)
    (hf : ∀ a ∈ l, ∀ r : Run s₀, s.KeepsBut r.st p m h → s.KeepsBut (f a r).st p m h) : s.KeepsBut (r.each l f).st p m h := by
  induction l generalizing r with
  | nil => exact H
  | cons a l ih => exact ih (hf a (by simp) r H) fun b hb => hf b (by simp [hb])

theorem State.KeepsBut.set {r : Run s₀} (H : s.KeepsBut r.st p m h) (f : Fld) (v : Nat) (hf : p f.key = true ∨ eventKey f.key = true) :
    s.KeepsBut (r.set f v).st p m h := H.wr f _ hf

theorem State.KeepsBut.hwSet {r : Run s₀} (H : s.KeepsBut r.st p m h) (f : Fld) (v : Nat) (hf : p f.key = true ∨ eventKey f.key = true)
    (hh : ∀ (u : Units) (e : Evt), h { u with evt := e }.quiet = h u.quiet) : s.KeepsBut (r.hwSet f v).st p m h := by
  unfold Run.hwSet
  exact (H.evt _ fun u => hh u _).set f v hf

/-- A W1C bit of an event register set by the hardware changes nothing that `Units.quiet` does not forget. -/
theorem State.KeepsBut.evSet {r : Run s₀} (H : s.KeepsBut r.st p m h) (f : Fld) (v : Nat) (hf : p f.key = true ∨ eventKey f.key = true) :
    s.KeepsBut (r.hwSet f v).st p m h := by
  unfold Run.hwSet
  exact (H.evt _ fun _ => rfl).set f v hf

theorem State.KeepsBut.clear {r : Run s₀} (H : s.KeepsBut r.st p m h) (f : Fld) (v : Nat) (hf : p f.key = true ∨ eventKey f.key = true) :
    s.KeepsBut (r.clear f v).st p m h := H.wr f _ hf

theorem State.KeepsBut.sat {r : Run s₀} (H : s.KeepsBut r.st p m h) (f : Fld) (n : Nat) (hf : p f.key = true ∨ eventKey f.key = true) :
    s.KeepsBut (r.sat f n).st p m h := H.wr f _ hf

theorem State.KeepsBut.inc {r : Run s₀} (H : s.KeepsBut r.st p m h) (f : Fld) (n : Nat) (hf : p f.key = true ∨ eventKey f.key = true) :
    s.KeepsBut (r.inc f n).st p m h := H.wr f _ hf

theorem State.KeepsBut.wrS {r : Run s₀} (H : s.KeepsBut r.st p m h) (f : Fld) (v : Int) (hf : p f.key = true ∨ eventKey f.key = true) :
    s.KeepsBut (r.wrS f v).st p m h := H.wr f _ hf

theorem State.KeepsBut.wrBoth {r : Run s₀} (H : s.KeepsBut r.st p m h) (f : Fld) (v : Nat) (hf : p f.key = true ∨ eventKey f.key = true) :
    s.KeepsBut (r.wrBoth f v).st p m h := (H.wr f v hf).wrA f v hf

theorem eventKey_status {e : Nat} (he : e < 512) : eventKey (EVT_STATUS (e / 32)).key = true := by
  have : e / 32 < 16 := by omega
  have h : (EVT_STATUS (e / 32)).key = (0x100000 + 0x4 * (e / 32)) * 8 + 0 := rfl
  have h1 : 0x100000 * 8 ≤ (EVT_STATUS (e / 32)).key := by omega
  have h2 : (EVT_STATUS (e / 32)).key < 0x100040 * 8 := by omega
  simp [eventKey, h1, h2]

theorem eventKey_overrun {e : Nat} (he : e < 512) : eventKey (EVT_OVERRUN (e / 32)).key = true := by
  have : e / 32 < 16 := by omega
  have h : (EVT_OVERRUN (e / 32)).key = (0x100080 + 0x4 * (e / 32)) * 8 + 0 := rfl
  have h1 : 0x100080 * 8 ≤ (EVT_OVERRUN (e / 32)).key := by omega
  have h2 : (EVT_OVERRUN (e / 32)).key < 0x1000C0 * 8 := by omega
  simp [eventKey, h1, h2]

theorem State.KeepsBut.sendMsix {r : Run s₀} (H : s.KeepsBut r.st p m h) (v : Nat) : s.KeepsBut (r.sendMsix v).st p m h := by
  unfold Run.sendMsix
  split
  · exact H.set _ _ (.inr rfl)
  · exact H.emit _

theorem State.KeepsBut.eventMsix {r : Run s₀} (H : s.KeepsBut r.st p m h) (v : Nat) : s.KeepsBut (r.eventMsix v).st p m h := by
  unfold Run.eventMsix
  split
  · exact H
  · exact (H.sendMsix v).mod _ fun _ => rfl

theorem State.KeepsBut.eventOut {r : Run s₀} (H : s.KeepsBut r.st p m h) (k : Nat) (l : Bool) : s.KeepsBut (r.eventOut k l).st p m h := by
  unfold Run.eventOut
  split
  · exact H
  · have h1 := H.evt (fun e => { e with pins := putBits e.pins k 1 (b2n l) }) fun _ => rfl
    exact h1.when _ fun _ => h1.emit _

theorem State.KeepsBut.deliver {r : Run s₀} (H : s.KeepsBut r.st p m h) (e : Nat) : s.KeepsBut (r.deliver e).st p m h := by
  unfold Run.deliver
  refine State.KeepsBut.each _ (State.KeepsBut.each _ (H.when _ fun _ => H.eventMsix _) fun k _ r hr => hr.when _ fun _ => hr.emit _) ?_
  exact fun k _ r hr => hr.when _ fun _ => hr.eventOut _ _

theorem State.KeepsBut.traceEvent {r : Run s₀} (H : s.KeepsBut r.st p m h) (e : Nat) : s.KeepsBut (r.traceEvent e).st p m h := by
  unfold Run.traceEvent
  dsimp only
  split
  · refine State.KeepsBut.when (State.KeepsBut.evt H _ fun _ => rfl) _ fun _ => ?_
    exact State.KeepsBut.wr (State.KeepsBut.evt H _ fun _ => rfl) _ _ (.inr rfl)
  · exact H

theorem State.KeepsBut.occur {r : Run s₀} (H : s.KeepsBut r.st p m h) {e : Nat} (he : e < 512) : s.KeepsBut (r.occur e).st p m h := by
  unfold Run.occur
  have h1 := (H.traceEvent e).evSet (EVT_STATUS (e / 32)) (2 ^ (e % 32)) (.inr (eventKey_status he))
  exact h1.when _ fun _ => h1.deliver e

theorem State.KeepsBut.smbLine {r : Run s₀} (H : s.KeepsBut r.st p m h) : s.KeepsBut r.smbLine.st p m h := by
  unfold Run.smbLine
  dsimp only
  split
  · exact H
  · refine State.KeepsBut.when (State.KeepsBut.emit (State.KeepsBut.glb H _ fun _ => rfl) _) _ fun _ => ?_
    exact State.KeepsBut.occur (State.KeepsBut.emit (State.KeepsBut.glb H _ fun _ => rfl) _) (by omega)

theorem State.KeepsBut.smbCond {r : Run s₀} (H : s.KeepsBut r.st p m h) (k : Nat) : s.KeepsBut (r.smbCond k).st p m h := by
  unfold Run.smbCond
  refine State.KeepsBut.smbLine (State.KeepsBut.glb (State.KeepsBut.set H _ _ (.inr ?_)) _ fun _ => rfl)
  decide

/-- The occurrence of an event changes nothing but the registers of `eventKey` and what `Units.quiet` forgets. -/
theorem State.KeepsBut.ev {r : Run s₀} (H : s.KeepsBut r.st p m h) {e : Nat} (he : e < 512) : s.KeepsBut (r.ev e).st p m h := by
  unfold Run.ev
  split
  · exact H.evSet _ _ (.inr (eventKey_overrun he))
  · refine State.KeepsBut.when (State.KeepsBut.occur (State.KeepsBut.when H _ fun _ => State.KeepsBut.evt H _ fun _ => rfl) he) _ fun _ => ?_
    exact State.KeepsBut.smbCond (State.KeepsBut.occur (State.KeepsBut.when H _ fun _ => State.KeepsBut.evt H _ fun _ => rfl) he) 2

theorem State.KeepsBut.ignored {r : Run s₀} (H : s.KeepsBut r.st p m h) : s.KeepsBut r.ignored.st p m h := H.ev (by omega)

/-- A breach record changes nothing but EVT_BREACH_SEQ, the log, and what event 18 changes. -/
theorem State.KeepsBut.breach {r : Run s₀} (H : s.KeepsBut r.st p m h) (b : Breach) (hp : p EVT_BREACH_SEQ_SEQ.key = true)
    (hh : ∀ (u : Units) (e : Evt), h { u with evt := e }.quiet = h u.quiet) : s.KeepsBut (r.breach b).st p m h := by
  unfold Run.breach
  generalize (if b.time = 0 then r.tselQ else b.time) = t
  dsimp only
  split
  · split
    · exact State.KeepsBut.evt H _ fun u => hh u _
    · exact State.KeepsBut.ev (State.KeepsBut.wr (State.KeepsBut.evt H _ fun u => hh u _) _ _ (.inl hp)) (by omega)
  · exact State.KeepsBut.ev (State.KeepsBut.wr (State.KeepsBut.evt H _ fun u => hh u _) _ _ (.inl hp)) (by omega)

theorem retireKey_cofferdam {type index : Nat} {f : Fld} {k : Nat} (hc : cofferdamBit type index = some (f, k)) : retireKey f.key = true := by
  unfold cofferdamBit at hc
  split_ifs at hc <;> (simp only [Option.some.injEq, Prod.mk.injEq] at hc; obtain ⟨rfl, -⟩ := hc; decide)

/-- A retirement changes nothing but the registers of `retireKey`, the event unit, and what its events change. -/
theorem State.KeepsBut.cofferdam {r : Run s₀} (H : s.KeepsBut r.st p m h) (type index : Nat) (hp : ∀ k, retireKey k = true → p k = true)
    (hh : ∀ (u : Units) (e : Evt), h { u with evt := e }.quiet = h u.quiet) : s.KeepsBut (r.cofferdam type index).st p m h := by
  unfold Run.cofferdam
  split
  · exact H
  · rename_i f k hc
    have h1 := (H.set f (2 ^ k) (.inl (hp _ (retireKey_cofferdam hc)))).ev (e := 19) (by omega)
    split_ifs
    · unfold Run.requestService
      dsimp only
      split
      · exact State.KeepsBut.evt h1 _ fun u => hh u _
      · refine State.KeepsBut.smbCond (State.KeepsBut.ev (State.KeepsBut.wr (State.KeepsBut.evt h1 _ fun u => hh u _) _ _ (.inl (hp _ ?_))) ?_) 1
        · decide
        · omega
    · exact h1

/-! ## Reads after events -/

/-- Every field outside `eventKey` reads after an event as before. -/
theorem Run.rd_ev (r : Run s₀) {e : Nat} (he : e < 512) {f : Fld} (hf : eventKey f.key = false) : (r.ev e).rd f = r.rd f :=
  ((State.KeepsBut.refl (p := fun _ => false) (m := fun _ => false) (h := id) r.st).ev he).1 f rfl hf |>.1

theorem Run.rdA_ev (r : Run s₀) {e : Nat} (he : e < 512) {f : Fld} (hf : eventKey f.key = false) : (r.ev e).rdA f = r.rdA f :=
  ((State.KeepsBut.refl (p := fun _ => false) (m := fun _ => false) (h := id) r.st).ev he).1 f rfl hf |>.2

theorem Run.rd_when (r : Run s₀) (c : Bool) {g : Run s₀ → Run s₀} {f : Fld} (hg : (g r).rd f = r.rd f) : (r.when c g).rd f = r.rd f := by
  cases c
  · rfl
  · exact hg

theorem Run.rd_each {α : Type} (l : List α) {g : α → Run s₀ → Run s₀} {f : Fld} (hg : ∀ a (r : Run s₀), (g a r).rd f = r.rd f) (r : Run s₀) :
    (r.each l g).rd f = r.rd f := by
  induction l generalizing r with
  | nil => rfl
  | cons a l ih => exact (ih (g a r)).trans (hg a r)

/-- A field other than QIF_PBA reads after a delivery as before. -/
theorem Run.rd_deliver (r : Run s₀) (e : Nat) {f : Fld} (hf : f.key ≠ QIF_PBA.key) : (r.deliver e).rd f = r.rd f := by
  have out : ∀ (r : Run s₀) (k : Nat) (l : Bool), (r.eventOut k l).rd f = r.rd f := by
    intro r k l; unfold Run.eventOut; split
    · rfl
    · exact Run.rd_when (r.evt _) _ rfl
  have msix : ∀ (r : Run s₀) (v : Nat), (r.eventMsix v).rd f = r.rd f := by
    intro r v; unfold Run.eventMsix; split
    · rfl
    · show (r.sendMsix _).rd f = r.rd f
      unfold Run.sendMsix; split
      · exact Run.rd_wr_ne r _ hf
      · rfl
  unfold Run.deliver
  dsimp only
  rw [Run.rd_each _ fun k r => Run.rd_when r _ (out r k true), Run.rd_each _ fun k r => Run.rd_when r _ rfl]
  exact Run.rd_when r _ (msix r _)

theorem Run.rd_traceEvent (r : Run s₀) (e : Nat) {f : Fld} (hf : f.key ≠ MON_STATUS_TRACE.key) : (r.traceEvent e).rd f = r.rd f := by
  unfold Run.traceEvent
  dsimp only
  split
  · exact Run.rd_when _ _ (Run.rd_wr_ne _ _ hf)
  · rfl

theorem bit_eq_testBit (v n : Nat) : bit v n = v.testBit n := by
  rw [Nat.testBit_eq_decide_div_mod_eq]
  by_cases h : v / 2 ^ n % 2 = 1 <;> simp [bit, h]

/-- The occurrence of an event sets its status bit (R408). -/
theorem Run.status_occur (r : Run s₀) {e x : Nat} (he : e < 512) (hx : x < 512) :
    (r.occur e).st.status x = (decide (x = e) || r.st.status x) := by
  have k1 : ∀ y : Nat, y < 512 → (EVT_STATUS (y / 32)).key ≠ QIF_PBA.key ∧ (EVT_STATUS (y / 32)).key ≠ MON_STATUS_TRACE.key := by
    intro y hy
    have h : (EVT_STATUS (y / 32)).key = (0x100000 + 0x4 * (y / 32)) * 8 + 0 := rfl
    have h2 : QIF_PBA.key = 0x1521000 * 8 := rfl
    have h3 : MON_STATUS_TRACE.key = 0x1B00004 * 8 + 7 := rfl
    constructor <;> omega
  have main : (r.occur e).rd (EVT_STATUS (x / 32))
      = ((r.traceEvent e).set (EVT_STATUS (e / 32)) (2 ^ (e % 32))).rd (EVT_STATUS (x / 32)) := by
    unfold Run.occur
    exact Run.rd_when _ _ (Run.rd_deliver _ _ (k1 x hx).1)
  have e1 : (r.traceEvent e).rd (EVT_STATUS (e / 32)) = r.rd (EVT_STATUS (e / 32)) := Run.rd_traceEvent r e (k1 e he).2
  have e2 : (r.traceEvent e).rd (EVT_STATUS (x / 32)) = r.rd (EVT_STATUS (x / 32)) := Run.rd_traceEvent r e (k1 x hx).2
  unfold State.status
  change bit ((r.occur e).rd (EVT_STATUS (x / 32))) (x % 32) = (decide (x = e) || bit (r.rd (EVT_STATUS (x / 32))) (x % 32))
  rw [main]
  by_cases hw : x / 32 = e / 32
  · rw [hw, Run.set, Run.rd_wr_same, e1]
    have hm : x % 32 < 32 := Nat.mod_lt _ (by omega)
    have : (decide (x = e)) = decide (e % 32 = x % 32) := by
      congr 1; apply propext; constructor <;> intro h <;> omega
    simp only [bit_eq_testBit, show (EVT_STATUS (e / 32)).w = 32 from rfl, Nat.testBit_mod_two_pow, hm, Nat.testBit_or,
      Nat.testBit_two_pow, this, decide_true, Bool.true_and]
    exact Bool.or_comm _ _
  · have hne : (EVT_STATUS (x / 32)).key ≠ (EVT_STATUS (e / 32)).key := by
      have h : (EVT_STATUS (x / 32)).key = (0x100000 + 0x4 * (x / 32)) * 8 + 0 := rfl
      have h2 : (EVT_STATUS (e / 32)).key = (0x100000 + 0x4 * (e / 32)) * 8 + 0 := rfl
      omega
    rw [Run.set, Run.rd_wr_ne _ _ hne, e2]
    have : ¬ x = e := fun h => hw (by rw [h])
    simp [this]

theorem eventKey_ne_status {f : Fld} (hf : eventKey f.key = false) {x : Nat} (hx : x < 512) :
    (EVT_STATUS (x / 32)).key ≠ f.key ∧ (EVT_OVERRUN (x / 32)).key ≠ f.key := by
  constructor <;> intro h
  · rw [← h, eventKey_status hx] at hf; exact absurd hf (by decide)
  · rw [← h, eventKey_overrun hx] at hf; exact absurd hf (by decide)

/-- A write outside the event registers leaves every event seen. -/
theorem Run.seen_wr (r : Run s₀) (f : Fld) (v : Nat) (hf : eventKey f.key = false) {x : Nat} (hx : x < 512) :
    (r.wr f v).st.seen x = r.st.seen x := by
  have h := eventKey_ne_status hf hx
  have h1 : (r.wr f v).st.rd (EVT_STATUS (x / 32)) = r.st.rd (EVT_STATUS (x / 32)) := Run.rd_wr_ne r v h.1
  have h2 : (r.wr f v).st.rd (EVT_OVERRUN (x / 32)) = r.st.rd (EVT_OVERRUN (x / 32)) := Run.rd_wr_ne r v h.2
  simp only [State.seen, State.status, h1, h2]

theorem Run.overrun_occur (r : Run s₀) {e x : Nat} (he : e < 512) (hx : x < 512) :
    (r.occur e).st.rd (EVT_OVERRUN (x / 32)) = r.st.rd (EVT_OVERRUN (x / 32)) := by
  have h : (EVT_OVERRUN (x / 32)).key = (0x100080 + 0x4 * (x / 32)) * 8 + 0 := rfl
  have h2 : (EVT_STATUS (e / 32)).key = (0x100000 + 0x4 * (e / 32)) * 8 + 0 := rfl
  have h3 : MON_STATUS_TRACE.key = 0x1B00004 * 8 + 7 := rfl
  have h4 : QIF_PBA.key = 0x1521000 * 8 := rfl
  have k1 : (EVT_OVERRUN (x / 32)).key ≠ QIF_PBA.key := by omega
  have k2 : (EVT_OVERRUN (x / 32)).key ≠ MON_STATUS_TRACE.key := by omega
  have k3 : (EVT_OVERRUN (x / 32)).key ≠ (EVT_STATUS (e / 32)).key := by omega
  have main : (r.occur e).rd (EVT_OVERRUN (x / 32)) = ((r.traceEvent e).set (EVT_STATUS (e / 32)) (2 ^ (e % 32))).rd (EVT_OVERRUN (x / 32)) := by
    unfold Run.occur
    exact Run.rd_when _ _ (Run.rd_deliver _ _ k1)
  exact main.trans ((Run.rd_wr_ne _ _ k3).trans (Run.rd_traceEvent r e k2))

theorem Run.seen_occur (r : Run s₀) {e x : Nat} (he : e < 512) (hx : x < 512) :
    (r.occur e).st.seen x = (decide (x = e) || r.st.seen x) := by
  simp only [State.seen, Run.status_occur r he hx, Run.overrun_occur r he hx, Bool.or_assoc]

theorem Run.seen_smbCond (r : Run s₀) (k : Nat) {x : Nat} (hx : x < 512) (h : r.st.seen x = true) : (r.smbCond k).st.seen x = true := by
  have h0 : ((r.set GLB_SMB_STATUS_PENDING (2 ^ k)).glb fun g => { g with smbReleased := false }).st.seen x = true := by
    have k1 : (EVT_STATUS (x / 32)).key = (0x100000 + 0x4 * (x / 32)) * 8 + 0 := rfl
    have k2 : (EVT_OVERRUN (x / 32)).key = (0x100080 + 0x4 * (x / 32)) * 8 + 0 := rfl
    have k3 : GLB_SMB_STATUS_PENDING.key = 0x1C00 * 8 := rfl
    have h1 : (r.set GLB_SMB_STATUS_PENDING (2 ^ k)).st.rd (EVT_STATUS (x / 32)) = r.st.rd (EVT_STATUS (x / 32)) :=
      Run.rd_wr_ne r _ (by omega)
    have h2 : (r.set GLB_SMB_STATUS_PENDING (2 ^ k)).st.rd (EVT_OVERRUN (x / 32)) = r.st.rd (EVT_OVERRUN (x / 32)) :=
      Run.rd_wr_ne r _ (by omega)
    have : (r.set GLB_SMB_STATUS_PENDING (2 ^ k)).st.seen x = true := by
      simpa only [State.seen, State.status, h1, h2] using h
    exact this
  unfold Run.smbCond Run.smbLine
  dsimp only
  split
  · exact h0
  · unfold Run.when
    split
    · refine (Run.seen_occur _ (by omega) hx).trans ?_
      rw [Bool.or_eq_true]; exact .inr h0
    · exact h0

/-- An event that occurs is seen, and stays seen (R408, R409). -/
theorem Run.seen_ev (r : Run s₀) {e x : Nat} (he : e < 512) (hx : x < 512) (h : x = e ∨ r.st.seen x = true) :
    (r.ev e).st.seen x = true := by
  unfold Run.ev
  split
  · have hk : (EVT_OVERRUN (e / 32)).key = (0x100080 + 0x4 * (e / 32)) * 8 + 0 := rfl
    have k1 : (EVT_STATUS (x / 32)).key = (0x100000 + 0x4 * (x / 32)) * 8 + 0 := rfl
    have h1 : (r.hwSet (EVT_OVERRUN (e / 32)) (2 ^ (e % 32))).st.rd (EVT_STATUS (x / 32)) = r.st.rd (EVT_STATUS (x / 32)) :=
      Run.rd_wr_ne r _ (by omega)
    by_cases hw : x / 32 = e / 32
    · have h2 : (r.hwSet (EVT_OVERRUN (e / 32)) (2 ^ (e % 32))).st.rd (EVT_OVERRUN (x / 32))
          = (r.st.rd (EVT_OVERRUN (x / 32)) ||| 2 ^ (e % 32)) % 2 ^ 32 := by
        rw [hw]; exact Run.rd_wr_same r _ _
      have hm : x % 32 < 32 := Nat.mod_lt _ (by omega)
      simp only [State.seen, State.status, h1, h2, bit_eq_testBit, Nat.testBit_mod_two_pow, hm, Nat.testBit_or,
        Nat.testBit_two_pow, decide_true, Bool.true_and, Bool.or_eq_true, decide_eq_true_eq] at h ⊢
      rcases h with h | h | h
      · right; right; omega
      · exact .inl h
      · exact .inr (.inl h)
    · have k2 : (EVT_OVERRUN (x / 32)).key = (0x100080 + 0x4 * (x / 32)) * 8 + 0 := rfl
      have h2 : (r.hwSet (EVT_OVERRUN (e / 32)) (2 ^ (e % 32))).st.rd (EVT_OVERRUN (x / 32)) = r.st.rd (EVT_OVERRUN (x / 32)) :=
        Run.rd_wr_ne r _ (by omega)
      rcases h with h | h
      · exact absurd (by rw [h]) hw
      · simpa only [State.seen, State.status, h1, h2] using h
  · have h1 : ∀ r : Run s₀, (x = e ∨ r.st.seen x = true) → (r.occur e).st.seen x = true := by
      intro r h
      rw [Run.seen_occur r he hx, Bool.or_eq_true, decide_eq_true_eq]; exact h
    have h2 := h1 (r.when (crossesDomain e) fun r => r.evt fun t => { t with crossing := e :: t.crossing })
      (h.imp_right fun h => by unfold Run.when; split <;> exact h)
    dsimp only
    unfold Run.when
    split
    · exact Run.seen_smbCond _ 2 hx h2
    · exact h2

/-- An event that crosses no clock domain sets its status bit (R408). -/
theorem Run.status_ev (r : Run s₀) {e : Nat} (he : e < 512) (hc : crossesDomain e = false) : (r.ev e).st.status e = true := by
  have h1 : (r.occur e).st.status e = true := by simp [Run.status_occur r he he]
  unfold Run.ev
  simp only [hc, Bool.false_and, Bool.false_eq_true, if_false, Run.when_false]
  by_cases h5 : e = 500
  · subst h5
    have k3 : GLB_SMB_STATUS_PENDING.key = 0x1C00 * 8 := rfl
    have k1 : (EVT_STATUS (500 / 32)).key = (0x100000 + 0x4 * (500 / 32)) * 8 + 0 := rfl
    have h0 : (((r.occur 500).set GLB_SMB_STATUS_PENDING (2 ^ 2)).glb fun g => { g with smbReleased := false }).st.status 500 = true := by
      have : ((r.occur 500).set GLB_SMB_STATUS_PENDING (2 ^ 2)).st.rd (EVT_STATUS (500 / 32)) = (r.occur 500).st.rd (EVT_STATUS (500 / 32)) :=
        Run.rd_wr_ne _ _ (by omega)
      have h : ((r.occur 500).set GLB_SMB_STATUS_PENDING (2 ^ 2)).st.status 500 = true := by
        simpa only [State.status, this] using h1
      exact h
    simp only [beq_self_eq_true, Run.when_true]
    unfold Run.smbCond Run.smbLine
    dsimp only
    split
    · exact h0
    · unfold Run.when
      split
      · refine (Run.status_occur _ (by omega) (by omega)).trans ?_
        rw [Bool.or_eq_true]; exact .inr h0
      · exact h0
  · simp only [beq_eq_false_iff_ne.mpr h5, Run.when_false]
    exact h1

end Sys2Proof.Machine
end

