-- ==== Sys2Proof/WellFormed.lean ====
section
/-!
DEFINITION. When a command's operands lie in the ranges that the interface they arrive through can carry. Operands that are Fin,
Bool or Byte are in range by their types.
-/
namespace Sys2Proof

/-- A number of `w` bits. -/
def fits (w v : Nat) : Bool := decide (v < 2 ^ w)

/-- An offset of BAR0 (Table 12-1). -/
def barOffset (off : Nat) : Bool := fits 28 off

/-- The image bytes of a firmware image, at most 4 MiB (R44). -/
def fwImageSize (l : List Byte) : Bool := decide (l.length ≤ 4194304)

/-- What a data transfer finds: 64-bit addresses, and a length of at most 64 MiB (R301, R315). -/
def HostData.wf (h : HostData) : Bool := h.segs.all fun s => fits 64 s.1 && fits 32 s.2

/-- A PTP message of two domains (R369). -/
def PtpMsg.wf : PtpMsg → Bool
  | .echo _ _ => true
  | .query _ => true
  | .announce _ d gm _ st _ => fits 8 d && fits 64 gm && decide (st < 16)
  | .sync _ d _ => fits 8 d
  | .delayReq _ d => fits 8 d
  | .management _ d => fits 8 d
  | .other _ => true

/-- An I3C request: a 7-bit address and at most 64 bytes (R68). -/
def i3cFits (addr len : Nat) : Bool := fits 7 addr && fits 7 len

/-- Every operand is in the range its interface can carry. -/
def Instr.wf : Instr → Bool
  | .registerWrite off wide v => barOffset off && fits (if wide then 64 else 32) v
  | .registerRead off _ => barOffset off
  | .lowWordDiscard off => barOffset off
  | .latchRelease off => barOffset off
  | .cold key => fits 16 key
  | .warm key => fits 16 key
  | .selfRefreshExit failed => fits 16 failed
  | .rootPllLock dir => decide (dir.length ≤ 2)
  | .firmwareLoadDone image => fwImageSize image
  | .dramTrainingDone failed => fits 16 failed
  | .bitstreamReadDone image => decide (image.length ≤ 2097152)
  | .len n => fits 23 n
  | .loadBitstream h => h.wf
  | .reweaveQuiescent f => fits 8 f
  | .fwActivated image => fwImageSize image
  | .fwRolledBack image => fwImageSize image
  | .smclkCtl _ v => fits 32 v
  | .privateWrite _ addr size => i3cFits addr size
  | .privateRead _ addr size => i3cFits addr size
  | .broadcastCcc _ ccc size => fits 8 ccc && fits 7 size
  | .directCccWrite _ addr ccc size => fits 8 ccc && i3cFits addr size
  | .directCccRead _ addr ccc size => fits 8 ccc && i3cFits addr size
  | .entdaa _ addr => fits 7 addr
  | .i2cWrite _ addr size => i3cFits addr size
  | .i2cRead _ addr size => i3cFits addr size
  | .ibiRequest _ addr _ => fits 7 addr
  | .reachReceived _ sym => sym.all (fits 2)
  | .loop _ v => fits 32 v
  | .prbsCtl _ v => fits 32 v
  | .fs _ seq _ fn tag ts tns tf _ _ => fits 24 seq && fits 32 fn && fits 16 tag && fits 48 ts && fits 30 tns && fits 18 tf
  | .lp _ seq _ y x _ => fits 24 seq && fits 16 y && fits 16 x
  | .fe _ seq _ fn lines => fits 24 seq && fits 32 fn && fits 16 lines
  | .emb _ seq _ fn off _ => fits 24 seq && fits 32 fn && fits 32 off
  | .st _ seq _ status _ t => fits 24 seq && fits 32 status && fits 16 t
  | .reservedType _ seq => fits 24 seq
  | .ack _ seq => fits 24 seq
  | .nak _ seq => fits 24 seq
  | .glbTideCommit mask => fits 64 mask
  | .rxs _ v _ => fits 64 v
  | .readbackCheck _ crc => fits 16 crc
  | .outRd _ v => fits 32 v
  | .decInWr v => fits 32 v
  | .cpl _ seq _ tag status blocks info => fits 24 seq && fits 8 tag && fits 8 status && fits 16 blocks && fits 64 info
  | .magData _ seq _ tag _ data => fits 24 seq && fits 8 tag && decide (data.length ≤ 4096)
  | .offload h => h.wf
  | .sqTail _ v => fits 32 v
  | .cqHead _ v => fits 32 v
  | .identify h => h.wf
  | .getLog h => h.wf
  | .readExtent h => h.wf
  | .writeExtent h => h.wf
  | .visionFetch h _ => h.wf
  | .proxyFetch h => h.wf
  | .memRetrain v => fits 32 v
  | .dmaSem _ v => fits 32 v
  | .incr _ v => fits 32 v
  | .step _ v => fits 64 v
  | .ptpMessage m => m.wf
  | .ratioUpdate _ v => fits 32 v
  | .audWr _ v => fits 32 v
  | .thermalReading l => decide (l.length ≤ 28)
  | .evtEnable _ v => fits 32 v
  | .evtStatusClear _ v => fits 32 v
  | .bar2Access off _ _ => fits 36 off
  | _ => true

end Sys2Proof
end

