-- ==== Sys2Proof/Tests/Slice0.lean ====
section
/-!
SUPPORT. The operands that WellFormed refuses, the examples of the spec, and for each statement states and operands that meet its
hypotheses, clause by clause.
-/
set_option Elab.async false
open Sys2Proof Sys2Proof.Machine

namespace Sys2Proof.Tests

/-- The state after reset with some fields stored. -/
def rs (l : List (Fld × Nat)) : State := l.foldl (fun s x => s.wr x.1 x.2) State.reset
def State.act' (s : State) (l : List (Fld × Nat)) : State := l.foldl (fun s x => s.wrA x.1 x.2) s
/-- A command's entry: its opcode and fields as offset, bytes, value. -/
def entryOf (opc : Nat) (fs : List (Nat × Nat × Nat)) : List Byte :=
  fs.foldl (fun b x => overlay b x.1 (le x.2.1 x.2.2)) (overlay (List.replicate 64 0#8) 0 (le 1 opc))
/-- A started command on queue 1. -/
def cmdOf (opc : Nat) (fs : List (Nat × Nat × Nat)) : Cmd := { no := 5, q := 1, urgent := false, entry := entryOf opc fs, started := true }
/-- A state with an active queue 1 that holds a command. -/
def withCmd (s : State) (c : Cmd) : State :=
  (s.wr (QIF_Q_STATUS_STATE 1) 1).modify fun u =>
    { u with qif := { u.qif with q := [(1, { depth := 16, cq := 0x1000, cqTail := 15 })], cmds := [c] } }
/-- A padded list has the length it is padded to. -/
theorem padTo_length (n : Nat) (l : List Byte) : (padTo n l).length = n := by
  simp only [padTo, List.length_take, List.length_append, List.length_replicate]; omega
/-- A hit is in the row that was asked. -/
theorem hit_reg {d : RegD} {o : Nat} {h : Hit} (e : d.hit o = some h) : h.reg = d := by
  unfold RegD.hit at e
  split at e
  · cases e
  · dsimp only at e
    split at e
    · cases e; rfl
    · cases e
/-- Where the same rows span two offsets, the one that holds the first holds the second. -/
theorem shifted (tab : List RegD) (o p : Nat) (h : Hit) (both : ∀ d ∈ tab, (d.hit o).isSome = (d.hit p).isSome) (e : locate tab o = some h)
    (at_ : ((locate tab p).map fun x => (x.i, x.j, x.r)) = some (h.i, h.j, h.r + 4)) : locate tab p = some { h with r := h.r + 4 } := by
  induction tab with
  | nil => cases e
  | cons d tab ih =>
    have b := both d (List.mem_cons_self ..)
    simp only [locate, List.findSome?_cons] at e at_ ⊢
    cases ho : d.hit o <;> cases hp : d.hit p <;> simp only [ho, hp, Option.isSome_none, Option.isSome_some] at b e at_ ⊢
    · exact ih (fun x m => both x (List.mem_cons_of_mem _ m)) e at_
    · cases b
    · cases b
    · cases e; rename_i y
      have := hit_reg ho; have := hit_reg hp
      cases h; cases y; simp_all

/-- A wide register is where its offset is located. -/
theorem wide_locate {o : Nat} {h : Hit} (e : wideAt o = some h) : locate regTable o = some h := by
  unfold wideAt at e
  cases x : locate regTable o with
  | none => rw [x] at e; cases e
  | some y =>
    rw [x, Option.bind_some] at e
    split at e
    · cases e; rfl
    · cases e

/-- A read gives as many bytes as it asks for. -/
theorem peek_length {s : State} (r : Run s) (u a n : Nat) : (r.peekMem u a n).bytes.length = n := by
  unfold Run.peekMem; split <;> simp [Run.rawBytes, Run.bytes]
  split <;> simp

end Sys2Proof.Tests

namespace Sys2Proof.Tests

/-! ## Operands out of range -/

/-- What a transfer finds, with an address of more than 64 bits. -/
def badHost : HostData := ⟨true, [(2 ^ 64, 1)], []⟩

/-- The register interface carries 28-bit offsets and 32- or 64-bit values (Table 12-1, R3). -/
theorem test_wf_refuses_bus : ((([.registerWrite (2 ^ 28) false 0, .registerWrite 0 false (2 ^ 32), .registerWrite 0 true (2 ^ 64),
    .registerRead (2 ^ 28) true, .lowWordDiscard (2 ^ 28), .latchRelease (2 ^ 28), .bar2Access (2 ^ 36) 4 none] : List Instr).map Instr.wf).any id) = false := by decide

/-- Keys, results and transfers of resets, boots and loads. -/
theorem test_wf_refuses_loads : ((([.cold 65536, .warm 65536, .selfRefreshExit 65536, .rootPllLock (List.replicate 3 ⟨0, 0, 0, true⟩),
    .dramTrainingDone 65536, .len (2 ^ 23), .loadBitstream badHost, .reweaveQuiescent 256] : List Instr).map Instr.wf).any id) = false := by decide

/-- A firmware image is at most 4 MiB, a bit-stream read at most 2 MiB (R44). -/
theorem test_wf_refuses_images (l m : List Byte) (h : 4194304 < l.length) (k : 2097152 < m.length) : Instr.wf (.firmwareLoadDone l) = false
    ∧ Instr.wf (.fwActivated l) = false ∧ Instr.wf (.fwRolledBack l) = false ∧ Instr.wf (.bitstreamReadDone m) = false := by
  simp [Instr.wf, fwImageSize]; omega

/-- Addresses, lengths and codes of the board buses (R68). -/
theorem test_wf_refuses_board : ((([.smclkCtl 0 (2 ^ 32), .privateWrite 0 128 1, .privateWrite 0 1 128, .privateRead 0 128 1, .broadcastCcc 0 256 1,
    .directCccWrite 0 1 256 1, .directCccRead 0 128 1 1, .entdaa 0 128, .i2cWrite 0 128 1, .i2cRead 0 1 128, .ibiRequest 0 128 []] : List Instr).map Instr.wf).any id) = false := by
  decide

/-- Lane symbols are 2 bits; SEQ, FN, TAG and the times of packets have the widths of Tables 04-1 to 04-6. -/
theorem test_wf_refuses_lanes : ((([.reachReceived 0 [4], .loop 0 (2 ^ 32), .prbsCtl 0 (2 ^ 32), .fs 0 (2 ^ 24) 0 0 0 0 0 0 0 0, .fs 0 0 0 0 65536 0 0 0 0 0,
    .lp 0 0 0 65536 0 [], .fe 0 0 0 (2 ^ 32) 0, .emb 0 0 0 0 (2 ^ 32) [], .st 0 0 0 (2 ^ 32) false 0, .reservedType 0 (2 ^ 24), .ack (.bundle 0) (2 ^ 24),
    .nak (.hop 0) (2 ^ 24), .rxs 0 (2 ^ 64) true] : List Instr).map Instr.wf).any id) = false := by decide

/-- Registers of the pixel and proxy units. -/
theorem test_wf_refuses_units : ((([.glbTideCommit (2 ^ 64), .readbackCheck 0 65536, .outRd 0 (2 ^ 32), .decInWr (2 ^ 32), .memRetrain (2 ^ 32), .dmaSem 0 (2 ^ 32),
    .incr 0 (2 ^ 32), .step 0 (2 ^ 64), .ptpMessage (.sync 0 256 0), .ptpMessage (.announce 0 0 0 0 16 none), .ratioUpdate 0 (2 ^ 32), .audWr 0 (2 ^ 32),
    .thermalReading (List.replicate 29 none), .evtEnable 0 (2 ^ 32), .evtStatusClear 0 (2 ^ 32)] : List Instr).map Instr.wf).any id) = false := by decide

/-- Packets of the drives, indices of the queues, and transfers of the commands. -/
theorem test_wf_refuses_storage : ((([.cpl 0 (2 ^ 24) 0 0 0 0 0, .cpl 0 0 0 256 0 0 0, .magData 0 0 0 256 0 [], .offload badHost, .sqTail 0 (2 ^ 32), .cqHead 0 (2 ^ 32),
    .identify badHost, .getLog badHost, .readExtent badHost, .writeExtent badHost, .visionFetch badHost false, .proxyFetch badHost] : List Instr).map Instr.wf).any id) = false := by
  decide

/-- The same commands with operands in range are well formed. -/
theorem test_wf_accepts : ((([.registerWrite (2 ^ 28 - 4) false (2 ^ 32 - 1), .cold 0xC01D, .fs 7 (2 ^ 24 - 1) 15 (2 ^ 32 - 1) 65535 0 0 0 0 0, .reachReceived 0 [0, 3],
    .directCccWrite 3 127 255 64, .cpl 15 0 3 255 255 65535 0] : List Instr).map Instr.wf).all id) = true := by decide

/-! ## The spec's own examples -/

/-- R7: −2.578125 rounds to −3, −2.5 to −2 and +2.5 to 3. -/
theorem test_rounding : roundShift (-165) 6 = -3 ∧ roundShift (-160) 6 = -2 ∧ roundShift 160 6 = 3 := by decide

/-- R9: at a distance of 2^(w−1) neither value is later. -/
theorem test_later_half : laterThan 24 0 0x800000 = false ∧ laterThan 24 0x800000 0 = false ∧ laterThan 24 3 0xFFFFFF = true := by decide

/-- The offsets that chapters 3 to 10 give as examples. -/
theorem test_offsets : (LNK_ERR_HDR_ERR 27).off / 4096 = 0x51B ∧ (ITK_VS_SET_FN 3).off = 0x813020 ∧ (PIX_CTX_SCHED_PRIORITY 7).off = 0xA17004
    ∧ (CMP_L_CTL_EN 2 6).off = 0xD02280 := by decide

/-- Chapter 3's worked header: TYPE 1, LANE_POS 5, WORD_PHASE 40, RX_LOCK 1. -/
theorem test_header_symbols : ((reachSymbols true 1 5 40 true []).drop 36).take 28 =
    [3, 0, 0, 3, 3, 0, 0, 3, 3, 0, 0, 3, 0, 3, 0, 3, 0, 3, 3, 0, 0, 3, 3, 0, 3, 0, 0, 3] := by decide +kernel

/-- The same header read back from its symbols. -/
theorem test_header_read : reachHeader 3 (List.replicate 32 0 ++ [3, 3, 3, 3] ++
    [3, 0, 0, 3, 3, 0, 0, 3, 3, 0, 0, 3, 0, 3, 0, 3, 0, 3, 3, 0, 0, 3, 3, 0, 3, 0, 0, 3]) = some ⟨1, 5, 40, true⟩ := by decide

/-- Chapter 3's worked scrambler: four data bits 0 leave as 1, 1, 0, 0, the symbols 2 and 0. -/
theorem test_scrambler : scramble [false, false, false, false] = [true, true, false, false] ∧ bitSymbols true [true, true, false, false] = [2, 0] := by decide

/-- Chapter 3's worked stuffing: 23 data symbols at level 0, a stuff at level 3, three more data symbols. -/
theorem test_destuff : destuff 3 (2 :: List.replicate 23 0 ++ [3] ++ List.replicate 3 0) 0 4 = (2 :: List.replicate 26 0, 0) := by decide

/-- The two line sizes of chapter 5. -/
theorem test_line_bytes : lineBytes 12288 = 27648 ∧ lineBytes 1920 = 4352 := by decide

/-- Table 13-3: the channel, local address, bank and row of a DRAM address. -/
theorem test_dram_map : channelOf 0x32A475E80 = 14 ∧ localAddr 0x32A475E80 = 0x32A47580 ∧ (Run.start State.reset).bankOf 0x32A47580 = 7
    ∧ bits 0x32A47580 15 16 = 0x6548 := by decide +kernel

/-- Table 14-1: the correction at 70.25 °C. -/
theorem test_compensation : compC (fun k => if k = 10 then -51540 else if k = 11 then -68719 else 0) 281 = -52899 := by decide

/-- Chapter 10's stripe 1,000 of a 14+2 ring, and its P_1 byte. -/
theorem test_stripe_slots : slotOf 0 1000 16 = 8 ∧ slotOf 13 1000 16 = 5 ∧ slotOf 14 1000 16 = 6 ∧ slotOf 15 1000 16 = 7
    ∧ gfMul (gfPow 3) 0xCA = 0x1E ∧ 0x53 ^^^ 0x1E = 0x4D := by decide

/-- Table 11-7: costs of the worked block under k = 1, 2 and 3, and the parameter it takes. -/
theorem test_rice_choice :
    let ms := [4] ++ List.replicate 31 2 ++ List.replicate 16 5 ++ List.replicate 12 9 ++ List.replicate 4 20
    blockCost 1 ms = 281 ∧ blockCost 2 ms = 253 ∧ blockCost 3 ms = 276 ∧ bestRice ms = 2
      ∧ riceBits 2 4 = [true, false, false, false] ∧ riceBits 2 5 = [true, false, true, false] := by decide +kernel

/-! ## Steps -/

/-- A command at the front of the queue runs, and leaves the queue. -/
theorem test_step_takes_front : (match step { State.reset with pending := [.registerRead 0x100 false, .decStop] } with | .next t => t.pending == [.decStop] | _ => false) = true := by
  decide +kernel

/-- A register that has not been written reads its reset value: REF_CTL.AUTO_SWITCH is 1 (chapter 2). -/
theorem test_reset_register : State.reset.rd CLK_REF_CTL_AUTO_SWITCH = 1 := by decide

/-- An unaligned access has no meaning (R3). -/
theorem test_unaligned_stops : step { State.reset with pending := [.registerRead 2 false] } = .fault .unalignedAccess := rfl

/-- A step with no hypothesis left open: the machine right after reset, STOP of a decoder that does not run. -/
theorem test_step_answers : step { State.reset with pending := [.decStop] } = .next State.reset := rfl

/-- States that meet the hypotheses of StepKeepsForm, StepKeepsGeometry and CommandsOnlyAppend. -/
theorem test_witness_Invariants : (∃ s t : State, s.Inv ∧ step s = .next t) ∧ (∃ s t : State, s.geoOk ∧ step s = .next t)
    ∧ ∃ (c : Instr) (s t : State), exec c s = .next t :=
  ⟨⟨_, _, by unfold State.Inv; decide +kernel, test_step_answers⟩, ⟨_, _, by decide +kernel, test_step_answers⟩, ⟨.decStop, State.reset, State.reset, rfl⟩⟩

/-- Operands that meet the hypotheses of OnlyMisalignedAccessStops. -/
theorem test_witness_OnlyMisalignedAccessStops : (∃ (off : Nat) (wide : Bool), off % (if wide then 8 else 4) ≠ 0)
    ∧ ∃ c : Instr, ∀ off wide v, c = .registerWrite off wide v ∨ c = .registerRead off wide → off % (if wide then 8 else 4) = 0 :=
  ⟨⟨4, true, by decide⟩, ⟨.decStop, fun _ _ _ h => by cases h <;> contradiction⟩⟩

end Sys2Proof.Tests

open Sys2Proof.Tests

namespace Sys2Proof.Tests.W02

/-- States and operands that meet the hypotheses of IdleStepIsOneCycle, clause by clause. -/
theorem test_witness_IdleStepIsOneCycle :
    (∃ (s : State), s.pending = []) :=
  ⟨(rs []).store 5 5#8, by decide +kernel⟩

end Sys2Proof.Tests.W02

namespace Sys2Proof.Tests.W08

/-- States and operands that meet the hypotheses of RegisterWrite, clause by clause. -/
theorem test_witness_RegisterWrite :
    (∃ (s : State) (off : Nat), s.u.mon.held = [] ∧ off % 4 = 0 ∧ locate regTable off = none)
    ∧ (∃ (s : State) (off : Nat), s.u.mon.held = [] ∧ off % 4 = 0 ∧ s.serves off = false ∧ off ≠ 0x1500000)
    ∧ (∃ (s : State) (off : Nat) (h : Hit), s.u.mon.held = [] ∧ off % 4 = 0 ∧ s.serves off = true ∧ locate regTable off = some h ∧ h.reg.width = 32 ∧ h.reg.name ∉ registersWithEffects ∧ h.r = 0 ∧ ((h.fields.map fun x => x.1.key).Nodup) ∧ ((∀ x ∈ h.fields, x.1.off = off ∧ x.1.lo + x.1.w ≤ 32 ∧ x.2.2 = false)))
    ∧ (∃ (s : State) (off : Nat) (h : Hit), s.u.mon.held = [] ∧ off % 8 = 0 ∧ s.serves off = true ∧ wideAt off = some h ∧ h.reg.width = 64 ∧ h.reg.name ∉ registersWithEffects ∧ ((h.fields.map fun x => x.1.key).Nodup) ∧ ((∀ x ∈ h.fields, x.1.off = off ∧ x.1.lo + x.1.w ≤ 64 ∧ x.2.2 = false)))
    ∧ (∃ (s : State) (off : Nat) (h : Hit), s.u.mon.held = [] ∧ off % 4 = 0 ∧ s.serves off = true ∧ wideAt off = some h)
    ∧ (∃ (s : State) (off : Nat) (h : Hit) (w : Held), s.u.mon.held = [] ∧ off % 8 = 0 ∧ s.serves (off + 4) = true ∧ wideAt off = some h ∧ locate regTable (off + 4) = some { h with r := h.r + 4 } ∧ s.u.glb.heldWords.find off = some w ∧ s.now ≤ w.at_ + 1024 ∧ w.v < 2 ^ 32)
    ∧ (∃ (s : State) (off : Nat) (h : Hit), s.u.mon.held = [] ∧ off % 8 = 0 ∧ s.serves (off + 4) = true ∧ wideAt off = some h ∧ locate regTable (off + 4) = some { h with r := h.r + 4 } ∧ ((∀ w, s.u.glb.heldWords.find off = some w → w.at_ + 1024 < s.now)))
    ∧ (∃ (s : State), s.u.mon.held = [] ∧ s.rd GLB_BOOT_STATUS_READY ≠ 0)
    ∧ (∃ (s : State), s.u.mon.held = [] ∧ s.rd GLB_BOOT_STATUS_READY ≠ 0)
    ∧ (∃ (s : State), s.u.mon.held = [] ∧ s.rd GLB_BOOT_STATUS_READY ≠ 0) :=
  ⟨⟨rs [], 0x44, by decide +kernel⟩,
   ⟨rs [], 0x400000, by decide +kernel⟩,
   ⟨rs [(GLB_BOOT_STATUS_READY, 1)], (THM_HYST_HYST).off, (locate regTable ((THM_HYST_HYST).off)).get (by decide +kernel), by and_intros <;> first | decide +kernel | exact (Option.some_get _).symm⟩,
   ⟨rs [(GLB_BOOT_STATUS_READY, 1)], (PIX_TBL_SRC_ADDR).off, (wideAt ((PIX_TBL_SRC_ADDR).off)).get (by decide +kernel), by and_intros <;> first | decide +kernel | exact (Option.some_get _).symm⟩,
   ⟨rs [(GLB_BOOT_STATUS_READY, 1)], (PIX_TBL_SRC_ADDR).off, (wideAt ((PIX_TBL_SRC_ADDR).off)).get (by decide +kernel), by and_intros <;> first | decide +kernel | exact (Option.some_get _).symm⟩,
   ⟨(rs [(GLB_BOOT_STATUS_READY, 1)]).modify fun u => { u with glb := { u.glb with heldWords := [((PIX_TBL_SRC_ADDR).off, ⟨7, 0⟩)] } }, (PIX_TBL_SRC_ADDR).off, (wideAt ((PIX_TBL_SRC_ADDR).off)).get (by decide +kernel), ⟨7, 0⟩, by decide +kernel, by decide +kernel, by decide +kernel, (Option.some_get _).symm, shifted _ _ _ _ (by decide +kernel) (wide_locate (Option.some_get _).symm) (by decide +kernel), by decide +kernel⟩,
   ⟨rs [(GLB_BOOT_STATUS_READY, 1)], (PIX_TBL_SRC_ADDR).off, (wideAt ((PIX_TBL_SRC_ADDR).off)).get (by decide +kernel), by decide +kernel, by decide +kernel, by decide +kernel, (Option.some_get _).symm, shifted _ _ _ _ (by decide +kernel) (wide_locate (Option.some_get _).symm) (by decide +kernel), fun _ h => by cases h⟩,
   ⟨rs [(GLB_BOOT_STATUS_READY, 1)], by decide +kernel⟩,
   ⟨rs [(GLB_BOOT_STATUS_READY, 1), (EVT_STATUS 3, 7)], by decide +kernel⟩,
   ⟨rs [(GLB_BOOT_STATUS_READY, 1)], by decide +kernel⟩⟩

end Sys2Proof.Tests.W08

namespace Sys2Proof.Tests.W09

/-- States and operands that meet the hypotheses of RegisterRead, clause by clause. -/
theorem test_witness_RegisterRead :
    (∃ (s : State) (off : Nat), off % 4 = 0 ∧ (locate regTable off = none ∨ s.serves off = false))
    ∧ (∃ (s : State) (off : Nat) (h : Hit), off % 4 = 0 ∧ s.serves off = true ∧ locate regTable off = some h ∧ h.reg.width = 32 ∧ h.r = 0 ∧ h.reg.name ∉ registersComputed ∧ ((h.fields.map fun x => x.1.key).Nodup) ∧ ((∀ x ∈ h.fields, x.1.off = off ∧ x.1.lo + x.1.w ≤ 32)))
    ∧ (∃ (s : State) (off : Nat) (h : Hit), off % 8 = 0 ∧ s.serves off = true ∧ wideAt off = some h ∧ h.latches = true ∧ h.r = 0 ∧ h.reg.name ∉ registersComputed)
    ∧ (∃ (s : State) (off : Nat) (h : Hit) (w : Held), off % 8 = 0 ∧ s.serves (off + 4) = true ∧ locate regTable (off + 4) = some h ∧ h.latches = true ∧ h.r = 4 ∧ h.reg.name ∉ registersComputed ∧ s.u.glb.latched.find off = some w)
    ∧ (∃ (s : State) (off : Nat) (h : Hit), off % 8 = 0 ∧ s.serves off = true ∧ wideAt off = some h ∧ h.reg.width = 64 ∧ h.reg.name ∉ registersComputed ∧ h.r = 0)
    ∧ (∃ (s : State) (off : Nat) (w : Held), s.u.glb.heldWords.find off = some w) :=
  ⟨⟨rs [], 0x400000, by decide +kernel⟩,
   ⟨rs [(GLB_BOOT_STATUS_READY, 1), (LNK_ERR_HDR_ERR 3, 5)], (LNK_ERR_HDR_ERR 3).off, (locate regTable ((LNK_ERR_HDR_ERR 3).off)).get (by decide +kernel), by and_intros <;> first | decide +kernel | exact (Option.some_get _).symm⟩,
   ⟨rs [(GLB_BOOT_STATUS_READY, 1), (PAK_IN_BYTES_BYTES, 0x123456789abcdef)], (PAK_IN_BYTES_BYTES).off, (wideAt ((PAK_IN_BYTES_BYTES).off)).get (by decide +kernel), by and_intros <;> first | decide +kernel | exact (Option.some_get _).symm⟩,
   ⟨(rs [(GLB_BOOT_STATUS_READY, 1), (PAK_IN_BYTES_BYTES, 0x123456789abcdef)]).modify fun u => { u with glb := { u.glb with latched := [((PAK_IN_BYTES_BYTES).off, ⟨7, 0⟩)] } }, (PAK_IN_BYTES_BYTES).off, (locate regTable (((PAK_IN_BYTES_BYTES).off + 4))).get (by decide +kernel), ⟨7, 0⟩, by and_intros <;> first | decide +kernel | exact (Option.some_get _).symm⟩,
   ⟨rs [(GLB_BOOT_STATUS_READY, 1), (PAK_IN_BYTES_BYTES, 0x123456789abcdef)], (PAK_IN_BYTES_BYTES).off, (wideAt ((PAK_IN_BYTES_BYTES).off)).get (by decide +kernel), by and_intros <;> first | decide +kernel | exact (Option.some_get _).symm⟩,
   ⟨(rs []).modify fun u => { u with glb := { u.glb with heldWords := [(8, ⟨7, 0⟩), (16, ⟨7, 0⟩)] } }, 8, ⟨7, 0⟩, by decide +kernel⟩⟩

end Sys2Proof.Tests.W09

namespace Sys2Proof.Tests.W10

/-- States and operands that meet the hypotheses of ReferenceClocks, clause by clause. -/
theorem test_witness_ReferenceClocks :
    (∃ (s : State) (n : Fin 2), s.rd CLK_REF_STATUS_ROOT_LOCK = 1 ∧ s.rd CLK_REF_STATUS_ACTIVE = n ∧ s.rd (refOk (1 - n)) = 1 ∧ s.rd CLK_REF_CTL_AUTO_SWITCH = 1)
    ∧ (∃ (s : State) (n : Fin 2), s.rd CLK_REF_STATUS_ROOT_LOCK = 1 ∧ s.rd CLK_REF_STATUS_ACTIVE = n ∧ (s.rd (refOk (1 - n)) = 0 ∨ (s.rd CLK_REF_CTL_AUTO_SWITCH = 0 ∧ s.rd CLK_REF_CTL_REVERT = 0 ∧ s.u.glb.refSwitching = false)))
    ∧ (∃ (s : State) (n : Fin 2), s.rd CLK_REF_STATUS_ACTIVE = 1 - n ∧ s.rd CLK_REF_STATUS_HOLDOVER = 0 ∧ s.rd CLK_REF_CTL_REVERT = 0 ∧ s.u.glb.refSwitching = false)
    ∧ (∃ (s : State), s.u.glb.refSwitching = true ∧ s.rd CLK_REF_STATUS_ACTIVE < 2)
    ∧ (∃ (s : State), s.rd GLB_BOOT_STATUS_READY ≠ 0 ∧ s.rd CLK_REF_CTL_REVERT < 2 ∧ s.rd CLK_REF_CTL_AUTO_SWITCH < 2) :=
  ⟨⟨rs [(CLK_REF_STATUS_ROOT_LOCK, 1), (CLK_REF_STATUS_B_OK, 1)], 0, by decide +kernel⟩,
   ⟨rs [(CLK_REF_STATUS_ROOT_LOCK, 1)], 0, by decide +kernel⟩,
   ⟨rs [(CLK_REF_STATUS_ROOT_LOCK, 1)], 1, by decide +kernel⟩,
   ⟨(rs [(CLK_REF_STATUS_HOLDOVER, 1), (CLK_REF_STATUS_SWITCH_COUNT, 255)]).modify fun u => { u with glb := { u.glb with refSwitching := true } }, by decide +kernel⟩,
   ⟨rs [(GLB_BOOT_STATUS_READY, 1), (CLK_REF_STATUS_A_OK, 1), (CLK_REF_STATUS_B_OK, 1)], by decide +kernel⟩⟩

end Sys2Proof.Tests.W10

namespace Sys2Proof.Tests.W11

def pol : State := (rs [(GLB_FEAT_CTL_LOCKED, 1), (MEM_POLDER_BASE 1, 4096), (MEM_POLDER_SIZE 1, 8192), (MEM_POLDER_BAR2_VALID 1, 1), (MEM_POLDER_BAR2_EXPOSE 1, 1), (MEM_POLDER_BAR2_OFF 1, 2), (MEM_POLDER_RIGHTS_READ 1, 0xFFFF), (MEM_POLDER_RIGHTS_WRITE 1, 0xFFFF)]).modify fun u => { u with glb := { u.glb with feat := 0xFFFFFF, phase := .run } }
/-- States and operands that meet the hypotheses of PcieAndBar2, clause by clause. -/
theorem test_witness_PcieAndBar2 :
    (∃ (s : State) (off : Nat) (a : Nat) (bs : List Byte), s.u.glb.phase ≠ .recovery ∧ (Run.start s).bar2Addr off bs.length = some a ∧ (Run.start s).allowed 11 true a bs.length = true)
    ∧ (∃ (s : State) (off : Nat) (len : Nat) (a : Nat), s.u.glb.phase ≠ .recovery ∧ (Run.start s).bar2Addr off len = some a ∧ (Run.start s).allowed 11 false a len = true ∧ (Run.start s).poisonedBlock a len = none)
    ∧ (∃ (s : State), s.u.glb.phase ≠ .recovery ∧ (s.rd GLB_FEAT_CTL_LOCKED = 0 ∨ bit s.u.glb.feat 11 = false ∨ (∀ p < 32, s.rd (MEM_POLDER_BAR2_EXPOSE p) = 0)))
    ∧ (∃ (s : State) (off : Nat) (bs : List Byte), s.u.glb.phase = .recovery ∧ off + bs.length ≤ 0x800000)
    ∧ (∃ (s : State) (off : Nat) (len : Nat), s.u.glb.phase = .recovery ∧ off + len ≤ 0x800000)
    ∧ (∃ (s : State), s.u.glb.linkUp = true)
    ∧ (∃ (s : State), s.u.glb.perstHigh = true ∧ s.u.glb.phase ≠ .held ∧ s.u.glb.phase ≠ .pll ∧ s.u.glb.phase ≠ .halt)
    ∧ (∃ (s : State) (n : Nat), s.u.glb.phase = .recovery ∧ s.u.glb.recovLen = 0 ∧ 64 ≤ n ∧ n ≤ 4194304)
    ∧ (∃ (s : State) (n : Nat), (s.u.glb.phase ≠ .recovery ∨ n < 64 ∨ 4194304 < n)) :=
  ⟨⟨(pol.wr MEM_CFG_RETIRED 2), 8192 + 255, 4096 + 255, [1#8, 2#8], by decide +kernel⟩,
   ⟨(pol.store (4096 + 256) 3#8), 8192 + 255, 2, 4096 + 255, by decide +kernel⟩,
   ⟨(pol.wr GLB_FEAT_CTL_LOCKED 0), by decide +kernel⟩,
   ⟨(rs []).modify fun u => { u with glb := { u.glb with phase := .recovery } }, 0x7FFFFE, [1#8, 2#8], by decide +kernel⟩,
   ⟨(rs []).modify fun u => { u with glb := { u.glb with phase := .recovery, recov := [(0x7FFFFE, 7#8)] } }, 0x7FFFFE, 2, by decide +kernel⟩,
   ⟨(rs [(QIF_PBA, 6), (QIF_MSIX_MASK 1, 0)]).modify fun u => { u with glb := { u.glb with linkUp := true } }, by decide +kernel⟩,
   ⟨(rs []).modify fun u => { u with glb := { u.glb with perstHigh := true, phase := .run } }, by decide +kernel⟩,
   ⟨(rs []).modify fun u => { u with glb := { u.glb with phase := .recovery } }, 64, by decide +kernel⟩,
   ⟨(rs []).modify fun u => { u with glb := { u.glb with phase := .recovery } }, 4194305, by decide +kernel⟩⟩

end Sys2Proof.Tests.W11

namespace Sys2Proof.Tests.W12

def run1 : State := (rs [(GLB_BOOT_STATUS_READY, 1), (MON_STATUS_UNLOCKED, 1), (MAG_REC_STATUS_STATE, 2), (QIF_SQ_TAIL_INDEX 3, 4), (GLB_GPIO_DIR_DIR, 1)]).modify fun u => { u with glb := { u.glb with phase := .run, railsGood := true, resetN := true, perstHigh := true, linkUp := true, busMaster := true, watchdogDue := true }, magu := { u.magu with segs := [{ mag := 0, clip := 0, seg := 0, g0 := 0 }] } }
/-- States and operands that meet the hypotheses of Resets, clause by clause. -/
theorem test_witness_Resets :
    (∃ (s : State), s.u.glb.railsGood = false)
    ∧ (∃ (s : State) (ns : Nat), s.u.glb.resetN = true ∧ 1000 ≤ ns)
    ∧ (∃ (s : State) (ns : Nat), (s.u.glb.resetN = false ∨ ns < 500))
    ∧ (∃ (s : State) (ns : Nat), s.u.glb.resetN = true ∧ 500 ≤ ns ∧ ns < 1000)
    ∧ (∃ (key : Nat), key ≠ 0xA5C3)
    ∧ (∃ (s : State), s.runs = true)
    ∧ (∃ (s : State), s.runs = false)
    ∧ (∃ (s : State), s.runs = true ∧ s.u.glb.perstHigh = true ∧ s.u.glb.resetN = true)
    ∧ (∃ (s : State), s.runs = true ∧ s.u.glb.linkUp = true)
    ∧ (∃ (s : State), s.runs = true ∧ s.u.glb.watchdogDue = true)
    ∧ (∃ (s : State) (k : Nat), k < 24 ∧ bit (s.rd THM_RETIRED) k = false ∧ 540 ≤ signed 16 (s.rd (THM_TS_TEMP k)) ∧ s.u.thm.trip = false)
    ∧ (∃ (s : State), s.u.thm.trip = true ∧ 100 < s.u.thm.cool)
    ∧ (∃ (s : State), s.runs = true ∧ s.u.glb.railsGood = true ∧ s.rd GLB_BOOT_STATUS_READY ≠ 0) :=
  ⟨⟨(rs []).modify fun u => { u with glb := { u.glb with resetN := true } }, by decide +kernel⟩,
   ⟨run1.store 5 5#8, 1000, by decide +kernel⟩,
   ⟨run1, 499, by decide +kernel⟩,
   ⟨run1, 999, by decide +kernel⟩,
   ⟨0xA5C4, by decide +kernel⟩,
   ⟨run1, by decide +kernel⟩,
   ⟨rs [], by decide +kernel⟩,
   ⟨run1, by decide +kernel⟩,
   ⟨run1, by decide +kernel⟩,
   ⟨run1, by decide +kernel⟩,
   ⟨run1.wr (THM_TS_TEMP 3) 541, 3, by decide +kernel⟩,
   ⟨(rs []).modify fun u => { u with glb := { u.glb with railsGood := true, resetN := true }, thm := { u.thm with trip := true, cool := 101 } }, by decide +kernel⟩,
   ⟨run1, by decide +kernel⟩⟩

end Sys2Proof.Tests.W12

namespace Sys2Proof.Tests.W13

def wd : State := (rs [(GLB_BOOT_STATUS_WARM, 1), (EVT_COFFERDAM_LANES, 1), (EVT_COFFERDAM_UNITS_W, 2), (EVT_SERVICE_REQ, 1), (THM_HYST_HYST, 9), (QIF_SQ_TAIL_INDEX 3, 4), (GLB_MODE_VALID, 1)]).modify fun u => { u with glb := { u.glb with phase := .warmDrain, woven := [1#8] }, tim := { u.tim with tb := [(1, { t := 77, present := true })] }, frames := [], qif := { u.qif with handles := [] } }
def wp (p : Phase) : State := wd.modify fun u => { u with glb := { u.glb with phase := p } }
/-- States and operands that meet the hypotheses of WarmSequence, clause by clause. -/
theorem test_witness_WarmSequence :
    (∃ (s : State), s.u.glb.phase = .warmDrain)
    ∧ (∃ (s : State), s.u.glb.phase = .warmFw)
    ∧ (∃ (s : State), s.u.glb.phase = .warmDram) :=
  ⟨⟨wd.store 5 5#8, by decide +kernel⟩,
   ⟨wp .warmFw, by decide +kernel⟩,
   ⟨wp .warmDram, by decide +kernel⟩⟩

end Sys2Proof.Tests.W13

namespace Sys2Proof.Tests.W14

def ph (p : Phase) : State := (rs []).modify fun u => { u with glb := { u.glb with phase := p } }
/-- States and operands that meet the hypotheses of BootSequence, clause by clause. -/
theorem test_witness_BootSequence :
    (∃ (s : State), s.u.glb.phase = .pll)
    ∧ (∃ (s : State), s.u.glb.phase = .fwLoad)
    ∧ (∃ (s : State), s.u.glb.phase = .dram)
    ∧ (∃ (s : State) (failed : Nat) (c : Nat), s.u.glb.phase = .dram ∧ c < 16 ∧ bit failed c = true)
    ∧ (∃ (s : State), s.u.glb.phase = .bsLoad)
    ∧ (∃ (s : State), s.u.glb.phase = .weave ∧ s.rd GLB_MODE_VALID = 0 ∧ s.rd GLB_BOOT_STATUS_WARM = 0)
    ∧ (∃ (s : State), s.u.glb.phase = .weave ∧ s.rd GLB_MODE_VALID ≠ 0)
    ∧ (∃ (s : State), s.u.glb.phase = .recovery ∧ s.u.glb.recovLen ≠ 0) :=
  ⟨⟨ph .pll, by decide +kernel⟩,
   ⟨ph .fwLoad, by decide +kernel⟩,
   ⟨ph .dram, by decide +kernel⟩,
   ⟨ph .dram, 0x8001, 15, by decide +kernel⟩,
   ⟨ph .bsLoad, by decide +kernel⟩,
   ⟨(ph .weave).wr GLB_BOOT_STATUS_FW_FALLBACK 1, by decide +kernel⟩,
   ⟨(ph .weave).wr GLB_MODE_VALID 1, by decide +kernel⟩,
   ⟨(ph .recovery).modify fun u => { u with glb := { u.glb with recovLen := 64 } }, by decide +kernel⟩⟩

end Sys2Proof.Tests.W14

namespace Sys2Proof.Tests.W15

def lc (f : List (Nat × Nat × Nat)) : Cmd := cmdOf 8 f
def chg (s : State) (c : Change) : State := s.modify fun u => { u with glb := { u.glb with change := c, job := some (5, 0) } }
def hd : HostData := ⟨true, [], [1#8, 2#8]⟩
/-- States and operands that meet the hypotheses of Loads, clause by clause. -/
theorem test_witness_Loads :
    (∃ (s : State) (c : Cmd), s.issued 8 c ∧ s.u.glb.change ≠ .none)
    ∧ (∃ (s : State) (h : HostData) (c : Cmd), s.issued 8 c ∧ s.u.glb.change = .none ∧ c.buffer h (c.f 0x18 4) ≠ none ∧ h.ok = false)
    ∧ (∃ (s : State) (h : HostData) (c : Cmd), s.issued 8 c ∧ s.u.glb.change = .none ∧ c.buffer h (c.f 0x18 4) ≠ none ∧ h.ok = true ∧ 2 ≤ c.f 0x1C 1)
    ∧ (∃ (s : State) (h : HostData) (c : Cmd), s.issued 8 c ∧ s.u.glb.change = .none ∧ c.buffer h (c.f 0x18 4) ≠ none ∧ h.ok = true ∧ c.f 0x1C 1 = 1)
    ∧ (∃ (s : State) (h : HostData) (c : Cmd), s.issued 8 c ∧ s.u.glb.change = .none ∧ c.buffer h (c.f 0x18 4) ≠ none ∧ h.ok = true ∧ c.f 0x1C 1 = 0)
    ∧ (∃ (s : State), s.u.glb.change = .check)
    ∧ (∃ (s : State), s.u.glb.change = .quiesce)
    ∧ (∃ (s : State) (code : Nat), s.u.glb.change = .quiesce ∧ (Run.start s).quiet = true ∧ code ≠ 0 ∧ s.u.glb.woven = [])
    ∧ (∃ (s : State), s.u.glb.change = .quiesce ∧ (Run.start s).quiet = true ∧ ((∀ c ∈ s.u.glb.nextCfg, c.type ≠ 0x0201)))
    ∧ (∃ (s : State) (c : Cmd) (code : Nat), s.u.glb.change = .weaving ∧ s.u.glb.job = some (c.no, code) ∧ (s.u.qif.cmds.find? (fun x => x.no == c.no) = some c) ∧ c.aborted = false ∧ s.u.qif.resets = [] ∧ s.rd GLB_MODE_VALID = 0)
    ∧ (∃ (s : State), s.u.glb.change = .weaving ∧ s.rd GLB_MODE_VALID ≠ 0)
    ∧ (∃ (s : State) (c : Cmd) (x : Nat), s.u.glb.change = .delta ∧ s.u.glb.deltaWait = [] ∧ s.u.glb.job = some (c.no, x) ∧ (s.u.qif.cmds.find? (fun x => x.no == c.no) = some c) ∧ c.aborted = false ∧ s.u.qif.resets = [])
    ∧ (∃ (s : State) (c : Cmd), s.issued 9 c ∧ s.u.glb.change = .none ∧ s.rd MAG_REC_STATUS_STATE = 0)
    ∧ (∃ (s : State) (c : Cmd), s.issued 9 c ∧ (s.u.glb.change ≠ .none ∨ (1 ≤ s.rd MAG_REC_STATUS_STATE ∧ s.rd MAG_REC_STATUS_STATE ≤ 4)))
    ∧ (∃ (s : State) (c : Cmd) (x : Nat), s.u.glb.change = .activate ∧ (Run.start s).othersDone = true ∧ s.u.glb.job = some (c.no, x) ∧ (s.u.qif.cmds.find? (fun x => x.no == c.no) = some c) ∧ c.aborted = false ∧ s.u.qif.resets = [])
    ∧ (∃ (s : State) (c : Cmd) (x : Nat), s.u.glb.change = .activate ∧ (Run.start s).othersDone = true ∧ s.u.glb.job = some (c.no, x) ∧ (s.u.qif.cmds.find? (fun x => x.no == c.no) = some c) ∧ c.aborted = false ∧ s.u.qif.resets = []) :=
  ⟨⟨chg (withCmd (rs []) (lc [(0x18, 4, 256)])) .delta, lc [(0x18, 4, 256)], by decide +kernel⟩,
   ⟨withCmd (rs []) (lc [(0x18, 4, 256)]), { hd with ok := false }, lc [(0x18, 4, 256)], by decide +kernel⟩,
   ⟨withCmd (rs []) (lc [(0x18, 4, 256), (0x1C, 1, 2)]), hd, lc [(0x18, 4, 256), (0x1C, 1, 2)], by decide +kernel⟩,
   ⟨withCmd (rs []) (lc [(0x18, 4, 256), (0x1C, 1, 1)]), hd, lc [(0x18, 4, 256), (0x1C, 1, 1)], by decide +kernel⟩,
   ⟨withCmd (rs [(MAG_REC_STATUS_STATE, 2)]) (lc [(0x18, 4, 256), (0x1C, 1, 0)]), hd, lc [(0x18, 4, 256), (0x1C, 1, 0)], by decide +kernel⟩,
   ⟨chg (rs [(AUD_STATUS_STATE 3, 2)]) .check, by decide +kernel⟩,
   ⟨chg (rs [(AUD_STATUS_STATE 3, 2), (ENC_STATUS_STATE 1, 1), (DMA_STATUS_STATE 5, 1), (DEC_STATUS_RUNNING, 1)]) .quiesce, by decide +kernel⟩,
   ⟨chg (rs []) .quiesce, 9, by decide +kernel⟩,
   ⟨chg (rs []) .quiesce, by decide +kernel⟩,
   ⟨chg (withCmd (rs []) (lc [])) .weaving, lc [], 0, by decide +kernel⟩,
   ⟨chg (rs [(GLB_MODE_VALID, 1)]) .weaving, by decide +kernel⟩,
   ⟨chg (withCmd (rs []) (lc [])) .delta, lc [], 0, by decide +kernel⟩,
   ⟨withCmd (rs []) (cmdOf 9 [(0x18, 1, 1)]), cmdOf 9 [(0x18, 1, 1)], by decide +kernel⟩,
   ⟨chg (withCmd (rs []) (cmdOf 9 [(0x18, 1, 1)])) .check, cmdOf 9 [(0x18, 1, 1)], by decide +kernel⟩,
   ⟨chg (withCmd (rs []) (cmdOf 9 [])) .activate, cmdOf 9 [], 0, by decide +kernel⟩,
   ⟨chg (withCmd (rs []) (cmdOf 9 [])) .activate, cmdOf 9 [], 0, by decide +kernel⟩⟩

end Sys2Proof.Tests.W15

namespace Sys2Proof.Tests.W16

def qs (st : Nat) : State := (rs [(QIF_CTL_EN, 1), (QIF_Q_STATUS_STATE 3, st), (QIF_Q_STATUS_STATE 0, 1)]).modify fun u => { u with qif := { u.qif with q := [(3, { depth := 8, cqTail := 5, cqHead := 2, unsent := 1 })] } }
/-- States and operands that meet the hypotheses of QueueRegisters, clause by clause. -/
theorem test_witness_QueueRegisters :
    (∃ (s : State) (q : Fin 64) (v : Nat), (s.rd (QIF_Q_STATUS_STATE q) = 1 ∨ s.rd (QIF_Q_STATUS_STATE q) = 2) ∧ v < (s.u.qif.q.look q {}).depth)
    ∧ (∃ (s : State) (q : Fin 64) (v : Nat), (s.rd (QIF_Q_STATUS_STATE q) = 1 ∨ s.rd (QIF_Q_STATUS_STATE q) = 2) ∧ v < (s.u.qif.q.look q {}).depth ∧ (let x := s.u.qif.q.look q {}; (v + x.depth - x.cqHead) % x.depth ≤ (x.cqTail + x.depth - x.cqHead) % x.depth))
    ∧ (∃ (s : State) (q : Fin 64) (v : Nat), (s.rd (QIF_Q_STATUS_STATE q) = 0 ∨ (s.rd (QIF_Q_STATUS_STATE q) ≠ 3 ∧ (s.u.qif.q.look q {}).depth ≤ v)))
    ∧ (∃ (s : State) (q : Fin 64), s.rd (QIF_Q_STATUS_STATE q) = 3)
    ∧ (∃ (s : State), s.rd QIF_CTL_EN = 0 ∧ s.rd (QIF_Q_STATUS_STATE 0) ≠ 3 ∧ s.rd GLB_BOOT_STATUS_READY ≠ 0 ∧ s.u.glb.busMaster = true)
    ∧ (∃ (s : State), s.rd QIF_CTL_EN = 0 ∧ s.rd (QIF_Q_STATUS_STATE 0) ≠ 3 ∧ (s.rd GLB_BOOT_STATUS_READY = 0 ∨ s.u.glb.busMaster = false))
    ∧ (∃ (s : State), s.rd QIF_CTL_EN ≠ 0 ∧ s.u.qif.cmds = [] ∧ s.u.qif.resets = [])
    ∧ (∃ (s : State), s.rd QIF_CTL_EN ≠ 0 ∧ s.rd (QIF_Q_STATUS_STATE 0) ≠ 3 ∧ s.u.qif.cmds = [] ∧ s.u.qif.resets = [])
    ∧ (∃ (s : State) (q : Fin 64) (v : Nat), (s.u.qif.q.look q {}).unsent ≠ 0 ∧ s.rd (QIF_Q_STATUS_VECTOR q) = v) :=
  ⟨⟨qs 1, 3, 7, by decide +kernel⟩,
   ⟨qs 1, 3, 4, by decide +kernel⟩,
   ⟨qs 1, 3, 8, by decide +kernel⟩,
   ⟨qs 3, 3, by decide +kernel⟩,
   ⟨(rs [(GLB_BOOT_STATUS_READY, 1), (QIF_ADMIN_DEPTH_DEPTH_M1, 15)]).modify fun u => { u with glb := { u.glb with busMaster := true } }, by decide +kernel⟩,
   ⟨rs [(GLB_BOOT_STATUS_READY, 1)], by decide +kernel⟩,
   ⟨qs 1, by decide +kernel⟩,
   ⟨qs 1, by decide +kernel⟩,
   ⟨(qs 1).modify fun u => { u with glb := { u.glb with busMaster := true } }, 3, 0, by decide +kernel⟩⟩

end Sys2Proof.Tests.W16

namespace Sys2Proof.Tests.W17

def fq (cls : Nat) : State := (rs [(QIF_CTL_EN, 1), (QIF_Q_STATUS_STATE 3, 1), (QIF_Q_STATUS_CLASS 3, cls), (QIF_ARB_W_HIGH, 2)]).modify fun u => { u with glb := { u.glb with busMaster := true }, qif := { u.qif with q := [(3, { depth := 16, tail := 5, head := 2, sq := 0x8000 })], credit := [(1, 0), (2, 2)] } }
def rd1 (live : Bool) : State := (fq 1).modify fun u => { u with qif := { u.qif with reading := some (3, 2, 3, live), next := 9 } }
def idc (o : Nat) : Cmd := { cmdOf o [] with started := false }
def runs (s : State) : State := s.modify fun u => { u with glb := { u.glb with phase := .run } }
/-- States and operands that meet the hypotheses of CommandFetch, clause by clause. -/
theorem test_witness_CommandFetch :
    (∃ (s : State) (q : Nat), s.u.qif.reading = none ∧ s.rd QIF_STATUS_FETCH_STOPPED = 0 ∧ s.u.glb.busMaster = true ∧ s.u.glb.d3hot = false ∧ (Run.start s).nextQueue 0 = some q)
    ∧ (∃ (s : State) (c : Nat) (q : Nat), s.u.qif.reading = none ∧ s.rd QIF_STATUS_FETCH_STOPPED = 0 ∧ s.u.glb.busMaster = true ∧ s.u.glb.d3hot = false ∧ (Run.start s).nextQueue 0 = none ∧ (c = 1 ∨ c = 2 ∨ c = 3) ∧ (Run.start s).nextQueue c = some q ∧ 0 < s.u.qif.credit.look c 0 ∧ ((∀ d, 1 ≤ d → d < c → (Run.start s).nextQueue d = none ∨ s.u.qif.credit.look d 0 = 0)))
    ∧ (∃ (s : State) (c : Nat) (q : Nat), s.u.qif.reading = none ∧ s.rd QIF_STATUS_FETCH_STOPPED = 0 ∧ s.u.glb.busMaster = true ∧ s.u.glb.d3hot = false ∧ (Run.start s).nextQueue 0 = none ∧ (c = 1 ∨ c = 2 ∨ c = 3) ∧ (Run.start s).nextQueue c = some q ∧ ((∀ d, 1 ≤ d → d < 4 → (Run.start s).nextQueue d = none ∨ s.u.qif.credit.look d 0 = 0)) ∧ ((∀ d, 1 ≤ d → d < c → (Run.start s).nextQueue d = none)))
    ∧ (∃ (s : State) (q : Nat) (a : Nat) (n : Nat), s.u.qif.reading = some (q, a, n, true))
    ∧ (∃ (s : State) (q : Nat) (a : Nat) (n : Nat), s.u.qif.reading = some (q, a, n, true))
    ∧ (∃ (s : State) (q : Nat) (a : Nat) (n : Nat), s.u.qif.reading = some (q, a, n, false))
    ∧ (∃ (s : State) (c : Cmd), ((let w := s.u.qif.cmds.filter fun c => !c.started; (w.find? Cmd.urgent).or w.head? = some c)) ∧ (Run.start s).duty 0 = true ∧ (Run.start s).precheck c = none)
    ∧ (∃ (s : State) (c : Cmd) (st : Nat) (d : Nat), ((let w := s.u.qif.cmds.filter fun c => !c.started; (w.find? Cmd.urgent).or w.head? = some c)) ∧ (Run.start s).duty 0 = true ∧ (Run.start s).precheck c = some (st, d) ∧ (s.u.qif.cmds.find? (fun x => x.no == c.no) = some c) ∧ c.aborted = false ∧ s.u.qif.resets = []) :=
  ⟨⟨fq 0, 3, by decide +kernel⟩,
   ⟨fq 2, 2, 3, by decide +kernel⟩,
   ⟨fq 1, 1, 3, by decide +kernel⟩,
   ⟨rd1 true, 3, 2, 3, by decide +kernel⟩,
   ⟨rd1 true, 3, 2, 3, by decide +kernel⟩,
   ⟨rd1 false, 3, 2, 3, by decide +kernel⟩,
   ⟨runs (withCmd (rs [(GLB_FEAT_CTL_LOCKED, 1)]) (idc 0x13)), idc 0x13, by decide +kernel⟩,
   ⟨runs (withCmd (rs []) (idc 0x55)), idc 0x55, 32, 0, by decide +kernel⟩⟩

end Sys2Proof.Tests.W17

namespace Sys2Proof.Tests.W18

def hd : HostData := ⟨true, [], [1#8, 2#8]⟩
def vc (f : List (Nat × Nat × Nat)) : State := ((withCmd (rs [(MEM_POLDER_SIZE 0, 0x100000), (MEM_POLDER_RIGHTS_READ 0, 0xFFFF)]) (cmdOf 0x18 f)).store 0x3C 5#8).modify fun u => { u with glb := { u.glb with cfg := [⟨3, 0x0701, 2, overlay (overlay (overlay (List.replicate 64 0#8) 0xC (le 2 8 ++ le 2 8)) 0x11 [2#8]) 8 [3#8]⟩] } }
def pc (f : List (Nat × Nat × Nat)) : State := ((withCmd (rs [(MEM_POLDER_SIZE 0, 0x100000), (MEM_POLDER_RIGHTS_READ 0, 0xFFFF), (ENC_OUT_WR_WR 1, 64)]) (cmdOf 0x19 f))).modify fun u => { u with glb := { u.glb with cfg := [⟨9, 0x0901, 1, overlay (List.replicate 64 0#8) 0x14 (le 4 0x1000)⟩] } }
/-- States and operands that meet the hypotheses of AdminCommands, clause by clause. -/
theorem test_witness_AdminCommands :
    (∃ (s : State), s.rd GLB_FEAT_CTL_OK = 0 ∧ featRefusal (Run.start s).offered (Run.start s).wovenReq (Run.start s).drvFeat = none)
    ∧ (∃ (s : State) (b : Nat) (why : Nat), s.rd GLB_FEAT_CTL_OK = 0 ∧ featRefusal (Run.start s).offered (Run.start s).wovenReq (Run.start s).drvFeat = some (b, why))
    ∧ (∃ (s : State), s.rd GLB_FEAT_CTL_OK ≠ 0)
    ∧ (∃ (s : State) (c : Cmd), s.issued 2 c ∧ s.rd GLB_FEAT_CTL_LOCKED ≠ 0)
    ∧ (∃ (s : State) (c : Cmd), s.issued 2 c ∧ s.rd GLB_FEAT_CTL_LOCKED = 0 ∧ featRefusal (Run.start s).offered (Run.start s).wovenReq (c.f 0x18 16) = none)
    ∧ (∃ (s : State) (c : Cmd) (b : Nat) (why : Nat), s.issued 2 c ∧ s.rd GLB_FEAT_CTL_LOCKED = 0 ∧ featRefusal (Run.start s).offered (Run.start s).wovenReq (c.f 0x18 16) = some (b, why))
    ∧ (∃ (s : State) (h : HostData) (c : Cmd) (segs : List (Nat × Nat)), s.issued 1 c ∧ c.buffer h ((Run.start s).identity c).length = some segs)
    ∧ (∃ (s : State) (c : Cmd) (q : Nat), s.issued 3 c ∧ q = c.f 0x18 2 ∧ q ≠ c.q ∧ s.rd (QIF_Q_STATUS_STATE q) = 0 ∧ c.f 8 8 % 4096 = 0 ∧ c.f 0x10 8 % 4096 = 0)
    ∧ (∃ (s : State) (c : Cmd), s.issued 3 c ∧ (s.rd (QIF_Q_STATUS_STATE (c.f 0x18 2)) ≠ 0 ∨ c.f 8 8 % 4096 ≠ 0 ∨ c.f 0x10 8 % 4096 ≠ 0))
    ∧ (∃ (s : State) (c : Cmd) (q : Nat), s.issued 4 c ∧ q = c.f 0x18 2 ∧ (s.rd (QIF_Q_STATUS_STATE q) = 1 ∨ s.rd (QIF_Q_STATUS_STATE q) = 2) ∧ ((∀ x ∈ s.u.qif.cmds, x.q ≠ q)))
    ∧ (∃ (s : State) (c : Cmd) (q : Nat), s.issued 5 c ∧ q = c.f 0x18 2 ∧ (s.rd (QIF_Q_STATUS_STATE q) = 1 ∨ s.rd (QIF_Q_STATUS_STATE q) = 2) ∧ ((∀ x ∈ s.u.qif.cmds, x.q ≠ q)))
    ∧ (∃ (s : State) (c : Cmd), s.issued 6 c)
    ∧ (∃ (s : State) (c : Cmd), s.issued 6 c ∧ ((Run.start s).logPage (c.f 0x18 1) (c.f 0x19 1)).length ≤ c.f 0x1C 4)
    ∧ (∃ (s : State) (c : Cmd) (e : Nat) (v : Nat), s.issued 7 c ∧ e = c.f 0x18 4 ∧ v = c.f 0x1C 4 ∧ e < 512 ∧ bits v 20 12 = 0 ∧ bit v 7 = false)
    ∧ (∃ (s : State) (c : Cmd), s.issued 7 c ∧ (bits (c.f 0x1C 4) 20 12 ≠ 0 ∨ bit (c.f 0x1C 4) 7 = true))
    ∧ (∃ (s : State) (c : Cmd) (o : Nat), s.issued 0x18 c ∧ o = c.f 0x18 1 ∧ ((Run.start s).hasCfg 0x0701 o = false ∨ (Run.start s).olKind o ≠ 3))
    ∧ (∃ (s : State) (h : HostData) (c : Cmd) (o : Nat) (k : Nat) (n : Nat) (g : Got) (segs : List (Nat × Nat)), s.issued 0x18 c ∧ o = c.f 0x18 1 ∧ (k = (if c.f 0x19 1 = 0xFF then (((Run.start s).outU o).count + (Run.start s).olN o 0x11 1 - 1) % (Run.start s).olN o 0x11 1 else c.f 0x19 1)) ∧ k < (Run.start s).olN o 0x11 1 ∧ n = visionStride (bit ((Run.start s).olN o 0x10 1) 4) ((Run.start s).olN o 0xC 2) ((Run.start s).olN o 0xE 2) ∧ (Run.start s).hasCfg 0x0701 o = true ∧ (Run.start s).olKind o = 3 ∧ n ≤ c.f 0x1C 4 ∧ c.buffer h (c.f 0x1C 4) ≠ none ∧ g = (Run.start s).peekMem 12 ((Run.start s).olSlot o k) n ∧ g.ok = true ∧ g.poison = false ∧ c.buffer h g.bytes.length = some segs ∧ h.ok = true)
    ∧ (∃ (s : State) (h : HostData) (c : Cmd) (n : Nat) (base : Nat) (w : List (Nat × Nat) × Nat) (segs : List (Nat × Nat)), s.issued 0x19 c ∧ n = c.f 0x18 1 ∧ base = (Run.start s).polder ((Run.start s).encN n 8 1) + (Run.start s).encN n 0x10 4 * 4096 ∧ (w = auWalk (fun rd => ((Run.start s).peekMem 12 (base + rd) 64).bytes) ((Run.start s).ringSize n) (s.rd (ENC_OUT_WR_WR n)) ((Run.start s).ringSize n / 64 + 2) (s.rd (ENC_OUT_RD_RD n)) (c.f 0x1C 4)) ∧ ((∀ x ∈ w.1, ((Run.start s).peekMem 12 (base + x.1) x.2).ok = true ∧ ((Run.start s).peekMem 12 (base + x.1) x.2).poison = false)) ∧ c.buffer h (c.f 0x1C 4) ≠ none ∧ (c.buffer h (w.1.flatMap fun x => ((Run.start s).peekMem 12 (base + x.1) x.2).bytes).length = some segs) ∧ h.ok = true) :=
  ⟨⟨rs [(GLB_FEAT_DRV_FEAT 0, 1)], by decide +kernel⟩,
   ⟨rs [(GLB_FEAT_DRV_FEAT 0, 2)], 0, 2, by decide +kernel⟩,
   ⟨rs [(GLB_FEAT_CTL_OK, 1)], by decide +kernel⟩,
   ⟨withCmd (rs [(GLB_FEAT_CTL_LOCKED, 1)]) (cmdOf 2 [(0x18, 4, 3)]), cmdOf 2 [(0x18, 4, 3)], by decide +kernel⟩,
   ⟨withCmd (rs []) (cmdOf 2 [(0x18, 4, 3)]), cmdOf 2 [(0x18, 4, 3)], by decide +kernel⟩,
   ⟨withCmd (rs []) (cmdOf 2 [(0x18, 4, 0x10)]), cmdOf 2 [(0x18, 4, 0x10)], 0, 2, by decide +kernel⟩,
   ⟨withCmd (rs []) (cmdOf 1 [(8, 4, 0x100)]), hd, cmdOf 1 [(8, 4, 0x100)], [(0x100, 4096)], ⟨by decide +kernel, by decide +kernel, by decide +kernel⟩, (congrArg (Cmd.buffer _ _) (padTo_length _ _)).trans (by decide +kernel)⟩,
   ⟨withCmd (rs []) (cmdOf 3 [(0x18, 2, 7), (0x1A, 2, 31), (8, 4, 0x1000), (0x1C, 1, 2), (0x1D, 1, 9)]), cmdOf 3 [(0x18, 2, 7), (0x1A, 2, 31), (8, 4, 0x1000), (0x1C, 1, 2), (0x1D, 1, 9)], 7, by decide +kernel⟩,
   ⟨withCmd (rs []) (cmdOf 3 [(0x18, 2, 7), (8, 4, 0x1001)]), cmdOf 3 [(0x18, 2, 7), (8, 4, 0x1001)], by decide +kernel⟩,
   ⟨withCmd (rs [(QIF_Q_STATUS_STATE 7, 1)]) (cmdOf 4 [(0x18, 2, 7)]), cmdOf 4 [(0x18, 2, 7)], 7, by decide +kernel⟩,
   ⟨withCmd (rs [(QIF_Q_STATUS_STATE 7, 2)]) (cmdOf 5 [(0x18, 2, 7)]), cmdOf 5 [(0x18, 2, 7)], 7, by decide +kernel⟩,
   ⟨withCmd (rs []) (cmdOf 6 [(0x18, 1, 2), (0x20, 4, 64)]), cmdOf 6 [(0x18, 1, 2), (0x20, 4, 64)], by decide +kernel⟩,
   ⟨withCmd (rs []) (cmdOf 6 [(0x18, 1, 2), (0x1C, 4, 2048)]), cmdOf 6 [(0x18, 1, 2), (0x1C, 4, 2048)], by decide +kernel⟩,
   ⟨withCmd (rs []) (cmdOf 7 [(0x18, 4, 9), (0x1C, 4, 0x3F47)]), cmdOf 7 [(0x18, 4, 9), (0x1C, 4, 0x3F47)], 9, 0x3F47, by decide +kernel⟩,
   ⟨withCmd (rs []) (cmdOf 7 [(0x18, 4, 9), (0x1C, 4, 0x80)]), cmdOf 7 [(0x18, 4, 9), (0x1C, 4, 0x80)], by decide +kernel⟩,
   ⟨withCmd (rs []) (cmdOf 0x18 [(0x18, 1, 9)]), cmdOf 0x18 [(0x18, 1, 9)], 9, by decide +kernel⟩,
   ⟨vc [(0x18, 1, 2), (0x1C, 4, 0x40000)], hd, cmdOf 0x18 [(0x18, 1, 2), (0x1C, 4, 0x40000)], 2, 0, visionStride false 8 8, (Run.start (vc [(0x18, 1, 2), (0x1C, 4, 0x40000)])).peekMem 12 0 (visionStride false 8 8), [(0, visionStride false 8 8)], by and_intros <;> first | (rw [peek_length]; decide +kernel) | decide +kernel | rfl⟩,
   ⟨pc [(0x18, 1, 1), (0x1C, 4, 128)], hd, cmdOf 0x19 [(0x18, 1, 1), (0x1C, 4, 128)], 1, 0, ([(0, 64)], 64), [(0, 64)], by decide +kernel⟩⟩

end Sys2Proof.Tests.W18

namespace Sys2Proof.Tests.W19

def mz (h : HopU) (v : DrvU) : State := (rs [(LNK_STATUS_STATE 25, 4)]).modify fun u => { u with magu := { u.magu with hop := [(1, h)], drv := [(6, v)], mag := [(0, { geo := [⟨2, 1, 0, [6]⟩], stripes := [(5, { left := [6] })] })] } }
def ck (why : Purpose) (opc : Nat) : DCmd := { opc := opc, lba := 0, count := 64, why := why, tag := 3 }
/-- States and operands that meet the hypotheses of MagazineHops, clause by clause. -/
theorem test_witness_MagazineHops :
    (∃ (s : State) (l : Fin 16) (p : Fin 4) (seq : Nat) (tag : Nat) (blocks : Nat) (d : Nat) (m : Nat) (g : Nat) (i : Nat) (c : DCmd) (x : StripeU) (q : Geo), d = 4 * l.val + p.val ∧ (Run.start s).hopLinked l = true ∧ ((Run.start s).hop l).discard = false ∧ seq = ((Run.start s).hop l).rx ∧ s.magQuiet ∧ ((Run.start s).drv d).wait = [] ∧ ((((Run.start s).drv d).out.find? fun y => y.tag == tag) = some c) ∧ c.count ≤ blocks ∧ c.why = .chunk m g ∧ ((Run.start s).magz m).stripes.find g = some x ∧ x.left = [d] ∧ (Run.start s).magK m ≤ x.ok + 1 ∧ x.dead = false ∧ (Run.start s).ringOf m g = some (q, i) ∧ q.idx < 4)
    ∧ (∃ (s : State) (l : Fin 16) (p : Fin 4) (seq : Nat) (tag : Nat) (status : Nat) (blocks : Nat) (d : Nat) (no : Nat) (g : Nat) (k : Nat) (c : DCmd), d = 4 * l.val + p.val ∧ (Run.start s).hopLinked l = true ∧ ((Run.start s).hop l).discard = false ∧ seq = ((Run.start s).hop l).rx ∧ s.magQuiet ∧ ((Run.start s).drv d).wait = [] ∧ ((((Run.start s).drv d).out.find? fun y => y.tag == tag) = some c) ∧ c.why = .read no g k ∧ (status ≠ 0 ∨ blocks < c.count))
    ∧ (∃ (s : State) (l : Fin 16) (seq : Nat) (h : HopU), h = s.u.magu.hop.look l {} ∧ (Run.start s).hopLinked l = true ∧ h.discard = false ∧ seq ≠ h.rx ∧ (laterThan 24 seq h.rx = true ∨ subMod 24 seq h.rx = 2 ^ 23) ∧ s.rd (MAG_LINK_STATUS_NAK_COUNT l) < 8)
    ∧ (∃ (s : State) (l : Fin 16) (data : List Byte), (Run.start s).hopHears l = true ∧ data.length ≠ 1024 ∧ s.rd (MAG_LINK_STATUS_NAK_COUNT l) < 8)
    ∧ (∃ (s : State) (l : Fin 16) (seq : Nat), ((Run.start s).hopLinked l = false ∨ ((Run.start s).hop l).discard = true ∨ (seq ≠ ((Run.start s).hop l).rx ∧ laterThan 24 seq ((Run.start s).hop l).rx = false ∧ subMod 24 seq ((Run.start s).hop l).rx ≠ 2 ^ 23)))
    ∧ (∃ (s : State) (l : Fin 16) (p : Fin 4) (seq : Nat) (d : Nat) (data : List Byte), d = 4 * l.val + p.val ∧ (Run.start s).hopLinked l = true ∧ ((Run.start s).hop l).discard = false ∧ seq = ((Run.start s).hop l).rx ∧ data.length = 1024)
    ∧ (∃ (s : State) (l : Fin 16) (p : Fin 4) (st : Fin 5) (d : Nat), d = 4 * l.val + p.val ∧ (Run.start s).hopLinked l = true ∧ ((Run.start s).hop l).discard = false ∧ s.magQuiet ∧ (st.val < 3 ∨ s.rd (MAG_DRV_STATUS_REMOVED d) ≠ 0))
    ∧ (∃ (s : State) (l : Fin 16), ((Run.start s).hopLinked l = false ∨ ((Run.start s).hop l).discard = true))
    ∧ (∃ (s : State) (l : Fin 16) (n : Nat), (Run.start s).hopLinked l = true ∧ ((Run.start s).hop l).owed = true ∧ n = (((Run.start s).hop l).rx + 2 ^ 24 - 1) % 2 ^ 24)
    ∧ (∃ (s : State) (l : Fin 16) (n : Nat), (Run.start s).hopLinked l = true ∧ 0 < s.rd (MAG_LINK_STATUS_NAK_COUNT l) ∧ s.rd (MAG_LINK_STATUS_NAK_COUNT l) < 8 ∧ n = ((Run.start s).hop l).rx) :=
  ⟨⟨mz { rx := 7 } { out := [ck (.chunk 0 5) 1] }, 1, 2, 7, 3, 64, 6, 0, 5, 5, ck (.chunk 0 5) 1, { left := [6] }, ⟨2, 1, 0, [6]⟩, by decide +kernel⟩,
   ⟨mz { rx := 2 ^ 24 - 1 } { out := [ck (.read 1 2 3) 2] }, 1, 2, 2 ^ 24 - 1, 3, 1, 0, 6, 1, 2, 3, ck (.read 1 2 3) 2, by decide +kernel⟩,
   ⟨mz { rx := 7 } {}, 1, 8, { rx := 7 }, by decide +kernel⟩,
   ⟨mz { rx := 7 } {}, 1, [1#8], by decide +kernel⟩,
   ⟨mz { rx := 7 } {}, 1, 6, by decide +kernel⟩,
   ⟨mz { rx := 7 } { out := [ck (.read 1 2 3) 2] }, 1, 2, 7, 6, List.replicate 1024 1#8, by decide +kernel⟩,
   ⟨mz {} {}, 1, 2, 0, 6, by decide +kernel⟩,
   ⟨State.reset, 1, by decide +kernel⟩,
   ⟨mz { owed := true } {}, 1, 2 ^ 24 - 1, by decide +kernel⟩,
   ⟨(mz { rx := 9 } {}).wr (MAG_LINK_STATUS_NAK_COUNT 1) 7, 1, 9, by decide +kernel⟩⟩

end Sys2Proof.Tests.W19

namespace Sys2Proof.Tests.W20

def gg : Geo := ⟨2, 3, 1, [0xFF, 5, 8, 6]⟩
def mz (v : DrvU) : State := (rs [(LNK_STATUS_STATE 25, 4), (MAG_DRV_STATUS_DSTATE 6, 1), (MAG_DRV_STATUS_RING 6, 2), (MAG_DRV_STATUS_SLOT 6, 3), (MAG_DRV_STATUS_MEMBER 6, 1), (MAG_RING_STATUS_STATE 2, 1), (MAG_LINK_STATUS_RELOCK_WAIT 1, 1), (MAG_LINK_STATUS_NAK_COUNT 1, 8)]).modify fun u => { u with glb := { u.glb with cfg := [⟨6, 0x0A01, 0, overlay (List.replicate 32 0#8) 8 [0x30#8]⟩] }, magu := { u.magu with drv := [(6, v)], mag := [(0, { geo := [gg], stripes := [(5, { left := [6] })] })] } }
def ck (why : Purpose) (opc : Nat) : DCmd := { opc := opc, lba := 0, count := 64, why := why, tag := 3 }
def arm (s : State) : State := s.wr MAG_REC_STATUS_STATE 1
/-- States and operands that meet the hypotheses of MagazineDetectors, clause by clause. -/
theorem test_witness_MagazineDetectors :
    (∃ (s : State) (d : Fin 64), s.rd (MAG_DRV_STATUS_DSTATE d) ≠ 15 ∧ s.idleDrive d ∧ s.magQuiet ∧ s.geoOk)
    ∧ (∃ (s : State) (d : Fin 64) (pre : List Breach) (post : List Breach) (b : Breach), s.rd (MAG_DRV_STATUS_DSTATE d) ≠ 15 ∧ s.rd (MAG_DRV_STATUS_REMOVED d) ≠ 0 ∧ s.magQuiet ∧ s.geoOk ∧ s.u.evt.log = pre ++ b :: post ∧ b.type = 4 ∧ b.index = d.val ∧ b.action = 3 ∧ ((∀ x ∈ pre, x.type ≠ 4 ∨ x.index ≠ d.val ∨ x.action ≠ 3)))
    ∧ (∃ (s : State) (d : Fin 64) (g : Geo) (j : Nat), s.rd (MAG_DRV_STATUS_DSTATE d) ≠ 15 ∧ s.memberAt d g j ∧ s.magQuiet ∧ s.geoOk)
    ∧ (∃ (s : State) (l : Fin 16) (p : Fin 4) (st : Fin 5) (d : Nat) (g : Geo) (j : Nat), d = 4 * l.val + p.val ∧ (Run.start s).hopLinked l = true ∧ ((Run.start s).hop l).discard = false ∧ (st.val = 3 ∨ st.val = 4) ∧ s.memberAt d g j ∧ s.magQuiet ∧ s.geoOk)
    ∧ (∃ (s : State) (d : Fin 64), s.rd (MAG_DRV_STATUS_DSTATE d) = 15)
    ∧ (∃ (s : State) (d : Fin 64) (tag : Fin 64) (c : DCmd), ((((Run.start s).drv d).out.find? fun x => x.tag == tag.val) = some c) ∧ ((Run.start s).drv d).wait = [] ∧ s.idleDrive d ∧ s.magQuiet ∧ s.geoOk)
    ∧ (∃ (s : State) (d : Fin 64) (tag : Fin 64) (c : DCmd) (g : Geo) (j : Nat), ((((Run.start s).drv d).out.find? fun x => x.tag == tag.val) = some c) ∧ s.memberAt d g j ∧ s.magQuiet ∧ s.geoOk)
    ∧ (∃ (s : State) (d : Fin 64) (tag : Fin 64), ((((Run.start s).drv d).out.find? fun x => x.tag == tag.val) = none))
    ∧ (∃ (s : State) (l : Fin 16), s.rd (MAG_LINK_STATUS_EXHAUSTED l) = 0 ∧ (s.rd (MAG_LINK_STATUS_NAK_COUNT l) = 8 ∨ ((Run.start s).hop l).kept ≠ []) ∧ (Run.start s).chain l ≤ 4 ∧ ((∀ p < (Run.start s).chain l, s.idleDrive (4 * l + p))) ∧ s.magQuiet ∧ s.geoOk)
    ∧ (∃ (s : State) (l : Fin 16), (s.rd (MAG_LINK_STATUS_EXHAUSTED l) ≠ 0 ∨ (s.rd (MAG_LINK_STATUS_NAK_COUNT l) ≠ 8 ∧ ((Run.start s).hop l).kept = [])))
    ∧ (∃ (s : State) (l : Fin 16), s.rd (MAG_LINK_STATUS_RELOCK_WAIT l) ≠ 0 ∧ (Run.start s).chain l ≤ 4 ∧ ((∀ p < (Run.start s).chain l, s.idleDrive (4 * l + p))) ∧ s.magQuiet ∧ s.geoOk)
    ∧ (∃ (s : State) (l : Fin 16), s.rd (MAG_LINK_STATUS_RELOCK_WAIT l) = 0)
    ∧ (∃ (s : State) (l : Fin 16) (n : Nat), n = 24 + l.val ∧ s.rd (LNK_STATUS_STATE n) = 5 ∧ ((Run.start s).laneU n).checking = false ∧ ((Run.start s).laneU n).checkLater = false ∧ (Run.start s).recordsOn ((Run.start s).magOfLane l) = false) :=
  ⟨⟨mz { out := [ck (.chunk 0 5) 1], wait := [ck (.op 0) 1] }, 6, by decide +kernel⟩,
   ⟨((mz {}).wr (MAG_DRV_STATUS_REMOVED 6) 1).modify (fun u => { u with evt := { u.evt with log := [{}, { type := 4, index := 6, action := 3, cls := 2 }] } }), 6, [{}], [], { type := 4, index := 6, action := 3, cls := 2 }, by decide +kernel⟩,
   ⟨arm (mz { out := [ck (.chunk 0 5) 1] }), 6, gg, 3, by decide +kernel⟩,
   ⟨arm (mz {}), 1, 2, 3, 6, gg, 3, by decide +kernel⟩,
   ⟨State.reset, 63, by decide +kernel⟩,
   ⟨mz { out := [ck (.chunk 0 5) 1] }, 6, 3, ck (.chunk 0 5) 1, by decide +kernel⟩,
   ⟨arm (mz { out := [ck (.chunk 0 5) 1] }), 6, 3, ck (.chunk 0 5) 1, gg, 3, by decide +kernel⟩,
   ⟨State.reset, 6, 3, by decide +kernel⟩,
   ⟨mz {}, 1, by decide +kernel⟩,
   ⟨State.reset, 1, by decide +kernel⟩,
   ⟨mz {}, 1, by decide +kernel⟩,
   ⟨State.reset, 1, by decide +kernel⟩,
   ⟨rs [(LNK_STATUS_STATE 39, 5)], 15, 39, by decide +kernel⟩⟩

end Sys2Proof.Tests.W20

namespace Sys2Proof.Tests.W21

def rn (s : State) : State := s.modify fun u => { u with glb := { u.glb with phase := .run } }
def sg : Seg := { mag := 0, clip := 9, seg := 0, g0 := 0 }
def seg1 (s : State) : State := s.modify fun u => { u with magu := { u.magu with segs := [sg] } }
/-- States and operands that meet the hypotheses of RecordCommands, clause by clause. -/
theorem test_witness_RecordCommands :
    (∃ (s : State) (c : Cmd) (m : Nat) (pre : List Nat), s.issued 0x10 c ∧ (Run.start s).duty 1 = true ∧ m = c.f 0x18 1 ∧ m < 2 ∧ (pre = ((List.range 16).map fun n => c.f (0x20 + 2 * n) 2)) ∧ s.rd MAG_REC_STATUS_STATE = 0 ∧ s.rd GLB_RESET_CAUSE_CLIP_RESCUE_PENDING = 0 ∧ ((∀ h ∈ s.u.qif.handles, h.2.write = false ∨ h.2.mag ≠ m)) ∧ (m = 0 ∨ (Run.start s).dual = true) ∧ ((lowest (fun n => pre.getD n 0 != 0 && !((Run.start s).recCtxs.contains n)) 16) = none) ∧ s.rd (MAG_MAG_STATUS_READY m) ≠ 0 ∧ (Run.start s).magSlow m = false ∧ (Run.start s).prerollTooBig pre = false)
    ∧ (∃ (s : State) (c : Cmd), s.issued 0x10 c ∧ (Run.start s).duty 1 = true ∧ s.rd MAG_REC_STATUS_STATE ≠ 0)
    ∧ (∃ (s : State) (c : Cmd) (pre : List Nat), s.issued 0x10 c ∧ (Run.start s).duty 1 = true ∧ c.f 0x18 1 = 0 ∧ (pre = ((List.range 16).map fun n => c.f (0x20 + 2 * n) 2)) ∧ s.rd MAG_REC_STATUS_STATE = 0 ∧ s.rd GLB_RESET_CAUSE_CLIP_RESCUE_PENDING = 0 ∧ ((∀ h ∈ s.u.qif.handles, h.2.write = false ∨ h.2.mag ≠ 0)) ∧ ((lowest (fun n => pre.getD n 0 != 0 && !((Run.start s).recCtxs.contains n)) 16) = none) ∧ s.rd (MAG_MAG_STATUS_READY 0) = 0)
    ∧ (∃ (s : State) (c : Cmd), s.issued 0x11 c ∧ (Run.start s).duty 1 = true ∧ s.rd MAG_REC_STATUS_STATE = 1 ∧ (Run.start s).startFrames = [] ∧ (Run.start s).recPorts = [] ∧ s.u.magu.segs = [] ∧ s.geoOk)
    ∧ (∃ (s : State) (c : Cmd), s.issued 0x11 c ∧ (Run.start s).duty 1 = true ∧ s.rd MAG_REC_STATUS_STATE ≠ 1)
    ∧ (∃ (s : State) (c : Cmd), s.issued 0x12 c ∧ (Run.start s).duty 1 = true ∧ s.rd MAG_REC_STATUS_STATE = 1)
    ∧ (∃ (s : State) (c : Cmd) (x : Seg), s.issued 0x12 c ∧ (Run.start s).duty 1 = true ∧ s.rd MAG_REC_STATUS_STATE = 2 ∧ (Run.start s).curSeg = some x)
    ∧ (∃ (s : State) (c : Cmd), s.issued 0x12 c ∧ (Run.start s).duty 1 = true ∧ s.rd MAG_REC_STATUS_STATE ≠ 1 ∧ s.rd MAG_REC_STATUS_STATE ≠ 2)
    ∧ (∃ (s : State) (c : Cmd) (x : Seg), s.issued 0x13 c ∧ (Run.start s).duty 1 = true ∧ s.rd MAG_REC_STATUS_STATE = 2 ∧ (Run.start s).curSeg = some x)
    ∧ (∃ (s : State) (c : Cmd), s.issued 0x13 c ∧ (Run.start s).duty 1 = true ∧ s.rd MAG_REC_STATUS_STATE ≠ 2)
    ∧ (∃ (s : State) (x : Seg), (Run.start s).canChange = true ∧ s.rd MAG_REC_STATUS_STATE = 2 ∧ (Run.start s).curSeg = some x ∧ x.aud = [] ∧ x.mag < 2 ∧ s.geoOk)
    ∧ (∃ (s : State), (Run.start s).canChange = false)
    ∧ (∃ (s : State), (Run.start s).canChange = true ∧ s.rd MAG_REC_STATUS_STATE ≠ 2) :=
  ⟨⟨rn (withCmd (rs [(MAG_MAG_STATUS_READY 0, 1)]) (cmdOf 0x10 [])), cmdOf 0x10 [], 0, List.replicate 16 0, by decide +kernel⟩,
   ⟨rn (withCmd (rs [(MAG_REC_STATUS_STATE, 2)]) (cmdOf 0x10 [])), cmdOf 0x10 [], by decide +kernel⟩,
   ⟨rn (withCmd (rs []) (cmdOf 0x10 [])), cmdOf 0x10 [], List.replicate 16 0, by decide +kernel⟩,
   ⟨rn (withCmd (rs [(MAG_REC_STATUS_STATE, 1)]) (cmdOf 0x11 [])), cmdOf 0x11 [], by decide +kernel⟩,
   ⟨rn (withCmd (rs [(MAG_REC_STATUS_STATE, 2)]) (cmdOf 0x11 [])), cmdOf 0x11 [], by decide +kernel⟩,
   ⟨rn (withCmd (rs [(MAG_REC_STATUS_STATE, 1)]) (cmdOf 0x12 [])), cmdOf 0x12 [], by decide +kernel⟩,
   ⟨seg1 (rn (withCmd (rs [(MAG_REC_STATUS_STATE, 2)]) (cmdOf 0x12 []))), cmdOf 0x12 [], sg, by decide +kernel⟩,
   ⟨rn (withCmd (rs [(MAG_REC_STATUS_STATE, 3)]) (cmdOf 0x12 [])), cmdOf 0x12 [], by decide +kernel⟩,
   ⟨seg1 (rn (withCmd (rs [(MAG_REC_STATUS_STATE, 2)]) (cmdOf 0x13 []))), cmdOf 0x13 [], sg, by decide +kernel⟩,
   ⟨rn (withCmd (rs [(MAG_REC_STATUS_STATE, 3)]) (cmdOf 0x13 [])), cmdOf 0x13 [], by decide +kernel⟩,
   ⟨seg1 (rs [(GLB_MODE_DUAL_MAG, 1), (MAG_MAG_STATUS_READY 1, 1), (MAG_REC_STATUS_STATE, 2)]), sg, by decide +kernel⟩,
   ⟨State.reset, by decide +kernel⟩,
   ⟨rs [(GLB_MODE_DUAL_MAG, 1), (MAG_MAG_STATUS_READY 1, 1)], by decide +kernel⟩⟩

end Sys2Proof.Tests.W21

namespace Sys2Proof.Tests.W22

def gg : Geo := ⟨2, 1, 1, [5, 6]⟩
def sg : Seg := { mag := 0, clip := 9, seg := 0, g0 := 4, bytes := List.replicate 262144 7#8 }
def sg2 : Seg := { mag := 0, clip := 9, seg := 0, g0 := 4, bytes := [1#8], stop := some 5 }
def mgs (x : List Seg) (s : State) : State := s.modify fun u => { u with magu := { u.magu with segs := x, mag := [(0, { geo := [gg] })] } }
def fr : IFrame := { sn := 3, packed := true, exts := [(1, 4)], complete := true, h := 136, w := 4, fn := 8, slices := 1, offs := [0] }
def frs (s : State) : State := s.modify fun u => { u with frames := [fr] }
def magc (s : State) : State := s.modify fun u => { u with glb := { u.glb with phase := .run, cfg := [⟨6, 0x0A01, 0, overlay (List.replicate 32 0#8) 8 [0x10#8]⟩] } }
def lk (s : State) : State := (s.wr (LNK_STATUS_STATE 25) 4).modify fun u => { u with magu := { u.magu with drv := [(4, { ident := true })] } }
/-- States and operands that meet the hypotheses of StripesAndIdentification, clause by clause. -/
theorem test_witness_StripesAndIdentification :
    (∃ (s : State) (x : Seg) (q : Geo) (i : Nat) (sb : Nat), s.u.magu.segs = [x] ∧ 2 ≤ s.rd MAG_REC_STATUS_STATE ∧ s.rd MAG_REC_STATUS_STATE ≠ 4 ∧ s.u.glb.phase ≠ .warmDrain ∧ x.dead = false ∧ x.aud = [] ∧ x.stop = none ∧ x.manifest = none ∧ x.sealGen = none ∧ x.mag < 2 ∧ sb = (Run.start s).stripeBytes x.mag ∧ 0 < sb ∧ x.issued * sb + sb ≤ x.bytes.length ∧ (Run.start s).ringOf x.mag (x.g0 + x.issued) = some (q, i) ∧ q.idx < 4 ∧ s.geoOk)
    ∧ (∃ (s : State) (x : Seg) (sb : Nat), s.u.magu.segs = [x] ∧ 2 ≤ s.rd MAG_REC_STATUS_STATE ∧ s.rd MAG_REC_STATUS_STATE ≠ 4 ∧ (Run.start s).duty 1 = true ∧ x.dead = false ∧ x.aud = [] ∧ x.stop.isSome = true ∧ x.todo = [] ∧ x.manifest = none ∧ x.sealGen = none ∧ x.degr = [] ∧ x.mag < 2 ∧ sb = (Run.start s).stripeBytes x.mag ∧ 0 < sb ∧ x.bytes.length < x.issued * sb + sb ∧ ((Run.start s).magz x.mag).geo ≠ [] ∧ s.geoOk)
    ∧ (∃ (s : State), (s.rd MAG_REC_STATUS_STATE < 2 ∨ s.u.magu.segs = []))
    ∧ (∃ (s : State), (Run.start s).pakNext = none)
    ∧ (∃ (s : State) (f : IFrame), (Run.start s).pakNext = some f ∧ s.rd PAK_STATUS_RETIRED ≠ 0 ∧ s.u.magu.segs = [])
    ∧ (∃ (s : State) (f : IFrame) (n : Nat) (off : Nat) (len : Nat) (raw : List Byte) (x : List Bool × Nat × Bool), (Run.start s).pakNext = some f ∧ s.rd PAK_STATUS_RETIRED = 0 ∧ (Run.start s).isResetting 7 0 = false ∧ s.u.mem.poison = [] ∧ s.rd MEM_CFG_RETIRED = 0 ∧ 64 * f.slices + 64 < f.h ∧ n = 64 ∧ len = n * f.w * 9 / 4 ∧ off = f.rawOff + 64 * f.slices * f.w * 9 / 4 ∧ raw = (Run.start s).slotBytes f off len ∧ (x = codeBlocks (8 * f.pakOut.length) (64 * f.slices * f.w * 9 / 4) (sliceBlocks ((Run.start s).packPeriod f.ctx).1 ((Run.start s).packPeriod f.ctx).2 ((List.range n).map fun j => (List.range f.w).map fun y => bits (ofLe raw) (18 * (j * f.w + y)) 18)) []) ∧ x.2.2 = false)
    ∧ (∃ (s : State) (m : Fin 2) (lanes : List Nat) (all : List Nat), lanes = (Run.start s).magLanes m ∧ (all = (lanes.flatMap fun l => (List.range ((Run.start s).chain l)).map fun p => 4 * l + p)) ∧ (lanes = [] ∨ (lanes.all fun l => (Run.start s).hopLinked l) = false ∨ all.any (Run.start s).identPending = true))
    ∧ (∃ (s : State) (m : Fin 2) (lanes : List Nat) (mine : List Nat) (seen : List (Nat × Label)) (newest : Option Label), lanes = (Run.start s).magLanes m ∧ (mine = ((lanes.flatMap fun l => (List.range ((Run.start s).chain l)).map fun p => 4 * l + p).filter fun d => ((Run.start s).drv d).ident)) ∧ (seen = (mine.filterMap fun d => ((Run.start s).drvLabel d).map fun l => (d, l))) ∧ (newest = seen.foldl (fun (a : Option Label) x => newestLabel (some x.2) a) none) ∧ lanes ≠ [] ∧ ((lanes.all fun l => (Run.start s).hopLinked l) = true) ∧ ((∀ l ∈ lanes, ∀ p < (Run.start s).chain l, (Run.start s).identPending (4 * l + p) = false)) ∧ s.rd MAG_REC_STATUS_STATE ≠ 4 ∧ (Run.start s).recordsOn m = false)
    ∧ (∃ (s : State), s.rd GLB_BOOT_STATUS_READY ≠ 0 ∧ s.rd GLB_RESET_CAUSE_CLIP_RESCUE_PENDING ≠ 0 ∧ s.rd MAG_REC_STATUS_STATE = 0 ∧ (Run.start s).duty 1 = true ∧ (s.u.magu.segs.any (fun x => s.rd (MAG_MAG_STATUS_READY x.mag) == 0) = true))
    ∧ (∃ (s : State), s.rd GLB_BOOT_STATUS_READY ≠ 0 ∧ s.rd GLB_RESET_CAUSE_CLIP_RESCUE_PENDING ≠ 0 ∧ s.rd MAG_REC_STATUS_STATE = 0 ∧ (Run.start s).duty 1 = true ∧ (s.u.magu.segs.all (fun x => s.rd (MAG_MAG_STATUS_READY x.mag) != 0) = true) ∧ (s.u.magu.segs.any (fun x => ((Run.start s).magz x.mag).label.magId != x.magId || ((Run.start s).magz x.mag).geo != x.geo) = true))
    ∧ (∃ (s : State), (s.rd GLB_BOOT_STATUS_READY = 0 ∨ s.rd GLB_RESET_CAUSE_CLIP_RESCUE_PENDING = 0 ∨ s.rd MAG_REC_STATUS_STATE ≠ 0))
    ∧ (∃ (s : State), s.rd MAG_REC_STATUS_STATE = 4 ∧ s.u.magu.resume = false)
    ∧ (∃ (s : State), (s.rd MAG_REC_STATUS_STATE ≠ 4 ∨ s.u.magu.resume = true)) :=
  ⟨⟨mgs [sg] (rs [(MAG_REC_STATUS_STATE, 2)]), sg, gg, 4, 262144, by and_intros <;> first | exact (rfl : [sg] = [sg]) | (show sg.issued * 262144 + 262144 ≤ (List.replicate 262144 7#8).length; rw [List.length_replicate]; decide) | decide +kernel⟩,
   ⟨mgs [sg2] (magc (rs [(MAG_REC_STATUS_STATE, 3)])), sg2, 262144, by decide +kernel⟩,
   ⟨State.reset, by decide +kernel⟩,
   ⟨State.reset, by decide +kernel⟩,
   ⟨frs (rs [(PAK_STATUS_RETIRED, 1)]), fr, by decide +kernel⟩,
   ⟨frs State.reset, fr, 64, 576, 576, List.replicate 576 0#8, codeBlocks 0 576 (sliceBlocks 2 2 (List.replicate 64 [0, 0, 0, 0])) [], by decide +kernel⟩,
   ⟨magc State.reset, 0, (Run.start (magc State.reset)).magLanes 0, (Run.start (magc State.reset)).magLanes 0 |>.flatMap fun l => (List.range ((Run.start (magc State.reset)).chain l)).map fun p => 4 * l + p, by decide +kernel⟩,
   ⟨magc (lk (rs [])), 0, [1], [4], [], none, by decide +kernel⟩,
   ⟨mgs [sg2] (magc (rs [(GLB_BOOT_STATUS_READY, 1), (GLB_RESET_CAUSE_CLIP_RESCUE_PENDING, 1)])), by decide +kernel⟩,
   ⟨(magc (rs [(GLB_BOOT_STATUS_READY, 1), (GLB_RESET_CAUSE_CLIP_RESCUE_PENDING, 1), (MAG_MAG_STATUS_READY 0, 1)])).modify fun u => { u with magu := { u.magu with segs := [{ sg2 with magId := 7 }], mag := [(0, { geo := [gg], identified := true, valid := true })] } }, by decide +kernel⟩,
   ⟨State.reset, by decide +kernel⟩,
   ⟨rs [(MAG_REC_STATUS_STATE, 4)], by decide +kernel⟩,
   ⟨State.reset, by decide +kernel⟩⟩

end Sys2Proof.Tests.W22

namespace Sys2Proof.Tests.W23

def gg : Geo := ⟨2, 1, 1, [5, 6]⟩
def hw : Handle := { mag := 0, id := 3, seg := 0, startG := 4, len := 8192, write := true }
def hr : Handle := { hw with write := false }
def cl : Clip := { id := 3, seg := 0, state := 2, startG := 4, endG := 6 }
def hs (l : List (Nat × Handle)) (s : State) : State := s.modify fun u => { u with qif := { u.qif with handles := l }, magu := { u.magu with mag := [(0, { geo := [gg], label := { clips := [cl] } })], drv := [(5, { cap := 10000000 }), (6, { cap := 10000000 })] } }
def hd : HostData := ⟨true, [], [1#8, 2#8]⟩
def oc (f : List (Nat × Nat × Nat)) : Cmd := cmdOf 0x14 f
/-- States and operands that meet the hypotheses of HandlesAndExtents, clause by clause. -/
theorem test_witness_HandlesAndExtents :
    (∃ (s : State) (c : Cmd) (m : Nat) (k : Nat) (len : Nat) (e : Clip), s.issued 0x14 c ∧ c.f 0x19 1 = 0 ∧ m = c.f 0x18 1 ∧ (Run.start s).freeHandle = some k ∧ (Run.start s).clipEntry m (c.f 0x1C 2) = some e ∧ e.state ≠ 0 ∧ ((∀ x ∈ (Run.start s).segsOn m, x.clip ≠ e.id ∨ x.seg ≠ e.seg)) ∧ (len = ((if e.state = 2 then e.endG else ((Run.start s).magz m).label.nextG) - e.startG) * (Run.start s).stripeBytes m))
    ∧ (∃ (s : State) (c : Cmd) (m : Nat) (k : Nat) (len : Nat) (g0 : Nat), s.issued 0x14 c ∧ c.f 0x19 1 = 1 ∧ m = c.f 0x18 1 ∧ m < 2 ∧ len = c.f 0x20 8 ∧ (Run.start s).freeHandle = some k ∧ s.rd MAG_REC_STATUS_STATE = 0 ∧ s.rd (MAG_MAG_STATUS_READY m) ≠ 0 ∧ len ≠ 0 ∧ len % 4096 = 0 ∧ len ≤ (Run.start s).magFree m ∧ g0 = (Run.start s).nextStripe m ∧ s.geoOk)
    ∧ (∃ (s : State) (c : Cmd) (k : Nat) (h : Handle), s.issued 0x14 c ∧ 2 ≤ c.f 0x19 1 ∧ k = c.f 0x1A 1 ∧ s.u.qif.handles.find k = some h ∧ h.write = false)
    ∧ (∃ (s : State) (c : Cmd) (k : Nat) (h : Handle), s.issued 0x14 c ∧ 2 ≤ c.f 0x19 1 ∧ k = c.f 0x1A 1 ∧ s.u.qif.handles.find k = some h ∧ h.write = true ∧ h.blocks = [] ∧ 0 < h.len ∧ h.mag < 2 ∧ ((Run.start s).magz h.mag).geo ≠ [] ∧ 0 < (Run.start s).stripeBytes h.mag ∧ s.magQuiet ∧ s.geoOk)
    ∧ (∃ (s : State) (c : Cmd), s.issued 0x14 c)
    ∧ (∃ (s : State) (h : HostData) (c : Cmd) (x : Handle) (off : Nat) (len : Nat) (segs : List (Nat × Nat)), s.issued 0x15 c ∧ off = c.f 0x20 8 ∧ len = c.f 0x28 4 ∧ s.u.qif.handles.find (c.f 0x18 1) = some x ∧ off + len ≤ x.len ∧ x.write = true ∧ c.buffer h len = some segs ∧ h.ok = true)
    ∧ (∃ (s : State) (h : HostData) (c : Cmd) (x : Handle) (off : Nat) (len : Nat) (sb : Nat) (segs : List (Nat × Nat)), s.issued 0x15 c ∧ off = c.f 0x20 8 ∧ len = c.f 0x28 4 ∧ s.u.qif.handles.find (c.f 0x18 1) = some x ∧ off + len ≤ x.len ∧ x.write = false ∧ (Run.start s).writerOf x = none ∧ c.buffer h len = some segs ∧ h.ok = true ∧ sb = (Run.start s).stripeBytes x.mag ∧ 0 < sb ∧ 0 < len ∧ s.u.qif.jobs = [] ∧ s.geoOk)
    ∧ (∃ (s : State) (c : Cmd), s.issued 0x15 c)
    ∧ (∃ (s : State) (h : HostData) (c : Cmd) (x : Handle) (k : Nat) (off : Nat) (len : Nat) (gs : List Nat), s.issued 0x16 c ∧ k = c.f 0x18 1 ∧ off = c.f 0x20 8 ∧ len = c.f 0x28 4 ∧ s.u.qif.handles.find k = some x ∧ x.write = true ∧ off + len ≤ x.len ∧ (c.buffer h len).isSome = true ∧ h.ok = true ∧ gs = ((clipStripes ((Run.start s).stripeBytes x.mag) off len).map (· + x.startG)) ∧ ((((Run.start s).magz x.mag).stripes.all fun y => !(gs.contains y.1 && !y.2.dead)) = true) ∧ len ≤ 0x10000000 ∧ gs ≠ [] ∧ ((Run.start s).magz x.mag).geo ≠ [] ∧ s.magQuiet ∧ s.geoOk)
    ∧ (∃ (s : State) (h : HostData) (c : Cmd) (x : Handle) (off : Nat) (len : Nat), s.issued 0x16 c ∧ off = c.f 0x20 8 ∧ len = c.f 0x28 4 ∧ s.u.qif.handles.find (c.f 0x18 1) = some x ∧ x.write = true ∧ off + len ≤ x.len ∧ (c.buffer h len).isSome = true ∧ h.ok = true ∧ ((((Run.start s).magz x.mag).stripes.any fun y => ((clipStripes ((Run.start s).stripeBytes x.mag) off len).map (· + x.startG)).contains y.1 && !y.2.dead) = true ∨ 0x10000000 < (Run.start s).stagedBytes + len))
    ∧ (∃ (s : State) (c : Cmd), s.issued 0x16 c)
    ∧ (∃ (s : State) (c : Cmd), s.issued 0x17 c ∧ s.magQuiet)
    ∧ (∃ (s : State) (c : Cmd) (x : Staged), s.issued 0x17 c ∧ s.u.qif.staged = [x] ∧ x.fua = false ∧ (Run.start s).stagedBad x = false ∧ (Run.start s).stagedOpen x ≠ [] ∧ s.u.qif.jobs = [] ∧ s.u.qif.rebuild = none ∧ s.u.qif.closes = [] ∧ s.u.qif.flushes = [] ∧ ((∀ m < 2, ((Run.start s).magz m).opCmd = none ∧ ((Run.start s).magz m).follow = false))) :=
  ⟨⟨hs [] (withCmd State.reset (oc [])), oc [], 0, 0, 524288, cl, by decide +kernel⟩,
   ⟨hs [] (withCmd (rs [(MAG_MAG_STATUS_READY 0, 1)]) (oc [(0x19, 1, 1), (0x20, 4, 8192)])), oc [(0x19, 1, 1), (0x20, 4, 8192)], 0, 0, 8192, 0, by decide +kernel⟩,
   ⟨hs [(2, hr)] (withCmd State.reset (oc [(0x19, 1, 2), (0x1A, 1, 2)])), oc [(0x19, 1, 2), (0x1A, 1, 2)], 2, hr, by decide +kernel⟩,
   ⟨hs [(2, hw)] (withCmd State.reset (oc [(0x19, 1, 2), (0x1A, 1, 2)])), oc [(0x19, 1, 2), (0x1A, 1, 2)], 2, hw, by decide +kernel⟩,
   ⟨withCmd State.reset (oc [(0x1C, 1, 1)]), oc [(0x1C, 1, 1)], by decide +kernel⟩,
   ⟨hs [(2, hw)] (withCmd State.reset (cmdOf 0x15 [(0x18, 1, 2), (0x28, 2, 64)])), hd, cmdOf 0x15 [(0x18, 1, 2), (0x28, 2, 64)], hw, 0, 64, [(0, 64)], by decide +kernel⟩,
   ⟨hs [(2, hr)] (withCmd (rs [(LNK_STATUS_STATE 25, 4)]) (cmdOf 0x15 [(0x18, 1, 2), (0x28, 2, 64)])), hd, cmdOf 0x15 [(0x18, 1, 2), (0x28, 2, 64)], hr, 0, 64, 262144, [(0, 64)], by decide +kernel⟩,
   ⟨hs [] (withCmd State.reset (cmdOf 0x15 [(0x18, 1, 2), (0x28, 2, 64)])), cmdOf 0x15 [(0x18, 1, 2), (0x28, 2, 64)], by decide +kernel⟩,
   ⟨hs [(2, hw)] (withCmd State.reset (cmdOf 0x16 [(0x18, 1, 2), (0x28, 2, 4096)])), hd, cmdOf 0x16 [(0x18, 1, 2), (0x28, 2, 4096)], hw, 2, 0, 4096, [4], by decide +kernel⟩,
   ⟨(hs [(2, hw)] (withCmd State.reset (cmdOf 0x16 [(0x18, 1, 2), (0x28, 2, 4096)]))).modify fun u => { u with magu := { u.magu with mag := [(0, { geo := [gg], stripes := [(4, { left := [5] })] })] } }, hd, cmdOf 0x16 [(0x18, 1, 2), (0x28, 2, 4096)], hw, 0, 4096, by decide +kernel⟩,
   ⟨hs [(2, hr)] (withCmd State.reset (cmdOf 0x16 [(0x18, 1, 2)])), cmdOf 0x16 [(0x18, 1, 2)], by decide +kernel⟩,
   ⟨withCmd State.reset (cmdOf 0x17 []), cmdOf 0x17 [], by decide +kernel⟩,
   ⟨(withCmd State.reset (cmdOf 0x17 [])).modify fun u => { u with qif := { u.qif with staged := [⟨9, 4096, 0, [4], false⟩] }, magu := { u.magu with mag := [(0, { stripes := [(4, { left := [5] })] })] } }, cmdOf 0x17 [], ⟨9, 4096, 0, [4], false⟩, by decide +kernel⟩⟩

end Sys2Proof.Tests.W23

namespace Sys2Proof.Tests.W24

def gg : Geo := ⟨2, 1, 1, [5, 6]⟩
def cl : Clip := { id := 3, seg := 0, state := 3, startG := 4, endG := 6 }
def os (s : State) : State := s.modify fun u => { u with magu := { u.magu with mag := [(0, { geo := [gg], identified := true, valid := true, label := { clips := [cl] } })] } }
def hd : HostData := ⟨true, [], [1#8, 2#8]⟩
def of : Cmd := cmdOf 0x1A [(0x28, 2, 64)]
def rb (g : Nat) : State := (rs [(GLB_MODE_ROLE, 1), (MAG_RING_LOST_LOST 2, 2), (LNK_STATUS_STATE 25, 4), (MAG_DRV_STATUS_REMOVED 7, 1)]).modify fun u => { u with magu := { u.magu with drv := [(5, { cap := 1000 }), (7, { cap := 1000, ident := true })], mag := [(0, { geo := [gg], label := { nextG := g } })] } }
def fm (c : Cmd) : State := (withCmd (rs [(MAG_MAG_STATUS_PRESENT 0, 1), (LNK_STATUS_STATE 25, 4)]) c).modify fun u => { u with glb := { u.glb with cfg := [⟨6, 0x0A01, 0, overlay (List.replicate 32 0#8) 8 [0x10#8]⟩, ⟨6, 0x0A02, 1, overlay (List.replicate 64 0#8) 8 [1#8, 1#8, 0#8, 0#8, 0#8, 0#8, 0#8, 0#8, 4#8, 5#8]⟩] }, magu := { u.magu with drv := [(4, { ident := true })] } }
/-- States and operands that meet the hypotheses of OffloadRebuildFormat, clause by clause. -/
theorem test_witness_OffloadRebuildFormat :
    (∃ (s : State) (h : HostData) (c : Cmd) (m : Nat) (off : Nat) (len : Nat) (sb : Nat) (e : Clip) (segs : List (Nat × Nat)), s.issued 0x1A c ∧ m = c.f 0x18 1 ∧ off = c.f 0x20 8 ∧ len = c.f 0x28 4 ∧ sb = (Run.start s).stripeBytes m ∧ 0 < sb ∧ 0 < len ∧ ((Run.start s).magz m).op = 0 ∧ ((Run.start s).magz m).identified = true ∧ ((Run.start s).magz m).valid = true ∧ (Run.start s).clipEntry m (c.f 0x1C 2) = some e ∧ e.state = 3 ∧ c.f 0x19 1 = 0 ∧ c.f 0x1A 1 = 0 ∧ off + len ≤ (e.endG - e.startG) * sb ∧ c.buffer h len = some segs ∧ h.ok = true ∧ s.u.qif.jobs = [] ∧ (Run.start s).magK m ≤ s.givers m (e.startG + off / sb) ∧ s.geoOk)
    ∧ (∃ (s : State) (c : Cmd) (m : Nat), s.issued 0x1A c ∧ m = c.f 0x18 1 ∧ ((Run.start s).magz m).op = 0 ∧ (((Run.start s).magz m).identified = false ∨ ((Run.start s).magz m).valid = false))
    ∧ (∃ (s : State) (c : Cmd) (m : Nat), s.issued 0x1A c ∧ m = c.f 0x18 1 ∧ ((Run.start s).magz m).op = 0 ∧ ((Run.start s).magz m).identified = true ∧ ((Run.start s).magz m).valid = true ∧ (Run.start s).clipEntry m (c.f 0x1C 2) = none)
    ∧ (∃ (s : State) (c : Cmd), s.issued 0x1A c ∧ ((Run.start s).magz (c.f 0x18 1)).op ≠ 0)
    ∧ (∃ (s : State) (m : Fin 2) (ring : Fin 4) (slot : Fin 32) (d : Fin 64) (g : Geo) (i : Nat) (pos : Nat) (stop : Nat) (n : Nat), ((((Run.start s).magz m).geo.find? fun x => x.idx == ring.val) = some g) ∧ (Run.start s).reader = true ∧ s.u.qif.rebuild = none ∧ (Run.start s).slotLost ring slot = true ∧ ((Run.start s).drv d).ident = true ∧ (Run.start s).ringStripes g * 64 + 256 ≤ ((Run.start s).drv d).cap ∧ n = ((Run.start s).magz m).geo.length ∧ (i = (lowest (fun i => match ((Run.start s).magz m).geo[i]? with | some x => x.idx == ring.val | none => false) n).getD 0) ∧ (pos = (let l := ((Run.start s).magz m).label; if l.rebRing = ring.val ∧ l.rebSlot = slot.val then l.rebPos else 0)) ∧ stop = ringFrom n i ((Run.start s).magz m).label.nextG ∧ stop ≤ pos ∧ s.geoOk ∧ s.rd (MAG_RING_LOST_LOST ring) < 2 ^ 32)
    ∧ (∃ (s : State) (m : Fin 2) (ring : Fin 4) (slot : Fin 32) (d : Fin 64) (g : Geo), ((((Run.start s).magz m).geo.find? fun x => x.idx == ring.val) = some g) ∧ ((Run.start s).reader = false ∨ s.u.qif.rebuild ≠ none ∨ (Run.start s).slotLost ring slot = false ∨ ((Run.start s).drv d).ident = false ∨ ((Run.start s).drv d).cap < (Run.start s).ringStripes g * 64 + 256))
    ∧ (∃ (s : State) (m : Fin 2) (ring : Fin 4) (slot : Fin 32) (d : Fin 64) (g : Geo), ((Run.start s).magz m).geo = [g] ∧ g.idx = ring.val ∧ (Run.start s).reader = true ∧ s.u.qif.rebuild = none ∧ s.u.qif.jobs = [] ∧ (Run.start s).slotLost ring slot = true ∧ ((Run.start s).drv d).ident = true ∧ (Run.start s).ringStripes g * 64 + 256 ≤ ((Run.start s).drv d).cap ∧ ((Run.start s).magz m).label.rebRing ≠ ring.val ∧ 0 < ((Run.start s).magz m).label.nextG ∧ (Run.start s).hopLinked (d.val / 4) = true ∧ g.k ≤ s.givers m 0 ∧ 0 < g.k ∧ g.k + g.m ≤ 20 ∧ s.geoOk)
    ∧ (∃ (s : State) (c : Cmd) (m : Nat) (ds : List Nat), ((s.issued 0x0A c ∨ (s.issued 0x0B c ∧ c.f 0x19 1 ≠ 1 ∧ (Run.start s).cfgGeo m ≠ []))) ∧ m = c.f 0x18 1 ∧ m < 2 ∧ (ds = ((Run.start s).spanDrives m).filter (fun d => ((Run.start s).drv d).ident)) ∧ ds ≠ [] ∧ s.rd MAG_REC_STATUS_STATE = 0 ∧ ((∀ x ∈ s.u.qif.handles, x.2.mag ≠ m)) ∧ s.rd (MAG_MAG_STATUS_PRESENT m) ≠ 0 ∧ ((Run.start s).magz m).op = 0 ∧ s.magQuiet)
    ∧ (∃ (s : State) (c : Cmd) (m : Nat), s.issued 0x0B c ∧ c.f 0x19 1 = 1 ∧ m = c.f 0x18 1 ∧ m < 2 ∧ (Run.start s).cfgGeo m ≠ [] ∧ ((∀ d ∈ (Run.start s).spanDrives m, newestLabel (labelAt ((Run.start s).drv d).copy0) (labelAt ((Run.start s).drv d).copy1) = none)) ∧ s.rd MAG_REC_STATUS_STATE = 0 ∧ ((∀ x ∈ s.u.qif.handles, x.2.mag ≠ m)) ∧ s.rd (MAG_MAG_STATUS_PRESENT m) ≠ 0 ∧ s.magQuiet ∧ ((Run.start s).magz m).op = 0)
    ∧ (∃ (s : State) (c : Cmd) (m : Nat) (st : Nat), m = c.f 0x18 1 ∧ (((Run.start s).recording = true ∧ st = 10 ∨ (Run.start s).recording = false ∧ (s.u.qif.handles.any fun x => x.2.mag == m) = true ∧ st = 40 ∨ (Run.start s).recording = false ∧ (s.u.qif.handles.any fun x => x.2.mag == m) = false ∧ s.rd (MAG_MAG_STATUS_PRESENT m) = 0 ∧ st = 41 ∨ (Run.start s).recording = false ∧ (s.u.qif.handles.any fun x => x.2.mag == m) = false ∧ s.rd (MAG_MAG_STATUS_PRESENT m) ≠ 0 ∧ ((Run.start s).magz m).op ≠ 0 ∧ st = 47))) :=
  ⟨⟨os (withCmd (rs [(LNK_STATUS_STATE 25, 4)]) of), hd, of, 0, 0, 64, 262144, cl, [(0, 64)], by decide +kernel⟩,
   ⟨withCmd State.reset of, of, 0, by decide +kernel⟩,
   ⟨os (withCmd State.reset (cmdOf 0x1A [(0x1C, 1, 1)])), cmdOf 0x1A [(0x1C, 1, 1)], 0, by decide +kernel⟩,
   ⟨(withCmd State.reset of).modify fun u => { u with magu := { u.magu with mag := [(0, { op := 6 })] } }, of, by decide +kernel⟩,
   ⟨rb 0, 0, 2, 1, 7, gg, 0, 0, 0, 1, by decide +kernel⟩,
   ⟨(rb 0).wr GLB_MODE_ROLE 0, 0, 2, 1, 7, gg, by decide +kernel⟩,
   ⟨rb 9, 0, 2, 1, 7, gg, by decide +kernel⟩,
   ⟨fm (cmdOf 0x0A []), cmdOf 0x0A [], 0, [4], by decide +kernel⟩,
   ⟨fm (cmdOf 0x0B [(0x19, 1, 1)]), cmdOf 0x0B [(0x19, 1, 1)], 0, by decide +kernel⟩,
   ⟨withCmd (rs [(MAG_REC_STATUS_STATE, 1)]) (cmdOf 0x0B []), cmdOf 0x0B [], 0, 10, by decide +kernel⟩⟩

end Sys2Proof.Tests.W24

namespace Sys2Proof.Tests.W25

def busy (k n : Nat) : State := (rs [(GLB_I3C_STATUS_BUSY 3, 1)]).modify fun u => { u with glb := { u.glb with i3c := [(3, { kind := k, len := n })] } }
/-- States and operands that meet the hypotheses of GpioSmclkI3c, clause by clause. -/
theorem test_witness_GpioSmclkI3c :
    (∃ (s : State) (n : Fin 16) (level : Bool), bit (s.rd GLB_GPIO_IN_IN) n ≠ level ∧ (Run.start s).gpioDrive n = none ∧ bit (s.rd GLB_GPIO_EDGE_CFG_EDGE) (2 * n + b2n (!level)) = true ∧ s.rd GLB_GPIO_IN_IN < 2 ^ 16 ∧ s.rd GLB_GPIO_EDGE_EDGE < 2 ^ 16)
    ∧ (∃ (s : State) (n : Fin 16) (level : Bool), bit (s.rd GLB_GPIO_IN_IN) n ≠ level ∧ ((Run.start s).gpioDrive n ≠ none ∨ bit (s.rd GLB_GPIO_EDGE_CFG_EDGE) (2 * n + b2n (!level)) = false) ∧ s.rd GLB_GPIO_IN_IN < 2 ^ 16)
    ∧ (∃ (s : State) (n : Fin 16) (level : Bool), bit (s.rd GLB_GPIO_IN_IN) n = level)
    ∧ (∃ (v : Nat), 0x1E000 ≤ bits v 8 24 ∧ bits v 8 24 ≤ 0xBB8000)
    ∧ (∃ (v : Nat), (bits v 8 24 < 0x1E000 ∨ 0xBB8000 < bits v 8 24))
    ∧ (∃ (s : State) (b : Fin 4) (len : Nat), s.rd (GLB_I3C_CTL_EN b) ≠ 0 ∧ s.rd (GLB_I3C_STATUS_BUSY b) = 0 ∧ len ≤ 64)
    ∧ (∃ (s : State) (b : Fin 4) (len : Nat), (s.rd (GLB_I3C_CTL_EN b) = 0 ∨ s.rd (GLB_I3C_STATUS_BUSY b) ≠ 0 ∨ 64 < len))
    ∧ (∃ (s : State) (b : Fin 4) (data : List Byte) (l : List Byte), s.rd (GLB_I3C_STATUS_BUSY b) ≠ 0 ∧ l = data.take (s.u.glb.i3c.look b {}).most ∧ l.length ≤ 64)
    ∧ (∃ (s : State) (b : Fin 4), s.rd (GLB_I3C_STATUS_BUSY b) = 0)
    ∧ (∃ (s : State) (b : Fin 4) (data : List Byte) (l : List Byte), s.rd (GLB_I3C_STATUS_BUSY b) ≠ 0 ∧ 6 ≤ (s.u.glb.i3c.look b {}).kind ∧ l = data.take (s.u.glb.i3c.look b {}).most ∧ l.length ≤ 64)
    ∧ (∃ (s : State) (b : Fin 4), s.rd (GLB_I3C_CTL_EN b) ≠ 0 ∧ s.rd (GLB_I3C_IBI_VALID b) = 0)
    ∧ (∃ (s : State) (b : Fin 4), s.rd (GLB_I3C_CTL_EN b) ≠ 0) :=
  ⟨⟨rs [(GLB_GPIO_EDGE_CFG_EDGE, 1 * 2 ^ 30)], 15, true, by decide +kernel⟩,
   ⟨rs [], 15, true, by decide +kernel⟩,
   ⟨rs [], 0, false, by decide +kernel⟩,
   ⟨0x1E00001, by decide +kernel⟩,
   ⟨0x1DFFF01, by decide +kernel⟩,
   ⟨rs [(GLB_I3C_CTL_EN 3, 1)], 3, 64, by decide +kernel⟩,
   ⟨rs [], 3, 1, by decide +kernel⟩,
   ⟨busy 1 2, 3, [1#8, 2#8, 3#8], [1#8, 2#8], by decide +kernel⟩,
   ⟨rs [], 0, by decide +kernel⟩,
   ⟨busy 7 2, 3, [1#8], [1#8], by decide +kernel⟩,
   ⟨rs [(GLB_I3C_CTL_EN 3, 1), (GLB_I3C_CTL_HJ_EN 3, 1)], 3, by decide +kernel⟩,
   ⟨rs [(GLB_I3C_CTL_EN 3, 1), (GLB_I3C_IBI_VALID 3, 1)], 3, by decide +kernel⟩⟩

end Sys2Proof.Tests.W25

namespace Sys2Proof.Tests.W26

def ua (x : Uart) : State := (rs [(GLB_UART_CTL_EN 2, 1), (GLB_UART_THRESH_RX_IDLE 2, 3)]).modify fun u => { u with glb := { u.glb with uarts := [(2, x)] } }
def rg : State := (rs [(GLB_SMB_STATUS_PENDING, 5)]).modify fun u => { u with glb := { u.glb with railsGood := true } }
/-- States and operands that meet the hypotheses of UartAndSmbus, clause by clause. -/
theorem test_witness_UartAndSmbus :
    (∃ (s : State) (u : Fin 4) (x : Uart), x = s.u.glb.uarts.look u {} ∧ s.rd (GLB_UART_CTL_EN u) ≠ 0)
    ∧ (∃ (s : State) (u : Fin 4), s.rd (GLB_UART_CTL_EN u) = 0)
    ∧ (∃ (s : State) (u : Fin 4) (c : Nat) (x : Uart), x = s.u.glb.uarts.look u {} ∧ x.sending = some c)
    ∧ (∃ (s : State) (u : Fin 4), (s.u.glb.uarts.look u {}).sending = none)
    ∧ (∃ (s : State) (u : Fin 4) (x : Uart), x = s.u.glb.uarts.look u {} ∧ s.rd (GLB_UART_CTL_EN u) ≠ 0 ∧ x.rx.length ≠ 256)
    ∧ (∃ (s : State) (u : Fin 4), s.rd (GLB_UART_CTL_EN u) ≠ 0 ∧ (s.u.glb.uarts.look u {}).rx.length = 256)
    ∧ (∃ (s : State) (u : Fin 4) (x : Uart) (c : RxChar) (l : List RxChar), x = s.u.glb.uarts.look u {} ∧ x.rx = c :: l)
    ∧ (∃ (s : State) (u : Fin 4), (s.u.glb.uarts.look u {}).rx = [])
    ∧ (∃ (s : State) (u : Fin 4), (s.u.glb.uarts.look u {}).rx ≠ [] ∧ s.rd (GLB_UART_THRESH_RX_IDLE u) ≠ 0)
    ∧ (∃ (s : State), s.u.glb.railsGood = true)
    ∧ (∃ (s : State) (pec : Option Bool), s.u.glb.railsGood = true ∧ pec ≠ some false)
    ∧ (∃ (s : State), s.u.glb.railsGood = true)
    ∧ (∃ (s : State), s.u.glb.railsGood = true)
    ∧ (∃ (s : State), s.u.glb.railsGood = false) :=
  ⟨⟨ua { sending := some 3, tx := List.replicate 256 1 }, 2, { sending := some 3, tx := List.replicate 256 1 }, by decide +kernel⟩,
   ⟨rs [], 2, by decide +kernel⟩,
   ⟨ua { sending := some 65, tx := [66] }, 2, 65, { sending := some 65, tx := [66] }, by decide +kernel⟩,
   ⟨rs [], 2, by decide +kernel⟩,
   ⟨ua { rx := List.replicate 255 ⟨1, false, false⟩ }, 2, { rx := List.replicate 255 ⟨1, false, false⟩ }, by decide +kernel⟩,
   ⟨ua { rx := List.replicate 256 ⟨1, false, false⟩ }, 2, by decide +kernel⟩,
   ⟨ua { rx := [⟨1, true, false⟩] }, 2, { rx := [⟨1, true, false⟩] }, ⟨1, true, false⟩, [], by decide +kernel⟩,
   ⟨rs [], 2, by decide +kernel⟩,
   ⟨ua { rx := [⟨1, true, false⟩] }, 2, by decide +kernel⟩,
   ⟨rg, by decide +kernel⟩,
   ⟨rg, none, by decide +kernel⟩,
   ⟨rg, by decide +kernel⟩,
   ⟨rg, by decide +kernel⟩,
   ⟨rs [], by decide +kernel⟩⟩

end Sys2Proof.Tests.W26

namespace Sys2Proof.Tests.W27

def lu (n : Nat) (st : Nat) (l : LaneU) : State := (rs [(LNK_STATUS_STATE n, st)]).modify fun u => { u with lane := [(n, l)] }
def hdr (type pos : Nat) : List Nat := let h0 := type + pos * 4; let h := h0 + (if popcount 14 h0 % 2 = 0 then 0 else 2 ^ 13); List.replicate 32 0 ++ List.replicate 4 1 ++ ((List.range 14).flatMap fun i => if bit h i then [1, 0] else [0, 1])
/-- States and operands that meet the hypotheses of LaneTraining, clause by clause. -/
theorem test_witness_LaneTraining :
    (∃ (s : State) (n : Fin 48), s.rd (LNK_STATUS_STATE n) = 1)
    ∧ (∃ (s : State) (n : Fin 48), (s.rd (LNK_STATUS_STATE n) = 0 ∨ 5 ≤ s.rd (LNK_STATUS_STATE n)))
    ∧ (∃ (s : State) (n : Fin 48) (sym : List Nat) (sy : List Nat) (l : List Nat) (top : Nat) (i : Nat) (x : LaneU), s.rd (LNK_STATUS_STATE n) = 2 ∧ s.rd (LNK_ALIGN_COMMA_EN n) = 0 ∧ (top = (if (Run.start s).rxPam n then 3 else 1)) ∧ (sy = (if s.rd (LNK_CTL_RX_INV n) ≠ 0 then sym.map (top - ·) else sym)) ∧ x = s.laneOf n ∧ l = x.tail ++ sy ∧ i = (s.rd (LNK_ALIGN_BOUNDARY n) + 16384 - (x.count - x.tail.length) % 16384) % 16384 ∧ i + 64 ≤ l.length)
    ∧ (∃ (s : State) (n : Fin 48) (sym : List Nat) (sy : List Nat) (l : List Nat) (top : Nat) (i : Nat) (x : LaneU), s.rd (LNK_STATUS_STATE n) = 2 ∧ s.rd (LNK_ALIGN_COMMA_EN n) ≠ 0 ∧ s.rd (LNK_STATUS_TRAINED n) = 0 ∧ (top = (if (Run.start s).rxPam n then 3 else 1)) ∧ (sy = (if s.rd (LNK_CTL_RX_INV n) ≠ 0 then sym.map (top - ·) else sym)) ∧ x = s.laneOf n ∧ l = x.tail ++ sy ∧ commasAt top l 0 0 = [i] ∧ i + 64 ≤ l.length)
    ∧ (∃ (s : State) (n : Fin 48) (sym : List Nat) (sy : List Nat) (top : Nat) (h : ReachHeader) (l : LaneU) (bs : List Bool), n.val < 40 ∧ s.rd (LNK_STATUS_STATE n) = 4 ∧ (top = (if (Run.start s).rxPam n then 3 else 1)) ∧ (sy = (if s.rd (LNK_CTL_RX_INV n) ≠ 0 then sym.map (top - ·) else sym)) ∧ reachHeader top sy = some h ∧ h.type = 1 ∧ l = s.laneOf n ∧ h.pos = l.pos ∧ h.pos ≠ 15 ∧ l.type = 1 ∧ h.phase = (64 - l.acc.length) % 64 ∧ (Run.start s).payload n 1 sy = (bs, 0))
    ∧ (∃ (s : State) (n : Fin 48) (sym : List Nat) (sy : List Nat) (top : Nat) (l : LaneU) (bs : List Bool), s.rd (LNK_STATUS_STATE n) = 4 ∧ (top = (if (Run.start s).rxPam n then 3 else 1)) ∧ (sy = (if s.rd (LNK_CTL_RX_INV n) ≠ 0 then sym.map (top - ·) else sym)) ∧ (reachHeader top sy).isNone = true ∧ l = s.laneOf n ∧ l.type ≠ 1 ∧ l.misses < 3 ∧ (Run.start s).payload n l.type sy = (bs, 0))
    ∧ (∃ (s : State) (n : Fin 48) (sym : List Nat) (sy : List Nat) (top : Nat) (h : ReachHeader) (bs : List Bool), n.val < 24 ∧ (Run.start s).bundleOf n = none ∧ s.rd (LNK_STATUS_STATE n) = 3 ∧ (top = (if (Run.start s).rxPam n then 3 else 1)) ∧ (sy = (if s.rd (LNK_CTL_RX_INV n) ≠ 0 then sym.map (top - ·) else sym)) ∧ reachHeader top sy = some h ∧ h.type ≠ 2 ∧ (s.laneOf n).trained = true ∧ (Run.start s).payload n h.type sy = (bs, 0))
    ∧ (∃ (s : State) (n : Fin 48), s.rd (LNK_STATUS_STATE n) = 2 ∧ s.rd (LNK_ALIGN_COMMA_EN n) ≠ 0)
    ∧ (∃ (s : State) (n : Fin 48), (s.rd (LNK_STATUS_STATE n) = 3 ∨ s.rd (LNK_STATUS_STATE n) = 4) ∧ s.unowned n)
    ∧ (∃ (s : State) (n : Fin 48), s.rd (LNK_STATUS_STATE n) = 2 ∧ s.rd (LNK_STATUS_TRAINED n) ≠ 0)
    ∧ (∃ (s : State) (n : Fin 48) (msg : Nat) (seq : Nat) (l : LaneU), s.rd (LNK_STATUS_STATE n) = 3 ∧ crc8 (le 7 msg) = bits msg 56 8 ∧ seq = bits msg 16 8 ∧ l = s.laneOf n ∧ (l.waiting = true → bits msg 24 8 ≠ l.seq))
    ∧ (∃ (s : State) (n : Fin 48) (msg : Nat) (l : LaneU), s.rd (LNK_STATUS_STATE n) = 3 ∧ crc8 (le 7 msg) = bits msg 56 8 ∧ l = s.laneOf n ∧ l.acted = some (bits msg 16 8) ∧ l.waiting = true ∧ bits msg 24 8 = l.seq)
    ∧ (∃ (msg : Nat), crc8 (le 7 msg) ≠ bits msg 56 8)
    ∧ (∃ (s : State) (n : Fin 48), s.rd (LNK_STATUS_STATE n) = 3 ∧ (s.laneOf n).waiting = true ∧ s.rd (LNK_TRAIN_ECHO_FAILS n) < 255)
    ∧ (∃ (s : State) (n : Fin 48), 1 ≤ s.rd (LNK_STATUS_STATE n) ∧ s.rd (LNK_STATUS_STATE n) ≤ 3 ∧ s.rd (LNK_STATUS_TRAINED n) = 0) :=
  ⟨⟨lu 5 1 {}, 5, by decide +kernel⟩,
   ⟨(lu 5 6 {}).wr (LNK_LOOP_LOOP 5) 3, 5, by decide +kernel⟩,
   ⟨(lu 5 2 {}).wr (LNK_ALIGN_COMMA_EN 5) 0, 5, hdr 1 0, hdr 1 0, hdr 1 0, 1, 0, {}, by decide +kernel⟩,
   ⟨(lu 5 2 { commas := 3, comma := 4, count := 16388 }).wr (LNK_ALIGN_COMMA_EN 5) 1, 5, hdr 1 0, hdr 1 0, hdr 1 0, 1, 0, { commas := 3, comma := 4, count := 16388 }, by decide +kernel⟩,
   ⟨lu 5 4 { type := 1, pos := 3 }, 5, hdr 1 3, hdr 1 3, 1, ⟨1, 3, 0, false⟩, { type := 1, pos := 3 }, [], by and_intros <;> first | decide +kernel | rfl⟩,
   ⟨lu 5 4 { misses := 2 }, 5, [], [], 1, { misses := 2 }, [], by decide +kernel⟩,
   ⟨lu 5 3 { trained := true }, 5, hdr 0 0, hdr 0 0, 1, ⟨0, 0, 0, false⟩, [], by and_intros <;> first | decide +kernel | rfl⟩,
   ⟨lu 41 2 {}, 41, by decide +kernel⟩,
   ⟨lu 41 4 {}, 41, by decide +kernel⟩,
   ⟨(lu 41 2 {}).wr (LNK_STATUS_TRAINED 41) 1, 41, by decide +kernel⟩,
   ⟨lu 30 3 {}, 30, trainMsg 0x40 0 false 7 0 0, 7, {}, by decide +kernel⟩,
   ⟨lu 30 3 { acted := some 7, waiting := true }, 30, trainMsg 0x40 0 false 7 0 0, { acted := some 7, waiting := true }, by decide +kernel⟩,
   ⟨1, by decide +kernel⟩,
   ⟨(lu 4 3 { waiting := true }).wr (LNK_TRAIN_ECHO_FAILS 4) 3, 4, by decide +kernel⟩,
   ⟨lu 4 3 {}, 4, by decide +kernel⟩⟩

end Sys2Proof.Tests.W27

namespace Sys2Proof.Tests.W28

def lu (n : Nat) (st : Nat) (l : LaneU) : State := (rs [(LNK_STATUS_STATE n, st), (LNK_ALIGN_COMMA_EN n, 0)]).modify fun u => { u with lane := [(n, l)] }
def fg (n : Nat) (st : Nat) (l : LaneU) : State := (lu n st l).modify fun u => { u with glb := { u.glb with cfg := [⟨3, 0x0703, 1, overlay (List.replicate 32 0#8) 9 [0x0F#8]⟩, ⟨3, 0x0A02, 0, overlay (List.replicate 64 0#8) 8 [1#8, 0#8, 0#8, 0#8, 0#8, 0#8, 0#8, 0#8, 4#8]⟩] } }
/-- States and operands that meet the hypotheses of LaneSoftware, clause by clause. -/
theorem test_witness_LaneSoftware :
    (∃ (s : State) (n : Fin 48), s.rd (LNK_ALIGN_SLIP_BUSY n) = 0 ∧ s.rd (LNK_STATUS_STATE n) = 2 ∧ s.rd (LNK_ALIGN_COMMA_EN n) = 0)
    ∧ (∃ (s : State) (n : Fin 48), s.rd (LNK_ALIGN_SLIP_BUSY n) ≠ 0)
    ∧ (∃ (s : State) (n : Fin 48), s.rd (LNK_ALIGN_HDR_OK n) ≠ 0 ∧ s.rd (LNK_STATUS_STATE n) = 2 ∧ s.rd (LNK_ALIGN_COMMA_EN n) = 0)
    ∧ (∃ (s : State) (n : Fin 48) (v : Nat), v % 4 ≠ 0 ∧ (Run.start s).testable n = true ∧ (v % 4 = 3 → 24 ≤ n.val ∧ n.val < 40))
    ∧ (∃ (s : State) (n : Fin 48) (v : Nat), v % 4 ≠ 0 ∧ ((Run.start s).testable n = false ∨ (v % 4 = 3 ∧ (n.val < 24 ∨ 40 ≤ n.val))))
    ∧ (∃ (s : State) (n : Fin 48) (v : Nat), v % 4 = 0 ∧ s.rd (LNK_STATUS_STATE n) = 6 ∧ s.rd (LNK_PRBS_CTL_GEN_SEL n) = 0 ∧ s.rd (LNK_PRBS_CTL_CHK_SEL n) = 0 ∧ (Run.start s).laneFree n = false)
    ∧ (∃ (s : State) (n : Fin 48) (v : Nat), bits v 0 3 ≤ 4 ∧ bits v 4 3 ≤ 4 ∧ (bits v 0 3 ≠ 0 ∨ bits v 4 3 ≠ 0) ∧ (Run.start s).testable n = true ∧ (s.rd (LNK_PRBS_CTL_GEN_SEL n), s.rd (LNK_PRBS_CTL_CHK_SEL n)) ≠ (bits v 0 3, bits v 4 3))
    ∧ (∃ (s : State) (n : Fin 48) (v : Nat), (4 < bits v 0 3 ∨ 4 < bits v 4 3 ∨ ((bits v 0 3 ≠ 0 ∨ bits v 4 3 ≠ 0) ∧ (Run.start s).testable n = false)))
    ∧ (∃ (s : State) (n : Fin 48) (k : Nat), k = s.rd (LNK_STATUS_STATE n) ∧ (k = 2 ∨ k = 3 ∨ k = 4 ∨ k = 6) ∧ (s.laneOf n).eye = false ∧ s.rd (LNK_EYE_CTL_VOFF n) ≠ 0x80)
    ∧ (∃ (s : State) (n : Fin 48), (s.rd (LNK_STATUS_STATE n) < 2 ∨ s.rd (LNK_STATUS_STATE n) = 5 ∨ 7 ≤ s.rd (LNK_STATUS_STATE n) ∨ (s.laneOf n).eye = true ∨ s.rd (LNK_EYE_CTL_VOFF n) = 0x80))
    ∧ (∃ (s : State) (n : Fin 48), (s.laneOf n).eye = true ∧ ((∀ w, s.u.mon.sweep = some w → w.lane ≠ n.val)))
    ∧ (∃ (s : State) (n : Fin 48), (s.laneOf n).eye = false)
    ∧ (∃ (s : State) (n : Fin 48) (want : Bool) (sel : Nat), sel = s.rd (LNK_PRBS_CTL_CHK_SEL n) ∧ sel ≠ 0 ∧ s.rd (LNK_STATUS_STATE n) = 6 ∧ s.rd (LNK_PRBS_CTL_CHK_LOCK n) ≠ 0 ∧ want = (prbsNext sel (s.laneOf n).prbs != (s.rd (LNK_PRBS_CTL_CHK_INV n) != 0)))
    ∧ (∃ (s : State) (n : Fin 48) (b : Bool) (sel : Nat), sel = s.rd (LNK_PRBS_CTL_CHK_SEL n) ∧ sel ≠ 0 ∧ s.rd (LNK_STATUS_STATE n) = 6 ∧ s.rd (LNK_PRBS_CTL_CHK_LOCK n) = 0 ∧ (s.laneOf n).prbs.length = (prbsTaps sel).1 ∧ (s.laneOf n).good = 63 ∧ b = (prbsNext sel (s.laneOf n).prbs != (s.rd (LNK_PRBS_CTL_CHK_INV n) != 0)))
    ∧ (∃ (s : State) (n : Fin 48), (s.rd (LNK_STATUS_STATE n) ≠ 6 ∨ s.rd (LNK_PRBS_CTL_CHK_SEL n) = 0))
    ∧ (∃ (s : State) (n : Fin 48), 1 ≤ s.rd (LNK_STATUS_STATE n) ∧ s.rd (LNK_STATUS_STATE n) ≤ 5 ∧ s.rd MAG_REC_STATUS_STATE = 0 ∧ s.unowned n)
    ∧ (∃ (s : State) (n : Fin 48), 1 ≤ s.rd (LNK_STATUS_STATE n) ∧ (Run.start s).recording = true ∧ (Run.start s).ringLane n = true)
    ∧ (∃ (s : State) (n : Fin 48), (s.laneOf n).checking = true ∧ s.rd (LNK_STATUS_STATE n) = 6 ∧ (Run.start s).laneFree n = false ∧ s.rd (LNK_PRBS_CTL_CHK_LOCK n) ≠ 0 ∧ s.rd (LNK_PRBS_ERR_ERRORS n) = 0)
    ∧ (∃ (s : State) (n : Fin 48), (s.laneOf n).checking = true ∧ s.rd (LNK_STATUS_STATE n) = 6 ∧ (Run.start s).laneFree n = false ∧ (s.rd (LNK_PRBS_CTL_CHK_LOCK n) = 0 ∨ s.rd (LNK_PRBS_ERR_ERRORS n) ≠ 0) ∧ s.rd EVT_COFFERDAM_LANES < 2 ^ 48)
    ∧ (∃ (s : State) (n : Fin 48), (s.laneOf n).checking = false)
    ∧ (∃ (s : State) (j : Fin 8) (n : Nat), n = 40 + j.val ∧ s.rd (LNK_STATUS_STATE n) = 5 ∧ (Run.start s).groupOf n ≠ none)
    ∧ (∃ (s : State) (j : Fin 8), (s.rd (LNK_STATUS_STATE (40 + j.val)) ≠ 5 ∨ (Run.start s).groupOf (40 + j.val) = none)) :=
  ⟨⟨lu 5 2 {}, 5, by decide +kernel⟩,
   ⟨(lu 5 2 {}).wr (LNK_ALIGN_SLIP_BUSY 5) 1, 5, by decide +kernel⟩,
   ⟨(lu 5 2 {}).wr (LNK_ALIGN_HDR_OK 5) 1, 5, by decide +kernel⟩,
   ⟨lu 30 5 {}, 30, 3, by decide +kernel⟩,
   ⟨lu 5 5 {}, 5, 3, by decide +kernel⟩,
   ⟨lu 5 6 { back := 7 }, 5, 0, by decide +kernel⟩,
   ⟨lu 5 5 {}, 5, 0x244, by decide +kernel⟩,
   ⟨lu 5 4 {}, 5, 0x44, by decide +kernel⟩,
   ⟨lu 5 6 {}, 5, 6, by decide +kernel⟩,
   ⟨lu 5 1 {}, 5, by decide +kernel⟩,
   ⟨lu 5 6 { eye := true }, 5, by decide +kernel⟩,
   ⟨lu 5 6 {}, 5, by decide +kernel⟩,
   ⟨(lu 5 6 { winErr := 256 }).wr (LNK_PRBS_CTL_CHK_SEL 5) 4 |>.wr (LNK_PRBS_CTL_CHK_LOCK 5) 1, 5, false, 4, by decide +kernel⟩,
   ⟨(lu 5 6 { prbs := List.replicate 7 false, good := 63 }).wr (LNK_PRBS_CTL_CHK_SEL 5) 1, 5, false, 1, by decide +kernel⟩,
   ⟨lu 5 5 {}, 5, by decide +kernel⟩,
   ⟨(lu 5 5 {}).wr (LNK_STATUS_RX_LOCK 5) 1, 5, by decide +kernel⟩,
   ⟨(fg 25 4 {}).wr MAG_REC_STATUS_STATE 1, 25, by decide +kernel⟩,
   ⟨(fg 41 6 { checking := true }).wr (LNK_PRBS_CTL_CHK_LOCK 41) 1, 41, by decide +kernel⟩,
   ⟨fg 41 6 { checking := true }, 41, by decide +kernel⟩,
   ⟨lu 5 6 {}, 5, by decide +kernel⟩,
   ⟨fg 42 5 {}, 2, 42, by decide +kernel⟩,
   ⟨lu 47 5 {}, 7, by decide +kernel⟩⟩

end Sys2Proof.Tests.W28

namespace Sys2Proof.Tests.W29

def vsRec (v b c w h e : Nat) : CfgRec := ⟨4, 0x0402, v, overlay (List.replicate 40 0#8) 0 (le 8 0 ++ le 1 b ++ le 1 c ++ le 1 2 ++ le 1 0 ++ le 2 w ++ le 2 h ++ List.replicate 8 0#8 ++ le 2 e)⟩
def ik (st : Nat) (x : BndU) (y : VsU) (fs : List IFrame) : State := (rs [(ITK_BND_STATUS_STATE 1, st), (ITK_BND_SEQ_EXP_SEQ 1, 7), (ITK_BND_STATUS_NAK_COUNT 1, 3), (ITK_VS_LAST_FN 2, 9), (LNK_STATUS_STATE 25, 4)]).modify fun u => { u with itk := { bnd := [(1, x)], vs := [(2, y)], sn := 5 }, frames := fs, glb := { u.glb with cfg := [vsRec 2 1 3 64 2 4] } }
def fr0 : IFrame := { sn := 4, vs := 2, ctx := 3, fn := 9, w := 64, h := 2, embMax := 4 }
/-- States and operands that meet the hypotheses of IntakePackets, clause by clause. -/
theorem test_witness_IntakePackets :
    (∃ (s : State) (b : Fin 8) (v : Fin 16) (seq : Nat) (c : Nat) (fn : Nat) (last : Nat), s.takes b seq ∧ s.binds b v c ∧ s.plain c ∧ s.u.itk.stop = false ∧ (Run.start s).openFrame v = none ∧ (s.u.itk.vs.look v {}).queue = [] ∧ (s.u.itk.vs.look v {}).pend = [] ∧ last = s.rd (ITK_VS_LAST_FN v) ∧ ((s.u.itk.vs.look v {}).first = true ∨ laterThan 32 (fn % 2 ^ 32) last = true))
    ∧ (∃ (s : State) (b : Fin 8) (v : Fin 16) (seq : Nat) (c : Nat) (fn : Nat) (last : Nat), s.takes b seq ∧ s.binds b v c ∧ s.u.itk.stop = false ∧ (Run.start s).openFrame v = none ∧ last = s.rd (ITK_VS_LAST_FN v) ∧ (s.u.itk.vs.look v {}).first = false ∧ laterThan 32 (fn % 2 ^ 32) last = false ∧ (s.u.itk.vs.look v {}).queue = [] ∧ (s.u.itk.vs.look v {}).pend = [])
    ∧ (∃ (s : State) (b : Fin 8) (v : Fin 16) (seq : Nat) (c : Nat) (last : Nat) (f : IFrame), s.takes b seq ∧ s.binds b v c ∧ s.plain c ∧ s.u.itk.stop = false ∧ s.openIs v c f ∧ f.exts = [] ∧ last = s.rd (ITK_VS_LAST_FN v) ∧ (s.u.itk.vs.look v {}).first = true ∧ (s.u.itk.vs.look v {}).queue = [] ∧ (s.u.itk.vs.look v {}).pend = [])
    ∧ (∃ (s : State) (b : Fin 8) (v : Fin 16) (seq : Nat) (c : Nat) (y : Nat) (x : Nat) (n : Nat) (l : List Nat) (f : IFrame), s.takes b seq ∧ s.binds b v c ∧ s.plain c ∧ s.openIs v c f ∧ f.exts = [] ∧ n = l.length ∧ y = f.nextY ∧ x = f.nextX ∧ y < f.h ∧ lpLen n ∧ x + n ≤ f.w)
    ∧ (∃ (s : State) (b : Fin 8) (v : Fin 16) (seq : Nat) (c : Nat) (y : Nat) (x : Nat) (n : Nat) (a : Nat) (r : Nat) (at_ : Nat) (base : Nat) (l : List Nat) (f : IFrame), s.takes b seq ∧ s.binds b v c ∧ s.plain c ∧ s.openIs v c f ∧ f.exts = [(a, r)] ∧ n = l.length ∧ y = f.nextY ∧ x = f.nextX ∧ y < f.h ∧ lpLen n ∧ x + n ≤ f.w ∧ (Run.start s).retiredCount < 2 ∧ at_ = f.rawOff + (y * f.w + x) * 9 / 4 ∧ at_ + n * 9 / 4 ≤ 3840 * r ∧ base = (Run.start s).recBase ∧ s.rd MEM_CFG_RETIRED = 0 ∧ s.u.mem.poison = [])
    ∧ (∃ (s : State) (b : Fin 8) (v : Fin 16) (seq : Nat) (c : Nat) (y : Nat) (x : Nat) (n : Nat) (l : List Nat) (f : IFrame), s.takes b seq ∧ s.binds b v c ∧ s.plain c ∧ s.openIs v c f ∧ f.exts = [] ∧ n = l.length ∧ lpLen n ∧ (y ≠ f.nextY ∨ f.h ≤ y ∨ x ≠ f.nextX ∨ f.w < x + n))
    ∧ (∃ (s : State) (b : Fin 8) (v : Fin 16) (seq : Nat) (c : Nat) (fn : Nat) (off : Nat) (words : Nat) (keep : Nat) (data : List Byte) (f : IFrame), s.takes b seq ∧ s.binds b v c ∧ s.plain c ∧ s.openIs v c f ∧ f.exts = [] ∧ fn = f.fn ∧ embLen data.length ∧ words = (data.length + 7) / 8 ∧ keep = min words (f.embMax - off))
    ∧ (∃ (s : State) (b : Fin 8) (v : Fin 16) (seq : Nat) (c : Nat) (fn : Nat) (lines : Nat) (f : IFrame), s.takes b seq ∧ s.binds b v c ∧ s.plain c ∧ s.openIs v c f ∧ f.exts = [] ∧ fn = f.fn ∧ f.h ≤ lines ∧ f.h ≤ f.nextY)
    ∧ (∃ (s : State) (b : Fin 8) (v : Fin 16) (seq : Nat) (c : Nat) (fn : Nat) (lines : Nat) (f : IFrame), s.takes b seq ∧ s.binds b v c ∧ s.plain c ∧ s.openIs v c f ∧ f.exts = [] ∧ (fn ≠ f.fn ∨ lines < f.h ∨ f.nextY < f.h))
    ∧ (∃ (s : State) (b : Fin 8) (v : Fin 16) (seq : Nat) (c : Nat) (fn : Nat) (l : List Nat) (data : List Byte), s.takes b seq ∧ s.binds b v c ∧ (Run.start s).hasCfg 0x0704 0 = false ∧ ((∀ f, (Run.start s).openFrame v = some f → fn ≠ f.fn)) ∧ lpLen l.length ∧ embLen data.length)
    ∧ (∃ (s : State) (b : Fin 8) (v : Fin 16) (seq : Nat) (c : Nat), s.takes b seq ∧ s.binds b v c)
    ∧ (∃ (s : State) (b : Fin 8) (v : Fin 16) (seq : Nat) (l : List Nat) (data : List Byte), s.takes b seq ∧ ((Run.start s).hasCfg 0x0402 v = false ∨ (Run.start s).vsN v 8 1 ≠ b) ∧ lpLen l.length ∧ embLen data.length)
    ∧ (∃ (s : State) (b : Fin 8) (seq : Nat), s.takes b seq)
    ∧ (∃ (s : State) (b : Fin 8) (seq : Nat) (q : Nat) (want : Nat) (l : List Nat) (data : List Byte), (Run.start s).bndHears b = true ∧ (Run.start s).hasCfg 0x0704 0 = false ∧ want = s.rd (ITK_BND_SEQ_EXP_SEQ b) ∧ q = seq % 2 ^ 24 ∧ q ≠ want ∧ (laterThan 24 q want = true ∨ subMod 24 q want = 2 ^ 23) ∧ s.rd (ITK_BND_STATUS_NAK_COUNT b) < 4 ∧ lpLen l.length ∧ embLen data.length)
    ∧ (∃ (s : State) (b : Fin 8) (seq : Nat) (q : Nat) (want : Nat) (l : List Nat) (data : List Byte), (Run.start s).hasCfg 0x0704 0 = false ∧ want = s.rd (ITK_BND_SEQ_EXP_SEQ b) ∧ q = seq % 2 ^ 24 ∧ ((Run.start s).bndHears b = false ∨ (q ≠ want ∧ laterThan 24 q want = false ∧ subMod 24 q want ≠ 2 ^ 23)) ∧ lpLen l.length ∧ embLen data.length)
    ∧ (∃ (s : State) (b : Fin 8) (l : List Nat) (data : List Byte), (Run.start s).bndHears b = true ∧ ¬ lpLen l.length ∧ ¬ embLen data.length ∧ s.rd (ITK_BND_STATUS_NAK_COUNT b) < 4)
    ∧ (∃ (s : State) (b : Fin 8), (Run.start s).bndHears b = true)
    ∧ (∃ (s : State) (l : Fin 16), (Run.start s).hopHears l = false)
    ∧ (∃ (s : State) (l : Fin 16) (h : HopU), h = s.u.magu.hop.look l {} ∧ (Run.start s).hopHears l = true)
    ∧ (∃ (s : State) (b : Fin 8) (x : BndU), (Run.start s).bndHears b = true ∧ x = s.u.itk.bnd.look b {})
    ∧ (∃ (s : State) (l : Fin 16) (h : HopU), (Run.start s).hopHears l = true ∧ h = s.u.magu.hop.look l {} ∧ h.queue = [])
    ∧ (∃ (s : State) (b : Fin 8) (seq : Nat) (n : Nat) (x : BndU) (p : RetPkt), (Run.start s).bndHears b = true ∧ x = s.u.itk.bnd.look b {} ∧ x.kept = [(seq, p)] ∧ seq < 2 ^ 24 ∧ p.type ≠ 0x13 ∧ (n = (if x.nakSeq = seq then x.nakN + 1 else 1)) ∧ n < 4)
    ∧ (∃ (s : State) (b : Fin 8) (v : Fin 16) (c : Nat) (seq : Nat) (r : Nat) (x : BndU) (m : RetPkt), (Run.start s).bndHears b = true ∧ x = s.u.itk.bnd.look b {} ∧ x.nakSeq = seq ∧ 3 ≤ x.nakN ∧ seq < 2 ^ 24 ∧ s.binds b v c ∧ r = s.rd (ITK_BND_RSEQ_NEXT_RSEQ b) ∧ m = (Run.start s).mapPkt b 1)
    ∧ (∃ (s : State) (l : Fin 16) (seq : Nat) (h : HopU) (p : HopPkt), (Run.start s).hopHears l = true ∧ h = s.u.magu.hop.look l {} ∧ h.stopped = false ∧ h.kept = [(seq, p)])
    ∧ (∃ (s : State) (b : Fin 8) (x : BndU) (st : Nat), x = s.u.itk.bnd.look b {} ∧ st = s.rd (ITK_BND_STATUS_STATE b) ∧ x.wait = [])
    ∧ (∃ (s : State) (b : Fin 8), (s.u.itk.bnd.look b {}).wait ≠ []) :=
  ⟨⟨ik 4 {} { first := true } [], 1, 2, 7, 3, 12, 9, by decide +kernel⟩,
   ⟨ik 4 {} {} [], 1, 2, 7, 3, 9, 9, by decide +kernel⟩,
   ⟨ik 3 {} { first := true, open_ := some 4 } [fr0], 1, 2, 7, 3, 9, fr0, by decide +kernel⟩,
   ⟨ik 3 {} { open_ := some 4 } [{ fr0 with nextX := 32 }], 1, 2, 7, 3, 0, 32, 32, List.replicate 32 5, { fr0 with nextX := 32 }, by decide +kernel⟩,
   ⟨(ik 3 {} { open_ := some 4 } [{ fr0 with exts := [(6, 1)] }]).modify (fun u => { u with glb := { u.glb with cfg := u.glb.cfg ++ [⟨6, 0x0A01, 0, List.replicate 32 0#8⟩] } }), 1, 2, 7, 3, 0, 0, 64, 6, 1, 32, 0, (List.range 64).map (· * 99), { fr0 with exts := [(6, 1)] }, by decide +kernel⟩,
   ⟨ik 3 {} { open_ := some 4 } [fr0], 1, 2, 7, 3, 0, 32, 32, List.replicate 32 5, fr0, by decide +kernel⟩,
   ⟨ik 3 {} { open_ := some 4 } [fr0], 1, 2, 7, 3, 9, 2, 3, 2, List.replicate 20 7#8, fr0, by decide +kernel⟩,
   ⟨ik 3 {} { open_ := some 4 } [{ fr0 with nextY := 2 }], 1, 2, 7, 3, 9, 2, { fr0 with nextY := 2 }, by decide +kernel⟩,
   ⟨ik 3 {} { open_ := some 4 } [{ fr0 with nextY := 2 }], 1, 2, 7, 3, 9, 1, { fr0 with nextY := 2 }, by decide +kernel⟩,
   ⟨ik 3 {} {} [fr0], 1, 2, 7, 3, 9, List.replicate 32 5, List.replicate 20 7#8, by decide +kernel⟩,
   ⟨ik 3 {} {} [fr0], 1, 2, 7, 3, by decide +kernel⟩,
   ⟨ik 3 {} {} [fr0], 1, 9, 7, List.replicate 32 5, [1#8], by decide +kernel⟩,
   ⟨ik 3 {} {} [fr0], 1, 7, by decide +kernel⟩,
   ⟨ik 3 {} {} [fr0], 1, 8, 8, 7, List.replicate 32 5, [1#8], by decide +kernel⟩,
   ⟨ik 3 {} {} [fr0], 1, 6, 6, 7, List.replicate 32 5, [1#8], by decide +kernel⟩,
   ⟨ik 3 {} {} [fr0], 1, List.replicate 33 5, [], by decide +kernel⟩,
   ⟨ik 3 {} {} [fr0], 1, by decide +kernel⟩,
   ⟨ik 3 {} {} [fr0], 2, by decide +kernel⟩,
   ⟨ik 3 {} {} [fr0], 1, {}, by decide +kernel⟩,
   ⟨ik 3 { kept := [(3, ⟨0x12, 2, 0, []⟩), (4, ⟨0x12, 2, 0, []⟩)] } {} [fr0], 1, { kept := [(3, ⟨0x12, 2, 0, []⟩), (4, ⟨0x12, 2, 0, []⟩)] }, by decide +kernel⟩,
   ⟨(ik 3 {} {} []).modify (fun u => { u with magu := { u.magu with hop := [(1, { kept := [(3, ⟨0x12, 2, []⟩), (4, ⟨0x12, 2, []⟩)] })] } }), 1, { kept := [(3, ⟨0x12, 2, []⟩), (4, ⟨0x12, 2, []⟩)] }, by decide +kernel⟩,
   ⟨ik 3 { kept := [(3, ⟨0x12, 2, 0, []⟩)] } {} [fr0], 1, 3, 1, { kept := [(3, ⟨0x12, 2, 0, []⟩)] }, ⟨0x12, 2, 0, []⟩, by decide +kernel⟩,
   ⟨ik 3 { kept := [(3, ⟨0x12, 2, 0, []⟩)], nakSeq := 3, nakN := 3 } {} [fr0], 1, 2, 3, 3, 0, { kept := [(3, ⟨0x12, 2, 0, []⟩)], nakSeq := 3, nakN := 3 }, ⟨0x14, 0, 1, List.replicate 12 255#8 ++ le 4 0⟩, by decide +kernel⟩,
   ⟨(ik 3 {} {} []).modify (fun u => { u with magu := { u.magu with hop := [(1, { kept := [(3, ⟨0x12, 2, []⟩)] })] } }), 1, 3, { kept := [(3, ⟨0x12, 2, []⟩)] }, ⟨0x12, 2, []⟩, by decide +kernel⟩,
   ⟨ik 4 { discard := true, restart := true } {} [fr0], 1, { discard := true, restart := true }, 4, by decide +kernel⟩,
   ⟨ik 4 { wait := [(3, 4)] } {} [fr0], 1, by decide +kernel⟩⟩

end Sys2Proof.Tests.W29

namespace Sys2Proof.Tests.W30

def vsRec (v b c w h e : Nat) : CfgRec := ⟨4, 0x0402, v, overlay (List.replicate 40 0#8) 0 (le 8 0 ++ le 1 b ++ le 1 c ++ le 1 2 ++ le 1 0 ++ le 2 w ++ le 2 h ++ List.replicate 8 0#8 ++ le 2 e)⟩
def bnRec (b : Nat) (own sp : List Nat) (p : Nat) : CfgRec := ⟨4, 0x0401, b, overlay (overlay (overlay (List.replicate 64 0#8) 0 (le 8 0 ++ le 1 own.length ++ le 1 sp.length ++ le 2 p)) 0xC (own.flatMap (le 1))) 0x18 (sp.flatMap (le 1))⟩
def ik (st nak : Nat) (x : BndU) (y : VsU) (fs : List IFrame) : State := (rs [(ITK_BND_STATUS_STATE 1, st), (ITK_BND_SEQ_EXP_SEQ 1, 7), (ITK_BND_STATUS_NAK_COUNT 1, nak), (ITK_VS_LAST_FN 2, 9), (ITK_VS_SET_CTL_LEN 2, 2), (ITK_VS_SET_TAG_TAG 2, 5), (ITK_VS_SET_FN 2, 13), (LNK_STATUS_STATE 6, 4)]).modify fun u => { u with itk := { bnd := [(1, x)], vs := [(2, y)], sn := 5 }, frames := fs, glb := { u.glb with cfg := [vsRec 2 1 3 64 2 4, bnRec 1 [5] [6] 10] } }
def fr0 : IFrame := { sn := 4, vs := 2, ctx := 3, fn := 9, w := 64, h := 2, embMax := 4 }
/-- States and operands that meet the hypotheses of IntakeBundles, clause by clause. -/
theorem test_witness_IntakeBundles :
    (∃ (s : State) (b : Fin 8) (q : Nat) (x : BndU), x = s.u.itk.bnd.look b {} ∧ q = subMod 24 (s.rd (ITK_BND_SEQ_EXP_SEQ b)) 1)
    ∧ (∃ (s : State) (b : Fin 8) (n : Nat), n = s.rd (ITK_BND_STATUS_NAK_COUNT b) ∧ s.rd (ITK_BND_STATUS_STATE b) = 4)
    ∧ (∃ (s : State) (b : Fin 8), s.rd (ITK_BND_STATUS_STATE b) ≠ 4)
    ∧ (∃ (s : State) (b : Fin 8) (v : Fin 16) (c : Nat) (f : IFrame), s.rd (ITK_BND_STATUS_STATE b) = 4 ∧ s.rd (ITK_BND_STATUS_NAK_COUNT b) = 4 ∧ (Run.start s).bndVs b = [v.val] ∧ s.binds b v c ∧ s.plain c ∧ s.openIs v c f ∧ f.exts = [])
    ∧ (∃ (s : State) (b : Fin 8) (skew : Nat), s.rd (ITK_BND_STATUS_STATE b) = 2 ∧ (s.u.itk.bnd.look b {}).synced = true ∧ skew ≤ 512)
    ∧ (∃ (s : State) (b : Fin 8), s.rd (ITK_BND_STATUS_STATE b) = 2 ∧ s.noneOpen b)
    ∧ (∃ (s : State) (b : Fin 8) (x : BndU), x = s.u.itk.bnd.look b {} ∧ s.rd (ITK_BND_STATUS_STATE b) = 2 ∧ x.synced = false ∧ x.resends < 3 ∧ s.rd (ITK_BND_RSEQ_NEXT_RSEQ b) < 2 ^ 24)
    ∧ (∃ (s : State) (b : Fin 8) (x : BndU), x = s.u.itk.bnd.look b {})
    ∧ (∃ (s : State) (b : Fin 8) (n : Nat) (time : Nat) (l : List (Nat × Nat)), (Run.start s).bndRuns b = true ∧ (s.u.itk.bnd.look b {}).wait = (n, time) :: l ∧ s.noneOpen b)
    ∧ (∃ (s : State) (b : Fin 8) (v : Fin 16) (c : Nat) (f : IFrame), (Run.start s).bndRuns b = true ∧ (s.u.itk.bnd.look b {}).wait ≠ [] ∧ (Run.start s).bndVs b = [v.val] ∧ s.binds b v c ∧ s.plain c ∧ s.openIs v c f ∧ f.exts = [])
    ∧ (∃ (s : State) (b : Fin 8) (n : Fin 24) (k : Nat) (x : BndU), (Run.start s).bundleOf n = some b.val ∧ x = s.u.itk.bnd.look b {} ∧ s.rd (ITK_BND_STATUS_STATE b) = 3 ∧ s.rd (ITK_BND_STATUS_NAK_COUNT b) = 0 ∧ x.map = [n.val] ∧ x.wait = [] ∧ s.rd (LNK_STATUS_STATE n) = 4 ∧ (Run.start s).freeSpare b x.map = some k ∧ n.val ∈ bundleLanes ((Run.start s).cfg 0x0401 b) ∧ k ∈ bundleLanes ((Run.start s).cfg 0x0401 b) ∧ k ≠ n.val ∧ k < 48 ∧ x.gen < 256 ∧ s.rd EVT_COFFERDAM_LANES < 2 ^ 48)
    ∧ (∃ (s : State) (b : Fin 8) (n : Fin 24) (x : BndU), (Run.start s).bundleOf n = some b.val ∧ x = s.u.itk.bnd.look b {} ∧ s.rd (ITK_BND_STATUS_STATE b) = 3 ∧ x.map = [n.val] ∧ x.wait = [] ∧ s.rd (LNK_STATUS_STATE n) = 4 ∧ (Run.start s).freeSpare b x.map = none)
    ∧ (∃ (s : State) (b : Fin 8), s.rd (ITK_BND_STATUS_STATE b) = 5 ∧ (((Run.start s).bndSpares b).all (fun n => !(Run.start s).linked n) = true) ∧ (((Run.start s).bndOwn b).all (fun n => (Run.start s).linked n) = false))
    ∧ (∃ (s : State) (b : Fin 8) (lanes : List Nat), s.rd (ITK_BND_STATUS_STATE b) = 5 ∧ lanes = (Run.start s).bndOwn b ∧ (lanes.all (fun n => (Run.start s).linked n) = true) ∧ (s.u.itk.bnd.look b {}).gen < 256)
    ∧ (∃ (s : State) (b : Fin 8), s.rd (ITK_BND_STATUS_STATE b) ≠ 5)
    ∧ (∃ (s : State) (v : Fin 16) (x : VsU), x = s.u.itk.vs.look v {} ∧ x.armed = true ∧ (Run.start s).openFrame v = none)
    ∧ (∃ (s : State) (v : Fin 16) (c : Nat) (f : IFrame), (s.u.itk.vs.look v {}).armed = true ∧ s.plain c ∧ s.openIs v c f ∧ f.exts = [])
    ∧ (∃ (s : State) (v : Fin 16), (s.u.itk.vs.look v {}).armed = false)
    ∧ (∃ (s : State) (v : Fin 16) (len : Nat) (tag : Nat) (x : VsU), x = s.u.itk.vs.look v {} ∧ len = s.rd (ITK_VS_SET_CTL_LEN v) ∧ tag = s.rd (ITK_VS_SET_TAG_TAG v) ∧ (len = 0 ∨ 256 < len ∨ 8 ≤ x.queue.length + x.pend.length ∨ (Run.start s).hasCfg 0x0402 v = false ∨ tag = s.rd (ITK_VS_LAST_TAG_TAG v) ∨ tag ∈ (x.queue ++ x.pend).map SetReq.tag))
    ∧ (∃ (s : State) (b : Fin 8) (v : Fin 16) (len : Nat) (tag : Nat) (l : Nat) (seq : Nat) (x : VsU) (q : SetReq), x = s.u.itk.vs.look v {} ∧ len = s.rd (ITK_VS_SET_CTL_LEN v) ∧ tag = s.rd (ITK_VS_SET_TAG_TAG v) ∧ 1 ≤ len ∧ len ≤ 256 ∧ x.queue.length + x.pend.length < 8 ∧ (Run.start s).hasCfg 0x0402 v = true ∧ (Run.start s).vsN v 8 1 = b ∧ l = (Run.start s).vsN v 0xA 1 ∧ tag ≠ s.rd (ITK_VS_LAST_TAG_TAG v) ∧ tag ∉ (x.queue ++ x.pend).map SetReq.tag ∧ (Run.start s).bndRuns b = true ∧ seq = s.rd (ITK_BND_RSEQ_NEXT_RSEQ b) ∧ (q = { fn := s.rd (ITK_VS_SET_FN v), tag := tag, data := (List.range len).map fun k => s.rd (ITK_VS_SET_DATA v k), d := s.rd (ITK_VS_LAST_FN v) }))
    ∧ (∃ (s : State) (b : Fin 8) (v : Fin 16) (seq : Nat) (q : Nat) (body : List Byte), (Run.start s).cfgN 0x0401 b 0xA 2 ≠ 0 ∧ (Run.start s).bndRuns b = true ∧ (Run.start s).bndVs b = [v.val] ∧ s.rd (TIM_VS_NEXT_CTL_EN v) = 0 ∧ seq = s.rd (ITK_BND_RSEQ_NEXT_RSEQ b) ∧ q = (Run.start s).pinTx ((s.u.itk.bnd.look b {}).map.getD 0 0) s.tsel ∧ body = timeBytes (timeSec q) (timeNs q) (timeFrac q) ++ List.replicate 16 0#8)
    ∧ (∃ (s : State) (b : Fin 8) (v : Fin 16) (seq : Nat) (q : Nat) (n : Nat) (body : List Byte), (Run.start s).cfgN 0x0401 b 0xA 2 ≠ 0 ∧ (Run.start s).bndRuns b = true ∧ (Run.start s).bndVs b = [v.val] ∧ s.rd (TIM_VS_NEXT_CTL_EN v) = 1 ∧ seq = s.rd (ITK_BND_RSEQ_NEXT_RSEQ b) ∧ q = (Run.start s).pinTx ((s.u.itk.bnd.look b {}).map.getD 0 0) s.tsel ∧ n = (Run.start s).nextExposure v q ∧ q ≤ n ∧ body = timeBytes (timeSec q) (timeNs q) (timeFrac q) ++ timeBytes (timeSec n) (timeNs n) (timeFrac n))
    ∧ (∃ (s : State) (b : Fin 8), ((Run.start s).cfgN 0x0401 b 0xA 2 = 0 ∨ (Run.start s).bndRuns b = false)) :=
  ⟨⟨ik 3 0 { owed := true } {} [], 1, 6, { owed := true }, by decide +kernel⟩,
   ⟨ik 4 4 {} {} [], 1, 4, by decide +kernel⟩,
   ⟨ik 3 4 {} {} [], 1, by decide +kernel⟩,
   ⟨ik 4 4 {} { open_ := some 4 } [fr0], 1, 2, 3, fr0, by decide +kernel⟩,
   ⟨ik 2 0 { synced := true } {} [], 1, 512, by decide +kernel⟩,
   ⟨ik 2 0 { resends := 3 } {} [], 1, by decide +kernel⟩,
   ⟨ik 2 0 { resends := 2, map := [5] } {} [], 1, { resends := 2, map := [5] }, by decide +kernel⟩,
   ⟨ik 3 0 {} {} [], 1, {}, by decide +kernel⟩,
   ⟨ik 3 0 { wait := [(5, 77)] } {} [], 1, 5, 77, [], by decide +kernel⟩,
   ⟨ik 3 0 { wait := [(5, 77)] } { open_ := some 4 } [fr0], 1, 2, 3, fr0, by decide +kernel⟩,
   ⟨(ik 3 0 { map := [5], gen := 255 } {} []).wr (LNK_STATUS_STATE 5) 4, 1, 5, 6, { map := [5], gen := 255 }, by decide +kernel⟩,
   ⟨((ik 3 0 { map := [5] } {} []).wr (LNK_STATUS_STATE 5) 4).wr (LNK_STATUS_STATE 6) 3, 1, 5, { map := [5] }, by decide +kernel⟩,
   ⟨(ik 5 0 {} {} []).wr (LNK_STATUS_STATE 6) 3, 1, by decide +kernel⟩,
   ⟨(ik 5 0 { gen := 3 } {} []).wr (LNK_STATUS_STATE 5) 4, 1, [5], by decide +kernel⟩,
   ⟨ik 4 0 {} {} [], 1, by decide +kernel⟩,
   ⟨ik 4 0 {} { armed := true } [], 2, { armed := true }, by decide +kernel⟩,
   ⟨ik 4 0 {} { armed := true, open_ := some 4 } [fr0], 2, 3, fr0, by decide +kernel⟩,
   ⟨ik 4 0 {} {} [], 2, by decide +kernel⟩,
   ⟨ik 4 0 {} {} [], 3, 1, 0, {}, by decide +kernel⟩,
   ⟨ik 4 0 {} { seen := true } [], 1, 2, 2, 5, 2, 0, { seen := true }, { fn := 13, tag := 5, data := [0, 0], d := 9 }, by decide +kernel⟩,
   ⟨ik 4 0 { map := [5] } {} [], 1, 2, 0, 0, List.replicate 32 0#8, by decide +kernel⟩,
   ⟨(ik 4 0 { map := [5] } {} []).wr (TIM_VS_NEXT_CTL_EN 2) 1 |>.wr (TIM_VS_NEXT_PHASE_PHASE 2) 1000, 1, 2, 0, 0, 0x3E800000000, timeBytes 0 0 0 ++ timeBytes 0 1000 0, by decide +kernel⟩,
   ⟨ik 1 0 {} {} [], 1, by decide +kernel⟩⟩

end Sys2Proof.Tests.W30

namespace Sys2Proof.Tests.W31

def pf0 : PFrame := { sn := 4, ctx := 3, fn := 9, info := ⟨9, 5, 0, 0, 0, 0⟩, w := 64, h := 16, band := 8, frameMode := false, paired := false, verNo := 0, ver := [], stripes := [⟨1, 0, 64, 0, true⟩], rows := 8, written := 8 }
def px (f : PFrame) (t : Option PTurn) : State := State.reset.modify fun u => { u with pix := { frames := [f], ce := [(1, { turn := t })] } }
def tn : Option PTurn := some ⟨4, 3, 0, 4, 8, 72⟩
def fl (f : PFrame) : PFrame := { f with h := 8, rows := 8 }
def olr : CfgRec := ⟨7, 0x0701, 2, overlay (List.replicate 32 0#8) 8 [1#8, 3#8, 0xFF#8, 5#8, 1#8, 0#8, 1#8, 0#8, 0#8, 2#8, 1#8, 0#8]⟩
def po (l : List (Fld × Nat)) : State := rs ([(MEM_POLDER_BASE 5, 0x10000), (MEM_POLDER_SIZE 5, 0x100000), (MEM_POLDER_RIGHTS_WRITE 5, 0xFFFF), (MEM_POLDER_RIGHTS_READ 5, 0xFFFF)] ++ l)
def sd : StatsDue := ⟨3, 0x11000, 2, 0, 9, [1#8, 2#8], List.replicate 64 7#8⟩
/-- States and operands that meet the hypotheses of ColourEngines, clause by clause. -/
theorem test_witness_ColourEngines :
    (∃ (s : State) (ce : Fin 2) (f : PFrame) (d : Nat) (cols : Nat) (cost : Nat), s.turnOf ce f d cols cost ∧ d + 1 < f.bands ∧ f.rows < min ((d + 1) * f.band + f.band + 4) f.h)
    ∧ (∃ (s : State) (ce : Fin 2) (f : PFrame) (d : Nat) (cols : Nat) (cost : Nat), s.turnOf ce f d cols cost ∧ f.bands ≤ d + 1 ∧ f.bufs = [])
    ∧ (∃ (s : State) (ce : Fin 2) (f : PFrame) (d : Nat) (cols : Nat) (cost : Nat) (q : Nat) (o : Nat) (n : Nat) (a : Nat) (len : Nat), s.turnOf ce f d cols cost ∧ f.bands ≤ d + 1 ∧ f.bufs = [(o, some n)] ∧ o < 24 ∧ (Run.start s).olKind o = 1 ∧ 8 ≤ (Run.start s).olN o 0xA 1 ∧ n < 16 ∧ s.onlyPolder q 4 ∧ a = (Run.start s).olBuffer o n ∧ 1 ≤ len ∧ len = olFrameBytes ((Run.start s).olN o 0xC 2) ((Run.start s).olN o 0xE 2) (bit ((Run.start s).olN o 0x10 1) 0) ∧ s.rd (MEM_POLDER_BASE q) ≤ a ∧ a + len ≤ s.rd (MEM_POLDER_BASE q) + s.rd (MEM_POLDER_SIZE q))
    ∧ (∃ (s : State) (ce : Fin 2), ((Run.start s).ce ce).turn = none)
    ∧ (∃ (s : State) (c : Fin 16) (q : Nat) (a : Nat) (old : Nat) (seq : Nat) (d : StatsDue) (l : List StatsDue), s.u.pix.stats = d :: l ∧ d.ctx = c ∧ d.head.length = 64 ∧ 1 ≤ d.body.length ∧ 64 + d.body.length ≤ 164928 ∧ old = s.rd (PIX_CTX_STATS_SEQ_SEQ c) ∧ old < 2 ^ 32 ∧ (seq = (if old = 0xFFFFFFFF then 1 else old + 1)) ∧ a = d.base + (seq - 1) % d.slots * 0x29000 ∧ s.onlyPolder q 3 ∧ s.rd (MEM_POLDER_BASE q) ≤ a ∧ a + 164928 ≤ s.rd (MEM_POLDER_BASE q) + s.rd (MEM_POLDER_SIZE q))
    ∧ (∃ (s : State) (c : Fin 16) (seq : Nat) (d : StatsDue) (l : List StatsDue), s.u.pix.stats = d :: l ∧ d.ctx = c ∧ seq = s.rd (PIX_CTX_STATS_SEQ_SEQ c) + 1 ∧ seq < 2 ^ 32 ∧ ((∀ p < 32, (Run.start s).mayWrite p 3 = false)) ∧ (Run.start s).mayWrite 32 3 = false)
    ∧ (∃ (s : State) (c : Fin 16), ((∀ d ∈ s.u.pix.stats, d.ctx ≠ c)))
    ∧ (∃ (s : State) (ce : Fin 2), (Run.start s).ceUsable ce = false)
    ∧ (∃ (s : State) (ce : Fin 2) (f : PFrame) (d : Nat) (cols : Nat) (cost : Nat), (Run.start s).ceUsable ce = true ∧ s.rd (PIX_CE_STATUS_RETIRED (1 - ce.val)) = 0 ∧ s.recentFaults 6 ce < 2 ∧ s.turnOf ce f d cols cost ∧ f.bufs = [] ∧ ((∀ c < 16, c ≠ f.ctx → s.rd (PIX_CTX_CFG_INTERPRET c) = 0)))
    ∧ (∃ (s : State) (ce : Fin 2), (Run.start s).ceUsable ce = true ∧ s.rd (PIX_CE_STATUS_RETIRED (1 - ce.val)) = 0 ∧ 2 ≤ s.recentFaults 6 ce ∧ s.u.pix.frames = [] ∧ ((Run.start s).ce ce).turn = none ∧ ((∀ c < 16, s.rd (PIX_CTX_CFG_INTERPRET c) = 0)))
    ∧ (∃ (s : State) (ce : Fin 2) (f : PFrame) (cols : Nat), (Run.start s).ceUsable ce = true ∧ (Run.start s).ceUsable (1 - ce.val) = true ∧ s.recentFaults 6 ce < 2 ∧ s.u.pix.frames = [f] ∧ f.stripes = [⟨ce, 0, cols, 0, false⟩] ∧ f.frameMode = false ∧ f.ctx < 16 ∧ f.rows = 0 ∧ 1 ≤ f.h ∧ 1 ≤ f.band ∧ ((Run.start s).ce ce).turn = none ∧ ((∀ c < 16, c ≠ f.ctx → s.rd (PIX_CTX_CFG_INTERPRET c) = 0)))
    ∧ (∃ (s : State), s.rd PAK_STATUS_RETIRED = 0 ∧ s.u.frames = [] ∧ s.u.magu.segs = [])
    ∧ (∃ (s : State), s.rd PAK_STATUS_RETIRED ≠ 0 ∧ s.u.magu.segs = [])
    ∧ (∃ (s : State) (ce : Fin 2), 96 + ce.val ∈ s.u.evt.resetting ∧ s.u.pix.frames = [] ∧ ((∀ c < 16, s.rd (PIX_CTX_CFG_INTERPRET c) = 0)))
    ∧ (∃ (u : FaultUnit) (k : Nat), k = (faultKey u).1 * 16 + (faultKey u).2)
    ∧ (∃ (s : State) (ty : Nat) (k : Nat), ty = s.rd PIX_TBL_CTL_TYPE ∧ k = s.rd PIX_TBL_CTL_INDEX)
    ∧ (∃ (s : State) (ty : Nat) (k : Nat) (a : Nat) (n : Nat) (crc : Nat) (e : Nat) (img : List Byte), s.u.pix.load = some (ty, k, a, n, crc) ∧ ty < 4 ∧ k < tableCount ty ∧ ((∀ i < 3, s.rd (PIX_TBL_STATE i) < 2 ^ 32)) ∧ s.rd MEM_CFG_RETIRED = 0 ∧ s.u.mem.poison = [] ∧ n < 100 ∧ img = (Run.start s).bytes a n ∧ (e = (if (Run.start s).allowed 3 false a n = false ∨ (Run.start s).polderOf a n = none then 3 else if n ≠ (if ty = 1 then 4 + 4 * field img 0 4 else imageLen ty) ∨ (ty = 1 ∧ (n < 4 ∨ 65536 < field img 0 4)) then 2 else if crc32c img ≠ crc then 4 else if tableBitsOk ty img = false then 5 else 0)))
    ∧ (∃ (s : State), s.u.pix.load = none) :=
  ⟨⟨px pf0 tn, 1, pf0, 0, 64, 72, by decide +kernel⟩,
   ⟨px (fl pf0) tn, 1, fl pf0, 0, 64, 72, by decide +kernel⟩,
   ⟨(po []).modify (fun u => { u with pix := { frames := [{ fl pf0 with bufs := [(2, some 1)] }], ce := [(1, { turn := tn })], tables := [(0, []), (48, [])] }, glb := { u.glb with cfg := [olr] } }), 1, { fl pf0 with bufs := [(2, some 1)] }, 0, 64, 72, 5, 2, 1, 0x11000, 192, by decide +kernel⟩,
   ⟨px pf0 none, 1, by decide +kernel⟩,
   ⟨(po [(PIX_CTX_STATS_SEQ_SEQ 3, 0xFFFFFFFF)]).modify (fun u => { u with pix := { stats := [sd] } }), 3, 5, 0x11000, 0xFFFFFFFF, 1, sd, [], by decide +kernel⟩,
   ⟨State.reset.modify (fun u => { u with pix := { stats := [sd] } }), 3, 1, sd, [], by decide +kernel⟩,
   ⟨State.reset, 3, by decide +kernel⟩,
   ⟨rs [(PIX_CE_STATUS_RETIRED 0, 1)], 0, by decide +kernel⟩,
   ⟨px pf0 tn, 1, pf0, 0, 64, 72, by decide +kernel⟩,
   ⟨State.reset.modify (fun u => { u with evt := { u.evt with faults := [(97, [0, 0])] } }), 1, by decide +kernel⟩,
   ⟨px { pf0 with stripes := [⟨1, 0, 64, 0, false⟩], rows := 0 } none, 1, { pf0 with stripes := [⟨1, 0, 64, 0, false⟩], rows := 0 }, 64, by decide +kernel⟩,
   ⟨State.reset.modify (fun u => { u with evt := { u.evt with faults := [(112, [0, 0])] } }), by decide +kernel⟩,
   ⟨rs [(PAK_STATUS_RETIRED, 1)], by decide +kernel⟩,
   ⟨State.reset.modify (fun u => { u with evt := { u.evt with resetting := [97, 112] } }), 1, by decide +kernel⟩,
   ⟨.pak, 112, by decide +kernel⟩,
   ⟨rs [(PIX_TBL_CTL_TYPE, 3), (PIX_TBL_CTL_INDEX, 11)], 3, 11, by decide +kernel⟩,
   ⟨(po []).modify (fun u => { u with pix := { load := some (1, 7, 0x20000, 4, crc32c [0#8, 0#8, 0#8, 0#8]) } }), 1, 7, 0x20000, 4, crc32c [0#8, 0#8, 0#8, 0#8], 0, [0#8, 0#8, 0#8, 0#8], by decide +kernel⟩,
   ⟨State.reset, by decide +kernel⟩⟩

end Sys2Proof.Tests.W31

namespace Sys2Proof.Tests.W31b

def ts (l : List (Fld × Nat)) (sn : Tab (List Snap)) : State := { (rs l).modify (fun u => { u with tide := { snaps := sn } }) with now := 200 }
/-- States and operands that meet the hypotheses of TideGate, clause by clause. -/
theorem test_witness_TideGate :
    (∃ (s : State) (mask : Nat) (u : Nat) (g : Nat), s.Inv ∧ u < 47 ∧ bit mask u = true ∧ g = (Run.start s).tideGroup u)
    ∧ (∃ (mask : Nat), ((∀ u < 47, 40 ≤ u → u < 44 → bit mask u = false)))
    ∧ (∃ (s : State) (n : Fin 2), s.Inv ∧ s.rd (ENC_QP_MAX n) < s.rd (ENC_QP_MIN n) ∧ s.rd (ENC_QP_MAX n) < 2 ^ (ENC_QP_MIN n).w)
    ∧ (∃ (mask : Nat), mask % 2 ^ 47 = 0)
    ∧ (∃ (s : State) (n : Fin 2) (u : Nat) (x : Snap), u = 44 + n.val ∧ s.u.tide.snaps = [(u, [x])] ∧ x.units = [u] ∧ x.fixes = [] ∧ x.judged = false ∧ x.at_ + 65 ≤ s.now ∧ s.rd (ENC_STATUS_STATE n) = 0 ∧ Tab.rising x.vals = true ∧ (x.vals.all (fun e => inUnit u e.1 && decide (e.2 < 2 ^ 64)) = true) ∧ s.rd GLB_TIDE_APPLIED < 2 ^ 64)
    ∧ (∃ (s : State) (c : Fin 16) (x : Snap), s.u.tide.snaps = [(c.val, [x])] ∧ x.units = [c.val] ∧ x.fixes = [] ∧ x.judged = false ∧ x.at_ + 65 ≤ s.now ∧ s.rd (PIX_CTX_CFG_INTERPRET c) = 0 ∧ Tab.rising x.vals = true ∧ (x.vals.all (fun e => inUnit c e.1 && decide (e.2 < 2 ^ 64)) = true) ∧ s.rd (PIX_CTX_STATUS_VERSION c) < 2 ∧ s.rd GLB_TIDE_APPLIED < 2 ^ 64)
    ∧ (∃ (s : State) (n : Fin 2) (u : Nat) (x : Snap), u = 44 + n.val ∧ s.u.tide.snaps = [(u, [x])] ∧ x.units = [u] ∧ x.judged = false ∧ x.at_ + 65 ≤ s.now ∧ s.rd (ENC_STATUS_STATE n) ≠ 0)
    ∧ (∃ (s : State), ((∀ e ∈ s.u.tide.snaps, ((Run.start s).snaps e.1).all (fun x => decide (s.now < x.at_ + 65) || x.judged) = true))) :=
  ⟨⟨rs [(PIX_CTX_MTX_COEF 3 1, 77), (PIX_CTX_SCHED_WEIGHT 3, 0)], 0x14B00000000B, 3, 3, by and_intros <;> first | decide +kernel | rfl | (unfold State.Inv; decide +kernel)⟩,
   ⟨0x100000000008, by decide +kernel⟩,
   ⟨rs [(ENC_QP_MIN 1, 40), (ENC_QP_MAX 1, 20)], 1, by and_intros <;> first | decide +kernel | rfl | (unfold State.Inv; decide +kernel)⟩,
   ⟨0x800000000000, by decide +kernel⟩,
   ⟨ts [] [(45, [{ at_ := 135, units := [45], vals := [((ENC_QP_MIN 1).key, 9)] }])], 1, 45, { at_ := 135, units := [45], vals := [((ENC_QP_MIN 1).key, 9)] }, by decide +kernel⟩,
   ⟨ts [] [(3, [{ at_ := 135, units := [3], vals := [((PIX_CTX_MTX_COEF 3 1).key, 9)] }])], 3, { at_ := 135, units := [3], vals := [((PIX_CTX_MTX_COEF 3 1).key, 9)] }, by decide +kernel⟩,
   ⟨ts [(ENC_STATUS_STATE 1, 2)] [(45, [{ at_ := 135, units := [45], vals := [((ENC_QP_MIN 1).key, 9)] }])], 1, 45, { at_ := 135, units := [45], vals := [((ENC_QP_MIN 1).key, 9)] }, by decide +kernel⟩,
   ⟨ts [] [(45, [{ at_ := 400, units := [45], vals := [((ENC_QP_MIN 1).key, 9)] }])], by decide +kernel⟩⟩

end Sys2Proof.Tests.W31b

namespace Sys2Proof.Tests.W32

def fgr (src : Nat) : CfgRec := ⟨7, 0x0703, 1, overlay (List.replicate 32 0#8) 8 [BitVec.ofNat 8 src, 0x0F#8]⟩
def cmr (n w h fmt : Nat) : CfgRec := ⟨8, 0x0801, n, overlay (List.replicate 32 0#8) 8 (le 2 w ++ le 2 h ++ le 1 fmt ++ le 1 5 ++ le 1 5)⟩
def fc (l : List (Fld × Nat)) (cfg : List CfgRec) (c : Tab CmpU) (f : Tab FedU) : State := (rs l).modify fun u => { u with glb := { u.glb with cfg := cfg }, cmp := c, fed := f }
def plr : List (Fld × Nat) := [(MEM_POLDER_BASE 5, 0x10000), (MEM_POLDER_SIZE 5, 0x100000), (MEM_POLDER_RIGHTS_WRITE 5, 0xFFFF), (MEM_POLDER_RIGHTS_READ 5, 0xFFFF)]
def olr : CfgRec := ⟨7, 0x0701, 2, overlay (List.replicate 32 0#8) 8 [1#8, 3#8, 2#8, 5#8, 1#8, 0#8, 1#8, 0#8, 0#8, 2#8, 1#8, 0#8]⟩
def vf (n : Nat) (l : List (Fld × Nat)) (x : CmpU) : State := State.act' (fc ([(VFD_STATUS_LINK_STATE n, 2)] ++ l) [cmr n 70 4 0] [(n, x)] []) [(CMP_CTL_EN n, 1)]
/-- States and operands that meet the hypotheses of FeedsAndCompositions, clause by clause. -/
theorem test_witness_FeedsAndCompositions :
    (∃ (s : State) (g : Fin 3), ((Run.start s).hasCfg 0x0703 g = false ∨ (Run.start s).fedN g 8 1 = 2))
    ∧ (∃ (s : State) (g : Fin 3) (n : Nat) (w : Nat) (h : Nat) (q : Nat), (Run.start s).hasCfg 0x0703 g = true ∧ n = 2 + (Run.start s).fedN g 8 1 ∧ (n = 2 ∨ n = 3) ∧ (s.rd (CMP_STATUS_COMPOSING n) = 0 ∨ (s.u.cmp.look n {}).late = true) ∧ (Run.start s).fedOn g = true ∧ (s.u.cmp.look n {}).done = 0 ∧ (s.u.fed.look g {}).sending = none ∧ (Run.start s).canvas n = (w, h) ∧ 1 ≤ w ∧ w ≤ 4096 ∧ ((∀ p < 8, ((s.u.tim.au.look p {}).feed.look g []) = [])) ∧ (s.u.fed.look g {}).seq < 2 ^ 24 ∧ q = (Run.start s).fedBoundary g)
    ∧ (∃ (s : State) (g : Fin 3) (n : Nat) (w : Nat) (h : Nat) (q : Nat) (b : Nat) (a : Nat) (len : Nat) (k : Nat), (Run.start s).hasCfg 0x0703 g = true ∧ n = 2 + (Run.start s).fedN g 8 1 ∧ (n = 2 ∨ n = 3) ∧ s.rd (CMP_STATUS_COMPOSING n) = 0 ∧ (Run.start s).fedOn g = true ∧ k = (s.u.cmp.look n {}).done ∧ 1 ≤ k ∧ (s.u.cmp.look n {}).newest = some b ∧ (Run.start s).canvas n = (w, h) ∧ 1 ≤ w ∧ w ≤ 4096 ∧ ((∀ p < 8, ((s.u.tim.au.look p {}).feed.look g []) = [])) ∧ (s.u.fed.look g {}).seq < 2 ^ 24 ∧ q = (Run.start s).fedBoundary g ∧ a = (Run.start s).cmpBuffer n b ∧ len = olFrameBytes w h (bit ((Run.start s).cmpN n 0xC 1) 0) ∧ (Run.start s).allowed 6 false a len = true ∧ s.rd MEM_CFG_RETIRED = 0 ∧ s.u.mem.poison = [])
    ∧ (∃ (s : State) (g : Fin 3) (n : Nat) (x : CmpU), (Run.start s).hasCfg 0x0703 g = true ∧ n = 2 + (Run.start s).fedN g 8 1 ∧ (n = 2 ∨ n = 3) ∧ (Run.start s).fedOn g = false ∧ x = s.u.cmp.look n {})
    ∧ (∃ (s : State) (g : Fin 3) (k : Nat) (l : List Nat), (Run.start s).hasCfg 0x0703 g = true ∧ groupLanes ((Run.start s).cfg 0x0703 g) = k :: l ∧ k < 48)
    ∧ (∃ (s : State) (g : Fin 3), (Run.start s).hasCfg 0x0703 g = false)
    ∧ (∃ (s : State) (n : Fin 4), ((Run.start s).hasCfg 0x0801 n = false ∨ n.val < 2 ∨ s.rdA (CMP_CTL_EN n) = 0 ∨ s.rd (CMP_STATUS_COMPOSING n) ≠ 0))
    ∧ (∃ (s : State) (n : Fin 4) (x : CmpU), (Run.start s).hasCfg 0x0801 n = true ∧ 2 ≤ n.val ∧ s.rdA (CMP_CTL_EN n) ≠ 0 ∧ s.rd (CMP_STATUS_COMPOSING n) = 0 ∧ s.plainCanvas n ∧ x = s.u.cmp.look n {})
    ∧ (∃ (s : State) (n : Fin 4) (o : Nat) (b : Nat), (Run.start s).hasCfg 0x0801 n = true ∧ 2 ≤ n.val ∧ s.rdA (CMP_CTL_EN n) ≠ 0 ∧ s.rd (CMP_STATUS_COMPOSING n) = 0 ∧ (Run.start s).snaps (40 + n) = [] ∧ s.rd GLB_TIDE_DEFERRED < 2 ^ 64 ∧ s.rdA (CMP_L_CTL_EN n 0) ≠ 0 ∧ s.rdA (CMP_L_CTL_EN n 1) = 0 ∧ s.rd (CMP_STATUS_HOLD_V0 n) = 0 ∧ s.rd (CMP_STATUS_HOLD_V1 n) = 0 ∧ (Run.start s).videoOutlet n 0 = some o ∧ b = s.rd (OUT_PUB_IDX o) ∧ b < 4 ∧ s.rd (OUT_STATUS_PUBLISHED o) ≠ 0 ∧ s.rd (OUT_STATUS_BUSY o) = 0 ∧ s.rd (OUT_STATUS_HELD o) < 16)
    ∧ (∃ (s : State) (n : Fin 4), s.rd (CMP_STATUS_COMPOSING n) = 0)
    ∧ (∃ (s : State) (n : Fin 2), s.rd (CMP_STATUS_COMPOSING n) ≠ 0 ∧ (s.u.cmp.look n {}).cmdWait = false)
    ∧ (∃ (s : State) (n : Fin 4) (w : Nat) (h : Nat) (a : Nat) (len : Nat) (q : Nat) (b : Nat), 2 ≤ n.val ∧ s.rd (CMP_STATUS_COMPOSING n) ≠ 0 ∧ s.plainCanvas n ∧ s.layersReadable n ∧ (Run.start s).canvas n = (w, h) ∧ b = s.rd (CMP_STATUS_OUT_BUF n) ∧ a = (Run.start s).cmpBuffer n b ∧ len = olFrameBytes w h (bit ((Run.start s).cmpN n 0xC 1) 0) ∧ s.onlyPolder q 5 ∧ 1 ≤ len ∧ s.rd (MEM_POLDER_BASE q) ≤ a ∧ a + len ≤ s.rd (MEM_POLDER_BASE q) + s.rd (MEM_POLDER_SIZE q))
    ∧ (∃ (s : State) (n : Fin 2), s.rd (VFD_STATUS_LINK_STATE n) ≠ 2)
    ∧ (∃ (s : State) (n : Fin 2), s.rd (VFD_STATUS_LINK_STATE n) = 2 ∧ s.rd (CMP_STATUS_COMPOSING n) ≠ 0)
    ∧ (∃ (s : State) (n : Fin 2) (x : CmpU) (k : Nat), s.rd (VFD_STATUS_LINK_STATE n) = 2 ∧ s.rd (CMP_STATUS_COMPOSING n) = 0 ∧ (Run.start s).vfDue n = false ∧ x = s.u.cmp.look n {} ∧ k = s.rd (VFD_CTL_SR_FRAMES n))
    ∧ (∃ (s : State) (n : Fin 2), s.rd (VFD_STATUS_LINK_STATE n) = 2 ∧ s.rd (CMP_STATUS_COMPOSING n) = 0 ∧ s.rdA (CMP_CTL_EN n) = 1 ∧ (s.u.cmp.look n {}).dirty ≠ [] ∧ s.rd (VFD_STATUS_READBACK_FAIL n) = 0 ∧ s.rd (VFD_STATUS_DSC n) = 0 ∧ s.plainCanvas n ∧ s.layersReadable n)
    ∧ (∃ (s : State) (n : Fin 2), s.rd (VFD_STATUS_LINK_STATE n) = 2 ∧ s.rd (CMP_STATUS_COMPOSING n) = 0 ∧ s.rdA (CMP_CTL_EN n) = 1 ∧ (s.u.cmp.look n {}).dirty ≠ [] ∧ s.rd (VFD_STATUS_READBACK_FAIL n) = 0 ∧ s.rd (VFD_STATUS_DSC n) = 0 ∧ s.plainCanvas n ∧ s.layersReadable n ∧ (s.u.cmp.look n {}).teLost = true)
    ∧ (∃ (s : State) (n : Fin 2), ((s.u.cmp.look n {}).teLost = false ∨ s.rd (CMP_STATUS_COMPOSING n) ≠ 0 ∨ (Run.start s).vfDue n = false))
    ∧ (∃ (s : State) (n : Fin 2) (x : CmpU), s.rd (VFD_STATUS_LINK_STATE n) = 2 ∧ x = s.u.cmp.look n {} ∧ x.teLost = false)
    ∧ (∃ (s : State) (n : Fin 2), (s.u.cmp.look n {}).teLost = true) :=
  ⟨⟨fc [] [fgr 2] [] [], 1, by decide +kernel⟩,
   ⟨fc [] [fgr 0, cmr 2 40 3 0] [] [(1, { seq := 0xFFFFFE })], 1, 2, 40, 3, 0, by decide +kernel⟩,
   ⟨fc plr [fgr 1, cmr 3 40 3 0] [(3, { newest := some 1, done := 3 })] [], 1, 3, 40, 3, 0, 1, 0x11000, 1152, 3, by decide +kernel⟩,
   ⟨fc [(FED_CTL_EN 1, 0), (CMP_STATUS_COMPOSING 3, 1)] [fgr 1, cmr 3 40 3 0] [(3, { newest := some 1, done := 3 })] [], 1, 3, { newest := some 1, done := 3 }, by decide +kernel⟩,
   ⟨fc [] [fgr 1] [] [], 1, 40, [41, 42, 43], by decide +kernel⟩,
   ⟨fc [] [] [] [], 1, by decide +kernel⟩,
   ⟨fc [] [cmr 3 40 3 0] [] [], 1, by decide +kernel⟩,
   ⟨State.act' (fc [] [cmr 3 40 3 0, fgr 1] [(3, { newest := some 0 })] [(1, { sending := some 1 })]) [(CMP_CTL_EN 3, 1)], 3, { newest := some 0 }, by decide +kernel⟩,
   ⟨State.act' (fc [(OUT_STATUS_PUBLISHED 2, 1), (OUT_PUB_IDX 2, 3)] [cmr 2 40 3 0, olr] [] []) [(CMP_CTL_EN 2, 1), (CMP_L_CTL_EN 2 0, 1)], 2, 2, 3, by decide +kernel⟩,
   ⟨fc [] [] [] [], 3, by decide +kernel⟩,
   ⟨fc [(CMP_STATUS_COMPOSING 1, 1)] [] [] [], 1, by decide +kernel⟩,
   ⟨fc (plr ++ [(CMP_STATUS_COMPOSING 3, 1), (CMP_STATUS_OUT_BUF 3, 2)]) [cmr 3 4 2 2] [] [], 3, 4, 2, 0x12000, 384, 5, 2, by decide +kernel⟩,
   ⟨fc [] [] [] [], 1, by decide +kernel⟩,
   ⟨fc [(VFD_STATUS_LINK_STATE 1, 2), (CMP_STATUS_COMPOSING 1, 1)] [] [] [], 1, by decide +kernel⟩,
   ⟨vf 1 [] { idle := 3 }, 1, { idle := 3 }, 4, by decide +kernel⟩,
   ⟨vf 1 [] { dirty := [0, 1] }, 1, by decide +kernel⟩,
   ⟨vf 1 [] { dirty := [1], teLost := true }, 1, by decide +kernel⟩,
   ⟨vf 1 [] { dirty := [1] }, 1, by decide +kernel⟩,
   ⟨vf 1 [] { dirty := [1] }, 1, { dirty := [1] }, by decide +kernel⟩,
   ⟨vf 1 [] { teLost := true }, 1, by decide +kernel⟩⟩

end Sys2Proof.Tests.W32

namespace Sys2Proof.Tests.W32b

def cmr (n w h fmt : Nat) : CfgRec := ⟨8, 0x0801, n, overlay (List.replicate 32 0#8) 8 (le 2 w ++ le 2 h ++ le 1 fmt ++ le 1 5 ++ le 1 5)⟩
def vf (n : Nat) (l : List (Fld × Nat)) (x : CmpU) : State := (rs l).modify fun u => { u with glb := { u.glb with cfg := [cmr n 70 4 0] }, cmp := [(n, x)] }
def rg : Region := ⟨0, 63, 0, 3, 0x1234⟩
/-- States and operands that meet the hypotheses of ViewfinderLinks, clause by clause. -/
theorem test_witness_ViewfinderLinks :
    (∃ (s : State) (n : Fin 2) (crc : Nat) (g : Region) (l : List Region) (x : CmpU), x = s.u.cmp.look n {} ∧ x.regions = g :: l ∧ crc < 2 ^ 16 ∧ g.crc < 2 ^ 16 ∧ crc = g.crc)
    ∧ (∃ (s : State) (n : Fin 2) (crc : Nat) (g : Region) (x : CmpU), x = s.u.cmp.look n {} ∧ x.regions = [g] ∧ crc < 2 ^ 16 ∧ g.crc < 2 ^ 16 ∧ crc ≠ g.crc ∧ (Run.start s).hasCfg 0x0801 n = true)
    ∧ (∃ (s : State) (n : Fin 2), (s.u.cmp.look n {}).regions = [])
    ∧ (∃ (s : State) (n : Fin 2), s.rd (VFD_STATUS_LINK_STATE n) = 1 ∧ (s.u.cmp.look n {}).cmdWait = false)
    ∧ (∃ (s : State) (n : Fin 2), s.rd (VFD_STATUS_LINK_STATE n) ≠ 1)
    ∧ (∃ (s : State) (n : Fin 2), (s.rd (VFD_CMD_CTL_BUSY n) ≠ 0 ∨ 256 < s.rd (VFD_CMD_CTL_LEN n)))
    ∧ (∃ (s : State) (n : Fin 2) (len : Nat) (payload : List Byte) (x : CmpU), s.rd (VFD_CMD_CTL_BUSY n) = 0 ∧ len = s.rd (VFD_CMD_CTL_LEN n) ∧ len ≤ 256 ∧ s.rd (VFD_STATUS_LINK_STATE n) = 2 ∧ s.rd (CMP_STATUS_COMPOSING n) = 0 ∧ x = s.u.cmp.look n {} ∧ (payload = (if len = 0 then le 1 (s.rd (VFD_CMD_HDR_DATA0 n)) ++ le 1 (s.rd (VFD_CMD_HDR_DATA1 n)) else ((List.range 64).flatMap fun k => le 4 (s.rd (VFD_CMD_DATA n k))).take len)))
    ∧ (∃ (s : State) (n : Fin 2) (st : Nat), s.rd (VFD_CMD_CTL_BUSY n) = 0 ∧ s.rd (VFD_CMD_CTL_LEN n) ≤ 256 ∧ st = s.rd (VFD_STATUS_LINK_STATE n) ∧ (st ≠ 2 ∨ s.rd (CMP_STATUS_COMPOSING n) ≠ 0))
    ∧ (∃ (s : State) (n : Fin 2) (x : CmpU), x = s.u.cmp.look n {} ∧ x.cmdResp = true)
    ∧ (∃ (s : State) (n : Fin 2) (x : CmpU), x = s.u.cmp.look n {} ∧ x.cmdResp = true)
    ∧ (∃ (s : State) (n : Fin 2), (s.u.cmp.look n {}).cmdResp = false) :=
  ⟨⟨vf 1 [(VFD_STATUS_READBACK_FAIL 1, 1)] { regions := [rg] }, 1, 0x1234, rg, [], { regions := [rg] }, by decide +kernel⟩,
   ⟨vf 1 [] { regions := [rg], bad := 2 }, 1, 0x1235, rg, { regions := [rg], bad := 2 }, by decide +kernel⟩,
   ⟨vf 1 [] {}, 1, by decide +kernel⟩,
   ⟨vf 1 [(VFD_STATUS_LINK_STATE 1, 1)] {}, 1, by decide +kernel⟩,
   ⟨vf 1 [] {}, 1, by decide +kernel⟩,
   ⟨vf 1 [(VFD_CMD_CTL_LEN 1, 257)] {}, 1, by decide +kernel⟩,
   ⟨vf 1 [(VFD_STATUS_LINK_STATE 1, 2), (VFD_CMD_HDR_DT 1, 0x15), (VFD_CMD_HDR_DATA0 1, 0x11)] {}, 1, 0, [0x11#8, 0#8], {}, by decide +kernel⟩,
   ⟨vf 1 [(VFD_STATUS_LINK_STATE 1, 3)] {}, 1, 3, by decide +kernel⟩,
   ⟨vf 1 [(VFD_CMD_CTL_BUSY 1, 1)] { cmdResp := true }, 1, { cmdResp := true }, by decide +kernel⟩,
   ⟨vf 1 [(VFD_CMD_CTL_BUSY 1, 1)] { cmdResp := true }, 1, { cmdResp := true }, by decide +kernel⟩,
   ⟨vf 1 [] {}, 1, by decide +kernel⟩⟩

end Sys2Proof.Tests.W32b

namespace Sys2Proof.Tests.W33

def olc (w h : Nat) : CfgRec := ⟨7, 0x0701, 5, overlay (List.replicate 32 0#8) 8 ([2#8, 3#8, 0#8, 5#8] ++ le 2 w ++ le 2 h ++ [0#8, 0#8, 1#8, 0#8] ++ le 4 32)⟩
def encr : CfgRec := ⟨9, 0x0901, 0, overlay (List.replicate 32 0#8) 8 ([5#8, 4#8, 0#8, 0#8] ++ le 4 8 ++ le 4 1 ++ le 4 1)⟩
def en (l : List (Fld × Nat)) (e : EncU) : State := (rs ([(MEM_POLDER_BASE 5, 0x100000), (MEM_POLDER_SIZE 5, 0x40000), (MEM_POLDER_RIGHTS_WRITE 5, 0xFFFF), (MEM_POLDER_RIGHTS_READ 5, 0xFFFF), (ENC_FPS_NUM 0, 24), (ENC_FPS_DEN 0, 1), (ENC_RATE_BR 0, 200000), (ENC_CPB_CPB_SIZE 0, 10000), (ENC_INIT_DELAY_DELAY 0, 3000), (ENC_GOP_NUM_REF 0, 1)] ++ l)).modify fun u => { u with glb := { u.glb with phase := .run, cfg := [encr, olc 64 64] }, enc := [(0, e)], out := [(5, { order := [1], info := [(1, { fn := 9, no := 3 })] })] }
def pu : List (Fld × Nat) := [(ENC_STATUS_STATE 0, 1)]
def pi : PubInfo := { fn := 9, no := 3 }
def ep (ty ctu : Nat) (mc : Bool) (b : Option Nat) : EncPic := { type := ty, irap := ty == 0, idr := ty == 0, repeated := false, restart := false, info := pi, buf := b, limit := 6602, target := 5000, qp := 30, bits := 4000, ctu := ctu, minCost := mc, cur := 2 }
/-- States and operands that meet the hypotheses of ProxyEncoder, clause by clause. -/
theorem test_witness_ProxyEncoder :
    (∃ (s : State) (n : Fin 2) (br : Nat) (cpb : Nat) (num : Nat) (den : Nat) (del : Nat) (mI : Nat) (w : Nat) (h : Nat), s.rd (ENC_STATUS_STATE n) = 0 ∧ (Run.start s).isCofferdam 8 n = false ∧ br = s.rd (ENC_RATE_BR n) ∧ cpb = s.rd (ENC_CPB_CPB_SIZE n) ∧ num = s.rd (ENC_FPS_NUM n) ∧ den = s.rd (ENC_FPS_DEN n) ∧ del = s.rd (ENC_INIT_DELAY_DELAY n) ∧ w = ((Run.start s).encSize n).1 ∧ h = ((Run.start s).encSize n).2 ∧ (mI = 3584 + 512 * (if s.rd (ENC_SEQ_SLICE_ROWS n) = 0 then 1 else ceilDiv ((h + 63) / 64) (s.rd (ENC_SEQ_SLICE_ROWS n))) + 48 * ((w + 63) / 64 * ((h + 63) / 64)) + 128))
    ∧ (∃ (s : State) (n : Fin 2), (s.rd (ENC_STATUS_STATE n) ≠ 0 ∨ (Run.start s).isCofferdam 8 n = true))
    ∧ (∃ (s : State) (n : Fin 2), s.rd (ENC_STATUS_STATE n) = 0)
    ∧ (∃ (s : State) (n : Fin 2), s.rd (ENC_STATUS_STATE n) ≠ 0 ∧ (s.encOf n).pic ≠ none)
    ∧ (∃ (s : State) (n : Fin 2), s.rd (ENC_STATUS_STATE n) ≠ 0 ∧ (s.encOf n).pic = none ∧ ((s.encOf n).first = true ∨ (Run.start s).encFree n < 128))
    ∧ (∃ (s : State) (n : Fin 2) (q : Nat), s.rd (ENC_STATUS_STATE n) ≠ 0 ∧ (s.encOf n).pic = none ∧ (s.encOf n).first = false ∧ 128 ≤ (Run.start s).encFree n ∧ s.encHome n q)
    ∧ (∃ (s : State) (n : Fin 2), (s.rd (ENC_STATUS_STATE n) ≠ 1 ∨ (s.encOf n).pic ≠ none ∨ (Run.start s).isResetting 8 n = true ∨ (Run.start s).duty 2 = false ∨ (Run.start s).nextPub n = none))
    ∧ (∃ (s : State) (n : Fin 2) (o : Nat) (b : Nat) (i : PubInfo), s.encReady n (o, b, i) ∧ (Run.start s).ringShort n ((Run.start s).nextPic n o i) = true)
    ∧ (∃ (s : State) (n : Fin 2) (o : Nat) (b : Nat) (full : Nat) (i : PubInfo) (due : Bool) (irap : Bool) (idr : Bool) (u : EncU), s.encReady n (o, b, i) ∧ (Run.start s).ringShort n .plain = false ∧ (Run.start s).nextPic n o i = .plain ∧ s.pubReadable o b ∧ b < 4 ∧ u = s.encOf n ∧ full = u.full ∧ due = (u.irapDue || s.rdA (ENC_PIC_FORCE_IRAP n) == 1 || s.rd (ENC_GOP_INTRA_PERIOD n) != 0 && !u.first && u.since % s.rd (ENC_GOP_INTRA_PERIOD n) == 0) ∧ irap = (u.first || due) ∧ idr = (u.first || due && s.rd (ENC_GOP_IRAP_IDR n) != 0))
    ∧ (∃ (s : State) (n : Fin 2) (o : Nat) (b : Nat) (fn : Nat) (i : PubInfo), s.encReady n (o, b, i) ∧ (Run.start s).ringShort n (.repeated fn) = false ∧ (Run.start s).nextPic n o i = .repeated fn)
    ∧ (∃ (s : State) (n : Fin 2) (o : Nat) (b : Nat) (cause : Nat) (q : Nat) (full : Nat) (i : PubInfo), s.encReady n (o, b, i) ∧ (Run.start s).ringShort n (.restart cause) = false ∧ (Run.start s).nextPic n o i = .restart cause ∧ s.pubReadable o b ∧ b < 4 ∧ s.encHome n q ∧ s.rd GLB_TIDE_DEFERRED < 2 ^ 64 ∧ full = (2 * (s.rd (ENC_RATE_BR n) * s.rd (ENC_INIT_DELAY_DELAY n)) * 65536 + 90000) / 180000)
    ∧ (∃ (s : State) (n : Fin 2), ((∀ p, (s.encOf n).pic = some p → p.minCost = true ∨ (Run.start s).ctuCount n ≤ p.ctu)))
    ∧ (∃ (s : State) (n : Fin 2) (beta : Nat) (coded : Nat) (cols : Nat) (rows : Nat) (c : Nat) (sum : Nat) (p : EncPic), (s.encOf n).pic = some p ∧ p.minCost = false ∧ p.ctu < cols * rows ∧ cols = ((Run.start s).ctus n).1 ∧ rows = ((Run.start s).ctus n).2 ∧ p.bits + beta + (Run.start s).freeboard n p.type p.ctu ≤ p.limit ∧ c = p.ctu + 1 ∧ sum = p.bits + min coded beta)
    ∧ (∃ (s : State) (n : Fin 2) (beta : Nat) (p : EncPic), (s.encOf n).pic = some p ∧ p.minCost = false ∧ p.ctu < (Run.start s).ctuCount n ∧ p.limit < p.bits + beta + (Run.start s).freeboard n p.type p.ctu)
    ∧ (∃ (s : State) (n : Fin 2), ((∀ p, (s.encOf n).pic = some p → p.minCost = false ∧ p.ctu < (Run.start s).ctuCount n)))
    ∧ (∃ (s : State) (n : Fin 2) (size : Nat) (q : Nat) (coded : Nat) (fill : Nat) (per : Nat) (b : Nat) (a : Nat) (cpb : Nat) (p : EncPic) (u : EncU), u = s.encOf n ∧ u.pic = some p ∧ (p.minCost = true ∨ (Run.start s).ctuCount n ≤ p.ctu) ∧ s.rd (ENC_STATUS_STATE n) = 1 ∧ s.encHome n q ∧ cpb = s.rd (ENC_CPB_CPB_SIZE n) ∧ coded = (Run.start s).codedSize n p size ∧ per = (Run.start s).perPicture n ∧ (fill = (if s.rd (ENC_SEQ_CBR n) = 0 then 0 else fillerBytes u.full (8 * coded) per cpb)) ∧ b = 8 * (coded + fill) ∧ recordBytes (coded + fill) ≤ (Run.start s).ringSize n ∧ a = (Run.start s).poolBuffer n p.cur ∧ s.rd (MEM_POLDER_BASE q) ≤ a ∧ a + poolBytes ((Run.start s).encSize n).1 ((Run.start s).encSize n).2 ≤ s.rd (MEM_POLDER_BASE q) + s.rd (MEM_POLDER_SIZE q) ∧ (p.type = 0 ∨ (∀ x ∈ u.refs, (Run.start s).allowed 7 false ((Run.start s).poolBuffer n x.1) (poolBytes ((Run.start s).encSize n).1 ((Run.start s).encSize n).2) = true)))
    ∧ (∃ (s : State) (n : Fin 2) (p : EncPic), (s.encOf n).pic = some p ∧ (p.minCost = true ∨ (Run.start s).ctuCount n ≤ p.ctu) ∧ p.type ≠ 0 ∧ p.buf = none ∧ s.rd (ENC_STATUS_STATE n) = 1 ∧ (((s.encOf n).refs.map fun x => (Run.start s).peekMem 7 ((Run.start s).poolBuffer n x.1) (poolBytes ((Run.start s).encSize n).1 ((Run.start s).encSize n).2)).any Got.poison = true))
    ∧ (∃ (s : State) (n : Fin 2) (v : Nat), v % 64 = 0 ∧ v < (Run.start s).ringSize n ∧ v < 2 ^ 32 ∧ (Run.start s).proxyRuns n = false)
    ∧ (∃ (s : State) (n : Fin 2) (v : Nat), (v % 64 ≠ 0 ∨ (Run.start s).ringSize n ≤ v ∨ (Run.start s).proxyRuns n = true))
    ∧ (∃ (s : State) (n : Fin 2), ((Run.start s).isCofferdam 8 n = true ∨ (Run.start s).isResetting 8 n = true))
    ∧ (∃ (s : State) (n : Fin 2), (Run.start s).isCofferdam 8 n = false ∧ (Run.start s).isResetting 8 n = false ∧ (s.rd (ENC_STATUS_STATE n) = 0 ∨ (s.encOf n).first = true) ∧ (s.encOf n).pic = none)
    ∧ (∃ (s : State) (n : Fin 2) (p : EncPic), (Run.start s).isCofferdam 8 n = false ∧ (Run.start s).isResetting 8 n = false ∧ s.rd (ENC_STATUS_STATE n) = 1 ∧ (s.encOf n).pic = some p ∧ s.recentFaults 8 n < 2) :=
  ⟨⟨en [] {}, 0, 200000, 10000, 24, 1, 3000, 3584 + 512 + 48 + 128, 64, 64, by decide +kernel⟩,
   ⟨en [(ENC_STATUS_STATE 0, 1)] {}, 0, by decide +kernel⟩,
   ⟨en [] {}, 0, by decide +kernel⟩,
   ⟨en [(ENC_STATUS_STATE 0, 1)] { pic := some (ep 0 0 false none) }, 0, by decide +kernel⟩,
   ⟨en [(ENC_STATUS_STATE 0, 1)] { first := true }, 0, by decide +kernel⟩,
   ⟨en [(ENC_STATUS_STATE 0, 1), (ENC_OUT_WR_WR 0, 4032), (ENC_OUT_RD_RD 0, 2048)] { poc := 7, records := 4 }, 0, 5, by decide +kernel⟩,
   ⟨en [(ENC_STATUS_STATE 0, 2)] {}, 0, by decide +kernel⟩,
   ⟨en pu { full := 70000 * 65536 }, 0, 5, 1, pi, by decide +kernel⟩,
   ⟨en pu { full := 5000 * 65536, first := true, free := [1, 2] }, 0, 5, 1, 5000 * 65536, pi, false, true, true, { full := 5000 * 65536, first := true, free := [1, 2] }, by decide +kernel⟩,
   ⟨en pu { full := 5000 * 65536, lastFn := some 7, free := [1, 2] }, 0, 5, 1, 8, pi, by decide +kernel⟩,
   ⟨en pu { full := 5000 * 65536, stalled := true, free := [1, 2] }, 0, 5, 1, 2, 5, (2 * (200000 * 3000) * 65536 + 90000) / 180000, pi, by decide +kernel⟩,
   ⟨en [(ENC_STATUS_STATE 0, 1)] { pic := some (ep 0 0 true none) }, 0, by decide +kernel⟩,
   ⟨en [(ENC_STATUS_STATE 0, 1), (OUT_STATUS_HELD 5, 3)] { pic := some (ep 0 0 false (some 1)) }, 0, 500, 400, 1, 1, 1, 4400, ep 0 0 false (some 1), by decide +kernel⟩,
   ⟨en [(ENC_STATUS_STATE 0, 1)] { pic := some (ep 0 0 false none) }, 0, 5000, ep 0 0 false none, by decide +kernel⟩,
   ⟨en [(ENC_STATUS_STATE 0, 1)] { pic := some (ep 0 0 false none) }, 0, by decide +kernel⟩,
   ⟨en [(ENC_STATUS_STATE 0, 1), (OUT_STATUS_HELD 5, 3), (ENC_OUT_WR_WR 0, 3840)] { pic := some (ep 0 1 false (some 1)), full := 6602 * 65536, first := true }, 0, 501, 5, 501, 0, (2 * 200000 * 65536 + 24) / 48, 4008, 0x100000 + 8 * 4096 + 2 * 4096 * 5, 10000, ep 0 1 false (some 1), { pic := some (ep 0 1 false (some 1)), full := 6602 * 65536, first := true }, by decide +kernel⟩,
   ⟨(en [(ENC_STATUS_STATE 0, 1)] { pic := some (ep 1 1 false none), refs := [(1, 4)] }).modify fun u => { u with mem := { u.mem with poison := [0x100000 + 8 * 4096 + 4096 * 5] } }, 0, ep 1 1 false none, by decide +kernel⟩,
   ⟨en [] {}, 0, 64, by decide +kernel⟩,
   ⟨en [] {}, 0, 65, by decide +kernel⟩,
   ⟨(en [] {}).modify fun u => { u with evt := { u.evt with resetting := [128] } }, 0, by decide +kernel⟩,
   ⟨en [] {}, 0, by decide +kernel⟩,
   ⟨en [(ENC_STATUS_STATE 0, 1), (OUT_STATUS_HELD 5, 3)] { pic := some (ep 0 1 false (some 1)) }, 0, ep 0 1 false (some 1), by decide +kernel⟩⟩

end Sys2Proof.Tests.W33

namespace Sys2Proof.Tests.W33b

def decr : CfgRec := ⟨9, 0x0902, 0, overlay (List.replicate 32 0#8) 8 ([5#8, 6#8, 2#8, 0#8] ++ le 4 0 ++ le 4 1 ++ le 4 1 ++ le 4 2)⟩
def de (l : List (Fld × Nat)) (e : DecU) : State := (rs ([(MEM_POLDER_BASE 5, 0x100000), (MEM_POLDER_SIZE 5, 0x9100000), (MEM_POLDER_RIGHTS_WRITE 5, 0xFFFF), (MEM_POLDER_RIGHTS_READ 5, 0xFFFF)] ++ l)).modify fun u => { u with glb := { u.glb with phase := .run, cfg := [decr] }, dec := e }
def sp (pr dpb : Nat) : Sps := { profile := pr, w := 16, h := 8, rate := 1000, dpb := dpb, chroma := 1, depth8 := true, ctb := 4 }
def run5 : List (Fld × Nat) := [(DEC_STATUS_RUNNING, 1), (DEC_IN_RD_RD, 4090), (DEC_IN_WR_WR, 100)]
/-- States and operands that meet the hypotheses of ProxyDecoder, clause by clause. -/
theorem test_witness_ProxyDecoder :
    (∃ (s : State), ((Run.start s).recording = true ∨ (Run.start s).isCofferdam 9 0 = true ∨ (Run.start s).hasCfg 0x0902 0 = false))
    ∧ (∃ (s : State), (Run.start s).recording = false ∧ (Run.start s).isCofferdam 9 0 = false ∧ (Run.start s).hasCfg 0x0902 0 = true ∧ s.rd DEC_STATUS_RUNNING ≠ 0)
    ∧ (∃ (s : State), (Run.start s).recording = false ∧ (Run.start s).isCofferdam 9 0 = false ∧ (Run.start s).hasCfg 0x0902 0 = true ∧ s.rd DEC_STATUS_RUNNING = 0 ∧ (Run.start s).snaps 46 = [] ∧ s.rd GLB_TIDE_DEFERRED < 2 ^ 64)
    ∧ (∃ (s : State), s.rd DEC_STATUS_RUNNING = 0)
    ∧ (∃ (s : State), s.rd DEC_STATUS_RUNNING ≠ 0 ∧ s.rd DEC_IN_RD_RD = s.rd DEC_IN_WR_WR)
    ∧ (∃ (s : State), s.rd DEC_STATUS_RUNNING ≠ 0 ∧ s.rd DEC_IN_RD_RD ≠ s.rd DEC_IN_WR_WR)
    ∧ (∃ (s : State) (v : Nat), (Run.start s).decRing ≤ v)
    ∧ (∃ (s : State) (v : Nat), v < (Run.start s).decRing ∧ v < 2 ^ 32 ∧ (Run.start s).snaps 46 = [] ∧ s.rd GLB_TIDE_DEFERRED < 2 ^ 64)
    ∧ (∃ (s : State), s.rd DEC_STATUS_RUNNING ≠ 0 ∧ s.u.dec.starved = false)
    ∧ (∃ (s : State), (s.rd DEC_STATUS_RUNNING = 0 ∨ s.u.dec.starved = true))
    ∧ (∃ (s : State) (n : Nat), (s.rd DEC_STATUS_RUNNING = 0 ∨ (Run.start s).isResetting 9 0 = true ∨ (s.rd DEC_IN_WR_WR + max 1 (Run.start s).decRing - s.rd DEC_IN_RD_RD) % max 1 (Run.start s).decRing < n))
    ∧ (∃ (s : State) (n : Nat), s.decTakes n)
    ∧ (∃ (s : State) (n : Nat) (sps : Option Sps), s.decTakes n ∧ sps = none ∧ (s.u.dec.sps = none ∨ s.u.dec.deaf = true ∨ s.u.dec.any = false))
    ∧ (∃ (s : State) (n : Nat) (p : Sps), s.decTakes n ∧ (2 < p.profile ∨ 4096 < p.w ∨ 2304 < p.h ∨ 1061683200 < p.rate ∨ (Run.start s).decN 9 1 < p.dpb))
    ∧ (∃ (s : State) (n : Nat) (k : Nat) (len : Nat) (sps : Option Sps) (p : Sps), s.decTakes n ∧ (sps.or s.u.dec.sps) = some p ∧ (sps = none ∧ s.u.dec.deaf = false ∧ s.u.dec.any = true ∨ sps ≠ none ∧ p.profile ≤ 2 ∧ p.w ≤ 4096 ∧ p.h ≤ 2304 ∧ p.rate ≤ 1061683200 ∧ p.dpb ≤ (Run.start s).decN 9 1) ∧ (Run.start s).decNext = some k ∧ k < 8 ∧ (len = (decImage (s.rdA DEC_OUT_CTL_OUT_FMT) p.w p.h fun _ _ _ => 0).length) ∧ (Run.start s).allowed 8 true ((Run.start s).decBuffer k) len = true)
    ∧ (∃ (s : State) (n : Nat) (sps : Option Sps), s.decTakes n ∧ (sps.or s.u.dec.sps) ≠ none ∧ (sps = none ∧ s.u.dec.deaf = false ∧ s.u.dec.any = true ∨ ((sps.map (Run.start s).spsBad) = some 0)) ∧ (Run.start s).decNext = none)
    ∧ (∃ (s : State), ((Run.start s).isCofferdam 9 0 = true ∨ (Run.start s).isResetting 9 0 = true))
    ∧ (∃ (s : State), (Run.start s).isCofferdam 9 0 = false ∧ (Run.start s).isResetting 9 0 = false)
    ∧ (∃ (s : State) (n : Nat) (k : Nat) (len : Nat) (p : Sps), s.decTakes n ∧ s.u.dec.sps = some p ∧ s.u.dec.deaf = false ∧ s.u.dec.any = true ∧ (Run.start s).isCofferdam 9 0 = false ∧ s.recentFaults 9 0 < 2 ∧ (Run.start s).decNext = some k ∧ k < 8 ∧ (len = (decImage (s.rdA DEC_OUT_CTL_OUT_FMT) p.w p.h fun _ _ _ => 0).length) ∧ (Run.start s).allowed 8 true ((Run.start s).decBuffer k) len = true) :=
  ⟨⟨rs [], by decide +kernel⟩,
   ⟨de [(DEC_STATUS_RUNNING, 1)] {}, by decide +kernel⟩,
   ⟨de [(DEC_IN_WR_WR, 64)] { nextOut := 1, any := true }, by decide +kernel⟩,
   ⟨de [] {}, by decide +kernel⟩,
   ⟨de [(DEC_STATUS_RUNNING, 1)] {}, by decide +kernel⟩,
   ⟨de run5 {}, by decide +kernel⟩,
   ⟨de [] {}, 4096, by decide +kernel⟩,
   ⟨de [(DEC_STATUS_RUNNING, 1)] { starved := true }, 128, by decide +kernel⟩,
   ⟨de [(DEC_STATUS_RUNNING, 1)] {}, by decide +kernel⟩,
   ⟨de [(DEC_STATUS_RUNNING, 1)] { starved := true }, by decide +kernel⟩,
   ⟨de run5 {}, 107, by decide +kernel⟩,
   ⟨de run5 { begun := true }, 50, by decide +kernel⟩,
   ⟨de run5 { begun := true }, 50, none, by decide +kernel⟩,
   ⟨de run5 { begun := true }, 50, sp 3 4, by decide +kernel⟩,
   ⟨de run5 { begun := true }, 50, 0, 1024, some (sp 2 4), sp 2 4, by decide +kernel⟩,
   ⟨((de run5 { begun := true }).wrA (CMP_L_ADDR_ADDR 0 2) 1056768 |>.wrA (CMP_L_ADDR_ADDR 0 3) 76554240).modify fun u => { u with glb := { u.glb with cfg := u.glb.cfg ++ [⟨8, 0x0801, 0, []⟩] } }, 50, some (sp 2 4), by decide +kernel⟩,
   ⟨(de run5 {}).modify fun u => { u with evt := { u.evt with resetting := [144] } }, by decide +kernel⟩,
   ⟨de run5 {}, by decide +kernel⟩,
   ⟨de run5 { begun := true, sps := some (sp 2 4), any := true }, 50, 0, 1024, sp 2 4, by decide +kernel⟩⟩

end Sys2Proof.Tests.W33b

namespace Sys2Proof.Tests.W34

/-- States and operands that meet the hypotheses of TimeBaseCommands, clause by clause. -/
theorem test_witness_TimeBaseCommands :
    (∃ (s : State) (n : Fin 4) (v : Nat), 0x03800000 ≤ v ∧ v ≤ 0x04800000 ∧ s.rd (TIM_TB_CTL_SERVO_EN n) = 0)
    ∧ (∃ (s : State) (n : Fin 4) (v : Nat), (v < 0x03800000 ∨ 0x04800000 < v ∨ s.rd (TIM_TB_CTL_SERVO_EN n) ≠ 0))
    ∧ (∃ (s : State) (n : Fin 4) (v : Nat), s.rd (TIM_TB_CTL_SERVO_EN n) = 0 ∧ 0 ≤ ((s.base n).t : Int) + signed 64 v * 2 ^ 32)
    ∧ (∃ (s : State) (n : Fin 4) (v : Nat), (s.rd (TIM_TB_CTL_SERVO_EN n) ≠ 0 ∨ ((s.base n).t : Int) + signed 64 v * 2 ^ 32 < 0))
    ∧ (∃ (s : State), s.rd (THM_TS_VALID (s.rd TIM_COMP_CTL_SENSOR)) ≠ 0 ∧ bit (s.rd THM_RETIRED) (s.rd TIM_COMP_CTL_SENSOR) = false)
    ∧ (∃ (s : State), (s.rd (THM_TS_VALID (s.rd TIM_COMP_CTL_SENSOR)) = 0 ∨ bit (s.rd THM_RETIRED) (s.rd TIM_COMP_CTL_SENSOR) = true))
    ∧ (∃ (s : State) (n : Fin 4) (o : Int), n.val < 2 ∧ s.rd (TIM_TB_CTL_STATE n) = 1 ∧ 2000 < o.natAbs ∧ (Run.start s).duty 3 = true)
    ∧ (∃ (s : State) (n : Fin 4), (s.rd (TIM_TB_CTL_STATE n) = 0 ∨ (Run.start s).duty 3 = false))
    ∧ (∃ (s : State) (n : Fin 4), (s.base n).present = false)
    ∧ (∃ (s : State) (n : Fin 4), (s.base n).present = true ∧ (s.rd (TIM_TB_CTL_STATE n) = 1 ∨ s.rd (TIM_TB_CTL_STATE n) = 2))
    ∧ (∃ (s : State) (n : Fin 4), bit (s.rd EVT_COFFERDAM_UNITS_TB) n = false ∧ s.rd TIM_TSEL_CTL_ALT < 4) :=
  ⟨⟨rs [(TIM_TB_EFF_INCR 2, 9)], 2, 0x04800000, by decide +kernel⟩,
   ⟨rs [], 2, 0x0480000a, by decide +kernel⟩,
   ⟨(rs [(TIM_TSEL_STATUS_ESTABLISHED, 1)]).modify fun u => { u with tim := { u.tim with tb := [(0, { t := 2^60 }), (2, { t := 5 })] } }, 0, 0xFFFFFFFFFFFFFFF0, by decide +kernel⟩,
   ⟨rs [(TIM_TB_CTL_SERVO_EN 1, 1)], 1, 9, by decide +kernel⟩,
   ⟨rs [(THM_TS_VALID 0, 1), (THM_TS_TEMP 0, 100), (TIM_COMP 0, 5), (TIM_COMP 3, 99)], by decide +kernel⟩,
   ⟨rs [], by decide +kernel⟩,
   ⟨(rs [(TIM_TB_CTL_STATE 1, 1)]).modify fun u => { u with glb := { u.glb with phase := .run }, tim := { u.tim with tb := [(0, { t := 2^60 }), (1, { t := 2^70 })] } }, 1, 5000, by decide +kernel⟩,
   ⟨rs [(TIM_TB_CTL_STATE 1, 0)], 1, by decide +kernel⟩,
   ⟨rs [(TIM_TB_CTL_STATE 1, 2)], 1, by decide +kernel⟩,
   ⟨(rs [(TIM_TB_CTL_STATE 1, 2)]).modify fun u => { u with tim := { u.tim with tb := [(1, { present := true })] } }, 1, by decide +kernel⟩,
   ⟨rs [(TIM_TB_CTL_STATE 1, 2), (TIM_TSEL_STATUS_SRC_USED, 1)], 1, by decide +kernel⟩⟩

end Sys2Proof.Tests.W34

namespace Sys2Proof.Tests.W35

def mc (st : Nat) (x : MemCh) : State := (rs [(MEM_CH_STATUS_STATE 3, st), (MEM_XOR_MASK 0, 1), (MEM_CFG_CH_LOG2, 30), (MEM_NRR_PROB, 0)]).modify fun u => { u with mem := { u.mem with ch := [(3, x)] } }
def rq : List MemReq := [⟨1, false, 0x300⟩, ⟨0, false, 0x1300⟩, ⟨0, true, 0x2300⟩]
/-- States and operands that meet the hypotheses of DramChannels, clause by clause. -/
theorem test_witness_DramChannels :
    (∃ (s : State) (c : Fin 16) (st : Nat), st = s.rd (MEM_CH_STATUS_STATE c))
    ∧ (∃ (s : State) (c : Fin 16), s.rd (MEM_CH_STATUS_STATE c) = 2)
    ∧ (∃ (bank : Nat → Nat) (q : MemCh) (busy : List Nat) (waited : Bool) (turn : Bool) (m : MemReq), pickRequest bank q busy waited = some (m, turn))
    ∧ (∃ (s : State) (c : Fin 16) (l : List (Traffic × Bool × Nat)) (busy : List (Fin 16)) (waited : Bool) (x : MemCh), (s.rd (MEM_CH_STATUS_STATE c) = 2 ∨ s.rd (MEM_CH_STATUS_STATE c) = 3) ∧ (x = { (Run.start s).memCh c with queue := ((Run.start s).memCh c).queue ++ (l.map fun q => ⟨trafficClass q.1, q.2.1, q.2.2⟩).filter fun q => channelOf q.addr == c.val }) ∧ (pickRequest (fun a => (Run.start s).bankOf (localAddr a)) x (busy.map Fin.val) waited = none))
    ∧ (∃ (s : State) (c : Fin 16) (l : List (Traffic × Bool × Nat)) (busy : List (Fin 16)) (waited : Bool) (turn : Bool) (res : Fin 4) (x : MemCh) (m : MemReq) (bank : Nat) (row : Nat) (b : Nat) (v : Nat) (nb : List Out), (s.rd (MEM_CH_STATUS_STATE c) = 2 ∨ s.rd (MEM_CH_STATUS_STATE c) = 3) ∧ (x = { (Run.start s).memCh c with queue := ((Run.start s).memCh c).queue ++ (l.map fun q => ⟨trafficClass q.1, q.2.1, q.2.2⟩).filter fun q => channelOf q.addr == c.val }) ∧ (pickRequest (fun a => (Run.start s).bankOf (localAddr a)) x (busy.map Fin.val) waited = some (m, turn)) ∧ bank = (Run.start s).bankOf (localAddr m.addr) ∧ row = (Run.start s).rowOf (localAddr m.addr) ∧ b = m.addr / 256 * 256 ∧ (v = (List.range 16).foldl (fun v _ => nrrStep v) (x.lfsr.getD (Config.free s.fresh % 2 ^ 32))) ∧ (nb = (if v % 2 ^ 16 < s.rd MEM_NRR_PROB then ((if row = 0 then [] else [row - 1]) ++ if row + 1 < (Run.start s).rowCount then [row + 1] else []).map fun n => Out.packet (160 + c) 1 [bank, n] [] else [])) ∧ (m.write = true ∨ res.val < 2))
    ∧ (∃ (s : State) (c : Fin 16) (busy : List (Fin 16)) (waited : Bool) (turn : Bool) (m : MemReq) (b : Nat) (bad : List (Nat × Nat)), (s.rd (MEM_CH_STATUS_STATE c) = 2 ∨ s.rd (MEM_CH_STATUS_STATE c) = 3) ∧ bit (s.rd MEM_CFG_RETIRED) c = false ∧ (pickRequest (fun a => (Run.start s).bankOf (localAddr a)) ((Run.start s).memCh c) (busy.map Fin.val) waited = some (m, turn)) ∧ m.write = false ∧ b = m.addr / 256 * 256 ∧ channelOf m.addr = c ∧ (Run.start s).recPolder = none ∧ (bad = (b, (Run.start s).tselNs) :: ((Run.start s).memCh c).bad.filter (fun x => x.1 != b && (Run.start s).tselNs ≤ x.2 + 1000000)))
    ∧ (∃ (s : State) (v : Nat) (c : Fin 16), s.u.mem.due = [] ∧ ((∀ k < 16, s.rd (MEM_CH_STATUS_STATE k) ≠ 3)) ∧ s.rd (MEM_CH_STATUS_STATE c) = 2 ∧ bit v c = true ∧ ((∀ k < c.val, bit v k = true → s.rd (MEM_CH_STATUS_STATE k) ≠ 2)))
    ∧ (∃ (s : State) (c : Fin 16), s.u.mem.due = [] ∧ s.rd (MEM_CH_STATUS_STATE c) = 3)
    ∧ (∃ (s : State) (c : Fin 16) (x : MemCh), s.rd (MEM_CH_STATUS_STATE c) = 3 ∧ x = (Run.start s).memCh c ∧ s.u.mem.due = [] ∧ s.rd MEM_RETRAIN_REQ < 2 ^ 16)
    ∧ (∃ (s : State) (c : Fin 16) (x : MemCh), s.rd (MEM_CH_STATUS_STATE c) = 3 ∧ x = (Run.start s).memCh c ∧ x.fails = 0)
    ∧ (∃ (s : State) (c : Fin 16), s.rd (MEM_CH_STATUS_STATE c) = 3 ∧ 1 ≤ ((Run.start s).memCh c).fails ∧ s.rd MEM_CFG_RETIRED = 0 ∧ s.u.mem.due = []) :=
  ⟨⟨mc 4 {}, 3, 4, by decide +kernel⟩,
   ⟨mc 2 {}, 3, by decide +kernel⟩,
   ⟨fun a => a / 4096 % 16, { queue := rq, batch := 16 }, [], false, true, ⟨0, true, 0x2300⟩, by and_intros <;> first | decide +kernel | rfl⟩,
   ⟨mc 2 {}, 3, [(.audio, false, 0x300)], [0, 1], false, { queue := [⟨1, false, 0x300⟩] }, by decide +kernel⟩,
   ⟨mc 2 { lfsr := some 7, queue := rq }, 3, [], [], false, false, 1, { lfsr := some 7, queue := rq }, ⟨0, false, 0x1300⟩, 0, 0, 0x1300, (List.range 16).foldl (fun v _ => nrrStep v) 7, [], by decide +kernel⟩,
   ⟨mc 2 { queue := rq }, 3, [], false, false, ⟨0, false, 0x1300⟩, 0x1300, [(0x1300, 0)], by decide +kernel⟩,
   ⟨mc 2 {}, 0x18, 3, by decide +kernel⟩,
   ⟨mc 3 {}, 3, by decide +kernel⟩,
   ⟨mc 3 { steps := 7 }, 3, { steps := 7 }, by decide +kernel⟩,
   ⟨mc 3 { steps := 7 }, 3, { steps := 7 }, by decide +kernel⟩,
   ⟨mc 3 { fails := 1 }, 3, by decide +kernel⟩⟩

end Sys2Proof.Tests.W35

namespace Sys2Proof.Tests.W36

def dmaS (bs : List Byte) (x : DmaCh) (l : List (Fld × Nat)) : State := (rs ([(DMA_STATUS_STATE 3, 1), (DMA_PC_ADDR 3, 64)] ++ l)).modify fun u => { u with dma := { u.dma with ch := [(3, x)], sram := (List.range 32).zip bs |>.map fun p => (64 + p.1, p.2) } }
def ins (opc arg fl a b c d : Nat) : List Byte := le 1 opc ++ le 1 arg ++ le 1 fl ++ le 1 0 ++ le 4 a ++ le 8 b ++ le 8 c ++ le 8 d
/-- States and operands that meet the hypotheses of DmaPrograms, clause by clause. -/
theorem test_witness_DmaPrograms :
    (∃ (s : State) (n : Fin 32) (pc : Nat), pc = s.rd (DMA_PC_ADDR n) ∧ pc < 2 ^ 64 ∧ ((Run.start s).dmaCh n).flight.length < 8 ∧ s.rd (DMA_STATUS_STATE n) ≠ 1 ∧ s.rd (DMA_STATUS_STATE n) ≠ 2 ∧ pc % 32 = 0 ∧ (pc < (if s.rd (DMA_CTL_PSPACE n) = 0 then sramSize else Config.dramBytes)))
    ∧ (∃ (s : State) (n : Fin 32), (s.rd (DMA_STATUS_STATE n) = 1 ∨ s.rd (DMA_STATUS_STATE n) = 2 ∨ s.rd (DMA_PC_ADDR n) % 32 ≠ 0 ∨ (if s.rd (DMA_CTL_PSPACE n) = 0 then sramSize else Config.dramBytes) ≤ s.rd (DMA_PC_ADDR n)))
    ∧ (∃ (s : State) (n : Fin 32), s.rd (DMA_STATUS_STATE n) ≠ 1 ∧ s.rd (DMA_STATUS_STATE n) ≠ 2)
    ∧ (∃ (s : State) (n : Fin 32), (s.rd (DMA_STATUS_STATE n) = 1 ∨ s.rd (DMA_STATUS_STATE n) = 2) ∧ ((Run.start s).dmaCh n).flight = [])
    ∧ (∃ (s : State) (n : Fin 32) (u : Nat) (m : DmaMove) (bs : List Byte), (s.rd (DMA_STATUS_STATE n) = 1 ∨ s.rd (DMA_STATUS_STATE n) = 2) ∧ ((Run.start s).dmaCh n).flight = [m] ∧ m.dspace = 1 ∧ bs = m.data.take (4096 * u))
    ∧ (∃ (s : State) (n : Fin 32) (pc : Nat) (ss : Nat) (ds : Nat) (len : Nat) (src : Nat) (dst : Nat) (pat : Nat) (sa : Nat) (da : Nat) (c : DmaCh), s.dmaAt n pc (.move ss ds len src dst pat) ∧ c = (Run.start s).dmaCh n ∧ sa = (src + offsetSum c.os) % 2 ^ 64 ∧ da = (dst + offsetSum c.od) % 2 ^ 64 ∧ c.flight.length < 4 ∧ (ss ≠ 3 → c.heldBack ss sa len = false) ∧ c.heldBack ds da len = false ∧ c.readPending ds da len = false ∧ (ss ≠ 3 → (Run.start s).dmaInSpace ss false sa len = true) ∧ (Run.start s).dmaInSpace ds true da len = true ∧ ((ss = 2 ∨ ds = 2 → (Run.start s).mayRequest = true)) ∧ (ss = 0 → (Run.start s).poisonedBlock sa len = none))
    ∧ (∃ (s : State) (n : Fin 32) (pc : Nat) (ss : Nat) (ds : Nat) (len : Nat) (src : Nat) (dst : Nat) (pat : Nat) (c : DmaCh), s.dmaAt n pc (.move ss ds len src dst pat) ∧ c = (Run.start s).dmaCh n ∧ (4 ≤ c.flight.length ∨ (ss ≠ 3 ∧ c.heldBack ss ((src + offsetSum c.os) % 2 ^ 64) len = true) ∨ c.heldBack ds ((dst + offsetSum c.od) % 2 ^ 64) len = true ∨ c.readPending ds ((dst + offsetSum c.od) % 2 ^ 64) len = true))
    ∧ (∃ (s : State) (n : Fin 32) (pc : Nat) (ss : Nat) (ds : Nat) (len : Nat) (src : Nat) (dst : Nat) (pat : Nat) (da : Nat), s.dmaAt n pc (.move ss ds len src dst pat) ∧ ((Run.start s).dmaCh n).flight = [] ∧ da = (dst + offsetSum ((Run.start s).dmaCh n).od) % 2 ^ 64 ∧ ss = 3 ∧ (Run.start s).dmaInSpace ds true da len = false)
    ∧ (∃ (s : State) (n : Fin 32) (k : Fin 4) (data : Option (List Byte)) (m : DmaMove) (bs : List Byte) (c : DmaCh), c = (Run.start s).dmaCh n ∧ c.flight[k.val]? = some m ∧ c.flight.length ≤ 4 ∧ (bs = (if m.sspace = 2 then padTo m.len (data.getD []) else m.data)) ∧ (m.sspace = 2 → data ≠ none) ∧ (m.dspace = 0 → s.rd MEM_CFG_RETIRED = 0))
    ∧ (∃ (s : State) (n : Fin 32) (k : Fin 4) (m : DmaMove), ((Run.start s).dmaCh n).flight[k.val]? = some m ∧ m.sspace = 2)
    ∧ (∃ (s : State) (n : Fin 32) (pc : Nat) (l : Nat) (count : Nat) (ss : Nat) (ds : Nat) (back : Nat) (left : Nat) (c : DmaCh), s.dmaAt n pc (.loop l count ss ds back) ∧ c = (Run.start s).dmaCh n ∧ c.flight.length < 8 ∧ (c.cnt.look l 0 = 0 ∨ c.loopPc.look l 0 = pc) ∧ ((∀ j < l, c.cnt.look j 0 = 0)) ∧ (left = (if c.cnt.look l 0 = 0 then count else c.cnt.look l 0) - 1) ∧ (32 * back ≤ pc ∨ left = 0))
    ∧ (∃ (s : State) (n : Fin 32) (pc : Nat) (l : Nat) (count : Nat) (ss : Nat) (ds : Nat) (back : Nat) (c : DmaCh), s.dmaAt n pc (.loop l count ss ds back) ∧ c = (Run.start s).dmaCh n ∧ ((c.cnt.look l 0 ≠ 0 ∧ c.loopPc.look l 0 ≠ pc) ∨ c.cnt.look 0 0 ≠ 0 ∧ 0 < l))
    ∧ (∃ (s : State) (n : Fin 32) (pc : Nat) (sem : Nat) (limit : Nat), s.dmaAt n pc (.wait sem limit) ∧ 0 < s.rd (DMA_SEM_COUNT sem) ∧ s.rd (DMA_SEM_COUNT sem) < 2 ^ 16)
    ∧ (∃ (s : State) (n : Fin 32) (pc : Nat) (sem : Nat) (limit : Nat), s.dmaAt n pc (.wait sem limit) ∧ s.rd (DMA_SEM_COUNT sem) = 0)
    ∧ (∃ (s : State) (n : Fin 32) (pc : Nat) (sem : Nat) (irq : Bool), s.dmaAt n pc (.signal sem irq) ∧ ((Run.start s).dmaCh n).flight = [] ∧ ((∀ k ∈ s.u.dma.waiting, s.rd (DMA_STATUS_SEM_WAIT k) ≠ sem)))
    ∧ (∃ (s : State) (n : Fin 32) (pc : Nat) (sem : Nat) (irq : Bool), s.dmaAt n pc (.signal sem irq) ∧ ((Run.start s).dmaCh n).flight ≠ [])
    ∧ (∃ (s : State) (sem : Fin 64) (v : Nat) (m : Nat) (pc : Nat) (more : List Nat), s.u.dma.waiting = m :: more ∧ m < 32 ∧ s.rd (DMA_STATUS_SEM_WAIT m) = sem ∧ 0 < s.rd (DMA_SEM_COUNT sem) + v % 65536 ∧ s.rd (DMA_SEM_COUNT sem) + v % 65536 ≤ 65535 ∧ ((∀ k ∈ more, k < 32 ∧ k ≠ m ∧ s.rd (DMA_STATUS_SEM_WAIT k) ≠ sem)) ∧ pc = s.rd (DMA_PC_ADDR m))
    ∧ (∃ (s : State) (sem : Fin 64), ((∀ k ∈ s.u.dma.waiting, s.rd (DMA_STATUS_SEM_WAIT k) ≠ sem)))
    ∧ (∃ (s : State) (n : Fin 32) (pc : Nat) (irq : Bool), s.dmaAt n pc (.fin irq))
    ∧ (∃ (s : State) (n : Fin 32), s.rd (DMA_STATUS_STATE n) = 2 ∧ (Run.start s).waitLimit n ≠ 0)
    ∧ (∃ (s : State) (n : Fin 32), (s.rd (DMA_STATUS_STATE n) ≠ 2 ∨ (Run.start s).waitLimit n = 0))
    ∧ (∃ (s : State) (n : Fin 32) (pc : Nat), s.rd (DMA_STATUS_STATE n) = 1 ∧ pc = s.rd (DMA_PC_ADDR n) ∧ s.rd (DMA_CTL_PSPACE n) = 0 ∧ ((Run.start s).dmaCh n).heldBack 1 pc 32 = false ∧ (sramSize < pc + 32 ∨ dmaDecode ((Run.start s).sram pc 32) = none))
    ∧ (∃ (s : State) (n : Fin 32) (pc : Nat) (op : DmaOp), (s.rd (DMA_STATUS_STATE n) ≠ 1 ∨ s.dmaAt n pc op)) :=
  ⟨⟨dmaS [] { cnt := [(0, 5)] } [(DMA_STATUS_STATE 3, 4)], 3, 64, by decide +kernel⟩,
   ⟨dmaS [] {} [(DMA_PC_ADDR 3, 0x200000), (DMA_STATUS_STATE 3, 0)], 3, by decide +kernel⟩,
   ⟨dmaS [] {} [(DMA_STATUS_STATE 3, 3)], 3, by decide +kernel⟩,
   ⟨dmaS [] {} [], 3, by decide +kernel⟩,
   ⟨dmaS [] { flight := [⟨32, 3, 1, 0, 500, 2, [7#8, 8#8]⟩] } [], 3, 1, ⟨32, 3, 1, 0, 500, 2, [7#8, 8#8]⟩, [7#8, 8#8], by decide +kernel⟩,
   ⟨dmaS (ins 1 0x13 0 100 0 0x1FFFFC 0x0102030405060708) { od := [(1, 2 ^ 64 - 100)] } [], 3, 64, 3, 1, 100, 0, 0x1FFFFC, 0x0102030405060708, 0, 0x1FFFFC - 100, { od := [(1, 2 ^ 64 - 100)] }, by decide +kernel⟩,
   ⟨dmaS (ins 1 0x13 0 100 0 0x1FF000 5) { flight := [⟨0, 3, 1, 0, 0x1FF063, 1, []⟩] } [], 3, 64, 3, 1, 100, 0, 0x1FF000, 5, { flight := [⟨0, 3, 1, 0, 0x1FF063, 1, []⟩] }, by decide +kernel⟩,
   ⟨dmaS (ins 1 0x13 0 100 0 0x1FFFFC 5) {} [], 3, 64, 3, 1, 100, 0, 0x1FFFFC, 5, 0x1FFFFC, by decide +kernel⟩,
   ⟨dmaS [] { flight := [⟨32, 1, 0, 0, 500, 3, [7#8, 8#8, 9#8]⟩] } [], 3, 0, none, ⟨32, 1, 0, 0, 500, 3, [7#8, 8#8, 9#8]⟩, [7#8, 8#8, 9#8], { flight := [⟨32, 1, 0, 0, 500, 3, [7#8, 8#8, 9#8]⟩] }, by decide +kernel⟩,
   ⟨dmaS [] { flight := [⟨32, 2, 0, 0, 500, 3, []⟩] } [], 3, 0, ⟨32, 2, 0, 0, 500, 3, []⟩, by decide +kernel⟩,
   ⟨dmaS (ins 2 1 0 4 16 (2 ^ 64 - 8) 2) { cnt := [(1, 2), (2, 9)], loopPc := [(1, 64)], os := [(1, 16)] } [], 3, 64, 1, 4, 16, 2 ^ 64 - 8, 2, 1, { cnt := [(1, 2), (2, 9)], loopPc := [(1, 64)], os := [(1, 16)] }, by decide +kernel⟩,
   ⟨dmaS (ins 2 1 0 4 16 8 2) { cnt := [(0, 1)] } [], 3, 64, 1, 4, 16, 8, 2, { cnt := [(0, 1)] }, by decide +kernel⟩,
   ⟨dmaS (ins 3 63 0 10 0 0 0) {} [(DMA_SEM_COUNT 63, 65535)], 3, 64, 63, 10, by decide +kernel⟩,
   ⟨dmaS (ins 3 63 0 10 0 0 0) {} [], 3, 64, 63, 10, by decide +kernel⟩,
   ⟨dmaS (ins 4 5 1 0 0 0 0) {} [(DMA_SEM_COUNT 5, 65535)], 3, 64, 5, true, by decide +kernel⟩,
   ⟨dmaS (ins 4 5 1 0 0 0 0) { flight := [⟨32, 2, 0, 0, 500, 3, []⟩] } [], 3, 64, 5, true, by decide +kernel⟩,
   ⟨(dmaS [] {} [(DMA_STATUS_SEM_WAIT 3, 5), (DMA_STATUS_STATE 3, 2)]).modify fun u => { u with dma := { u.dma with waiting := [3] } }, 5, 1, 3, 64, [], by decide +kernel⟩,
   ⟨dmaS [] {} [(DMA_SEM_COUNT 5, 65535)], 5, by decide +kernel⟩,
   ⟨dmaS (ins 5 0 1 0 0 0 0) {} [], 3, 64, true, by decide +kernel⟩,
   ⟨dmaS (ins 3 63 0 10 0 0 0) {} [(DMA_STATUS_STATE 3, 2)], 3, by decide +kernel⟩,
   ⟨dmaS (ins 3 63 0 0 0 0 0) {} [(DMA_STATUS_STATE 3, 2)], 3, by decide +kernel⟩,
   ⟨dmaS (ins 6 0 0 0 0 0 0) {} [], 3, 64, by decide +kernel⟩,
   ⟨dmaS (ins 5 0 1 0 0 0 0) {} [], 3, 64, .fin true, by decide +kernel⟩⟩

end Sys2Proof.Tests.W36

namespace Sys2Proof.Tests.W37

def tbs (d : Int) (l : List (Fld × Nat)) : State := (rs l).modify fun u => { u with tim := { u.tim with delta := d, tb := [(0, { t := 2 ^ 60 }), (1, { t := 3 * 2 ^ 61, present := true }), (2, { t := 2 ^ 62 }), (3, { t := 2 ^ 63 })] } }
/-- States and operands that meet the hypotheses of TimeSelection, clause by clause. -/
theorem test_witness_TimeSelection :
    (∃ (s : State) (b : Fin 4), s.rd TIM_TSEL_STATUS_SRC_USED = b)
    ∧ (∃ (s : State) (b : Fin 4), s.rd TIM_TSEL_STATUS_SRC_USED ≠ b)
    ∧ (∃ (s : State) (p : Nat), p = s.rd TIM_TSEL_CTL_PRIMARY ∧ p < 4 ∧ s.rd TIM_TSEL_CTL_AUTO ≠ 0 ∧ s.rd TIM_TSEL_CTL_REVERT ≠ 0 ∧ s.rd (TIM_TB_CTL_STATE p) = 2 ∧ s.rd TIM_TSEL_STATUS_SRC_USED ≠ p)
    ∧ (∃ (s : State) (p : Nat), p = s.rd TIM_TSEL_CTL_PRIMARY ∧ (s.rd TIM_TSEL_CTL_AUTO = 0 ∨ s.rd TIM_TSEL_CTL_REVERT = 0 ∨ s.rd (TIM_TB_CTL_STATE p) ≠ 2 ∨ s.rd TIM_TSEL_STATUS_SRC_USED = p))
    ∧ (∃ (s : State) (n : Nat), s.u.tim.delta ≠ 0 ∧ 0 < s.rd TIM_TSEL_CTL_SLEW ∧ n = ceilDiv s.u.tim.delta.natAbs (s.rd TIM_TSEL_CTL_SLEW))
    ∧ (∃ (s : State), s.u.tim.delta = 0)
    ∧ (∃ (s : State), (Run.start s).recording = true)
    ∧ (∃ (s : State), (Run.start s).recording = false ∧ ((∀ p < 8, ((Run.start s).au p).wasRunning = false)))
    ∧ (∃ (s : State) (q : Nat) (e : Nat), q = (((s.tsel : Int) - s.rd (TIM_PORT_LOOP 48) * 2 ^ 30 + signed 32 (s.rd (TIM_PORT_ASYM 48)) * 2 ^ 31) / 2 ^ 31).toNat * 2 ^ 31 ∧ e = ((((s.base 2).t : Int) - s.rd (TIM_PORT_LOOP 48) * 2 ^ 30 + signed 32 (s.rd (TIM_PORT_ASYM 48)) * 2 ^ 31) / 2 ^ 31).toNat * 2 ^ 31)
    ∧ (∃ (s : State) (q : Nat) (e : Nat), q = (((s.tsel : Int) - s.rd (TIM_PORT_LOOP 50) * 2 ^ 30 + signed 32 (s.rd (TIM_PORT_ASYM 50)) * 2 ^ 31) / 2 ^ 31).toNat * 2 ^ 31 ∧ e = ((((s.base 3).t : Int) - s.rd (TIM_PORT_LOOP 50) * 2 ^ 30 + signed 32 (s.rd (TIM_PORT_ASYM 50)) * 2 ^ 31) / 2 ^ 31).toNat * 2 ^ 31)
    ∧ (∃ (s : State), s.rd TIM_TSEL_STATUS_ESTABLISHED ≠ 0)
    ∧ (∃ (s : State) (p : Fin 2), ((∃ d < 2, s.rd (NET_PTP_CFG_EN d) ≠ 0 ∧ s.rd (NET_PTP_CFG_PORT d) = p)))
    ∧ (∃ (s : State) (p : Fin 2) (dom : Nat) (gm : Nat) (d : Nat) (jam : Option Nat), (Run.start s).ptpDomain p dom = some d ∧ gm < 2 ^ 64 ∧ ((∀ j, jam = some j → j < 2 ^ 64)))
    ∧ (∃ (s : State) (p : Fin 2) (dom : Nat) (d : Nat), (Run.start s).ptpDomain p dom = some d)
    ∧ (∃ (s : State) (p : Fin 2) (dom : Nat) (d : Nat) (q : Nat), (Run.start s).ptpDomain p dom = some d ∧ q = ((s.base d).t - s.rd (NET_ETH_RX_ADJ p) * 2 ^ 31) / 2 ^ 31 * 2 ^ 31)
    ∧ (∃ (s : State) (p : Fin 2) (dom : Nat) (x : Nat) (y : Nat) (z : Nat) (jam : Option Nat) (m : PtpMsg), (m = .other p ∨ ((Run.start s).ptpDomain p dom = none ∧ m ∈ [PtpMsg.announce p dom x y z jam, .sync p dom x, .delayReq p dom, .management p dom])))
    ∧ (∃ (s : State) (p : Fin 2) (dom : Nat) (d : Nat), (Run.start s).ptpDomain p dom = some d)
    ∧ (∃ (s : State) (d : Fin 2) (req : Bool) (p : Nat) (q : Nat), p = s.rd (NET_PTP_CFG_PORT d) ∧ q = ((s.base d).t + s.rd (NET_ETH_TX_ADJ p) * 2 ^ 31) / 2 ^ 31 * 2 ^ 31 ∧ s.rd (NET_PTP_CFG_EN d) ≠ 0 ∧ s.rd (NET_ETH_STATUS_LINK p) ≠ 0 ∧ (req = true ∨ s.rd (NET_PTP_CFG_SLAVE_ONLY d) = 0))
    ∧ (∃ (s : State) (d : Fin 2) (req : Bool), (s.rd (NET_PTP_CFG_EN d) = 0 ∨ s.rd (NET_ETH_STATUS_LINK (s.rd (NET_PTP_CFG_PORT d))) = 0 ∨ (req = false ∧ s.rd (NET_PTP_CFG_SLAVE_ONLY d) ≠ 0)))
    ∧ (∃ (s : State) (n : Fin 2) (up : Bool), ((s.rd (NET_ETH_STATUS_LINK n) ≠ 0 ↔ up = true)))
    ∧ (∃ (s : State) (n : Fin 2) (up : Bool), ((s.rd (NET_ETH_STATUS_LINK n) = 0 ↔ up = true)) ∧ ((up = false → ∀ d < 2, s.rd (NET_PTP_CFG_EN d) = 0 ∨ s.rd (NET_PTP_CFG_PORT d) ≠ n ∨ (s.base d).present = false)))
    ∧ (∃ (s : State) (n : Fin 2) (d : Fin 2), s.rd (NET_ETH_STATUS_LINK n) ≠ 0 ∧ s.rd (NET_PTP_CFG_EN d) ≠ 0 ∧ s.rd (NET_PTP_CFG_PORT d) = n ∧ (s.base d).present = true ∧ (s.rd (TIM_TB_CTL_STATE d) = 1 ∨ s.rd (TIM_TB_CTL_STATE d) = 2) ∧ ((∀ e < 2, e ≠ d.val → s.rd (NET_PTP_CFG_EN e) = 0 ∨ s.rd (NET_PTP_CFG_PORT e) ≠ n ∨ (s.base e).present = false))) :=
  ⟨⟨tbs 5 [], 0, by decide +kernel⟩,
   ⟨tbs 5 [(TIM_TSEL_STATUS_ESTABLISHED, 1), (TIM_TB_CTL_STATE 2, 2)], 2, by decide +kernel⟩,
   ⟨tbs 5 [(TIM_TSEL_STATUS_ESTABLISHED, 1), (TIM_TB_CTL_STATE 2, 2), (TIM_TSEL_CTL_PRIMARY, 2), (TIM_TSEL_CTL_AUTO, 1), (TIM_TSEL_CTL_REVERT, 1)], 2, by decide +kernel⟩,
   ⟨tbs 5 [], 0, by decide +kernel⟩,
   ⟨tbs (-1000000) [], 6, by decide +kernel⟩,
   ⟨tbs 0 [], by decide +kernel⟩,
   ⟨tbs 5 [(MAG_REC_STATUS_STATE, 1)], by decide +kernel⟩,
   ⟨tbs 5 [], by decide +kernel⟩,
   ⟨tbs 5 [(TIM_PORT_LOOP 48, 3), (TIM_PORT_ASYM 48, 0xFFFFFFFF), (TIM_TB_CTL_STATE 2, 3)], ((((2 ^ 60 + 5) : Int) - 3 * 2 ^ 30 + -1 * 2 ^ 31) / 2 ^ 31).toNat * 2 ^ 31, (((2 ^ 62 : Int) - 3 * 2 ^ 30 + -1 * 2 ^ 31) / 2 ^ 31).toNat * 2 ^ 31, by decide +kernel⟩,
   ⟨tbs 5 [(TIM_PORT_LOOP 50, 3), (TIM_PORT_ASYM 50, 0xFFFFFFFF), (TIM_TB_CTL_SERVO_EN 3, 1)], ((((2 ^ 60 + 5) : Int) - 3 * 2 ^ 30 + -1 * 2 ^ 31) / 2 ^ 31).toNat * 2 ^ 31, (((2 ^ 63 : Int) - 3 * 2 ^ 30 + -1 * 2 ^ 31) / 2 ^ 31).toNat * 2 ^ 31, by decide +kernel⟩,
   ⟨tbs 5 [(TIM_TSEL_STATUS_ESTABLISHED, 1), (TIM_PULSE_CTL_SO_EN, 1), (TIM_PULSE_CTL_PPS_EN, 1)], by decide +kernel⟩,
   ⟨tbs 5 [(NET_PTP_CFG_EN 1, 1), (NET_PTP_CFG_PORT 1, 1)], 1, by decide +kernel⟩,
   ⟨tbs 5 [(NET_PTP_CFG_EN 1, 1), (NET_PTP_CFG_PORT 1, 1), (TIM_TSEL_STATUS_SRC_USED, 1)], 1, 127, 0xABC, 1, some 12345, by decide +kernel⟩,
   ⟨tbs 5 [(NET_PTP_CFG_EN 1, 1), (NET_PTP_CFG_PORT 1, 1), (TIM_TB_CTL_STATE 1, 3)], 1, 127, 1, by decide +kernel⟩,
   ⟨tbs 5 [(NET_PTP_CFG_EN 1, 1), (NET_PTP_CFG_PORT 1, 1), (NET_PTP_CFG_SLAVE_ONLY 1, 0)], 1, 127, 1, 3 * 2 ^ 61, by decide +kernel⟩,
   ⟨tbs 5 [], 1, 127, 3, 4, 5, none, .sync 1 127 3, by decide +kernel⟩,
   ⟨tbs 5 [(NET_PTP_CFG_EN 1, 1), (NET_PTP_CFG_PORT 1, 1)], 1, 127, 1, by decide +kernel⟩,
   ⟨tbs 5 [(NET_PTP_CFG_EN 1, 1), (NET_PTP_CFG_PORT 1, 1), (NET_ETH_STATUS_LINK 1, 1), (NET_ETH_TX_ADJ 1, 3)], 1, true, 1, 3 * 2 ^ 61 + 3 * 2 ^ 31, by decide +kernel⟩,
   ⟨tbs 5 [], 1, true, by decide +kernel⟩,
   ⟨tbs 5 [], 1, false, by decide +kernel⟩,
   ⟨tbs 5 [(NET_PTP_CFG_EN 1, 1), (NET_PTP_CFG_PORT 1, 1)], 1, true, by decide +kernel⟩,
   ⟨tbs 5 [(NET_PTP_CFG_EN 1, 1), (NET_PTP_CFG_PORT 1, 1), (NET_ETH_STATUS_LINK 1, 1), (TIM_TB_CTL_STATE 1, 2)], 1, 1, by decide +kernel⟩⟩

end Sys2Proof.Tests.W37

namespace Sys2Proof.Tests.W38

def apr (fl src outs : Nat) : CfgRec := ⟨14, 0x0E01, 2, overlay (List.replicate 64 0#8) 0 (List.replicate 8 0#8 ++ le 1 fl ++ le 1 8 ++ le 1 16 ++ le 1 0 ++ le 1 3 ++ le 1 src ++ le 1 outs ++ le 1 5 ++ le 4 0 ++ le 4 48000 ++ le 4 0x24 ++ le 4 1 ++ le 4 1)⟩
def ap (fl src outs : Nat) (a : AuPort) (l : List (Fld × Nat)) : State := (State.act' (rs ([(MEM_POLDER_BASE 5, 0x10000), (MEM_POLDER_SIZE 5, 0x100000), (MEM_POLDER_RIGHTS_WRITE 5, 0xFFFF), (MEM_POLDER_RIGHTS_READ 5, 0xFFFF)] ++ l)) [(AUD_MASK 2, 0x2C)]).modify fun u => { u with glb := { u.glb with phase := .run, cfg := [apr fl src outs] }, tim := { u.tim with au := [(2, a), (3, { cur := [9, 8, 7] })] } }
/-- States and operands that meet the hypotheses of AudioPorts, clause by clause. -/
theorem test_witness_AudioPorts :
    (∃ (s : State) (p : Fin 8), s.rd (AUD_STATUS_STATE p) = 0 ∧ (Run.start s).hasCfg 0x0E01 p = true)
    ∧ (∃ (s : State) (p : Fin 8), s.rd (AUD_STATUS_STATE p) = 2)
    ∧ (∃ (s : State) (p : Fin 8), (s.rd (AUD_STATUS_STATE p) = 1 ∨ s.rd (AUD_STATUS_STATE p) = 4))
    ∧ (∃ (s : State) (p : Fin 8), s.rd (AUD_STATUS_STATE p) = 0)
    ∧ (∃ (s : State) (p : Fin 8) (age : Nat), s.rd (AUD_STATUS_STATE p) ≠ 0 ∧ s.rd (AUD_STATUS_STATE p) < 5 ∧ 3 ≤ age ∧ s.rd (AUD_MASK p) < 2 ^ 32)
    ∧ (∃ (s : State) (p : Fin 8) (age : Nat) (left : Nat), s.rd (AUD_STATUS_STATE p) = 1 ∧ age < 3 ∧ left = s.rd (AUD_STATUS_LEAD_LEFT p) ∧ ((Run.start s).auMaster p = true ∨ (0x04000000 ≤ s.rd (AUD_RATIO p) ∧ s.rd (AUD_RATIO p) ≤ 0x40000000)))
    ∧ (∃ (s : State) (p : Fin 8) (age : Nat), s.rd (AUD_STATUS_STATE p) = 1 ∧ age < 3 ∧ (Run.start s).auMaster p = false ∧ (s.rd (AUD_RATIO p) < 0x04000000 ∨ 0x40000000 < s.rd (AUD_RATIO p)))
    ∧ (∃ (s : State) (p : Fin 8) (age : Nat), s.rd (AUD_STATUS_STATE p) = 2 ∧ age < 3 ∧ (Run.start s).auOut p = false)
    ∧ (∃ (s : State) (p : Fin 8) (age : Nat) (w : Nat) (slots : List Nat), s.rd (AUD_STATUS_STATE p) = 2 ∧ age < 3 ∧ (Run.start s).auOut p = true ∧ w = (Run.start s).auSlotW p ∧ slots = (Run.start s).auSlots p)
    ∧ (∃ (s : State) (p : Fin 8) (age : Nat) (left : Nat), s.rd (AUD_STATUS_STATE p) = 3 ∧ age < 3 ∧ left = s.rd (AUD_STATUS_LEAD_LEFT p))
    ∧ (∃ (s : State) (p : Fin 8) (age : Nat), s.rd (AUD_STATUS_STATE p) = 4 ∧ age < 3 ∧ 0x04000000 ≤ s.rd (AUD_RATIO p) ∧ s.rd (AUD_RATIO p) ≤ 0x40000000)
    ∧ (∃ (s : State) (p : Fin 8), (Run.start s).auMaster p = false ∧ s.rd (AUD_STATUS_STATE p) = 2)
    ∧ (∃ (s : State) (p : Fin 8), ((Run.start s).auMaster p = true ∨ (s.rd (AUD_STATUS_STATE p) ≠ 1 ∧ s.rd (AUD_STATUS_STATE p) ≠ 2)))
    ∧ (∃ (s : State) (p : Fin 8), (Run.start s).auMaster p = false ∧ s.rd (AUD_STATUS_STATE p) = 1)
    ∧ (∃ (s : State) (p : Fin 8) (ratio : Nat), s.rd (AUD_STATUS_STATE p) ≠ 0 ∧ (Run.start s).duty 3 = true ∧ (s.rd (AUD_STATUS_STATE p) ≠ 2 ∨ (0x04000000 ≤ ratio % 2 ^ 32 ∧ ratio % 2 ^ 32 ≤ 0x40000000)))
    ∧ (∃ (s : State) (p : Fin 8) (ratio : Nat), s.rd (AUD_STATUS_STATE p) = 2 ∧ (Run.start s).duty 3 = true ∧ (ratio % 2 ^ 32 < 0x04000000 ∨ 0x40000000 < ratio % 2 ^ 32))
    ∧ (∃ (s : State) (p : Fin 8), (s.rd (AUD_STATUS_STATE p) = 0 ∨ (Run.start s).duty 3 = false))
    ∧ (∃ (s : State) (p : Fin 8), s.noBlock ∧ (s.rd (AUD_STATUS_STATE p) = 0 ∨ ((Run.start s).au p).wasRunning = false))
    ∧ (∃ (s : State) (p : Fin 8) (n : Nat) (a : Nat) (words : List Nat), s.noBlock ∧ s.rd (AUD_STATUS_STATE p) = 2 ∧ ((Run.start s).au p).wasRunning = true ∧ (Run.start s).auOut p = false ∧ (Run.start s).auBypass p = true ∧ n = ((Run.start s).au p).media ∧ a = (Run.start s).auRing p n ∧ (words = (((Run.start s).auSlots p).map fun j => if bit (s.rdA (AUD_MASK p)) j then ((Run.start s).au p).slots.getD j 0 * 2 ^ (32 - (Run.start s).auSlotW p) else 0)) ∧ (bit ((Run.start s).auN p 0xE 1) 0 = false ∨ ((Run.start s).allowed 9 true a (4 * words.length) = true ∧ s.rd MEM_CFG_RETIRED = 0)))
    ∧ (∃ (s : State) (p : Fin 8) (n : Nat) (a : Nat) (c : Nat), s.noBlock ∧ (s.rd (AUD_STATUS_STATE p) = 4 ∨ s.rd (AUD_STATUS_STATE p) = 1) ∧ ((Run.start s).au p).wasRunning = true ∧ (Run.start s).auOut p = false ∧ n = ((Run.start s).au p).media ∧ a = (Run.start s).auRing p n ∧ c = (Run.start s).auChannels p ∧ (bit ((Run.start s).auN p 0xE 1) 0 = false ∨ ((Run.start s).allowed 9 true a (4 * c) = true ∧ s.rd MEM_CFG_RETIRED = 0)))
    ∧ (∃ (s : State) (p : Fin 8) (n : Nat) (src : Nat), s.noBlock ∧ s.rd (AUD_STATUS_STATE p) ≠ 0 ∧ ((Run.start s).au p).wasRunning = true ∧ (Run.start s).auOut p = true ∧ n = ((Run.start s).au p).media ∧ src = (Run.start s).auN p 0xD 1 ∧ (s.rd (AUD_STATUS_STATE p) ≠ 2 ∨ src ≠ 0xFF))
    ∧ (∃ (s : State) (p : Fin 8) (n : Nat), s.noBlock ∧ s.rd (AUD_STATUS_STATE p) = 2 ∧ ((Run.start s).au p).wasRunning = true ∧ (Run.start s).auOut p = true ∧ n = ((Run.start s).au p).media ∧ (Run.start s).auN p 0xD 1 = 0xFF ∧ signed 32 ((s.rd (AUD_WR p) + 2 ^ 32 - s.rd (AUD_RD p) % 2 ^ 32) % 2 ^ 32) ≤ 0)
    ∧ (∃ (s : State) (p : Fin 8) (n : Nat) (c : Nat) (a : Nat), s.noBlock ∧ s.rd (AUD_STATUS_STATE p) = 2 ∧ ((Run.start s).au p).wasRunning = true ∧ (Run.start s).auOut p = true ∧ n = ((Run.start s).au p).media ∧ (Run.start s).auN p 0xD 1 = 0xFF ∧ 0 < signed 32 ((s.rd (AUD_WR p) + 2 ^ 32 - s.rd (AUD_RD p) % 2 ^ 32) % 2 ^ 32) ∧ c = (Run.start s).auChannels p ∧ a = (Run.start s).auRing p (s.rd (AUD_RD p)) ∧ ((Run.start s).peekMem 9 a (4 * c)).ok = true ∧ ((Run.start s).peekMem 9 a (4 * c)).poison = false ∧ s.rd MEM_CFG_RETIRED = 0) :=
  ⟨⟨ap 0 0 0 {} [], 2, by decide +kernel⟩,
   ⟨ap 0 0 0 {} [(AUD_STATUS_STATE 2, 2)], 2, by decide +kernel⟩,
   ⟨ap 0 0 0 { wasRunning := true, cur := [1] } [(AUD_STATUS_STATE 2, 4)], 2, by decide +kernel⟩,
   ⟨ap 0 0 0 {} [], 2, by decide +kernel⟩,
   ⟨ap 0 0 0 {} [(AUD_STATUS_STATE 2, 2), (AUD_MASK 2, 0x55)], 2, 5, by decide +kernel⟩,
   ⟨ap 3 0 0 {} [(AUD_STATUS_STATE 2, 1), (AUD_STATUS_LEAD_LEFT 2, 1)], 2, 2, 1, by decide +kernel⟩,
   ⟨ap 1 0 0 {} [(AUD_STATUS_STATE 2, 1), (AUD_STATUS_LEAD_LEFT 2, 1)], 2, 2, by decide +kernel⟩,
   ⟨ap 0 0 0 {} [(AUD_STATUS_STATE 2, 2)], 2, 2, by decide +kernel⟩,
   ⟨ap 0x41 0 0 { cur := [0x12345678, 0x87654321] } [(AUD_STATUS_STATE 2, 2)], 2, 2, 16, [2, 5], by decide +kernel⟩,
   ⟨ap 1 0 0 {} [(AUD_STATUS_STATE 2, 3), (AUD_STATUS_LEAD_LEFT 2, 1)], 2, 2, 1, by decide +kernel⟩,
   ⟨ap 1 0 0 {} [(AUD_STATUS_STATE 2, 4), (AUD_RATIO 2, 0x04000000)], 2, 2, by decide +kernel⟩,
   ⟨ap 0 0 0 {} [(AUD_STATUS_STATE 2, 2)], 2, by decide +kernel⟩,
   ⟨ap 2 0 0 {} [(AUD_STATUS_STATE 2, 2)], 2, by decide +kernel⟩,
   ⟨ap 0 0 0 {} [(AUD_STATUS_STATE 2, 1)], 2, by decide +kernel⟩,
   ⟨ap 0 0 0 {} [(AUD_STATUS_STATE 2, 2)], 2, 0x40000000, by decide +kernel⟩,
   ⟨ap 0 0 0 {} [(AUD_STATUS_STATE 2, 2)], 2, 0x40000001, by decide +kernel⟩,
   ⟨ap 0 0 0 {} [], 2, by decide +kernel⟩,
   ⟨ap 0 0 0 {} [], 2, by decide +kernel⟩,
   ⟨ap 0x40 0 0xF { wasRunning := true, media := 7, slots := [0, 0, 0x1234, 0, 0, 0x5678] } [(AUD_STATUS_STATE 2, 2)], 2, 7, 0x10000 + 0x1000 + 56, [0x12340000, 0x56780000], by decide +kernel⟩,
   ⟨ap 0x40 0 0xF { wasRunning := true, media := 7 } [(AUD_STATUS_STATE 2, 4)], 2, 7, 0x10000 + 0x1000 + 56, 2, by decide +kernel⟩,
   ⟨ap 1 3 0xF { wasRunning := true, media := 7 } [(AUD_STATUS_STATE 2, 2)], 2, 7, 3, by decide +kernel⟩,
   ⟨ap 1 0xFF 0xF { wasRunning := true, media := 7 } [(AUD_STATUS_STATE 2, 2), (AUD_RD 2, 0xFFFFFFFF), (AUD_WR 2, 0xFFFFFFFF)], 2, 7, by decide +kernel⟩,
   ⟨ap 1 0xFF 0xF { wasRunning := true, media := 7 } [(AUD_STATUS_STATE 2, 2), (AUD_RD 2, 0xFFFFFFFF), (AUD_WR 2, 1)], 2, 7, 2, 0x10000 + 0x1000 + 0xFFFFFFFF % 512 * 8, by decide +kernel⟩⟩

end Sys2Proof.Tests.W38

namespace Sys2Proof.Tests.W39

def th (ph : Phase) (x : Thm) (l : List (Fld × Nat)) : State := (rs l).modify fun u => { u with glb := { u.glb with phase := ph }, thm := x }
def ws (ph : Phase) (f : List Nat) (l : List (Fld × Nat)) : State := (rs l).modify fun u => { u with glb := { u.glb with phase := ph, busMaster := true }, evt := { u.evt with failing := f } }
/-- States and operands that meet the hypotheses of ThermalAndEvents, clause by clause. -/
theorem test_witness_ThermalAndEvents :
    (∃ (s : State), s.u.glb.phase ≠ .held)
    ∧ (∃ (s : State), s.rd THM_STATUS_LEVEE ≠ 0 ∧ s.rd THM_STATUS_LEVEE < 4 ∧ 100 < s.u.thm.calm ∧ (Run.start s).duty 3 = true)
    ∧ (∃ (s : State), (s.rd THM_STATUS_LEVEE = 0 ∨ s.u.thm.calm ≤ 100 ∨ (Run.start s).duty 3 = false))
    ∧ (∃ (s : State) (k : Fin 4), bit (s.rd EVT_COFFERDAM_UNITS_W) k = false)
    ∧ (∃ (s : State) (k : Fin 4), s.u.evt.failing.contains k.val = true ∧ s.u.magu.segs = [] ∧ s.rd MAG_REC_STATUS_STATE ≠ 2 ∧ s.u.mon.held = []) :=
  ⟨⟨th .run { hist := [(3, List.replicate 100 400)], bad := [(5, [3, 40])], trained := [(0, 100)] } [(THM_RETIRED, 0x10), (THM_LEVEE_T_UP 0, 420), (MEM_CH_STATUS_STATE 0, 2)], by decide +kernel⟩,
   ⟨th .run { calm := 101 } [(THM_STATUS_LEVEE, 3)], by decide +kernel⟩,
   ⟨th .run { calm := 100 } [(THM_STATUS_LEVEE, 3)], by decide +kernel⟩,
   ⟨ws .run [] [(EVT_COFFERDAM_UNITS_W, 2)], 3, by decide +kernel⟩,
   ⟨ws .run [3] [(EVT_COFFERDAM_UNITS_W, 8), (THM_LEVEE_T_UP 0, 0)], 3, by decide +kernel⟩⟩

end Sys2Proof.Tests.W39

namespace Sys2Proof.Tests.W40

def bytesOf (x : String) : List Byte := x.toList.map fun c => BitVec.ofNat 8 c.toNat
def mn (ph : Phase) (m : Mon) (l : List (Fld × Nat)) : State := (rs l).modify fun u => { u with glb := { u.glb with phase := ph }, mon := m }
/-- States and operands that meet the hypotheses of MonitorLock, clause by clause. -/
theorem test_witness_MonitorLock :
    (∃ (s : State), (Run.start s).monUp = false ∧ s.u.glb.phase ≠ .run)
    ∧ (∃ (s : State), (((Run.start s).monUp = false ∧ s.u.glb.phase = .run) ∨ ((Run.start s).monUp = true ∧ s.u.mon.sweep ≠ none)))
    ∧ (∃ (s : State) (line : List Byte), s.monReady ∧ (s.u.mon.lostChars = true ∨ 256 < line.length ∨ splitWords [] line = [] ∨ (∃ a, (splitWords [] line).head? = some a ∧ keyword a = none)))
    ∧ (∃ (s : State) (line : List Byte) (key : List Nat) (args : List (List Nat)) (free : Bool), s.monReady ∧ s.u.mon.lostChars = false ∧ line.length ≤ 256 ∧ splitWords [] line = key :: args ∧ keyword key = some free ∧ ((free = false ∧ s.rd MON_STATUS_UNLOCKED = 0) ∨ parseCmd key args = none))
    ∧ (∃ (s : State) (line : List Byte) (key : List Nat) (args : List (List Nat)) (free : Bool) (c : MonCmd), s.monReady ∧ s.u.mon.lostChars = false ∧ line.length ≤ 256 ∧ splitWords [] line = key :: args ∧ keyword key = some free ∧ (free = true ∨ s.rd MON_STATUS_UNLOCKED ≠ 0) ∧ parseCmd key args = some c)
    ∧ (∃ (s : State), s.monReady)
    ∧ (∃ (s : State) (c : Nat), s.monReady ∧ c ≤ 5)
    ∧ (∃ (s : State), s.u.mon.baudWait = true)
    ∧ (∃ (s : State) (k : Nat), s.monReady ∧ k ≤ 4 ∧ s.rd MON_CTL_DISABLE = 0 ∧ s.u.mon.barred = false ∧ (s.rd GLB_FEAT_CTL_LOCKED = 0 ∨ bit s.u.glb.feat 18 = true) ∧ ((Run.start s).keySlot k).state = .enrolled)
    ∧ (∃ (s : State), s.monReady)
    ∧ (∃ (s : State), s.monReady ∧ s.rd MON_CTL_DISABLE = 0 ∧ s.u.mon.barred = false ∧ (s.rd GLB_FEAT_CTL_LOCKED = 0 ∨ bit s.u.glb.feat 18 = true))
    ∧ (∃ (s : State) (sig : List Byte), (s.u.mon.nonce = none ∨ (∃ x, s.u.mon.nonce = some x ∧ (x.2.1 + 30000000000 < s.now ∨ ((Run.start s).keySlot x.1).state ≠ .enrolled ∨ ed25519Verify ((Run.start s).keySlot x.1).key (unlockMessage x.2.2) sig = false))))
    ∧ (∃ (s : State), s.u.mon.barred = true)
    ∧ (∃ (s : State), s.rd GLB_BOOT_STATUS_READY ≠ 0 ∧ s.u.mon.sweep = none ∧ s.u.mon.held = [])
    ∧ (∃ (s : State) (w : Sweep), s.rd GLB_BOOT_STATUS_READY ≠ 0 ∧ s.u.mon.sweep = some w ∧ s.u.mon.held = [] ∧ w.lane < 48)
    ∧ (∃ (s : State), s.rd GLB_BOOT_STATUS_READY = 0) :=
  ⟨⟨mn .held {} [], by decide +kernel⟩,
   ⟨mn .run { sweep := some { lane := 3, sel := 0, dwell := 4 } } [], by decide +kernel⟩,
   ⟨mn .run {} [], bytesOf "HELLO 5", by decide +kernel⟩,
   ⟨mn .run {} [(MON_STATUS_UNLOCKED, 1)], bytesOf "peek", word "PEEK", [], false, by decide +kernel⟩,
   ⟨mn .run {} [(MON_STATUS_UNLOCKED, 1)], bytesOf "peek  0x1_00 2", word "PEEK", [word "0X1_00", word "2"], false, .peek 256 2, by decide +kernel⟩,
   ⟨mn .run {} [], by decide +kernel⟩,
   ⟨mn .run {} [], 5, by decide +kernel⟩,
   ⟨mn .run { baudWait := true } [(MON_STATUS_BAUD, 5)], by decide +kernel⟩,
   ⟨(mn .run {} []).modify fun u => { u with glb := { u.glb with keys := [(4, { state := .enrolled })] } }, 4, by decide +kernel⟩,
   ⟨mn .run { barred := true } [], by decide +kernel⟩,
   ⟨mn .run { wrongRow := 2, nonce := some (4, 0, []) } [], by decide +kernel⟩,
   ⟨mn .run { nonce := none } [], [], by decide +kernel⟩,
   ⟨mn .run { barred := true, wrongRow := 3 } [], by decide +kernel⟩,
   ⟨mn .run {} [(MON_STATUS_UNLOCKED, 1), (MON_STATUS_KEY_SLOT, 4), (GLB_BOOT_STATUS_READY, 1)], by decide +kernel⟩,
   ⟨mn .run { sweep := some { lane := 3, sel := 0, dwell := 4 } } [(GLB_BOOT_STATUS_READY, 1), (LNK_EYE_CTL_VOFF 3, 120), (LNK_EYE_CTL_DWELL 3, 4)], { lane := 3, sel := 0, dwell := 4 }, by decide +kernel⟩,
   ⟨mn .run {} [(MON_STATUS_UNLOCKED, 1)], by decide +kernel⟩⟩

end Sys2Proof.Tests.W40

namespace Sys2Proof.Tests.W40b

def mn (ph : Phase) (m : Mon) (l : List (Fld × Nat)) : State := (rs l).modify fun u => { u with glb := { u.glb with phase := ph }, mon := m }
def mu (l : List (Fld × Nat)) : State := mn .run {} ([(MON_STATUS_UNLOCKED, 1), (GLB_BOOT_STATUS_READY, 1), (MEM_POLDER_BASE 5, 0x10000), (MEM_POLDER_SIZE 5, 0x100000), (MEM_POLDER_RIGHTS_READ 5, 0xFFFF)] ++ l)
/-- States and operands that meet the hypotheses of MonitorData, clause by clause. -/
theorem test_witness_MonitorData :
    (∃ (s : State), ((Run.start s).monUp = false ∨ s.u.mon.sweep ≠ none))
    ∧ (∃ (s : State), s.monReady ∧ s.rd MON_STATUS_UNLOCKED = 0)
    ∧ (∃ (s : State), s.monReady ∧ s.rd MON_STATUS_UNLOCKED ≠ 0)
    ∧ (∃ (s : State) (off : Nat) (n : Nat), s.monReady ∧ s.rd MON_STATUS_UNLOCKED ≠ 0 ∧ off % 4 = 0 ∧ 0 < n ∧ n ≤ 64 ∧ off + 4 * n ≤ 2 ^ 28 ∧ ((∀ k < n, ((Run.start s).hostRead (off + 4 * k) false).2.st = s)))
    ∧ (∃ (s : State) (off : Nat), s.monReady ∧ s.rd MON_STATUS_UNLOCKED ≠ 0 ∧ off % 4 = 0 ∧ off < 2 ^ 28)
    ∧ (∃ (s : State) (off : Nat) (v : Nat), s.monReady ∧ s.rd MON_STATUS_UNLOCKED ≠ 0 ∧ off % 4 = 0 ∧ off < 2 ^ 28 ∧ v < 2 ^ 32 ∧ ((Run.start s).recording = false ∨ off / 0x100000 ∉ [0x0, 0x2, 0x5, 0x6, 0x7, 0x8, 0x9, 0x12, 0x13, 0x14, 0x15, 0x17, 0x1A]))
    ∧ (∃ (s : State), s.monReady ∧ s.rd MON_STATUS_UNLOCKED ≠ 0 ∧ (Run.start s).recording = true)
    ∧ (∃ (s : State) (a : Nat) (n : Nat) (lines : Nat) (abort : Option Nat), s.monReady ∧ s.rd MON_STATUS_UNLOCKED ≠ 0 ∧ 0 < n ∧ n ≤ 4096 ∧ ((∀ k < n, (Run.start s).allowed 13 false (a + 4 * k) 4 = true ∧ (Run.start s).poisonedBlock (a + 4 * k) 4 = none)) ∧ s.rd MEM_CFG_RETIRED = 0 ∧ lines = min (abort.getD n) ((n + 7) / 8))
    ∧ (∃ (s : State) (a : Nat) (n : Nat), s.monReady ∧ s.rd MON_STATUS_UNLOCKED ≠ 0 ∧ 0 < n ∧ n ≤ 4096 ∧ (Run.start s).allowed 13 false a 4 = false)
    ∧ (∃ (s : State) (a : Nat), s.monReady ∧ s.rd MON_STATUS_UNLOCKED ≠ 0 ∧ (Run.start s).allowed 13 false a 4 = true ∧ (Run.start s).poisonedBlock a 4 ≠ none ∧ bit (s.rd EVT_COFFERDAM_UNITS_W) 3 = false ∧ bit (s.rd MEM_CFG_RETIRED) (channelOf a) = false)
    ∧ (∃ (s : State) (lo : Nat) (hi : Nat), s.monReady ∧ s.rd MON_STATUS_UNLOCKED ≠ 0 ∧ s.rd MON_STATUS_TRACE = 0 ∧ lo ≤ hi ∧ hi ≤ 511)
    ∧ (∃ (s : State) (lo : Nat) (hi : Nat), s.monReady ∧ s.rd MON_STATUS_UNLOCKED ≠ 0 ∧ s.rd MON_STATUS_TRACE ≠ 0 ∧ lo ≤ hi ∧ hi ≤ 511)
    ∧ (∃ (s : State), s.monReady ∧ s.rd MON_STATUS_UNLOCKED ≠ 0)
    ∧ (∃ (s : State) (n : Nat) (sel : Fin 3) (dwell : Nat), s.monReady ∧ s.rd MON_STATUS_UNLOCKED ≠ 0 ∧ n < 48 ∧ dwell ≤ 15 ∧ (sel = 0 ∨ (Run.start s).rxPam n = true) ∧ s.rd (LNK_STATUS_STATE n) ∈ [2, 3, 4, 6] ∧ (s.laneOf n).eye = false)
    ∧ (∃ (s : State) (n : Nat) (sel : Fin 3) (dwell : Nat), s.monReady ∧ s.rd MON_STATUS_UNLOCKED ≠ 0 ∧ n < 48 ∧ dwell ≤ 15 ∧ (sel = 0 ∨ (Run.start s).rxPam n = true) ∧ (s.rd (LNK_STATUS_STATE n) ∉ [2, 3, 4, 6] ∨ (s.laneOf n).eye = true))
    ∧ (∃ (s : State) (n : Nat) (lines : Nat) (abort : Option Nat) (l : List Breach), s.monReady ∧ s.rd MON_STATUS_UNLOCKED ≠ 0 ∧ 0 < n ∧ n ≤ 1024 ∧ (l = (s.u.evt.log.filter fun b => b.seq != 0).take n) ∧ lines = min (abort.getD l.length) l.length)
    ∧ (∃ (s : State) (e : Nat), s.monReady ∧ s.rd MON_STATUS_UNLOCKED ≠ 0 ∧ e ≤ 511 ∧ ((Run.start s).recording = false ∨ (191 < e ∧ (e < 336 ∨ 399 < e))))
    ∧ (∃ (s : State), s.u.mon.sweep = none ∧ s.u.mon.held = [])
    ∧ (∃ (s : State) (w : Sweep), s.u.mon.sweep = some w ∧ s.u.mon.held = [] ∧ w.lane < 48) :=
  ⟨⟨mn .held {} [], by decide +kernel⟩,
   ⟨mn .run {} [], by decide +kernel⟩,
   ⟨mu [], by decide +kernel⟩,
   ⟨mu [(TIM_TB_INCR_INCR 1, 77)], 0x400044, 2, by decide +kernel⟩,
   ⟨mu [(PIX_CTX_STATUS_RUNNING 1, 77)], 0x400044, by decide +kernel⟩,
   ⟨mu [], 0xFFFFFFC, 5, by decide +kernel⟩,
   ⟨mu [(MAG_REC_STATUS_STATE, 4)], by decide +kernel⟩,
   ⟨(mu []).store 0x10101 7#8, 0x10100, 9, 1, some 1, by decide +kernel⟩,
   ⟨mu [], 0x100, 9, by decide +kernel⟩,
   ⟨(mu []).modify fun u => { u with mem := { u.mem with poison := [0x10100] } }, 0x10100, by decide +kernel⟩,
   ⟨mu [], 0, 511, by decide +kernel⟩,
   ⟨mu [(MON_STATUS_TRACE, 1)], 0, 511, by decide +kernel⟩,
   ⟨(mu []).modify fun u => { u with evt := { u.evt with trace := [(1, 2, 3, 4, 5), (0, 9, 8, 7, 6)], traceN := 2 } }, by decide +kernel⟩,
   ⟨mu [(LNK_STATUS_STATE 47, 4)], 47, 0, 15, by decide +kernel⟩,
   ⟨mu [(LNK_STATUS_STATE 47, 1)], 47, 0, 15, by decide +kernel⟩,
   ⟨(mu []).modify fun u => { u with evt := { u.evt with log := [{ seq := 2, type := 5 }, { seq := 1, type := 4 }] } }, 2, 1, some 1, [{ seq := 2, type := 5 }, { seq := 1, type := 4 }], by decide +kernel⟩,
   ⟨mu [(MAG_REC_STATUS_STATE, 4)], 400, by decide +kernel⟩,
   ⟨mu [], by decide +kernel⟩,
   ⟨mn .run { sweep := some { lane := 3, sel := 0, dwell := 4 } } [(LNK_EYE_CTL_VOFF 3, 120), (LNK_EYE_CTL_DWELL 3, 4)], { lane := 3, sel := 0, dwell := 4 }, by decide +kernel⟩⟩

end Sys2Proof.Tests.W40b

namespace Sys2Proof.Tests.W41

def vsRec (v b c w h e : Nat) : CfgRec := ⟨4, 0x0402, v, overlay (List.replicate 40 0#8) 0 (le 8 0 ++ le 1 b ++ le 1 c ++ le 1 2 ++ le 1 0 ++ le 2 w ++ le 2 h ++ List.replicate 8 0#8 ++ le 2 e)⟩
def ik : State := (rs [(ITK_BND_STATUS_STATE 1, 3), (ITK_BND_SEQ_EXP_SEQ 1, 7), (ITK_VS_LAST_FN 2, 9)]).modify fun u => { u with glb := { u.glb with cfg := [vsRec 2 1 3 64 2 4] } }
/-- States and operands that meet the hypotheses of LaterComparison, clause by clause. -/
theorem test_witness_LaterComparison :
    (∃ (w : Nat) (a : Nat) (b : Nat) (d : Int), 1 ≤ w ∧ d = ((a : Int) - b) % (2 ^ w : Nat))
    ∧ (∃ (s : State) (b : Fin 8) (v : Fin 16) (seq : Nat) (c : Nat) (fn : Nat), s.takes b seq ∧ s.binds b v c ∧ s.u.itk.stop = false ∧ (Run.start s).openFrame v = none ∧ (s.u.itk.vs.look v {}).first = false ∧ fn < 2 ^ 32 ∧ s.rd (ITK_VS_LAST_FN v) < 2 ^ 32 ∧ subMod 32 fn (s.rd (ITK_VS_LAST_FN v)) = 2 ^ 31)
    ∧ (∃ (s : State) (b : Fin 8) (seq : Nat), (Run.start s).bndHears b = true ∧ seq < 2 ^ 24 ∧ s.rd (ITK_BND_SEQ_EXP_SEQ b) < 2 ^ 24 ∧ subMod 24 seq (s.rd (ITK_BND_SEQ_EXP_SEQ b)) = 2 ^ 23) :=
  ⟨⟨24, 0x800007, 7, 0x800000, by decide +kernel⟩,
   ⟨ik, 1, 2, 7, 3, 0x80000009, by decide +kernel⟩,
   ⟨ik, 1, 0x800007, by decide +kernel⟩⟩

end Sys2Proof.Tests.W41

namespace Sys2Proof.Tests.W42

/-- States and operands that meet the hypotheses of RegainedLock, clause by clause. -/
theorem test_witness_RegainedLock :
    (∃ (s : State) (n : Fin 48), s.rd (LNK_STATUS_STATE n) = 2 ∧ s.rd (LNK_STATUS_TRAINED n) ≠ 0 ∧ ((∀ b < 8, (Run.start s).bundleOf n = some b → (s.u.itk.bnd.look b {}).wait.all (fun w => (s.u.itk.bnd.look b {}).map.contains w.1) = true)))
    ∧ (∃ (s : State) (n : Fin 48), s.rd (LNK_STATUS_STATE n) = 2 ∧ s.rd (LNK_STATUS_TRAINED n) ≠ 0) :=
  ⟨⟨rs [(LNK_STATUS_STATE 3, 2), (LNK_STATUS_TRAINED 3, 1)], 3, by decide +kernel⟩,
   ⟨rs [(LNK_STATUS_STATE 47, 2), (LNK_STATUS_TRAINED 47, 1)], 47, by decide +kernel⟩⟩

end Sys2Proof.Tests.W42

namespace Sys2Proof.Tests.W43

/-- States and operands that meet the hypotheses of PackParameter, clause by clause. -/
theorem test_witness_PackParameter :
    (∃ (ms : List Nat) (ss : List Nat) (cost : Nat → Nat), ((∀ k, cost k = (ms.map fun m => if m / 2 ^ k < 24 then m / 2 ^ k + 1 + k else 42).sum)) ∧ ms.length = ss.length) :=
  ⟨[5, 900, 3], [131069, 131522, 131070], fun k => ([5, 900, 3].map fun m => if m / 2 ^ k < 24 then m / 2 ^ k + 1 + k else 42).sum, by and_intros <;> first | decide +kernel | rfl | exact fun _ => rfl⟩

end Sys2Proof.Tests.W43

namespace Sys2Proof.Tests.W44

/-- States and operands that meet the hypotheses of PackingIsLossless, clause by clause. -/
theorem test_witness_PackingIsLossless :
    (∃ (pw : Nat) (ph : Nat) (w : Nat) (rows : List (List Nat)), 1 ≤ pw ∧ 1 ≤ ph ∧ (rows.all (fun row => row.length == w && row.all fun v => decide (v < 2 ^ 18)) = true)) :=
  ⟨2, 2, 96, (List.range 5).map (fun j => (List.range 96).map fun x => (x * 7919 + j * 1237 + x * x * j * 31) % 262144), by decide +kernel⟩

end Sys2Proof.Tests.W44
end

section
/-!
REGISTER_READ and REGISTER_WRITE stop at a misaligned offset; every other command answers a next state.
-/
namespace Sys2Proof.Machine

/-! ## Which accesses of BAR0 have a meaning (R3) -/

theorem alignedTo_iff (off : Nat) (wide : Bool) : alignedTo off wide = true ↔ off % (if wide then 8 else 4) = 0 := by
  simp [alignedTo]

theorem exec_registerWrite_aligned {off : Nat} {wide : Bool} (v : Nat) (s : State) (h : off % (if wide then 8 else 4) = 0) :
    exec (.registerWrite off wide v) s = .next (((Run.start s).hostWrite off wide v).monResume).st :=
  if_pos ((alignedTo_iff off wide).mpr h)

theorem exec_registerRead_aligned {off : Nat} {wide : Bool} (s : State) (h : off % (if wide then 8 else 4) = 0) :
    exec (.registerRead off wide) s
      = .next (((Run.start s).hostRead off wide).2.emit (.answer ((Run.start s).hostRead off wide).1)).st :=
  if_pos ((alignedTo_iff off wide).mpr h)

theorem exec_misaligned {off : Nat} {wide : Bool} (v : Nat) (s : State) (h : off % (if wide then 8 else 4) ≠ 0) :
    exec (.registerWrite off wide v) s = .fault .unalignedAccess ∧ exec (.registerRead off wide) s = .fault .unalignedAccess := by
  have ha : ¬ alignedTo off wide = true := fun ha => h ((alignedTo_iff off wide).mp ha)
  exact ⟨if_neg ha, if_neg ha⟩

/-- What a command answers is determined: a next state it is known to answer is the state of the run it is. -/
theorem eq_st_of_exec {c : Instr} {s t : State} {r : Run s} (hr : exec c s = .next r.st) (ht : exec c s = .next t) : t = r.st := by
  injection ht.symm.trans hr

/-- Settles O8: the two accesses of BAR0 test their alignment, and every other arm of `exec` is a `done`. -/
theorem onlyMisalignedAccessStops : Obligations.OnlyMisalignedAccessStops := by
  refine ⟨fun off wide v s h => exec_misaligned v s h, fun c s h => ?_⟩
  cases c with
  | registerWrite off wide v => exact ⟨_, exec_registerWrite_aligned v s (h off wide v (.inl rfl))⟩
  | registerRead off wide => exact ⟨_, exec_registerRead_aligned s (h off wide 0 (.inr rfl))⟩
  | _ => exact ⟨_, rfl⟩

end Sys2Proof.Machine
end

section
/-!
Three statements that a concrete state refutes.
-/
namespace Sys2Proof.Machine

/-! ## A W1C bit that the hardware sets in the cycle of the write (R6) -/

/-- A ready device in which event 256 has occurred twice in one CCLK cycle: the second occurrence has merged into the first
one's crossing, and the hardware has set its bit of EVT_OVERRUN_8 in this very cycle (R409). -/
def overrunThisCycle : State := (((Run.start (State.reset.wr GLB_BOOT_STATUS_READY 1)).ev 256).ev 256).st

/-- The register EVT_OVERRUN_8, as the register index finds it. -/
def overrunHit : Hit :=
  ⟨⟨"EVT_OVERRUN", 0x100080, 16, 0x4, 1, 0x4, 32, fun i _ => [(EVT_OVERRUN i, .w1c, false)]⟩, 8, 0, 0⟩

theorem locate_overrun : locate regTable 0x1000A0 = some overrunHit := rfl

/-- Refutes O10: its third clause lets a write clear every W1C bit it names, but a bit that the hardware has set in the cycle of
the write stays 1 (R6, `Run.w1c`). After two occurrences of event 256 in one cycle, a write of 1 to EVT_OVERRUN_8 leaves the bit
at 1, where the clause says 0. -/
theorem not_registerWrite : ¬ Obligations.RegisterWrite := by
  rintro ⟨-, -, plain32, -⟩
  obtain ⟨t, ht, hfields, -⟩ := plain32 overrunThisCycle 0x1000A0 1 overrunHit (by decide +kernel) rfl (by decide +kernel)
    locate_overrun rfl (by decide +kernel) rfl (by decide +kernel) (by decide +kernel)
  have hcleared : t.rd (EVT_OVERRUN 8) = 0 := (hfields (EVT_OVERRUN 8, .w1c, false) (by decide +kernel)).1.trans (by decide +kernel)
  rw [eq_st_of_exec (exec_registerWrite_aligned 1 overrunThisCycle (by decide)) ht] at hcleared
  exact absurd hcleared (by decide +kernel)

/-! ## A pending snapshot that names a unit of another group -/

/-- A state whose tide gate holds, under the group of context 0, a snapshot that names composer CMP_0 (unit 40), while DAMAGE of
CMP_0's first layer is valid. No command leads there: a snapshot names units of its own group only. -/
def strayTideUnit : State :=
  (State.reset.wr (CMP_L_DAMAGE_VALID 0 0) 1).modify fun u => { u with tide := { snaps := [(0, [{ at_ := 0, units := [40], vals := [] }])] } }

/-- Refutes O34: its second clause holds for every state, but a commit also covers the units of the group that still wait
(`Run.tideCommit`), whatever they are. In `strayTideUnit` a commit of context 0 alone clears DAMAGE.VALID of CMP_0, which the
clause says is kept. The clause lacks the premise that pending snapshots name units of their own group. -/
theorem not_tideGate : ¬ Obligations.TideGate := by
  rintro ⟨-, noComposer, -⟩
  obtain ⟨t, ht, -, -, hkeep, -⟩ := noComposer strayTideUnit 1 (by decide)
  have hkept : t.rd (CMP_L_DAMAGE_VALID 0 0) = 1 := (hkeep _ (by decide +kernel) (by decide +kernel)).1.trans (by decide +kernel)
  have hex : exec (.glbTideCommit 1) strayTideUnit = .next ((Run.start strayTideUnit).tideCommit 1).st := rfl
  rw [eq_st_of_exec hex ht] at hkept
  exact absurd hkept (by decide +kernel)

/-! ## A due retraining of a channel that does not exist -/

/-- A running device whose list of due retrainings names a channel 16, beyond the sixteen there are, with a 2 (active) stored where
that channel's STATE would stand. No command leads there: MEM_RETRAIN and the readings name channels 0 to 15 only. -/
def strayRetraining : State :=
  (State.reset.wr (MEM_CH_STATUS_STATE 16) 2).modify fun u => { u with glb := { u.glb with phase := .run }, mem := { u.mem with due := [16] } }

/-- Refutes O44: its first clause holds for every state, but a reading also starts the next retraining that is due
(`Run.retrainNext`), whatever channel it names. In `strayRetraining` a reading of 25 °C on every sensor stores a 3 as STATE of
channel 16, a register that the clause says is kept. The clause lacks the premise that due channels are below 16. -/
theorem not_thermalAndEvents : ¬ Obligations.ThermalAndEvents := by
  rintro ⟨reading, -⟩
  obtain ⟨t, ht, -, -, -, -, -, hkeep, -⟩ := reading strayRetraining (List.replicate 28 (some 100))
  have hkept : t.rd (MEM_CH_STATUS_STATE 16) = 2 := (hkeep _ (by decide +kernel) (by decide +kernel)).1.trans (by decide +kernel)
  have hex : exec (.thermalReading (List.replicate 28 (some 100))) strayRetraining
      = .next ((Run.start strayRetraining).thermalReading (List.replicate 28 (some 100))).st := rfl
  rw [eq_st_of_exec hex ht] at hkept
  exact absurd hkept (by decide +kernel)

end Sys2Proof.Machine
end

section
/-!
Reads of BAR0: the values and the effects of 32-bit and 64-bit reads, latches and held low words (R2, R3, R442).
-/
namespace Sys2Proof
variable {α : Type}

theorem Tab.find_put_same (t : Tab α) (n : Nat) (v : α) : (t.put n v).find n = some v := by
  induction t with
  | nil => simp [Tab.put, Tab.find]
  | cons e t ih =>
    obtain ⟨k, w⟩ := e
    unfold Tab.put
    split_ifs with h1 h2
    · simp [Tab.find]
    · simp [Tab.find]
    · simp only [Tab.find]; rw [if_neg (fun h => h2 h.symm)]; exact ih

theorem Tab.find_drop_ne (t : Tab α) {n m : Nat} (h : m ≠ n) : (t.drop n).find m = t.find m := by
  induction t with
  | nil => rfl
  | cons e t ih =>
    obtain ⟨k, w⟩ := e
    unfold Tab.drop
    split_ifs with h1
    · subst h1; simp [Tab.find, h.symm]
    · simp only [Tab.find, ih]

theorem Tab.find_above {n : Nat} (t : Tab α) (h : t.above n = true) : t.find n = none := by
  induction t with
  | nil => rfl
  | cons e t ih =>
    obtain ⟨k, w⟩ := e
    simp only [Tab.above, List.all_cons, Bool.and_eq_true, decide_eq_true_eq] at h
    simp only [Tab.find]
    rw [if_neg (by omega)]
    exact ih (by simpa [Tab.above] using h.2)

theorem Tab.find_drop_same (t : Tab α) (n : Nat) (h : t.rising = true) : (t.drop n).find n = none := by
  induction t with
  | nil => rfl
  | cons e t ih =>
    obtain ⟨k, w⟩ := e
    simp only [Tab.rising, Bool.and_eq_true] at h
    unfold Tab.drop
    split_ifs with h1
    · subst h1; exact Tab.find_above t h.1
    · simp only [Tab.find]; rw [if_neg h1]; exact ih h.2

namespace Machine
variable {s₀ s : State}

/-! ## What the register index says -/

/-- Every RC field among some fields begins in the low 32 bits of its register. -/
def rcLow (l : List (Fld × Acc × Bool)) : Bool := l.all fun x => x.2.1 != .rc || decide (x.1.lo < 32)

/-- No register of the index has an RC field above bit 31, whatever its unit. -/
theorem regTable_rcLow : ∀ d ∈ regTable, ∀ i j, rcLow (d.fields i j) = true := by
  simp only [regTable, tabRegsA, tabRegsB, tabRegsC, tabRegsD, tabRegsE, List.forall_mem_append]
  and_intros <;>
    (repeat refine List.forall_mem_cons.mpr ⟨fun _ _ => rfl, ?_⟩) <;> exact fun _ h => absurd h List.not_mem_nil

theorem RegD.hit_reg {d : RegD} {o : Nat} {h : Hit} (hd : d.hit o = some h) : h.reg = d := by
  unfold RegD.hit at hd
  split_ifs at hd with h1
  dsimp only at hd
  split_ifs at hd
  exact Option.some.inj hd ▸ rfl

theorem locate_reg_mem {o : Nat} {h : Hit} (hl : locate regTable o = some h) : h.reg ∈ regTable := by
  obtain ⟨d, hd, hh⟩ := List.exists_of_findSome?_eq_some hl
  exact RegD.hit_reg hh ▸ hd

theorem rc_field_lo_lt {o : Nat} {h : Hit} (hl : locate regTable o = some h) {x : Fld × Acc × Bool} (hx : x ∈ h.fields)
    (hrc : x.2.1 = .rc) : x.1.lo < 32 := by
  have hall := List.all_eq_true.mp (regTable_rcLow h.reg (locate_reg_mem hl) h.i h.j) x hx
  simpa [hrc] using hall

/-- `wideAt` finds a register that begins at the offset and is wider than 32 bits. -/
theorem wideAt_eq_some {o : Nat} {h : Hit} (hw : wideAt o = some h) : locate regTable o = some h ∧ h.reg.width ≠ 32 ∧ h.r % 8 = 0 := by
  obtain ⟨x, hx, hif⟩ := Option.bind_eq_some_iff.mp hw
  split_ifs at hif with hc
  obtain rfl := Option.some.inj hif
  simp only [Bool.and_eq_true, bne_iff_ne, beq_iff_eq] at hc
  exact ⟨hx, hc⟩

/-! ## Reads of BAR0 -/

theorem Run.readHit_plain (r : Run s₀) {h : Hit} (hn : h.reg.name ∉ registersComputed) (lo n : Nat) :
    r.readHit h lo n = h.read r.rd lo n := by
  simp only [registersComputed, List.mem_cons, List.not_mem_nil, or_false, not_or] at hn
  obtain ⟨h1, h2, -, h4, h5⟩ := hn
  simp only [Run.readHit]

theorem Run.readDone_plain (r : Run s₀) {h : Hit} (hn : h.reg.name ∉ registersComputed) (lo n : Nat) :
    r.readDone h lo n = r.clearOnRead h lo n := by
  simp only [registersComputed, List.mem_cons, List.not_mem_nil, or_false, not_or] at hn
  obtain ⟨-, h2, h3, -, -⟩ := hn
  simp only [Run.readDone]

theorem Run.readValue_first (r : Run s₀) {h : Hit} (hr : h.r = 0) (base n : Nat) : r.readValue h base n = r.readHit h 0 n := by
  simp [Run.readValue, hr]

/-- The high half of a latched register shows what the latch holds while it is young (R442). -/
theorem Run.readValue_latched (r : Run s₀) {h : Hit} {w : Held} {base : Nat} (hl : h.latches = true) (hr : h.r = 4)
    (hw : r.u.glb.latched.find base = some w) (n : Nat) :
    r.readValue h base n = if r.now ≤ w.at_ + 1024 then bits w.v 32 n else r.readHit h 32 n := by
  simp only [Run.readValue, hl, hr, Run.latchedAt, hw, Option.bind_some]
  by_cases hy : r.now ≤ w.at_ + 1024 <;> simp [hy]

theorem Run.out_each {α : Type} (l : List α) {f : α → Run s₀ → Run s₀} (hf : ∀ a r, (f a r).st.out = r.st.out) (r : Run s₀) :
    (r.each l f).st.out = r.st.out := by
  induction l generalizing r with
  | nil => rfl
  | cons a l ih => exact (ih (f a r)).trans (hf a r)

theorem Run.out_clearOnRead (r : Run s₀) (h : Hit) (lo n : Nat) : (r.clearOnRead h lo n).st.out = r.st.out := by
  unfold Run.clearOnRead
  refine Run.out_each _ (fun x r => ?_) r
  rfl

/-- A register of RO fields alone has nothing that a read clears. -/
theorem Run.clearOnRead_of_latches (r : Run s₀) {h : Hit} (hl : h.latches = true) (lo n : Nat) : r.clearOnRead h lo n = r := by
  have hro : ∀ x ∈ h.fields, x.2.1 = .ro := by
    simp only [Hit.latches, Bool.and_eq_true, List.all_eq_true, decide_eq_true_eq] at hl
    exact hl.2
  have hnil : (h.fields.filter fun x => x.2.1 = .rc && lo ≤ x.1.lo && x.1.lo < lo + n) = [] :=
    List.filter_eq_nil_iff.mpr fun x hx => by simp [hro x hx]
  rw [Run.clearOnRead, hnil, Run.each_nil]

/-- After some fields have been cleared, a field reads 0 if its key is among theirs, else as before. -/
theorem Run.rd_each_clear (l : List (Fld × Acc × Bool)) (f : Fld) (r : Run s₀) :
    (r.each l fun x r => r.wr x.1 0).rd f = if ∃ x ∈ l, x.1.key = f.key then 0 else r.rd f := by
  induction l generalizing r with
  | nil => simp
  | cons x l ih =>
    rw [Run.each_cons, ih]
    simp only [List.exists_mem_cons_iff]
    by_cases hx : x.1.key = f.key
    · simp [hx, Run.rd_wr_key r 0 hx.symm]
    · simp only [hx, false_or, Run.rd_wr_ne r 0 (Ne.symm hx)]

theorem latches_of_width {h : Hit} (hw : h.reg.width = 32) : h.latches = false := by simp [Hit.latches, hw]

theorem State.hostRead_none (s : State) {off : Nat} (h : locate regTable off = none ∨ s.serves off = false) :
    (Run.start s).hostRead off false = (0, Run.start s) := by
  have hs : (Run.start s).served off = s.serves off := rfl
  rcases h with h | h
  · simp [Run.hostRead, Run.read32, h]
  · simp [Run.hostRead, hs, h]

theorem State.hostRead_narrow (s : State) {off : Nat} {h : Hit} (hs : s.serves off = true) (hl : locate regTable off = some h) :
    (Run.start s).hostRead off false = ((Run.start s).readValue h (off - h.r) 32, (Run.start s).readAt h (off - h.r) 32) := by
  have hs : (Run.start s).served off = true := hs
  simp [Run.hostRead, Run.read32, hs, hl]

theorem State.hostRead_wide (s : State) {off : Nat} {h : Hit} (hs : s.serves off = true) (hl : wideAt off = some h) :
    (Run.start s).hostRead off true = ((Run.start s).readValue h (off - h.r) 64, (Run.start s).readAt h (off - h.r) 64) := by
  have hs : (Run.start s).served off = true := hs
  simp [Run.hostRead, hs, hl]

/-! ## What a read keeps -/

theorem State.KeepsBut.clearOnRead {r : Run s₀} {p m : Nat → Bool} {k : Units → Units} (H : s.KeepsBut r.st p m k) (h : Hit) (lo n : Nat)
    (hp : ∀ x ∈ h.fields, x.2.1 = .rc → lo ≤ x.1.lo → x.1.lo < lo + n → p x.1.key = true) :
    s.KeepsBut (r.clearOnRead h lo n).st p m k := by
  refine H.each _ fun x hx r hr => hr.wr x.1 0 (.inl ?_)
  simp only [List.mem_filter, Bool.and_eq_true, decide_eq_true_eq] at hx
  obtain ⟨hmem, ⟨hrc, hlo⟩, hhi⟩ := hx
  exact hp x hmem hrc hlo hhi

/-- A read of the low word of a register that does not latch clears the RC fields there, and only those. -/
theorem Run.rd_clearOnRead (r : Run s₀) {h : Hit} (hk : (h.fields.map fun x => x.1.key).Nodup)
    (hlow : ∀ x ∈ h.fields, x.2.1 = .rc → x.1.lo < 32) {x : Fld × Acc × Bool} (hx : x ∈ h.fields) :
    (r.clearOnRead h 0 32).rd x.1 = if x.2.1 = .rc then 0 else r.rd x.1 := by
  rw [Run.clearOnRead, Run.rd_each_clear]
  refine if_congr ⟨?_, fun hrc => ⟨x, ?_, rfl⟩⟩ rfl rfl
  · rintro ⟨y, hy, hyx⟩
    obtain ⟨hy, hrc⟩ := List.mem_filter.mp hy
    obtain rfl := List.inj_on_of_nodup_map hk hy hx hyx
    simp only [Bool.and_eq_true, decide_eq_true_eq] at hrc
    obtain ⟨⟨hacc, -⟩, -⟩ := hrc
    exact hacc
  · simp [hx, hrc, hlow x hx hrc]

theorem Run.heldWords_ignored (r : Run s₀) : r.ignored.st.u.glb.heldWords = r.st.u.glb.heldWords := by
  obtain ⟨-, -, -, -, hu⟩ := (State.KeepsBut.refl (p := fun _ => false) (m := fun _ => false) (h := id) r.st).ignored
  simpa only [Units.quiet, id] using congrArg (fun u : Units => u.glb.heldWords) hu

theorem Run.status_ignored (r : Run s₀) : r.ignored.st.status 9 = true := r.status_ev (by omega) rfl

/-! ## The clauses of RegisterRead -/

/-- A read of a register that no read computes and that does not latch. -/
theorem exec_read_plain {off : Nat} {h : Hit} (ha : off % 4 = 0) (hs : s.serves off = true) (hl : locate regTable off = some h)
    (hw : h.reg.width = 32) (hr : h.r = 0) (hn : h.reg.name ∉ registersComputed) :
    exec (.registerRead off false) s = .next (((Run.start s).clearOnRead h 0 32).emit (.answer (h.read s.rd 0 32))).st := by
  rw [exec_registerRead_aligned s ha, s.hostRead_narrow hs hl, Run.readValue_first _ hr, Run.readHit_plain _ hn]
  simp only [Run.readAt, latches_of_width hw, Bool.false_and, Run.when_false, hr, Nat.zero_mul, Run.readDone_plain _ hn]
  rfl

/-- A read of the low word of a register of RO fields latches the whole register (R442). -/
theorem exec_read_first_half {off : Nat} {h : Hit} (ha : off % 4 = 0) (hs : s.serves off = true) (hl : locate regTable off = some h)
    (hla : h.latches = true) (hr : h.r = 0) (hn : h.reg.name ∉ registersComputed) :
    exec (.registerRead off false) s
      = .next (((Run.start s).glb fun g => { g with latched := g.latched.put off ⟨h.read s.rd 0 h.reg.width, s.now⟩ }).emit
          (.answer (h.read s.rd 0 32))).st := by
  rw [exec_registerRead_aligned s ha, s.hostRead_narrow hs hl, Run.readValue_first _ hr, Run.readHit_plain _ hn]
  simp only [Run.readAt, hla, hr, beq_self_eq_true, Bool.and_self, Run.when_true, Run.readHit_plain _ hn, Run.readDone_plain _ hn,
    Run.clearOnRead_of_latches _ hla]
  rfl

/-- A read of the high word answers what the latch holds while it is young (R442). -/
theorem exec_read_second_half {off : Nat} {h : Hit} {w : Held} (ha : (off + 4) % 4 = 0) (hs : s.serves (off + 4) = true)
    (hl : locate regTable (off + 4) = some h) (hla : h.latches = true) (hr : h.r = 4) (hn : h.reg.name ∉ registersComputed)
    (hw : s.u.glb.latched.find off = some w) :
    exec (.registerRead (off + 4) false) s
      = .next (s.emit (.answer (if s.now ≤ w.at_ + 1024 then bits w.v 32 32 else h.read s.rd 32 32))) := by
  have hv : (Run.start s).readValue h (off + 4 - h.r) 32 = if s.now ≤ w.at_ + 1024 then bits w.v 32 32 else h.read s.rd 32 32 := by
    rw [show off + 4 - h.r = off by omega, Run.readValue_latched (Run.start s) hla hr hw, Run.readHit_plain _ hn]
    rfl
  rw [exec_registerRead_aligned s ha, s.hostRead_narrow hs hl, hv]
  simp only [Run.readAt, hla, hr, Run.readDone_plain _ hn, Run.clearOnRead_of_latches _ hla]
  rfl

theorem Run.out_readAt_plain (r : Run s₀) {h : Hit} (hn : h.reg.name ∉ registersComputed) (base n : Nat) :
    (r.readAt h base n).st.out = r.st.out := by
  unfold Run.readAt
  rw [Run.readDone_plain _ hn, Run.out_clearOnRead]
  unfold Run.when
  split_ifs <;> rfl

theorem Hit.read_low (h : Hit) (val : Fld → Nat) :
    h.read val 0 32 = ((h.fields.map fun x => if x.2.1 = .wo then 0 else val x.1 * 2 ^ x.1.lo).foldl (· + ·) 0) % 2 ^ 32 := by
  have hf : ∀ x : Fld × Acc × Bool, fieldValue val x.1 x.2.1 * 2 ^ x.1.lo = if x.2.1 = .wo then 0 else val x.1 * 2 ^ x.1.lo := by
    intro x; unfold fieldValue; split_ifs <;> simp
  simp only [Hit.read, bits, hf, Nat.pow_zero, Nat.div_one]

theorem span_word {off n : Nat} {f : Fld} (ho : f.off = off) (hn : f.lo < n * 8) : span off (off + n) f.key = true := by
  simp only [span, Fld.key, ho, Bool.and_eq_true, decide_eq_true_eq]
  omega

/-- Settles O11: a read is `hostRead`, whose value and effects the lemmas above give case by case. -/
theorem registerRead : Obligations.RegisterRead := by
  refine ⟨?undefined, ?narrow, ?low, ?high, ?wide, ?discard, ?release⟩
  case undefined =>
    intro s off ha h
    rw [exec_registerRead_aligned s ha, s.hostRead_none h]; rfl
  case narrow =>
    intro s off h ha hs hl hw hr hn hk hf
    have hlow : ∀ x ∈ h.fields, x.2.1 = .rc → x.1.lo < 32 := fun x hx => rc_field_lo_lt hl hx
    refine ⟨_, exec_read_plain ha hs hl hw hr hn, ?_, fun x hx => Run.rd_clearOnRead _ hk hlow hx, ?_⟩
    · rw [← Hit.read_low]
      exact congrArg _ (Run.out_clearOnRead _ h 0 32)
    · exact ((State.KeepsBut.refl s).clearOnRead h 0 32 fun x hx hrc _ _ => span_word (hf x hx).1 (hlow x hx hrc)).emit _
  case low =>
    intro s off h ha hs hw hla hr hn
    obtain ⟨hl, -, -⟩ := wideAt_eq_some hw
    rw [exec_read_first_half (by omega) hs hl hla hr hn]
    exact ⟨_, rfl, rfl, Tab.find_put_same _ _ _, ((State.KeepsBut.refl (Run.start s).st).glb _ fun _ => rfl).emit _⟩
  case high =>
    intro s off h w ha hs hl hla hr hn hw
    rw [exec_read_second_half (by omega) hs hl hla hr hn hw]
    exact ⟨_, rfl, rfl, State.KeepsBut.refl s⟩
  case wide =>
    intro s off h ha hs hw _ hn hr
    refine ⟨_, exec_registerRead_aligned s ha, ?_⟩
    rw [s.hostRead_wide hs hw, Run.readValue_first _ hr, Run.readHit_plain _ hn]
    exact congrArg _ (Run.out_readAt_plain _ hn _ _)
  case discard =>
    intro s off w hw
    have hex : exec (.lowWordDiscard off) s = .next (((Run.start s).lowGone off).ignored).st := by
      have hsome : ((Run.start s).u.glb.heldWords.find off).isSome = true := by simp [hw]
      simp only [exec, execLowWordDiscard, done, hsome, if_true]
    refine ⟨_, hex, Run.status_ignored _, fun k hk => ?_, fun hr => ?_, ((State.KeepsBut.refl s).glb _ fun _ => rfl).ignored⟩
    · rw [Run.heldWords_ignored]; exact Tab.find_drop_ne _ hk
    · rw [Run.heldWords_ignored]; exact Tab.find_drop_same _ _ hr
  case release =>
    intro s off
    exact ⟨_, rfl, fun k hk => Tab.find_drop_ne _ hk, fun hr => Tab.find_drop_same _ _ hr,
      (State.KeepsBut.refl s).glb _ fun _ => rfl⟩

end Machine
end Sys2Proof
end

section
/-!
R9's comparisons, and what the machine does with numbers half the range apart: an FS that is not later than the last one, and a
gap in a bundle's SEQ.
-/
namespace Sys2Proof.Machine
variable {s₀ s : State} {p m : Nat → Bool} {h : Units → Units}

/-! ## R9's comparisons as integer remainders -/

/-- The machine's difference modulo `2 ^ w` is the remainder of the integer difference. -/
theorem natDiff_mod (n a b : Nat) (hn : 0 < n) : (((a + n - b % n) % n : Nat) : Int) = ((a : Int) - b) % (n : Nat) := by
  have hb : b % n ≤ a + n := (Nat.mod_lt b hn).le.trans (Nat.le_add_left n a)
  have hab : ((a + n - b % n : Nat) : Int) = ((a : Int) - b) + (n : Int) * (1 + (b / n : Nat)) := by
    have hdm : ((b % n : Nat) : Int) + n * (b / n : Nat) = b := mod_cast Nat.mod_add_div b n
    rw [Nat.cast_sub hb, Nat.cast_add]
    linarith
  rw [Int.natCast_mod, hab, Int.add_mul_emod_self_left]

theorem subMod_cast (w a b : Nat) : (subMod w a b : Int) = ((a : Int) - b) % (2 ^ w : Nat) := by
  rw [subMod, natDiff_mod _ _ _ (Nat.two_pow_pos w), Int.natCast_mod, Int.emod_sub_emod]

theorem laterThan_iff (w a b : Nat) :
    laterThan w a b = true ↔ 1 ≤ ((a : Int) - b) % (2 ^ w : Nat) ∧ ((a : Int) - b) % (2 ^ w : Nat) ≤ (2 ^ (w - 1) : Nat) - 1 := by
  rw [← natDiff_mod _ a b (Nat.two_pow_pos w)]
  simp only [laterThan, Bool.and_eq_true, decide_eq_true_eq]
  omega

/-- At half the range neither number is later (R9). -/
theorem half_range_swap {w a b : Nat} (hw : 1 ≤ w) (hd : ((a : Int) - b) % (2 ^ w : Nat) = (2 ^ (w - 1) : Nat)) :
    ((b : Int) - a) % (2 ^ w : Nat) = (2 ^ (w - 1) : Nat) := by
  have hN : (2 ^ w : Nat) = 2 * 2 ^ (w - 1) := by rw [← pow_succ', Nat.sub_add_cancel hw]
  have hpos := Nat.two_pow_pos (w - 1)
  rw [hN] at hd ⊢
  generalize 2 ^ (w - 1) = k at hd hpos ⊢
  have hq := Int.emod_add_mul_ediv ((a : Int) - b) ((2 * k : Nat) : Int)
  rw [hd] at hq
  generalize ((a : Int) - b) / ((2 * k : Nat) : Int) = q at hq
  have hba : (b : Int) - a = k + ((2 * k : Nat) : Int) * (-q - 1) := by
    push_cast at hq ⊢
    linarith
  rw [hba, Int.add_mul_emod_self_left]
  exact Int.emod_eq_of_lt (by omega) (by omega)

theorem laterThan_half {w a b : Nat} (hd : ((a : Int) - b) % (2 ^ w : Nat) = (2 ^ (w - 1) : Nat)) : laterThan w a b = false := by
  rw [Bool.eq_false_iff, Ne, laterThan_iff, hd]
  omega


/-! ## Reads after changes of ITK -/

theorem Run.vst_vstMod_same (r : Run s₀) (v : Nat) (f : VsU → VsU) : (r.vstMod v f).vst v = f (r.vst v) := Tab.look_put_same _ _ _ _

theorem Run.bnd_bndMod_same (r : Run s₀) (b : Nat) (f : BndU → BndU) : (r.bndMod b f).bnd b = f (r.bnd b) := Tab.look_put_same _ _ _ _

/-! ## What ITK's operations keep -/

/-- `h` forgets ITK. -/
def forgetsItk (h : Units → Units) : Prop := ∀ (u : Units) (i : ItkU), h { u with itk := i }.quiet = h u.quiet

theorem State.KeepsBut.forgetUnits {t : State} (H : s.KeepsBut t p m h) : s.KeepsBut t p m fun _ => {} := by
  obtain ⟨hrd, hmem, hpend, hnow, -⟩ := H
  exact ⟨hrd, hmem, hpend, hnow, rfl⟩

theorem State.KeepsBut.sendPacket {r : Run s₀} (H : s.KeepsBut r.st p m h) (dest type vs flags seq : Nat) (body : List Byte) :
    s.KeepsBut (r.sendPacket dest type vs flags seq body).st p m h := by
  unfold Run.sendPacket Run.sendBytes Run.txMod
  exact (H.emit _).mod _ fun _ => rfl

theorem State.KeepsBut.bndGo {r : Run s₀} (H : s.KeepsBut r.st p m h) (b st : Nat) (hb : p (ITK_BND_STATUS_STATE b).key = true)
    (hv : ∀ v, p (ITK_VS_STATUS_BND_STATE v).key = true) : s.KeepsBut (r.bndGo b st).st p m h := by
  unfold Run.bndGo
  exact (H.wr _ _ (.inl hb)).each _ fun v _ r hr => hr.wr _ _ (.inl (hv v))

theorem State.KeepsBut.bndNak {r : Run s₀} (H : s.KeepsBut r.st p m h) (b : Nat) (hn : p (ITK_BND_STATUS_NAK_COUNT b).key = true)
    (ht : p (ITK_BND_ERR2_NAKS_TX b).key = true) : s.KeepsBut (r.bndNak b).st p m h := by
  unfold Run.bndNak
  split_ifs
  · exact H
  · exact ((H.inc _ _ (.inl hn)).sat _ _ (.inl ht)).sendPacket ..

theorem State.KeepsBut.setCounts {r : Run s₀} (H : s.KeepsBut r.st p m h) (v : Nat) (hq : p (ITK_VS_SET_CTL_QUEUED v).key = true)
    (hp : p (ITK_VS_SET_CTL_PENDING v).key = true) : s.KeepsBut (r.setCounts v).st p m h := by
  unfold Run.setCounts
  exact (H.wr _ _ (.inl hq)).wr _ _ (.inl hp)

theorem State.KeepsBut.turnLeft {r : Run s₀} (H : s.KeepsBut r.st p m h) (ce left : Nat) (hp : p (PIX_CE_BACKLOG ce).key = true)
    (hh : ∀ (u : Units) (x : PixU), h { u with pix := x }.quiet = h u.quiet) : s.KeepsBut (r.turnLeft ce left).st p m h := by
  unfold Run.turnLeft
  refine H.when _ fun _ => ?_
  unfold Run.ceMod Run.pixMod
  exact (H.mod _ fun u => hh u _).wr _ _ (.inl hp)

/-- The fields that the judgement of a virtual stream's SETs and a dispatch of them write (R119, R120). -/
def setFields (b v : Nat) : List Fld :=
  [ITK_VS_LATE_FN v, ITK_VS_LATE_TAG_TAG v, ITK_VS_LATE_TAG_LOST v, ITK_VS_LATE_TAG_EARLY v, ITK_VS_ERR_LATE v,
   ITK_VS_SET_CTL_QUEUED v, ITK_VS_SET_CTL_PENDING v, ITK_BND_RSEQ_NEXT_RSEQ b]

theorem State.KeepsBut.setLate {r : Run s₀} (H : s.KeepsBut r.st p m h) {v : Nat} (hv : v < 16) (fn tag : Nat) (lost early : Bool) {b : Nat}
    (hp : ∀ f ∈ setFields b v, p f.key = true) : s.KeepsBut (r.setLate v fn tag lost early).st p m h := by
  simp only [setFields, List.forall_mem_cons] at hp
  obtain ⟨hfn, htag, hlost, hearly, hlate, -⟩ := hp
  unfold Run.setLate
  exact (((((H.wr _ _ (.inl hfn)).wr _ _ (.inl htag)).wr _ _ (.inl hlost)).wr _ _ (.inl hearly)).sat _ _ (.inl hlate)).ev (by omega)

theorem State.KeepsBut.setEcho {r : Run s₀} (H : s.KeepsBut r.st p m h) {v : Nat} (hv : v < 16) (g tag : Nat) {b : Nat}
    (hp : ∀ f ∈ setFields b v, p f.key = true) (hi : forgetsItk h) : s.KeepsBut (r.setEcho v g tag).st p m h := by
  unfold Run.setEcho Run.vstMod Run.itk
  refine State.KeepsBut.setCounts (State.KeepsBut.each _ (H.mod _ fun u => hi u _) fun q _ r hr => ?_) v (hp _ (by simp [setFields]))
    (hp _ (by simp [setFields]))
  split
  · exact hr.setLate hv _ _ _ _ hp
  · exact hr.setLate hv _ _ _ _ hp
  · exact hr.setLate hv _ _ _ _ hp
  · exact hr

theorem State.KeepsBut.retSend {r : Run s₀} (H : s.KeepsBut r.st p m h) (b : Nat) (q : RetPkt) (hp : p (ITK_BND_RSEQ_NEXT_RSEQ b).key = true)
    (hi : forgetsItk h) : s.KeepsBut (r.retSend b q).st p m h := by
  unfold Run.retSend
  split
  · exact ((H.wr _ _ (.inl hp)).mod _ fun u => hi u _).sendPacket ..
  · exact H

theorem State.KeepsBut.setSend {r : Run s₀} (H : s.KeepsBut r.st p m h) (v : Nat) (q : SetReq)
    (hp : ∀ b, p (ITK_BND_RSEQ_NEXT_RSEQ b).key = true) (hi : forgetsItk h) : s.KeepsBut (r.setSend v q).st p m h := by
  unfold Run.setSend Run.vstMod Run.itk
  exact (H.mod _ fun u => hi u _).retSend _ _ (hp _) hi

theorem State.KeepsBut.setDispatch {r : Run s₀} (H : s.KeepsBut r.st p m h) {v : Nat} (g : Nat)
    (hp : ∀ b, ∀ f ∈ setFields b v, p f.key = true) (hi : forgetsItk h) : s.KeepsBut (r.setDispatch v g).st p m h := by
  have hq : ∀ b, p (ITK_BND_RSEQ_NEXT_RSEQ b).key = true := fun b => hp b _ (by simp [setFields])
  unfold Run.setDispatch Run.vstMod Run.itk
  refine State.KeepsBut.setCounts (State.KeepsBut.each _ (H.mod _ fun u => hi u _) fun q _ r hr => hr.setSend v q hq hi) v ?_ ?_
  · exact hp 0 _ (by simp [setFields])
  · exact hp 0 _ (by simp [setFields])

theorem State.KeepsBut.countLoss {r : Run s₀} (H : s.KeepsBut r.st p m h) {v : Nat} (hv : v < 16) (fn cause : Nat)
    (hp : ∀ f ∈ [ITK_VS_ERR_LOST v, ITK_VS_LOST_FN v, ITK_VS_STATUS_LOST_CAUSE v], p f.key = true) :
    s.KeepsBut (r.countLoss v fn cause).st p m h := by
  simp only [List.forall_mem_cons] at hp
  obtain ⟨hlost, hfn, hcause, -⟩ := hp
  unfold Run.countLoss
  exact (((H.sat _ _ (.inl hlost)).wr _ _ (.inl hfn)).wr _ _ (.inl hcause)).ev (by omega)

/-- A packet error leaves its bundle's mark: words are discarded until the next resync point (R108). -/
theorem State.KeepsBut.bndReplay {r : Run s₀} (H : s.KeepsBut r.st p m h) (b : Nat)
    (hp : ∀ f ∈ [ITK_BND_STATUS_STATE b, ITK_BND_STATUS_NAK_COUNT b, ITK_BND_ERR2_NAKS_TX b], p f.key = true)
    (hv : ∀ v, p (ITK_VS_STATUS_BND_STATE v).key = true) (hi : forgetsItk h) : s.KeepsBut (r.bndReplay b).st p m h := by
  simp only [List.forall_mem_cons] at hp
  obtain ⟨hstate, hnak, htx, -⟩ := hp
  unfold Run.bndReplay Run.bndMod Run.itk
  exact ((H.when _ fun _ => H.bndGo b 4 hstate hv).mod _ fun u => hi u _).bndNak b hnak htx

theorem Run.bnd_bndNak (r : Run s₀) (b c : Nat) : (r.bndNak b).bnd c = r.bnd c := by
  unfold Run.bndNak
  split_ifs <;> rfl

theorem Run.discard_bndReplay (r : Run s₀) (b : Nat) : ((r.bndReplay b).bnd b).discard = true := by
  simp only [Run.bndReplay, Run.bnd_bndNak, Run.bnd_bndMod_same]

/-! ## A loss -/

theorem eventKey_itk {k : Nat} (hlo : 0x800000 * 8 ≤ k) (hhi : k < 0x900000 * 8) : eventKey k = false := by
  have hpba : QIF_PBA.key = 0x1521000 * 8 := rfl
  have htrace : MON_STATUS_TRACE.key = 0x1B00004 * 8 + 7 := rfl
  have hsmb : GLB_SMB_STATUS_PENDING.key = 0x1C00 * 8 := rfl
  simp only [eventKey, hpba, htrace, hsmb, Bool.or_eq_false_iff, Bool.and_eq_false_iff, decide_eq_false_iff_not, beq_eq_false_iff_ne]
  omega

theorem Run.rd_countLoss (r : Run s₀) {v : Nat} (hv : v < 16) (fn cause : Nat) :
    (r.countLoss v fn cause).rd (ITK_VS_STATUS_LOST_CAUSE v) = cause % 2 ^ 4 ∧ (r.countLoss v fn cause).rd (ITK_VS_LOST_FN v) = fn % 2 ^ 32 := by
  unfold Run.countLoss
  have hk : (ITK_VS_LOST_FN v).key ≠ (ITK_VS_STATUS_LOST_CAUSE v).key := by simp only [Fld.key, ITK_VS_LOST_FN, ITK_VS_STATUS_LOST_CAUSE]; omega
  have he : ∀ f ∈ [ITK_VS_STATUS_LOST_CAUSE v, ITK_VS_LOST_FN v], eventKey f.key = false := by
    simp only [List.forall_mem_cons, Fld.key, ITK_VS_LOST_FN, ITK_VS_STATUS_LOST_CAUSE]
    exact ⟨eventKey_itk (by omega) (by omega), eventKey_itk (by omega) (by omega), by simp⟩
  constructor
  · rw [Run.rd_ev _ (by omega) (he _ (by simp)), Run.rd_wr_same]; rfl
  · rw [Run.rd_ev _ (by omega) (he _ (by simp)), Run.rd_wr_ne _ _ hk, Run.rd_wr_same]; rfl

/-! ## A frame start that is not later -/

/-- The registers that an FS may write on its way to the comparison with LAST_FN and after it, and more: all but LAST_FN and the
role. -/
def fsKeys (v k : Nat) : Bool := k != (ITK_VS_LAST_FN v).key && k != GLB_MODE_ROLE.key

theorem fsKeys_iff (v k : Nat) : fsKeys v k = true ↔ k ≠ (0x810004 + 0x1000 * v) * 8 + 0 ∧ k ≠ 0x100 * 8 + 2 := by
  simp only [fsKeys, Bool.and_eq_true, bne_iff_ne]
  exact Iff.rfl

/-- What the judgement of an FS of virtual stream v reads of the units. -/
def streamView (v : Nat) (u : Units) : Units :=
  let x := u.itk.vs.look v {}
  { frames := u.frames, glb := { cfg := u.glb.cfg }, itk := { stop := u.itk.stop, vs := [(v, { first := x.first, open_ := x.open_ })] } }

theorem streamView_vs (v w : Nat) (u : Units) (f : VsU → VsU) (hf : ∀ x, (f x).first = x.first ∧ (f x).open_ = x.open_) :
    streamView v { u with itk := { u.itk with vs := u.itk.vs.put w (f (u.itk.vs.look w {})) } } = streamView v u := by
  by_cases hw : v = w
  · subst hw
    simp [streamView, Tab.look_put_same, hf]
  · simp [streamView, Tab.look_put_ne _ _ _ hw]

theorem State.KeepsBut.streamMod {r : Run s₀} {v : Nat} (H : s.KeepsBut r.st p m (streamView v)) (w : Nat) (f : VsU → VsU)
    (hf : ∀ x, (f x).first = x.first ∧ (f x).open_ = x.open_) : s.KeepsBut (r.vstMod w f).st p m (streamView v) :=
  H.mod _ fun u => streamView_vs v w u.quiet f hf

/-- The fields of a bundle and of a virtual stream, and of an engine, that the acceptance of an FS's SEQ writes. -/
def takeFields (b w : Nat) : List Fld :=
  [ITK_BND_SEQ_EXP_SEQ b, ITK_BND_STATUS_NAK_COUNT b, ITK_BND_STATUS_STATE b, ITK_VS_STATUS_BND_STATE w, ITK_VS_STATUS_STALLED w,
   PIX_CE_BACKLOG w]

theorem fsKeys_takeFields (v : Nat) {b : Nat} (hb : b < 8) (w : Nat) : ∀ f ∈ takeFields b w, fsKeys v f.key = true := by
  simp only [takeFields, List.forall_mem_cons, fsKeys_iff, Fld.key, ITK_BND_SEQ_EXP_SEQ, ITK_BND_STATUS_NAK_COUNT,
    ITK_BND_STATUS_STATE, ITK_VS_STATUS_BND_STATE, ITK_VS_STATUS_STALLED, PIX_CE_BACKLOG]
  refine ⟨?_, ?_, ?_, ?_, ?_, ?_, by simp⟩ <;> omega

theorem fsKeys_setFields (v b : Nat) : ∀ f ∈ setFields b v, fsKeys v f.key = true := by
  simp only [setFields, List.forall_mem_cons, fsKeys_iff, Fld.key, ITK_VS_LATE_FN, ITK_VS_LATE_TAG_TAG, ITK_VS_LATE_TAG_LOST,
    ITK_VS_LATE_TAG_EARLY, ITK_VS_ERR_LATE, ITK_VS_SET_CTL_QUEUED, ITK_VS_SET_CTL_PENDING, ITK_BND_RSEQ_NEXT_RSEQ]
  refine ⟨?_, ?_, ?_, ?_, ?_, ?_, ?_, ?_, by simp⟩ <;> omega

theorem fsKeys_lossFields (v : Nat) : ∀ f ∈ [ITK_VS_ERR_LOST v, ITK_VS_LOST_FN v, ITK_VS_STATUS_LOST_CAUSE v], fsKeys v f.key = true := by
  simp only [List.forall_mem_cons, fsKeys_iff, Fld.key, ITK_VS_ERR_LOST, ITK_VS_LOST_FN, ITK_VS_STATUS_LOST_CAUSE]
  refine ⟨?_, ?_, ?_, by simp⟩ <;> omega

theorem State.KeepsBut.bndUp {r : Run s₀} {v : Nat} (H : s.KeepsBut r.st (fsKeys v) m (streamView v)) {b : Nat} (hb : b < 8) :
    s.KeepsBut (r.bndUp b).st (fsKeys v) m (streamView v) := by
  unfold Run.bndUp
  have hkey : ∀ w, ∀ f ∈ takeFields b w, fsKeys v f.key = true := fsKeys_takeFields v hb
  refine State.KeepsBut.each _ (H.bndGo b 3 (hkey 0 _ (by simp [takeFields])) fun w => hkey w _ (by simp [takeFields])) fun w _ r hr => ?_
  exact hr.streamMod w _ fun _ => ⟨rfl, rfl⟩

/-- Bundle b accepts the packet whose SEQ it expects (R100, R108). -/
def Run.bndAccept (r : Run s₀) (b : Nat) : Run s₀ :=
  let r := (r.wr (ITK_BND_SEQ_EXP_SEQ b) (r.rd (ITK_BND_SEQ_EXP_SEQ b) + 1)).wr (ITK_BND_STATUS_NAK_COUNT b) 0
  let r := r.bndMod b fun x => { x with owed := true, restart := false }
  r.when (r.bndState b == 4 && (r.bnd b).wait.isEmpty) fun r => r.bndUp b

theorem Run.bndTake_expected (r : Run s₀) {b seq : Nat} (hh : r.bndHears b = true) (hq : seq % 2 ^ 24 = r.rd (ITK_BND_SEQ_EXP_SEQ b))
    (f : Run s₀ → Run s₀) : r.bndTake b seq f = f (r.bndAccept b) := by
  simp only [Run.bndTake, hh, hq, Bool.not_true, Bool.false_eq_true, if_false, if_true]
  rfl

theorem State.KeepsBut.bndAccept {r : Run s₀} {v : Nat} (H : s.KeepsBut r.st (fsKeys v) m (streamView v)) {b : Nat} (hb : b < 8) :
    s.KeepsBut (r.bndAccept b).st (fsKeys v) m (streamView v) := by
  have hkey := fsKeys_takeFields v hb 0
  have taken : s.KeepsBut (((r.wr (ITK_BND_SEQ_EXP_SEQ b) (r.rd (ITK_BND_SEQ_EXP_SEQ b) + 1)).wr (ITK_BND_STATUS_NAK_COUNT b) 0).bndMod b
      fun x => { x with owed := true, restart := false }).st (fsKeys v) m (streamView v) :=
    ((H.wr _ _ (.inl (hkey _ (by simp [takeFields])))).wr _ _ (.inl (hkey _ (by simp [takeFields])))).mod _ fun _ => rfl
  exact taken.when _ fun _ => taken.bndUp hb

/-- The watchdog of virtual stream v is armed again (R117). -/
def Run.fsHeard (r : Run s₀) (v : Nat) : Run s₀ := (r.vstMod v fun x => { x with armed := true }).wr (ITK_VS_STATUS_STALLED v) 0

theorem State.KeepsBut.fsHeard {r : Run s₀} {v : Nat} (H : s.KeepsBut r.st (fsKeys v) m (streamView v)) :
    s.KeepsBut (r.fsHeard v).st (fsKeys v) m (streamView v) := by
  have hstalled : fsKeys v (ITK_VS_STATUS_STALLED v).key = true :=
    fsKeys_takeFields v (b := 0) (by omega) v _ (by simp [takeFields])
  unfold Run.fsHeard
  exact (H.streamMod v _ fun _ => by simp).wr _ _ (.inl hstalled)

/-- What a run that keeps `streamView v` still reads as at its start: the woven records, whether ITK has stopped, LAST_FN, and
the stream's own marks. -/
theorem State.KeepsBut.streamReads {r : Run s₀} {v : Nat} (hv : v < 16) (H : s.KeepsBut r.st (fsKeys v) m (streamView v)) :
    r.records = (Run.start s).records ∧ r.u.itk.stop = s.u.itk.stop ∧ r.rd (ITK_VS_LAST_FN v) = s.rd (ITK_VS_LAST_FN v)
      ∧ (r.vst v).first = (s.u.itk.vs.look v {}).first ∧ r.openFrame v = (Run.start s).openFrame v := by
  obtain ⟨hrd, -, -, -, hu⟩ := H
  have hlast := hrd (ITK_VS_LAST_FN v) (by simp [fsKeys]) (eventKey_itk (by simp only [Fld.key, ITK_VS_LAST_FN]; omega)
    (by simp only [Fld.key, ITK_VS_LAST_FN]; omega))
  have hrole := hrd GLB_MODE_ROLE (by simp [fsKeys]) rfl
  have hfirst := congrArg (fun u : Units => (u.itk.vs.look v {}).first) hu
  have hopen := congrArg (fun u : Units => (u.itk.vs.look v {}).open_) hu
  have hframes := congrArg Units.frames hu
  have hcfg := congrArg (fun u : Units => u.glb.cfg) hu
  have hstop := congrArg (fun u : Units => u.itk.stop) hu
  simp only [streamView, Units.quiet, Tab.look, if_true] at hfirst hopen hframes hcfg hstop
  refine ⟨?_, hstop, hlast.1, hfirst, ?_⟩
  · unfold Run.records Run.reader Run.on Run.u
    rw [hrole.1, hcfg]
    rfl
  · unfold Run.openFrame Run.vst Run.frame? Run.u
    rw [hopen, hframes]
    rfl

theorem Run.acceptFs_stale (r : Run s₀) {v fn : Nat} (tag ts tns tf : Nat) (ho : (r.fsHeard v).openFrame v = none)
    (hf : ((r.fsHeard v).vst v).first = false) (hl : laterThan 32 fn ((r.fsHeard v).rd (ITK_VS_LAST_FN v)) = false) :
    r.acceptFs v fn tag ts tns tf
      = ((((r.fsHeard v).vstMod v fun x => { x with seen := true }).setEcho v fn tag).setDispatch v fn).countLoss v fn 5 := by
  have hlose : (r.fsHeard v).loseFrame v 3 = r.fsHeard v := by simp only [Run.loseFrame, ho]
  unfold Run.acceptFs
  dsimp only
  rw [show (r.vstMod v fun x => { x with armed := true }).wr (ITK_VS_STATUS_STALLED v) 0 = r.fsHeard v from rfl, hlose, hf, hl]
  rfl

/-- The registers of a packet error of bundle b but for what it counts: neither SEQ_GAP nor the expected SEQ. -/
def gapKeys (b k : Nat) : Bool := k != (ITK_BND_ERR_SEQ_GAP b).key && k != (ITK_BND_SEQ_EXP_SEQ b).key

theorem gapKeys_iff (b k : Nat) : gapKeys b k = true ↔ k ≠ (0x800010 + 0x100 * b) * 8 + 16 ∧ k ≠ (0x800008 + 0x100 * b) * 8 + 0 := by
  simp only [gapKeys, Bool.and_eq_true, bne_iff_ne]
  exact Iff.rfl

/-- A packet error asks for a replay and leaves SEQ_GAP and the expected SEQ alone (R108). -/
theorem Run.rd_bndError (r : Run s₀) {b : Nat} (hb : b < 8) :
    (r.bndError b).rd (ITK_BND_ERR_SEQ_GAP b) = r.rd (ITK_BND_ERR_SEQ_GAP b)
      ∧ (r.bndError b).rd (ITK_BND_SEQ_EXP_SEQ b) = r.rd (ITK_BND_SEQ_EXP_SEQ b) := by
  have hp : ∀ f ∈ [ITK_BND_STATUS_STATE b, ITK_BND_STATUS_NAK_COUNT b, ITK_BND_ERR2_NAKS_TX b], gapKeys b f.key = true := by
    simp only [List.forall_mem_cons, gapKeys_iff, Fld.key, ITK_BND_STATUS_STATE, ITK_BND_STATUS_NAK_COUNT, ITK_BND_ERR2_NAKS_TX]
    refine ⟨?_, ?_, ?_, by simp⟩ <;> omega
  have hv : ∀ v, gapKeys b (ITK_VS_STATUS_BND_STATE v).key = true := by
    intro v
    simp only [gapKeys_iff, Fld.key, ITK_VS_STATUS_BND_STATE]
    omega
  obtain ⟨hrd, -⟩ := (State.KeepsBut.refl (p := gapKeys b) (m := fun _ => false) (h := fun _ => {}) r.st).bndReplay b hp hv fun _ _ => rfl
  have hgap := hrd (ITK_BND_ERR_SEQ_GAP b) (by simp [gapKeys])
    (eventKey_itk (by simp only [Fld.key, ITK_BND_ERR_SEQ_GAP]; omega) (by simp only [Fld.key, ITK_BND_ERR_SEQ_GAP]; omega))
  have hexp := hrd (ITK_BND_SEQ_EXP_SEQ b) (by simp [gapKeys])
    (eventKey_itk (by simp only [Fld.key, ITK_BND_SEQ_EXP_SEQ]; omega) (by simp only [Fld.key, ITK_BND_SEQ_EXP_SEQ]; omega))
  exact ⟨hgap.1, hexp.1⟩

/-- A SEQ half the range away from the expected one is a packet error (R9, R100). -/
theorem Run.bndTake_half (r : Run s₀) {b seq : Nat} (hh : r.bndHears b = true) (hseq : seq < 2 ^ 24)
    (hd : subMod 24 seq (r.rd (ITK_BND_SEQ_EXP_SEQ b)) = 2 ^ 23) (f : Run s₀ → Run s₀) :
    r.bndTake b seq f = (r.sat (ITK_BND_ERR_SEQ_GAP b)).bndError b := by
  have hne : ¬ seq = r.rd (ITK_BND_SEQ_EXP_SEQ b) := by
    intro he
    have hself : ∀ x, subMod 24 x x = 0 := by intro x; unfold subMod; omega
    rw [he, hself] at hd
    omega
  simp only [Run.bndTake, hh, Nat.mod_eq_of_lt hseq, hne, hd, Bool.not_true, Bool.false_eq_true, if_false, beq_self_eq_true, Bool.or_true,
    if_true]

theorem Run.rd_sat_same (r : Run s₀) (f : Fld) (n : Nat) : (r.sat f n).rd f = min (r.rd f + n) (2 ^ f.w - 1) := by
  have hpos := Nat.two_pow_pos f.w
  rw [Run.sat, Run.rd_wr_same]
  exact Nat.mod_eq_of_lt (by omega)

/-- A gap half the range wide is counted in SEQ_GAP, and words are discarded until the replay. -/
theorem exec_reservedType_half {b : Fin 8} {seq : Nat} (hh : (Run.start s).bndHears b = true) (hseq : seq < 2 ^ 24)
    (hd : subMod 24 seq (s.rd (ITK_BND_SEQ_EXP_SEQ b)) = 2 ^ 23) :
    exec (.reservedType b seq) s = .next (((Run.start s).sat (ITK_BND_ERR_SEQ_GAP b)).bndError b).st := by
  have hex : exec (.reservedType b seq) s = .next ((Run.start s).bndTake b seq fun r => r.sat (ITK_BND_ERR2_RESERVED_TYPE b)).st := rfl
  rw [hex, Run.bndTake_half _ hh hseq hd]

/-- An FS on a bound stream of its bundle, expected by SEQ while ITK accepts frames, reaches the acceptance of frames; what
`streamView` shows has not changed on the way. -/
theorem exec_fs_reaches {b : Fin 8} {v : Fin 16} {seq c : Nat} (fn tag ts tns tf l0 l1 : Nat) (ht : s.takes b seq) (hc : s.binds b v c)
    (hs : s.u.itk.stop = false) :
    ∃ r : Run s, s.KeepsBut r.st (fsKeys v) (fun _ => false) (streamView v)
      ∧ exec (.fs b seq v fn tag ts tns tf l0 l1) s
        = .next (r.acceptFs v (fn % 2 ^ 32) (tag % 2 ^ 16) (ts % 2 ^ 48) (tns % 2 ^ 30) (tf % 2 ^ 18)).st := by
  obtain ⟨hh, hq⟩ := ht
  obtain ⟨hcfg, hvb, -⟩ := hc
  have H : s.KeepsBut ((Run.start s).bndAccept b).st (fsKeys v) (fun _ => false) (streamView v) :=
    State.KeepsBut.bndAccept (r := Run.start s) (State.KeepsBut.refl s) b.isLt
  obtain ⟨hrec, hstop, -⟩ := H.streamReads v.isLt
  have hcfg' : ((Run.start s).bndAccept b).hasCfg 0x0402 v = true := by
    rw [Run.hasCfg, hrec]; exact hcfg
  have hvb' : ((Run.start s).bndAccept b).vsN v 8 1 = b := by
    rw [Run.vsN, Run.cfgN, Run.cfg, hrec]; exact hvb
  have hback : ∀ ce, fsKeys v (PIX_CE_BACKLOG ce).key = true :=
    fun ce => fsKeys_takeFields v b.isLt ce _ (by simp [takeFields])
  refine ⟨_, (H.turnLeft 0 l0 (hback 0) fun _ _ => rfl).turnLeft 1 l1 (hback 1) fun _ _ => rfl, ?_⟩
  have hex : exec (.fs b seq v fn tag ts tns tf l0 l1) s = .next ((Run.start s).vsTake b seq v fun r =>
      if r.u.itk.stop then r
      else ((r.turnLeft 0 l0).turnLeft 1 l1).acceptFs v (fn % 2 ^ 32) (tag % 2 ^ 16) (ts % 2 ^ 48) (tns % 2 ^ 30) (tf % 2 ^ 18)).st := rfl
  rw [hex, Run.vsTake, Run.bndTake_expected _ hh hq]
  simp only [hcfg', hvb', hstop, hs, beq_self_eq_true, Bool.and_self, if_true, Bool.false_eq_true, if_false]

/-- Settles O47: the comparisons are remainders of the integer difference; an FS whose frame number is half the range away takes the
branch of `acceptFs` that counts a loss, and a packet so far off in SEQ the branch of `bndTake` that asks for a replay. -/
theorem laterComparison : Obligations.LaterComparison := by
  refine ⟨?comparison, ?staleFs, ?gap⟩
  case comparison =>
    rintro w a b d hw rfl
    refine ⟨laterThan_iff w a b, ?_, subMod_cast w a b, fun hd => ⟨laterThan_half hd, laterThan_half (half_range_swap hw hd)⟩⟩
    rw [← subMod_cast, Int.natCast_eq_zero]
  case staleFs =>
    intro s b v seq c fn tag ts tns tf l0 l1 ht hc hstop hopen hfirst hfn _ hd
    obtain ⟨r, H, hex⟩ := exec_fs_reaches fn tag ts tns tf l0 l1 ht hc hstop
    obtain ⟨-, -, hlast', hfirst', hopen'⟩ := H.fsHeard.streamReads v.isLt
    have hl : laterThan 32 (fn % 2 ^ 32) ((r.fsHeard v).rd (ITK_VS_LAST_FN v)) = false := by
      rw [hlast', Nat.mod_eq_of_lt hfn]
      exact laterThan_half (by rw [← subMod_cast, hd])
    rw [Run.acceptFs_stale r _ _ _ _ (hopen'.trans hopen) (hfirst'.trans hfirst) hl] at hex
    have hset : ∀ b, ∀ f ∈ setFields b v, fsKeys v f.key = true := fsKeys_setFields v
    have seen := (H.fsHeard.streamMod v (fun x => { x with seen := true }) fun _ => ⟨rfl, rfl⟩).forgetUnits
    have echoed := seen.setEcho v.isLt (fn % 2 ^ 32) (tag % 2 ^ 16) (hset 0) fun _ _ => rfl
    have dispatched := echoed.setDispatch (fn % 2 ^ 32) hset fun _ _ => rfl
    obtain ⟨hrd, -⟩ := dispatched.countLoss v.isLt (fn % 2 ^ 32) 5 (fsKeys_lossFields v)
    obtain ⟨hcause, hlost⟩ := Run.rd_countLoss ((((r.fsHeard v).vstMod v fun x => { x with seen := true }).setEcho v (fn % 2 ^ 32)
      (tag % 2 ^ 16)).setDispatch v (fn % 2 ^ 32)) v.isLt (fn % 2 ^ 32) 5
    refine ⟨_, hex, hcause, hlost.trans (by omega), ?_⟩
    exact (hrd (ITK_VS_LAST_FN v) (by simp [fsKeys]) (eventKey_itk (by simp only [Fld.key, ITK_VS_LAST_FN]; omega)
      (by simp only [Fld.key, ITK_VS_LAST_FN]; omega))).1
  case gap =>
    intro s b seq hh hseq _ hd
    obtain ⟨hgap, hexp⟩ := Run.rd_bndError ((Run.start s).sat (ITK_BND_ERR_SEQ_GAP b)) b.isLt
    refine ⟨_, exec_reservedType_half hh hseq hd, hgap.trans (Run.rd_sat_same _ _ _), hexp.trans (Run.rd_wr_ne _ _ ?_),
      Run.discard_bndReplay _ b⟩
    simp only [Fld.key, ITK_BND_SEQ_EXP_SEQ, ITK_BND_ERR_SEQ_GAP]
    omega

end Sys2Proof.Machine
end

section
/-!
Two statements of the magazines and of the monitor that a concrete state refutes.
-/
namespace Sys2Proof.Machine

/-! ## A rebuild while a record runs -/

/-- The woven record of audio port 0: one media frame a second of one slot, in a ring of 4 KiB at the start of polder 0. -/
def oneSlotPort : CfgRec :=
  ⟨0xE, 0x0E01, 0, overlay (overlay (overlay (List.replicate 64 0#8) 0x14 [1#8]) 0x18 [1#8]) 0x20 [1#8]⟩

/-- A device in the reader role in which a record of audio port 0 runs on magazine 0 all the same: ring 3 there is DEGRADED, magazine 1
is READY, CHANGE_ON_DEGRADE is 1, and MAG may not read polder 0. Slot 1 of ring 2 is lost and nothing of it is left to rebuild. No
command leads there: a reader never records (R33). -/
def recordingReader : State :=
  ([(GLB_MODE_ROLE, 1), (GLB_MODE_DUAL_MAG, 1), (MEM_POLDER_SIZE 0, 4096), (MAG_RING_LOST_LOST 2, 2), (MAG_RING_STATUS_STATE 3, 2),
    (MAG_REC_STATUS_STATE, 2), (MAG_CTL_CHANGE_ON_DEGRADE, 1), (MAG_MAG_STATUS_READY 1, 1)].foldl (fun s x => s.wr x.1 x.2) State.reset).modify
    fun u => { u with
      glb := { u.glb with phase := .run, cfg := [oneSlotPort] }
      tim := { u.tim with tb := [(0, { t := secondQ })], au := [(0, { media := 1 })] }
      magu := { u.magu with
        drv := [(7, { ident := true, cap := 1000 })]
        mag := [(0, { geo := [⟨2, 1, 1, [0xFF]⟩, ⟨3, 1, 1, [0xFF]⟩] })]
        segs := [{ mag := 0, clip := 1, seg := 0, g0 := 0, aud := [(0, 0)] }] } }

/-- The end of the rebuild changes the record over (`Run.magCheck`, R260); what remains of its audio is read, the read is refused, and a
breach record is written (R349). -/
theorem recordingReader_rebuild : ∃ r : Run recordingReader,
    exec (.rebuild 0 2 1 7) recordingReader = .next r.st ∧ r.rd EVT_BREACH_SEQ_SEQ = 1 :=
  ⟨_, rfl, by decide +kernel⟩

/-- Refutes O26: its fifth clause holds for every state with nothing left to rebuild, but the rebuild's end also follows the state of the
magazine, and with it the changeover of a record that runs there (`Run.degradeCheck`). In `recordingReader` EVT_BREACH_SEQ, a register
that the clause says is kept, counts the refused read. The clause lacks the premise that no record runs. -/
theorem not_offloadRebuildFormat : ¬ Obligations.OffloadRebuildFormat := by
  rintro ⟨-, -, -, -, nothingLeft, -⟩
  obtain ⟨t, ht, -, -, -, -, -, hkeep, -⟩ :=
    nothingLeft recordingReader 0 2 1 7 ⟨2, 1, 1, [0xFF]⟩ 0 0 0 2 rfl (by decide +kernel) rfl (by decide +kernel) (by decide +kernel)
      (by decide +kernel) rfl (by decide +kernel) (by decide +kernel) (by decide +kernel) (by decide) (by decide +kernel) (by decide +kernel)
  have hkept : t.rd EVT_BREACH_SEQ_SEQ = 0 := (hkeep _ (by decide +kernel) (by decide +kernel)).1.trans (by decide +kernel)
  obtain ⟨r, hex, hseq⟩ := recordingReader_rebuild
  rw [eq_st_of_exec hex ht] at hkept
  exact absurd (hseq.symm.trans hkept) (by decide)

/-! ## A sweep over lanes that are out of order -/

/-- A ready device in which the monitor sweeps lane 3, while the table of the lanes lists lane 5 before lane 3. No command leads there:
the keys of a table rise. -/
def unsortedLanes : State :=
  (State.reset.wr GLB_BOOT_STATUS_READY 1).modify fun u =>
    { u with mon := { u.mon with sweep := some { lane := 3, sel := 0, dwell := 4 } }, lane := [(5, {}), (3, {})] }

theorem exec_disable_served {s : State} (v : Fin 2) (h : (Run.start s).served 0x1B00000 = true) :
    exec (.disable v) s = .next ((Run.start s).writeDisable v.val).monResume.st := by
  simp only [exec, execDisable, done, h, if_true]

/-- Refutes O45: its clause on DISABLE during a sweep holds for every state, and compares the tables of the lanes once the swept one is
dropped. In `unsortedLanes` the end of the sweep enters lane 3 anew, before lane 5, and a drop removes the first entry only: the old
entry of lane 3, which the clause drops from the table before, is still in the table after. The clause lacks the premise that the
lanes' keys rise. -/
theorem not_monitorLock : ¬ Obligations.MonitorLock := by
  rintro ⟨-, -, -, -, -, -, -, -, -, -, -, -, -, -, -, -, endsSweep, -⟩
  obtain ⟨t, ht, -, -, -, -, -, -, -, -, -, -, hunits⟩ :=
    endsSweep unsortedLanes { lane := 3, sel := 0, dwell := 4 } (by decide +kernel) rfl rfl (by decide)
  rw [eq_st_of_exec (exec_disable_served 1 (by decide +kernel)) ht] at hunits
  exact absurd (congrArg Units.lane hunits) (by decide +kernel)

end Sys2Proof.Machine
end

section
/-!
SUPPORT. The DRAM channels between their commands: what is issued, and what an access, a retraining step and a retirement leave.
-/
namespace Sys2Proof.Machine
variable {s₀ s : State} {p m : Nat → Bool} {h : Units → Units}

/-! ## The choice of a request -/

theorem foldl_min_le (l : List Nat) (a : Nat) : l.foldl min a ≤ a ∧ ∀ x ∈ l, l.foldl min a ≤ x := by
  induction l generalizing a with
  | nil => simp
  | cons b l ih =>
    obtain ⟨ha, hl⟩ := ih (min a b)
    refine ⟨ha.trans (min_le_left a b), fun x hx => ?_⟩
    rcases List.mem_cons.mp hx with rfl | hx
    · exact ha.trans (min_le_right a x)
    · exact hl x hx

/-- The requests of the highest class present. -/
def MemCh.urgent (q : MemCh) : List MemReq := q.queue.filter fun x => x.cls == (q.queue.map MemReq.cls).foldl min 4

/-- Whether the batch turns (R339). -/
def MemCh.turns (q : MemCh) (waited : Bool) : Bool :=
  (q.urgent.any fun x => x.write != q.batchWrite) && (16 ≤ q.batch || waited || !q.urgent.any fun x => x.write == q.batchWrite)

theorem MemCh.mem_urgent (q : MemCh) (x : MemReq) :
    x ∈ q.urgent ↔ x ∈ q.queue ∧ x.cls = (q.queue.map MemReq.cls).foldl min 4 := by simp [MemCh.urgent]

theorem MemCh.urgent_le {q : MemCh} {m x : MemReq} (hm : m ∈ q.urgent) (hx : x ∈ q.queue) : m.cls ≤ x.cls := by
  rw [((q.mem_urgent m).mp hm).2]
  exact (foldl_min_le _ 4).2 _ (List.mem_map_of_mem hx)

/-- A choice is the first of the urgent requests that runs in the batch's direction to a bank at rest. -/
theorem pickRequest_eq_some {bank : Nat → Nat} {q : MemCh} {busy : List Nat} {waited turn : Bool} {m : MemReq} :
    pickRequest bank q busy waited = some (m, turn) ↔
      q.urgent.find? (fun x => x.write == (q.batchWrite != q.turns waited) && !busy.contains (bank x.addr)) = some m ∧ q.turns waited = turn := by
  simp [pickRequest, MemCh.urgent, MemCh.turns]

/-- A batch that turns has run its length, kept the other direction waiting, or has no urgent request left. -/
theorem MemCh.turns_cause {q : MemCh} {waited : Bool} {m : MemReq} (ht : q.turns waited = true) (hm : m ∈ q.urgent)
    (hw : m.write = (q.batchWrite != true)) : 16 ≤ q.batch ∨ waited = true ∨ ∀ x ∈ q.queue, x.cls = m.cls → x.write = m.write := by
  simp only [MemCh.turns, Bool.and_eq_true, Bool.or_eq_true, decide_eq_true_eq, Bool.not_eq_true'] at ht
  obtain ⟨-, (hb | hw') | hs⟩ := ht
  · exact .inl hb
  · exact .inr (.inl hw')
  · refine .inr (.inr fun x hx hc => ?_)
    have hu : x ∈ q.urgent := (q.mem_urgent x).mpr ⟨hx, hc.trans ((q.mem_urgent m).mp hm).2⟩
    have hne := List.any_eq_false.mp hs x hu
    rw [hw]
    revert hne
    cases x.write <;> cases q.batchWrite <;> simp

/-- Nothing urgent before the choice could have been issued in its place. -/
theorem MemCh.urgent_before {bank : Nat → Nat} {q : MemCh} {busy : List Nat} {dir : Bool} {m x : MemReq} {pre post : List MemReq}
    (hf : q.urgent.find? (fun x => x.write == dir && !busy.contains (bank x.addr)) = some m)
    (hq : q.queue = pre ++ m :: post) (hm : m ∉ pre) (hx : x ∈ pre) (hc : x.cls = m.cls) (hw : x.write = m.write) : bank x.addr ∈ busy := by
  by_contra hb
  obtain ⟨hdir, -⟩ : m.write = dir ∧ bank m.addr ∉ busy := by simpa using List.find?_some hf
  have hmc := ((q.mem_urgent m).mp (List.mem_of_find?_eq_some hf)).2
  have hu : q.urgent = (pre.filter fun x => x.cls == m.cls) ++ (m :: post).filter fun x => x.cls == m.cls := by
    rw [MemCh.urgent, ← hmc, hq, List.filter_append]
  rw [hu, List.find?_append] at hf
  have hsome : ((pre.filter fun x => x.cls == m.cls).find? fun x => x.write == dir && !busy.contains (bank x.addr)).isSome := by
    rw [List.find?_isSome]
    exact ⟨x, by simp [hx, hc], by simp [hw, hdir, hb]⟩
  obtain ⟨y, hy⟩ := Option.isSome_iff_exists.mp hsome
  rw [hy, Option.some_or, Option.some.injEq] at hf
  exact hm (hf ▸ (List.mem_filter.mp (List.mem_of_find?_eq_some hy)).1)

/-- What a choice is (R22, R339). -/
theorem pickRequest_spec {bank : Nat → Nat} {q : MemCh} {busy : List Nat} {waited turn : Bool} {m : MemReq}
    (hp : pickRequest bank q busy waited = some (m, turn)) :
    m ∈ q.queue ∧ (∀ x ∈ q.queue, m.cls ≤ x.cls) ∧ bank m.addr ∉ busy ∧ m.write = (q.batchWrite != turn)
      ∧ (turn = true → 16 ≤ q.batch ∨ waited = true ∨ ∀ x ∈ q.queue, x.cls = m.cls → x.write = m.write)
      ∧ ∀ pre post, q.queue = pre ++ m :: post → m ∉ pre → ∀ x ∈ pre, x.cls = m.cls → x.write = m.write → bank x.addr ∈ busy := by
  obtain ⟨hf, rfl⟩ := pickRequest_eq_some.mp hp
  have hu := List.mem_of_find?_eq_some hf
  obtain ⟨hw, hb⟩ : m.write = (q.batchWrite != q.turns waited) ∧ bank m.addr ∉ busy := by simpa using List.find?_some hf
  exact ⟨((q.mem_urgent m).mp hu).1, fun x hx => MemCh.urgent_le hu hx, hb, hw, fun ht => MemCh.turns_cause ht hu (ht ▸ hw),
    fun pre post hq hm x hx hc hxw => MemCh.urgent_before hf hq hm hx hc hxw⟩

/-! ## What the shared operations do to a channel -/

@[simp] theorem Run.memCh_memMod (r : Run s₀) (c : Nat) (f : MemCh → MemCh) : (r.memMod c f).memCh c = f (r.memCh c) :=
  Tab.look_put_same _ _ _ _

/-- A read of the state that a run answers is a read of the run. -/
theorem Run.rd_st (r : Run s₀) (f : Fld) : r.st.rd f = r.rd f := rfl
theorem Run.memCh_restart (r : Run s₀) (c : Nat) : (Run.start r.st).memCh c = r.memCh c := rfl

@[simp] theorem Run.rd_memMod (r : Run s₀) (c : Nat) (f : MemCh → MemCh) (g : Fld) : (r.memMod c f).rd g = r.rd g := rfl
@[simp] theorem Run.memCh_wr (r : Run s₀) (c : Nat) (f : Fld) (v : Nat) : (r.wr f v).memCh c = r.memCh c := rfl

/-- What forgets the channels of the controller. -/
def forgetsCh (h : Units → Units) : Prop := ∀ (u : Units) (x : Tab MemCh), h { u with mem := { u.mem with ch := x } }.quiet = h u.quiet

theorem State.KeepsBut.memMod {r : Run s₀} (H : s.KeepsBut r.st p m h) (c : Nat) (f : MemCh → MemCh) (hh : forgetsCh h) :
    s.KeepsBut (r.memMod c f).st p m h := H.memu _ fun u => hh u _

/-- An occurrence changes nothing of the units but what `Units.quiet` forgets. -/
theorem Run.quiet_ev (r : Run s₀) {e : Nat} (he : e < 512) : (r.ev e).u.quiet = r.u.quiet :=
  ((State.KeepsBut.refl (p := fun _ => false) (m := fun _ => false) (h := id) r.st).ev he).2.2.2.2

theorem Run.mem_ev (r : Run s₀) {e : Nat} (he : e < 512) : (r.ev e).u.mem = r.u.mem := congrArg (fun u => u.mem) (r.quiet_ev he)

theorem Run.log_ev (r : Run s₀) {e : Nat} (he : e < 512) : (r.ev e).u.evt.log = r.u.evt.log :=
  congrArg (fun u => u.evt.log) (r.quiet_ev he)

theorem Run.memCh_ev (r : Run s₀) (c : Nat) {e : Nat} (he : e < 512) : (r.ev e).memCh c = r.memCh c := by
  simp only [Run.memCh, r.mem_ev he]

/-- The generator's state after a draw, when its seed is free value n (R341). -/
def MemCh.drawn (x : MemCh) (n : Nat) : Nat :=
  (List.range 16).foldl (fun v _ => nrrStep v) (x.lfsr.getD (Config.free n % 2 ^ 32))

/-- A draw goes on with the generator's next state, and at most one free value is gone. -/
theorem Run.nrrDraw_eq (r : Run s₀) (c : Nat) (f : Nat → Run s₀ → Run s₀) :
    ∃ q : Run s₀, (q.st = r.st ∨ q.st = r.st.draw)
      ∧ r.nrrDraw c f = f ((r.memCh c).drawn r.st.fresh % 2 ^ 16) (q.memMod c fun x => { x with lfsr := some ((r.memCh c).drawn r.st.fresh) }) := by
  unfold Run.nrrDraw MemCh.drawn
  cases (r.memCh c).lfsr with
  | some v => exact ⟨r, .inl rfl, rfl⟩
  | none => exact ⟨⟨r.st.draw, .draw r.ok⟩, .inr rfl, rfl⟩

/-- The packets that refresh some rows of a bank leave in the order of the rows. -/
theorem Run.st_each_nrr (r : Run s₀) (c bank : Nat) (l : List Nat) :
    (r.each l fun n r => r.dramCmd c 1 [bank, n]).st
      = { r.st with out := (l.map fun n => Out.packet (160 + c) 1 [bank, n] []).reverse ++ r.st.out } := by
  induction l generalizing r with
  | nil => rfl
  | cons a l ih => rw [Run.each_cons, ih]; simp [Run.dramCmd, Run.emit, State.emit]

/-! ## An access that is issued -/

/-- The requests of a list that name the channel join its queue. -/
def Run.arrive (r : Run s₀) (c : Nat) (l : List MemReq) : Run s₀ :=
  r.memMod c fun x => { x with queue := x.queue ++ l.filter fun q => channelOf q.addr == c }

/-- A channel after its request q was issued, the batch having turned or gone on. -/
def MemCh.issued (x : MemCh) (q : MemReq) (turn : Bool) : MemCh :=
  { x with queue := x.queue.erase q, batchWrite := x.batchWrite != turn, batch := if turn || 16 ≤ x.batch then 1 else x.batch + 1 }

/-- The refreshes of the neighbours of a row when the generator stands at v (R341). -/
def Run.neighbours (r : Run s₀) (c bank row v : Nat) : List Out :=
  if v % 2 ^ 16 < r.rd MEM_NRR_PROB then
    ((if row = 0 then [] else [row - 1]) ++ if row + 1 < r.rowCount then [row + 1] else []).map fun n => .packet (160 + c) 1 [bank, n] []
  else []

/-- The neighbours of a row are refreshed when a draw is below PROB (R341). -/
def nrrRefresh (c bank row x : Nat) (r : Run s₀) : Run s₀ :=
  if x < r.rd MEM_NRR_PROB then
    r.each ((if row = 0 then [] else [row - 1]) ++ if row + 1 < r.rowCount then [row + 1] else []) fun n r => r.dramCmd c 1 [bank, n]
  else r

/-- A refresh of neighbours changes nothing but what leaves. -/
theorem st_nrrRefresh (r : Run s₀) (c bank row v : Nat) :
    (nrrRefresh c bank row (v % 2 ^ 16) r).st = { r.st with out := (r.neighbours c bank row v).reverse ++ r.st.out } := by
  unfold nrrRefresh Run.neighbours
  split
  · exact r.st_each_nrr c bank _
  · rfl

/-- A request leaves the queue and its block access leaves for the devices. -/
def Run.issue (r : Run s₀) (c : Nat) (q : MemReq) (turn : Bool) : Run s₀ :=
  let bank := r.bankOf (localAddr q.addr)
  let row := r.rowOf (localAddr q.addr)
  ((r.memMod c fun x => x.issued q turn).activate c bank row).dramCmd c 0 [bank, row, q.addr / 256 * 256, b2n q.write]

/-- What the outcome of a block access leaves (R344, R346). -/
def Run.accessEnds (r : Run s₀) (c : Nat) (q : MemReq) (result : Nat) : Run s₀ :=
  let b := q.addr / 256 * 256
  if q.write then r
  else if result = 1 then r.sat (MEM_CH_ERR_LINK_CE c)
  else if result = 2 then
    match r.polderOf b 256 with
    | some p => if r.on (MEM_POLDER_BAR2_ECC p) then r.sat (MEM_CH_ERR_ECC_CE c) else r
    | none => r
  else if result = 3 then r.badRead c b
  else r

/-- A block access of a channel at work: the requests join, one is chosen and issued, and its outcome counts. -/
theorem Run.blockAccess_eq (r : Run s₀) {c result : Nat} {l : List MemReq} {busy : List Nat} {waited : Bool}
    (hs : r.rd (MEM_CH_STATUS_STATE c) = 2 ∨ r.rd (MEM_CH_STATUS_STATE c) = 3) :
    r.blockAccess c l busy waited result =
      match pickRequest (fun a => r.bankOf (localAddr a)) ((r.arrive c l).memCh c) busy waited with
      | none => r.arrive c l
      | some (q, turn) => ((r.arrive c l).issue c q turn).accessEnds c q result := by
  have hn : ¬(r.rd (MEM_CH_STATUS_STATE c) ≠ 2 ∧ r.rd (MEM_CH_STATUS_STATE c) ≠ 3) := by omega
  unfold Run.blockAccess
  dsimp only
  rw [if_neg hn]
  rfl

/-- An access that is issued changes the channel's queue, batch and generator and nothing else but what leaves (R339, R341). -/
theorem Run.st_issue (r : Run s₀) (c : Nat) (q : MemReq) (turn : Bool) :
    ∃ (ch : Tab MemCh) (n : Nat), (r.issue c q turn).st = { r.st with
        u := { r.st.u with mem := { r.st.u.mem with ch := ch } }
        fresh := n
        out := .packet (160 + c) 0 [r.bankOf (localAddr q.addr), r.rowOf (localAddr q.addr), q.addr / 256 * 256, b2n q.write] []
          :: ((r.neighbours c (r.bankOf (localAddr q.addr)) (r.rowOf (localAddr q.addr)) ((r.memCh c).drawn r.st.fresh)).reverse ++ r.st.out) }
      ∧ ch.look c {} = { (r.memCh c).issued q turn with lfsr := some ((r.memCh c).drawn r.st.fresh) } := by
  let bank := r.bankOf (localAddr q.addr)
  let row := r.rowOf (localAddr q.addr)
  obtain ⟨⟨st', hreach⟩, hst, hr'⟩ := (r.memMod c fun x => x.issued q turn).nrrDraw_eq c (nrrRefresh c bank row)
  have hi : r.issue c q turn = ((r.memMod c fun x => x.issued q turn).nrrDraw c (nrrRefresh c bank row)).dramCmd c 0 [bank, row, q.addr / 256 * 256, b2n q.write] := rfl
  have hv : ((r.memMod c fun x => x.issued q turn).memCh c).drawn (r.memMod c fun x => x.issued q turn).st.fresh = (r.memCh c).drawn r.st.fresh := by
    simp [MemCh.drawn, MemCh.issued]; rfl
  have hemit : ∀ q' : Run s₀, (q'.dramCmd c 0 [bank, row, q.addr / 256 * 256, b2n q.write]).st
      = q'.st.emit (.packet (160 + c) 0 [bank, row, q.addr / 256 * 256, b2n q.write] []) := fun _ => rfl
  rw [hi, hr', hv, hemit, st_nrrRefresh]
  have hch : ({ (r.memMod c fun x => x.issued q turn).memCh c with lfsr := some ((r.memCh c).drawn r.st.fresh) } : MemCh)
      = { (r.memCh c).issued q turn with lfsr := some ((r.memCh c).drawn r.st.fresh) } := by rw [Run.memCh_memMod]
  rcases hst with rfl | rfl
  · exact ⟨_, r.st.fresh, rfl, (Tab.look_put_same _ _ _ _).trans hch⟩
  · exact ⟨_, r.st.fresh + 1, rfl, (Tab.look_put_same _ _ _ _).trans hch⟩

/-- A write, or a read that came correct or with a link error, ends with at most LINK_CE counted (R344). -/
theorem Run.accessEnds_of_lt (r : Run s₀) {c result : Nat} {q : MemReq} (hw : q.write = true ∨ result < 2) :
    r.accessEnds c q result = if q.write = false ∧ result = 1 then r.sat (MEM_CH_ERR_LINK_CE c) else r := by
  unfold Run.accessEnds
  rcases hw with hw | hw
  · simp [hw]
  · have h2 : result ≠ 2 ∧ result ≠ 3 := by omega
    cases q.write <;> simp [h2]

/-- Beside the channel, an issued access keeps everything. -/
theorem State.KeepsBut.issue {r : Run s₀} (H : s.KeepsBut r.st p m h) (c : Nat) (q : MemReq) (turn : Bool) (hh : forgetsCh h) :
    s.KeepsBut (r.issue c q turn).st p m h := by
  obtain ⟨ch, n, hst, -⟩ := r.st_issue c q turn
  rw [hst]
  exact ⟨H.1, H.2.1, H.2.2.1, H.2.2.2.1, (hh r.st.u ch).trans H.2.2.2.2⟩

theorem Run.rd_issue (r : Run s₀) (c : Nat) (q : MemReq) (turn : Bool) (f : Fld) : (r.issue c q turn).rd f = r.rd f := by
  obtain ⟨ch, n, hst, -⟩ := r.st_issue c q turn
  unfold Run.rd
  rw [hst]
  rfl

theorem Run.memCh_issue (r : Run s₀) (c : Nat) (q : MemReq) (turn : Bool) :
    (r.issue c q turn).memCh c = { (r.memCh c).issued q turn with lfsr := some ((r.memCh c).drawn r.st.fresh) } := by
  obtain ⟨ch, n, hst, hch⟩ := r.st_issue c q turn
  unfold Run.memCh Run.u
  rw [hst]
  exact hch

theorem Run.out_issue (r : Run s₀) (c : Nat) (q : MemReq) (turn : Bool) :
    (r.issue c q turn).st.out =
      .packet (160 + c) 0 [r.bankOf (localAddr q.addr), r.rowOf (localAddr q.addr), q.addr / 256 * 256, b2n q.write] []
        :: ((r.neighbours c (r.bankOf (localAddr q.addr)) (r.rowOf (localAddr q.addr)) ((r.memCh c).drawn r.st.fresh)).reverse ++ r.st.out) := by
  obtain ⟨ch, n, hst, -⟩ := r.st_issue c q turn
  rw [hst]

theorem Run.rd_sat_ne (r : Run s₀) {f g : Fld} (n : Nat) (hk : g.key ≠ f.key) : (r.sat f n).rd g = r.rd g := r.rd_wr_ne _ hk

/-- The requests that a command names, with the classes of their traffic (Table 01-3). -/
def requests (l : List (Traffic × Bool × Nat)) : List MemReq := l.map fun q => ⟨trafficClass q.1, q.2.1, q.2.2⟩

theorem exec_blockAccess (s : State) (c : Fin 16) (l : List (Traffic × Bool × Nat)) (busy : List (Fin 16)) (waited : Bool) (result : Fin 4) :
    exec (.blockAccess c l busy waited result) s
      = .next ((Run.start s).blockAccess c (requests l) (busy.map Fin.val) waited result).st := rfl

theorem exec_refresh (s : State) (c bank : Fin 16) : exec (.refresh c bank) s =
    .next (if s.rd (MEM_CH_STATUS_STATE c) = 2 ∨ s.rd (MEM_CH_STATUS_STATE c) = 3 then (Run.start s).dramCmd c 2 [bank.val] else .start s).st := rfl

theorem exec_driftCheck (s : State) (c : Fin 16) : exec (.driftCheck c) s =
    .next (if s.rd (MEM_CH_STATUS_STATE c) = 2 then (Run.start s).dramCmd c 3 [] else .start s).st := rfl

theorem exec_retrainStepDone (s : State) (c : Fin 16) (ok last : Bool) :
    exec (.retrainStepDone c ok last) s = .next ((Run.start s).retrainStep c ok last).st := rfl

theorem exec_memRetrain (s : State) (v : Nat) : exec (.memRetrain v) s = .next ((Run.start s).writeRetrainReq v).st := rfl

/-- The channel as an access finds it when the requests have joined. -/
theorem Run.memCh_arrive (r : Run s₀) (c : Nat) (l : List MemReq) :
    (r.arrive c l).memCh c = { r.memCh c with queue := (r.memCh c).queue ++ l.filter fun q => channelOf q.addr == c } :=
  r.memCh_memMod c _

theorem Run.blockAccess_waits (r : Run s₀) {c res : Nat} {l : List MemReq} {busy : List Nat} {waited : Bool} {x : MemCh}
    (hs : r.rd (MEM_CH_STATUS_STATE c) = 2 ∨ r.rd (MEM_CH_STATUS_STATE c) = 3) (hx : (r.arrive c l).memCh c = x)
    (hp : pickRequest (fun a => r.bankOf (localAddr a)) x busy waited = none) : r.blockAccess c l busy waited res = r.arrive c l := by
  rw [r.blockAccess_eq hs, hx, hp]

theorem Run.blockAccess_issues (r : Run s₀) {c res : Nat} {l : List MemReq} {busy : List Nat} {waited turn : Bool} {x : MemCh} {q : MemReq}
    (hs : r.rd (MEM_CH_STATUS_STATE c) = 2 ∨ r.rd (MEM_CH_STATUS_STATE c) = 3) (hx : (r.arrive c l).memCh c = x)
    (hp : pickRequest (fun a => r.bankOf (localAddr a)) x busy waited = some (q, turn)) :
    r.blockAccess c l busy waited res = ((r.arrive c l).issue c q turn).accessEnds c q res := by
  rw [r.blockAccess_eq hs, hx, hp]

theorem State.KeepsBut.start (s : State) : s.KeepsBut (Run.start s).st p m h := .refl s

theorem State.KeepsBut.arrive {r : Run s₀} (H : s.KeepsBut r.st p m h) (c : Nat) (l : List MemReq) (hh : forgetsCh h) :
    s.KeepsBut (r.arrive c l).st p m h := H.memMod c _ hh

/-- The count of corrected link errors follows the outcome of a read. -/
theorem Run.linkCe_accessEnds (r : Run s₀) {c result : Nat} {q : MemReq} (hw : q.write = true ∨ result < 2) :
    (r.accessEnds c q result).rd (MEM_CH_ERR_LINK_CE c) = if q.write = false ∧ result = 1
      then min (r.rd (MEM_CH_ERR_LINK_CE c) + 1) (2 ^ (MEM_CH_ERR_LINK_CE c).w - 1) else r.rd (MEM_CH_ERR_LINK_CE c) := by
  rw [r.accessEnds_of_lt hw]
  split
  · exact r.rd_sat_same _ 1
  · rfl

theorem Run.out_accessEnds (r : Run s₀) {c result : Nat} {q : MemReq} (hw : q.write = true ∨ result < 2) :
    (r.accessEnds c q result).st.out = r.st.out := by
  rw [r.accessEnds_of_lt hw]; split <;> rfl

theorem Run.memCh_accessEnds (r : Run s₀) {c result : Nat} {q : MemReq} (k : Nat) (hw : q.write = true ∨ result < 2) :
    (r.accessEnds c q result).memCh k = r.memCh k := by
  rw [r.accessEnds_of_lt hw]; split <;> rfl

theorem State.KeepsBut.accessEnds {r : Run s₀} (H : s.KeepsBut r.st p m h) {c result : Nat} {q : MemReq} (hw : q.write = true ∨ result < 2)
    (hp : p (MEM_CH_ERR_LINK_CE c).key = true) : s.KeepsBut (r.accessEnds c q result).st p m h := by
  rw [r.accessEnds_of_lt hw]
  split
  · exact H.sat _ 1 (.inl hp)
  · exact H

theorem own_mem {l : List Fld} {f : Fld} (hf : f ∈ l) : own l f.key = true := List.any_eq_true.mpr ⟨f, hf, by simp⟩

/-! ## Keys of the controller's registers -/

theorem eventKey_memCtl {k : Nat} (hlo : 0x1700000 * 8 ≤ k) (hhi : k < 0x1800000 * 8) : eventKey k = false := by
  have hpba : QIF_PBA.key = 0x1521000 * 8 := rfl
  have htrace : MON_STATUS_TRACE.key = 0x1B00004 * 8 + 7 := rfl
  have hsmb : GLB_SMB_STATUS_PENDING.key = 0x1C00 * 8 := rfl
  simp only [eventKey, hpba, htrace, hsmb, Bool.or_eq_false_iff, Bool.and_eq_false_iff, decide_eq_false_iff_not, beq_eq_false_iff_ne]
  omega

@[simp] theorem MEM_CFG_RETIRED_key : MEM_CFG_RETIRED.key = 0x1700000 * 8 + 16 := rfl
@[simp] theorem MEM_RETRAIN_REQ_key : MEM_RETRAIN_REQ.key = 0x1700008 * 8 := rfl
@[simp] theorem MEM_UE_ADDR_ADDR_key : MEM_UE_ADDR_ADDR.key = 0x1700028 * 8 := rfl
@[simp] theorem MEM_CH_STATUS_STATE_key (c : Nat) : (MEM_CH_STATUS_STATE c).key = (0x1700100 + 0x10 * c) * 8 := rfl
@[simp] theorem MEM_CH_STATUS_TRAIN_TEMP_key (c : Nat) : (MEM_CH_STATUS_TRAIN_TEMP c).key = (0x1700100 + 0x10 * c) * 8 + 8 := rfl
@[simp] theorem MEM_CH_STATUS_RETRAINS_key (c : Nat) : (MEM_CH_STATUS_RETRAINS c).key = (0x1700100 + 0x10 * c) * 8 + 16 := rfl
@[simp] theorem MEM_CH_ERR_UE_key (c : Nat) : (MEM_CH_ERR_UE c).key = (0x1700104 + 0x10 * c) * 8 + 16 := rfl
@[simp] theorem MEM_CH_ERR_TRAIN_FAIL_key (c : Nat) : (MEM_CH_ERR_TRAIN_FAIL c).key = (0x1700104 + 0x10 * c) * 8 + 24 := rfl

/-! ## Retraining -/

/-- What forgets the retrainings that are due. -/
def forgetsDue (h : Units → Units) : Prop := ∀ (u : Units) (l : List Nat), h { u with mem := { u.mem with due := l } }.quiet = h u.quiet

/-- Retrainings fall due in the order of the list, but for channels that retrain already (R343). -/
theorem Run.st_each_retrainDue (l : List Nat) (hl : l.Nodup) (r : Run s₀) (hd : ∀ k ∈ l, k ∉ r.u.mem.due) :
    (r.each l fun c r => r.retrainDue c).st = r.st.modify fun u =>
      { u with mem := { u.mem with due := u.mem.due ++ l.filter fun k => r.rd (MEM_CH_STATUS_STATE k) != 3 } } := by
  induction l generalizing r with
  | nil => simp [State.modify]
  | cons a l ih =>
    obtain ⟨hal, hl⟩ := List.nodup_cons.mp hl
    have ha : a ∉ r.u.mem.due := hd a (by simp)
    rw [Run.each_cons]
    by_cases h3 : r.rd (MEM_CH_STATUS_STATE a) = 3
    · have hr : r.retrainDue a = r := if_pos (.inl h3)
      rw [hr, ih hl r fun k hk => hd k (by simp [hk])]
      simp [h3]
    · have hr : r.retrainDue a = r.memu fun m => { m with due := m.due ++ [a] } := if_neg (by simp [h3, ha])
      have hst : (r.memu fun m => { m with due := m.due ++ [a] }).st
          = r.st.modify fun u => { u with mem := { u.mem with due := u.mem.due ++ [a] } } := rfl
      have hrd : ∀ f, (r.memu fun m => { m with due := m.due ++ [a] }).rd f = r.rd f := fun _ => rfl
      rw [hr, ih hl, hst, List.filter_cons_of_pos (by simpa using h3)]
      · simp [hrd, State.modify]
      · intro k hk
        have hka : k ≠ a := fun e => hal (e ▸ hk)
        simpa [Run.memu, hka] using hd k (by simp [hk])

/-- While a channel retrains, none starts. -/
theorem Run.retrainNext_of_running (r : Run s₀) {c : Nat} (hc : c < 16) (h3 : r.rd (MEM_CH_STATUS_STATE c) = 3) : r.retrainNext = r :=
  if_pos (List.any_eq_true.mpr ⟨c, by simpa using hc, by simp [h3]⟩)

/-- With none due, none starts. -/
theorem Run.retrainNext_of_none_due (r : Run s₀) (hd : r.u.mem.due = []) : r.retrainNext = r := by
  unfold Run.retrainNext
  rw [hd]
  exact ite_self _

/-- The retraining that starts. -/
def Run.retrainStarts (r : Run s₀) (c : Nat) : Run s₀ :=
  ((r.memu fun m => { m with due := m.due.filter (· != c) }).memMod c fun x => { x with steps := 0, fails := 0 }).wr (MEM_CH_STATUS_STATE c) 3

theorem Run.memCh_retrainStarts (r : Run s₀) (c : Nat) : (r.retrainStarts c).memCh c = { r.memCh c with steps := 0, fails := 0 } := by
  rw [Run.retrainStarts, Run.memCh_wr, Run.memCh_memMod]
  rfl

theorem State.KeepsBut.retrainStarts {r : Run s₀} (H : s.KeepsBut r.st p m h) (c : Nat) (hp : p (MEM_CH_STATUS_STATE c).key = true)
    (hc : forgetsCh h) (hd : forgetsDue h) : s.KeepsBut (r.retrainStarts c).st p m h :=
  ((H.memu _ fun u => hd u _).memMod c _ hc).wr _ _ (.inl hp)

/-- When none runs, the first due channel that is active starts. -/
theorem Run.retrainNext_of_due (r : Run s₀) {c : Nat} (hn : ∀ k < 16, r.rd (MEM_CH_STATUS_STATE k) ≠ 3)
    (hf : (r.u.mem.due.find? fun c => r.rd (MEM_CH_STATUS_STATE c) == 2) = some c) : r.retrainNext = r.retrainStarts c := by
  have hrun : ¬ ((List.range 16).any fun c => r.rd (MEM_CH_STATUS_STATE c) == 3) = true := by simpa using hn
  unfold Run.retrainNext
  rw [if_neg hrun, hf]
  rfl

/-- The channels that a request names. -/
def asked (v : Nat) : List Nat := (List.range 16).filter (bit v)

theorem asked_nodup (v : Nat) : (asked v).Nodup := List.nodup_range.filter _

/-- A write of MEM_RETRAIN before a retraining starts. -/
def Run.retrainAsked (r : Run s₀) (v : Nat) : Run s₀ :=
  (r.set MEM_RETRAIN_REQ (v % 2 ^ 16)).each (asked v) fun c r => r.retrainDue c

theorem Run.st_retrainAsked (r : Run s₀) (v : Nat) (hd : r.u.mem.due = []) :
    (r.retrainAsked v).st = ((r.set MEM_RETRAIN_REQ (v % 2 ^ 16)).memu fun m =>
      { m with due := (asked v).filter fun k => r.rd (MEM_CH_STATUS_STATE k) != 3 }).st := by
  have hd' : (r.set MEM_RETRAIN_REQ (v % 2 ^ 16)).u.mem.due = [] := hd
  have hs : ∀ k, (r.set MEM_RETRAIN_REQ (v % 2 ^ 16)).rd (MEM_CH_STATUS_STATE k) = r.rd (MEM_CH_STATUS_STATE k) :=
    fun k => r.rd_wr_ne _ (by simp; omega)
  have hu : ∀ k ∈ asked v, k ∉ (r.set MEM_RETRAIN_REQ (v % 2 ^ 16)).u.mem.due := fun k _ => by rw [hd']; exact List.not_mem_nil
  rw [Run.retrainAsked, Run.st_each_retrainDue _ (asked_nodup v) _ hu]
  simp only [hs]
  exact congrArg (fun l => ((r.set MEM_RETRAIN_REQ (v % 2 ^ 16)).memu fun m => { m with due := l ++ _ }).st) hd'

theorem Run.rd_retrainAsked (r : Run s₀) (v : Nat) (hd : r.u.mem.due = []) (f : Fld) :
    (r.retrainAsked v).rd f = (r.set MEM_RETRAIN_REQ (v % 2 ^ 16)).rd f := by
  unfold Run.rd
  rw [r.st_retrainAsked v hd]
  rfl

theorem Run.due_retrainAsked (r : Run s₀) (v : Nat) (hd : r.u.mem.due = []) :
    (r.retrainAsked v).u.mem.due = (asked v).filter fun k => r.rd (MEM_CH_STATUS_STATE k) != 3 := by
  unfold Run.u
  rw [r.st_retrainAsked v hd]
  rfl

theorem Run.state_retrainAsked (r : Run s₀) (v c : Nat) (hd : r.u.mem.due = []) :
    (r.retrainAsked v).rd (MEM_CH_STATUS_STATE c) = r.rd (MEM_CH_STATUS_STATE c) :=
  (r.rd_retrainAsked v hd _).trans (r.rd_wr_ne _ (by simp; omega))

theorem State.KeepsBut.retrainAsked {r : Run s₀} (H : s.KeepsBut r.st p m h) (v : Nat) (hd : r.u.mem.due = [])
    (hp : p MEM_RETRAIN_REQ.key = true) (hh : forgetsDue h) :
    s.KeepsBut (r.retrainAsked v).st p m h := by
  rw [r.st_retrainAsked v hd]
  exact (H.set MEM_RETRAIN_REQ _ (.inl hp)).memu _ fun u => hh u _

/-- The lowest active channel among those asked for is the first that can start. -/
theorem find?_asked {v c : Nat} {q : Nat → Bool} (hc : c < 16) (hb : bit v c = true) (hq : q c = true)
    (hlow : ∀ k < c, bit v k = true → q k = false) : (asked v).find? q = some c := by
  rw [asked, List.find?_filter, List.find?_range_eq_some]
  refine ⟨by simp [hb, hq], by simpa using hc, fun k hk => ?_⟩
  cases hbk : bit v k with
  | false => simp
  | true => simp [hlow k hk hbk]

theorem Run.writeRetrainReq_eq (r : Run s₀) (v : Nat) : r.writeRetrainReq v = (r.retrainAsked v).retrainNext := rfl

/-- The bits of a request join those in MEM_RETRAIN (R343). -/
theorem Run.req_retrainAsked (r : Run s₀) (v : Nat) (hd : r.u.mem.due = []) :
    (r.retrainAsked v).rd MEM_RETRAIN_REQ = (r.rd MEM_RETRAIN_REQ ||| v % 2 ^ 16) % 2 ^ 16 :=
  (r.rd_retrainAsked v hd _).trans (r.rd_wr_same _ _)

/-- A request with no retraining in progress starts its lowest active channel. -/
theorem Run.writeRetrainReq_starts (r : Run s₀) {v c : Nat} (hd : r.u.mem.due = []) (hn : ∀ k < 16, r.rd (MEM_CH_STATUS_STATE k) ≠ 3)
    (hc : c < 16) (h2 : r.rd (MEM_CH_STATUS_STATE c) = 2) (hb : bit v c = true)
    (hlow : ∀ k < c, bit v k = true → r.rd (MEM_CH_STATUS_STATE k) ≠ 2) : r.writeRetrainReq v = (r.retrainAsked v).retrainStarts c := by
  have hs := fun k => r.state_retrainAsked v k hd
  rw [r.writeRetrainReq_eq]
  refine Run.retrainNext_of_due _ (fun k hk => hs k ▸ hn k hk) ?_
  rw [r.due_retrainAsked v hd, List.find?_filter]
  refine find?_asked hc hb ?_ fun k hk hbk => ?_
  · simp [hs, h2]
  · simp [hs, hlow k hk hbk]

/-- A request while a channel retrains waits. -/
theorem Run.writeRetrainReq_waits (r : Run s₀) {v c : Nat} (hd : r.u.mem.due = []) (hc : c < 16)
    (h3 : r.rd (MEM_CH_STATUS_STATE c) = 3) : r.writeRetrainReq v = r.retrainAsked v :=
  Run.retrainNext_of_running _ hc ((r.state_retrainAsked v c hd).trans h3)

/-- Behind the channel that starts, the others asked for wait. -/
theorem Run.due_retrainStarts (r : Run s₀) (v c : Nat) (hd : r.u.mem.due = []) (hn : ∀ k < 16, r.rd (MEM_CH_STATUS_STATE k) ≠ 3) :
    ((r.retrainAsked v).retrainStarts c).u.mem.due = (List.range 16).filter fun k => bit v k && k != c := by
  change (r.retrainAsked v).u.mem.due.filter (· != c) = _
  rw [r.due_retrainAsked v hd, asked, List.filter_filter, List.filter_filter]
  refine List.filter_congr fun k hk => ?_
  have h3 : (r.rd (MEM_CH_STATUS_STATE k) != 3) = true := bne_iff_ne.mpr (hn k (List.mem_range.mp hk))
  simp only [h3, Bool.and_comm, Bool.true_and]

/-- The bits of a mask are 0 after they are cleared. -/
theorem bit_clear (v c : Nat) : bit (v - (v &&& 2 ^ c)) c = false := by
  rw [bit_eq_testBit, Nat.and_two_pow]
  cases hb : v.testBit c with
  | false => simpa using hb
  | true =>
    have hodd : v / 2 ^ c % 2 = 1 := by simpa [Nat.testBit_eq_decide_div_mod_eq] using hb
    have hdiv : (v - 2 ^ c) / 2 ^ c = v / 2 ^ c - 1 := by simpa using Nat.sub_mul_div v (2 ^ c) 1
    simp only [Bool.toNat_true, one_mul, Nat.testBit_eq_decide_div_mod_eq, hdiv, decide_eq_false_iff_not]
    omega

theorem satS_bounds (w : Nat) (x : Int) : -(2 ^ (w - 1) : Nat) ≤ satS w x ∧ satS w x ≤ (2 ^ (w - 1) : Nat) - 1 := by
  have := Nat.two_pow_pos (w - 1)
  unfold satS clamp
  split_ifs <;> omega

/-- A signed field reads back an integer within its bounds. -/
theorem signed_unsigned {x : Int} (hlo : -128 ≤ x) (hhi : x ≤ 127) : signed 8 (unsigned 8 x % 2 ^ 8) = x := by
  unfold signed unsigned
  norm_num
  split_ifs <;> omega

/-- A retraining step has ended and counts (R343). -/
def Run.stepped (r : Run s₀) (c : Nat) : Run s₀ := (r.dramCmd c 4 []).memMod c fun x => { x with steps := x.steps + 1 }

/-- A retraining that is complete. -/
def Run.retrained (r : Run s₀) (c : Nat) : Run s₀ :=
  (((r.sat (MEM_CH_STATUS_RETRAINS c)).channelTrained c).clear MEM_RETRAIN_REQ (2 ^ c)).retrainNext

/-- A failed step counts, and the retraining's steps begin anew (R343). -/
def Run.stepFailed (r : Run s₀) (c : Nat) : Run s₀ :=
  (r.sat (MEM_CH_ERR_TRAIN_FAIL c)).memMod c fun x => { x with steps := 0, fails := x.fails + 1 }

theorem Run.memCh_stepped (r : Run s₀) (c : Nat) : (r.stepped c).memCh c = { r.memCh c with steps := (r.memCh c).steps + 1 } :=
  Run.memCh_memMod _ c _

theorem Run.memCh_stepFailed (r : Run s₀) (c : Nat) :
    (r.stepFailed c).memCh c = { r.memCh c with steps := 0, fails := (r.memCh c).fails + 1 } := Run.memCh_memMod _ c _

theorem State.KeepsBut.stepped {r : Run s₀} (H : s.KeepsBut r.st p m h) (c : Nat) (hh : forgetsCh h) : s.KeepsBut (r.stepped c).st p m h :=
  (H.emit _).memMod c _ hh

theorem State.KeepsBut.stepFailed {r : Run s₀} (H : s.KeepsBut r.st p m h) {c : Nat} (hp : p (MEM_CH_ERR_TRAIN_FAIL c).key = true)
    (hh : forgetsCh h) : s.KeepsBut (r.stepFailed c).st p m h := (H.sat _ 1 (.inl hp)).memMod c _ hh

theorem Run.retrainStep_ok (r : Run s₀) {c : Nat} (last : Bool) (h3 : r.rd (MEM_CH_STATUS_STATE c) = 3) :
    r.retrainStep c true last = if last = true ∨ 7 ≤ (r.memCh c).steps then (r.stepped c).retrained c else r.stepped c := by
  have he : r.retrainStep c true last
      = if last || decide (8 ≤ ((r.stepped c).memCh c).steps) then (r.stepped c).retrained c else r.stepped c := if_neg (not_not.mpr h3)
  rw [he, r.memCh_stepped]
  simp

theorem Run.retrainStep_failed (r : Run s₀) {c : Nat} (last : Bool) (h3 : r.rd (MEM_CH_STATUS_STATE c) = 3) :
    r.retrainStep c false last = if 1 ≤ (r.memCh c).fails then (((r.stepped c).stepFailed c).channelRetire c 2 0).retrainNext
      else ((r.stepped c).stepFailed c).ev (448 + c) := by
  have he : r.retrainStep c false last = if 2 ≤ (((r.stepped c).stepFailed c).memCh c).fails
      then (((r.stepped c).stepFailed c).channelRetire c 2 0).retrainNext else ((r.stepped c).stepFailed c).ev (448 + c) := if_neg (not_not.mpr h3)
  rw [he, Run.memCh_stepFailed, r.memCh_stepped]
  simp

/-- A complete retraining with none due ends there. -/
theorem Run.retrained_eq (r : Run s₀) {c : Nat} (hd : r.u.mem.due = []) :
    r.retrained c = ((r.sat (MEM_CH_STATUS_RETRAINS c)).channelTrained c).clear MEM_RETRAIN_REQ (2 ^ c) := Run.retrainNext_of_none_due _ hd

theorem Run.rd_clear_ne (r : Run s₀) {f g : Fld} (v : Nat) (hk : g.key ≠ f.key) : (r.clear f v).rd g = r.rd g := r.rd_wr_ne _ hk

theorem Run.rd_channelTrained_ne (r : Run s₀) {c : Nat} {f : Fld} (hs : f.key ≠ (MEM_CH_STATUS_STATE c).key)
    (ht : f.key ≠ (MEM_CH_STATUS_TRAIN_TEMP c).key) : (r.channelTrained c).rd f = r.rd f :=
  (Run.rd_wr_ne _ _ ht).trans (Run.rd_wr_ne _ _ hs)

theorem Run.state_channelTrained (r : Run s₀) (c : Nat) : (r.channelTrained c).rd (MEM_CH_STATUS_STATE c) = 2 :=
  (Run.rd_wr_ne _ _ (by simp)).trans (Run.rd_wr_same _ _ _)

/-- The temperature at the training is recorded in whole degrees (R343). -/
theorem Run.temp_channelTrained (r : Run s₀) (c : Nat) :
    signed 8 ((r.channelTrained c).rd (MEM_CH_STATUS_TRAIN_TEMP c)) = satS 8 (roundShift (r.phyTemp c) 2) := by
  have hw : (r.channelTrained c).rd (MEM_CH_STATUS_TRAIN_TEMP c) = unsigned 8 (satS 8 (roundShift (r.phyTemp c) 2)) % 2 ^ 8 :=
    Run.rd_wr_same _ _ _
  obtain ⟨hlo, hhi⟩ := satS_bounds 8 (roundShift (r.phyTemp c) 2)
  rw [hw, signed_unsigned (by simpa using hlo) (by simp at hhi; omega)]

theorem State.KeepsBut.channelTrained {r : Run s₀} (H : s.KeepsBut r.st p m h) (c : Nat) (hs : p (MEM_CH_STATUS_STATE c).key = true)
    (ht : p (MEM_CH_STATUS_TRAIN_TEMP c).key = true) (hh : ∀ (u : Units) (x : Tab Int), h { u with thm := { u.thm with trained := x } }.quiet = h u.quiet) :
    s.KeepsBut (r.channelTrained c).st p m h :=
  ((H.wr _ _ (.inl hs)).wrS _ _ (.inl ht)).thm _ fun u => hh u _

/-- What a complete retraining shows: the channel is active again, its request is gone and the count and temperature stand. -/
theorem Run.retrained_reads (r : Run s₀) {c : Nat} (hd : r.u.mem.due = []) (hc : c < 16) (hreq : r.rd MEM_RETRAIN_REQ < 2 ^ 16) :
    (r.retrained c).rd (MEM_CH_STATUS_STATE c) = 2 ∧ bit ((r.retrained c).rd MEM_RETRAIN_REQ) c = false
      ∧ (r.retrained c).rd (MEM_CH_STATUS_RETRAINS c) = min (r.rd (MEM_CH_STATUS_RETRAINS c) + 1) (2 ^ (MEM_CH_STATUS_RETRAINS c).w - 1)
      ∧ signed 8 ((r.retrained c).rd (MEM_CH_STATUS_TRAIN_TEMP c)) = satS 8 (roundShift (r.phyTemp c) 2) := by
  have hbefore : ((r.sat (MEM_CH_STATUS_RETRAINS c)).channelTrained c).rd MEM_RETRAIN_REQ = r.rd MEM_RETRAIN_REQ :=
    (Run.rd_channelTrained_ne _ (by simp; omega) (by simp; omega)).trans (r.rd_sat_ne 1 (by simp; omega))
  have htemp : (r.sat (MEM_CH_STATUS_RETRAINS c)).phyTemp c = r.phyTemp c := by
    have hR : THM_RETIRED.key = 0x300200 * 8 := rfl
    have hT : ∀ k, (THM_TS_TEMP k).key = (0x300100 + 0x4 * k) * 8 := fun _ => rfl
    have hx : c ^^^ 1 < 2 ^ 4 := Nat.xor_lt_two_pow (by omega) (by omega)
    have hrd : ∀ k < 32, (r.sat (MEM_CH_STATUS_RETRAINS c)).rd (THM_TS_TEMP k) = r.rd (THM_TS_TEMP k) :=
      fun k hk => r.rd_sat_ne 1 (by rw [hT]; simp; omega)
    have hret : (r.sat (MEM_CH_STATUS_RETRAINS c)).rd THM_RETIRED = r.rd THM_RETIRED := r.rd_sat_ne 1 (by rw [hR]; simp; omega)
    unfold Run.phyTemp
    rw [hret]
    split
    · exact congrArg (signed 16) (hrd _ (by omega))
    · exact congrArg (signed 16) (hrd _ (by omega))
  rw [r.retrained_eq hd]
  refine ⟨?_, ?_, ?_, ?_⟩
  · rw [Run.rd_clear_ne _ _ (by simp; omega), Run.state_channelTrained]
  · rw [Run.clear, Run.rd_wr_same, hbefore, show MEM_RETRAIN_REQ.w = 16 from rfl, Nat.mod_eq_of_lt (lt_of_le_of_lt (Nat.sub_le _ _) hreq)]
    exact bit_clear _ c
  · rw [Run.rd_clear_ne _ _ (by simp; omega), Run.rd_channelTrained_ne _ (by simp) (by simp), Run.rd_sat_same]
  · rw [Run.rd_clear_ne _ _ (by simp; omega), Run.temp_channelTrained, htemp]

theorem Run.out_retrained (r : Run s₀) {c : Nat} (hd : r.u.mem.due = []) : (r.retrained c).st.out = r.st.out := by
  rw [r.retrained_eq hd]; rfl

theorem Run.memCh_retrained (r : Run s₀) {c : Nat} (k : Nat) (hd : r.u.mem.due = []) : (r.retrained c).memCh k = r.memCh k := by
  rw [r.retrained_eq hd]; rfl

theorem State.KeepsBut.retrained {r : Run s₀} (H : s.KeepsBut r.st p m h) {c : Nat} (hd : r.u.mem.due = [])
    (hl : ∀ f ∈ [MEM_CH_STATUS_STATE c, MEM_CH_STATUS_RETRAINS c, MEM_CH_STATUS_TRAIN_TEMP c, MEM_RETRAIN_REQ], p f.key = true)
    (hh : ∀ (u : Units) (x : Tab Int), h { u with thm := { u.thm with trained := x } }.quiet = h u.quiet) :
    s.KeepsBut (r.retrained c).st p m h := by
  rw [r.retrained_eq hd]
  exact ((H.sat _ 1 (.inl (hl _ (by simp)))).channelTrained c (hl _ (by simp)) (hl _ (by simp)) hh).clear _ _ (.inl (hl _ (by simp)))

/-! ## Retirement -/

/-- With none due, a channel that leaves takes nothing from what is due. -/
theorem Run.st_dropDue (r : Run s₀) (c : Nat) (hd : r.u.mem.due = []) :
    (r.memu fun m => { m with due := m.due.filter (· != c) }).st = r.st := by
  have hf : r.st.u.mem.due.filter (· != c) = r.st.u.mem.due := by rw [show r.st.u.mem.due = [] from hd]; rfl
  change ({ r.st with u := { r.st.u with mem := { r.st.u.mem with due := r.st.u.mem.due.filter (· != c) } } } : State) = r.st
  rw [hf]

theorem State.KeepsBut.dropDue {r : Run s₀} (H : s.KeepsBut r.st p m h) (c : Nat) (hd : r.u.mem.due = []) :
    s.KeepsBut (r.memu fun m => { m with due := m.due.filter (· != c) }).st p m h := by
  rw [r.st_dropDue c hd]
  exact H

/-- Two records name one fault: the same TYPE, INDEX and DETECTOR. -/
def Breach.fits (x b : Breach) : Prop := x.type = b.type ∧ x.index = b.index ∧ x.detector = b.detector

/-- After a fault the log holds its record, or its count in one of the same fault that stood there (R401). -/
theorem Run.log_breach (r : Run s₀) (b : Breach) :
    ∃ x ∈ (r.breach b).u.evt.log, x.fits b ∧ (x.cls = b.cls ∧ x.action = b.action ∨ ∃ y ∈ r.u.evt.log, y.fits b) := by
  unfold Run.breach
  generalize (if b.time = 0 then r.tselQ else b.time) = time
  dsimp only
  split
  next old rest hlog =>
    split
    next hm =>
      simp only [Breach.merges, Bool.and_eq_true, beq_iff_eq] at hm
      obtain ⟨⟨⟨htype, hindex⟩, hdet⟩, -⟩ := hm
      have hold : old.fits b := ⟨htype.symm, hindex.symm, hdet.symm⟩
      exact ⟨_, List.mem_cons_self, hold, .inr ⟨old, hlog ▸ List.mem_cons_self, hold⟩⟩
    next =>
      refine ⟨{ b with seq := nextBreachSeq (r.rd EVT_BREACH_SEQ_SEQ), time := time, duration := min ((r.tselQ - time) / 2 ^ 32) 0xFFFFFFFF },
        ?_, ⟨rfl, rfl, rfl⟩, .inl ⟨rfl, rfl⟩⟩
      rw [Run.log_ev _ (by omega)]
      exact List.mem_cons_self
  next =>
    refine ⟨{ b with seq := nextBreachSeq (r.rd EVT_BREACH_SEQ_SEQ), time := time, duration := min ((r.tselQ - time) / 2 ^ 32) 0xFFFFFFFF },
      ?_, ⟨rfl, rfl, rfl⟩, .inl ⟨rfl, rfl⟩⟩
    rw [Run.log_ev _ (by omega)]
    exact List.mem_cons_self

/-- A breach record is logged, and stays so while the log stays. -/
theorem Run.logged_breach (r : Run s₀) {t : State} (b : Breach) (hs : r.u.evt.log = s.u.evt.log) (ht : t.u.evt.log = (r.breach b).u.evt.log) :
    s.logged t b.type b.index b.cls b.detector b.action = true := by
  obtain ⟨x, hx, ⟨htype, hindex, hdet⟩, hnew⟩ := r.log_breach b
  refine List.any_eq_true.mpr ⟨x, ht ▸ hx, ?_⟩
  simp only [htype, hindex, hdet, beq_self_eq_true, Bool.true_and]
  rcases hnew with ⟨hcls, haction⟩ | ⟨y, hy, hytype, hyindex, hydet⟩
  · simp [hcls, haction]
  · rw [Bool.or_eq_true]
    exact .inr (List.any_eq_true.mpr ⟨y, hs ▸ hy, by simp [hytype, hyindex, hydet]⟩)

theorem Run.log_smbCond (r : Run s₀) (k : Nat) : (r.smbCond k).u.evt.log = r.u.evt.log :=
  congrArg (fun u => u.evt.log) ((State.KeepsBut.refl (p := fun _ => false) (m := fun _ => false) (h := id) r.st).smbCond k).2.2.2.2

/-- A cofferdam writes no breach record. -/
theorem Run.log_cofferdam (r : Run s₀) (type index : Nat) : (r.cofferdam type index).u.evt.log = r.u.evt.log := by
  unfold Run.cofferdam
  split
  · rfl
  · dsimp only
    split_ifs
    · unfold Run.requestService
      split
      · exact Run.log_ev _ (by omega)
      · exact (Run.log_smbCond _ 1).trans ((Run.log_ev _ (by omega)).trans (Run.log_ev _ (by omega)))
    · exact Run.log_ev _ (by omega)

/-- A retirement is recorded: its breach record and its cofferdam (R394, R401). -/
def Run.retireRecord (r : Run s₀) (c detector block : Nat) : Run s₀ :=
  (r.breach { type := 5, index := c, cls := 2, detector := detector, action := 4, event := 448 + c, detail0 := block }).cofferdam 5 c

theorem State.KeepsBut.retireRecord {r : Run s₀} (H : s.KeepsBut r.st p m h) (c detector block : Nat) (hp : ∀ k, retireKey k = true → p k = true)
    (hh : ∀ (u : Units) (e : Evt), h { u with evt := e }.quiet = h u.quiet) : s.KeepsBut (r.retireRecord c detector block).st p m h :=
  (H.breach _ (hp _ (by decide)) hh).cofferdam 5 c hp hh

/-- The record of a retirement keeps every register but its own and the events'. -/
theorem Run.keeps_retireRecord (r : Run s₀) (c detector block : Nat) :
    r.st.KeepsBut (r.retireRecord c detector block).st retireKey (fun _ => false) fun u => { u with evt := {} } :=
  (State.KeepsBut.refl r.st).retireRecord c detector block (fun _ hk => hk) fun _ _ => rfl

theorem Run.rd_retireRecord (r : Run s₀) (c detector block : Nat) {f : Fld} (hr : retireKey f.key = false) (he : eventKey f.key = false) :
    (r.retireRecord c detector block).rd f = r.rd f := ((r.keeps_retireRecord c detector block).1 f hr he).1

theorem Run.mem_retireRecord (r : Run s₀) (c detector block : Nat) : (r.retireRecord c detector block).u.mem = r.u.mem :=
  congrArg (fun u => u.mem) (r.keeps_retireRecord c detector block).2.2.2.2

theorem Run.logged_retireRecord (r : Run s₀) {t : State} (c detector block : Nat) (hs : r.u.evt.log = s.u.evt.log)
    (ht : t.u.evt.log = (r.retireRecord c detector block).u.evt.log) : s.logged t 5 c 2 detector 4 = true :=
  r.logged_breach { type := 5, index := c, cls := 2, detector := detector, action := 4, event := 448 + c, detail0 := block } hs
    (ht.trans (Run.log_cofferdam _ _ _))

/-- The channel leaves the controller: its state, its request and what waited for it end. -/
def Run.channelOff (r : Run s₀) (c : Nat) : Run s₀ :=
  ((((r.set MEM_CFG_RETIRED (2 ^ c)).wr (MEM_CH_STATUS_STATE c) 4).clear MEM_RETRAIN_REQ (2 ^ c)).memMod c fun _ => {}).memu fun m =>
    { m with due := m.due.filter (· != c) }

theorem Run.rd_channelOff (r : Run s₀) (c : Nat) (f : Fld) : (r.channelOff c).rd f
    = (((r.set MEM_CFG_RETIRED (2 ^ c)).wr (MEM_CH_STATUS_STATE c) 4).clear MEM_RETRAIN_REQ (2 ^ c)).rd f := rfl

/-- The first retirement leaves the channel's block out of every parity row (R253). -/
def Run.parityOut (r : Run s₀) (c : Nat) : Run s₀ :=
  r.when (!r.on MAG_PARITY_STATUS_OUT_VALID) fun r => (r.wr MAG_PARITY_STATUS_OUT_CH c).wr MAG_PARITY_STATUS_OUT_VALID 1

theorem Run.u_parityOut (r : Run s₀) (c : Nat) : (r.parityOut c).u = r.u := by
  unfold Run.parityOut Run.when
  split <;> rfl

/-- A retirement before its effect on a record. -/
def Run.channelOut (r : Run s₀) (c detector block : Nat) : Run s₀ :=
  (((r.retireRecord c detector block).channelOff c).ev (448 + c)).parityOut c

/-- The second retirement makes every parity row unrecoverable and stops a record (R253, R350). -/
def Run.parityLost (r : Run s₀) : Run s₀ :=
  let r := r.when r.recPolder.isSome fun r => r.ev 17
  r.when (r.rd MAG_REC_STATUS_STATE == 2) fun r => (r.recStop 4).recAdvance

theorem Run.channelRetire_eq (r : Run s₀) {c : Nat} (detector block : Nat) (hr : r.retired c = false) :
    r.channelRetire c detector block
      = (r.channelOut c detector block).when ((r.channelOut c detector block).retiredCount == 2) Run.parityLost :=
  if_neg (by simp [hr])

/-- The parity rows are no matter of the controller's registers. -/
theorem Run.rd_parityOut (r : Run s₀) (c : Nat) {f : Fld} (hf : 0x1700000 * 8 ≤ f.key) : (r.parityOut c).rd f = r.rd f := by
  have h1 : MAG_PARITY_STATUS_OUT_CH.key = 0x1302000 * 8 := rfl
  have h2 : MAG_PARITY_STATUS_OUT_VALID.key = 0x1302000 * 8 + 4 := rfl
  exact r.rd_when _ ((Run.rd_wr_ne _ _ (by omega)).trans (r.rd_wr_ne _ (by omega)))

theorem Run.rd_channelOut_off (r : Run s₀) {c : Nat} (detector block : Nat) (hc : c < 16) {f : Fld} (hlo : 0x1700000 * 8 ≤ f.key)
    (hhi : f.key < 0x1800000 * 8) : (r.channelOut c detector block).rd f = ((r.retireRecord c detector block).channelOff c).rd f :=
  (Run.rd_parityOut _ c hlo).trans (Run.rd_ev _ (by omega) (eventKey_memCtl hlo hhi))

theorem retireKey_memCtl {k : Nat} (hlo : 0x1700000 * 8 ≤ k) : retireKey k = false := by
  have hthm : THM_RETIRED.key = 0x300200 * 8 := rfl
  simp only [retireKey, span, hthm, Bool.or_eq_false_iff, Bool.and_eq_false_iff, decide_eq_false_iff_not, beq_eq_false_iff_ne]
  omega

theorem Run.rd_retireRecord_memCtl (r : Run s₀) (c detector block : Nat) {f : Fld} (hlo : 0x1700000 * 8 ≤ f.key) (hhi : f.key < 0x1800000 * 8) :
    (r.retireRecord c detector block).rd f = r.rd f := r.rd_retireRecord c detector block (retireKey_memCtl hlo) (eventKey_memCtl hlo hhi)

theorem Run.state_channelOut (r : Run s₀) {c : Nat} (detector block : Nat) (hc : c < 16) :
    (r.channelOut c detector block).rd (MEM_CH_STATUS_STATE c) = 4 := by
  rw [r.rd_channelOut_off detector block hc (by simp; omega) (by simp; omega), Run.rd_channelOff, Run.rd_clear_ne _ _ (by simp; omega),
    Run.rd_wr_same]
  rfl

theorem Run.retired_channelOut (r : Run s₀) {c : Nat} (detector block : Nat) (hc : c < 16) :
    (r.channelOut c detector block).rd MEM_CFG_RETIRED = (r.rd MEM_CFG_RETIRED ||| 2 ^ c) % 2 ^ 16 := by
  rw [r.rd_channelOut_off detector block hc (by simp) (by simp), ← r.rd_retireRecord_memCtl c detector block (by simp) (by simp),
    Run.rd_channelOff, Run.rd_clear_ne _ _ (by simp), Run.rd_wr_ne _ _ (by simp; omega), Run.set, Run.rd_wr_same]
  rfl

/-- The controller's other registers read as before a retirement. -/
theorem Run.rd_channelOut (r : Run s₀) {c : Nat} (detector block : Nat) (hc : c < 16) {f : Fld} (hlo : 0x1700000 * 8 ≤ f.key)
    (hhi : f.key < 0x1800000 * 8) (hs : f.key ≠ (MEM_CH_STATUS_STATE c).key) (hr : f.key ≠ MEM_CFG_RETIRED.key) (hq : f.key ≠ MEM_RETRAIN_REQ.key) :
    (r.channelOut c detector block).rd f = r.rd f := by
  rw [r.rd_channelOut_off detector block hc hlo hhi, ← r.rd_retireRecord_memCtl c detector block hlo hhi, Run.rd_channelOff,
    Run.rd_clear_ne _ _ hq, Run.rd_wr_ne _ _ hs, Run.set, Run.rd_wr_ne _ _ hr]

/-- The units of the controller after a retirement: the channel holds nothing and waits for nothing. -/
theorem Run.mem_channelOut (r : Run s₀) {c : Nat} (detector block : Nat) (hc : c < 16) :
    (r.channelOut c detector block).u.mem = { r.u.mem with ch := r.u.mem.ch.put c {}, due := r.u.mem.due.filter (· != c) } := by
  have ho : ((r.retireRecord c detector block).channelOff c).u.mem
      = { (r.retireRecord c detector block).u.mem with
          ch := (r.retireRecord c detector block).u.mem.ch.put c {}, due := (r.retireRecord c detector block).u.mem.due.filter (· != c) } := rfl
  rw [Run.channelOut, Run.u_parityOut, Run.mem_ev _ (by omega), ho, r.mem_retireRecord]

theorem Run.log_channelOut (r : Run s₀) {c : Nat} (detector block : Nat) (hc : c < 16) :
    (r.channelOut c detector block).u.evt.log = (r.retireRecord c detector block).u.evt.log := by
  rw [Run.channelOut, Run.u_parityOut, Run.log_ev _ (by omega)]
  rfl

theorem Run.seen_channelOut (r : Run s₀) {c : Nat} (detector block : Nat) (hc : c < 16) :
    (r.channelOut c detector block).st.seen (448 + c) = true := by
  have hx : 448 + c < 512 := by omega
  have hv : eventKey MAG_PARITY_STATUS_OUT_VALID.key = false := by decide
  have ho : eventKey MAG_PARITY_STATUS_OUT_CH.key = false := by decide
  have hs := ((r.retireRecord c detector block).channelOff c).seen_ev hx hx (.inl rfl)
  unfold Run.channelOut Run.parityOut Run.when
  split
  · rw [Run.seen_wr _ _ _ hv hx, Run.seen_wr _ _ _ ho hx]
    exact hs
  · exact hs

theorem Run.out_parityOut (r : Run s₀) (c : Nat) (hv : r.rd MAG_PARITY_STATUS_OUT_VALID = 0) :
    (r.parityOut c).rd MAG_PARITY_STATUS_OUT_VALID = 1 ∧ (r.parityOut c).rd MAG_PARITY_STATUS_OUT_CH = c % 2 ^ 4 := by
  have hne : MAG_PARITY_STATUS_OUT_CH.key ≠ MAG_PARITY_STATUS_OUT_VALID.key := by decide
  have hon : r.on MAG_PARITY_STATUS_OUT_VALID = false := by
    change (r.rd MAG_PARITY_STATUS_OUT_VALID != 0) = false
    simp [hv]
  rw [Run.parityOut, hon, Bool.not_false, Run.when_true]
  exact ⟨Run.rd_wr_same _ _ _, (Run.rd_wr_ne _ _ hne).trans (Run.rd_wr_same _ _ _)⟩

/-- The first channel that retires is shown as the one left out of the parity rows (R253). -/
theorem Run.out_channelOut (r : Run s₀) {c : Nat} (detector block : Nat) (hc : c < 16) (hv : r.rd MAG_PARITY_STATUS_OUT_VALID = 0) :
    (r.channelOut c detector block).rd MAG_PARITY_STATUS_OUT_VALID = 1 ∧ (r.channelOut c detector block).rd MAG_PARITY_STATUS_OUT_CH = c := by
  have hk : MAG_PARITY_STATUS_OUT_VALID.key = 0x1302000 * 8 + 4 := rfl
  have hbefore : (((r.retireRecord c detector block).channelOff c).ev (448 + c)).rd MAG_PARITY_STATUS_OUT_VALID = 0 := by
    rw [Run.rd_ev _ (by omega) (by decide), Run.rd_channelOff, Run.rd_clear_ne _ _ (by simp [hk]), Run.rd_wr_ne _ _ (by simp [hk]; omega),
      Run.set, Run.rd_wr_ne _ _ (by simp [hk]), r.rd_retireRecord c detector block (by decide) (by decide), hv]
  obtain ⟨hvalid, hch⟩ := Run.out_parityOut _ c hbefore
  exact ⟨hvalid, hch.trans (Nat.mod_eq_of_lt (by omega))⟩

/-- A retirement keeps everything but the channel, what shows it, and the event unit. -/
theorem State.KeepsBut.channelOut {r : Run s₀} (H : s.KeepsBut r.st p m h) {c : Nat} (detector block : Nat) (hc : c < 16)
    (hp : ∀ k, retireKey k = true → p k = true) (hl : ∀ f ∈ [MEM_CH_STATUS_STATE c, MEM_CFG_RETIRED, MEM_RETRAIN_REQ,
      MAG_PARITY_STATUS_OUT_CH, MAG_PARITY_STATUS_OUT_VALID], p f.key = true) (hd : r.u.mem.due = []) (hh : forgetsCh h)
    (he : ∀ (u : Units) (e : Evt), h { u with evt := e }.quiet = h u.quiet) : s.KeepsBut (r.channelOut c detector block).st p m h := by
  have h1 := ((((H.retireRecord c detector block hp he).set MEM_CFG_RETIRED (2 ^ c) (.inl (hl _ (by simp)))).wr (MEM_CH_STATUS_STATE c) 4
    (.inl (hl _ (by simp)))).clear MEM_RETRAIN_REQ (2 ^ c) (.inl (hl _ (by simp)))).memMod c (fun _ => {}) hh
  have h2 : s.KeepsBut ((r.retireRecord c detector block).channelOff c).st p m h :=
    h1.dropDue c ((congrArg MemU.due (r.mem_retireRecord c detector block)).trans hd)
  refine State.KeepsBut.when (h2.ev (by omega)) _ fun _ => ?_
  exact ((h2.ev (by omega)).wr _ _ (.inl (hl _ (by simp)))).wr _ _ (.inl (hl _ (by simp)))

theorem popcount_two_pow (c : Fin 16) : popcount 16 (2 ^ c.val) = 1 := by revert c; decide

/-- The first retirement is only that (R253). -/
theorem Run.channelRetire_first (r : Run s₀) (c : Fin 16) (detector block : Nat) (hr : r.rd MEM_CFG_RETIRED = 0) :
    r.channelRetire c detector block = r.channelOut c detector block := by
  have hone : (r.channelOut c detector block).retiredCount = 1 := by
    rw [Run.retiredCount, r.retired_channelOut detector block c.isLt, hr, Nat.zero_or,
      Nat.mod_eq_of_lt (Nat.pow_lt_pow_right (by omega) c.isLt), popcount_two_pow]
  rw [r.channelRetire_eq detector block (by simp [Run.retired, hr, bit]), hone]
  rfl

/-! ## What the end of a record leaves of the controller

The second retirement stops a record, and that goes on through segments, labels, drives, hops and lanes. None of it touches the
controller, the breach log or an event that was seen: `Run.Spares` says so, and one lemma for each operation carries it. -/

/-- The controller's registers, but for those that share their place with OUTSTANDING of a drive beyond the fitted ones. -/
def memCtlKey (k : Nat) : Bool := decide (0x1700000 * 8 ≤ k) && decide (k < 0x1800000 * 8) && k % 128 != 24

theorem memCtlKey_state {c : Nat} (hc : c < 16) : memCtlKey (MEM_CH_STATUS_STATE c).key = true := by
  rw [MEM_CH_STATUS_STATE_key, memCtlKey, Bool.and_eq_true, Bool.and_eq_true, decide_eq_true_eq, decide_eq_true_eq, bne_iff_ne]
  omega

theorem memCtlKey_ue {c : Nat} (hc : c < 16) : memCtlKey (MEM_CH_ERR_UE c).key = true := by
  rw [MEM_CH_ERR_UE_key, memCtlKey, Bool.and_eq_true, Bool.and_eq_true, decide_eq_true_eq, decide_eq_true_eq, bne_iff_ne]
  omega

/-- From r to q the controller and the breach log stand still, and no event that was seen is forgotten. -/
structure Run.Spares (r q : Run s₀) : Prop where
  rd : ∀ f : Fld, memCtlKey f.key = true → q.rd f = r.rd f
  seen : ∀ x < 512, r.st.seen x = true → q.st.seen x = true
  mem : q.u.mem = r.u.mem
  log : q.u.evt.log = r.u.evt.log

/-- The key is none of the controller's and none of the event registers'. -/
def spareKey (k : Nat) : Bool := !eventKey k && !memCtlKey k

theorem spareKey_of {k : Nat} (hlo : 0x500000 * 8 ≤ k) (hhi : k < 0x1500000 * 8 ∨ k % 128 = 24) : spareKey k = true := by
  have hpba : QIF_PBA.key = 0x1521000 * 8 := rfl
  have htrace : MON_STATUS_TRACE.key = 0x1B00004 * 8 + 7 := rfl
  have hsmb : GLB_SMB_STATUS_PENDING.key = 0x1C00 * 8 := rfl
  simp only [spareKey, eventKey, memCtlKey, hpba, htrace, hsmb, Bool.and_eq_true, Bool.not_eq_true', Bool.or_eq_false_iff, Bool.and_eq_false_iff,
    decide_eq_false_iff_not, beq_eq_false_iff_ne, bne_eq_false_iff_eq]
  omega

/-- The registers of the lanes and of MAG lie clear of both. -/
theorem spareKey_field {f : Fld} (hlo : 0x500000 ≤ f.off) (hhi : f.off < 0x1400000) (hb : f.lo < 64) : spareKey f.key = true := by
  have hk : f.key = f.off * 8 + f.lo := rfl
  exact spareKey_of (by omega) (.inl (by omega))

namespace Run.Spares
variable {r q : Run s₀}

theorem refl (r : Run s₀) : r.Spares r := ⟨fun _ _ => rfl, fun _ _ h => h, rfl, rfl⟩

theorem wr (H : r.Spares q) (f : Fld) (v : Nat) (hf : spareKey f.key = true) : r.Spares (q.wr f v) := by
  simp only [spareKey, Bool.and_eq_true, Bool.not_eq_true'] at hf
  refine ⟨fun g hg => (q.rd_wr_ne v ?_).trans (H.rd g hg), fun x hx hs => ?_, H.mem, H.log⟩
  · rintro hk
    rw [hk, hf.2] at hg
    exact absurd hg (by decide)
  · rw [q.seen_wr f v hf.1 hx]
    exact H.seen x hx hs

theorem mod (H : r.Spares q) (f : Units → Units) (hm : (f q.u).mem = q.u.mem) (hl : (f q.u).evt.log = q.u.evt.log) : r.Spares (q.mod f) :=
  ⟨H.rd, H.seen, hm.trans H.mem, hl.trans H.log⟩

theorem evt (H : r.Spares q) (f : Evt → Evt) (hl : (f q.u.evt).log = q.u.evt.log) : r.Spares (q.evt f) := H.mod _ rfl hl

theorem draw (H : r.Spares q) (ok : Reach s₀ q.st.draw) : r.Spares ⟨q.st.draw, ok⟩ := ⟨H.rd, H.seen, H.mem, H.log⟩

theorem ev (H : r.Spares q) {e : Nat} (he : e < 512) : r.Spares (q.ev e) := by
  refine ⟨fun g hg => (q.rd_ev he ?_).trans (H.rd g hg), fun x hx hs => q.seen_ev he hx (.inr (H.seen x hx hs)), (q.mem_ev he).trans H.mem,
    (q.log_ev he).trans H.log⟩
  simp only [memCtlKey, Bool.and_eq_true, decide_eq_true_eq] at hg
  exact eventKey_memCtl hg.1.1 hg.1.2

theorem when (H : r.Spares q) (c : Bool) {f : Run s₀ → Run s₀} (hf : c = true → r.Spares (f q)) : r.Spares (q.when c f) := by
  cases c
  · exact H
  · exact hf rfl

theorem each {α : Type} (l : List α) {f : α → Run s₀ → Run s₀} (H : r.Spares q) (hf : ∀ a ∈ l, ∀ q, r.Spares q → r.Spares (f a q)) :
    r.Spares (q.each l f) := by
  induction l generalizing q with
  | nil => exact H
  | cons a l ih => exact ih (hf a List.mem_cons_self q H) fun b hb => hf b (List.mem_cons_of_mem a hb)

theorem hwSet (H : r.Spares q) (f : Fld) (v : Nat) (hf : spareKey f.key = true) : r.Spares (q.hwSet f v) :=
  (H.evt _ rfl).wr f _ hf

/-! ### Lanes -/

theorem laneMod (H : r.Spares q) (n : Nat) (f : LaneU → LaneU) : r.Spares (q.laneMod n f) := H.mod _ rfl rfl

/-- The registers of a lane that a self-check writes. -/
def laneFields (n : Nat) : List Fld :=
  [LNK_STATUS_STATE n, LNK_STATUS_RX_LOCK n, LNK_STATUS_TRAINED n, LNK_TRAIN_ECHO_FAILS n, LNK_TRAIN_REQ_COUNT n, LNK_LOOP_LOOP n,
    LNK_PRBS_CTL_GEN_SEL n, LNK_PRBS_CTL_CHK_SEL n, LNK_PRBS_CTL_GEN_INV n, LNK_PRBS_CTL_CHK_INV n, LNK_PRBS_CTL_CHK_LOCK n,
    LNK_PRBS_ERR_ERRORS n, LNK_PRBS_BITS_BITS n]

theorem laneFields_place (n : Nat) : ∀ f ∈ laneFields n, 0x500000 ≤ f.off ∧ f.off < 0x501000 + 0x1000 * n ∧ f.lo < 64 := by
  simp only [laneFields, List.forall_mem_cons, List.not_mem_nil, false_imp_iff, implies_true, and_true, LNK_STATUS_STATE, LNK_STATUS_RX_LOCK,
    LNK_STATUS_TRAINED, LNK_TRAIN_ECHO_FAILS, LNK_TRAIN_REQ_COUNT, LNK_LOOP_LOOP, LNK_PRBS_CTL_GEN_SEL, LNK_PRBS_CTL_CHK_SEL, LNK_PRBS_CTL_GEN_INV,
    LNK_PRBS_CTL_CHK_INV, LNK_PRBS_CTL_CHK_LOCK, LNK_PRBS_ERR_ERRORS, LNK_PRBS_BITS_BITS]
  omega

theorem wrLane (H : r.Spares q) {n : Nat} (hn : n < 48) {f : Fld} (hf : f ∈ laneFields n) (v : Nat) : r.Spares (q.wr f v) := by
  obtain ⟨hlo, hhi, hb⟩ := laneFields_place n f hf
  exact H.wr f v (spareKey_field hlo (by omega) hb)

theorem laneEnter (H : r.Spares q) {n : Nat} (hn : n < 48) (st : Nat) (lost : Bool) : r.Spares (q.laneEnter n st lost) := by
  have h1 : ∀ v g, r.Spares (((q.wr (LNK_STATUS_STATE n) st).wr (LNK_STATUS_RX_LOCK n) v).laneMod n g) :=
    fun v g => ((H.wrLane hn (by simp [laneFields]) st).wrLane hn (by simp [laneFields]) v).laneMod n g
  exact when (h1 _ _) _ (f := fun r => r.ev (32 + 2 * n)) fun _ => (h1 _ _).ev (by omega)

theorem laneAcquire (H : r.Spares q) {n : Nat} (hn : n < 48) (lost : Bool) : r.Spares (q.laneAcquire n lost) :=
  (((H.wrLane hn (f := LNK_TRAIN_ECHO_FAILS n) (by simp [laneFields]) 0).wrLane hn (f := LNK_TRAIN_REQ_COUNT n) (by simp [laneFields]) 0).laneMod
    n _).laneEnter hn 1 lost

theorem prbsSeed (H : r.Spares q) (n : Nat) : r.Spares (q.prbsSeed n) := by
  unfold Run.prbsSeed Run.free
  exact (H.draw _).laneMod n _

theorem laneTest (H : r.Spares q) {n : Nat} (hn : n < 48) : r.Spares (q.laneTest n) := by
  have h1 := (H.wrLane hn (f := LNK_PRBS_CTL_CHK_LOCK n) (by simp [laneFields]) 0).laneMod n fun l =>
    { l with prbs := [], good := 0, win := 0, winErr := 0 }
  unfold Run.laneTest
  dsimp only
  split_ifs
  · exact h1
  · exact (h1.laneMod n _).laneEnter hn 6 _
  · exact (h1.wrLane hn (f := LNK_STATUS_TRAINED n) (by simp [laneFields]) 0).laneAcquire hn false
  · exact h1.laneEnter hn _ false
  · exact h1.laneEnter hn _ false
  · exact h1

theorem selfCheck (H : r.Spares q) {n : Nat} (hn : n < 48) : r.Spares (q.selfCheck n) := by
  have h1 := ((H.wrLane hn (f := LNK_LOOP_LOOP n) (by simp [laneFields]) 2).wrLane hn (f := LNK_PRBS_CTL_GEN_SEL n) (by simp [laneFields]) 4).wrLane hn
    (f := LNK_PRBS_CTL_CHK_SEL n) (by simp [laneFields]) 4
  have h2 := (h1.wrLane hn (f := LNK_PRBS_CTL_GEN_INV n) (by simp [laneFields]) 0).wrLane hn (f := LNK_PRBS_CTL_CHK_INV n) (by simp [laneFields]) 0
  have h3 := (h2.wrLane hn (f := LNK_PRBS_ERR_ERRORS n) (by simp [laneFields]) 0).wrLane hn (f := LNK_PRBS_BITS_BITS n) (by simp [laneFields]) 0
  exact ((h3.laneMod n _).prbsSeed n).laneTest hn

/-! ### Drives, hops and labels -/

theorem mag (H : r.Spares q) (f : MagU → MagU) : r.Spares (q.mag f) := H.mod _ rfl rfl

theorem hopMod (H : r.Spares q) (l : Nat) (f : HopU → HopU) : r.Spares (q.hopMod l f) := H.mag _

theorem magzMod (H : r.Spares q) (m : Nat) (f : MagzU → MagzU) : r.Spares (q.magzMod m f) := H.mag _

theorem drvMod (H : r.Spares q) (d : Nat) (f : DrvU → DrvU) : r.Spares (q.drvMod d f) := by
  have hk : (MAG_DRV_STATUS_OUTSTANDING d).key = (0x1301000 + 0x10 * d) * 8 + 24 := rfl
  exact (H.mag _).wr _ _ (spareKey_of (by omega) (.inr (by omega)))

theorem sendPacket (H : r.Spares q) (dest type vs flags seq : Nat) (body : List Byte) : r.Spares (q.sendPacket dest type vs flags seq body) :=
  ⟨H.rd, H.seen, H.mem, H.log⟩

theorem hopPump_go (l : Nat) (ps : List HopPkt) (H : r.Spares q) : r.Spares (Run.hopPump.go l ps q) := by
  induction ps generalizing q with
  | nil => exact H
  | cons p ps ih =>
    unfold Run.hopPump.go
    dsimp only
    split
    · exact H
    · exact ih ((H.sendPacket _ _ _ _ _ _).hopMod l _)

theorem hopPump (H : r.Spares q) (l : Nat) : r.Spares (q.hopPump l) := by
  unfold Run.hopPump
  split
  · exact H
  · exact hopPump_go l _ H

theorem hopSend (H : r.Spares q) (l : Nat) (ps : List HopPkt) : r.Spares (q.hopSend l ps) := (H.hopMod l _).hopPump l

theorem drvPump_go (d : Nat) (cs held : List DCmd) (H : r.Spares q) : r.Spares (Run.drvPump.go d cs held q) := by
  induction cs generalizing q held with
  | nil => exact H.drvMod d _
  | cons c cs ih =>
    unfold Run.drvPump.go
    dsimp only
    split
    · exact H.drvMod d _
    · split
      · exact ih _ H
      · exact ih held ((H.drvMod d _).hopSend _ _)

theorem magOfDrive_lt (q : Run s₀) (d : Nat) : q.magOfDrive d < 2 := by
  unfold Run.magOfDrive Run.magOfLane
  split <;> omega

/-- The registers of a magazine's state. -/
def magFields (m : Nat) : List Fld :=
  [MAG_MAG_STATUS_FREE m, MAG_MAG_STATUS_BUSY m, MAG_MAG_STATUS_REPLACE m, MAG_MAG_STATUS_FAILED m, MAG_MAG_STATUS_DEGRADED m,
    MAG_MAG_STATUS_READY m, MAG_MAG_STATUS_PRESENT m]

theorem magFields_place {m : Nat} (hm : m < 2) : ∀ f ∈ magFields m, 0x1300010 ≤ f.off ∧ f.off < 0x1300018 ∧ f.lo < 32 := by
  simp only [magFields, List.forall_mem_cons, List.not_mem_nil, false_imp_iff, implies_true, and_true, MAG_MAG_STATUS_FREE, MAG_MAG_STATUS_BUSY,
    MAG_MAG_STATUS_REPLACE, MAG_MAG_STATUS_FAILED, MAG_MAG_STATUS_DEGRADED, MAG_MAG_STATUS_READY, MAG_MAG_STATUS_PRESENT]
  omega

theorem wrMag (H : r.Spares q) {m : Nat} (hm : m < 2) {f : Fld} (hf : f ∈ magFields m) (v : Nat) : r.Spares (q.wr f v) := by
  obtain ⟨hlo, hhi, hb⟩ := magFields_place hm f hf
  exact H.wr f v (spareKey_field (by omega) (by omega) (by omega))

theorem magBusy (H : r.Spares q) {m : Nat} (hm : m < 2) : r.Spares (q.magBusy m) := H.wrMag hm (f := MAG_MAG_STATUS_BUSY m) (by simp [magFields]) _

theorem drvPump (H : r.Spares q) (d : Nat) : r.Spares (q.drvPump d) := by
  unfold Run.drvPump
  split
  · exact H
  · exact (drvPump_go d _ [] H).magBusy (magOfDrive_lt q d)

theorem drvCmd (H : r.Spares q) (d : Nat) (c : DCmd) : r.Spares (q.drvCmd d c) := (H.drvMod d _).drvPump d

theorem writeLabel (H : r.Spares q) (m : Nat) (f : Label → Label) : r.Spares (q.writeLabel m f) :=
  each _ (H.magzMod m _) fun _ _ _ hq => hq.drvCmd _ _

/-! ### Segments and the record -/

theorem frameMod (H : r.Spares q) (sn : Nat) (g : IFrame → IFrame) : r.Spares (q.frameMod sn g) := H.mod _ rfl rfl

theorem segDurable (H : r.Spares q) (x : Seg) : r.Spares (q.segDurable x) := each _ H fun _ _ _ hq => hq.frameMod _ _

theorem releaseClip (H : r.Spares q) (x : Seg) : r.Spares (q.releaseClip x) := each _ H fun _ _ _ hq => hq.frameMod _ _

theorem dropSeg (H : r.Spares q) (n : Nat) : r.Spares (q.dropSeg n) := H.mag _

theorem segMod (H : r.Spares q) (n : Nat) (f : Seg → Seg) : r.Spares (q.segMod n f) := H.mag _

theorem recState (H : r.Spares q) (st : Nat) : r.Spares (q.recState st) := by
  unfold Run.recState
  split
  · exact H
  · exact (H.wr _ _ (by decide)).ev (by omega)

theorem magSync (H : r.Spares q) {m : Nat} (hm : m < 2) : r.Spares (q.magSync m) := by
  have h1 : ∀ v w, r.Spares ((q.wr (MAG_MAG_STATUS_FREE m) v).wr (MAG_MAG_STATUS_PRESENT m) w) :=
    fun v w => (H.wrMag hm (by simp [magFields]) v).wrMag hm (by simp [magFields]) w
  unfold Run.magSync
  refine wrMag (wrMag (wrMag (when (h1 _ _) _ fun _ => ?_) hm ?_ _) hm ?_ _) hm ?_ _
  · exact (h1 _ _).wrMag hm (by simp [magFields]) 0
  · simp [magFields]
  · simp [magFields]
  · simp [magFields]

theorem recordEnd (H : r.Spares q) (sealed : Bool) : r.Spares (q.recordEnd sealed) := by
  unfold Run.recordEnd
  dsimp only
  split
  · exact H
  · refine each _ (recState (each _ (when (when H _ fun _ => ?_) _ fun _ => ?_) fun l hl q hq => ?_) 0) fun m hm q hq => ?_
    · exact H.wr _ _ (by decide)
    · exact (hwSet (when H _ fun _ => H.wr _ _ (by decide)) _ _ (by decide)).ev (by omega)
    · exact hq.when _ fun _ => hq.selfCheck (by have := List.mem_range.mp hl; omega)
    · exact hq.magSync (List.mem_range.mp hm)

theorem segAdvance (H : r.Spares q) (x : Seg) : r.Spares (q.segAdvance x) := by
  have h1 := H.segDurable x
  unfold Run.segAdvance
  dsimp only
  split
  · split
    · exact h1
    · exact ((h1.releaseClip x).dropSeg x.seg).recordEnd false
  · split
    · split
      · exact (h1.writeLabel x.mag _).segMod x.seg _
      · exact h1
    · split
      · exact (((h1.hwSet _ _ (by decide)).releaseClip x).dropSeg x.seg).recordEnd true
      · exact h1
    · exact h1

theorem recAdvance (H : r.Spares q) : r.Spares q.recAdvance :=
  each _ (each _ H fun _ _ _ hq => hq.segAdvance _) fun _ _ _ hq => hq.segAdvance _

theorem recStop (H : r.Spares q) (cause : Nat) : r.Spares (q.recStop cause) := by
  unfold Run.recStop
  split
  · exact H
  · exact ((H.segMod _ _).wr _ _ (by decide)).recState 3

theorem parityLost (H : r.Spares q) : r.Spares q.parityLost := by
  have h1 : r.Spares (q.when q.recPolder.isSome fun r => r.ev 17) := H.when _ fun _ => H.ev (by omega)
  unfold Run.parityLost
  exact when h1 _ fun _ => (h1.recStop 4).recAdvance

end Run.Spares

/-! ## An uncorrectable read -/

/-- The second retirement reaches nothing of the controller beside the channel that retires. -/
theorem Run.spares_channelRetire (r : Run s₀) {c : Nat} (detector block : Nat) (hr : r.retired c = false) :
    (r.channelOut c detector block).Spares (r.channelRetire c detector block) := by
  rw [r.channelRetire_eq detector block hr]
  exact (Run.Spares.refl _).when _ fun _ => (Run.Spares.refl _).parityLost

/-- What a retirement shows (R253, R350, R394). -/
theorem Run.channelRetire_reads (r : Run s₀) {c : Nat} (detector block : Nat) (hc : c < 16) (hr : r.retired c = false) :
    (r.channelRetire c detector block).rd (MEM_CH_STATUS_STATE c) = 4
      ∧ bit ((r.channelRetire c detector block).rd MEM_CFG_RETIRED) c = true := by
  have hs := r.spares_channelRetire detector block hr
  refine ⟨(hs.rd _ (memCtlKey_state hc)).trans (r.state_channelOut detector block hc), ?_⟩
  rw [hs.rd _ (by decide), r.retired_channelOut detector block hc, bit_eq_testBit, Nat.testBit_mod_two_pow, Nat.testBit_or, Nat.testBit_two_pow]
  simp [hc]

/-- The blocks that count towards the retirement of a channel after another bad read of block b (Table 15-2). -/
def Run.badBlocks (r : Run s₀) (c b : Nat) : List (Nat × Nat) :=
  (b, r.tselNs) :: (r.memCh c).bad.filter fun x => x.1 != b && r.tselNs ≤ x.2 + 1000000

/-- A bad read of block b outside the recording polder, before the channel may retire. -/
def Run.misread (r : Run s₀) (c b : Nat) (bad : List (Nat × Nat)) : Run s₀ :=
  ((((r.memu fun m => { m with poison := b :: m.poison.filter (· != b) }).sat (MEM_CH_ERR_UE c)).wr MEM_UE_ADDR_ADDR b).ev (448 + c)).memMod c
    fun x => { x with bad := bad }

/-- The selected time is no matter of the controller. -/
theorem Run.tselNs_congr {r q : Run s₀} (hr : q.rd TIM_TSEL_STATUS_SRC_USED = r.rd TIM_TSEL_STATUS_SRC_USED) (ht : q.u.tim = r.u.tim) :
    q.tselNs = r.tselNs := by
  simp only [Run.tselNs, Run.tselQ, Run.tb, hr, ht]

theorem Run.badRead_eq (r : Run s₀) {c b : Nat} (hc : c < 16) (hb : channelOf b = c) (hp : r.recPolder = none) :
    r.badRead c b = (r.misread c b (r.badBlocks c b)).when (decide (4 ≤ (r.badBlocks c b).length)) fun r => r.channelRetire c 1 b := by
  let r1 := r.memu fun m => { m with poison := b :: m.poison.filter (· != b) }
  have hrec : ((r1.polderOf b 256).isSome && r1.polderOf b 256 == r1.recPolder) = false := by
    rw [show r1.recPolder = none from hp]
    cases r1.polderOf b 256 <;> rfl
  have hu : r1.uncorrectable b = ((r1.sat (MEM_CH_ERR_UE c)).wr MEM_UE_ADDR_ADDR b).ev (448 + c) := by rw [Run.uncorrectable, hb]
  have hsrc : TIM_TSEL_STATUS_SRC_USED.key < 0x1700000 * 8 := by decide
  have hev : eventKey TIM_TSEL_STATUS_SRC_USED.key = false := by decide
  have ht : (r1.uncorrectable b).tselNs = r.tselNs := by
    refine Run.tselNs_congr (r := r1) ?_ ?_
    · rw [hu, Run.rd_ev _ (by omega) hev, Run.rd_wr_ne _ _ (by simp; omega), Run.rd_sat_ne _ _ (by simp; omega)]
    · rw [hu]
      exact congrArg (fun u => u.tim) (Run.quiet_ev _ (e := 448 + c) (by omega))
  have hch : (r1.uncorrectable b).memCh c = r.memCh c := by rw [hu, Run.memCh_ev _ _ (by omega)]; rfl
  have hbad : r.badRead c b = ((r1.uncorrectable b).memMod c fun x => { x with bad := (r1.uncorrectable b).badBlocks c b }).when
      (decide (4 ≤ ((r1.uncorrectable b).badBlocks c b).length)) fun r => r.channelRetire c 1 b := by
    have hrec' : ∀ x y : Run s₀, (if (r1.polderOf b 256).isSome && r1.polderOf b 256 == r1.recPolder then x else y) = y :=
      fun x y => by rw [hrec]; rfl
    have hu' := hrec' (r1.breach { type := 5, index := c, cls := 1, detector := 1, action := 5, detail0 := b }) (r1.uncorrectable b)
    unfold Run.badRead
    dsimp only
    rw [hu']
    rfl
  have hblocks : (r1.uncorrectable b).badBlocks c b = r.badBlocks c b := by rw [Run.badBlocks, ht, hch]; rfl
  rw [hbad, hblocks, hu]
  rfl

theorem Run.recPolder_congr {r q : Run s₀} (hr : q.rd GLB_MODE_ROLE = r.rd GLB_MODE_ROLE) (hg : q.u.glb = r.u.glb) : q.recPolder = r.recPolder := by
  have hrole : q.reader = r.reader := congrArg (· != 0) hr
  have hrecords : q.records = r.records := by rw [Run.records, Run.records, hrole, hg]
  unfold Run.recPolder Run.hasCfg Run.cfgN Run.cfg
  rw [hrecords]

theorem Run.u_issue (r : Run s₀) (c : Nat) (q : MemReq) (turn : Bool) :
    ∃ ch, (r.issue c q turn).u = { r.u with mem := { r.u.mem with ch := ch } } := by
  obtain ⟨ch, n, hst, -⟩ := r.st_issue c q turn
  exact ⟨ch, congrArg State.u hst⟩

/-- The access that found the error changes nothing by which it is judged. -/
theorem Run.badBlocks_issue (r : Run s₀) (c b : Nat) (q : MemReq) (turn : Bool) : (r.issue c q turn).badBlocks c b = r.badBlocks c b := by
  obtain ⟨ch, hu⟩ := r.u_issue c q turn
  have ht : (r.issue c q turn).tselNs = r.tselNs := Run.tselNs_congr (r.rd_issue c q turn _) (by rw [hu])
  rw [Run.badBlocks, Run.badBlocks, ht, r.memCh_issue]
  rfl

theorem Run.recPolder_issue (r : Run s₀) (c : Nat) (q : MemReq) (turn : Bool) : (r.issue c q turn).recPolder = r.recPolder := by
  obtain ⟨ch, hu⟩ := r.u_issue c q turn
  exact Run.recPolder_congr (r.rd_issue c q turn _) (by rw [hu])

/-- An uncorrectable read of a read request. -/
theorem Run.accessEnds_bad (r : Run s₀) {c : Nat} {q : MemReq} (hw : q.write = false) :
    r.accessEnds c q 3 = r.badRead c (q.addr / 256 * 256) := by simp [Run.accessEnds, hw]

/-- An access that finds its block uncorrectable outside the recording polder (R346, R252). -/
theorem Run.blockAccess_bad (r : Run s₀) {c b : Nat} {busy : List Nat} {waited turn : Bool} {q : MemReq} (hc : c < 16)
    (hs : r.rd (MEM_CH_STATUS_STATE c) = 2 ∨ r.rd (MEM_CH_STATUS_STATE c) = 3)
    (hp : pickRequest (fun a => r.bankOf (localAddr a)) (r.memCh c) busy waited = some (q, turn)) (hw : q.write = false)
    (hb : b = q.addr / 256 * 256) (hch : channelOf q.addr = c) (hrec : r.recPolder = none) :
    r.blockAccess c [] busy waited 3 = (((r.arrive c []).issue c q turn).misread c b (r.badBlocks c b)).when
      (decide (4 ≤ (r.badBlocks c b).length)) fun r => r.channelRetire c 1 b := by
  have hx : (r.arrive c []).memCh c = r.memCh c := by simp [Run.memCh_arrive]
  have hblocks : ((r.arrive c []).issue c q turn).badBlocks c b = r.badBlocks c b := by
    rw [Run.badBlocks_issue, Run.badBlocks, hx]
    rfl
  have hcb : channelOf b = c := by
    rw [hb, ← hch]
    simp only [channelOf, bits]
    omega
  rw [r.blockAccess_issues hs hx hp, Run.accessEnds_bad _ hw, ← hb, ← hblocks]
  exact Run.badRead_eq _ hc hcb ((Run.recPolder_issue _ c q turn).trans hrec)

/-- What a bad read shows (R346). -/
theorem Run.misread_reads (r : Run s₀) {c : Nat} (b : Nat) (bad : List (Nat × Nat)) (hc : c < 16) :
    (r.misread c b bad).rd (MEM_CH_ERR_UE c) = min (r.rd (MEM_CH_ERR_UE c) + 1) (2 ^ (MEM_CH_ERR_UE c).w - 1)
      ∧ (r.misread c b bad).rd MEM_UE_ADDR_ADDR = b % 2 ^ MEM_UE_ADDR_ADDR.w ∧ (r.misread c b bad).st.seen (448 + c) = true := by
  have he : 448 + c < 512 := by omega
  have hu : eventKey (MEM_CH_ERR_UE c).key = false := eventKey_memCtl (by simp; omega) (by simp; omega)
  refine ⟨?_, ?_, Run.seen_ev _ he he (.inl rfl)⟩
  · rw [Run.misread, Run.rd_memMod, Run.rd_ev _ he hu, Run.rd_wr_ne _ _ (by simp; omega), Run.rd_sat_same]
    rfl
  · rw [Run.misread, Run.rd_memMod, Run.rd_ev _ he (by decide), Run.rd_wr_same]

/-- Every other register outside the event registers reads after a bad read as before. -/
theorem Run.rd_misread (r : Run s₀) {c : Nat} (b : Nat) (bad : List (Nat × Nat)) (hc : c < 16) {f : Fld} (he : eventKey f.key = false)
    (hu : f.key ≠ (MEM_CH_ERR_UE c).key) (ha : f.key ≠ MEM_UE_ADDR_ADDR.key) : (r.misread c b bad).rd f = r.rd f := by
  rw [Run.misread, Run.rd_memMod, Run.rd_ev _ (by omega) he, Run.rd_wr_ne _ _ ha, Run.rd_sat_ne _ _ hu]
  rfl

theorem Run.poison_misread (r : Run s₀) {c : Nat} (b : Nat) (bad : List (Nat × Nat)) (hc : c < 16) : b ∈ (r.misread c b bad).u.mem.poison := by
  have hp : (r.misread c b bad).u.mem.poison = b :: r.u.mem.poison.filter (· != b) := congrArg MemU.poison (Run.mem_ev _ (e := 448 + c) (by omega))
  rw [hp]
  exact List.mem_cons_self

theorem Run.log_misread (r : Run s₀) {c : Nat} (b : Nat) (bad : List (Nat × Nat)) (hc : c < 16) :
    (r.misread c b bad).u.evt.log = r.u.evt.log := Run.log_ev _ (e := 448 + c) (by omega)

theorem State.KeepsBut.misread {r : Run s₀} (H : s.KeepsBut r.st p m h) {c : Nat} (b : Nat) (bad : List (Nat × Nat)) (hc : c < 16)
    (hu : p (MEM_CH_ERR_UE c).key = true) (ha : p MEM_UE_ADDR_ADDR.key = true) (hh : forgetsCh h)
    (hp : ∀ (u : Units) (l : List Nat), h { u with mem := { u.mem with poison := l } }.quiet = h u.quiet) :
    s.KeepsBut (r.misread c b bad).st p m h :=
  ((((H.memu _ fun u => hp u _).sat _ 1 (.inl hu)).wr _ _ (.inl ha)).ev (by omega)).memMod c _ hh

/-- What a bad read showed stays when the channel retires for it. -/
theorem Run.rd_channelRetire (r : Run s₀) {c : Nat} (detector block : Nat) (hc : c < 16) (hr : r.retired c = false) {f : Fld}
    (hf : memCtlKey f.key = true) (hs : f.key ≠ (MEM_CH_STATUS_STATE c).key) (hret : f.key ≠ MEM_CFG_RETIRED.key)
    (hq : f.key ≠ MEM_RETRAIN_REQ.key) : (r.channelRetire c detector block).rd f = r.rd f := by
  rw [(r.spares_channelRetire detector block hr).rd f hf]
  simp only [memCtlKey, Bool.and_eq_true, decide_eq_true_eq] at hf
  exact r.rd_channelOut detector block hc hf.1.1 hf.1.2 hs hret hq

theorem Run.poison_channelRetire (r : Run s₀) {c : Nat} (detector block : Nat) (hc : c < 16) (hr : r.retired c = false) :
    (r.channelRetire c detector block).u.mem.poison = r.u.mem.poison := by
  rw [(r.spares_channelRetire detector block hr).mem, r.mem_channelOut detector block hc]

theorem Run.seen_channelRetire (r : Run s₀) {c : Nat} (detector block : Nat) (hc : c < 16) (hr : r.retired c = false) :
    (r.channelRetire c detector block).st.seen (448 + c) = true :=
  (r.spares_channelRetire detector block hr).seen _ (by omega) (r.seen_channelOut detector block hc)

theorem Run.logged_channelRetire (r : Run s₀) {c : Nat} (detector block : Nat) (hc : c < 16) (hr : r.retired c = false)
    (hs : r.u.evt.log = s.u.evt.log) : s.logged (r.channelRetire c detector block).st 5 c 2 detector 4 = true :=
  r.logged_retireRecord c detector block hs
    ((r.spares_channelRetire detector block hr).log.trans (r.log_channelOut detector block hc))

/-! ## The channels' commands -/

/-- Settles O40: an access, a retraining step and a retirement are each read off the operations they are made of; a second
retirement may stop a record, which spares the controller. -/
theorem dramChannels : Obligations.DramChannels := by
  unfold Obligations.DramChannels
  refine ⟨?idle, ?sent, fun bank q busy waited turn m => pickRequest_spec, ?waits, ?issues, ?bad, ?starts, ?due, ?passes, ?fails, ?retires⟩
  case idle =>
    rintro s c bank l busy waited ok last res st rfl
    refine ⟨fun h2 h3 => ⟨?_, ?_⟩, fun h2 => ?_, fun h3 => ?_⟩
    · simp [exec_blockAccess, Run.blockAccess, h2, h3]
    · simp [exec_refresh, h2, h3]
    · simp [exec_driftCheck, h2]
    · simp [exec_retrainStepDone, Run.retrainStep, h3]
  case sent =>
    intro s c bank h2
    refine ⟨⟨_, exec_refresh s c bank, ?_⟩, _, exec_driftCheck s c, ?_⟩
    · rw [if_pos (.inl h2)]
      exact ⟨rfl, (State.KeepsBut.refl s).emit _⟩
    · rw [if_pos h2]
      exact ⟨rfl, (State.KeepsBut.refl s).emit _⟩
  case waits =>
    intro s c l busy waited res x hs hx hp
    have hx := ((Run.start s).memCh_arrive c (requests l)).trans hx.symm
    refine ⟨_, exec_blockAccess s c l busy waited res, ?_⟩
    rw [Run.blockAccess_waits (Run.start s) hs hx hp]
    exact ⟨hx, rfl, (State.KeepsBut.start s).arrive _ _ fun _ _ => rfl⟩
  case issues =>
    intro s c l busy waited turn res x m bank row b v nb hs hx hp hbank hrow hb hv hnb hw
    have hx := ((Run.start s).memCh_arrive c (requests l)).trans hx.symm
    refine ⟨_, exec_blockAccess s c l busy waited res, ?_⟩
    rw [Run.blockAccess_issues (Run.start s) hs hx hp]
    refine ⟨?_, ?_, ?_, State.KeepsBut.accessEnds ?_ hw (own_mem (by simp))⟩
    · rw [Run.out_accessEnds _ hw, Run.out_issue, hx, hnb, hv, hb, hrow, hbank]
      rfl
    · rw [Run.memCh_restart, Run.memCh_accessEnds _ _ hw, Run.memCh_issue, hx, hv]
      rfl
    · rw [Run.rd_st, Run.linkCe_accessEnds _ hw, Run.rd_issue]
      rfl
    · exact ((State.KeepsBut.start s).arrive _ _ fun _ _ => rfl).issue _ _ _ fun _ _ => rfl
  case starts =>
    intro s v c hd hn h2 hb hlow
    refine ⟨_, exec_memRetrain s v, ?_⟩
    rw [Run.writeRetrainReq_starts (Run.start s) hd hn c.isLt h2 hb hlow]
    refine ⟨?_, Run.rd_wr_same _ _ _, ?_, ?_, ?_, ?_⟩
    · rw [Run.rd_st, Run.retrainStarts, Run.rd_wr_ne _ _ (by simp; omega)]
      exact (Run.start s).req_retrainAsked v hd
    · exact (Run.start s).due_retrainStarts v c hd hn
    · rw [Run.memCh_restart, Run.memCh_retrainStarts]
    · rw [Run.memCh_restart, Run.memCh_retrainStarts]
    · exact ((State.KeepsBut.start s).retrainAsked v hd (own_mem (by simp)) fun _ _ => rfl).retrainStarts c.val (own_mem (by simp))
        (fun _ _ => rfl) fun _ _ => rfl
  case due =>
    intro s v c hd h3
    refine ⟨_, exec_memRetrain s v, ?_⟩
    rw [Run.writeRetrainReq_waits (Run.start s) hd c.isLt h3]
    refine ⟨(Run.start s).req_retrainAsked v hd, ((Run.start s).due_retrainAsked v hd).trans ?_,
      (State.KeepsBut.start s).retrainAsked v hd (own_mem (by simp)) fun _ _ => rfl⟩
    rw [asked, List.filter_filter]
    simp [Bool.and_comm]
  case passes =>
    intro s c last x h3 hx hd hreq
    refine ⟨_, exec_retrainStepDone s c true last, ?_⟩
    have hd1 : ((Run.start s).stepped c).u.mem.due = [] := hd
    by_cases hend : last = true ∨ 7 ≤ x.steps
    · rw [(Run.start s).retrainStep_ok last h3, if_pos (hx ▸ hend)]
      refine ⟨Run.out_retrained _ hd1, ?_, fun hl h7 => absurd hend (by simp [hl, h7]), fun _ => ?_⟩
      · rw [Run.memCh_restart, Run.memCh_retrained _ _ hd1, Run.memCh_stepped, hx]
      · obtain ⟨hst, hbit, hcount, htemp⟩ := Run.retrained_reads _ hd1 c.isLt hreq
        refine ⟨hst, hbit, hcount, htemp, ?_⟩
        exact ((State.KeepsBut.start s).stepped c.val fun _ _ => rfl).retrained hd1 (fun f => own_mem) fun _ _ => rfl
    · rw [(Run.start s).retrainStep_ok last h3, if_neg (hx ▸ hend)]
      refine ⟨rfl, ?_, fun _ _ => (State.KeepsBut.start s).stepped c.val fun _ _ => rfl, fun he => absurd he hend⟩
      rw [Run.memCh_restart, Run.memCh_stepped, hx]
  case fails =>
    intro s c last x h3 hx h0
    refine ⟨_, exec_retrainStepDone s c false last, ?_⟩
    rw [(Run.start s).retrainStep_failed last h3, if_neg (by rw [← hx, h0]; omega)]
    have hc : 448 + c.val < 512 := by omega
    have hk : eventKey (MEM_CH_ERR_TRAIN_FAIL c).key = false := by
      have := c.isLt
      rw [MEM_CH_ERR_TRAIN_FAIL_key]; exact eventKey_memCtl (by omega) (by omega)
    refine ⟨?_, Run.seen_ev _ hc hc (.inl rfl), ?_, ?_⟩
    · rw [Run.memCh_restart, Run.memCh_ev _ _ hc, Run.memCh_stepFailed, Run.memCh_stepped, ← hx, h0]
    · rw [Run.rd_st, Run.rd_ev _ hc hk]
      exact Run.rd_sat_same _ _ 1
    · exact (((State.KeepsBut.start s).stepped c.val fun _ _ => rfl).stepFailed (own_mem (by simp)) fun _ _ => rfl).ev hc
  case retires =>
    intro s c last h3 hf hr hd
    have hrd : ∀ f : Fld, f.key ≠ (MEM_CH_ERR_TRAIN_FAIL c).key → (((Run.start s).stepped c).stepFailed c).rd f = s.rd f :=
      fun f hk => ((Run.start s).stepped c).rd_sat_ne 1 hk
    have hdue : (((Run.start s).stepped c).stepFailed c).u.mem.due = [] := hd
    have hlog : (((Run.start s).stepped c).stepFailed c).u.evt.log = s.u.evt.log := rfl
    have hkeep : s.Keeps (((Run.start s).stepped c).stepFailed c).st (fun k => retireKey k || own [MEM_CH_STATUS_STATE c, MEM_CFG_RETIRED,
        MEM_RETRAIN_REQ, MEM_CH_ERR_TRAIN_FAIL c, MAG_PARITY_STATUS_OUT_CH, MAG_PARITY_STATUS_OUT_VALID] k)
        fun u => { u with mem := { u.mem with ch := [] }, evt := {} } :=
      ((State.KeepsBut.start s).stepped c.val fun _ _ => rfl).stepFailed (by rw [own_mem (by simp), Bool.or_true]) fun _ _ => rfl
    refine ⟨_, exec_retrainStepDone s c false last, ?_⟩
    rw [(Run.start s).retrainStep_failed last h3, if_pos hf]
    generalize ((Run.start s).stepped c).stepFailed c = r at hrd hdue hlog hkeep ⊢
    have hret : r.rd MEM_CFG_RETIRED = 0 := (hrd _ (by simp; omega)).trans hr
    have hmem := r.mem_channelOut 2 0 c.isLt
    rw [r.channelRetire_first c 2 0 hret, Run.retrainNext_of_none_due _ (by rw [hmem]; simp [hdue])]
    refine ⟨r.state_channelOut 2 0 c.isLt, ?_, ?_, r.seen_channelOut 2 0 c.isLt, r.logged_retireRecord c 2 0 hlog (r.log_channelOut 2 0 c.isLt), ?_, ?_⟩
    · rw [Run.rd_st, r.retired_channelOut 2 0 c.isLt, hret, Nat.zero_or, Nat.mod_eq_of_lt (Nat.pow_lt_pow_right (by omega) c.isLt)]
    · rw [Run.memCh_restart, Run.memCh, hmem, Tab.look_put_same]
    · exact fun hv => r.out_channelOut 2 0 c.isLt ((hrd _ (by simp [show MAG_PARITY_STATUS_OUT_VALID.key = 0x1302000 * 8 + 4 from rfl]; omega)).trans hv)
    · refine hkeep.channelOut 2 0 c.isLt (fun k hk => by simp [hk]) (fun f hf => ?_) hdue (fun _ _ => rfl) fun _ _ => rfl
      rw [own_mem (by simp at hf ⊢; tauto), Bool.or_true]
  case bad =>
    intro s c busy waited turn q b bad hs hret hp hw hb hch hrec hbad
    have hc : c.val < 16 := c.isLt
    let r := ((Run.start s).arrive c []).issue c q turn
    have hrd : ∀ f, r.rd f = s.rd f := Run.rd_issue _ c q turn
    have hlog : r.u.evt.log = s.u.evt.log := by
      obtain ⟨ch, hu⟩ := Run.u_issue ((Run.start s).arrive c []) c q turn
      exact congrArg (fun u => u.evt.log) hu
    have hrun : (Run.start s).blockAccess c [] (busy.map Fin.val) waited 3
        = (r.misread c b bad).when (decide (4 ≤ bad.length)) fun r => r.channelRetire c 1 b := by
      rw [show bad = (Run.start s).badBlocks c b from hbad]
      exact (Run.start s).blockAccess_bad hc hs hp hw hb hch hrec
    have hkeep : s.Keeps (r.misread c b bad).st (own [MEM_CH_ERR_UE c, MEM_UE_ADDR_ADDR])
        fun u => { u with mem := { u.mem with ch := [], poison := [] } } :=
      (((State.KeepsBut.start s).arrive _ _ fun _ _ => rfl).issue _ _ _ fun _ _ => rfl).misread b bad hc (own_mem (by simp)) (own_mem (by simp))
        (fun _ _ => rfl) fun _ _ => rfl
    obtain ⟨hue, haddr, hseen⟩ := r.misread_reads b bad hc
    rw [hrd] at hue
    have hpoison := r.poison_misread b bad hc
    have hqlog := (r.log_misread b bad hc).trans hlog
    have hstate : (r.misread c b bad).rd (MEM_CH_STATUS_STATE c) = s.rd (MEM_CH_STATUS_STATE c) :=
      (r.rd_misread b bad hc (eventKey_memCtl (by simp; omega) (by simp; omega)) (by simp; omega) (by simp; omega)).trans (hrd _)
    have hqret : (r.misread c b bad).retired c = false := by
      rw [Run.retired, r.rd_misread b bad hc (by decide) (by simp; omega) (by simp), hrd, hret]
    have hqbad : ((r.misread c b bad).memCh c).bad = bad := congrArg MemCh.bad (Run.memCh_memMod _ c.val _)
    refine ⟨_, exec_blockAccess s c [] busy waited 3, ?_⟩
    rw [show requests [] = [] from rfl, show ((3 : Fin 4) : Nat) = 3 from rfl, hrun]
    generalize r.misread c b bad = q' at *
    by_cases h4 : 4 ≤ bad.length
    · rw [decide_eq_true h4, Run.when_true]
      obtain ⟨hst, hbit⟩ := q'.channelRetire_reads 1 b hc hqret
      refine ⟨?_, ?_, q'.seen_channelRetire 1 b hc hqret, ?_, fun hlt => absurd h4 (by omega), fun _ => ⟨hst, hbit, q'.logged_channelRetire 1 b hc hqret hqlog⟩⟩
      · exact (q'.rd_channelRetire 1 b hc hqret (memCtlKey_ue hc) (by simp; omega) (by simp; omega) (by simp; omega)).trans hue
      · exact (q'.rd_channelRetire 1 b hc hqret (by decide) (by simp; omega) (by simp) (by simp)).trans haddr
      · exact (q'.poison_channelRetire 1 b hc hqret).symm ▸ hpoison
    · rw [decide_eq_false h4, Run.when_false]
      exact ⟨hue, haddr, hseen, hpoison, fun _ => ⟨hqbad, hstate, hkeep⟩, fun h => absurd h h4⟩

end Sys2Proof.Machine
end

section
/-!
Five more statements that a concrete state refutes.
-/
namespace Sys2Proof.Machine

/-! ## A request for host memory that waits for Bus Master Enable (R293) -/

/-- A device whose PCIe link is up while Bus Master Enable is 0: one request, a message, waits for it in order. -/
def gatedMessage : State :=
  State.reset.modify fun u => { u with glb := { u.glb with linkUp := true }, qif := { u.qif with gated := [.msix 0] } }

/-- Refutes O13: its sixth clause keeps the units but Bus Master Enable and the power state, but when requests may go out those
that waited leave as well (R293, `Run.toHostAll`). In `gatedMessage` a configuration request that sets Bus Master Enable empties
the list of waiting requests, which the clause says is kept. -/
theorem not_pcieAndBar2 : ¬ Obligations.PcieAndBar2 := by
  rintro ⟨-, -, -, -, -, request, -⟩
  obtain ⟨t, ht, -, -, -, -, -, -, -, -, hunits⟩ := request gatedMessage true false rfl
  have hkept : t.u.qif.gated = [.msix 0] := congrArg (fun u => u.qif.gated) hunits
  rw [eq_st_of_exec rfl ht] at hkept
  exact absurd hkept (by decide +kernel)

/-! ## A warm trigger in recovery (R43) -/

/-- A device that waits in recovery: its firmware does not run, but it has left the phases in which a warm trigger only records
its cause. -/
def inRecovery : State := State.reset.modify fun u => { u with glb := { u.glb with phase := .recovery } }

/-- Refutes O14: its tenth clause lets WARM with the key change nothing but its cause outside the phases of `State.runs`, but a warm
trigger only records its cause in the phases before firmware runs: held, the root PLL's lock, the firmware's load, the test halt
(`Run.warmTrigger`, assumption 26). In recovery it starts the warm sequence, and GLB_BOOT_STATUS.WARM, which the clause says is
kept, becomes 1. -/
theorem not_resets : ¬ Obligations.Resets := by
  rintro ⟨-, -, -, -, -, -, -, -, -, idle, -⟩
  obtain ⟨t, ht, -, hkeep, -⟩ := idle inRecovery rfl
  have hkept : t.rd GLB_BOOT_STATUS_WARM = 0 := (hkeep _ (by decide +kernel) (by decide +kernel)).1.trans (by decide +kernel)
  rw [eq_st_of_exec rfl ht] at hkept
  exact absurd hkept (by decide +kernel)

/-! ## A stopped segment while the drives drain (Table 02-5) -/

/-- A segment whose stop point is set, with nothing left to append and no manifest yet. -/
def stoppedSegment : Seg := { mag := 0, clip := 0, seg := 0, g0 := 0, stop := some 0 }

/-- A device in the drive drain of a warm reset that is stopping a record on magazine 0 of one ring, with one segment left to
finish. -/
def drainingRecord : State :=
  (State.reset.wr MAG_REC_STATUS_STATE 3).modify fun u =>
    { u with glb := { u.glb with phase := .warmDrain }
             magu := { u.magu with segs := [stoppedSegment], mag := [(0, { geo := [⟨0, 1, 0, [0]⟩] })] } }

/-- Refutes O24: its second clause gives a stopped segment its manifest and its last stripe whenever warden duty 1 is done, which it
is in the drive drain too, but no stripe is issued there (`Run.stripeIssue`). In `drainingRecord` STRIPE_ISSUE changes nothing, where
the clause says that one more stripe is issued. The clause lacks its first one's premise that the drain has not begun. -/
theorem not_stripesAndIdentification : ¬ Obligations.StripesAndIdentification := by
  rintro ⟨-, stopped, -⟩
  obtain ⟨t, ht, hissued, -⟩ := stopped drainingRecord stoppedSegment ((Run.start drainingRecord).stripeBytes 0) rfl
    (by decide +kernel) (by decide +kernel) (by decide +kernel) rfl rfl rfl rfl rfl rfl rfl (by decide) rfl (by decide +kernel)
    (by decide +kernel) (by decide +kernel) (by decide +kernel)
  rw [eq_st_of_exec rfl ht] at hissued
  exact absurd hissued (by decide +kernel)

/-! ## A queue number beyond the queues (R308) -/

/-- A CREATE_QUEUE of the admin queue that names queue 8192, all its other fields 0. -/
def createBeyondQueues : Cmd :=
  { q := 0, urgent := false, started := true, entry := 3 :: List.replicate 24 0 ++ [0x20] ++ List.replicate 38 0 }

/-- A device that executes `createBeyondQueues` while the admin queue completes to vector 1, which is masked as after reset. No
command leads there: a CREATE_QUEUE whose queue number is above 63 completes with 33 before it is executed. -/
def creatingBeyondQueues : State :=
  (State.reset.wr (QIF_Q_STATUS_VECTOR 0) 1).modify fun u => { u with qif := { u.qif with cmds := [createBeyondQueues] } }

/-- Refutes O20: its eighth clause holds for every queue number, but the word where QIF_Q_STATUS of queue 8192 would stand is the
low one of QIF_PBA, where the masked message of the command's own completion waits (R300). In `creatingBeyondQueues` STATE of
queue 8192 therefore reads 3, where the clause says 1. The clause lacks the premise that the queue number is at most 63. -/
theorem not_adminCommands : ¬ Obligations.AdminCommands := by
  rintro ⟨-, -, -, -, -, -, -, create, -⟩
  obtain ⟨t, ht, -, hstate, -⟩ := create creatingBeyondQueues createBeyondQueues 8192 (by decide +kernel) (by decide +kernel)
    (by decide) (by decide +kernel) (by decide +kernel) (by decide +kernel)
  rw [eq_st_of_exec rfl ht] at hstate
  exact absurd hstate (by decide +kernel)

/-! ## A monitor line that waits for the firmware's replacement (R62, R413) -/

/-- An ACTIVATE_FIRMWARE on the admin queue, the only command that was fetched. -/
def activateCommand : Cmd := { q := 0, urgent := false, started := true, running := true, entry := 9 :: List.replicate 63 0 }

/-- A running device whose firmware is being replaced, with an empty line of the monitor that arrived meanwhile: the monitor's duty
stops during the replacement, and the line waits. -/
def replacingFirmware : State :=
  State.reset.modify fun u => { u with
    glb := { u.glb with phase := .run, change := .activate, job := some (0, 0) }
    qif := { u.qif with cmds := [activateCommand] }
    mon := { u.mon with held := [[]] } }

/-- Refutes O17: its sixteenth clause keeps the monitor, but when the previous firmware runs again the duties of the warden cores
resume, and the monitor answers the lines that waited (R413, `Run.monResume`). In `replacingFirmware` the rollback empties the list
of waiting lines, which the clause says is kept. -/
theorem not_loads : ¬ Obligations.Loads := by
  rintro ⟨-, -, -, -, -, -, -, -, -, -, -, -, -, -, -, rollback⟩
  obtain ⟨t, ht, -, -, -, -, -, -, -, -, -, hunits⟩ := rollback replacingFirmware [] activateCommand 0 rfl (by decide +kernel) rfl
    (by decide +kernel) rfl rfl
  have hkept : t.u.mon.held = [[]] := congrArg (fun u => u.mon.held) hunits
  rw [eq_st_of_exec rfl ht] at hkept
  exact absurd hkept (by decide +kernel)

end Sys2Proof.Machine
end

section
/-!
Reference clocks: a loss, a switch, a return and the preference (R36, R37, R38).
-/
namespace Sys2Proof.Machine
variable {s₀ s : State} {p m : Nat → Bool} {h : Units → Units}

/-! ## The two reference bits and the evaluation of the switching rules -/

theorem refOk_w (n : Nat) : (refOk n).w = 1 := by
  unfold refOk; split <;> rfl

/-- A register that is neither A_OK nor B_OK is no reference's bit. -/
theorem key_ne_refOk {f : Fld} (ha : f.key ≠ CLK_REF_STATUS_A_OK.key) (hb : f.key ≠ CLK_REF_STATUS_B_OK.key) (n : Nat) :
    f.key ≠ (refOk n).key := by
  unfold refOk; split <;> assumption

theorem refOk_other_key {n : Nat} (hn : n < 2) : (refOk (1 - n)).key ≠ (refOk n).key := by
  interval_cases n <;> decide

theorem eventKey_refOk (n : Nat) : eventKey (refOk n).key = false := by
  unfold refOk; split <;> decide

/-- Whether the rules ask for a switch (R37, R38). -/
def Run.asksSwitch (r : Run s₀) : Bool :=
  r.on (refOk r.otherRef) && ((r.on CLK_REF_STATUS_HOLDOVER && r.on CLK_REF_CTL_AUTO_SWITCH)
    || (r.on CLK_REF_CTL_REVERT && r.rd CLK_REF_CTL_PREF == r.otherRef) || r.u.glb.refSwitching)

@[simp] theorem Run.rd_refEval (r : Run s₀) (f : Fld) : r.refEval.rd f = r.rd f := rfl

theorem Run.switching_refEval (r : Run s₀) : r.refEval.u.glb.refSwitching = r.asksSwitch := rfl

theorem State.KeepsBut.refEval {r : Run s₀} (H : s.KeepsBut r.st p m h)
    (hh : ∀ (u : Units) (b : Bool), h { u with glb := { u.glb with refSwitching := b } }.quiet = h u.quiet) :
    s.KeepsBut r.refEval.st p m h := H.glb _ fun u => hh u _

/-- Where the rules ask for what is under way the evaluation changes nothing. -/
theorem Run.refEval_of_asks (r : Run s₀) (ha : r.asksSwitch = r.u.glb.refSwitching) : r.refEval.u = r.u := by
  have hu : r.refEval.u = { r.u with glb := { r.u.glb with refSwitching := r.asksSwitch } } := rfl
  rw [hu, ha]

theorem State.KeepsBut.refEval_of_asks {r : Run s₀} (H : s.KeepsBut r.st p m h) (ha : r.asksSwitch = r.u.glb.refSwitching) :
    s.KeepsBut r.refEval.st p m h :=
  ⟨H.1, H.2.1, H.2.2.1, H.2.2.2.1, by
    rw [show r.refEval.st.u = r.st.u from r.refEval_of_asks ha]
    exact H.2.2.2.2⟩

theorem Run.switching_ev (r : Run s₀) {e : Nat} (he : e < 512) : (r.ev e).u.glb.refSwitching = r.u.glb.refSwitching :=
  congrArg (fun u => u.glb.refSwitching) (r.quiet_ev he)

/-! ## The commands in their cases -/

/-- The PLL in holdover after its reference is lost (R36). -/
def Run.enterHoldover (r : Run s₀) (n : Nat) : Run s₀ :=
  ((r.wr (refOk n) 0).wr CLK_REF_STATUS_HOLDOVER 1).wr CLK_REF_STATUS_ROOT_LOCK 0

theorem Run.enterHoldover_reads (r : Run s₀) (n : Nat) : (r.enterHoldover n).rd (refOk n) = 0
    ∧ (r.enterHoldover n).rd CLK_REF_STATUS_HOLDOVER = 1 ∧ (r.enterHoldover n).rd CLK_REF_STATUS_ROOT_LOCK = 0 := by
  refine ⟨?_, ?_, Run.rd_wr_same _ _ _⟩
  · rw [Run.enterHoldover, Run.rd_wr_ne _ _ (key_ne_refOk (by decide) (by decide) n).symm,
      Run.rd_wr_ne _ _ (key_ne_refOk (by decide) (by decide) n).symm, Run.rd_wr_same, Nat.zero_mod]
  · rw [Run.enterHoldover, Run.rd_wr_ne _ _ (by decide), Run.rd_wr_same]; rfl

theorem Run.rd_enterHoldover_ne (r : Run s₀) (n : Nat) {f : Fld} (hn : f.key ≠ (refOk n).key) (hh : f.key ≠ CLK_REF_STATUS_HOLDOVER.key)
    (hl : f.key ≠ CLK_REF_STATUS_ROOT_LOCK.key) : (r.enterHoldover n).rd f = r.rd f := by
  rw [Run.enterHoldover, Run.rd_wr_ne _ _ hl, Run.rd_wr_ne _ _ hh, Run.rd_wr_ne _ _ hn]

theorem State.KeepsBut.enterHoldover (s : State) (n : Nat) :
    s.Keeps ((Run.start s).enterHoldover n).st (own [refOk n, CLK_REF_STATUS_HOLDOVER, CLK_REF_STATUS_ROOT_LOCK]) h :=
  (((State.KeepsBut.start s).wr _ _ (.inl (own_mem (by simp)))).wr _ _ (.inl (own_mem (by simp)))).wr _ _ (.inl (own_mem (by simp)))

/-- The rules after the active reference is lost, in terms of the state before. -/
theorem asksSwitch_enterHoldover {s : State} {n : Nat} (hn : n < 2) (ha : s.rd CLK_REF_STATUS_ACTIVE = n) :
    ((Run.start s).enterHoldover n).asksSwitch = (s.rd (refOk (1 - n)) != 0 && (s.rd CLK_REF_CTL_AUTO_SWITCH != 0
      || (s.rd CLK_REF_CTL_REVERT != 0 && s.rd CLK_REF_CTL_PREF == 1 - n) || s.u.glb.refSwitching)) := by
  have hrd : ∀ f : Fld, f.key ≠ (refOk n).key → f.key ≠ CLK_REF_STATUS_HOLDOVER.key → f.key ≠ CLK_REF_STATUS_ROOT_LOCK.key →
      ((Run.start s).enterHoldover n).st.rd f = s.rd f := fun f => Run.rd_enterHoldover_ne _ n
  have hhold : ((Run.start s).enterHoldover n).st.rd CLK_REF_STATUS_HOLDOVER = 1 := (Run.enterHoldover_reads _ n).2.1
  have hother : ((Run.start s).enterHoldover n).otherRef = 1 - n :=
    congrArg (1 - ·) ((hrd _ (key_ne_refOk (by decide) (by decide) n) (by decide) (by decide)).trans ha)
  have hok := hrd _ (refOk_other_key hn) (key_ne_refOk (by decide) (by decide) _).symm (key_ne_refOk (by decide) (by decide) _).symm
  simp only [Run.asksSwitch, hother, Run.on, Run.rd, hhold, hok, hrd CLK_REF_CTL_AUTO_SWITCH (key_ne_refOk (by decide) (by decide) n) (by decide) (by decide),
    hrd CLK_REF_CTL_REVERT (key_ne_refOk (by decide) (by decide) n) (by decide) (by decide),
    hrd CLK_REF_CTL_PREF (key_ne_refOk (by decide) (by decide) n) (by decide) (by decide)]
  rfl

/-- REFERENCE_LOST of the active reference of a locked PLL (R36, R37). -/
theorem exec_referenceLost_active {s : State} {n : Fin 2} (hl : s.rd CLK_REF_STATUS_ROOT_LOCK = 1) (ha : s.rd CLK_REF_STATUS_ACTIVE = n) :
    exec (.referenceLost n) s = .next (if ((Run.start s).enterHoldover n).asksSwitch = true then ((Run.start s).enterHoldover n).refEval
      else ((Run.start s).enterHoldover n).refEval.ev 2).st := by
  have hl' : ((Run.start s).wr (refOk n) 0).st.rd CLK_REF_STATUS_ROOT_LOCK = 1 :=
    (Run.rd_wr_ne _ _ (key_ne_refOk (by decide) (by decide) n)).trans hl
  have ha' : ((Run.start s).wr (refOk n) 0).rd CLK_REF_STATUS_ACTIVE = n :=
    (Run.rd_wr_ne _ _ (key_ne_refOk (by decide) (by decide) n)).trans ha
  have hcond : (((Run.start s).wr (refOk n) 0).on CLK_REF_STATUS_ROOT_LOCK
      && ((Run.start s).wr (refOk n) 0).rd CLK_REF_STATUS_ACTIVE == n.val) = true := by
    simp [Run.on, hl', ha']
  exact congrArg (fun r : Run s => Host.Outcome.next r.st) (if_pos hcond)

/-- REFERENCE_LOST of the reference not in use. -/
theorem exec_referenceLost_other {s : State} {n : Fin 2} (ha : s.rd CLK_REF_STATUS_ACTIVE = 1 - n) (hsw : s.u.glb.refSwitching = false) :
    exec (.referenceLost n) s = .next ((Run.start s).wr (refOk n) 0).refEval.st := by
  have ha' : ((Run.start s).wr (refOk n) 0).rd CLK_REF_STATUS_ACTIVE ≠ n := by
    rw [Run.rd_wr_ne _ _ (key_ne_refOk (by decide) (by decide) n), Run.rd_start, ha]; omega
  have hcond : ¬ (((Run.start s).wr (refOk n) 0).on CLK_REF_STATUS_ROOT_LOCK
      && ((Run.start s).wr (refOk n) 0).rd CLK_REF_STATUS_ACTIVE == n.val) = true := by
    simp [ha']
  refine congrArg (fun r : Run s => Host.Outcome.next r.st) ((if_neg hcond).trans ?_)
  simp [hsw]

/-- REFERENCE_SWITCH up to the evaluation that follows it. -/
def Run.switched (r : Run s₀) : Run s₀ :=
  (((((r.wr CLK_REF_STATUS_ACTIVE r.otherRef).wr CLK_REF_STATUS_HOLDOVER 0).wr CLK_REF_STATUS_ROOT_LOCK 1).sat CLK_REF_STATUS_SWITCH_COUNT).glb
    fun g => { g with refSwitching := false }).ev 1

theorem exec_referenceSwitch {s : State} (hsw : s.u.glb.refSwitching = true) :
    exec .referenceSwitch s = .next (Run.start s).switched.refEval.st := by
  refine congrArg (fun r : Run s => Host.Outcome.next r.st) (if_neg ?_)
  simp [hsw]

/-- What the event of a switch leaves: the registers as the switch wrote them. -/
theorem Run.rd_switched (r : Run s₀) {f : Fld} (hf : eventKey f.key = false) : r.switched.rd f
    = ((((r.wr CLK_REF_STATUS_ACTIVE r.otherRef).wr CLK_REF_STATUS_HOLDOVER 0).wr CLK_REF_STATUS_ROOT_LOCK 1).sat CLK_REF_STATUS_SWITCH_COUNT).rd f :=
  Run.rd_ev _ (e := 1) (by omega) hf

theorem Run.switched_reads (r : Run s₀) :
    r.switched.rd CLK_REF_STATUS_ACTIVE = 1 - r.rd CLK_REF_STATUS_ACTIVE ∧ r.switched.rd CLK_REF_STATUS_HOLDOVER = 0
      ∧ r.switched.rd CLK_REF_STATUS_ROOT_LOCK = 1
      ∧ r.switched.rd CLK_REF_STATUS_SWITCH_COUNT = min (r.rd CLK_REF_STATUS_SWITCH_COUNT + 1) 255 := by
  refine ⟨?_, ?_, ?_, ?_⟩ <;> rw [Run.rd_switched _ (by decide)]
  · rw [Run.rd_sat_ne _ _ (by decide), Run.rd_wr_ne _ _ (by decide), Run.rd_wr_ne _ _ (by decide), Run.rd_wr_same]
    exact Nat.mod_eq_of_lt (Nat.lt_of_le_of_lt (Nat.sub_le 1 _) (by decide))
  · rw [Run.rd_sat_ne _ _ (by decide), Run.rd_wr_ne _ _ (by decide), Run.rd_wr_same]; rfl
  · rw [Run.rd_sat_ne _ _ (by decide), Run.rd_wr_same]; rfl
  · rw [Run.rd_sat_same, Run.rd_wr_ne _ _ (by decide), Run.rd_wr_ne _ _ (by decide), Run.rd_wr_ne _ _ (by decide)]; rfl

/-- Without REVERT no further switch follows the end of one. -/
theorem Run.asksSwitch_switched (r : Run s₀) (hr : r.rd CLK_REF_CTL_REVERT = 0) : r.switched.asksSwitch = false := by
  have hsw : r.switched.u.glb.refSwitching = false := Run.switching_ev _ (e := 1) (by omega)
  have hrev : r.switched.st.rd CLK_REF_CTL_REVERT = 0 := by
    refine (Run.rd_switched r (by decide)).trans (Eq.trans ?_ hr)
    rw [Run.rd_sat_ne _ _ (by decide), Run.rd_wr_ne _ _ (by decide), Run.rd_wr_ne _ _ (by decide), Run.rd_wr_ne _ _ (by decide)]
  have hhold : r.switched.st.rd CLK_REF_STATUS_HOLDOVER = 0 := r.switched_reads.2.1
  simp [Run.asksSwitch, Run.on, hsw, hrev, hhold]

/-- The reference is good again and ends a holdover of its own (R36). -/
def Run.goodAgain (r : Run s₀) (n : Nat) : Run s₀ :=
  (r.wr (refOk n) 1).when (r.on CLK_REF_STATUS_HOLDOVER && r.rd CLK_REF_STATUS_ACTIVE == n && !r.u.glb.refSwitching) fun r =>
    (r.wr CLK_REF_STATUS_HOLDOVER 0).wr CLK_REF_STATUS_ROOT_LOCK 1

theorem exec_referenceGood (s : State) (n : Fin 2) : exec (.referenceGood n) s = .next ((Run.start s).goodAgain n).refEval.st := by
  have hh : ((Run.start s).wr (refOk n) 1).on CLK_REF_STATUS_HOLDOVER = (Run.start s).on CLK_REF_STATUS_HOLDOVER :=
    congrArg (· != 0) (Run.rd_wr_ne _ _ (key_ne_refOk (by decide) (by decide) n))
  have ha : ((Run.start s).wr (refOk n) 1).rd CLK_REF_STATUS_ACTIVE = (Run.start s).rd CLK_REF_STATUS_ACTIVE :=
    Run.rd_wr_ne _ _ (key_ne_refOk (by decide) (by decide) n)
  rw [Run.goodAgain, ← hh, ← ha]
  rfl

theorem Run.refOk_goodAgain (r : Run s₀) (n : Nat) : (r.goodAgain n).rd (refOk n) = 1 := by
  refine (Run.rd_when _ _ ?_).trans ((Run.rd_wr_same _ _ _).trans (by rw [refOk_w]; rfl))
  exact (Run.rd_wr_ne _ _ (key_ne_refOk (by decide) (by decide) n).symm).trans (Run.rd_wr_ne _ _ (key_ne_refOk (by decide) (by decide) n).symm)

/-- A write of PREF that names the reference not in use while both are good switches to it, whatever REVERT says (R38). -/
def Run.preferred (r : Run s₀) (revert auto n : Nat) : Run s₀ :=
  ((r.wr CLK_REF_CTL_REVERT revert).wr CLK_REF_CTL_AUTO_SWITCH auto).wr CLK_REF_CTL_PREF n

theorem Run.writeClk_eq (r : Run s₀) {revert auto n : Nat} (hr : revert < 2) (ha : auto < 2) (hn : n < 2) :
    r.writeClk (revert * 4 + auto * 2 + n) = ((r.preferred revert auto n).when
      ((r.preferred revert auto n).on CLK_REF_STATUS_A_OK && (r.preferred revert auto n).on CLK_REF_STATUS_B_OK
        && n == (r.preferred revert auto n).otherRef) fun r => r.glb fun g => { g with refSwitching := true }).refEval := by
  have h2 : bits (revert * 4 + auto * 2 + n) 2 1 = revert := by simp only [bits]; omega
  have h1 : bits (revert * 4 + auto * 2 + n) 1 1 = auto := by simp only [bits]; omega
  have h0 : bits (revert * 4 + auto * 2 + n) 0 1 = n := by simp only [bits]; omega
  simp only [Run.writeClk, h2, h1, h0, Run.preferred]

theorem Run.preferred_reads (r : Run s₀) {revert auto n : Nat} (hr : revert < 2) (ha : auto < 2) (hn : n < 2) :
    (r.preferred revert auto n).rd CLK_REF_CTL_PREF = n ∧ (r.preferred revert auto n).rd CLK_REF_CTL_REVERT = revert
      ∧ (r.preferred revert auto n).rd CLK_REF_CTL_AUTO_SWITCH = auto := by
  refine ⟨?_, ?_, ?_⟩
  · rw [Run.preferred, Run.rd_wr_same]; exact Nat.mod_eq_of_lt hn
  · rw [Run.preferred, Run.rd_wr_ne _ _ (by decide), Run.rd_wr_ne _ _ (by decide), Run.rd_wr_same]; exact Nat.mod_eq_of_lt hr
  · rw [Run.preferred, Run.rd_wr_ne _ _ (by decide), Run.rd_wr_same]; exact Nat.mod_eq_of_lt ha

theorem State.KeepsBut.preferred (s : State) (revert auto n : Nat) : s.Keeps ((Run.start s).preferred revert auto n).st
    (own [CLK_REF_CTL_PREF, CLK_REF_CTL_REVERT, CLK_REF_CTL_AUTO_SWITCH]) h :=
  (((State.KeepsBut.start s).wr _ _ (.inl (own_mem (by simp)))).wr _ _ (.inl (own_mem (by simp)))).wr _ _ (.inl (own_mem (by simp)))

theorem Run.rd_writeClkSwitch (r : Run s₀) (c : Bool) (f : Fld) :
    ((r.when c fun r => r.glb fun g => { g with refSwitching := true }).refEval).rd f = r.rd f := by
  cases c <;> rfl

/-! ## The statement -/

/-- Settles O12: each command is some register writes and one evaluation of the rules, which changes REFERENCE_SWITCH's flag
only. -/
theorem referenceClocks : Obligations.ReferenceClocks := by
  refine ⟨?lostSwitches, ?lostStays, ?lostOther, ?switch, ?good, ?pref⟩
  case lostSwitches =>
    intro s n hl ha hok hauto
    have hasks : ((Run.start s).enterHoldover n).asksSwitch = true := by
      simp [asksSwitch_enterHoldover n.isLt ha, hok, hauto]
    refine ⟨_, (exec_referenceLost_active hl ha).trans (by rw [if_pos hasks]), ?_⟩
    obtain ⟨hbit, hhold, hlock⟩ := (Run.start s).enterHoldover_reads n
    exact ⟨hbit, hhold, hlock, (Run.rd_enterHoldover_ne _ _ (key_ne_refOk (by decide) (by decide) n) (by decide) (by decide)).trans ha,
      hasks, (State.KeepsBut.enterHoldover s n).refEval fun _ _ => rfl⟩
  case lostStays =>
    intro s n hl ha hno
    have hasks : ((Run.start s).enterHoldover n).asksSwitch = false := by
      rw [asksSwitch_enterHoldover n.isLt ha]
      obtain hbad | ⟨hauto, hrev, hsw⟩ := hno
      · simp [hbad]
      · simp [hauto, hrev, hsw]
    refine ⟨_, (exec_referenceLost_active hl ha).trans (by rw [if_neg (by simp [hasks])]), ?_⟩
    obtain ⟨hbit, hhold, hlock⟩ := (Run.start s).enterHoldover_reads n
    have hrd : ∀ {f : Fld}, eventKey f.key = false → (((Run.start s).enterHoldover n).refEval.ev 2).rd f = ((Run.start s).enterHoldover n).rd f :=
      Run.rd_ev _ (by omega)
    exact ⟨(hrd (eventKey_refOk n)).trans hbit, (hrd (by decide)).trans hhold, (hrd (by decide)).trans hlock,
      (Run.switching_ev _ (by omega)).trans hasks, Run.status_ev _ (by omega) rfl,
      ((State.KeepsBut.enterHoldover s n).refEval fun _ _ => rfl).ev (by omega)⟩
  case lostOther =>
    intro s n ha hhold hrev hsw
    have hrd : ∀ f : Fld, f.key ≠ CLK_REF_STATUS_A_OK.key → f.key ≠ CLK_REF_STATUS_B_OK.key → ((Run.start s).wr (refOk n) 0).st.rd f = s.rd f :=
      fun f hA hB => Run.rd_wr_ne _ _ (key_ne_refOk hA hB n)
    have hasks : ((Run.start s).wr (refOk n) 0).asksSwitch = ((Run.start s).wr (refOk n) 0).u.glb.refSwitching := by
      simp [Run.asksSwitch, Run.on, hrd CLK_REF_STATUS_HOLDOVER (by decide) (by decide), hrd CLK_REF_CTL_REVERT (by decide) (by decide), hhold, hrev, hsw]
    refine ⟨_, exec_referenceLost_other ha hsw, (Run.rd_wr_same _ _ _).trans (Nat.zero_mod _), ?_⟩
    exact ((State.KeepsBut.start s).wr _ _ (.inl (own_mem (by simp)))).refEval_of_asks hasks
  case switch =>
    intro s hsw _
    obtain ⟨hact, hhold, hlock, hcount⟩ := (Run.start s).switched_reads
    refine ⟨_, exec_referenceSwitch hsw, hact, hhold, hlock, hcount, fun hr => Run.asksSwitch_switched _ hr, Run.status_ev _ (by omega) rfl, ?_⟩
    exact (((((((State.KeepsBut.start s).wr _ _ (.inl (own_mem (by simp)))).wr _ _ (.inl (own_mem (by simp)))).wr _ _ (.inl (own_mem (by simp)))).sat
      _ _ (.inl (own_mem (by simp)))).glb _ fun _ => rfl).ev (by omega)).refEval fun _ _ => rfl
  case good =>
    intro s n
    refine ⟨_, exec_referenceGood s n, Run.refOk_goodAgain _ n, fun hhold ha hsw => ?_, fun hhold ha hauto => ?_, ?_⟩
    · have hback : (Run.start s).goodAgain n = (((Run.start s).wr (refOk n) 1).wr CLK_REF_STATUS_HOLDOVER 0).wr CLK_REF_STATUS_ROOT_LOCK 1 := by
        rw [Run.goodAgain, Run.when, if_pos (by simp [Run.on, hhold, ha, hsw])]
      rw [hback]
      exact ⟨(Run.rd_wr_ne _ _ (by decide)).trans (Run.rd_wr_same _ _ _), Run.rd_wr_same _ _ _⟩
    · have hback : (Run.start s).goodAgain n = (Run.start s).wr (refOk n) 1 := by
        rw [Run.goodAgain, Run.when, if_neg (by simp [ha]; omega)]
      have hrd : ∀ f : Fld, f.key ≠ CLK_REF_STATUS_A_OK.key → f.key ≠ CLK_REF_STATUS_B_OK.key → ((Run.start s).wr (refOk n) 1).st.rd f = s.rd f :=
        fun f hA hB => Run.rd_wr_ne _ _ (key_ne_refOk hA hB n)
      have hother : ((Run.start s).wr (refOk n) 1).otherRef = n := by
        have := (hrd CLK_REF_STATUS_ACTIVE (by decide) (by decide)).trans ha
        simp only [Run.otherRef, Run.rd]; omega
      have hok : ((Run.start s).wr (refOk n) 1).st.rd (refOk n) = 1 := by
        rw [← hback]; exact Run.refOk_goodAgain _ n
      refine ⟨?_, ?_⟩
      · rw [hback]
        refine (Run.switching_refEval _).trans ?_
        simp [Run.asksSwitch, Run.on, hother, hok, hrd CLK_REF_STATUS_HOLDOVER (by decide) (by decide), hrd CLK_REF_CTL_AUTO_SWITCH (by decide) (by decide),
          hhold, hauto]
      · rw [hback]
        exact (hrd _ (by decide) (by decide)).trans hhold
    · have hkeep : s.Keeps ((Run.start s).wr (refOk n) 1).st (own [refOk n, CLK_REF_STATUS_HOLDOVER, CLK_REF_STATUS_ROOT_LOCK])
          fun u => { u with glb := { u.glb with refSwitching := false } } := (State.KeepsBut.start s).wr _ _ (.inl (own_mem (by simp)))
      exact (hkeep.when _ fun _ => (hkeep.wr _ _ (.inl (own_mem (by simp)))).wr _ _ (.inl (own_mem (by simp)))).refEval fun _ _ => rfl
  case pref =>
    intro s n hready hrev hauto
    have hrun : exec (.pref n) s = .next ((Run.start s).writeClk (s.rd CLK_REF_CTL_REVERT * 4 + s.rd CLK_REF_CTL_AUTO_SWITCH * 2 + n)).st := by
      refine congrArg (fun r : Run s => Host.Outcome.next r.st) (if_pos ?_)
      simpa [Run.on] using hready
    refine ⟨_, hrun, ?_⟩
    rw [Run.writeClk_eq _ hrev hauto n.isLt]
    have hrd : ∀ f : Fld, f.key ≠ CLK_REF_CTL_REVERT.key → f.key ≠ CLK_REF_CTL_AUTO_SWITCH.key → f.key ≠ CLK_REF_CTL_PREF.key →
        ((Run.start s).preferred (s.rd CLK_REF_CTL_REVERT) (s.rd CLK_REF_CTL_AUTO_SWITCH) n).st.rd f = s.rd f := fun f h1 h2 h3 =>
      (Run.rd_wr_ne _ _ h3).trans ((Run.rd_wr_ne _ _ h2).trans (Run.rd_wr_ne _ _ h1))
    obtain ⟨hP, hR, hA⟩ := (Run.start s).preferred_reads hrev hauto n.isLt
    have hkeep := State.KeepsBut.preferred (h := fun u => { u with glb := { u.glb with refSwitching := false } }) s
      (s.rd CLK_REF_CTL_REVERT) (s.rd CLK_REF_CTL_AUTO_SWITCH) n
    refine ⟨(Run.rd_writeClkSwitch _ _ _).trans hP, (Run.rd_writeClkSwitch _ _ _).trans hR, (Run.rd_writeClkSwitch _ _ _).trans hA, fun ha hb hact => ?_,
      (hkeep.when _ fun _ => hkeep.glb _ fun _ => rfl).refEval fun _ _ => rfl⟩
    generalize (Run.start s).preferred (s.rd CLK_REF_CTL_REVERT) (s.rd CLK_REF_CTL_AUTO_SWITCH) n = r at hrd ⊢
    have hother : r.otherRef = n := by
      have := (hrd CLK_REF_STATUS_ACTIVE (by decide) (by decide) (by decide)).trans hact
      simp only [Run.otherRef, Run.rd]; omega
    have hA := (hrd CLK_REF_STATUS_A_OK (by decide) (by decide) (by decide)).trans ha
    have hB := (hrd CLK_REF_STATUS_B_OK (by decide) (by decide) (by decide)).trans hb
    have hok : r.on (refOk n) = true := by
      unfold refOk; split <;> simp [Run.on, hA, hB]
    rw [Run.when, if_pos (by simp [Run.on, hA, hB, hother])]
    refine (Run.switching_refEval _).trans ?_
    have hok' : (r.glb fun g => { g with refSwitching := true }).on (refOk (r.glb fun g => { g with refSwitching := true }).otherRef) = true := by
      rw [show (r.glb fun g => { g with refSwitching := true }).otherRef = n from hother]; exact hok
    rw [Run.asksSwitch, hok', show (r.glb fun g => { g with refSwitching := true }).u.glb.refSwitching = true from rfl, Bool.or_true, Bool.true_and]

end Sys2Proof.Machine
end

section
/-!
The UARTs and the SMBus target (R69, R70).
-/
namespace Sys2Proof.Machine
variable {s₀ s : State} {p m : Nat → Bool} {h : Units → Units}

/-! ## The FIFOs of a UART and the causes of event 27 -/

@[simp] theorem GLB_UART_STATUS_TX_LEVEL_key (u : Nat) : (GLB_UART_STATUS_TX_LEVEL u).key = (0x180C + 0x100 * u) * 8 := rfl
@[simp] theorem GLB_UART_STATUS_RX_LEVEL_key (u : Nat) : (GLB_UART_STATUS_RX_LEVEL u).key = (0x180C + 0x100 * u) * 8 + 16 := rfl
@[simp] theorem GLB_UART_STATUS_RX_READY_key (u : Nat) : (GLB_UART_STATUS_RX_READY u).key = (0x180C + 0x100 * u) * 8 + 28 := rfl
@[simp] theorem GLB_UART_STATUS_RX_OVERRUN_key (u : Nat) : (GLB_UART_STATUS_RX_OVERRUN u).key = (0x180C + 0x100 * u) * 8 + 29 := rfl
@[simp] theorem GLB_UART_STATUS_FRAMING_key (u : Nat) : (GLB_UART_STATUS_FRAMING u).key = (0x180C + 0x100 * u) * 8 + 30 := rfl
@[simp] theorem GLB_UART_STATUS_TX_OVF_key (u : Nat) : (GLB_UART_STATUS_TX_OVF u).key = (0x180C + 0x100 * u) * 8 + 31 := rfl
@[simp] theorem GLB_UART_THRESH_RX_THRESH_key (u : Nat) : (GLB_UART_THRESH_RX_THRESH u).key = (0x1810 + 0x100 * u) * 8 := rfl

/-- No event changes a register of the UARTs. -/
theorem eventKey_uart {k : Nat} (hlo : 0x1800 * 8 ≤ k) (hhi : k < 0x1C00 * 8) : eventKey k = false := by
  have hpba : QIF_PBA.key = 0x1521000 * 8 := rfl
  have htrace : MON_STATUS_TRACE.key = 0x1B00004 * 8 + 7 := rfl
  have hpending : GLB_SMB_STATUS_PENDING.key = 0x1C00 * 8 := rfl
  simp only [eventKey, Bool.or_eq_false_iff, Bool.and_eq_false_iff, decide_eq_false_iff_not, beq_eq_false_iff_ne]
  omega

theorem Run.uartIs_uartSet (r : Run s₀) (u : Nat) (x : Uart) : (r.uartSet u x).st.UartIs u x :=
  ⟨Tab.look_put_same _ _ _ _, (Run.rd_wr_ne _ _ (by simp)).trans (Run.rd_wr_same _ _ _), Run.rd_wr_same _ _ _⟩

theorem State.KeepsBut.uartSet {r : Run s₀} (H : s.KeepsBut r.st p m h) (u : Nat) (x : Uart)
    (ht : p (GLB_UART_STATUS_TX_LEVEL u).key = true) (hr : p (GLB_UART_STATUS_RX_LEVEL u).key = true)
    (hh : ∀ (v : Units) (t : Tab Uart), h { v with glb := { v.glb with uarts := t } }.quiet = h v.quiet) :
    s.KeepsBut (r.uartSet u x).st p m h :=
  ((H.glb _ fun v => hh v _).wr _ _ (.inl ht)).wr _ _ (.inl hr)

/-- What a change of UART u's FIFOs keeps. -/
abbrev State.KeepsUart (s t : State) (u : Nat) : Prop :=
  s.Keeps t (own [GLB_UART_STATUS_TX_LEVEL u, GLB_UART_STATUS_RX_LEVEL u]) fun v => { v with glb := { v.glb with uarts := [] } }

theorem State.KeepsUart.uartSet {r : Run s} {u : Nat} (H : s.KeepsUart r.st u) (x : Uart) : s.KeepsUart (r.uartSet u x).st u :=
  State.KeepsBut.uartSet H u x (own_mem (by simp)) (own_mem (by simp)) fun _ _ => rfl

theorem Run.rd_uartSet (r : Run s₀) (u : Nat) (x : Uart) {f : Fld} (ht : f.key ≠ (GLB_UART_STATUS_TX_LEVEL u).key)
    (hr : f.key ≠ (GLB_UART_STATUS_RX_LEVEL u).key) : (r.uartSet u x).rd f = r.rd f := by
  rw [Run.uartSet, Run.rd_wr_ne _ _ hr, Run.rd_wr_ne _ _ ht]
  rfl

theorem Run.rd_uartCause (r : Run s₀) {f g : Fld} (hg : eventKey g.key = false) (hne : g.key ≠ f.key) :
    (r.uartCause f).rd g = r.rd g := by
  have hset : (r.hwSet f 1).rd g = r.rd g := Run.rd_wr_ne _ _ hne
  unfold Run.uartCause
  split
  · exact hset
  · exact (Run.rd_ev _ (by omega) hg).trans hset

/-- A cause that was 0 is 1 and its event has occurred (R69). -/
theorem Run.uartCause_rises (r : Run s₀) {f : Fld} (hf : f.w = 1) (he : eventKey f.key = false) (h0 : r.st.rd f = 0) :
    (r.uartCause f).st.rd f = 1 ∧ (r.uartCause f).st.seen 27 = true := by
  have hset : (r.hwSet f 1).rd f = 1 := (Run.rd_wr_same _ _ _).trans (by rw [show (r.evt _).rd f = 0 from h0, hf]; rfl)
  have hcause : r.uartCause f = (r.hwSet f 1).ev 27 := if_neg (by simp [Run.on, h0])
  rw [hcause]
  exact ⟨(Run.rd_ev _ (by omega) he).trans hset, Run.seen_ev _ (by omega) (by omega) (.inl rfl)⟩

theorem Run.seen_uartCause (r : Run s₀) {f : Fld} (he : eventKey f.key = false) {e : Nat} (hx : e < 512) (hs : r.st.seen e = true) :
    (r.uartCause f).st.seen e = true := by
  have hset : (r.hwSet f 1).st.seen e = true := (Run.seen_wr _ f _ he hx).trans hs
  unfold Run.uartCause
  split
  · exact hset
  · exact Run.seen_ev _ (by omega) hx (.inr hset)

theorem Run.uarts_uartCause (r : Run s₀) (f : Fld) : (r.uartCause f).u.glb.uarts = r.u.glb.uarts := by
  unfold Run.uartCause
  split
  · rfl
  · exact congrArg (fun u => u.glb.uarts) (Run.quiet_ev (r.hwSet f 1) (e := 27) (by omega))

theorem State.KeepsBut.uartCause {r : Run s₀} (H : s.KeepsBut r.st p m h) (f : Fld) (hf : p f.key = true) : s.KeepsBut (r.uartCause f).st p m h := by
  have hset := H.evSet f 1 (.inl hf)
  unfold Run.uartCause
  split
  · exact hset
  · exact hset.ev (by omega)

theorem Run.uartIs_uartCause {r : Run s₀} {u : Nat} {x : Uart} (hu : u < 4) (H : r.st.UartIs u x) {f : Fld}
    (ht : f.key ≠ (GLB_UART_STATUS_TX_LEVEL u).key) (hr : f.key ≠ (GLB_UART_STATUS_RX_LEVEL u).key) : (r.uartCause f).st.UartIs u x := by
  obtain ⟨hx, htx, hrx⟩ := H
  refine ⟨?_, (Run.rd_uartCause _ (eventKey_uart ?_ ?_) ht.symm).trans htx, (Run.rd_uartCause _ (eventKey_uart ?_ ?_) hr.symm).trans hrx⟩
  · rw [show (r.uartCause f).st.u.glb.uarts = _ from r.uarts_uartCause f]; exact hx
  all_goals simp; omega

/-! ## The UART commands in their cases -/

/-- TXDATA at an idle transmitter. -/
theorem exec_txdata_idle {s : State} (u : Fin 4) (c : Byte) (hen : s.rd (GLB_UART_CTL_EN u) ≠ 0) (hs : (s.u.glb.uarts.look u {}).sending = none) :
    exec (.txdata u c) s = .next ((Run.start s).uartSet u { s.u.glb.uarts.look u {} with sending := some c.toNat }).st :=
  congrArg (fun r : Run s => Host.Outcome.next r.st) ((if_neg (by simpa [Run.on] using hen)).trans (if_pos (by simpa [Run.uart] using hs)))

/-- TXDATA behind a character that is being sent. -/
theorem exec_txdata_queued {s : State} (u : Fin 4) (c : Byte) (hen : s.rd (GLB_UART_CTL_EN u) ≠ 0) (hs : (s.u.glb.uarts.look u {}).sending ≠ none)
    (hl : (s.u.glb.uarts.look u {}).tx.length ≠ 256) : exec (.txdata u c) s
      = .next ((Run.start s).uartSet u { s.u.glb.uarts.look u {} with tx := (s.u.glb.uarts.look u {}).tx ++ [c.toNat] }).st :=
  congrArg (fun r : Run s => Host.Outcome.next r.st)
    (((if_neg (by simpa [Run.on] using hen)).trans (if_neg (by simpa [Run.uart] using hs))).trans (if_neg hl))

/-- TXDATA at a full FIFO. -/
theorem exec_txdata_full {s : State} (u : Fin 4) (c : Byte) (hen : s.rd (GLB_UART_CTL_EN u) ≠ 0) (hs : (s.u.glb.uarts.look u {}).sending ≠ none)
    (hl : (s.u.glb.uarts.look u {}).tx.length = 256) : exec (.txdata u c) s = .next ((Run.start s).ignored.uartCause (GLB_UART_STATUS_TX_OVF u)).st :=
  congrArg (fun r : Run s => Host.Outcome.next r.st)
    (((if_neg (by simpa [Run.on] using hen)).trans (if_neg (by simpa [Run.uart] using hs))).trans (if_pos hl))

/-- A character that finds room, before the flags it may set (R69). -/
def Run.uartTaken (r : Run s₀) (u : Nat) (c : Byte) (framing brk : Bool) : Run s₀ :=
  r.uartSet u { r.uart u with rx := (r.uart u).rx ++ [⟨c.toNat, framing, brk⟩] }

/-- The flags of a character that was taken (R69). -/
def Run.uartFlags (r : Run s₀) (u n : Nat) (framing : Bool) : Run s₀ :=
  (r.when framing fun r => r.uartCause (GLB_UART_STATUS_FRAMING u)).when (n == r.rd (GLB_UART_THRESH_RX_THRESH u)) fun r =>
    r.uartCause (GLB_UART_STATUS_RX_READY u)

theorem exec_uartCharacterReceived {s : State} (u : Fin 4) (c : Byte) (framing brk : Bool) (hen : s.rd (GLB_UART_CTL_EN u) ≠ 0)
    (hroom : (s.u.glb.uarts.look u {}).rx.length ≠ 256) :
    exec (.uartCharacterReceived u c framing brk) s = .next (((Run.start s).uartTaken u c framing brk).uartFlags u
      ((s.u.glb.uarts.look u {}).rx.length + 1) framing).st := by
  have hrun : (Run.start s).uartRx u c framing brk = ((Run.start s).uartTaken u c framing brk).uartFlags u
      ((s.u.glb.uarts.look u {}).rx.length + 1) framing := by
    refine ((if_neg (by simpa [Run.on] using hen)).trans (if_neg hroom)).trans ?_
    have hth : ((((Run.start s).uartTaken u c framing brk).when framing fun r => r.uartCause (GLB_UART_STATUS_FRAMING u)).rd
        (GLB_UART_THRESH_RX_THRESH u)) = ((Run.start s).uartTaken u c framing brk).rd (GLB_UART_THRESH_RX_THRESH u) :=
      Run.rd_when _ _ (Run.rd_uartCause _ (eventKey_uart (by simp; omega) (by simp; omega)) (by simp; omega))
    rw [Run.uartFlags, ← hth]
    rfl
  exact congrArg (fun r : Run s => Host.Outcome.next r.st) hrun

/-- What the flags of a character leave. -/
theorem Run.uartIs_uartFlags {r : Run s₀} {u : Nat} {x : Uart} (hu : u < 4) (H : r.st.UartIs u x) (n : Nat) (framing : Bool) :
    (r.uartFlags u n framing).st.UartIs u x := by
  have h1 : (r.when framing fun r => r.uartCause (GLB_UART_STATUS_FRAMING u)).st.UartIs u x := by
    cases framing
    · exact H
    · exact Run.uartIs_uartCause hu H (by simp) (by simp)
  unfold Run.uartFlags Run.when
  split
  · exact Run.uartIs_uartCause hu h1 (by simp) (by simp)
  · exact h1

/-- A framing error sets FRAMING (R69). -/
theorem Run.uartFlags_framing (r : Run s₀) {u : Nat} (hu : u < 4) (n : Nat) (h0 : r.rd (GLB_UART_STATUS_FRAMING u) = 0) :
    (r.uartFlags u n true).rd (GLB_UART_STATUS_FRAMING u) = 1 ∧ (r.uartFlags u n true).st.seen 27 = true := by
  have he : eventKey (GLB_UART_STATUS_FRAMING u).key = false := eventKey_uart (by simp; omega) (by simp; omega)
  obtain ⟨hone, hseen⟩ := r.uartCause_rises rfl he h0
  unfold Run.uartFlags
  rw [Run.when_true]
  refine ⟨(Run.rd_when _ _ (Run.rd_uartCause _ he (by simp))).trans hone, ?_⟩
  unfold Run.when
  split
  · exact Run.seen_uartCause _ (eventKey_uart (by simp; omega) (by simp; omega)) (by omega) hseen
  · exact hseen

/-- Reaching RX_THRESH sets RX_READY (R69). -/
theorem Run.uartFlags_ready (r : Run s₀) {u : Nat} (hu : u < 4) {n : Nat} (framing : Bool) (hn : n = r.rd (GLB_UART_THRESH_RX_THRESH u))
    (h0 : r.rd (GLB_UART_STATUS_RX_READY u) = 0) :
    (r.uartFlags u n framing).rd (GLB_UART_STATUS_RX_READY u) = 1 ∧ (r.uartFlags u n framing).st.seen 27 = true := by
  have he : eventKey (GLB_UART_STATUS_RX_READY u).key = false := eventKey_uart (by simp; omega) (by simp; omega)
  rw [Run.uartFlags, Run.when, if_pos (by simp [hn])]
  exact Run.uartCause_rises _ rfl he ((Run.rd_when _ _ (Run.rd_uartCause _ he (by simp))).trans h0)

theorem State.KeepsBut.uartFlags {r : Run s₀} (H : s.KeepsBut r.st p m h) (u n : Nat) (framing : Bool)
    (hf : p (GLB_UART_STATUS_FRAMING u).key = true) (hr : p (GLB_UART_STATUS_RX_READY u).key = true) :
    s.KeepsBut (r.uartFlags u n framing).st p m h := by
  have h1 : s.KeepsBut (r.when framing fun r => r.uartCause (GLB_UART_STATUS_FRAMING u)).st p m h := H.when framing fun _ => H.uartCause _ hf
  exact h1.when _ fun _ => h1.uartCause _ hr

/-! ## The SMBus target -/

theorem Run.rd_smbLine (r : Run s₀) {f : Fld} (hf : eventKey f.key = false) : r.smbLine.rd f = r.rd f :=
  ((State.KeepsBut.smbLine (.refl (p := fun _ => false) (m := fun _ => false) (h := id) r.st)).1 f rfl hf).1

/-- With nothing to signal the alert line is released and nothing else happens but on its pin. -/
theorem Run.smbLine_of_quiet (r : Run s₀) (hq : r.rd GLB_SMB_STATUS_PENDING = 0 ∨ r.u.glb.smbReleased = true) :
    r.smbLine.u.glb.smbReleased = r.u.glb.smbReleased ∧ r.smbLine.u.glb.smbLow = false ∧ (∀ f, r.smbLine.rd f = r.rd f)
      ∧ r.st.out ⊆ r.smbLine.st.out := by
  have hlow : ((List.range 4).any (fun k => bit (r.rd GLB_SMB_STATUS_PENDING) k && !bit (r.rd GLB_SMB_STATUS_ALERT_MASK) k)
      && !r.u.glb.smbReleased) = false := by
    obtain hq | hq := hq <;> simp [hq, bit]
  unfold Run.smbLine
  simp only [hlow]
  split
  next heq => exact ⟨rfl, heq.symm, fun _ => rfl, fun _ hx => hx⟩
  next => exact ⟨rfl, rfl, fun _ => rfl, List.subset_cons_self _ _⟩

/-- A listed command of the target: LAST_CMD, then what it does (R70). -/
theorem smb_of_rails {s : State} (hr : s.u.glb.railsGood = true) (code : Nat) (f : Run s → Run s) :
    (Run.start s).smb code f = f ((Run.start s).wr GLB_SMB_STATUS_LAST_CMD code) := if_pos hr

theorem smb_of_no_rails {s : State} (hr : s.u.glb.railsGood = false) (code : Nat) (f : Run s → Run s) :
    (Run.start s).smb code f = Run.start s := if_neg (by simp [hr])

theorem State.KeepsBut.lastCmd (s : State) (code : Nat) {l : List Fld} (hl : GLB_SMB_STATUS_LAST_CMD ∈ l) :
    s.Keeps ((Run.start s).wr GLB_SMB_STATUS_LAST_CMD code).st (own l) h :=
  (State.KeepsBut.start s).wr _ _ (.inl (own_mem hl))

theorem State.SmbReads.of_emit (s : State) {code : Nat} (hc : code < 256) (answer : Out) (bytes : List Byte) (pec : Bool) :
    s.SmbReads ((((Run.start s).wr GLB_SMB_STATUS_LAST_CMD code).emit answer).when pec fun r => r.emit (.pec (readPec code bytes))).st
      code answer bytes pec := by
  have hlast : ((Run.start s).wr GLB_SMB_STATUS_LAST_CMD code).rd GLB_SMB_STATUS_LAST_CMD = code :=
    (Run.rd_wr_same _ _ _).trans (Nat.mod_eq_of_lt hc)
  have hkeep := State.KeepsBut.lastCmd (h := id) s code (l := [GLB_SMB_STATUS_LAST_CMD]) (by simp)
  cases pec
  · exact ⟨rfl, hlast, hkeep⟩
  · exact ⟨rfl, hlast, hkeep⟩

theorem Run.rd_smbRefuse (r : Run s₀) (bad : Bool) :
    (r.smbRefuse bad).rd (if bad then GLB_SMB_COUNT_PEC_ERR else GLB_SMB_COUNT_NAK)
      = min (r.rd (if bad then GLB_SMB_COUNT_PEC_ERR else GLB_SMB_COUNT_NAK) + 1) (2 ^ (if bad then GLB_SMB_COUNT_PEC_ERR else GLB_SMB_COUNT_NAK).w - 1) :=
  Run.rd_sat_same _ _ _

/-! ## The statement -/

/-- Settles O28: every command is one change of a UART's FIFOs with the causes it sets, or one answer of the SMBus target with
LAST_CMD and the alert line behind it. -/
theorem uartAndSmbus : Obligations.UartAndSmbus := by
  refine ⟨?txdata, ?disabled, ?sent, ?idle, ?received, ?overrun, ?read, ?empty, ?waited, ?reads, ?mask, ?maskBadPec, ?nak, ?noRails⟩
  case txdata =>
    rintro s u c x rfl hen
    refine ⟨fun hidle => ?_, fun hbusy hroom => ?_, fun hbusy hfull => ?_⟩
    · exact ⟨_, exec_txdata_idle u c hen hidle, Run.uartIs_uartSet _ _ _, State.KeepsUart.uartSet (.start s) _⟩
    · exact ⟨_, exec_txdata_queued u c hen hbusy hroom, Run.uartIs_uartSet _ _ _, State.KeepsUart.uartSet (.start s) _⟩
    · have he : eventKey (GLB_UART_STATUS_TX_OVF u).key = false := eventKey_uart (by simp; omega) (by simp; omega)
      refine ⟨_, exec_txdata_full u c hen hbusy hfull, ?_, fun h0 => ?_, ?_⟩
      · exact Run.seen_uartCause _ he (by omega) (Run.seen_ev (Run.start s) (e := 9) (by omega) (by omega) (.inl rfl))
      · exact Run.uartCause_rises _ rfl he ((Run.rd_ev (Run.start s) (e := 9) (by omega) he).trans h0)
      · exact (State.KeepsBut.start s).ignored.uartCause _ (own_mem (by simp))
  case disabled =>
    intro s u c framing brk hen
    have hoff : (!(Run.start s).on (GLB_UART_CTL_EN u)) = true := by simp [Run.on, hen]
    exact ⟨congrArg (fun r : Run s => Host.Outcome.next r.st) (if_pos hoff), congrArg (fun r : Run s => Host.Outcome.next r.st) (if_pos hoff)⟩
  case sent =>
    rintro s u c x rfl hc
    have hrun : exec (.uartCharacterSent u) s = .next (((Run.start s).emit (.uart u (BitVec.ofNat 8 c))).uartSet u
        { s.u.glb.uarts.look u {} with tx := (s.u.glb.uarts.look u {}).tx.tail, sending := (s.u.glb.uarts.look u {}).tx.head? }).st := by
      simp only [exec, execUartCharacterSent, done, Run.uart, Run.u_start, hc]
    exact ⟨_, hrun, rfl, Run.uartIs_uartSet _ _ _, State.KeepsUart.uartSet ((State.KeepsBut.start s).emit _) _⟩
  case idle =>
    intro s u hc
    simp only [exec, execUartCharacterSent, done, Run.uart, Run.u_start, hc, Run.st_start]
  case received =>
    rintro s u c framing brk x rfl hen hroom
    have hrd : ∀ {f : Fld}, f.key ≠ (GLB_UART_STATUS_TX_LEVEL u).key → f.key ≠ (GLB_UART_STATUS_RX_LEVEL u).key →
        ((Run.start s).uartTaken u c framing brk).rd f = s.rd f := Run.rd_uartSet _ _ _
    refine ⟨_, exec_uartCharacterReceived u c framing brk hen hroom, Run.uartIs_uartFlags u.isLt (Run.uartIs_uartSet _ _ _) _ _, ?_, fun hn h0 => ?_, ?_⟩
    · rintro rfl h0
      exact Run.uartFlags_framing _ u.isLt _ ((hrd (by simp) (by simp)).trans h0)
    · exact Run.uartFlags_ready _ u.isLt _ (hn.trans (hrd (by simp) (by simp; omega)).symm) ((hrd (by simp) (by simp)).trans h0)
    · exact ((State.KeepsBut.start s).uartSet u _ (own_mem (by simp)) (own_mem (by simp)) fun _ _ => rfl).uartFlags u _ _ (own_mem (by simp)) (own_mem (by simp))
  case overrun =>
    intro s u c framing brk hen hfull
    have hrun : exec (.uartCharacterReceived u c framing brk) s = .next ((Run.start s).uartCause (GLB_UART_STATUS_RX_OVERRUN u)).st :=
      congrArg (fun r : Run s => Host.Outcome.next r.st) ((if_neg (by simpa [Run.on] using hen)).trans (if_pos hfull))
    exact ⟨_, hrun, Run.uartCause_rises (Run.start s) rfl (f := GLB_UART_STATUS_RX_OVERRUN u) (eventKey_uart (by simp; omega) (by simp; omega)),
      (State.KeepsBut.start s).uartCause _ (own_mem (by simp))⟩
  case read =>
    rintro s u x c l rfl hx
    have hrun : exec (.rxdataRead u) s = .next (((Run.start s).emit (.answer (c.c + 256 + 512 * b2n c.framing + 1024 * b2n c.brk))).uartSet u
        { s.u.glb.uarts.look u {} with rx := l }).st := by
      simp [exec, execRxdataRead, done, Run.rxTaken, Run.rxValue, Run.uart, hx]
    exact ⟨_, hrun, rfl, Run.uartIs_uartSet _ _ _, State.KeepsUart.uartSet ((State.KeepsBut.start s).emit _) _⟩
  case empty =>
    intro s u hx
    constructor
    · simp [exec, execRxdataRead, done, Run.rxTaken, Run.rxValue, Run.uart, hx]
      rfl
    · simp [exec, execRxIdle, done, Run.uart, hx]
  case waited =>
    intro s u hx hidle
    have hrun : exec (.rxIdle u) s = .next ((Run.start s).uartCause (GLB_UART_STATUS_RX_READY u)).st :=
      congrArg (fun r : Run s => Host.Outcome.next r.st) (if_neg (by simpa [Run.on, Run.uart] using ⟨hx, hidle⟩))
    exact ⟨_, hrun, Run.uartCause_rises (Run.start s) rfl (f := GLB_UART_STATUS_RX_READY u) (eventKey_uart (by simp; omega) (by simp; omega)),
      (State.KeepsBut.start s).uartCause _ (own_mem (by simp))⟩
  case reads =>
    intro s pec hr
    have hrd : ∀ (code : Nat) {f : Fld}, f.key ≠ GLB_SMB_STATUS_LAST_CMD.key → ((Run.start s).wr GLB_SMB_STATUS_LAST_CMD code).rd f = s.rd f :=
      fun code f hf => Run.rd_wr_ne _ _ hf
    have hread : ∀ {c : Instr} {code : Nat} {f : Run s → Run s} {answer : Out} {bytes : List Byte}, code < 256 →
        exec c s = .next ((Run.start s).smb code f).st →
        f ((Run.start s).wr GLB_SMB_STATUS_LAST_CMD code)
          = (((Run.start s).wr GLB_SMB_STATUS_LAST_CMD code).emit answer).when pec (fun r => r.emit (.pec (readPec code bytes))) →
        ∃ t, exec c s = .next t ∧ s.SmbReads t code answer bytes pec := fun hcode hex hf =>
      ⟨_, hex.trans (by rw [smb_of_rails hr, hf]), .of_emit s hcode _ _ pec⟩
    refine ⟨?status, ?temp, ?hot, ?mode, ?ident, ?serial, ?maskRead, ?alert⟩
    case status =>
      have hword : ((Run.start s).wr GLB_SMB_STATUS_LAST_CMD 1).smbWord = (Run.start s).smbWord := by
        simp only [Run.smbWord, hrd 1 (show GLB_BOOT_STATUS_READY.key ≠ GLB_SMB_STATUS_LAST_CMD.key by decide),
          hrd 1 (show GLB_MODE_VALID.key ≠ GLB_SMB_STATUS_LAST_CMD.key by decide),
          hrd 1 (show THM_STATUS_LEVEE.key ≠ GLB_SMB_STATUS_LAST_CMD.key by decide),
          hrd 1 (show EVT_SERVICE_REQ.key ≠ GLB_SMB_STATUS_LAST_CMD.key by decide),
          hrd 1 (show MAG_REC_STATUS_STATE.key ≠ GLB_SMB_STATUS_LAST_CMD.key by decide),
          hrd 1 (show GLB_SMB_STATUS_PENDING.key ≠ GLB_SMB_STATUS_LAST_CMD.key by decide), Run.rd_start]
      obtain ⟨hout, hlast, hkeep⟩ := State.SmbReads.of_emit s (code := 1) (by omega) (.answer (Run.start s).smbWord)
        (le 2 (Run.start s).smbWord) pec
      have hzero : ((((Run.start s).wr GLB_SMB_STATUS_LAST_CMD 1).smbAnswer 1 2 (Run.start s).smbWord pec).wr GLB_SMB_STATUS_PENDING 0).rd
          GLB_SMB_STATUS_PENDING = 0 := Run.rd_wr_same _ _ _
      obtain ⟨-, -, hsame, hsub⟩ := Run.smbLine_of_quiet _ (.inl hzero)
      refine ⟨_, (congrArg (fun r : Run s => Host.Outcome.next r.st) ((smb_of_rails hr _ _).trans (by rw [hword]))), hsub ?_, (hsame _).trans hzero,
        (hsame _).trans ((Run.rd_wr_ne _ _ (by decide)).trans hlast), fun hp => hsub ?_, (State.KeepsBut.wr hkeep _ _ (.inr (by decide))).smbLine⟩
      · exact hout.symm ▸ List.mem_append_right _ List.mem_cons_self
      · exact hout.symm ▸ List.mem_append_left _ (by simp [hp])
    case temp =>
      refine hread (by omega) rfl ?_
      rw [hrd 2 (by decide)]
      rfl
    case hot =>
      refine hread (by omega) rfl ?_
      rw [hrd 3 (by decide)]
      rfl
    case mode =>
      refine hread (by omega) rfl ?_
      rw [hrd 4 (by decide), hrd 4 (by decide), hrd 4 (by decide)]
      rfl
    case ident => exact hread (by omega) rfl rfl
    case serial => exact hread (by omega) rfl rfl
    case maskRead =>
      refine hread (by omega) rfl ?_
      rw [hrd 0x22 (by decide)]
      rfl
    case alert =>
      have hrun : exec .alertResponse s = .next (((Run.start s).emit (.answer 0xB8)).glb fun g => { g with smbReleased := true }).smbLine.st :=
        congrArg (fun r : Run s => Host.Outcome.next r.st) (if_pos hr)
      obtain ⟨hrel, hlow, -, hsub⟩ := Run.smbLine_of_quiet (((Run.start s).emit (.answer 0xB8)).glb fun g => { g with smbReleased := true }) (.inr rfl)
      exact ⟨_, hrun, hsub List.mem_cons_self, hrel, hlow, (((State.KeepsBut.start s).emit _).glb _ fun _ => rfl).smbLine⟩
  case mask =>
    intro s data pec hr hpec
    have hrun : exec (.alertMask data pec) s
        = .next (((Run.start s).wr GLB_SMB_STATUS_LAST_CMD 0x21).wr GLB_SMB_STATUS_ALERT_MASK (bits data.toNat 0 4)).smbLine.st :=
      congrArg (fun r : Run s => Host.Outcome.next r.st) ((smb_of_rails hr _ _).trans (if_neg hpec))
    refine ⟨_, hrun, (Run.rd_smbLine _ (by decide)).trans ((Run.rd_wr_same _ _ _).trans ?_), (Run.rd_smbLine _ (by decide)).trans
      ((Run.rd_wr_ne _ _ (by decide)).trans (Run.rd_wr_same _ _ _)), ((State.KeepsBut.lastCmd s _ (by simp)).wr _ _ (.inl (own_mem (by simp)))).smbLine⟩
    simp [bits, show GLB_SMB_STATUS_ALERT_MASK.w = 4 from rfl]
  case maskBadPec =>
    intro s data hr
    have hrun : exec (.alertMask data (some false)) s = .next (((Run.start s).wr GLB_SMB_STATUS_LAST_CMD 0x21).smbRefuse true).st :=
      congrArg (fun r : Run s => Host.Outcome.next r.st) ((smb_of_rails hr _ _).trans (if_pos rfl))
    refine ⟨_, hrun, rfl, (Run.rd_sat_ne _ _ (by decide)).trans (Run.rd_wr_same _ _ _), (Run.rd_smbRefuse _ true).trans ?_,
      ((State.KeepsBut.lastCmd s _ (by simp)).emit _).sat _ _ (.inl (own_mem (by simp)))⟩
    rw [if_pos rfl, Run.rd_wr_ne _ _ (by decide)]
    rfl
  case nak =>
    intro s code hr
    refine ⟨?_, fun hcode => ?_⟩
    · have hrun : exec (.smbNak code true) s = .next ((Run.start s).smbRefuse true).st :=
        congrArg (fun r : Run s => Host.Outcome.next r.st) (if_neg (by simp [hr]))
      exact ⟨_, hrun, rfl, Run.rd_smbRefuse _ true, ((State.KeepsBut.start s).emit _).sat _ _ (.inl (own_mem (by simp)))⟩
    · have hrun : exec (.smbNak code false) s = .next ((Run.start s).smbRefuse false).st :=
        congrArg (fun r : Run s => Host.Outcome.next r.st) ((if_neg (by simp [hr])).trans ((if_neg (by simp)).trans (if_neg (by rw [hcode]; decide))))
      exact ⟨_, hrun, rfl, Run.rd_smbRefuse _ false, ((State.KeepsBut.start s).emit _).sat _ _ (.inl (own_mem (by simp)))⟩
  case noRails =>
    intro s data code pec q bad hr
    have hsmb : ∀ (code : Nat) (f : Run s → Run s), Host.Outcome.next ((Run.start s).smb code f).st = (.next s : Host.Outcome State Fault Refusal) :=
      fun code f => congrArg (fun r : Run s => Host.Outcome.next r.st) (smb_of_no_rails hr code f)
    refine ⟨hsmb _ _, hsmb _ _, hsmb _ _, hsmb _ _, hsmb _ _, hsmb _ _, hsmb _ _, hsmb _ _, ?_, ?_⟩
    · exact congrArg (fun r : Run s => Host.Outcome.next r.st) (if_neg (by simp [hr]))
    · exact congrArg (fun r : Run s => Host.Outcome.next r.st) (if_pos (by simp [hr]))

end Sys2Proof.Machine
end

section
/-!
The boot sequence from the root PLL's lock to READY, and the recovery check (R43 to R47, R334, R335, R342).
-/
namespace Sys2Proof.Machine
variable {s₀ s : State} {p m : Nat → Bool} {h : Units → Units}

/-! ## What a boot shows and no unit's start changes -/

/-- The keys of the registers that neither stand below GLB_TIDE nor hold the status of events. -/
def unitKey (k : Nat) : Bool := 0x300 * 8 ≤ k && !(0x100000 * 8 ≤ k && k < 0x100040 * 8)

theorem unitKey_iff {k : Nat} : unitKey k = true ↔ 0x300 * 8 ≤ k ∧ (k < 0x100000 * 8 ∨ 0x100040 * 8 ≤ k) := by
  simp only [unitKey, Bool.and_eq_true, decide_eq_true_eq, Bool.not_eq_true', Bool.and_eq_false_iff, decide_eq_false_iff_not]
  omega

/-- The registers from EVT_ROUTE on, whatever their index. -/
theorem unitKey_indexed {b i lo w rst : Nat} (hb : 0x100040 ≤ b) : unitKey (Fld.key ⟨b + i, lo, w, rst⟩) = true :=
  unitKey_iff.mpr (by simp only [Fld.key]; omega)

/-- The registers of GLB below GLB_TIDE read in `q` as in `r`, and no event's status is lost. -/
structure Run.Spans (r q : Run s₀) : Prop where
  rd : ∀ f : Fld, f.key < 0x300 * 8 → q.rd f = r.rd f
  status : ∀ e < 512, r.st.status e = true → q.st.status e = true

namespace Run.Spans
variable {r q : Run s₀}

theorem refl (r : Run s₀) : r.Spans r := ⟨fun _ _ => rfl, fun _ _ h => h⟩

theorem trans {x : Run s₀} (H : r.Spans q) (H' : q.Spans x) : r.Spans x :=
  ⟨fun f hf => (H'.rd f hf).trans (H.rd f hf), fun e he h => H'.status e he (H.status e he h)⟩

theorem mod (H : r.Spans q) (f : Units → Units) : r.Spans (q.mod f) := ⟨H.rd, H.status⟩

theorem emit (H : r.Spans q) (o : Out) : r.Spans (q.emit o) := ⟨H.rd, H.status⟩

theorem when (H : r.Spans q) (c : Bool) {f : Run s₀ → Run s₀} (hf : c = true → r.Spans (f q)) : r.Spans (q.when c f) := by
  cases c
  · exact H
  · exact hf rfl

theorem each {α : Type} (l : List α) {f : α → Run s₀ → Run s₀} (H : r.Spans q) (hf : ∀ a ∈ l, ∀ q, r.Spans q → r.Spans (f a q)) :
    r.Spans (q.each l f) := by
  induction l generalizing q with
  | nil => exact H
  | cons a l ih => exact ih (hf a List.mem_cons_self q H) fun b hb => hf b (List.mem_cons_of_mem a hb)

theorem free (H : r.Spans q) (w : Nat) {f : Nat → Run s₀ → Run s₀} (hf : ∀ v q, r.Spans q → r.Spans (f v q)) : r.Spans (q.free w f) :=
  hf _ _ ⟨H.rd, H.status⟩

theorem wr (H : r.Spans q) (f : Fld) (v : Nat) (hf : unitKey f.key = true) : r.Spans (q.wr f v) := by
  obtain ⟨hlow, hevt⟩ := unitKey_iff.mp hf
  refine ⟨fun g hg => (q.rd_wr_ne v (by omega)).trans (H.rd g hg), fun e he hs => ?_⟩
  have hk : (EVT_STATUS (e / 32)).key = (0x100000 + 0x4 * (e / 32)) * 8 + 0 := rfl
  have hsame : (q.wr f v).st.rd (EVT_STATUS (e / 32)) = q.st.rd (EVT_STATUS (e / 32)) := q.rd_wr_ne v (by omega)
  have hold := H.status e he hs
  rwa [State.status, hsame]

/-- The hardware sets bits of a status register. -/
theorem setStatus (H : r.Spans q) (k v : Nat) : r.Spans (q.hwSet (EVT_STATUS k) v) := by
  have hk : (EVT_STATUS k).key = (0x100000 + 0x4 * k) * 8 + 0 := rfl
  refine ⟨fun g hg => (Run.rd_wr_ne _ _ (by omega)).trans (H.rd g hg), fun e he hs => ?_⟩
  have hold := H.status e he hs
  simp only [State.status] at hold ⊢
  by_cases hw : e / 32 = k
  · have hset : (q.hwSet (EVT_STATUS k) v).st.rd (EVT_STATUS k) = (q.st.rd (EVT_STATUS k) ||| v) % 2 ^ 32 := Run.rd_wr_same _ _ _
    subst hw
    rw [bit_eq_testBit] at hold
    rw [hset, bit_eq_testBit, Nat.testBit_mod_two_pow, Nat.testBit_or, hold]
    simp [Nat.mod_lt]
  · have hk' : (EVT_STATUS (e / 32)).key = (0x100000 + 0x4 * (e / 32)) * 8 + 0 := rfl
    rwa [show (q.hwSet (EVT_STATUS k) v).st.rd (EVT_STATUS (e / 32)) = q.st.rd (EVT_STATUS (e / 32)) from Run.rd_wr_ne _ _ (by omega)]

/-! ### Events -/

theorem sendMsix (H : r.Spans q) (v : Nat) : r.Spans (q.sendMsix v) := by
  unfold Run.sendMsix
  split
  · exact H.wr _ _ (by decide)
  · exact H.emit _

theorem eventMsix (H : r.Spans q) (v : Nat) : r.Spans (q.eventMsix v) := by
  unfold Run.eventMsix
  split
  · exact H
  · exact (H.sendMsix v).mod _

theorem eventOut (H : r.Spans q) (k : Nat) (l : Bool) : r.Spans (q.eventOut k l) := by
  unfold Run.eventOut
  split
  · exact H
  · exact when (H.mod _) _ fun _ => (H.mod _).emit _

theorem deliver (H : r.Spans q) (e : Nat) : r.Spans (q.deliver e) :=
  each _ (each _ (H.when _ fun _ => H.eventMsix _) fun _ _ _ hq => hq.when _ fun _ => hq.emit _) fun _ _ _ hq => hq.when _ fun _ => hq.eventOut _ _

theorem traceEvent (H : r.Spans q) (e : Nat) : r.Spans (q.traceEvent e) := by
  unfold Run.traceEvent
  dsimp only
  split
  · exact when (H.mod _) _ fun _ => (H.mod _).wr _ _ (by decide)
  · exact H

theorem occur (H : r.Spans q) (e : Nat) : r.Spans (q.occur e) := by
  have hset := (H.traceEvent e).setStatus (e / 32) (2 ^ (e % 32))
  exact when hset _ (f := fun r => r.deliver e) fun _ => hset.deliver e

theorem smbLine (H : r.Spans q) : r.Spans q.smbLine := by
  unfold Run.smbLine
  dsimp only
  split
  · exact H
  · exact when ((H.mod _).emit _) _ fun _ => ((H.mod _).emit _).occur 28

theorem smbCond (H : r.Spans q) (k : Nat) : r.Spans (q.smbCond k) :=
  ((H.wr GLB_SMB_STATUS_PENDING _ (by decide)).mod _).smbLine

theorem ev (H : r.Spans q) (e : Nat) : r.Spans (q.ev e) := by
  have hcross : r.Spans (q.when (crossesDomain e) fun r => r.evt fun t => { t with crossing := e :: t.crossing }) := H.when _ fun _ => H.mod _
  unfold Run.ev
  split
  · exact (H.mod _).wr _ _ (unitKey_indexed (by decide))
  · exact when (hcross.occur e) _ fun _ => (hcross.occur e).smbCond 2

/-! ### The start of lanes, links, channels and ports -/

theorem laneEnter (H : r.Spans q) (n st : Nat) (lost : Bool) : r.Spans (q.laneEnter n st lost) := by
  have hstate := ((H.wr (LNK_STATUS_STATE n) st (unitKey_indexed (by decide))).wr (LNK_STATUS_RX_LOCK n) (b2n (st == 3 || st == 4))
    (unitKey_indexed (by decide)))
  exact when (hstate.mod _) _ (f := fun r => r.ev (32 + 2 * n)) fun _ => (hstate.mod _).ev _

theorem laneAcquire (H : r.Spans q) (n : Nat) (lost : Bool) : r.Spans (q.laneAcquire n lost) :=
  (((H.wr (LNK_TRAIN_ECHO_FAILS n) 0 (unitKey_indexed (by decide))).wr (LNK_TRAIN_REQ_COUNT n) 0 (unitKey_indexed (by decide))).mod _).laneEnter n 1 lost

theorem lanesStart (H : r.Spans q) : r.Spans q.lanesStart := each _ H fun n _ _ hq => hq.when _ fun _ => hq.laneAcquire n false

theorem linkMark (H : r.Spans q) (n : Nat) : r.Spans (q.linkMark n) := (H.wr _ _ (unitKey_indexed (by decide))).emit _

theorem linkActive (H : r.Spans q) (n : Nat) : r.Spans (q.linkActive n) := by
  have hstate := ((H.wr (VFD_STATUS_LINK_STATE n) 2 (unitKey_indexed (by decide))).emit (.dphy n 2)).mod
  exact when (hstate _) _ (f := fun r => r.emit (.dphy n 3)) fun _ => (hstate _).emit _

theorem dirtyAll (H : r.Spans q) (n : Nat) : r.Spans (q.dirtyAll n) := by
  unfold Run.dirtyAll Run.dirty
  split
  · exact when (H.mod _) _ fun _ => when (H.mod _) _ fun _ => (H.mod _).linkMark n
  · exact H

theorem linksUp (H : r.Spans q) : r.Spans q.linksUp := by
  refine each _ H fun n _ q hq => ?_
  split
  · refine dirtyAll ?_ n
    split
    · exact hq.linkMark n
    · exact hq.linkActive n
  · exact hq.wr _ _ (unitKey_indexed (by decide))

theorem dmaStart (H : r.Spans q) (n pc : Nat) : r.Spans (q.dmaStart n pc) :=
  (((((H.mod _).wr (DMA_STATUS_INFLIGHT n) _ (unitKey_indexed (by decide))).wr (DMA_PC_ADDR n) pc (unitKey_indexed (by decide))).wr (DMA_BYTES_BYTES n) 0
    (unitKey_indexed (by decide))).wr (DMA_STATUS_CAUSE n) 0 (unitKey_indexed (by decide))).wr (DMA_STATUS_STATE n) 1 (unitKey_indexed (by decide))

theorem auState (H : r.Spans q) (n st : Nat) : r.Spans (q.auState n st) := by
  have hwr : ∀ {q : Run s₀} {f : Fld} (v : Nat), f ∈ [AUD_STATUS_STATE n, AUD_STATUS_FAULT_CAUSE n, AUD_STATUS_LEAD_LEFT n, AUD_STATUS_UNDERRUN n] →
      r.Spans q → r.Spans (q.wr f v) := by
    intro q f v hf hq
    simp only [List.mem_cons, List.not_mem_nil, or_false] at hf
    obtain rfl | rfl | rfl | rfl := hf <;> exact hq.wr _ _ (unitKey_indexed (by decide))
  unfold Run.auState
  split
  · exact H
  · have hstate : r.Spans ((q.wr (AUD_STATUS_STATE n) st).when (st != 4) fun r => r.wr (AUD_STATUS_FAULT_CAUSE n) 0) :=
      when (hwr _ (by simp) H) _ fun _ => hwr _ (by simp) (hwr _ (by simp) H)
    exact ev (when (hwr _ (by simp) hstate) _ fun _ => hwr _ (by simp) ((hwr _ (by simp) hstate).mod _)) _

theorem auStart (H : r.Spans q) (n : Nat) : r.Spans (q.auStart n) := by
  unfold Run.auStart
  split
  · exact H.auState n 1
  · exact H.ev 9

theorem weaveEnd (H : r.Spans q) : r.Spans q.weaveEnd :=
  each _ (each _ H.lanesStart.linksUp fun _ _ _ hq => hq.when _ fun _ => hq.dmaStart _ _) fun n _ _ hq => hq.when _ fun _ => hq.auStart n

/-! ### Time bases and markers after a warm reset -/

theorem establish (H : r.Spans q) : r.Spans q.establish := H.wr _ _ (by decide)

theorem setDelta (H : r.Spans q) (d : Int) : r.Spans (q.setDelta d) := ((H.mod _).wr TIM_TSEL_DELTA _ (by decide)).wr _ _ (by decide)

theorem switchTsel (H : r.Spans q) (b : Nat) : r.Spans (q.switchTsel b) := by
  have hsrc := H.wr TIM_TSEL_STATUS_SRC_USED b (by decide)
  have hdelta : ∀ d d' : Int, r.Spans (if (q.wr TIM_TSEL_STATUS_SRC_USED b).on TIM_TSEL_STATUS_ESTABLISHED then
      (q.wr TIM_TSEL_STATUS_SRC_USED b).setDelta d else (q.wr TIM_TSEL_STATUS_SRC_USED b).setDelta d') := by
    intro d d'
    split
    · exact hsrc.setDelta d
    · exact hsrc.setDelta d'
  unfold Run.switchTsel
  split
  · exact H
  · exact ev (when (hdelta _ _) _ fun _ => (hdelta _ _).establish) 468

theorem setBaseState (H : r.Spans q) (n st : Nat) : r.Spans (q.setBaseState n st) := by
  have hstate : r.Spans (((q.wr (TIM_TB_CTL_STATE n) st).tbMod n fun b => { b with good := 0, far := 0 }).ev (464 + n)) :=
    ev ((H.wr _ _ (unitKey_indexed (by decide))).mod _) _
  unfold Run.setBaseState
  dsimp only
  split
  · exact H
  · exact when (when hstate _ fun _ => hstate.establish) _ fun _ => switchTsel (when hstate _ fun _ => hstate.establish) _

theorem loopMeasure (H : r.Spans q) : r.Spans q.loopMeasure :=
  each _ H fun m _ _ hq => hq.free 32 fun v _ hq => hq.wr (TIM_PORT_LOOP m) v (unitKey_indexed (by decide))

end Run.Spans

/-! ## The steps of a boot -/

/-- A write outside the event registers leaves every event's status. -/
theorem Run.status_wr (r : Run s₀) (f : Fld) (v : Nat) (hf : eventKey f.key = false) {e : Nat} (he : e < 512) :
    (r.wr f v).st.status e = r.st.status e := by
  have hsame : (r.wr f v).st.rd (EVT_STATUS (e / 32)) = r.st.rd (EVT_STATUS (e / 32)) := Run.rd_wr_ne r v (eventKey_ne_status hf he).1
  rw [State.status, hsame, State.status]

theorem Run.rd_bootTo (r : Run s₀) (x : Phase) (stage : Nat) {f : Fld} (hf : f.key ≠ GLB_BOOT_STATUS_STAGE.key) :
    (r.bootTo x stage).st.rd f = r.st.rd f := Run.rd_wr_ne r stage hf

theorem Run.stage_bootTo (r : Run s₀) (x : Phase) {stage : Nat} (hs : stage < 16) : (r.bootTo x stage).st.rd GLB_BOOT_STATUS_STAGE = stage :=
  (Run.rd_wr_same r _ _).trans (Nat.mod_eq_of_lt hs)

theorem Run.status_bootTo (r : Run s₀) (x : Phase) (stage : Nat) {e : Nat} (he : e < 512) : (r.bootTo x stage).st.status e = r.st.status e :=
  Run.status_wr r GLB_BOOT_STATUS_STAGE stage (by decide) he

theorem State.KeepsBut.bootTo {r : Run s₀} (H : s.KeepsBut r.st p m h) (x : Phase) (stage : Nat) (hp : p GLB_BOOT_STATUS_STAGE.key = true)
    (hh : ∀ u : Units, h { u with glb := { u.glb with phase := x } }.quiet = h u.quiet) : s.KeepsBut (r.bootTo x stage).st p m h :=
  (H.wr _ _ (.inl hp)).glb _ hh

theorem Run.rd_imageFailed (r : Run s₀) (code : Nat) {f : Fld} (he : eventKey f.key = false) (hf : f.key ≠ GLB_BOOT_STATUS_ERROR.key) :
    (r.imageFailed code).st.rd f = r.st.rd f := (Run.rd_ev _ (by omega) he).trans (Run.rd_wr_ne r code hf)

theorem Run.error_imageFailed (r : Run s₀) (code : Nat) : (r.imageFailed code).st.rd GLB_BOOT_STATUS_ERROR = code % 256 :=
  (Run.rd_ev _ (by omega) (by decide)).trans (Run.rd_wr_same r _ _)

theorem Run.status_imageFailed (r : Run s₀) (code : Nat) : (r.imageFailed code).st.status 4 = true := Run.status_ev _ (by omega) rfl

theorem Run.quiet_imageFailed (r : Run s₀) (code : Nat) : (r.imageFailed code).u.quiet = r.u.quiet := Run.quiet_ev (r.wr GLB_BOOT_STATUS_ERROR code) (by omega)

theorem State.KeepsBut.imageFailed {r : Run s₀} (H : s.KeepsBut r.st p m h) (code : Nat) (hp : p GLB_BOOT_STATUS_ERROR.key = true) :
    s.KeepsBut (r.imageFailed code).st p m h := (H.wr _ _ (.inl hp)).ev (by omega)

theorem State.KeepsBut.fwStart {r : Run s₀} (H : s.KeepsBut r.st p m h) (image : List Byte) (slot : Nat) (hp : p GLB_BOOT_STATUS_FW_SLOT.key = true)
    (hh : ∀ (u : Units) (x : FwImage) (l : List Byte), h { u with glb := { u.glb with fw := x, fwBytes := l } }.quiet = h u.quiet) :
    s.KeepsBut (r.fwStart image slot).st p m h := (H.wr _ _ (.inl hp)).glb _ fun u => hh u _ _

/-! ## DRAM's training (R334, R335, R342) -/

/-- MEM_CFG as the training fills it. -/
def Run.memCfg (r : Run s₀) : Run s₀ :=
  (((r.wr MEM_CFG_CH_LOG2 (Nat.log2 (Config.dramBytes / 16))).wr MEM_CFG_RANKS (b2n Config.dramTwoRanks)).wr MEM_CFG_TYPE (b2n Config.dramX)).wr
    MEM_CFG_RATE (b2n r.u.glb.dramFast)

/-- Channel c at the end of the training: active, or retired. -/
def Run.channelInit (failed c : Nat) (r : Run s₀) : Run s₀ :=
  if bit failed c then (r.sat (MEM_CH_ERR_TRAIN_FAIL c)).channelRetire c 2 0 else r.channelTrained c

theorem Run.dramInit_eq (r : Run s₀) (failed : Nat) : r.dramInit failed
    = (r.memCfg.each (List.range 16) (Run.channelInit failed)).glb fun g => { g with bootRetired := popcount 16 failed } := rfl

theorem Run.channelInit_of_trained (c : Nat) (r : Run s₀) : Run.channelInit 0 c r = r.channelTrained c := by
  simp [Run.channelInit, bit]

/-- A register of no channel reads after the channels as before. -/
theorem Run.rd_channelsTrained (l : List Nat) (r : Run s₀) {f : Fld} (hs : ∀ c ∈ l, f.key ≠ (MEM_CH_STATUS_STATE c).key)
    (ht : ∀ c ∈ l, f.key ≠ (MEM_CH_STATUS_TRAIN_TEMP c).key) : (r.each l (Run.channelInit 0)).rd f = r.rd f := by
  induction l generalizing r with
  | nil => rfl
  | cons c l ih =>
    rw [Run.each_cons, ih _ (fun d hd => hs d (by simp [hd])) (fun d hd => ht d (by simp [hd])), Run.channelInit_of_trained]
    exact r.rd_channelTrained_ne (hs c (by simp)) (ht c (by simp))

/-- Every channel that was trained is active. -/
theorem Run.state_channelsTrained {l : List Nat} (hl : l.Nodup) (r : Run s₀) {c : Nat} (hc : c ∈ l) :
    (r.each l (Run.channelInit 0)).rd (MEM_CH_STATUS_STATE c) = 2 := by
  induction l generalizing r with
  | nil => exact absurd hc List.not_mem_nil
  | cons d l ih =>
    obtain ⟨hd, hl⟩ := List.nodup_cons.mp hl
    rw [Run.each_cons, Run.channelInit_of_trained]
    obtain rfl | hc := List.mem_cons.mp hc
    · rw [Run.rd_channelsTrained l _ (fun d hd' => ?_) (fun d _ => by simp; omega)]
      · exact r.state_channelTrained c
      · have : d ≠ c := fun h => hd (h ▸ hd')
        simp; omega
    · exact ih hl _ hc

theorem State.KeepsBut.channelsTrained {r : Run s₀} (H : s.KeepsBut r.st p m h) (l : List Nat) (hs : ∀ c ∈ l, p (MEM_CH_STATUS_STATE c).key = true)
    (ht : ∀ c ∈ l, p (MEM_CH_STATUS_TRAIN_TEMP c).key = true)
    (hh : ∀ (u : Units) (x : Tab Int), h { u with thm := { u.thm with trained := x } }.quiet = h u.quiet) :
    s.KeepsBut (r.each l (Run.channelInit 0)).st p m h :=
  H.each l fun c hc r H => Run.channelInit_of_trained c r ▸ H.channelTrained c (hs c hc) (ht c hc) hh

/-- A channel whose training fails is retired. -/
theorem Run.retired_channelInit (r : Run s₀) {failed c : Nat} (hc : c < 16) (hf : bit failed c = true) :
    bit ((Run.channelInit failed c r).rd MEM_CFG_RETIRED) c = true := by
  rw [Run.channelInit, if_pos hf]
  by_cases hr : (r.sat (MEM_CH_ERR_TRAIN_FAIL c)).retired c = true
  · rw [Run.channelRetire, if_pos hr]
    exact hr
  · exact ((r.sat (MEM_CH_ERR_TRAIN_FAIL c)).channelRetire_reads 2 0 hc (by simpa using hr)).2

/-- A retired channel stays retired whatever becomes of another. -/
theorem Run.retired_of_channelInit (r : Run s₀) (failed : Nat) {c d : Nat} (hc : c < 16) (hd : d < 16) (h : bit (r.rd MEM_CFG_RETIRED) c = true) :
    bit ((Run.channelInit failed d r).rd MEM_CFG_RETIRED) c = true := by
  unfold Run.channelInit
  split
  · have hsat : (r.sat (MEM_CH_ERR_TRAIN_FAIL d)).rd MEM_CFG_RETIRED = r.rd MEM_CFG_RETIRED := r.rd_sat_ne 1 (by simp; omega)
    by_cases hr : (r.sat (MEM_CH_ERR_TRAIN_FAIL d)).retired d = true
    · rw [Run.channelRetire, if_pos hr, hsat]
      exact h
    · rw [(Run.spares_channelRetire _ 2 0 (by simpa using hr)).rd _ (by decide), Run.retired_channelOut _ 2 0 hd, hsat, bit_eq_testBit,
        Nat.testBit_mod_two_pow, Nat.testBit_or, ← bit_eq_testBit, h]
      simp [hc]
  · rw [Run.rd_channelTrained_ne _ (by simp; omega) (by simp; omega)]
    exact h

theorem Run.retired_channelInits {l : List Nat} (hl : ∀ d ∈ l, d < 16) (failed : Nat) {c : Nat} (hf : bit failed c = true) (r : Run s₀)
    (hc : c < 16) (h : c ∈ l ∨ bit (r.rd MEM_CFG_RETIRED) c = true) : bit ((r.each l (Run.channelInit failed)).rd MEM_CFG_RETIRED) c = true := by
  induction l generalizing r with
  | nil => exact h.resolve_left List.not_mem_nil
  | cons d l ih =>
    have hd := hl d (by simp)
    refine ih (fun d hd => hl d (by simp [hd])) _ ?_
    obtain hm | hr := h
    · obtain rfl | hm := List.mem_cons.mp hm
      · exact .inr (r.retired_channelInit hd hf)
      · exact .inl hm
    · exact .inr (r.retired_of_channelInit failed hc hd hr)

theorem Run.rd_dramInit (r : Run s₀) (failed : Nat) (f : Fld) :
    (r.dramInit failed).rd f = (r.memCfg.each (List.range 16) (Run.channelInit failed)).rd f := by
  rw [Run.dramInit_eq, Run.glb, Run.rd_mod]

/-- Every channel whose training fails is retired at its end. -/
theorem Run.retired_dramInit (r : Run s₀) {failed c : Nat} (hc : c < 16) (hf : bit failed c = true) :
    bit ((r.dramInit failed).rd MEM_CFG_RETIRED) c = true := by
  rw [Run.rd_dramInit]
  exact Run.retired_channelInits (fun d hd => List.mem_range.mp hd) failed hf r.memCfg hc (.inl (List.mem_range.mpr hc))

theorem Run.rd_modeNone (r : Run s₀) {f : Fld} (hf : f.key ∉ [GLB_MODE_VALID.key, GLB_MODE_RATE_CEIL.key, GLB_MODE_DUAL_MAG.key, GLB_MODE_ROLE.key,
    GLB_MODE_MODE.key, GLB_NARRIC_ID_STREAM_ID.key]) : r.modeNone.rd f = r.rd f := by
  simp only [List.mem_cons, List.not_mem_nil, or_false, not_or] at hf
  obtain ⟨h1, h2, h3, h4, h5, h6⟩ := hf
  exact (Run.rd_wr_ne _ _ h6).trans ((Run.rd_wr_ne _ _ h5).trans ((Run.rd_wr_ne _ _ h4).trans ((Run.rd_wr_ne _ _ h3).trans
    ((Run.rd_wr_ne _ _ h2).trans (Run.rd_wr_ne _ _ h1)))))

theorem Run.valid_modeNone (r : Run s₀) : r.modeNone.rd GLB_MODE_VALID = 0 := by
  refine (Run.rd_wr_ne _ _ (by decide)).trans ((Run.rd_wr_ne _ _ (by decide)).trans ((Run.rd_wr_ne _ _ (by decide)).trans
    ((Run.rd_wr_ne _ _ (by decide)).trans ((Run.rd_wr_ne _ _ (by decide)).trans (Run.rd_wr_same _ _ _)))))

theorem State.KeepsBut.modeNone {r : Run s₀} (H : s.KeepsBut r.st p m h)
    (hp : ∀ f ∈ [GLB_MODE_VALID, GLB_MODE_RATE_CEIL, GLB_MODE_DUAL_MAG, GLB_MODE_ROLE, GLB_MODE_MODE, GLB_NARRIC_ID_STREAM_ID], p f.key = true)
    (hh : ∀ u : Units, h { u with glb := { u.glb with woven := [], cfg := [], streamId := 0 } }.quiet = h u.quiet) : s.KeepsBut r.modeNone.st p m h :=
  ((((((H.wr _ _ (.inl (hp _ (by simp)))).wr _ _ (.inl (hp _ (by simp)))).wr _ _ (.inl (hp _ (by simp)))).wr _ _ (.inl (hp _ (by simp)))).wr _ _
    (.inl (hp _ (by simp)))).wr _ _ (.inl (hp _ (by simp)))).glb _ hh

/-- The registers and units that a boot changes from DRAM's training to the weave. -/
def trainingKeys (k : Nat) : Bool :=
  span 0x1700000 0x1700200 k || own [GLB_BOOT_STATUS_STAGE, GLB_MODE_VALID, GLB_MODE_RATE_CEIL, GLB_MODE_DUAL_MAG, GLB_MODE_ROLE, GLB_MODE_MODE,
    GLB_NARRIC_ID_STREAM_ID] k

theorem trainingKeys_mem {k : Nat} (hlo : 0x1700000 * 8 ≤ k) (hhi : k < 0x1700200 * 8) : trainingKeys k = true := by
  simp [trainingKeys, span, hlo, hhi]

/-- A training of every channel without failure (R334, R335, R342). -/
theorem trained_spec (s : State) : (∀ c < 16, ((Run.start s).dramInit 0).rd (MEM_CH_STATUS_STATE c) = 2)
    ∧ ((Run.start s).dramInit 0).rd MEM_CFG_RATE = (if s.u.glb.dramFast then 1 else 0)
    ∧ ((Run.start s).dramInit 0).u.glb.tryBs = s.u.glb.tryBs
    ∧ ((Run.start s).dramInit 0).rd GLB_BOOT_STATUS_BOOT_SEL = s.rd GLB_BOOT_STATUS_BOOT_SEL
    ∧ s.Keeps ((Run.start s).dramInit 0).st trainingKeys fun u => { u with thm := { u.thm with trained := [] }, glb := { u.glb with
        phase := .held, bootRetired := 0, woven := [], cfg := [], streamId := 0 } } := by
  have hoff : ∀ {f : Fld}, f.key < 0x1700100 * 8 → ((Run.start s).dramInit 0).rd f = (Run.start s).memCfg.rd f := fun {f} hf => by
    rw [Run.rd_dramInit]
    exact Run.rd_channelsTrained _ _ (fun c _ => by simp; omega) fun c _ => by simp; omega
  have hkeep : ∀ {h : Units → Units}, (∀ (u : Units) (x : Tab Int), h { u with thm := { u.thm with trained := x } }.quiet = h u.quiet) →
      s.Keeps ((Run.start s).memCfg.each (List.range 16) (Run.channelInit 0)).st trainingKeys h := fun hh =>
    State.KeepsBut.channelsTrained (((((State.KeepsBut.start s).wr MEM_CFG_CH_LOG2 _ (.inl (by decide))).wr MEM_CFG_RANKS _ (.inl (by decide))).wr MEM_CFG_TYPE _
      (.inl (by decide))).wr MEM_CFG_RATE _ (.inl (by decide))) _
      (fun c hc => trainingKeys_mem (by simp; omega) (by have := List.mem_range.mp hc; simp; omega))
      (fun c hc => trainingKeys_mem (by simp; omega) (by have := List.mem_range.mp hc; simp; omega)) hh
  refine ⟨fun c hc => ?_, ?_, ?_, ?_, (hkeep fun _ _ => rfl).glb _ fun _ => rfl⟩
  · rw [Run.rd_dramInit]
    exact Run.state_channelsTrained List.nodup_range _ (List.mem_range.mpr hc)
  · rw [hoff (by decide), Run.memCfg, Run.rd_wr_same, Run.u_start]
    cases s.u.glb.dramFast <;> rfl
  · obtain ⟨-, -, -, -, hunits⟩ := hkeep (h := fun u => { u with thm := { u.thm with trained := [] } }) fun _ _ => rfl
    exact congrArg (fun u => u.glb.tryBs) hunits
  · rw [hoff (by decide), Run.memCfg, Run.rd_wr_ne _ _ (by decide), Run.rd_wr_ne _ _ (by decide), Run.rd_wr_ne _ _ (by decide),
      Run.rd_wr_ne _ _ (by decide), Run.rd_start]

/-! ## READY (R45, R46) -/

/-- READY, STAGE 6 and event 0. -/
def Run.readied (r : Run s₀) : Run s₀ := ((r.wr GLB_BOOT_STATUS_READY 1).bootTo .run 6).ev 0

/-- What a READY reports beside event 0: a fallback of the boot, and the SMBus condition. -/
def Run.readyReported (r : Run s₀) : Run s₀ :=
  (r.readied.when (!r.readied.on GLB_BOOT_STATUS_WARM && (r.readied.on GLB_BOOT_STATUS_FW_FALLBACK || r.readied.on GLB_BOOT_STATUS_NARRIC_FALLBACK))
    fun r => r.ev 5).smbCond 3

/-- The time bases after a warm reset. -/
def Run.readyTimes (r : Run s₀) : Run s₀ :=
  r.readyReported.when (r.readied.on GLB_BOOT_STATUS_WARM) fun r => (r.each (List.range 4) fun n r =>
    r.when (r.rd (TIM_TB_CTL_STATE n) != 0) fun r => r.setBaseState n 1).loopMeasure

theorem exec_ready {s : State} (hp : s.u.glb.phase = .weave) :
    exec .ready s = .next ((Run.start s).readyTimes.when ((Run.start s).readyTimes.on GLB_MODE_VALID) Run.weaveEnd).st :=
  congrArg (fun r : Run s => Host.Outcome.next r.st) (if_neg (by simp [hp]))

theorem Run.readied_reads (r : Run s₀) : r.readied.st.rd GLB_BOOT_STATUS_READY = 1 ∧ r.readied.st.rd GLB_BOOT_STATUS_STAGE = 6
    ∧ r.readied.st.status 0 = true := by
  refine ⟨?_, ?_, Run.status_ev _ (by omega) rfl⟩
  · exact (Run.rd_ev ((r.wr GLB_BOOT_STATUS_READY 1).bootTo .run 6) (e := 0) (by omega) (by decide)).trans
      ((Run.rd_bootTo _ _ _ (by decide)).trans (Run.rd_wr_same r _ _))
  · exact (Run.rd_ev ((r.wr GLB_BOOT_STATUS_READY 1).bootTo .run 6) (e := 0) (by omega) (by decide)).trans (Run.stage_bootTo _ _ (by omega))

theorem Run.rd_readied (r : Run s₀) {f : Fld} (he : eventKey f.key = false) (hr : f.key ≠ GLB_BOOT_STATUS_READY.key)
    (hs : f.key ≠ GLB_BOOT_STATUS_STAGE.key) : r.readied.st.rd f = r.st.rd f :=
  (Run.rd_ev ((r.wr GLB_BOOT_STATUS_READY 1).bootTo .run 6) (e := 0) (by omega) he).trans
    ((Run.rd_bootTo _ _ _ hs).trans (Run.rd_wr_ne r _ hr))

theorem Run.spans_readyReported (r : Run s₀) : r.readied.Spans r.readyReported :=
  (Run.Spans.when (.refl _) _ (f := fun r => r.ev 5) fun _ => (Run.Spans.refl _).ev 5).smbCond 3

theorem Run.spans_readyTimes (r : Run s₀) : r.readied.Spans r.readyTimes :=
  Run.Spans.when r.spans_readyReported _ fun _ =>
    (Run.Spans.each _ r.spans_readyReported fun n _ _ hq => hq.when _ fun _ => hq.setBaseState n 1).loopMeasure

theorem State.KeepsBut.readyReported {s' : State} {r : Run s'} (H : s.KeepsBut ((r.wr GLB_BOOT_STATUS_READY 1).bootTo .run 6).st p m h) :
    s.KeepsBut r.readyReported.st p m h :=
  State.KeepsBut.smbCond (State.KeepsBut.when (H.ev (e := 0) (by omega)) _ (f := fun r => r.ev 5) fun _ =>
    State.KeepsBut.ev (H.ev (e := 0) (by omega)) (by omega)) 3

/-- An event leaves the pending conditions of the SMBus as they are. -/
theorem Run.pending_occur (r : Run s₀) (e : Nat) : (r.occur e).rd GLB_SMB_STATUS_PENDING = r.rd GLB_SMB_STATUS_PENDING := by
  have hset : ((r.traceEvent e).hwSet (EVT_STATUS (e / 32)) (2 ^ (e % 32))).rd GLB_SMB_STATUS_PENDING = r.rd GLB_SMB_STATUS_PENDING := by
    have hk : (EVT_STATUS (e / 32)).key = (0x100000 + 0x4 * (e / 32)) * 8 + 0 := rfl
    have hp : GLB_SMB_STATUS_PENDING.key = 0x1C00 * 8 := rfl
    exact (Run.rd_wr_ne _ _ (by omega)).trans (Run.rd_traceEvent r e (by decide))
  exact (Run.rd_when _ _ (Run.rd_deliver _ e (by decide))).trans hset

theorem Run.pending_smbLine (r : Run s₀) : r.smbLine.rd GLB_SMB_STATUS_PENDING = r.rd GLB_SMB_STATUS_PENDING := by
  unfold Run.smbLine
  dsimp only
  split
  · rfl
  · exact Run.rd_when _ _ (Run.pending_occur _ 28)

/-- A condition of the SMBus alert is pending from its rise on (R70). -/
theorem Run.pending_smbCond (r : Run s₀) {k : Nat} (hk : k < 4) : bit ((r.smbCond k).st.rd GLB_SMB_STATUS_PENDING) k = true := by
  have hset : ((r.set GLB_SMB_STATUS_PENDING (2 ^ k)).glb fun g => { g with smbReleased := false }).rd GLB_SMB_STATUS_PENDING
      = (r.rd GLB_SMB_STATUS_PENDING ||| 2 ^ k) % 2 ^ 4 := Run.rd_wr_same _ _ _
  rw [show (r.smbCond k).st.rd GLB_SMB_STATUS_PENDING = _ from (Run.pending_smbLine _).trans hset, bit_eq_testBit, Nat.testBit_mod_two_pow,
    Nat.testBit_or, Nat.testBit_two_pow]
  simp [hk]

/-! ## The commands in their cases -/

/-- The copy of the boot directory in force with its generation and slots; without a valid one slot 0 of each (assumption 28). -/
def dirChosen (dir : List DirCopy) : Nat × Nat × Nat × Nat :=
  match dirInForce dir with
  | some (n, d) => (n, d.gen, d.fw.val, d.bs.val)
  | none => (0, 0, 0, 0)

/-- The firmware slot of a chosen directory is read. -/
def Run.bootFrom (r : Run s₀) (d : Nat × Nat × Nat × Nat) : Run s₀ :=
  (r.glb fun g => { g with dirCopy := d.1, dirGen := d.2.1, dirFw := d.2.2.1, dirBs := d.2.2.2, tryFw := d.2.2.1, tryBs := d.2.2.2 }).bootTo .fwLoad 1

/-- ROOT_PLL_LOCK by BOOT_SEL (Table 02-8). -/
def Run.pllLocked (r : Run s₀) (dir : List DirCopy) : Run s₀ :=
  if r.rd GLB_BOOT_STATUS_BOOT_SEL = 3 then r.bootTo .halt 8
  else if r.rd GLB_BOOT_STATUS_BOOT_SEL = 2 then r.bootTo .recovery 7
  else r.bootFrom (dirChosen dir)

theorem exec_rootPllLock {s : State} (dir : List DirCopy) (hp : s.u.glb.phase = .pll) :
    exec (.rootPllLock dir) s = .next (((Run.start s).wr CLK_REF_STATUS_ROOT_LOCK 1).pllLocked dir).st := by
  refine congrArg (fun r : Run s => Host.Outcome.next r.st) ((if_neg (by simp [hp])).trans ?_)
  rw [Run.pllLocked, dirChosen]
  cases dirInForce dir <;> rfl

/-- FIRMWARE_LOAD_DONE by its image and the fallback (R46). -/
def Run.firmwareLoaded (r : Run s₀) (image : List Byte) : Run s₀ :=
  if r.fwCheck image = 0 then (r.fwStart image r.u.glb.tryFw).bootTo .dram 3
  else if (r.imageFailed (r.fwCheck image)).on GLB_BOOT_STATUS_FW_FALLBACK = true then (r.imageFailed (r.fwCheck image)).bootTo .recovery 7
  else ((r.imageFailed (r.fwCheck image)).wr GLB_BOOT_STATUS_FW_FALLBACK 1).glb fun g => { g with tryFw := 1 - r.u.glb.tryFw }

theorem exec_firmwareLoadDone {s : State} (image : List Byte) (hp : s.u.glb.phase = .fwLoad) :
    exec (.firmwareLoadDone image) s = .next ((Run.start s).firmwareLoaded image).st :=
  congrArg (fun r : Run s => Host.Outcome.next r.st) (if_neg (by simp [hp]))

/-- DRAM_TRAINING_DONE behind the training itself: a bit-stream is read, or none is woven. -/
def Run.bootOn (r : Run s₀) : Run s₀ :=
  if r.rd GLB_BOOT_STATUS_BOOT_SEL = 0 ∧ r.u.glb.tryBs < 2 then r.bootTo .bsLoad 4 else r.modeNone.bootTo .weave 5

theorem exec_dramTrainingDone {s : State} (failed : Nat) (hp : s.u.glb.phase = .dram) :
    exec (.dramTrainingDone failed) s = .next ((Run.start s).dramInit failed).bootOn.st :=
  congrArg (fun r : Run s => Host.Outcome.next r.st) (if_neg (by simp [hp]))

/-- A bit-stream read at boot that fails its checks (R46). -/
def Run.streamFailed (r : Run s₀) (code : Nat) : Run s₀ :=
  if r.on GLB_BOOT_STATUS_NARRIC_FALLBACK = true then ((r.imageFailed code).wr GLB_BOOT_STATUS_NARRIC_FALLBACK 1).bootTo .weave 5
  else ((r.imageFailed code).wr GLB_BOOT_STATUS_NARRIC_FALLBACK 1).glb fun g => { g with tryBs := 1 - r.u.glb.tryBs }

/-- A bit-stream read at boot that passes is woven. -/
def Run.streamPassed (r : Run s₀) (image : List Byte) : Run s₀ :=
  ((r.weaveNew image (r.recsAfter image)).wr GLB_BOOT_STATUS_NARRIC_SLOT r.u.glb.tryBs).bootTo .weave 5

theorem exec_bitstreamReadDone {s : State} (image : List Byte) (hp : s.u.glb.phase = .bsLoad) :
    exec (.bitstreamReadDone image) s = .next (if (Run.start s).streamCheck image false true = 0 then (Run.start s).streamPassed image
      else (Run.start s).streamFailed ((Run.start s).streamCheck image false true)).st :=
  congrArg (fun r : Run s => Host.Outcome.next r.st) (if_neg (by simp [hp]))

/-- The recovery image, as the host wrote it (R47). -/
def State.recoveryImage (s : State) : List Byte := (List.range s.u.glb.recovLen).map fun k => s.u.glb.recov.look k 0#8

/-- The recovery check by its image. -/
def Run.recoveryChecked (r : Run s₀) (image : List Byte) : Run s₀ :=
  if r.fwCheck image = 0 then
    ((r.glb fun g => { g with recovLen := 0, tryBs := 2 }).fwStart image (r.rd GLB_BOOT_STATUS_FW_SLOT)).bootTo .dram 3
  else (r.glb fun g => { g with recovLen := 0, tryBs := 2 }).imageFailed (r.fwCheck image)

theorem exec_recoveryCheckDone {s : State} (hp : s.u.glb.phase = .recovery) (hn : s.u.glb.recovLen ≠ 0) :
    exec .recoveryCheckDone s = .next ((Run.start s).recoveryChecked s.recoveryImage).st :=
  congrArg (fun r : Run s => Host.Outcome.next r.st) (if_neg (by simp [hp, hn]))

/-! ## The statement -/

/-- Settles O16: each step writes GLB_BOOT_STATUS and the phase; the training goes channel by channel, and what a READY starts spares
the registers it shows. -/
theorem bootSequence : Obligations.BootSequence := by
  refine ⟨?lock, ?firmware, ?trained, ?retired, ?stream, ?ready, ?readyWoven, ?recovery⟩
  case lock =>
    intro s dir hp
    have hsel : ((Run.start s).wr CLK_REF_STATUS_ROOT_LOCK 1).rd GLB_BOOT_STATUS_BOOT_SEL = s.rd GLB_BOOT_STATUS_BOOT_SEL := Run.rd_wr_ne _ _ (by decide)
    have hlock : ((Run.start s).wr CLK_REF_STATUS_ROOT_LOCK 1).st.rd CLK_REF_STATUS_ROOT_LOCK = 1 := Run.rd_wr_same _ _ _
    have hkeep : s.Keeps ((Run.start s).wr CLK_REF_STATUS_ROOT_LOCK 1).st (own [CLK_REF_STATUS_ROOT_LOCK, GLB_BOOT_STATUS_STAGE]) fun u => { u with glb := { u.glb with
        phase := .held, dirCopy := 0, dirGen := 0, dirFw := 0, dirBs := 0, tryFw := 0, tryBs := 0 } } :=
      (State.KeepsBut.start s).wr _ _ (.inl (own_mem (by simp)))
    refine ⟨_, exec_rootPllLock dir hp, ?_⟩
    rw [Run.pllLocked, hsel]
    generalize (Run.start s).wr CLK_REF_STATUS_ROOT_LOCK 1 = r at hlock hkeep ⊢
    split_ifs with h3 h2
    · exact ⟨(Run.rd_bootTo _ _ _ (by decide)).trans hlock, fun _ => ⟨rfl, Run.stage_bootTo _ _ (by omega)⟩, fun h => by omega, fun h => by omega,
        hkeep.bootTo _ _ (own_mem (by simp)) fun _ => rfl⟩
    · exact ⟨(Run.rd_bootTo _ _ _ (by decide)).trans hlock, fun h => by omega, fun _ => ⟨rfl, Run.stage_bootTo _ _ (by omega)⟩, fun h => by omega,
        hkeep.bootTo _ _ (own_mem (by simp)) fun _ => rfl⟩
    · refine ⟨(Run.rd_bootTo _ _ _ (by decide)).trans hlock, fun h => absurd h h3, fun h => absurd h h2, fun _ => ⟨rfl, Run.stage_bootTo _ _ (by omega), ?_⟩,
        (hkeep.glb _ fun _ => rfl).bootTo _ _ (own_mem (by simp)) fun _ => rfl⟩
      rw [Option.all_eq_true]
      intro x hx
      have hd : dirChosen dir = (x.1, x.2.gen, x.2.fw.val, x.2.bs.val) := by rw [dirChosen, hx]
      simp [Run.bootFrom, hd, Run.bootTo, Run.glb, Run.mod, Run.wr, State.modify]
  case firmware =>
    intro s image hp
    refine ⟨_, exec_firmwareLoadDone image hp, ?_⟩
    have hkeep : ∀ l : List Fld, GLB_BOOT_STATUS_ERROR ∈ l → s.Keeps ((Run.start s).imageFailed ((Run.start s).fwCheck image)).st (own l)
        fun u => { u with glb := { u.glb with phase := .held, fw := {}, fwBytes := [], tryFw := 0 } } :=
      fun l hl => (State.KeepsBut.start s).imageFailed _ (own_mem hl)
    have hfall : ((Run.start s).imageFailed ((Run.start s).fwCheck image)).st.rd GLB_BOOT_STATUS_FW_FALLBACK = s.rd GLB_BOOT_STATUS_FW_FALLBACK :=
      Run.rd_imageFailed _ _ (by decide) (by decide)
    have herr := (Run.start s).error_imageFailed ((Run.start s).fwCheck image)
    have hev := (Run.start s).status_imageFailed ((Run.start s).fwCheck image)
    have hphase : ((Run.start s).imageFailed ((Run.start s).fwCheck image)).u.glb.phase = s.u.glb.phase :=
      congrArg (fun u => u.glb.phase) ((Run.start s).quiet_imageFailed ((Run.start s).fwCheck image))
    unfold Run.firmwareLoaded
    by_cases hc : (Run.start s).fwCheck image = 0
    · rw [if_pos hc, if_pos hc]
      exact ⟨⟨rfl, Run.stage_bootTo _ _ (by omega), (Run.rd_bootTo _ _ _ (by decide)).trans (Run.rd_wr_same _ _ _), rfl⟩,
        ((State.KeepsBut.start s).fwStart _ _ (own_mem (by simp)) fun _ _ _ => rfl).bootTo _ _ (own_mem (by simp)) fun _ => rfl⟩
    · rw [if_neg hc, if_neg hc]
      by_cases hf : s.rd GLB_BOOT_STATUS_FW_FALLBACK = 0
      · rw [if_neg (by simp [Run.on, hfall, hf]), if_pos hf]
        refine ⟨⟨(Run.rd_wr_ne _ _ (by decide)).trans herr, (Run.status_wr _ _ _ (by decide) (by omega)).trans hev, Run.rd_wr_same _ _ _, rfl,
          hphase.trans hp⟩, ((hkeep _ (by simp)).wr _ _ (.inl (own_mem (by simp)))).glb _ fun _ => rfl⟩
      · rw [if_pos (by simp [Run.on, hfall, hf]), if_neg hf]
        exact ⟨⟨(Run.rd_bootTo _ _ _ (by decide)).trans herr, (Run.status_bootTo _ _ _ (by omega)).trans hev, rfl, Run.stage_bootTo _ _ (by omega)⟩,
          (hkeep _ (by simp)).bootTo _ _ (own_mem (by simp)) fun _ => rfl⟩
  case trained =>
    intro s hp
    obtain ⟨hstate, hrate, hglb, hsel, hkeep⟩ := trained_spec s
    have hstage : GLB_BOOT_STATUS_STAGE.key = 0x10 * 8 + 24 := rfl
    refine ⟨_, exec_dramTrainingDone 0 hp, ?_⟩
    generalize (Run.start s).dramInit 0 = r at hstate hrate hglb hsel hkeep ⊢
    unfold Run.bootOn
    by_cases hload : s.rd GLB_BOOT_STATUS_BOOT_SEL = 0 ∧ s.u.glb.tryBs < 2
    · rw [if_pos (by rw [hsel, hglb]; exact hload)]
      exact ⟨fun c hc => (Run.rd_bootTo _ _ _ (by rw [hstage, MEM_CH_STATUS_STATE_key]; omega)).trans (hstate c hc), (Run.rd_bootTo _ _ _ (by decide)).trans hrate,
        fun _ _ => ⟨rfl, Run.stage_bootTo _ _ (by omega)⟩, fun hne => absurd hload.1 hne, hkeep.bootTo _ _ (by decide) fun _ => rfl⟩
    · rw [if_neg (by rw [hsel, hglb]; exact hload)]
      have hnone : ∀ f : Fld, 0x1000 * 8 ≤ f.key → (r.modeNone.bootTo .weave 5).st.rd f = r.rd f := fun f hf =>
        (Run.rd_bootTo _ _ _ (Nat.ne_of_gt (Nat.lt_of_lt_of_le (by decide) hf))).trans (Run.rd_modeNone r fun hm => by
          simp only [List.mem_cons, List.not_mem_nil, or_false] at hm
          obtain h | h | h | h | h | h := hm <;> rw [h] at hf <;> exact absurd hf (by decide))
      exact ⟨fun c hc => (hnone _ (by simp; omega)).trans (hstate c hc), (hnone _ (by decide)).trans hrate, fun h0 h1 => absurd ⟨h0, h1⟩ hload,
        fun _ => ⟨rfl, Run.stage_bootTo _ _ (by omega), (Run.rd_bootTo _ _ _ (by decide)).trans r.valid_modeNone⟩,
        (hkeep.modeNone (fun f hf => by simp only [List.mem_cons, List.not_mem_nil, or_false] at hf; obtain rfl | rfl | rfl | rfl | rfl | rfl := hf <;> decide)
          fun _ => rfl).bootTo _ _ (by decide) fun _ => rfl⟩
  case retired =>
    intro s failed c hp hc hf
    refine ⟨_, exec_dramTrainingDone failed hp, ?_⟩
    have hbit := (Run.start s).retired_dramInit hc hf
    generalize (Run.start s).dramInit failed = r at hbit ⊢
    have hsame : r.bootOn.st.rd MEM_CFG_RETIRED = r.st.rd MEM_CFG_RETIRED := by
      unfold Run.bootOn
      split
      · exact Run.rd_bootTo _ _ _ (by decide)
      · exact (Run.rd_bootTo _ _ _ (by decide)).trans (Run.rd_modeNone r (by decide))
    rwa [hsame]
  case stream =>
    intro s image hp
    refine ⟨_, exec_bitstreamReadDone image hp, ?_⟩
    by_cases hc : (Run.start s).streamCheck image false true = 0
    · rw [if_pos hc, if_pos hc]
      exact ⟨rfl, Run.stage_bootTo _ _ (by omega), (Run.rd_bootTo _ _ _ (by decide)).trans (Run.rd_wr_same _ _ _)⟩
    · rw [if_neg hc, if_neg hc]
      generalize (Run.start s).streamCheck image false true = code
      have hkeep : s.Keeps (((Run.start s).imageFailed code).wr GLB_BOOT_STATUS_NARRIC_FALLBACK 1).st
          (own [GLB_BOOT_STATUS_STAGE, GLB_BOOT_STATUS_ERROR, GLB_BOOT_STATUS_NARRIC_FALLBACK])
          fun u => { u with glb := { u.glb with phase := .held, tryBs := 0 } } :=
        ((State.KeepsBut.start s).imageFailed _ (own_mem (by simp))).wr _ _ (.inl (own_mem (by simp)))
      have herr : (((Run.start s).imageFailed code).wr GLB_BOOT_STATUS_NARRIC_FALLBACK 1).st.rd GLB_BOOT_STATUS_ERROR = code % 256 :=
        (Run.rd_wr_ne _ _ (by decide)).trans ((Run.start s).error_imageFailed code)
      have hev : (((Run.start s).imageFailed code).wr GLB_BOOT_STATUS_NARRIC_FALLBACK 1).st.status 4 = true :=
        (Run.status_wr _ _ _ (by decide) (by omega)).trans ((Run.start s).status_imageFailed code)
      have hone : (((Run.start s).imageFailed code).wr GLB_BOOT_STATUS_NARRIC_FALLBACK 1).st.rd GLB_BOOT_STATUS_NARRIC_FALLBACK = 1 := Run.rd_wr_same _ _ _
      have hphase : (((Run.start s).imageFailed code).wr GLB_BOOT_STATUS_NARRIC_FALLBACK 1).u.glb.phase = s.u.glb.phase :=
        congrArg (fun u => u.glb.phase) ((Run.start s).quiet_imageFailed code)
      unfold Run.streamFailed
      by_cases hf : s.rd GLB_BOOT_STATUS_NARRIC_FALLBACK = 0
      · rw [if_neg (by simp [Run.on, hf]), if_pos hf]
        exact ⟨herr, hev, hone, ⟨rfl, hphase.trans hp⟩, hkeep.glb _ fun _ => rfl⟩
      · rw [if_pos (by simp [Run.on, hf]), if_neg hf]
        exact ⟨(Run.rd_bootTo _ _ _ (by decide)).trans herr, (Run.status_bootTo _ _ _ (by omega)).trans hev, (Run.rd_bootTo _ _ _ (by decide)).trans hone,
          ⟨rfl, Run.stage_bootTo _ _ (by omega)⟩, hkeep.bootTo _ _ (own_mem (by simp)) fun _ => rfl⟩
  case ready =>
    intro s hp hv hw
    have hcold : (Run.start s).readied.on GLB_BOOT_STATUS_WARM = false := by
      simp [Run.on, Run.rd_readied (Run.start s) (f := GLB_BOOT_STATUS_WARM) (by decide) (by decide) (by decide), hw]
    have htimes : (Run.start s).readyTimes = (Run.start s).readyReported := by rw [Run.readyTimes, hcold, Run.when_false]
    have hnone : (Run.start s).readyTimes.on GLB_MODE_VALID = false := by
      have hrd := ((Run.start s).spans_readyTimes.rd GLB_MODE_VALID (by decide)).trans
        (Run.rd_readied (Run.start s) (by decide) (by decide) (by decide))
      simp [Run.on, show (Run.start s).readyTimes.st.rd GLB_MODE_VALID = 0 from hrd.trans hv]
    obtain ⟨hready, hstage, hev⟩ := (Run.start s).readied_reads
    have hspan := (Run.start s).spans_readyReported
    refine ⟨_, (exec_ready hp).trans (by rw [hnone, Run.when_false, htimes]), (hspan.rd _ (by decide)).trans hready, (hspan.rd _ (by decide)).trans hstage,
      ?_, hspan.status 0 (by omega) hev, fun hfall => ?_, Run.pending_smbCond _ (by omega), ?_⟩
    · have hkeep := State.KeepsBut.readyReported (.refl (p := fun _ => false) (m := fun _ => false) (h := id)
        (((Run.start s).wr GLB_BOOT_STATUS_READY 1).bootTo .run 6).st)
      obtain ⟨-, -, -, -, hunits⟩ := hkeep
      exact congrArg (fun u => u.glb.phase) hunits
    · have hon : (!(Run.start s).readied.on GLB_BOOT_STATUS_WARM
          && ((Run.start s).readied.on GLB_BOOT_STATUS_FW_FALLBACK || (Run.start s).readied.on GLB_BOOT_STATUS_NARRIC_FALLBACK)) = true := by
        rw [hcold]
        simpa [Run.on, Run.rd_readied (Run.start s) (f := GLB_BOOT_STATUS_FW_FALLBACK) (by decide) (by decide) (by decide),
          Run.rd_readied (Run.start s) (f := GLB_BOOT_STATUS_NARRIC_FALLBACK) (by decide) (by decide) (by decide)] using hfall
      rw [Run.readyReported, hon, Run.when_true]
      exact ((Run.Spans.refl _).smbCond 3).status 5 (by omega) (Run.status_ev (Run.start s).readied (by omega) rfl)
    · exact State.KeepsBut.readyReported (State.KeepsBut.bootTo ((State.KeepsBut.start s).wr _ _ (.inl (own_mem (by simp)))) _ _ (own_mem (by simp)) fun _ => rfl)
  case readyWoven =>
    intro s hp _
    obtain ⟨hready, hstage, hev⟩ := (Run.start s).readied_reads
    have hspan := (Run.start s).spans_readyTimes.when ((Run.start s).readyTimes.on GLB_MODE_VALID) fun _ => (Run.start s).spans_readyTimes.weaveEnd
    exact ⟨_, exec_ready hp, (hspan.rd _ (by decide)).trans hready, (hspan.rd _ (by decide)).trans hstage, hspan.status 0 (by omega) hev⟩
  case recovery =>
    intro s hp hn
    refine ⟨_, exec_recoveryCheckDone hp hn, ?_⟩
    have hkeep : s.Keeps ((Run.start s).glb fun g => { g with recovLen := 0, tryBs := 2 }).st
        (own [GLB_BOOT_STATUS_STAGE, GLB_BOOT_STATUS_FW_SLOT, GLB_BOOT_STATUS_ERROR])
        fun u => { u with glb := { u.glb with phase := .held, fw := {}, fwBytes := [], recovLen := 0, tryBs := 0 } } :=
      (State.KeepsBut.start s).glb _ fun _ => rfl
    unfold Run.recoveryChecked
    by_cases hc : (Run.start s).fwCheck s.recoveryImage = 0
    · rw [if_pos hc]
      refine ⟨rfl, ?_, (hkeep.fwStart _ _ (own_mem (by simp)) fun _ _ _ => rfl).bootTo _ _ (own_mem (by simp)) fun _ => rfl⟩
      show if (Run.start s).fwCheck s.recoveryImage = 0 then _ else _
      rw [if_pos hc]
      exact ⟨rfl, Run.stage_bootTo _ _ (by omega), rfl⟩
    · rw [if_neg hc]
      have hunits := Run.quiet_imageFailed ((Run.start s).glb fun g => { g with recovLen := 0, tryBs := 2 }) ((Run.start s).fwCheck s.recoveryImage)
      refine ⟨congrArg (fun u => u.glb.recovLen) hunits, ?_, hkeep.imageFailed _ (own_mem (by simp))⟩
      show if (Run.start s).fwCheck s.recoveryImage = 0 then _ else _
      rw [if_neg hc]
      exact ⟨(congrArg (fun u => u.glb.phase) hunits).trans hp, Run.error_imageFailed _ _, Run.status_imageFailed _ _⟩

end Sys2Proof.Machine
end

section
/-!
Four statements of the serial lanes and of the sensor bundles that a concrete state refutes.
-/
namespace Sys2Proof.Machine

/-! ## A DATA reach that ends a training at another position (R89, R106) -/

/-- Lane 5, which no record claims and whose own position is therefore 15, in TRAIN after both its ends have adapted: it waits for the
first reach that is no TRAIN reach. -/
def adaptedLane : State :=
  (State.reset.wr (LNK_STATUS_STATE 5) 3).modify fun u => { u with lane := [(5, { trained := true })] }

/-- Comma and header of a DATA reach in NRZ that names position 0. -/
def dataHeader : List Nat := (reachSymbols false 1 0 0 false []).take 64

/-- Refutes O29: its seventh clause ends the training at any header that is valid and not of a TRAIN reach, and keeps HDR_ERR, but the
reach that ends the training is also received: a DATA reach of another position than the lane's counts in HDR_ERR (R106,
`Run.laneReach`). `adaptedLane` becomes LINKED by `dataHeader` with HDR_ERR 1, which the clause says is kept at 0. The clause lacks the
premise that the reach is IDLE, or of the lane's own position and word phase. -/
theorem not_laneTraining : ¬ Obligations.LaneTraining := by
  rintro ⟨-, -, -, -, -, -, trains, -⟩
  obtain ⟨t, ht, -, -, -, -, -, -, hkeep, -⟩ := trains adaptedLane 5 dataHeader dataHeader 1 ⟨1, 0, 0, false⟩ [] (by decide)
    (by decide +kernel) (by decide +kernel) (by decide +kernel) (by decide +kernel) (by decide +kernel) (by decide) (by decide +kernel)
    (by decide +kernel)
  have hkept : t.rd (LNK_ERR_HDR_ERR 5) = 0 := (hkeep _ (by decide +kernel) (by decide +kernel)).1.trans (by decide +kernel)
  rw [eq_st_of_exec rfl ht] at hkept
  exact absurd hkept (by decide +kernel)

/-! ## A PRBS check behind an inverted receiver (R73, R95) -/

/-- Lane 5 in TEST with its PRBS7 checker in lock after seven bits 1, so that the pattern goes on with a 0, and with the polarity of its
receive half inverted. -/
def invertedChecker : State :=
  ([(LNK_STATUS_STATE 5, 6), (LNK_CTL_RX_INV 5, 1), (LNK_PRBS_CTL_CHK_SEL 5, 1), (LNK_PRBS_CTL_CHK_LOCK 5, 1)].foldl
    (fun s x => s.wr x.1 x.2) State.reset).modify fun u => { u with lane := [(5, { prbs := List.replicate 7 true })] }

/-- Refutes O30: its fourteenth clause compares the received bit with the pattern as it arrives, but the checker stands behind the
polarity of the receive half (R73, `Run.testBits`). In `invertedChecker` a received 0, the pattern's next bit, reaches the checker as
a 1 and is counted, where the clause says that ERRORS stays 0. The clause lacks the premises that RX_INV is 0 and that no near-end
loop takes the bits from the own generator. -/
theorem not_laneSoftware : ¬ Obligations.LaneSoftware := by
  rintro ⟨-, -, -, -, -, -, -, -, -, -, -, -, -, checks, -⟩
  obtain ⟨t, ht, -, herrors, -⟩ := checks invertedChecker 5 false false 1 (by decide +kernel) (by decide) (by decide +kernel)
    (by decide +kernel) (by decide +kernel)
  have hkept : t.rd (LNK_PRBS_ERR_ERRORS 5) = 0 := herrors.trans (by decide +kernel)
  rw [eq_st_of_exec rfl ht] at hkept
  exact absurd hkept (by decide +kernel)

/-! ## A loss of lock behind an all-IDLE set of reaches (R105, R112) -/

/-- A BUNDLE record of bundle 0: one position, on a lane, and the spares of a list (Table 04-11). -/
def oneLaneBundle (lane : Byte) (spares : List Byte) : CfgRec :=
  ⟨4, 0x0401, 0, overlay (overlay (overlay (List.replicate 64 0#8) 8 [1#8, BitVec.ofNat 8 spares.length]) 0xC [lane]) 0x18 spares⟩

/-- Bundle 0 in UP on lane 0 alone, without spares; the last reach that lane 0 delivered was IDLE. -/
def idleBundle : State :=
  ((State.reset.wr (LNK_STATUS_STATE 0) 4).wr (ITK_BND_STATUS_STATE 0) 3).modify fun u =>
    { u with glb := { u.glb with cfg := [oneLaneBundle 0#8 []] }
             itk := { u.itk with bnd := [(0, { map := [0], idle := true })] } }

/-- Refutes O32: its twelfth clause lets a loss of lock without a spare change nothing of the bundle but its wait, but the pairing of
the position lanes' reaches starts anew as well (`Run.bndLane`): reaches not yet paired are dropped, and a DATA set that follows is
no resync point by the IDLE set before the loss. In `idleBundle` the mark of the all-IDLE set ends, which the clause says is kept.
The clause lacks the premise that no reach waits for its pair and that the last set was not all IDLE. -/
theorem not_intakeBundles : ¬ Obligations.IntakeBundles := by
  rintro ⟨-, -, -, -, -, -, -, -, -, -, -, waits, -⟩
  obtain ⟨t, ht, -, -, hbundle, -⟩ := waits idleBundle 0 0 { map := [0], idle := true } (by decide +kernel) (by decide +kernel)
    (by decide +kernel) rfl rfl (by decide +kernel) (by decide +kernel)
  have hkept : (t.u.itk.bnd.look 0 {}).idle = true := congrArg BndU.idle hbundle
  rw [eq_st_of_exec rfl ht] at hkept
  exact absurd hkept (by decide +kernel)

/-! ## A map that names a lane beyond the lanes (R92, R112) -/

/-- A lane number whose event 32 + 2n has its status bit where LNK_LANE_0_STATUS.STATE stands. -/
def lanePastEvents : Nat := 0x1000000

/-- Lane 0, a trained spare of bundle 0 in ALIGN, while the bundle waits for the lane of its only position, which its map gives as
`lanePastEvents`. No command leads there: a map holds lanes of a BUNDLE record, whose numbers are single bytes. -/
def strayWaitingLane : State :=
  ([(LNK_STATUS_STATE 0, 2), (LNK_STATUS_TRAINED 0, 1), (LNK_STATUS_STATE lanePastEvents, 4), (ITK_BND_STATUS_STATE 0, 4)].foldl
    (fun s x => s.wr x.1 x.2) State.reset).modify fun u =>
    { u with glb := { u.glb with cfg := [oneLaneBundle 1#8 [0#8]] }
             itk := { u.itk with bnd := [(0, { map := [lanePastEvents], wait := [(lanePastEvents, 0)] })] } }

/-- Refutes O48: its first clause lets a bundle wait for any lane that its map names, and the spare that locks retires that lane with
its event 32 + 2n (R92, `Run.substitute`), whose status bit lies outside EVT when n is no lane. In `strayWaitingLane` lane 0 is
LINKED at the comma lock, and then the event of the lane that it replaces sets bit 0 of its STATE: 5, where the clause says 4. The
clause lacks the premise that the lanes a bundle waits for are lanes. -/
theorem not_regainedLock : ¬ Obligations.RegainedLock := by
  rintro ⟨regains, -⟩
  have hwaits : ∀ b < 8, (strayWaitingLane.u.itk.bnd.look b {}).wait.all
      (fun w => (strayWaitingLane.u.itk.bnd.look b {}).map.contains w.1) = true := by decide +kernel
  obtain ⟨t, ht, hlinked, -⟩ :=
    (regains strayWaitingLane 0 (by decide +kernel) (by decide +kernel) fun b hb _ => hwaits b hb).1 (by decide +kernel)
  rw [eq_st_of_exec rfl ht] at hlinked
  exact absurd hlinked (by decide +kernel)

end Sys2Proof.Machine
end

section
/-!
The statement of the colour engines' commands, which the statistics record behind a wrap of SEQ refutes.
-/
namespace Sys2Proof.Machine

/-! ## The statistics ring at the wrap of SEQ (R171) -/

/-- A statistics record of context 3 for a ring of two slots at 0x11000. -/
def dueRecord : StatsDue := ⟨3, 0x11000, 2, 0, 9, [1#8, 2#8], List.replicate 64 7#8⟩

/-- Context 3 has written 2^32 - 1 statistics records since the weave, so its SEQ is the last before the wrap. The next one is due, and
PIX may write in polder 5, which holds the whole ring. -/
def seqWraps : State :=
  ([(MEM_POLDER_BASE 5, 0x10000), (MEM_POLDER_SIZE 5, 0x100000), (MEM_POLDER_RIGHTS_WRITE 5, 0xFFFF),
      (PIX_CTX_STATS_SEQ_SEQ 3, 0xFFFFFFFF)].foldl (fun s x => s.wr x.1 x.2) State.reset).modify fun u =>
    { u with pix := { stats := [dueRecord], statN := [(3, 0xFFFFFFFF)] } }

/-- SEQ 1 of the 2^32-th record since the weave comes to stand in slot (2^32 - 1) mod 2 = 1 of its ring (R171), and slot 0 holds none. -/
theorem ringSeqs_statsWrite_seqWraps :
    ((Run.start seqWraps).statsWrite 3).bytes (0x11000 + statsStride + 60) 4 = le 4 1
      ∧ ((Run.start seqWraps).statsWrite 3).bytes (0x11000 + 60) 4 = le 4 0 := by
  decide +kernel

/-- Refutes O33: its fifth clause reckons the slot of a statistics record from the new SEQ, as (SEQ - 1) mod SLOTS, but R171 reckons it
from the record's number n since the weave, as (n - 1) mod SLOTS, and n is no longer SEQ once SEQ has wrapped from 0xFFFF_FFFF to 1. In
`seqWraps` the record with SEQ 1 is the 2^32-th: it goes to slot 1, and slot 0, where the clause says that SEQ 1 stands, keeps its 0. The
clause lacks n, which `PixU.statN` counts; its frame and the next clause's keep that count, though each record taken advances it. -/
theorem not_colourEngines : ¬ Obligations.ColourEngines := by
  rintro ⟨-, -, -, -, stores, -⟩
  obtain ⟨t, ht, -, hseq, -⟩ := stores seqWraps 3 5 0x11000 0xFFFFFFFF 1 dueRecord [] rfl rfl (by decide) (by decide) (by decide)
    (by decide +kernel) (by decide) (by decide) (by decide) (by decide +kernel) (by decide +kernel) (by decide +kernel)
  rw [eq_st_of_exec rfl ht] at hseq
  obtain ⟨-, hslotZero⟩ := ringSeqs_statsWrite_seqWraps
  exact absurd (hseq.symm.trans hslotZero) (by decide)

end Sys2Proof.Machine
end

section
/-!
The statement of feeds and compositions, which a feed group that a re-weave has stopped refutes.
-/
namespace Sys2Proof.Machine

/-! ## A feed group that a re-weave has stopped (R56) -/

/-- While a re-weave has stopped the units, a feed boundary changes nothing: the group sends no frame (R56). -/
theorem exec_feedBoundary_of_stopping (s : State) (g : Fin 3) (h : (Run.start s).stopping = true) : exec (.feedBoundary g) s = .next s := by
  have hrun : (Run.start s).feedBoundary g = Run.start s := by simp [Run.feedBoundary, h]
  exact congrArg (fun r : Run s => Host.Outcome.next r.st) hrun

/-- The FEEDGRP record of group 1: its frames come from composer CMP_2 and leave on four feed lanes (Table 07-7). -/
def feedGroupRecord : CfgRec := ⟨7, 0x0703, 1, overlay (List.replicate 32 0#8) 8 [0#8, 0x0F#8]⟩

/-- The COMPOSER record of CMP_2: a canvas of 40 by 3 pixels. -/
def feedComposerRecord : CfgRec := ⟨8, 0x0801, 2, overlay (List.replicate 32 0#8) 8 (le 2 40 ++ le 2 3)⟩

/-- A device at the quiescence of a full re-weave: group 1 is woven and on, its composer is idle, and no composition has completed since
its last boundary. -/
def quiescentFeed : State :=
  State.reset.modify fun u => { u with glb := { u.glb with change := .quiesce, cfg := [feedGroupRecord, feedComposerRecord] } }

/-- Refutes O35: its second clause lets a group that is on repeat its last frame at every boundary without a new composition, but a full
re-weave stops each unit at its frame boundary, from the quiescence until the weave is over (R56, `Run.stopping`). In `quiescentFeed` the
boundary changes nothing, and FED_FC of group 1 stays 0, where the clause says 1. The clause lacks the premise that no re-weave has
stopped the units. So do the clauses on the boundary of a new composition, on that of a group that is off, on the starts of feed
compositions, and on COMPOSITION_DONE of a viewfinder, whose link enters ULPS at the quiescence (`Run.linkRests`). -/
theorem not_feedsAndCompositions : ¬ Obligations.FeedsAndCompositions := by
  rintro ⟨-, repeats, -⟩
  obtain ⟨t, ht, hframe, -⟩ := repeats quiescentFeed 1 2 40 3 0 (by decide +kernel) (by decide +kernel) (.inl rfl)
    (.inl (by decide +kernel)) (by decide +kernel) rfl rfl (by decide +kernel) (by decide) (by decide) (by decide +kernel)
    (by decide) (by decide +kernel)
  obtain ⟨hcount, -⟩ := hframe
  obtain rfl : t = quiescentFeed := by injection ht.symm.trans (exec_feedBoundary_of_stopping quiescentFeed 1 rfl)
  exact absurd hcount (by decide +kernel)

end Sys2Proof.Machine
end

section
/-!
The statement of the viewfinder links, which a FORCE_FULL on a link that a re-weave has put to rest refutes.
-/
namespace Sys2Proof.Machine
variable {s₀ : State}

/-! ## FORCE_FULL on a link that a re-weave has put to rest (R56, R209) -/

/-- While a re-weave has stopped the units, no link leaves ULPS (R56). -/
theorem Run.vfWake_of_stopping (r : Run s₀) (n : Nat) (h : r.stopping = true) : r.vfWake n = r := by simp [Run.vfWake, h]

theorem Run.stopping_vfWake (r : Run s₀) (n : Nat) : (r.vfWake n).stopping = r.stopping := by
  unfold Run.vfWake Run.when
  split <;> rfl

/-- Tiles that become dirty begin no re-weave and end none. -/
theorem Run.stopping_dirty (r : Run s₀) (n : Nat) (p : Nat → Bool) : (r.dirty n p).stopping = r.stopping := by
  unfold Run.dirty Run.when
  dsimp only
  split_ifs
  · exact Run.stopping_vfWake _ n
  · rfl
  · rfl

/-- Tiles that become dirty while a re-weave has stopped the units change no register: they wake no link. -/
theorem Run.rd_dirty_of_stopping (r : Run s₀) (n : Nat) (p : Nat → Bool) (f : Fld) (h : r.stopping = true) : (r.dirty n p).rd f = r.rd f := by
  unfold Run.dirty
  split
  next => exact Run.rd_when _ _ (congrArg (fun q : Run s₀ => q.rd f) (Run.vfWake_of_stopping _ n h))
  next => rfl

/-- While a re-weave has stopped the units, FORCE_FULL changes no register, so that a link in ULPS stays there (R56). -/
theorem rd_forceFull_of_stopping {s t : State} {n : Fin 2} (h : (Run.start s).stopping = true) (ht : exec (.forceFull n) s = .next t)
    (f : Fld) : t.rd f = s.rd f := by
  have hdirty : ((Run.start s).dirtyAll n).stopping = true := (Run.stopping_dirty _ _ _).trans h
  calc t.rd f = (((Run.start s).dirtyAll n).vfWake n).rd f := by rw [eq_st_of_exec rfl ht]; rfl
    _ = ((Run.start s).dirtyAll n).rd f := by rw [Run.vfWake_of_stopping _ _ hdirty]
    _ = s.rd f := Run.rd_dirty_of_stopping _ _ _ f h

/-- The COMPOSER record of CMP_0: a canvas of 70 by 4 pixels, so of two tiles. -/
def viewfinderRecord : CfgRec := ⟨8, 0x0801, 0, overlay (List.replicate 32 0#8) 8 (le 2 70 ++ le 2 4)⟩

/-- A device at the quiescence of a full re-weave, where the link of CMP_0 has entered ULPS (R213). -/
def restingLink : State :=
  (State.reset.wr (VFD_STATUS_LINK_STATE 0) 3).modify fun u => { u with glb := { u.glb with change := .quiesce, cfg := [viewfinderRecord] } }

/-- Refutes O36: its sixth clause lets FORCE_FULL wake every link in ULPS, but a full re-weave keeps the links in ULPS from the quiescence
until the weave is over (R56, R213 and log entry 69, `Run.stopping`): only the tiles become dirty. In `restingLink` the LINK_STATE of
link 0 stays 3, where the clause says 1. The clause lacks the premise that no re-weave has stopped the units, which the ninth clause
has for VFD_CMD_GO. -/
theorem not_viewfinderLinks : ¬ Obligations.ViewfinderLinks := by
  rintro ⟨-, -, -, -, -, wakes, -⟩
  obtain ⟨t, ht, -, hstate, -⟩ := wakes restingLink 0
  have hrests : restingLink.rd (VFD_STATUS_LINK_STATE 0) = 3 := by decide +kernel
  have hkept : t.rd (VFD_STATUS_LINK_STATE 0) = restingLink.rd (VFD_STATUS_LINK_STATE 0) := rd_forceFull_of_stopping rfl ht _
  have hwoken : t.rd (VFD_STATUS_LINK_STATE 0) = 1 := hstate.trans (if_pos hrests)
  omega

end Sys2Proof.Machine
end

section
/-!
The statement of the decoder, which a CONCEALING wider than its one bit refutes.
-/
namespace Sys2Proof.Machine

/-! ## A picture decoded without concealment over a CONCEALING of 2 (R235) -/

/-- The woven record of DEC_0: polder 5, a DPB of six pictures and two output buffers, the input ring in page 1 and the buffers from page 2
on. -/
def decoderRecord : CfgRec :=
  ⟨9, 0x0902, 0, overlay (List.replicate 32 0#8) 8 ([5#8, 6#8, 2#8, 0#8] ++ le 4 0 ++ le 4 1 ++ le 4 1 ++ le 4 2)⟩

/-- The active SPS: pictures of 16 by 8 samples, 4:2:0 and 8 bits. -/
def smallSps : Sps := { profile := 2, w := 16, h := 8, rate := 1000, dpb := 4, chroma := 1, depth8 := true, ctb := 4 }

/-- A running decoder with 100 input bytes and a decoded picture behind it, in which the one bit CONCEALING holds a 2. No command leads
there: a write keeps the bits of its field's width (`State.wr`). -/
def wideConcealing : State :=
  ([(MEM_POLDER_BASE 5, 0x100000), (MEM_POLDER_SIZE 5, 0x9100000), (MEM_POLDER_RIGHTS_READ 5, 0xFFFF), (MEM_POLDER_RIGHTS_WRITE 5, 0xFFFF),
    (DEC_STATUS_RUNNING, 1), (DEC_IN_WR_WR, 100), (fldOf DEC_STATUS_CONCEALING.key, 2)].foldl (fun s x => s.wr x.1 x.2) State.reset).modify
    fun u => { u with glb := { u.glb with phase := .run, cfg := [decoderRecord] }, dec := { begun := true, sps := some smallSps, any := true } }

/-- A picture that names no missing reference and loses no CTU writes no CONCEALING (`Run.decWrite`). -/
theorem wideConcealing_decoded : ∃ r : Run wideConcealing,
    exec (.decodedPicture 50 (.picture none 0 [] [])) wideConcealing = .next r.st ∧ r.rd DEC_STATUS_CONCEALING = 2 :=
  ⟨_, rfl, by decide +kernel⟩

/-- Refutes O38: its fifteenth clause says that CONCEALING is 1 after a picture decoded without concealment wherever it was not 0 before,
but such a picture leaves CONCEALING as it was, whatever is stored there. In `wideConcealing` it stays 2. The clause lacks the premise
that CONCEALING is 0 or 1. -/
theorem not_proxyDecoder : ¬ Obligations.ProxyDecoder := by
  rintro ⟨-, -, -, -, -, -, -, -, -, -, -, -, -, -, decodes, -⟩
  obtain ⟨t, ht, ⟨-, -, -, -, hconcealing, -⟩, -⟩ := decodes wideConcealing 50 0 0 1024 none smallSps [] [] (by decide +kernel) rfl
    (.inl (by decide)) (by decide +kernel) (by decide) (by decide +kernel) (by decide +kernel)
  have hstated : t.rd DEC_STATUS_CONCEALING = 1 := hconcealing.trans (by decide +kernel)
  obtain ⟨r, hex, hkept⟩ := wideConcealing_decoded
  rw [eq_st_of_exec hex ht] at hstated
  exact absurd (hkept.symm.trans hstated) (by decide)

end Sys2Proof.Machine
end

section
/-!
The magazines after reset, and three statements of magazines and records that a concrete state refutes.
-/
namespace Sys2Proof.Machine

/-- Settles O6: the state after reset lists no magazine. -/
theorem resetKeepsGeometry : Obligations.ResetKeepsGeometry :=
  ⟨fun _ hx => absurd hx List.not_mem_nil, rfl⟩

/-! ## An IDENTIFY to a place where no drive stands (R267) -/

/-- MAG has asked the first place of lane 0 for its IDENTIFY data, as it does in the reader role, and no MAGCFG record names a drive
there. -/
def probedPlace : State :=
  State.reset.modify fun u => { u with magu := { u.magu with drv := [(0, { out := [{ opc := 3, lba := 0, count := 1, why := .ident }] })] } }

theorem probedPlace_timeout : ∃ r : Run probedPlace,
    exec (.commandTimeout 0 0) probedPlace = .next r.st ∧ r.rd (MAG_DRV_ERR_TIMEOUTS 0) = 0 :=
  ⟨_, rfl, by decide +kernel⟩

/-- Refutes O22: its sixth clause lets every timeout count, but without a MAGCFG record the timeout of an IDENTIFY only ends the command
(`execCommandTimeout`, assumption 56). In `probedPlace` TIMEOUTS of the drive stays 0. The clause lacks the premise that the command is no
IDENTIFY or that a MAGCFG record is woven. -/
theorem not_magazineDetectors : ¬ Obligations.MagazineDetectors := by
  rintro ⟨-, -, -, -, -, timesOut, -⟩
  obtain ⟨t, ht, hcounted, -⟩ := timesOut probedPlace 0 0 { opc := 3, lba := 0, count := 1, why := .ident } (by decide +kernel) rfl
    (by decide +kernel) (by decide +kernel) (by decide +kernel)
  obtain ⟨r, hex, hkept⟩ := probedPlace_timeout
  rw [eq_st_of_exec hex ht] at hcounted
  have hstated : r.rd (MAG_DRV_ERR_TIMEOUTS 0) = 1 := hcounted.trans (by decide +kernel)
  exact absurd (hkept.symm.trans hstated) (by decide)

/-! ## A record armed on a magazine that does not exist -/

/-- A RECORD-START on queue 1. -/
def startCommand : Cmd := { no := 5, q := 1, urgent := false, entry := overlay (List.replicate 64 0#8) 0 (le 1 0x11), started := true }

/-- An armed record in a running device in which the one bit ACTIVE_MAG holds 0x3FFFC, and the place where READY of that magazine would
stand, above the registers of MAG, holds a 1. No command leads there: a write keeps the bits of its field's width (`State.wr`). -/
def strayMagazine : State :=
  ([(QIF_Q_STATUS_STATE 1, 1), (MAG_REC_STATUS_STATE, 1), (fldOf MAG_REC_STATUS_ACTIVE_MAG.key, 0x3FFFC),
    (MAG_MAG_STATUS_READY 0x3FFFC, 1)].foldl (fun s x => s.wr x.1 x.2) State.reset).modify
    fun u => { u with glb := { u.glb with phase := .run }
                      qif := { u.qif with q := [(1, { depth := 16, cq := 0x1000 })], cmds := [startCommand] } }

theorem strayMagazine_starts : ∃ r : Run strayMagazine,
    exec .recordStart strayMagazine = .next r.st ∧ r.rd (MAG_MAG_STATUS_READY 0x3FFFC) = 0 :=
  ⟨_, rfl, by decide +kernel⟩

/-- Refutes O23: its fourth clause holds for every armed record, but the start of a clip also follows the status of the magazine that
ACTIVE_MAG names (`Run.magSync`), whatever is stored there. In `strayMagazine` that clears a bit above the registers of MAG, which the
clause says is kept. The clause lacks the premise that ACTIVE_MAG is 0 or 1. -/
theorem not_recordCommands : ¬ Obligations.RecordCommands := by
  rintro ⟨-, -, -, starts, -⟩
  obtain ⟨t, ht, -, -, -, -, -, -, hkeep, -⟩ := starts strayMagazine startCommand (by decide +kernel) (by decide +kernel)
    (by decide +kernel) (by decide +kernel) (by decide +kernel) rfl (by decide +kernel)
  have hkept : t.rd (MAG_MAG_STATUS_READY 0x3FFFC) = 1 := (hkeep _ (by decide +kernel) (by decide +kernel)).1.trans (by decide +kernel)
  obtain ⟨r, hex, hcleared⟩ := strayMagazine_starts
  rw [eq_st_of_exec hex ht] at hkept
  exact absurd (hcleared.symm.trans hkept) (by decide)

/-! ## A write to a stripe that is listed twice -/

/-- A WRITE-EXTENT of 4,096 bytes at the start of handle 0's segment, on queue 1. -/
def writeCommand : Cmd :=
  { no := 5, q := 1, urgent := false, started := true,
    entry := overlay (overlay (List.replicate 64 0#8) 0 (le 1 0x16)) 0x28 (le 4 4096) }

/-- A write handle on a segment of one block at stripe 0 of magazine 0. -/
def writeHandle : Handle := { mag := 0, id := 3, seg := 0, startG := 0, len := 4096, write := true }

/-- A device with that handle and command, while the table of magazine 0's stripes lists stripe 1 before stripe 0, which can never become
durable. No command leads there: the keys of a table rise. -/
def unsortedStripes : State :=
  (State.reset.wr (QIF_Q_STATUS_STATE 1) 1).modify fun u =>
    { u with
      qif := { u.qif with q := [(1, { depth := 16, cq := 0x1000 })], cmds := [writeCommand], handles := [(0, writeHandle)] }
      magu := { u.magu with
        mag := [(0, { geo := [⟨0, 1, 0, [0xFF]⟩], stripes := [(1, { left := [] }), (0, { left := [], dead := true })] })] } }

theorem unsortedStripes_written : ∃ r : Run unsortedStripes,
    exec (.writeExtent ⟨true, [], []⟩) unsortedStripes = .next r.st ∧ r.u.qif.staged = [] :=
  ⟨_, rfl, by decide +kernel⟩

/-- Refutes O25: its ninth clause holds for every state, and a stripe that can never become durable may be written again. In
`unsortedStripes` stripe 0 is entered anew, before stripe 1, so that its old entry stays and ends the write at once (`Run.stagedEnd`),
where the clause says that it is staged. The clause lacks the premise that the stripes' keys rise. -/
theorem not_handlesAndExtents : ¬ Obligations.HandlesAndExtents := by
  rintro ⟨-, -, -, -, -, -, -, -, writes, -⟩
  obtain ⟨t, ht, -, -, hstaged, -⟩ := writes unsortedStripes ⟨true, [], []⟩ writeCommand writeHandle 0 0 4096 [0] (by decide +kernel)
    (by decide +kernel) (by decide +kernel) (by decide +kernel) rfl rfl (by decide) rfl rfl (by decide +kernel) (by decide +kernel)
    (by decide) (by decide) (by decide +kernel) (by decide +kernel) (by decide +kernel)
  obtain ⟨r, hex, hended⟩ := unsortedStripes_written
  rw [eq_st_of_exec hex ht] at hstaged
  exact List.cons_ne_nil _ _ (hstaged.symm.trans hended)

end Sys2Proof.Machine
end

section
/-!
PROOFS. O5: every step keeps the rings and drives of each magazine's geometry within one byte.

Only four things give a magazine a geometry: the weave and FORMAT (from the RING records, R247), the identification of a magazine
(from the records or from the labels, R272) and REBUILD (R291). Each of them names rings and drives by numbers of one byte. A reset
leaves no magazine. Everything else that a run does keeps every geometry: for each function `f` of the model `Run.geoOk_f` says that
the geometries are in order after `f` exactly when they were before it, and simp reads a command from its end to its start.
-/
namespace Sys2Proof

namespace Tab
variable {α β : Type}

/-- What holds of every entry of a table and of the default holds of what a lookup finds. -/
theorem look_of_forall (t : Tab α) (n : Nat) (d : α) (P : α → Prop) (hd : P d) (h : ∀ x ∈ t, P x.2) : P (t.look n d) := by
  induction t with
  | nil => exact hd
  | cons e t ih =>
    obtain ⟨k, w⟩ := e
    rw [List.forall_mem_cons] at h
    unfold Tab.look
    split
    · exact h.1
    · exact ih h.2

/-- A change of one entry that keeps a part of it keeps what holds of that part in every entry. -/
theorem forall_put_iff (t : Tab α) (n : Nat) (v d : α) (g : α → β) (P : β → Prop) (hd : P (g d)) (hv : g v = g (t.look n d)) :
    (∀ x ∈ t.put n v, P (g x.2)) ↔ ∀ x ∈ t, P (g x.2) := by
  induction t with
  | nil => simpa [Tab.put, hv, Tab.look] using hd
  | cons e t ih =>
    obtain ⟨k, w⟩ := e
    unfold Tab.put
    unfold Tab.look at hv
    split_ifs with hlt heq
    · rw [List.forall_mem_cons]
      refine and_iff_right_of_imp fun h => ?_
      rw [List.forall_mem_cons] at h
      rw [hv, if_neg (by omega)]
      exact look_of_forall t n d (fun x => P (g x)) hd h.2
    · rw [if_pos heq.symm] at hv
      simp only [List.forall_mem_cons, hv]
    · rw [if_neg (Ne.symm heq)] at hv
      simp only [List.forall_mem_cons, ih hv]

end Tab

namespace Machine
variable {s₀ : State}

/-- The rings of a geometry and their drives have numbers of one byte. -/
def InByte (l : List Geo) : Prop := ∀ g ∈ l, g.idx < 256 ∧ ∀ d ∈ g.members, d < 256

theorem inByte_nil : InByte [] := fun _ hg => absurd hg List.not_mem_nil

/-- The geometries of a run's state are in order. -/
def Run.GeoOk (r : Run s₀) : Prop := r.st.geoOk

/-! ## What changes a run -/

@[simp] theorem Run.geoOk_wr (r : Run s₀) (f : Fld) (v : Nat) : (r.wr f v).GeoOk ↔ r.GeoOk := .rfl
@[simp] theorem Run.geoOk_wrA (r : Run s₀) (f : Fld) (v : Nat) : (r.wrA f v).GeoOk ↔ r.GeoOk := .rfl
@[simp] theorem Run.geoOk_poke (r : Run s₀) (a : Nat) (b : Byte) : (r.poke a b).GeoOk ↔ r.GeoOk := .rfl
@[simp] theorem Run.geoOk_emit (r : Run s₀) (o : Out) : (r.emit o).GeoOk ↔ r.GeoOk := .rfl
@[simp] theorem Run.geoOk_tick (r : Run s₀) (n : Nat) : (r.tick n).GeoOk ↔ r.GeoOk := .rfl
@[simp] theorem Run.geoOk_glb (r : Run s₀) (f : Glb → Glb) : (r.glb f).GeoOk ↔ r.GeoOk := .rfl
@[simp] theorem Run.geoOk_evt (r : Run s₀) (f : Evt → Evt) : (r.evt f).GeoOk ↔ r.GeoOk := .rfl
@[simp] theorem Run.geoOk_thm (r : Run s₀) (f : Thm → Thm) : (r.thm f).GeoOk ↔ r.GeoOk := .rfl
@[simp] theorem Run.geoOk_tim (r : Run s₀) (f : Tim → Tim) : (r.tim f).GeoOk ↔ r.GeoOk := .rfl
@[simp] theorem Run.geoOk_mon (r : Run s₀) (f : Mon → Mon) : (r.mon f).GeoOk ↔ r.GeoOk := .rfl
@[simp] theorem Run.geoOk_memu (r : Run s₀) (f : MemU → MemU) : (r.memu f).GeoOk ↔ r.GeoOk := .rfl
@[simp] theorem Run.geoOk_dma (r : Run s₀) (f : DmaU → DmaU) : (r.dma f).GeoOk ↔ r.GeoOk := .rfl
@[simp] theorem Run.geoOk_qif (r : Run s₀) (f : QifU → QifU) : (r.qif f).GeoOk ↔ r.GeoOk := .rfl
@[simp] theorem Run.geoOk_itk (r : Run s₀) (f : ItkU → ItkU) : (r.itk f).GeoOk ↔ r.GeoOk := .rfl

@[simp] theorem Run.geoOk_mod (r : Run s₀) (f : Units → Units) (h : ∀ u, (f u).magu.mag = u.magu.mag) :
    (r.mod f).GeoOk ↔ r.GeoOk := by
  unfold Run.GeoOk State.geoOk
  rw [show (r.mod f).st.u.magu.mag = r.st.u.magu.mag from h r.u]

@[simp] theorem Run.geoOk_mag (r : Run s₀) (f : MagU → MagU) (h : ∀ m, (f m).mag = m.mag) : (r.mag f).GeoOk ↔ r.GeoOk :=
  Run.geoOk_mod r _ fun u => h u.magu

@[simp] theorem Run.geoOk_magzMod (r : Run s₀) (m : Nat) (f : MagzU → MagzU) (h : ∀ z, (f z).geo = z.geo) :
    (r.magzMod m f).GeoOk ↔ r.GeoOk :=
  Tab.forall_put_iff r.u.magu.mag m _ {} MagzU.geo InByte inByte_nil (h _)

@[simp] theorem Run.geoOk_ite (c : Prop) [Decidable c] (a b : Run s₀) :
    (if c then a else b).GeoOk ↔ if c then a.GeoOk else b.GeoOk := by
  split <;> exact .rfl

@[simp] theorem Run.geoOk_when (r : Run s₀) (c : Bool) (f : Run s₀ → Run s₀) :
    (r.when c f).GeoOk ↔ if c = true then (f r).GeoOk else r.GeoOk := by
  cases c <;> exact .rfl

@[simp] theorem Run.geoOk_elim {α : Type} (o : Option α) (r : Run s₀) (f : α → Run s₀) (h : ∀ a, (f a).GeoOk ↔ r.GeoOk) :
    (o.elim r f).GeoOk ↔ r.GeoOk := by
  cases o with
  | none => exact .rfl
  | some a => exact h a

@[simp] theorem Run.geoOk_each {α : Type} (l : List α) (f : α → Run s₀ → Run s₀) (h : ∀ a r, (f a r).GeoOk ↔ r.GeoOk) (r : Run s₀) :
    (r.each l f).GeoOk ↔ r.GeoOk := by
  induction l generalizing r with
  | nil => exact .rfl
  | cons a l ih => exact (ih (f a r)).trans (h a r)

@[simp] theorem Run.geoOk_foldl {α : Type} (l : List α) (f : Run s₀ → α → Run s₀) (h : ∀ r a, (f r a).GeoOk ↔ r.GeoOk) (r : Run s₀) :
    (l.foldl f r).GeoOk ↔ r.GeoOk :=
  Run.geoOk_each l (fun a r => f r a) (fun a r => h r a) r

@[simp] theorem Run.geoOk_free (r : Run s₀) (w : Nat) (f : Nat → Run s₀ → Run s₀) (h : ∀ v r, (f v r).GeoOk ↔ r.GeoOk) :
    (r.free w f).GeoOk ↔ r.GeoOk := h _ _

theorem Run.geoOk_each_of {α : Type} (l : List α) (f : α → Run s₀ → Run s₀) (h : ∀ a r, r.GeoOk → (f a r).GeoOk) (r : Run s₀)
    (hr : r.GeoOk) : (r.each l f).GeoOk := by
  induction l generalizing r with
  | nil => exact hr
  | cons a l ih => exact ih _ (h a r hr)

theorem Run.geoOk_free_of (r : Run s₀) (w : Nat) (f : Nat → Run s₀ → Run s₀) (h : ∀ v r, r.GeoOk → (f v r).GeoOk) (hr : r.GeoOk) :
    (r.free w f).GeoOk := h _ _ hr

/-! ## Where geometries come from -/

theorem Run.geoOk_of_mag_nil (r : Run s₀) (h : r.u.magu.mag = []) : r.GeoOk := by
  intro x hx
  rw [show r.st.u.magu.mag = [] from h] at hx
  cases hx

theorem Run.GeoOk.inByte {r : Run s₀} (h : r.GeoOk) (m : Nat) : InByte (r.magz m).geo :=
  Tab.look_of_forall r.u.magu.mag m {} (fun z => InByte z.geo) inByte_nil h

theorem Run.geoOk_magzMod_of (r : Run s₀) (m : Nat) (f : MagzU → MagzU) (hr : r.GeoOk) (hf : InByte (f (r.magz m)).geo) :
    (r.magzMod m f).GeoOk := by
  intro x hx
  rcases Tab.mem_put _ _ _ x hx with rfl | hx
  · exact hf
  · exact hr x hx

theorem field_one_lt (l : List Byte) (off : Nat) : field l off 1 < 256 := by
  unfold field
  rcases l.drop off with _ | ⟨b, t⟩
  · simp [ofLe]
  · simpa [ofLe] using b.isLt

/-- RING records give numbers of one byte (R247). -/
theorem Run.inByte_cfgGeo (r : Run s₀) (m : Nat) : InByte (r.cfgGeo m) := by
  intro g hg
  simp only [Run.cfgGeo, List.mem_map, List.mem_filter, List.mem_range] at hg
  obtain ⟨i, ⟨hi, -⟩, rfl⟩ := hg
  refine ⟨Nat.lt_trans hi (by decide), fun d hd => ?_⟩
  obtain ⟨j, -, rfl⟩ := List.mem_map.mp hd
  exact field_one_lt _ _

/-- Labels place the drives that hold them, and an absent drive reads 0xFF (R272). -/
theorem inByte_labelGeo (seen : List (Nat × Label)) (h : ∀ x ∈ seen, x.1 < 256) : InByte (labelGeo seen) := by
  intro g hg
  simp only [labelGeo, List.mem_map, List.mem_filter, List.mem_range] at hg
  obtain ⟨i, ⟨hi, -⟩, rfl⟩ := hg
  refine ⟨Nat.lt_trans hi (by decide), fun d hd => ?_⟩
  obtain ⟨j, -, rfl⟩ := List.mem_map.mp hd
  split
  · next x hx => exact h x (List.mem_of_find?_eq_some hx)
  · decide

/-- What an identification takes as a magazine's geometry: the labels of its drives in the reader role, else the records (R272). -/
theorem Run.inByte_identified (r : Run s₀) (m : Nat) (drives : List Nat) (h : ∀ d ∈ drives, d < 256) :
    InByte (if r.reader then labelGeo (drives.filterMap fun d => (r.drvLabel d).map fun l => (d, l)) else r.cfgGeo m) := by
  split
  · refine inByte_labelGeo _ fun x hx => ?_
    obtain ⟨d, hd, hl⟩ := List.mem_filterMap.mp hx
    obtain ⟨l, -, rfl⟩ := Option.map_eq_some_iff.mp hl
    exact h d hd
  · exact r.inByte_cfgGeo m

/-- A drive put in the place of a removed one (R291). -/
theorem inByte_set {l : List Geo} (h : InByte l) (ring slot : Nat) {d : Nat} (hd : d < 256) :
    InByte (l.map fun x => if x.idx = ring then { x with members := x.members.set slot d } else x) := by
  intro g hg
  obtain ⟨x, hx, rfl⟩ := List.mem_map.mp hg
  obtain ⟨hidx, hmem⟩ := h x hx
  split
  · exact ⟨hidx, fun y hy => (List.mem_or_eq_of_mem_set hy).elim (hmem y) fun e => e ▸ hd⟩
  · exact ⟨hidx, hmem⟩

theorem Run.chain_lt (r : Run s₀) (l : Nat) : r.chain l < 16 := by
  unfold Run.chain
  split
  · exact Nat.mod_lt _ (by decide)
  · split <;> decide

/-- The drives behind a magazine's lanes have numbers of one byte (R240). -/
theorem Run.drive_lt_of_mem_magLanes (r : Run s₀) (m : Nat) {d : Nat}
    (hd : d ∈ (r.magLanes m).flatMap fun l => (List.range (r.chain l)).map fun p => 4 * l + p) : d < 256 := by
  simp only [Run.magLanes, Run.span, List.mem_flatMap, List.mem_filter, List.mem_map, List.mem_range] at hd
  obtain ⟨l, ⟨⟨hl, -⟩, -⟩, p, hp, rfl⟩ := hd
  have := r.chain_lt l
  omega

/-! ## Writes and DRAM -/

@[simp] theorem Run.geoOk_wrS (r : Run s₀) (f : Fld) (v : Int) : (r.wrS f v).GeoOk ↔ r.GeoOk := by simp [Run.wrS]
@[simp] theorem Run.geoOk_wrBoth (r : Run s₀) (f : Fld) (v : Nat) : (r.wrBoth f v).GeoOk ↔ r.GeoOk := by simp [Run.wrBoth]
@[simp] theorem Run.geoOk_sat (r : Run s₀) (f : Fld) (n : Nat) : (r.sat f n).GeoOk ↔ r.GeoOk := by simp [Run.sat]
@[simp] theorem Run.geoOk_inc (r : Run s₀) (f : Fld) (n : Nat) : (r.inc f n).GeoOk ↔ r.GeoOk := by simp [Run.inc]
@[simp] theorem Run.geoOk_set (r : Run s₀) (f : Fld) (m : Nat) : (r.set f m).GeoOk ↔ r.GeoOk := by simp [Run.set]
@[simp] theorem Run.geoOk_clear (r : Run s₀) (f : Fld) (m : Nat) : (r.clear f m).GeoOk ↔ r.GeoOk := by simp [Run.clear]

@[simp] theorem Run.geoOk_storeBytes (r : Run s₀) (a : Nat) (bs : List Byte) : (r.storeBytes a bs).GeoOk ↔ r.GeoOk := by
  induction bs generalizing r a with
  | nil => exact .rfl
  | cons b bs ih => simp [Run.storeBytes, ih]

@[simp] theorem Run.geoOk_emits (r : Run s₀) (l : List Out) : (r.emits l).GeoOk ↔ r.GeoOk :=
  Run.geoOk_each l (fun o r => r.emit o) (fun _ _ => .rfl) r

@[simp] theorem Run.geoOk_wrSat (r : Run s₀) (f : Fld) (v : Int) : (r.wrSat f v).GeoOk ↔ r.GeoOk := by simp [Run.wrSat]
@[simp] theorem Run.geoOk_hwSet (r : Run s₀) (f : Fld) (m : Nat) : (r.hwSet f m).GeoOk ↔ r.GeoOk := by simp [Run.hwSet]
@[simp] theorem Run.geoOk_w1c (r : Run s₀) (f : Fld) (m : Nat) : (r.w1c f m).GeoOk ↔ r.GeoOk := by simp [Run.w1c]

/-! ## Events, breach records and cofferdams -/

@[simp] theorem Run.geoOk_toHost (r : Run s₀) (o : Out) : (r.toHost o).GeoOk ↔ r.GeoOk := by simp [Run.toHost]
@[simp] theorem Run.geoOk_toHostAll (r : Run s₀) : r.toHostAll.GeoOk ↔ r.GeoOk := by simp [Run.toHostAll]
@[simp] theorem Run.geoOk_sendMsix (r : Run s₀) (v : Nat) : (r.sendMsix v).GeoOk ↔ r.GeoOk := by simp [Run.sendMsix]
@[simp] theorem Run.geoOk_eventOut (r : Run s₀) (k : Nat) (level : Bool) : (r.eventOut k level).GeoOk ↔ r.GeoOk := by simp [Run.eventOut]
@[simp] theorem Run.geoOk_eventPins (r : Run s₀) (mask : Nat) : (r.eventPins mask).GeoOk ↔ r.GeoOk := by simp [Run.eventPins]
@[simp] theorem Run.geoOk_deliver (r : Run s₀) (e : Nat) : (r.deliver e).GeoOk ↔ r.GeoOk := by simp [Run.deliver, Run.eventMsix]
@[simp] theorem Run.geoOk_occur (r : Run s₀) (e : Nat) : (r.occur e).GeoOk ↔ r.GeoOk := by simp [Run.occur, Run.traceEvent]
@[simp] theorem Run.geoOk_smbLine (r : Run s₀) : r.smbLine.GeoOk ↔ r.GeoOk := by simp [Run.smbLine]
@[simp] theorem Run.geoOk_smbCond (r : Run s₀) (k : Nat) : (r.smbCond k).GeoOk ↔ r.GeoOk := by simp [Run.smbCond]
@[simp] theorem Run.geoOk_ev (r : Run s₀) (e : Nat) : (r.ev e).GeoOk ↔ r.GeoOk := by simp [Run.ev]
@[simp] theorem Run.geoOk_ignored (r : Run s₀) : r.ignored.GeoOk ↔ r.GeoOk := by simp [Run.ignored]

@[simp] theorem Run.geoOk_breach (r : Run s₀) (b : Breach) : (r.breach b).GeoOk ↔ r.GeoOk := by
  unfold Run.breach
  dsimp only
  split <;> simp

@[simp] theorem Run.geoOk_requestService (r : Run s₀) : r.requestService.GeoOk ↔ r.GeoOk := by simp [Run.requestService]

@[simp] theorem Run.geoOk_cofferdam (r : Run s₀) (type index : Nat) : (r.cofferdam type index).GeoOk ↔ r.GeoOk := by
  unfold Run.cofferdam
  split <;> simp

@[simp] theorem Run.geoOk_endCofferdams (r : Run s₀) (p : Nat → Bool) : (r.endCofferdams p).GeoOk ↔ r.GeoOk := by simp [Run.endCofferdams]

@[simp] theorem Run.geoOk_internalFault (r : Run s₀) (type index : Nat) : (r.internalFault type index).2.GeoOk ↔ r.GeoOk := by
  unfold Run.internalFault
  dsimp only
  split <;> simp

/-! ## Register accesses -/

@[simp] theorem Run.geoOk_writeField (r : Run s₀) (f : Fld) (a : Acc) (own : Bool) (v : Nat) :
    (r.writeField f a own v).GeoOk ↔ r.GeoOk := by
  unfold Run.writeField
  (repeat' split) <;> simp

@[simp] theorem Run.geoOk_writeFields (r : Run s₀) (h : Hit) (lo n v : Nat) : (r.writeFields h lo n v).GeoOk ↔ r.GeoOk := by
  simp [Run.writeFields]

@[simp] theorem Run.geoOk_clearOnRead (r : Run s₀) (h : Hit) (lo n : Nat) : (r.clearOnRead h lo n).GeoOk ↔ r.GeoOk := by
  simp [Run.clearOnRead]

/-! ## DRAM, polders and parity -/

@[simp] theorem Run.geoOk_refused (r : Run s₀) (u a event detector : Nat) : (r.refused u a event detector).GeoOk ↔ r.GeoOk := by
  simp [Run.refused]

@[simp] theorem Run.geoOk_uncorrectable (r : Run s₀) (b : Nat) : (r.uncorrectable b).GeoOk ↔ r.GeoOk := by simp [Run.uncorrectable]

@[simp] theorem Run.geoOk_poisonRead (r : Run s₀) (a n : Nat) : (r.poisonRead a n).GeoOk ↔ r.GeoOk := by
  unfold Run.poisonRead
  split <;> simp

@[simp] theorem Run.geoOk_load? (r : Run s₀) (u a n : Nat) (f : Got → Run s₀ → Run s₀) (hf : ∀ a r, (f a r).GeoOk ↔ r.GeoOk) :
    (r.load? u a n f).GeoOk ↔ r.GeoOk := by
  simp [Run.load?, hf]

@[simp] theorem Run.geoOk_rawStore_go (a : Nat) (bs : List Byte) (r : Run s₀) : (Run.rawStore.go a bs r).GeoOk ↔ r.GeoOk := by
  induction bs generalizing a r with
  | nil => exact .rfl
  | cons b bs ih => simp [Run.rawStore.go, ih]

@[simp] theorem Run.geoOk_rawStore (r : Run s₀) (a : Nat) (bs : List Byte) : (r.rawStore a bs).GeoOk ↔ r.GeoOk := by simp [Run.rawStore]
@[simp] theorem Run.geoOk_store? (r : Run s₀) (u a : Nat) (bs : List Byte) : (r.store? u a bs).GeoOk ↔ r.GeoOk := by simp [Run.store?]
@[simp] theorem Run.geoOk_recPoke (r : Run s₀) (base a : Nat) (b : Byte) : (r.recPoke base a b).GeoOk ↔ r.GeoOk := by simp [Run.recPoke]

/-! ## Time bases, PTP and networks -/

@[simp] theorem Run.geoOk_tbMod (r : Run s₀) (n : Nat) (f : Tb → Tb) : (r.tbMod n f).GeoOk ↔ r.GeoOk := by simp [Run.tbMod]
@[simp] theorem Run.geoOk_updateEff (r : Run s₀) (n : Nat) : (r.updateEff n).GeoOk ↔ r.GeoOk := by simp [Run.updateEff]
@[simp] theorem Run.geoOk_setDelta (r : Run s₀) (d : Int) : (r.setDelta d).GeoOk ↔ r.GeoOk := by simp [Run.setDelta]
@[simp] theorem Run.geoOk_tclk (r : Run s₀) (n : Nat) : (r.tclk n).GeoOk ↔ r.GeoOk := by simp [Run.tclk]
@[simp] theorem Run.geoOk_stepBase (r : Run s₀) (n : Nat) (v : Int) : (r.stepBase n v).GeoOk ↔ r.GeoOk := by simp [Run.stepBase]
@[simp] theorem Run.geoOk_establish (r : Run s₀) : r.establish.GeoOk ↔ r.GeoOk := by simp [Run.establish]
@[simp] theorem Run.geoOk_switchTsel (r : Run s₀) (b : Nat) : (r.switchTsel b).GeoOk ↔ r.GeoOk := by simp [Run.switchTsel]
@[simp] theorem Run.geoOk_setBaseState (r : Run s₀) (n st : Nat) : (r.setBaseState n st).GeoOk ↔ r.GeoOk := by simp [Run.setBaseState]
@[simp] theorem Run.geoOk_sourcePresent (r : Run s₀) (n : Nat) : (r.sourcePresent n).GeoOk ↔ r.GeoOk := by simp [Run.sourcePresent]
@[simp] theorem Run.geoOk_servoEnable (r : Run s₀) (n : Nat) : (r.servoEnable n).GeoOk ↔ r.GeoOk := by simp [Run.servoEnable]
@[simp] theorem Run.geoOk_loseSource (r : Run s₀) (n : Nat) : (r.loseSource n).GeoOk ↔ r.GeoOk := by simp [Run.loseSource]
@[simp] theorem Run.geoOk_writeIncr (r : Run s₀) (n v : Nat) : (r.writeIncr n v).GeoOk ↔ r.GeoOk := by simp [Run.writeIncr]
@[simp] theorem Run.geoOk_writeStep (r : Run s₀) (n v : Nat) : (r.writeStep n v).GeoOk ↔ r.GeoOk := by simp [Run.writeStep]
@[simp] theorem Run.geoOk_steer (r : Run s₀) (n : Nat) : (r.steer n).GeoOk ↔ r.GeoOk := by simp [Run.steer]
@[simp] theorem Run.geoOk_writeSrc (r : Run s₀) (b : Nat) : (r.writeSrc b).GeoOk ↔ r.GeoOk := by simp [Run.writeSrc]
@[simp] theorem Run.geoOk_snapTime (r : Run s₀) : r.snapTime.GeoOk ↔ r.GeoOk := by simp [Run.snapTime]
@[simp] theorem Run.geoOk_discardFrame (r : Run s₀) (port : Nat) : (r.discardFrame port).GeoOk ↔ r.GeoOk := by simp [Run.discardFrame]
@[simp] theorem Run.geoOk_setJam (r : Run s₀) (d j : Nat) : (r.setJam d j).GeoOk ↔ r.GeoOk := by simp [Run.setJam]
@[simp] theorem Run.geoOk_igmpReport (r : Run s₀) (port : Nat) : (r.igmpReport port).GeoOk ↔ r.GeoOk := by simp [Run.igmpReport]

@[simp] theorem Run.geoOk_ptpIn (r : Run s₀) (port domain : Nat) (f : Nat → Run s₀ → Run s₀) (hf : ∀ d r, (f d r).GeoOk ↔ r.GeoOk) :
    (r.ptpIn port domain f).GeoOk ↔ r.GeoOk := by
  unfold Run.ptpIn
  split <;> simp [hf]

/-! ## Audio ports -/

@[simp] theorem Run.geoOk_auMod (r : Run s₀) (p : Nat) (f : AuPort → AuPort) : (r.auMod p f).GeoOk ↔ r.GeoOk := by simp [Run.auMod]
@[simp] theorem Run.geoOk_auState (r : Run s₀) (p st : Nat) : (r.auState p st).GeoOk ↔ r.GeoOk := by simp [Run.auState]
@[simp] theorem Run.geoOk_auRun (r : Run s₀) (p : Nat) : (r.auRun p).GeoOk ↔ r.GeoOk := by simp [Run.auRun]
@[simp] theorem Run.geoOk_auStart (r : Run s₀) (p : Nat) : (r.auStart p).GeoOk ↔ r.GeoOk := by simp [Run.auStart]
@[simp] theorem Run.geoOk_auStop (r : Run s₀) (p : Nat) : (r.auStop p).GeoOk ↔ r.GeoOk := by simp [Run.auStop]
@[simp] theorem Run.geoOk_auFault (r : Run s₀) (p cause : Nat) : (r.auFault p cause).GeoOk ↔ r.GeoOk := by simp [Run.auFault]

@[simp] theorem Run.geoOk_auDrive_go (p : Nat) (data : Bool) (w : Nat) (idle : Option Nat) (live : Nat → Bool)
    (js : List Nat) (acc : List (Option Nat)) (r : Run s₀) : (Run.auDrive.go p data w idle live js acc r).GeoOk ↔ r.GeoOk := by
  induction js generalizing acc r with
  | nil => exact .rfl
  | cons j js ih => simp [Run.auDrive.go, ih]

@[simp] theorem Run.geoOk_auDrive (r : Run s₀) (p : Nat) (data : Bool) : (r.auDrive p data).GeoOk ↔ r.GeoOk := by simp [Run.auDrive]
@[simp] theorem Run.geoOk_auMask (r : Run s₀) (p age : Nat) : (r.auMask p age).GeoOk ↔ r.GeoOk := by simp [Run.auMask]

@[simp] theorem Run.geoOk_auProduce (r : Run s₀) (p n : Nat) (words : List Nat) : (r.auProduce p n words).GeoOk ↔ r.GeoOk := by
  simp [Run.auProduce]

@[simp] theorem Run.geoOk_auCapture_go (p : Nat) (f : List Nat → Run s₀ → Run s₀) (mask : Nat) (js acc : List Nat) (r : Run s₀)
    (hf : ∀ l r, (f l r).GeoOk ↔ r.GeoOk) : (Run.auCapture.go p f mask js acc r).GeoOk ↔ r.GeoOk := by
  induction js generalizing acc r with
  | nil => exact hf _ r
  | cons j js ih => simp [Run.auCapture.go, ih]

@[simp] theorem Run.geoOk_auCapture (r : Run s₀) (p : Nat) (f : List Nat → Run s₀ → Run s₀) (hf : ∀ a r, (f a r).GeoOk ↔ r.GeoOk) :
    (r.auCapture p f).GeoOk ↔ r.GeoOk := by
  simp [Run.auCapture, hf]

@[simp] theorem Run.geoOk_auHistory (r : Run s₀) (p n : Nat) (words : List Nat) : (r.auHistory p n words).GeoOk ↔ r.GeoOk := by
  simp [Run.auHistory]

@[simp] theorem Run.geoOk_resyncTsel (r : Run s₀) : r.resyncTsel.GeoOk ↔ r.GeoOk := by simp [Run.resyncTsel, Run.auSkip]
@[simp] theorem Run.geoOk_auMedia (r : Run s₀) (p : Nat) : (r.auMedia p).GeoOk ↔ r.GeoOk := by simp [Run.auMedia, Run.auPlay, Run.auInput]

/-! ## Board inputs and outputs -/

@[simp] theorem Run.geoOk_writeGpio (r : Run s₀) (f : Fld) (v : Nat) : (r.writeGpio f v).GeoOk ↔ r.GeoOk := by
  unfold Run.writeGpio
  rw [Run.geoOk_each]
  · simp
  · intro n r
    split
    · rfl
    · split <;> simp

@[simp] theorem Run.geoOk_gpioEdge (r : Run s₀) (n : Nat) (level : Bool) : (r.gpioEdge n level).GeoOk ↔ r.GeoOk := by simp [Run.gpioEdge]
@[simp] theorem Run.geoOk_writeSmclk (r : Run s₀) (n v : Nat) : (r.writeSmclk n v).GeoOk ↔ r.GeoOk := by simp [Run.writeSmclk]
@[simp] theorem Run.geoOk_writeI3cCtl (r : Run s₀) (b v : Nat) : (r.writeI3cCtl b v).GeoOk ↔ r.GeoOk := by simp [Run.writeI3cCtl]

@[simp] theorem Run.geoOk_i3cGo (r : Run s₀) (b kind addr ccc len : Nat) : (r.i3cGo b kind addr ccc len).GeoOk ↔ r.GeoOk := by
  simp [Run.i3cGo]

@[simp] theorem Run.geoOk_i3cEnd (r : Run s₀) (b err : Nat) (data : List Byte) : (r.i3cEnd b err data).GeoOk ↔ r.GeoOk := by
  simp [Run.i3cEnd, Run.i3cStore]

@[simp] theorem Run.geoOk_ibi (r : Run s₀) (b addr : Nat) (data : List Byte) (accept : Bool) :
    (r.ibi b addr data accept).GeoOk ↔ r.GeoOk := by
  simp [Run.ibi]

@[simp] theorem Run.geoOk_ibiTaken (r : Run s₀) (b : Nat) : (r.ibiTaken b).GeoOk ↔ r.GeoOk := by simp [Run.ibiTaken]
@[simp] theorem Run.geoOk_uartSet (r : Run s₀) (u : Nat) (x : Uart) : (r.uartSet u x).GeoOk ↔ r.GeoOk := by simp [Run.uartSet]
@[simp] theorem Run.geoOk_uartCause (r : Run s₀) (f : Fld) : (r.uartCause f).GeoOk ↔ r.GeoOk := by simp [Run.uartCause]
@[simp] theorem Run.geoOk_writeUartCtl (r : Run s₀) (u v : Nat) : (r.writeUartCtl u v).GeoOk ↔ r.GeoOk := by simp [Run.writeUartCtl]
@[simp] theorem Run.geoOk_uartTx (r : Run s₀) (u : Nat) (c : Byte) : (r.uartTx u c).GeoOk ↔ r.GeoOk := by simp [Run.uartTx]

@[simp] theorem Run.geoOk_uartRx (r : Run s₀) (u : Nat) (c : Byte) (framing brk : Bool) : (r.uartRx u c framing brk).GeoOk ↔ r.GeoOk := by
  simp [Run.uartRx]

@[simp] theorem Run.geoOk_rxTaken (r : Run s₀) (u : Nat) : (r.rxTaken u).GeoOk ↔ r.GeoOk := by simp [Run.rxTaken]

@[simp] theorem Run.geoOk_smb (r : Run s₀) (code : Nat) (f : Run s₀ → Run s₀) (hf : ∀ r, (f r).GeoOk ↔ r.GeoOk) :
    (r.smb code f).GeoOk ↔ r.GeoOk := by
  simp [Run.smb, hf]

@[simp] theorem Run.geoOk_smbRefuse (r : Run s₀) (badPec : Bool) : (r.smbRefuse badPec).GeoOk ↔ r.GeoOk := by simp [Run.smbRefuse]

@[simp] theorem Run.geoOk_smbAnswer (r : Run s₀) (code n v : Nat) (pec : Bool) : (r.smbAnswer code n v pec).GeoOk ↔ r.GeoOk := by
  simp [Run.smbAnswer]

@[simp] theorem Run.geoOk_smbBlock (r : Run s₀) (code : Nat) (bs : List Byte) (pec : Bool) :
    (r.smbBlock code bs pec).GeoOk ↔ r.GeoOk := by
  simp [Run.smbBlock]

/-! ## Outlets -/

@[simp] theorem Run.geoOk_outMod (r : Run s₀) (o : Nat) (f : OutU → OutU) : (r.outMod o f).GeoOk ↔ r.GeoOk := by simp [Run.outMod]

@[simp] theorem Run.geoOk_olBusy (r : Run s₀) (o : Nat) : (r.olBusy o).GeoOk ↔ r.GeoOk := by
  unfold Run.olBusy
  split <;> simp

@[simp] theorem Run.geoOk_olBegin (r : Run s₀) (o : Nat) (f : Option Nat → Run s₀ → Run s₀) (hf : ∀ a r, (f a r).GeoOk ↔ r.GeoOk) :
    (r.olBegin o f).GeoOk ↔ r.GeoOk := by
  unfold Run.olBegin
  split <;> simp [hf]

@[simp] theorem Run.geoOk_olPublish (r : Run s₀) (o b : Nat) (i : PubInfo) : (r.olPublish o b i).GeoOk ↔ r.GeoOk := by simp [Run.olPublish]

@[simp] theorem Run.geoOk_visionWrite (r : Run s₀) (e : Env) (o : Nat) (i : PubInfo) : (r.visionWrite e o i).GeoOk ↔ r.GeoOk := by
  simp [Run.visionWrite]

/-! ## Canvases -/

@[simp] theorem Run.geoOk_cmpMod (r : Run s₀) (n : Nat) (f : CmpU → CmpU) : (r.cmpMod n f).GeoOk ↔ r.GeoOk := by simp [Run.cmpMod]
@[simp] theorem Run.geoOk_layerReads (r : Run s₀) (ls : List Layer) : (r.layerReads ls).GeoOk ↔ r.GeoOk := by simp [Run.layerReads]
@[simp] theorem Run.geoOk_linkMark (r : Run s₀) (n : Nat) : (r.linkMark n).GeoOk ↔ r.GeoOk := by simp [Run.linkMark]
@[simp] theorem Run.geoOk_vfWake (r : Run s₀) (n : Nat) : (r.vfWake n).GeoOk ↔ r.GeoOk := by simp [Run.vfWake]
@[simp] theorem Run.geoOk_linkUlps (r : Run s₀) (n : Nat) : (r.linkUlps n).GeoOk ↔ r.GeoOk := by simp [Run.linkUlps]
@[simp] theorem Run.geoOk_linkActive (r : Run s₀) (n : Nat) : (r.linkActive n).GeoOk ↔ r.GeoOk := by simp [Run.linkActive]
@[simp] theorem Run.geoOk_dirty (r : Run s₀) (n : Nat) (p : Nat → Bool) : (r.dirty n p).GeoOk ↔ r.GeoOk := by simp [Run.dirty]

@[simp] theorem Run.geoOk_dirtyRect (r : Run s₀) (n : Nat) (g : Option Region) : (r.dirtyRect n g).GeoOk ↔ r.GeoOk := by
  unfold Run.dirtyRect
  split <;> simp

@[simp] theorem Run.geoOk_dirtyAll (r : Run s₀) (n : Nat) : (r.dirtyAll n).GeoOk ↔ r.GeoOk := by simp [Run.dirtyAll]
@[simp] theorem Run.geoOk_cmpPublished (r : Run s₀) (o : Nat) : (r.cmpPublished o).GeoOk ↔ r.GeoOk := by simp [Run.cmpPublished]

@[simp] theorem Run.geoOk_dirtyLayer (r : Run s₀) (n k : Nat) (old : Fld → Nat) : (r.dirtyLayer n k old).GeoOk ↔ r.GeoOk := by
  simp [Run.dirtyLayer]

@[simp] theorem Run.geoOk_dirtyApply (r : Run s₀) (n : Nat) (old : Fld → Nat) : (r.dirtyApply n old).GeoOk ↔ r.GeoOk := by
  simp [Run.dirtyApply]

/-! ## Lanes and their training -/

@[simp] theorem Run.geoOk_laneMod (r : Run s₀) (n : Nat) (f : LaneU → LaneU) : (r.laneMod n f).GeoOk ↔ r.GeoOk := by simp [Run.laneMod]
@[simp] theorem Run.geoOk_laneErrSeen (r : Run s₀) (n : Nat) : (r.laneErrSeen n).GeoOk ↔ r.GeoOk := by simp [Run.laneErrSeen]
@[simp] theorem Run.geoOk_hdrErr (r : Run s₀) (n k : Nat) : (r.hdrErr n k).GeoOk ↔ r.GeoOk := by simp [Run.hdrErr]
@[simp] theorem Run.geoOk_codeErr (r : Run s₀) (n k : Nat) : (r.codeErr n k).GeoOk ↔ r.GeoOk := by simp [Run.codeErr]

@[simp] theorem Run.geoOk_laneEnter (r : Run s₀) (n st : Nat) (lost : Bool) : (r.laneEnter n st lost).GeoOk ↔ r.GeoOk := by
  simp [Run.laneEnter]

@[simp] theorem Run.geoOk_laneAcquire (r : Run s₀) (n : Nat) (lost : Bool) : (r.laneAcquire n lost).GeoOk ↔ r.GeoOk := by
  simp [Run.laneAcquire]

@[simp] theorem Run.geoOk_laneRetire (r : Run s₀) (n detector action time : Nat) :
    (r.laneRetire n detector action time).GeoOk ↔ r.GeoOk := by
  simp [Run.laneRetire]

@[simp] theorem Run.geoOk_setTaps (r : Run s₀) (n : Nat) (t : Nat × Nat × Nat) : (r.setTaps n t).GeoOk ↔ r.GeoOk := by simp [Run.setTaps]
@[simp] theorem Run.geoOk_sendTraining (r : Run s₀) (n req : Nat) : (r.sendTraining n req).GeoOk ↔ r.GeoOk := by simp [Run.sendTraining]
@[simp] theorem Run.geoOk_sendRequest (r : Run s₀) (n req : Nat) : (r.sendRequest n req).GeoOk ↔ r.GeoOk := by simp [Run.sendRequest]

@[simp] theorem Run.geoOk_trainingMessage (r : Run s₀) (n msg : Nat) : (r.trainingMessage n msg).GeoOk ↔ r.GeoOk := by
  simp [Run.trainingMessage, Run.nextRequest, Run.actRequest]

@[simp] theorem Run.geoOk_laneDeliver (r : Run s₀) (n : Nat) (phase : Option Nat) (bs : List Bool) :
    (r.laneDeliver n phase bs).GeoOk ↔ r.GeoOk := by
  simp [Run.laneDeliver]

@[simp] theorem Run.geoOk_laneMessage (r : Run s₀) (n : Nat) (m : Option Nat) : (r.laneMessage n m).GeoOk ↔ r.GeoOk := by
  unfold Run.laneMessage
  split <;> simp

@[simp] theorem Run.geoOk_laneTrained (r : Run s₀) (n : Nat) : (r.laneTrained n).GeoOk ↔ r.GeoOk := by simp [Run.laneTrained]

@[simp] theorem Run.geoOk_laneReach (r : Run s₀) (n : Nat) (h : ReachHeader) (bs : List Bool) : (r.laneReach n h bs).GeoOk ↔ r.GeoOk := by
  simp [Run.laneReach]

@[simp] theorem Run.geoOk_laneMiss (r : Run s₀) (n : Nat) (bs : List Bool) : (r.laneMiss n bs).GeoOk ↔ r.GeoOk := by simp [Run.laneMiss]

@[simp] theorem Run.geoOk_laneHdrOk (r : Run s₀) (n : Nat) (h : Option ReachHeader) : (r.laneHdrOk n h).GeoOk ↔ r.GeoOk := by
  simp [Run.laneHdrOk]

@[simp] theorem Run.geoOk_prbsTake (r : Run s₀) (n k : Nat) (f : List Bool → Run s₀ → Run s₀) (hf : ∀ a r, (f a r).GeoOk ↔ r.GeoOk) :
    (r.prbsTake n k f).GeoOk ↔ r.GeoOk := by
  simp [Run.prbsTake, hf]

@[simp] theorem Run.geoOk_prbsSeed (r : Run s₀) (n : Nat) : (r.prbsSeed n).GeoOk ↔ r.GeoOk := by simp [Run.prbsSeed]
@[simp] theorem Run.geoOk_prbsBit (r : Run s₀) (n sel : Nat) (b : Bool) : (r.prbsBit n sel b).GeoOk ↔ r.GeoOk := by simp [Run.prbsBit]
@[simp] theorem Run.geoOk_laneTest (r : Run s₀) (n : Nat) : (r.laneTest n).GeoOk ↔ r.GeoOk := by simp [Run.laneTest]
@[simp] theorem Run.geoOk_selfCheck (r : Run s₀) (n : Nat) : (r.selfCheck n).GeoOk ↔ r.GeoOk := by simp [Run.selfCheck]
@[simp] theorem Run.geoOk_writeLoop (r : Run s₀) (n v : Nat) : (r.writeLoop n v).GeoOk ↔ r.GeoOk := by simp [Run.writeLoop]
@[simp] theorem Run.geoOk_writePrbs (r : Run s₀) (n v : Nat) : (r.writePrbs n v).GeoOk ↔ r.GeoOk := by simp [Run.writePrbs]
@[simp] theorem Run.geoOk_eyeStart (r : Run s₀) (n : Nat) : (r.eyeStart n).GeoOk ↔ r.GeoOk := by simp [Run.eyeStart]
@[simp] theorem Run.geoOk_bitslip (r : Run s₀) (n : Nat) : (r.bitslip n).GeoOk ↔ r.GeoOk := by simp [Run.bitslip]
@[simp] theorem Run.geoOk_slipDone (r : Run s₀) (n : Nat) : (r.slipDone n).GeoOk ↔ r.GeoOk := by simp [Run.slipDone]

/-! ## Packets of a lane -/

@[simp] theorem Run.geoOk_txMod (r : Run s₀) (dest : Nat) (f : TxU → TxU) : (r.txMod dest f).GeoOk ↔ r.GeoOk := by simp [Run.txMod]

@[simp] theorem Run.geoOk_sendBytes (r : Run s₀) (dest type vs flags seq : Nat) (bs : List Byte) :
    (r.sendBytes dest type vs flags seq bs).GeoOk ↔ r.GeoOk := by
  simp [Run.sendBytes]

@[simp] theorem Run.geoOk_sendPacket (r : Run s₀) (dest type vs flags seq : Nat) (body : List Byte) :
    (r.sendPacket dest type vs flags seq body).GeoOk ↔ r.GeoOk := by
  simp [Run.sendPacket]

@[simp] theorem Run.geoOk_idleReach (r : Run s₀) (dest : Nat) : (r.idleReach dest).GeoOk ↔ r.GeoOk := by simp [Run.idleReach]

/-! ## Feeds and the sluice -/

@[simp] theorem Run.geoOk_fedMod (r : Run s₀) (g : Nat) (f : FedU → FedU) : (r.fedMod g f).GeoOk ↔ r.GeoOk := by simp [Run.fedMod]

@[simp] theorem Run.geoOk_fedSend (r : Run s₀) (g type vs flags : Nat) (body : List Byte) (bad : Bool) :
    (r.fedSend g type vs flags body bad).GeoOk ↔ r.GeoOk := by
  simp [Run.fedSend]

@[simp] theorem Run.geoOk_fedVfs (r : Run s₀) (g flags w h format ts tns tf src tag : Nat) :
    (r.fedVfs g flags w h format ts tns tf src tag).GeoOk ↔ r.GeoOk := by
  simp [Run.fedVfs]

@[simp] theorem Run.geoOk_fedAnc (r : Run s₀) (g off kind : Nat) (data : List Byte) : (r.fedAnc g off kind data).GeoOk ↔ r.GeoOk := by
  simp [Run.fedAnc]

@[simp] theorem Run.geoOk_fedTimecode (r : Run s₀) (g tns : Nat) : (r.fedTimecode g tns).GeoOk ↔ r.GeoOk := by simp [Run.fedTimecode]
@[simp] theorem Run.geoOk_fedVfe (r : Run s₀) (g lines flags : Nat) : (r.fedVfe g lines flags).GeoOk ↔ r.GeoOk := by simp [Run.fedVfe]

@[simp] theorem Run.geoOk_fedLine (r : Run s₀) (g y w depth : Nat) (is422 fill bad : Bool) (c : Nat → Nat → Nat) :
    (r.fedLine g y w depth is422 fill bad c).GeoOk ↔ r.GeoOk := by
  simp [Run.fedLine]

@[simp] theorem Run.geoOk_fedAudio (r : Run s₀) (g : Nat) : (r.fedAudio g).GeoOk ↔ r.GeoOk := by simp [Run.fedAudio]

@[simp] theorem Run.geoOk_fedFrame (r : Run s₀) (g n : Nat) (buf : Option Nat) (rep : Bool) :
    (r.fedFrame g n buf rep).GeoOk ↔ r.GeoOk := by
  unfold Run.fedFrame
  dsimp only
  split <;> simp

@[simp] theorem Run.geoOk_feedBoundary (r : Run s₀) (g : Nat) : (r.feedBoundary g).GeoOk ↔ r.GeoOk := by simp [Run.feedBoundary]

@[simp] theorem Run.geoOk_rxs (r : Run s₀) (g v : Nat) (good : Bool) : (r.rxs g v good).GeoOk ↔ r.GeoOk := by
  unfold Run.rxs
  (repeat' split) <;> simp

@[simp] theorem Run.geoOk_sluMod (r : Run s₀) (f : SluU → SluU) : (r.sluMod f).GeoOk ↔ r.GeoOk := by simp [Run.sluMod]

@[simp] theorem Run.geoOk_sluEmit (g n : Nat) (r : Run s₀) : (Run.sluEmit g n r).GeoOk ↔ r.GeoOk := by
  induction n generalizing r with
  | zero => exact .rfl
  | succ n ih => simp [Run.sluEmit, ih]

@[simp] theorem Run.geoOk_sluFs (r : Run s₀) (ctx : Nat) (i : PubInfo) : (r.sluFs ctx i).GeoOk ↔ r.GeoOk := by
  unfold Run.sluFs
  split <;> simp

@[simp] theorem Run.geoOk_sluEmb (r : Run s₀) (ctx off : Nat) (data : List Byte) : (r.sluEmb ctx off data).GeoOk ↔ r.GeoOk := by
  unfold Run.sluEmb
  split <;> simp

@[simp] theorem Run.geoOk_sluLp (r : Run s₀) (ctx y x : Nat) (samples : List Nat) (bad : Bool) :
    (r.sluLp ctx y x samples bad).GeoOk ↔ r.GeoOk := by
  unfold Run.sluLp
  split <;> simp

@[simp] theorem Run.geoOk_sluLose (r : Run s₀) (ctx fn : Nat) : (r.sluLose ctx fn).GeoOk ↔ r.GeoOk := by
  unfold Run.sluLose
  split <;> simp

/-! ## Snapshots of the tide gate -/

@[simp] theorem Run.geoOk_setSnaps (r : Run s₀) (g : Nat) (l : List Snap) : (r.setSnaps g l).GeoOk ↔ r.GeoOk := by simp [Run.setSnaps]
@[simp] theorem Run.geoOk_tideCommit (r : Run s₀) (mask : Nat) : (r.tideCommit mask).GeoOk ↔ r.GeoOk := by simp [Run.tideCommit]

@[simp] theorem Run.geoOk_applySnap (r : Run s₀) (s : Snap) : (r.applySnap s).GeoOk ↔ r.GeoOk := by
  unfold Run.applySnap
  rw [Run.geoOk_each]
  · simp
  · intro u r
    dsimp only
    split <;> simp

@[simp] theorem Run.geoOk_deferSnaps (r : Run s₀) (l : List Snap) : (r.deferSnaps l).GeoOk ↔ r.GeoOk := by simp [Run.deferSnaps]

@[simp] theorem Run.geoOk_boundary (r : Run s₀) (g : Nat) : (r.boundary g).GeoOk ↔ r.GeoOk := by
  unfold Run.boundary
  dsimp only
  split <;> simp

@[simp] theorem Run.geoOk_nextVersion (r : Run s₀) (c : Nat) : (r.nextVersion c).GeoOk ↔ r.GeoOk := by simp [Run.nextVersion]

@[simp] theorem Run.geoOk_restApply (r : Run s₀) (g : Nat) : (r.restApply g).GeoOk ↔ r.GeoOk := by
  unfold Run.restApply
  dsimp only
  split <;> simp

/-! ## Composers -/

@[simp] theorem Run.geoOk_setHeld (r : Run s₀) (o b : Nat) (h : Bool) : (r.setHeld o b h).GeoOk ↔ r.GeoOk := by simp [Run.setHeld]
@[simp] theorem Run.geoOk_setHold (r : Run s₀) (n k : Nat) (b : Option Nat) : (r.setHold n k b).GeoOk ↔ r.GeoOk := by simp [Run.setHold]

@[simp] theorem Run.geoOk_dropHold (r : Run s₀) (n k : Nat) : (r.dropHold n k).GeoOk ↔ r.GeoOk := by
  unfold Run.dropHold
  (repeat' split) <;> simp

@[simp] theorem Run.geoOk_selectLayer (r : Run s₀) (n k : Nat) : (r.selectLayer n k).GeoOk ↔ r.GeoOk := by
  unfold Run.selectLayer
  split <;> simp

@[simp] theorem Run.geoOk_dsi (r : Run s₀) (n dt : Nat) (fields : List Nat) (payload : List Byte) :
    (r.dsi n dt fields payload).GeoOk ↔ r.GeoOk := by
  simp [Run.dsi]

@[simp] theorem Run.geoOk_vfStart (r : Run s₀) (n : Nat) : (r.vfStart n).GeoOk ↔ r.GeoOk := by
  simp [Run.vfStart, Run.pushPps, Run.pushRegion, Run.pushWindow]

@[simp] theorem Run.geoOk_teEdge (r : Run s₀) (n : Nat) : (r.teEdge n).GeoOk ↔ r.GeoOk := by simp [Run.teEdge]
@[simp] theorem Run.geoOk_feedCompStart (r : Run s₀) (n : Nat) : (r.feedCompStart n).GeoOk ↔ r.GeoOk := by simp [Run.feedCompStart]
@[simp] theorem Run.geoOk_tryCmd (r : Run s₀) (n : Nat) : (r.tryCmd n).GeoOk ↔ r.GeoOk := by simp [Run.tryCmd, Run.sendCmd]
@[simp] theorem Run.geoOk_cmdGo (r : Run s₀) (n : Nat) : (r.cmdGo n).GeoOk ↔ r.GeoOk := by simp [Run.cmdGo]

@[simp] theorem Run.geoOk_cmdEnd (r : Run s₀) (n err : Nat) (bytes : List Byte) : (r.cmdEnd n err bytes).GeoOk ↔ r.GeoOk := by
  simp [Run.cmdEnd]

@[simp] theorem Run.geoOk_linkRests (r : Run s₀) (n : Nat) : (r.linkRests n).GeoOk ↔ r.GeoOk := by simp [Run.linkRests]
@[simp] theorem Run.geoOk_compositionsDrop (r : Run s₀) : r.compositionsDrop.GeoOk ↔ r.GeoOk := by simp [Run.compositionsDrop]
@[simp] theorem Run.geoOk_compositionDone (r : Run s₀) (n : Nat) : (r.compositionDone n).GeoOk ↔ r.GeoOk := by simp [Run.compositionDone]

@[simp] theorem Run.geoOk_readback (r : Run s₀) (n crc : Nat) : (r.readback n crc).GeoOk ↔ r.GeoOk := by
  unfold Run.readback
  split <;> simp

@[simp] theorem Run.geoOk_teTimeout (r : Run s₀) (n : Nat) : (r.teTimeout n).GeoOk ↔ r.GeoOk := by simp [Run.teTimeout]
@[simp] theorem Run.geoOk_wakeDone (r : Run s₀) (n : Nat) : (r.wakeDone n).GeoOk ↔ r.GeoOk := by simp [Run.wakeDone]

/-! ## Encoders and the decoder -/

@[simp] theorem Run.geoOk_encMod (r : Run s₀) (n : Nat) (f : EncU → EncU) : (r.encMod n f).GeoOk ↔ r.GeoOk := by simp [Run.encMod]
@[simp] theorem Run.geoOk_encOpen (r : Run s₀) (n : Nat) : (r.encOpen n).GeoOk ↔ r.GeoOk := by simp [Run.encOpen]

@[simp] theorem Run.geoOk_auRecord (r : Run s₀) (n type flags qp poc : Nat) (i : PubInfo) (bytes : List Byte) :
    (r.auRecord n type flags qp poc i bytes).GeoOk ↔ r.GeoOk := by
  simp [Run.auRecord]

@[simp] theorem Run.geoOk_encEos (r : Run s₀) (n : Nat) : (r.encEos n).GeoOk ↔ r.GeoOk := by simp [Run.encEos]
@[simp] theorem Run.geoOk_encOutRd (r : Run s₀) (n v : Nat) : (r.encOutRd n v).GeoOk ↔ r.GeoOk := by simp [Run.encOutRd]

@[simp] theorem Run.geoOk_encBegin (r : Run s₀) (n : Nat) (rep restart : Bool) (i : PubInfo) (buf : Option Nat) (src : List Byte) :
    (r.encBegin n rep restart i buf src).GeoOk ↔ r.GeoOk := by
  unfold Run.encBegin
  dsimp only
  split <;> simp

@[simp] theorem Run.geoOk_takePub (r : Run s₀) (n o b : Nat) (i : PubInfo) (f : List Byte → Run s₀ → Run s₀)
    (hf : ∀ a r, (f a r).GeoOk ↔ r.GeoOk) : (r.takePub n o b i f).GeoOk ↔ r.GeoOk := by
  simp [Run.takePub, hf]

@[simp] theorem Run.geoOk_encRestart (r : Run s₀) (n cause : Nat) (i : PubInfo) (b : Nat) (src : List Byte) :
    (r.encRestart n cause i b src).GeoOk ↔ r.GeoOk := by
  simp [Run.encRestart]

@[simp] theorem Run.geoOk_pictureStart (r : Run s₀) (n : Nat) : (r.pictureStart n).GeoOk ↔ r.GeoOk := by
  unfold Run.pictureStart
  dsimp only
  (repeat' split) <;> simp

@[simp] theorem Run.geoOk_encRelease (r : Run s₀) (n : Nat) (p : EncPic) : (r.encRelease n p).GeoOk ↔ r.GeoOk := by
  unfold Run.encRelease
  split <;> simp

@[simp] theorem Run.geoOk_ctuCoded (r : Run s₀) (n beta coded : Nat) : (r.ctuCoded n beta coded).GeoOk ↔ r.GeoOk := by
  unfold Run.ctuCoded
  split <;> simp

@[simp] theorem Run.geoOk_loadRefs (r : Run s₀) (n : Nat) (l : List (Nat × Nat)) (f : Bool → List (Nat × List Byte) → Run s₀ → Run s₀)
    (hf : ∀ b refs r, (f b refs r).GeoOk ↔ r.GeoOk) : (r.loadRefs n l f).GeoOk ↔ r.GeoOk := by
  induction l generalizing r f with
  | nil => exact hf _ _ r
  | cons e l ih => simp [Run.loadRefs, ih, hf]

@[simp] theorem Run.geoOk_encClosed (r : Run s₀) (n : Nat) : (r.encClosed n).GeoOk ↔ r.GeoOk := by simp [Run.encClosed]
@[simp] theorem Run.geoOk_encDiscard (r : Run s₀) (n : Nat) (p : EncPic) : (r.encDiscard n p).GeoOk ↔ r.GeoOk := by simp [Run.encDiscard]

@[simp] theorem Run.geoOk_encWrite (r : Run s₀) (n : Nat) (p : EncPic) (size : Nat) (refs : List (Nat × List Byte)) :
    (r.encWrite n p size refs).GeoOk ↔ r.GeoOk := by
  simp [Run.encWrite]

@[simp] theorem Run.geoOk_pictureDone (r : Run s₀) (n size : Nat) : (r.pictureDone n size).GeoOk ↔ r.GeoOk := by
  unfold Run.pictureDone
  split <;> simp

@[simp] theorem Run.geoOk_encClose (r : Run s₀) (n : Nat) : (r.encClose n).GeoOk ↔ r.GeoOk := by simp [Run.encClose]

@[simp] theorem Run.geoOk_encFault (r : Run s₀) (n : Nat) : (r.encFault n).GeoOk ↔ r.GeoOk := by
  unfold Run.encFault
  dsimp only
  (repeat' split) <;> simp

@[simp] theorem Run.geoOk_decMod (r : Run s₀) (f : DecU → DecU) : (r.decMod f).GeoOk ↔ r.GeoOk := by simp [Run.decMod]
@[simp] theorem Run.geoOk_decBegin (r : Run s₀) : r.decBegin.GeoOk ↔ r.GeoOk := by simp [Run.decBegin]
@[simp] theorem Run.geoOk_decStart (r : Run s₀) : r.decStart.GeoOk ↔ r.GeoOk := by simp [Run.decStart]
@[simp] theorem Run.geoOk_decStopped (r : Run s₀) (cause : Nat) : (r.decStopped cause).GeoOk ↔ r.GeoOk := by simp [Run.decStopped]
@[simp] theorem Run.geoOk_decStopAfter (r : Run s₀) (cause : Nat) : (r.decStopAfter cause).GeoOk ↔ r.GeoOk := by simp [Run.decStopAfter]
@[simp] theorem Run.geoOk_decInWr (r : Run s₀) (v : Nat) : (r.decInWr v).GeoOk ↔ r.GeoOk := by simp [Run.decInWr]

@[simp] theorem Run.geoOk_decTake (r : Run s₀) (n : Nat) (f : Got → Run s₀ → Run s₀) (hf : ∀ a r, (f a r).GeoOk ↔ r.GeoOk) :
    (r.decTake n f).GeoOk ↔ r.GeoOk := by
  simp [Run.decTake, hf]

@[simp] theorem Run.geoOk_decFinish (r : Run s₀) : r.decFinish.GeoOk ↔ r.GeoOk := by
  unfold Run.decFinish
  split <;> simp

@[simp] theorem Run.geoOk_decWrite (r : Run s₀) (k : Nat) (s : Sps) (irap : Bool) (poc : Nat) (missing lost : List Nat) (bad : Bool) :
    (r.decWrite k s irap poc missing lost bad).GeoOk ↔ r.GeoOk := by
  simp [Run.decWrite]

@[simp] theorem Run.geoOk_decoded (r : Run s₀) (n : Nat) (p : DecPic) (faulted : Bool) : (r.decoded n p faulted).GeoOk ↔ r.GeoOk := by
  unfold Run.decoded
  (repeat' split) <;> simp

/-! ## Frame slots -/

@[simp] theorem Run.geoOk_frameMod (r : Run s₀) (sn : Nat) (g : IFrame → IFrame) : (r.frameMod sn g).GeoOk ↔ r.GeoOk := by
  simp [Run.frameMod]

@[simp] theorem Run.geoOk_slotRead (r : Run s₀) (f : IFrame) (a n : Nat) : (r.slotRead f a n).GeoOk ↔ r.GeoOk := by
  simp [Run.slotRead, Run.recRead]

@[simp] theorem Run.geoOk_slotStore (r : Run s₀) (f : IFrame) (k : Nat) (bs : List Byte) : (r.slotStore f k bs).GeoOk ↔ r.GeoOk := by
  induction bs generalizing r k with
  | nil => exact .rfl
  | cons b bs ih => simp [Run.slotStore, ih]

/-! ## Colour engines -/

@[simp] theorem Run.geoOk_pixMod (r : Run s₀) (f : PixU → PixU) : (r.pixMod f).GeoOk ↔ r.GeoOk := by simp [Run.pixMod]
@[simp] theorem Run.geoOk_ceMod (r : Run s₀) (n : Nat) (f : CeU → CeU) : (r.ceMod n f).GeoOk ↔ r.GeoOk := by simp [Run.ceMod]
@[simp] theorem Run.geoOk_pfMod (r : Run s₀) (sn : Nat) (g : PFrame → PFrame) : (r.pfMod sn g).GeoOk ↔ r.GeoOk := by simp [Run.pfMod]
@[simp] theorem Run.geoOk_pixSync (r : Run s₀) (ctx : Nat) : (r.pixSync ctx).GeoOk ↔ r.GeoOk := by simp [Run.pixSync]
@[simp] theorem Run.geoOk_chooseBufs (r : Run s₀) (f : PFrame) : (r.chooseBufs f).GeoOk ↔ r.GeoOk := by simp [Run.chooseBufs]

@[simp] theorem Run.geoOk_grant (r : Run s₀) (ce : Nat) : (r.grant ce).GeoOk ↔ r.GeoOk := by
  unfold Run.grant
  dsimp only
  (repeat' split) <;> simp

@[simp] theorem Run.geoOk_grants (r : Run s₀) : r.grants.GeoOk ↔ r.GeoOk := by simp [Run.grants]
@[simp] theorem Run.geoOk_pixDrop (r : Run s₀) (f : PFrame) : (r.pixDrop f).GeoOk ↔ r.GeoOk := by simp [Run.pixDrop]
@[simp] theorem Run.geoOk_spill (r : Run s₀) (ctx fn cause : Nat) : (r.spill ctx fn cause).GeoOk ↔ r.GeoOk := by simp [Run.spill]

@[simp] theorem Run.geoOk_pixLose (r : Run s₀) (sn cause : Nat) : (r.pixLose sn cause).GeoOk ↔ r.GeoOk := by
  unfold Run.pixLose
  split <;> simp

@[simp] theorem Run.geoOk_pixAbandon (r : Run s₀) (sn : Nat) : (r.pixAbandon sn).GeoOk ↔ r.GeoOk := by
  unfold Run.pixAbandon
  split <;> simp

@[simp] theorem Run.geoOk_setTbl (r : Run s₀) (type k v : Nat) : (r.setTbl type k v).GeoOk ↔ r.GeoOk := by simp [Run.setTbl]

@[simp] theorem Run.geoOk_spillway (ctx fn prio : Nat) (engines : List Nat) (n : Nat) (r : Run s₀) :
    (Run.spillway ctx fn prio engines n r).2.GeoOk ↔ r.GeoOk := by
  induction n generalizing r with
  | zero => exact .rfl
  | succ n ih =>
    unfold Run.spillway
    dsimp only
    (repeat' split) <;> simp [ih]

@[simp] theorem Run.geoOk_ctxBoundary (r : Run s₀) (ctx : Nat) : (r.ctxBoundary ctx).GeoOk ↔ r.GeoOk := by simp [Run.ctxBoundary]
@[simp] theorem Run.geoOk_skipFrame (r : Run s₀) (ctx : Nat) : (r.skipFrame ctx).GeoOk ↔ r.GeoOk := by simp [Run.skipFrame]

@[simp] theorem Run.geoOk_present (r : Run s₀) (fr : IFrame) : (r.present fr).GeoOk ↔ r.GeoOk := by
  unfold Run.present
  dsimp only
  (repeat' split) <;> simp

@[simp] theorem Run.geoOk_turnLeft (r : Run s₀) (ce left : Nat) : (r.turnLeft ce left).GeoOk ↔ r.GeoOk := by simp [Run.turnLeft]

@[simp] theorem Run.geoOk_pixLine (r : Run s₀) (sn y : Nat) (samples : List Nat) (last : Bool) :
    (r.pixLine sn y samples last).GeoOk ↔ r.GeoOk := by
  unfold Run.pixLine
  split <;> simp

@[simp] theorem Run.geoOk_pixRows (r : Run s₀) (sn rows : Nat) : (r.pixRows sn rows).GeoOk ↔ r.GeoOk := by
  unfold Run.pixRows
  split <;> simp

@[simp] theorem Run.geoOk_pixComplete (r : Run s₀) (f : PFrame) : (r.pixComplete f).GeoOk ↔ r.GeoOk := by
  simp only [Run.pixComplete, Run.geoOk_pixSync]
  rw [Run.geoOk_each, Run.geoOk_pixMod, Run.geoOk_wr, Run.geoOk_when, Run.geoOk_pixMod, ite_self, Run.geoOk_each]
  · intro b r
    split <;> simp
  · simp

@[simp] theorem Run.geoOk_turnEnd (r : Run s₀) (ce : Nat) : (r.turnEnd ce).GeoOk ↔ r.GeoOk := by
  unfold Run.turnEnd
  dsimp only
  (repeat' split) <;> simp

@[simp] theorem Run.geoOk_engineFault (r : Run s₀) (ce spent : Nat) : (r.engineFault ce spent).GeoOk ↔ r.GeoOk := by
  unfold Run.engineFault
  dsimp only
  (repeat' split) <;> simp

@[simp] theorem Run.geoOk_tblGo (r : Run s₀) : r.tblGo.GeoOk ↔ r.GeoOk := by simp [Run.tblGo]

@[simp] theorem Run.geoOk_tblDone (r : Run s₀) : r.tblDone.GeoOk ↔ r.GeoOk := by
  unfold Run.tblDone
  split <;> simp

@[simp] theorem Run.geoOk_statsWrite (r : Run s₀) (ctx : Nat) : (r.statsWrite ctx).GeoOk ↔ r.GeoOk := by
  unfold Run.statsWrite
  split <;> simp

/-! ## Delta-weaves -/

@[simp] theorem Run.geoOk_deltaApply (r : Run s₀) (ctx : Nat) : (r.deltaApply ctx).GeoOk ↔ r.GeoOk := by
  simp [Run.deltaApply, Run.dropUnits, Run.outletEnd]

@[simp] theorem Run.geoOk_deltaBoundary (r : Run s₀) (ctx : Nat) : (r.deltaBoundary ctx).GeoOk ↔ r.GeoOk := by simp [Run.deltaBoundary]

/-! ## Drives, hops, stripes and rings -/

@[simp] theorem Run.geoOk_drvMod (r : Run s₀) (d : Nat) (f : DrvU → DrvU) : (r.drvMod d f).GeoOk ↔ r.GeoOk := by simp [Run.drvMod]
@[simp] theorem Run.geoOk_hopMod (r : Run s₀) (l : Nat) (f : HopU → HopU) : (r.hopMod l f).GeoOk ↔ r.GeoOk := by simp [Run.hopMod]
@[simp] theorem Run.geoOk_hopEmit (r : Run s₀) (l seq : Nat) (p : HopPkt) : (r.hopEmit l seq p).GeoOk ↔ r.GeoOk := by simp [Run.hopEmit]

@[simp] theorem Run.geoOk_hopPump_go (l : Nat) (ps : List HopPkt) (r : Run s₀) : (Run.hopPump.go l ps r).GeoOk ↔ r.GeoOk := by
  induction ps generalizing r with
  | nil => exact .rfl
  | cons p ps ih => simp [Run.hopPump.go, ih]

@[simp] theorem Run.geoOk_hopPump (r : Run s₀) (l : Nat) : (r.hopPump l).GeoOk ↔ r.GeoOk := by simp [Run.hopPump]
@[simp] theorem Run.geoOk_hopSend (r : Run s₀) (l : Nat) (ps : List HopPkt) : (r.hopSend l ps).GeoOk ↔ r.GeoOk := by simp [Run.hopSend]

@[simp] theorem Run.geoOk_hopAck (r : Run s₀) (l : Nat) : (r.hopAck l).GeoOk ↔ r.GeoOk :=
  (Run.geoOk_hopMod _ _ _).trans (Run.geoOk_hopEmit _ _ _ _)

@[simp] theorem Run.geoOk_hopNakSent (r : Run s₀) (l : Nat) : (r.hopNakSent l).GeoOk ↔ r.GeoOk := by simp [Run.hopNakSent]
@[simp] theorem Run.geoOk_hopNak (r : Run s₀) (l : Nat) : (r.hopNak l).GeoOk ↔ r.GeoOk := by simp [Run.hopNak]
@[simp] theorem Run.geoOk_hopError (r : Run s₀) (l : Nat) (crc : Bool) : (r.hopError l crc).GeoOk ↔ r.GeoOk := by simp [Run.hopError]

@[simp] theorem Run.geoOk_hopTake (r : Run s₀) (l seq : Nat) (f : Run s₀ → Run s₀) (hf : ∀ r, (f r).GeoOk ↔ r.GeoOk) :
    (r.hopTake l seq f).GeoOk ↔ r.GeoOk := by
  simp [Run.hopTake, hf]

@[simp] theorem Run.geoOk_hopAcked (r : Run s₀) (l seq : Nat) : (r.hopAcked l seq).GeoOk ↔ r.GeoOk := by simp [Run.hopAcked]
@[simp] theorem Run.geoOk_hopNaked (r : Run s₀) (l seq : Nat) : (r.hopNaked l seq).GeoOk ↔ r.GeoOk := by simp [Run.hopNaked]
@[simp] theorem Run.geoOk_hopLost (r : Run s₀) (l : Nat) : (r.hopLost l).GeoOk ↔ r.GeoOk := by simp [Run.hopLost]
@[simp] theorem Run.geoOk_hopFresh (r : Run s₀) (l : Nat) : (r.hopFresh l).GeoOk ↔ r.GeoOk := by simp [Run.hopFresh]
@[simp] theorem Run.geoOk_hopUp (r : Run s₀) (l : Nat) : (r.hopUp l).GeoOk ↔ r.GeoOk := by simp [Run.hopUp]

@[simp] theorem Run.geoOk_hopGiveUp (r : Run s₀) (l : Nat) (window : Bool) : (r.hopGiveUp l window).GeoOk ↔ r.GeoOk := by
  simp [Run.hopGiveUp]

@[simp] theorem Run.geoOk_magBusy (r : Run s₀) (m : Nat) : (r.magBusy m).GeoOk ↔ r.GeoOk := by simp [Run.magBusy]

@[simp] theorem Run.geoOk_drvPump_go (d : Nat) (cs held : List DCmd) (r : Run s₀) : (Run.drvPump.go d cs held r).GeoOk ↔ r.GeoOk := by
  induction cs generalizing held r with
  | nil => simp [Run.drvPump.go]
  | cons c cs ih =>
    unfold Run.drvPump.go
    dsimp only
    (repeat' split) <;> simp [ih]

@[simp] theorem Run.geoOk_drvPump (r : Run s₀) (d : Nat) : (r.drvPump d).GeoOk ↔ r.GeoOk := by simp [Run.drvPump]
@[simp] theorem Run.geoOk_drvCmd (r : Run s₀) (d : Nat) (c : DCmd) : (r.drvCmd d c).GeoOk ↔ r.GeoOk := by simp [Run.drvCmd]
@[simp] theorem Run.geoOk_magProbe (r : Run s₀) (l : Nat) : (r.magProbe l).GeoOk ↔ r.GeoOk := by simp [Run.magProbe]
@[simp] theorem Run.geoOk_identified (r : Run s₀) (d : Nat) (b : List Byte) : (r.identified d b).GeoOk ↔ r.GeoOk := by simp [Run.identified]

@[simp] theorem Run.geoOk_ringRegs_go (g : Machine.Geo) (ds : List Nat) (j : Nat) (r : Run s₀) :
    (Run.ringRegs.go g ds j r).GeoOk ↔ r.GeoOk := by
  induction ds generalizing j r with
  | nil => exact .rfl
  | cons d ds ih => simp [Run.ringRegs.go, ih]

@[simp] theorem Run.geoOk_ringRegs (r : Run s₀) (m : Nat) (g : Geo) : (r.ringRegs m g).GeoOk ↔ r.GeoOk := by simp [Run.ringRegs]
@[simp] theorem Run.geoOk_ringState (r : Run s₀) (g : Geo) : (r.ringState g).GeoOk ↔ r.GeoOk := by simp [Run.ringState]

@[simp] theorem Run.geoOk_writeLabel (r : Run s₀) (m : Nat) (f : Label → Label) : (r.writeLabel m f).GeoOk ↔ r.GeoOk := by
  simp [Run.writeLabel]

@[simp] theorem Run.geoOk_labelDone (r : Run s₀) (m gen d : Nat) (ok : Bool) : (r.labelDone m gen d ok).GeoOk ↔ r.GeoOk :=
  Run.geoOk_magzMod _ _ _ fun _ => rfl

@[simp] theorem Run.geoOk_chunkDone (r : Run s₀) (m g d : Nat) (ok : Bool) : (r.chunkDone m g d ok).GeoOk ↔ r.GeoOk := by
  unfold Run.chunkDone
  dsimp only
  (repeat' split) <;> simp

@[simp] theorem Run.geoOk_issueStripe (r : Run s₀) (m g : Nat) (data : List Byte) : (r.issueStripe m g data).GeoOk ↔ r.GeoOk := by
  unfold Run.issueStripe
  split <;> simp

/-! ## Segments, records and removals -/

@[simp] theorem Run.geoOk_segMod (r : Run s₀) (n : Nat) (f : Seg → Seg) : (r.segMod n f).GeoOk ↔ r.GeoOk := by simp [Run.segMod]
@[simp] theorem Run.geoOk_segEntry (r : Run s₀) (n : Nat) (e : List Byte) : (r.segEntry n e).GeoOk ↔ r.GeoOk := by simp [Run.segEntry]
@[simp] theorem Run.geoOk_recState (r : Run s₀) (st : Nat) : (r.recState st).GeoOk ↔ r.GeoOk := by simp [Run.recState]
@[simp] theorem Run.geoOk_segBytes (r : Run s₀) (n : Nat) (b : List Byte) : (r.segBytes n b).GeoOk ↔ r.GeoOk := by simp [Run.segBytes]
@[simp] theorem Run.geoOk_segGap (r : Run s₀) (n ctx cause fn : Nat) : (r.segGap n ctx cause fn).GeoOk ↔ r.GeoOk := by simp [Run.segGap]

@[simp] theorem Run.geoOk_appendFrame (r : Run s₀) (n : Nat) (s : Seg) (f : IFrame) : (r.appendFrame n s f).GeoOk ↔ r.GeoOk := by
  simp [Run.appendFrame]

@[simp] theorem Run.geoOk_audioLost (r : Run s₀) (n p a b : Nat) : (r.audioLost n p a b).GeoOk ↔ r.GeoOk := by simp [Run.audioLost]

@[simp] theorem Run.geoOk_audioExtent (r : Run s₀) (n p a b : Nat) : (r.audioExtent n p a b).GeoOk ↔ r.GeoOk := by
  unfold Run.audioExtent
  dsimp only
  split <;> simp

@[simp] theorem Run.geoOk_audioPump (r : Run s₀) (n p lim : Nat) (last : Bool) (fuel : Nat) :
    (r.audioPump n p lim last fuel).GeoOk ↔ r.GeoOk := by
  induction fuel generalizing r with
  | zero => exact .rfl
  | succ fuel ih =>
    unfold Run.audioPump
    dsimp only
    (repeat' split) <;> simp [ih]

@[simp] theorem Run.geoOk_segAudio (r : Run s₀) (n : Nat) (last : Bool) : (r.segAudio n last).GeoOk ↔ r.GeoOk := by
  unfold Run.segAudio
  split <;> simp

@[simp] theorem Run.geoOk_segPump_go (n : Nat) (l : List Nat) (r : Run s₀) : (Run.segPump.go n l r).GeoOk ↔ r.GeoOk := by
  induction l generalizing r with
  | nil => exact .rfl
  | cons sn l ih =>
    unfold Run.segPump.go
    dsimp only
    (repeat' split) <;> simp [ih]

@[simp] theorem Run.geoOk_segPump (r : Run s₀) (n : Nat) : (r.segPump n).GeoOk ↔ r.GeoOk := by
  unfold Run.segPump
  split <;> simp

@[simp] theorem Run.geoOk_magSync (r : Run s₀) (m : Nat) : (r.magSync m).GeoOk ↔ r.GeoOk := by simp [Run.magSync]
@[simp] theorem Run.geoOk_magReplace (r : Run s₀) (m : Nat) : (r.magReplace m).GeoOk ↔ r.GeoOk := by simp [Run.magReplace]

@[simp] theorem Run.geoOk_openSeg (r : Run s₀) (m clip seg prev : Nat) (continued : Bool) (todo : List Nat) (aud : Tab Nat) :
    (r.openSeg m clip seg prev continued todo aud).GeoOk ↔ r.GeoOk := by
  simp [Run.openSeg]

@[simp] theorem Run.geoOk_closeRange (r : Run s₀) (n : Nat) (d : Nat × Nat × Nat) (last : Nat) :
    (r.closeRange n d last).GeoOk ↔ r.GeoOk := by
  simp [Run.closeRange]

@[simp] theorem Run.geoOk_segFinish (r : Run s₀) (n : Nat) : (r.segFinish n).GeoOk ↔ r.GeoOk := by
  unfold Run.segFinish
  dsimp only
  (repeat' split) <;> simp

@[simp] theorem Run.geoOk_segDurable (r : Run s₀) (s : Seg) : (r.segDurable s).GeoOk ↔ r.GeoOk := by simp [Run.segDurable]
@[simp] theorem Run.geoOk_releaseClip (r : Run s₀) (s : Seg) : (r.releaseClip s).GeoOk ↔ r.GeoOk := by simp [Run.releaseClip]
@[simp] theorem Run.geoOk_dropSeg (r : Run s₀) (n : Nat) : (r.dropSeg n).GeoOk ↔ r.GeoOk := by simp [Run.dropSeg]
@[simp] theorem Run.geoOk_recordEnd (r : Run s₀) (sealed : Bool) : (r.recordEnd sealed).GeoOk ↔ r.GeoOk := by simp [Run.recordEnd]

@[simp] theorem Run.geoOk_segAdvance (r : Run s₀) (s : Seg) : (r.segAdvance s).GeoOk ↔ r.GeoOk := by
  unfold Run.segAdvance
  (repeat' split) <;> simp

@[simp] theorem Run.geoOk_recAdvance (r : Run s₀) : r.recAdvance.GeoOk ↔ r.GeoOk := by simp [Run.recAdvance]
@[simp] theorem Run.geoOk_segAbandon (r : Run s₀) (s : Seg) : (r.segAbandon s).GeoOk ↔ r.GeoOk := by simp [Run.segAbandon]

@[simp] theorem Run.geoOk_recStop (r : Run s₀) (cause : Nat) : (r.recStop cause).GeoOk ↔ r.GeoOk := by
  unfold Run.recStop
  split <;> simp

@[simp] theorem Run.geoOk_changeover (r : Run s₀) (failed : Bool) : (r.changeover failed).GeoOk ↔ r.GeoOk := by
  unfold Run.changeover
  split <;> simp

@[simp] theorem Run.geoOk_fullCheck (r : Run s₀) : r.fullCheck.GeoOk ↔ r.GeoOk := by simp [Run.fullCheck]
@[simp] theorem Run.geoOk_degradeCheck (r : Run s₀) : r.degradeCheck.GeoOk ↔ r.GeoOk := by simp [Run.degradeCheck]
@[simp] theorem Run.geoOk_magCheck (r : Run s₀) (m : Nat) : (r.magCheck m).GeoOk ↔ r.GeoOk := by simp [Run.magCheck]

@[simp] theorem Run.geoOk_drvAbandon (r : Run s₀) (d : Nat) : (r.drvAbandon d).GeoOk ↔ r.GeoOk := by
  unfold Run.drvAbandon
  dsimp only
  rw [Run.geoOk_magBusy, Run.geoOk_each]
  · simp
  · intro c r
    split <;> simp

@[simp] theorem Run.geoOk_degrade (r : Run s₀) (m idx first : Nat) : (r.degrade m idx first).GeoOk ↔ r.GeoOk := by simp [Run.degrade]
@[simp] theorem Run.geoOk_failedCheck (r : Run s₀) (m : Nat) : (r.failedCheck m).GeoOk ↔ r.GeoOk := by simp [Run.failedCheck]
@[simp] theorem Run.geoOk_ringFailed (r : Run s₀) (m idx : Nat) : (r.ringFailed m idx).GeoOk ↔ r.GeoOk := by simp [Run.ringFailed]
@[simp] theorem Run.geoOk_recResume (r : Run s₀) : r.recResume.GeoOk ↔ r.GeoOk := by simp [Run.recResume]
@[simp] theorem Run.geoOk_removedAgain (r : Run s₀) (d inner : Nat) : (r.removedAgain d inner).GeoOk ↔ r.GeoOk := by simp [Run.removedAgain]

@[simp] theorem Run.geoOk_removeDrive (r : Run s₀) (d cause inner : Nat) : (r.removeDrive d cause inner).GeoOk ↔ r.GeoOk := by
  unfold Run.removeDrive
  dsimp only
  (repeat' split) <;> simp

@[simp] theorem Run.geoOk_removeLane (r : Run s₀) (l cause inner : Nat) : (r.removeLane l cause inner).GeoOk ↔ r.GeoOk := by
  simp [Run.removeLane]

@[simp] theorem Run.geoOk_clipLost (r : Run s₀) (ctx cause fn : Nat) : (r.clipLost ctx cause fn).GeoOk ↔ r.GeoOk := by
  unfold Run.clipLost
  split <;> simp

@[simp] theorem Run.geoOk_clipPump (r : Run s₀) (n : Nat) : (r.clipPump n).GeoOk ↔ r.GeoOk := by simp [Run.clipPump]

@[simp] theorem Run.geoOk_clipFrame (r : Run s₀) (sn : Nat) : (r.clipFrame sn).GeoOk ↔ r.GeoOk := by
  unfold Run.clipFrame
  dsimp only
  (repeat' split) <;> simp

@[simp] theorem Run.geoOk_clipAudio (r : Run s₀) : r.clipAudio.GeoOk ↔ r.GeoOk := by
  unfold Run.clipAudio
  split <;> simp

@[simp] theorem Run.geoOk_frameRecorded (r : Run s₀) (f : IFrame) : (r.frameRecorded f).GeoOk ↔ r.GeoOk := by simp [Run.frameRecorded]
@[simp] theorem Run.geoOk_recArm (r : Run s₀) (m : Nat) (pre : List Nat) : (r.recArm m pre).GeoOk ↔ r.GeoOk := by simp [Run.recArm]

@[simp] theorem Run.geoOk_recStart (r : Run s₀) (f : Nat → Run s₀ → Run s₀) (hf : ∀ a r, (f a r).GeoOk ↔ r.GeoOk) :
    (r.recStart f).GeoOk ↔ r.GeoOk := by
  simp [Run.recStart, hf]

@[simp] theorem Run.geoOk_recMark (r : Run s₀) : r.recMark.GeoOk ↔ r.GeoOk := by
  unfold Run.recMark
  split
  · rfl
  · dsimp only
    rw [Run.geoOk_mag, Run.geoOk_each]
    · intro c r
      split <;> simp
    · simp

@[simp] theorem Run.geoOk_segIssue (r : Run s₀) (s : Seg) : (r.segIssue s).GeoOk ↔ r.GeoOk := by simp [Run.segIssue]

@[simp] theorem Run.geoOk_stripeIssue (r : Run s₀) : r.stripeIssue.GeoOk ↔ r.GeoOk := by
  unfold Run.stripeIssue
  dsimp only
  (repeat' split) <;> simp

/-! ## Packing -/

@[simp] theorem Run.geoOk_pakSync (r : Run s₀) : r.pakSync.GeoOk ↔ r.GeoOk := by simp [Run.pakSync]
@[simp] theorem Run.geoOk_pakRelease (r : Run s₀) : r.pakRelease.GeoOk ↔ r.GeoOk := by simp [Run.pakRelease]

@[simp] theorem Run.geoOk_pakStore (r : Run s₀) (sn : Nat) : (r.pakStore sn).GeoOk ↔ r.GeoOk := by
  unfold Run.pakStore
  split <;> simp

@[simp] theorem Run.geoOk_pakFail (r : Run s₀) (f : IFrame) (cause : Nat) : (r.pakFail f cause).GeoOk ↔ r.GeoOk := by
  unfold Run.pakFail
  split <;> simp

@[simp] theorem Run.geoOk_pakEnd (r : Run s₀) (f : IFrame) : (r.pakEnd f).GeoOk ↔ r.GeoOk := by simp [Run.pakEnd]

@[simp] theorem Run.geoOk_pakSlice (r : Run s₀) (f : IFrame) : (r.pakSlice f).GeoOk ↔ r.GeoOk := by
  unfold Run.pakSlice
  dsimp only
  (repeat' split) <;> simp

@[simp] theorem Run.geoOk_pakFault (r : Run s₀) : r.pakFault.GeoOk ↔ r.GeoOk := by simp [Run.pakFault]

/-! ## Queues and commands -/

@[simp] theorem Run.geoOk_queueMod (r : Run s₀) (q : Nat) (f : QueueU → QueueU) : (r.queueMod q f).GeoOk ↔ r.GeoOk := by
  simp [Run.queueMod, Run.queueSync]

@[simp] theorem Run.geoOk_queueNew (r : Run s₀) (q depth sq cq cls vector coalN coalT : Nat) :
    (r.queueNew q depth sq cq cls vector coalN coalT).GeoOk ↔ r.GeoOk := by
  simp [Run.queueNew]

@[simp] theorem Run.geoOk_queueGone (r : Run s₀) (q : Nat) : (r.queueGone q).GeoOk ↔ r.GeoOk := by simp [Run.queueGone]

@[simp] theorem Run.geoOk_doorbellNoted (r : Run s₀) (q kind : Nat) : (r.doorbellNoted q kind).GeoOk ↔ r.GeoOk := by
  simp [Run.doorbellNoted]

@[simp] theorem Run.geoOk_doorbellErr (r : Run s₀) (q kind : Nat) : (r.doorbellErr q kind).GeoOk ↔ r.GeoOk := by simp [Run.doorbellErr]
@[simp] theorem Run.geoOk_writeSqTail (r : Run s₀) (q v : Nat) : (r.writeSqTail q v).GeoOk ↔ r.GeoOk := by simp [Run.writeSqTail]
@[simp] theorem Run.geoOk_writeCqHead (r : Run s₀) (q v : Nat) : (r.writeCqHead q v).GeoOk ↔ r.GeoOk := by simp [Run.writeCqHead]

@[simp] theorem Run.geoOk_resetDone (r : Run s₀) (q : Nat) : (r.resetDone q).2.GeoOk ↔ r.GeoOk := by
  unfold Run.resetDone
  (repeat' split) <;> simp

@[simp] theorem Run.geoOk_queueSignal (r : Run s₀) (q : Nat) : (r.queueSignal q).GeoOk ↔ r.GeoOk := by simp [Run.queueSignal]

@[simp] theorem Run.geoOk_postCompletion (r : Run s₀) (c : Cmd) (status result detail : Nat) (durable : Bool) :
    (r.postCompletion c status result detail durable).GeoOk ↔ r.GeoOk := by
  simp [Run.postCompletion]

@[simp] theorem Run.geoOk_completeWith (r : Run s₀) (no status result detail : Nat) (durable : Bool) :
    (r.completeWith no status result detail durable).GeoOk ↔ r.GeoOk := by
  unfold Run.completeWith
  dsimp only
  (repeat' split) <;> simp

@[simp] theorem Run.geoOk_complete (r : Run s₀) (no status result : Nat) : (r.complete no status result).GeoOk ↔ r.GeoOk := by
  simp [Run.complete]

@[simp] theorem Run.geoOk_invalidField (r : Run s₀) (no off : Nat) : (r.invalidField no off).GeoOk ↔ r.GeoOk := by simp [Run.invalidField]
@[simp] theorem Run.geoOk_unmask (r : Run s₀) (v : Nat) : (r.unmask v).GeoOk ↔ r.GeoOk := by simp [Run.unmask]
@[simp] theorem Run.geoOk_fetchFrom (r : Run s₀) (cls q n : Nat) : (r.fetchFrom cls q n).GeoOk ↔ r.GeoOk := by simp [Run.fetchFrom]

@[simp] theorem Run.geoOk_onCmd (r : Run s₀) (opc : Nat) (f : Cmd → Run s₀ → Run s₀) (hf : ∀ c r, (f c r).GeoOk ↔ r.GeoOk) :
    (r.onCmd opc f).GeoOk ↔ r.GeoOk := by
  unfold Run.onCmd
  split <;> simp [hf]

@[simp] theorem Run.geoOk_cmdRuns (r : Run s₀) (no : Nat) : (r.cmdRuns no).GeoOk ↔ r.GeoOk := by simp [Run.cmdRuns]

@[simp] theorem Run.geoOk_scatter (r : Run s₀) (l : List (Nat × Nat)) (bs : List Byte) (noSnoop : Bool) :
    (r.scatter l bs noSnoop).GeoOk ↔ r.GeoOk := by
  induction l generalizing r bs with
  | nil => exact .rfl
  | cons s l ih => simp [Run.scatter, ih]

@[simp] theorem Run.geoOk_answerCmd (r : Run s₀) (c : Cmd) (h : HostData) (bs : List Byte) (result : Nat) :
    (r.answerCmd c h bs result).GeoOk ↔ r.GeoOk := by
  unfold Run.answerCmd
  split <;> simp

@[simp] theorem Run.geoOk_queueReset (r : Run s₀) (q : Nat) (delete : Bool) (adm : Option Nat) :
    (r.queueReset q delete adm).GeoOk ↔ r.GeoOk := by
  unfold Run.queueReset
  dsimp only
  (repeat' split) <;> simp

@[simp] theorem Run.geoOk_qifEnable (r : Run s₀) : r.qifEnable.GeoOk ↔ r.GeoOk := by simp [Run.qifEnable]
@[simp] theorem Run.geoOk_qifDisable (r : Run s₀) : r.qifDisable.GeoOk ↔ r.GeoOk := by simp [Run.qifDisable]
@[simp] theorem Run.geoOk_adminReset (r : Run s₀) : r.adminReset.GeoOk ↔ r.GeoOk := by simp [Run.adminReset]

@[simp] theorem Run.geoOk_resetCmd (r : Run s₀) (opc : Nat) (delete : Bool) : (r.resetCmd opc delete).GeoOk ↔ r.GeoOk := by
  simp [Run.resetCmd]

/-! ## Handles, extents and labels -/

@[simp] theorem Run.geoOk_jobMod (r : Run s₀) (no : Nat) (f : Job → Job) : (r.jobMod no f).GeoOk ↔ r.GeoOk := by simp [Run.jobMod]

@[simp] theorem Run.geoOk_jobRead (r : Run s₀) (j : Job) (g : Nat) : (r.jobRead j g).GeoOk ↔ r.GeoOk := by
  unfold Run.jobRead
  dsimp only
  rw [Run.geoOk_each]
  · simp
  · intro c r
    split <;> simp

@[simp] theorem Run.geoOk_openRead (r : Run s₀) (c : Cmd) : (r.openRead c).GeoOk ↔ r.GeoOk := by
  unfold Run.openRead
  dsimp only
  split <;> simp

@[simp] theorem Run.geoOk_openWrite (r : Run s₀) (c : Cmd) : (r.openWrite c).GeoOk ↔ r.GeoOk := by
  unfold Run.openWrite
  split <;> simp

@[simp] theorem Run.geoOk_stripeOut (r : Run s₀) (h : Handle) (i : Nat) : (r.stripeOut h i).GeoOk ↔ r.GeoOk := by simp [Run.stripeOut]

@[simp] theorem Run.geoOk_closeWrite (r : Run s₀) (c : Cmd) (k : Nat) (h : Handle) : (r.closeWrite c k h).GeoOk ↔ r.GeoOk := by
  simp [Run.closeWrite]

@[simp] theorem Run.geoOk_stagedEnd (r : Run s₀) (x : Staged) : (r.stagedEnd x).GeoOk ↔ r.GeoOk := by simp [Run.stagedEnd]
@[simp] theorem Run.geoOk_flushEnd (r : Run s₀) (f : Nat × List Nat) : (r.flushEnd f).GeoOk ↔ r.GeoOk := by simp [Run.flushEnd]

@[simp] theorem Run.geoOk_closeStep (r : Run s₀) (x : Close) : (r.closeStep x).GeoOk ↔ r.GeoOk := by
  unfold Run.closeStep
  (repeat' split) <;> simp

@[simp] theorem Run.geoOk_newLabel (r : Run s₀) (m : Nat) : (r.newLabel m).GeoOk ↔ r.GeoOk := by simp [Run.newLabel]
@[simp] theorem Run.geoOk_opFinish (r : Run s₀) (m : Nat) : (r.opFinish m).GeoOk ↔ r.GeoOk := by simp [Run.opFinish]

@[simp] theorem Run.geoOk_opStep (r : Run s₀) (m : Nat) : (r.opStep m).GeoOk ↔ r.GeoOk := by
  unfold Run.opStep
  dsimp only
  split <;> simp

/-! ## Magazines -/

@[simp] theorem Run.geoOk_offloadEnd (r : Run s₀) (no outcome fails : Nat) (segs : List (Nat × Nat)) (bs : List Byte) :
    (r.offloadEnd no outcome fails segs bs).GeoOk ↔ r.GeoOk := by
  simp [Run.offloadEnd]

@[simp] theorem Run.geoOk_jobDone (r : Run s₀) (j : Job) (bad : Option Nat) : (r.jobDone j bad).GeoOk ↔ r.GeoOk := by
  unfold Run.jobDone
  dsimp only
  (repeat' split) <;> simp

@[simp] theorem Run.geoOk_jobNext (r : Run s₀) (j : Job) : (r.jobNext j).GeoOk ↔ r.GeoOk := by
  unfold Run.jobNext
  dsimp only
  (repeat' split) <;> simp

@[simp] theorem Run.geoOk_jobStep (r : Run s₀) (j : Job) : (r.jobStep j).GeoOk ↔ r.GeoOk := by
  unfold Run.jobStep
  dsimp only
  (repeat' split) <;> simp

@[simp] theorem Run.geoOk_rebuildEnd (r : Run s₀) (x : Rebuild) (outcome : Nat) : (r.rebuildEnd x outcome).GeoOk ↔ r.GeoOk := by
  unfold Run.rebuildEnd
  dsimp only
  (repeat' split) <;> simp

@[simp] theorem Run.geoOk_rebuildNext (r : Run s₀) (x : Rebuild) : (r.rebuildNext x).GeoOk ↔ r.GeoOk := by
  unfold Run.rebuildNext
  dsimp only
  (repeat' split) <;> simp

@[simp] theorem Run.geoOk_rebuildStep (r : Run s₀) (x : Rebuild) (j : Job) : (r.rebuildStep x j).GeoOk ↔ r.GeoOk := by
  unfold Run.rebuildStep
  dsimp only
  (repeat' split) <;> simp

@[simp] theorem Run.geoOk_rebuilt (r : Run s₀) (ok : Bool) : (r.rebuilt ok).GeoOk ↔ r.GeoOk := by
  unfold Run.rebuilt
  split <;> simp

@[simp] theorem Run.geoOk_hostAdvance (r : Run s₀) : r.hostAdvance.GeoOk ↔ r.GeoOk := by
  unfold Run.hostAdvance
  dsimp only
  split <;> simp

@[simp] theorem Run.geoOk_magAdvance (r : Run s₀) (m : Nat) : (r.magAdvance m).GeoOk ↔ r.GeoOk := by simp [Run.magAdvance]

@[simp] theorem Run.geoOk_cplFor (r : Run s₀) (d : Nat) (c : DCmd) (status : Nat) : (r.cplFor d c status).GeoOk ↔ r.GeoOk := by
  unfold Run.cplFor
  split <;> simp

@[simp] theorem Run.geoOk_rescueAbandon (r : Run s₀) : r.rescueAbandon.GeoOk ↔ r.GeoOk := by simp [Run.rescueAbandon]
@[simp] theorem Run.geoOk_rescueTry (r : Run s₀) : r.rescueTry.GeoOk ↔ r.GeoOk := by simp [Run.rescueTry]
@[simp] theorem Run.geoOk_removedByLabel (r : Run s₀) (g : Geo) : (r.removedByLabel g).GeoOk ↔ r.GeoOk := by simp [Run.removedByLabel]
@[simp] theorem Run.geoOk_changeNow (r : Run s₀) : r.changeNow.GeoOk ↔ r.GeoOk := by simp [Run.changeNow]

/-- FORMAT takes the records' rings, SANITISE keeps the rings there are (R319). -/
theorem Run.geoOk_magOp (r : Run s₀) (c : Cmd) (opc : Nat) (hr : r.GeoOk) : (r.magOp c opc).GeoOk := by
  have taken (p : Prop) [Decidable p] (r' : Run s₀) (m : Nat) (hr' : r'.GeoOk) : InByte (if p then r.cfgGeo m else (r'.magz m).geo) := by
    split
    · exact r.inByte_cfgGeo m
    · exact hr'.inByte m
  simp [Run.magOp, hr, Run.geoOk_magzMod_of, Run.inByte_cfgGeo, taken]

/-! ## Intake -/

@[simp] theorem Run.geoOk_bndMod (r : Run s₀) (b : Nat) (f : BndU → BndU) : (r.bndMod b f).GeoOk ↔ r.GeoOk := by simp [Run.bndMod]
@[simp] theorem Run.geoOk_vstMod (r : Run s₀) (v : Nat) (f : VsU → VsU) : (r.vstMod v f).GeoOk ↔ r.GeoOk := by simp [Run.vstMod]
@[simp] theorem Run.geoOk_bndGo (r : Run s₀) (b st : Nat) : (r.bndGo b st).GeoOk ↔ r.GeoOk := by simp [Run.bndGo]
@[simp] theorem Run.geoOk_bndLink (r : Run s₀) (b cause : Nat) : (r.bndLink b cause).GeoOk ↔ r.GeoOk := by simp [Run.bndLink]
@[simp] theorem Run.geoOk_countLoss (r : Run s₀) (v fn cause : Nat) : (r.countLoss v fn cause).GeoOk ↔ r.GeoOk := by simp [Run.countLoss]
@[simp] theorem Run.geoOk_closeFrame (r : Run s₀) (v : Nat) : (r.closeFrame v).GeoOk ↔ r.GeoOk := by simp [Run.closeFrame]
@[simp] theorem Run.geoOk_dropFrame (r : Run s₀) (sn : Nat) : (r.dropFrame sn).GeoOk ↔ r.GeoOk := by simp [Run.dropFrame]

@[simp] theorem Run.geoOk_loseFrame (r : Run s₀) (v cause : Nat) : (r.loseFrame v cause).GeoOk ↔ r.GeoOk := by
  unfold Run.loseFrame
  split <;> simp

@[simp] theorem Run.geoOk_loseFrames (r : Run s₀) (b cause : Nat) : (r.loseFrames b cause).GeoOk ↔ r.GeoOk := by simp [Run.loseFrames]
@[simp] theorem Run.geoOk_retEmit (r : Run s₀) (b seq : Nat) (p : RetPkt) : (r.retEmit b seq p).GeoOk ↔ r.GeoOk := by simp [Run.retEmit]
@[simp] theorem Run.geoOk_retSend (r : Run s₀) (b : Nat) (p : RetPkt) : (r.retSend b p).GeoOk ↔ r.GeoOk := by simp [Run.retSend]
@[simp] theorem Run.geoOk_bndNak (r : Run s₀) (b : Nat) : (r.bndNak b).GeoOk ↔ r.GeoOk := by simp [Run.bndNak]
@[simp] theorem Run.geoOk_initialMap (r : Run s₀) (b : Nat) : (r.initialMap b).GeoOk ↔ r.GeoOk := by simp [Run.initialMap]
@[simp] theorem Run.geoOk_newMap (r : Run s₀) (b : Nat) (map : List Nat) : (r.newMap b map).GeoOk ↔ r.GeoOk := by simp [Run.newMap]
@[simp] theorem Run.geoOk_sparesLeft (r : Run s₀) (b : Nat) : (r.sparesLeft b).GeoOk ↔ r.GeoOk := by simp [Run.sparesLeft]
@[simp] theorem Run.geoOk_bndFail (r : Run s₀) (b cause : Nat) : (r.bndFail b cause).GeoOk ↔ r.GeoOk := by simp [Run.bndFail]

@[simp] theorem Run.geoOk_bndTry (r : Run s₀) (b : Nat) (failed : Bool) : (r.bndTry b failed).GeoOk ↔ r.GeoOk := by
  simp [Run.bndTry, Run.bndDeskew]

@[simp] theorem Run.geoOk_bndUp (r : Run s₀) (b : Nat) : (r.bndUp b).GeoOk ↔ r.GeoOk := by simp [Run.bndUp]
@[simp] theorem Run.geoOk_bndReplay (r : Run s₀) (b : Nat) : (r.bndReplay b).GeoOk ↔ r.GeoOk := by simp [Run.bndReplay]

@[simp] theorem Run.geoOk_substitute (r : Run s₀) (b n spare detector time : Nat) :
    (r.substitute b n spare detector time).GeoOk ↔ r.GeoOk := by
  simp [Run.substitute]

@[simp] theorem Run.geoOk_bndLane (r : Run s₀) (b n : Nat) : (r.bndLane b n).GeoOk ↔ r.GeoOk := by
  unfold Run.bndLane
  dsimp only
  (repeat' split) <;> simp

@[simp] theorem Run.geoOk_bndPair (r : Run s₀) (b : Nat) (f : Run s₀ → Run s₀) (hf : ∀ r, (f r).GeoOk ↔ r.GeoOk) :
    (r.bndPair b f).GeoOk ↔ r.GeoOk := by
  simp [Run.bndPair, hf]

@[simp] theorem Run.geoOk_bndCode (r : Run s₀) (n : Nat) : (r.bndCode n).GeoOk ↔ r.GeoOk := by
  unfold Run.bndCode
  dsimp only
  (repeat' split) <;> simp

@[simp] theorem Run.geoOk_bndError (r : Run s₀) (b : Nat) : (r.bndError b).GeoOk ↔ r.GeoOk := by simp [Run.bndError]

@[simp] theorem Run.geoOk_bndTake (r : Run s₀) (b seq : Nat) (f : Run s₀ → Run s₀) (hf : ∀ r, (f r).GeoOk ↔ r.GeoOk) :
    (r.bndTake b seq f).GeoOk ↔ r.GeoOk := by
  simp [Run.bndTake, hf]

@[simp] theorem Run.geoOk_vsTake (r : Run s₀) (b seq v : Nat) (f : Run s₀ → Run s₀) (hf : ∀ r, (f r).GeoOk ↔ r.GeoOk) :
    (r.vsTake b seq v f).GeoOk ↔ r.GeoOk := by
  simp [Run.vsTake, hf]

@[simp] theorem Run.geoOk_bndResync (r : Run s₀) (b : Nat) : (r.bndResync b).GeoOk ↔ r.GeoOk := by simp [Run.bndResync]
@[simp] theorem Run.geoOk_bndDeskewed (r : Run s₀) (b skew : Nat) : (r.bndDeskewed b skew).GeoOk ↔ r.GeoOk := by simp [Run.bndDeskewed]
@[simp] theorem Run.geoOk_bndMapResend (r : Run s₀) (b : Nat) : (r.bndMapResend b).GeoOk ↔ r.GeoOk := by simp [Run.bndMapResend]

@[simp] theorem Run.geoOk_bndWaitOver (r : Run s₀) (b : Nat) : (r.bndWaitOver b).GeoOk ↔ r.GeoOk := by
  unfold Run.bndWaitOver
  split <;> simp

@[simp] theorem Run.geoOk_bndRestart (r : Run s₀) (b : Nat) : (r.bndRestart b).GeoOk ↔ r.GeoOk := by simp [Run.bndRestart]
@[simp] theorem Run.geoOk_bndAcked (r : Run s₀) (b seq : Nat) : (r.bndAcked b seq).GeoOk ↔ r.GeoOk := by simp [Run.bndAcked]
@[simp] theorem Run.geoOk_bndNaked (r : Run s₀) (b seq : Nat) : (r.bndNaked b seq).GeoOk ↔ r.GeoOk := by simp [Run.bndNaked]

@[simp] theorem Run.geoOk_slotAlloc (r : Run s₀) (n : Nat) : (r.slotAlloc n).2.GeoOk ↔ r.GeoOk := by
  unfold Run.slotAlloc
  split <;> simp

@[simp] theorem Run.geoOk_setCounts (r : Run s₀) (v : Nat) : (r.setCounts v).GeoOk ↔ r.GeoOk := by simp [Run.setCounts]
@[simp] theorem Run.geoOk_setSend (r : Run s₀) (v : Nat) (q : SetReq) : (r.setSend v q).GeoOk ↔ r.GeoOk := by simp [Run.setSend]

@[simp] theorem Run.geoOk_setLate (r : Run s₀) (v fn tag : Nat) (lost early : Bool) :
    (r.setLate v fn tag lost early).GeoOk ↔ r.GeoOk := by
  simp [Run.setLate]

@[simp] theorem Run.geoOk_setEcho (r : Run s₀) (v g tag : Nat) : (r.setEcho v g tag).GeoOk ↔ r.GeoOk := by
  unfold Run.setEcho
  dsimp only
  rw [Run.geoOk_setCounts, Run.geoOk_each]
  · simp
  · intro q r
    split <;> simp

@[simp] theorem Run.geoOk_setGo (r : Run s₀) (v : Nat) : (r.setGo v).GeoOk ↔ r.GeoOk := by simp [Run.setGo]

@[simp] theorem Run.geoOk_openFs (r : Run s₀) (v fn tag ts tns tf : Nat) : (r.openFs v fn tag ts tns tf).GeoOk ↔ r.GeoOk := by
  unfold Run.openFs
  dsimp only
  split <;> simp

@[simp] theorem Run.geoOk_acceptFs (r : Run s₀) (v fn tag ts tns tf : Nat) : (r.acceptFs v fn tag ts tns tf).GeoOk ↔ r.GeoOk := by
  simp [Run.acceptFs, Run.setDispatch]

@[simp] theorem Run.geoOk_acceptLp (r : Run s₀) (v : Nat) (f : IFrame) (y x : Nat) (samples : List Nat) :
    (r.acceptLp v f y x samples).GeoOk ↔ r.GeoOk := by
  simp [Run.acceptLp]

@[simp] theorem Run.geoOk_acceptEmb (r : Run s₀) (v : Nat) (f : IFrame) (fn off : Nat) (data : List Byte) :
    (r.acceptEmb v f fn off data).GeoOk ↔ r.GeoOk := by
  simp [Run.acceptEmb]

@[simp] theorem Run.geoOk_acceptFe (r : Run s₀) (v : Nat) (f : IFrame) (fn lines : Nat) : (r.acceptFe v f fn lines).GeoOk ↔ r.GeoOk := by
  unfold Run.acceptFe
  dsimp only
  cases (Run.frame? _ f.sn) <;> simp

@[simp] theorem Run.geoOk_ofOpen (r : Run s₀) (v : Nat) (f : IFrame → Run s₀ → Run s₀) (hf : ∀ x r, (f x r).GeoOk ↔ r.GeoOk) :
    (r.ofOpen v f).GeoOk ↔ r.GeoOk := by
  unfold Run.ofOpen
  split <;> simp [hf]

@[simp] theorem Run.geoOk_sluiceLp (r : Run s₀) (b v y x : Nat) (samples : List Nat) (bad : Bool) :
    (r.sluiceLp b v y x samples bad).GeoOk ↔ r.GeoOk := by
  simp [Run.sluiceLp]

@[simp] theorem Run.geoOk_acceptSt (r : Run s₀) (v status : Nat) (alarm : Bool) (temp : Nat) :
    (r.acceptSt v status alarm temp).GeoOk ↔ r.GeoOk := by
  simp [Run.acceptSt]

@[simp] theorem Run.geoOk_fsTimeout (r : Run s₀) (v : Nat) : (r.fsTimeout v).GeoOk ↔ r.GeoOk := by simp [Run.fsTimeout]
@[simp] theorem Run.geoOk_syncOne (r : Run s₀) (b v : Nat) : (r.syncOne b v).GeoOk ↔ r.GeoOk := by simp [Run.syncOne]
@[simp] theorem Run.geoOk_itkWeave (r : Run s₀) : r.itkWeave.GeoOk ↔ r.GeoOk := by simp [Run.itkWeave]
@[simp] theorem Run.geoOk_itkStop (r : Run s₀) : r.itkStop.GeoOk ↔ r.GeoOk := by simp [Run.itkStop]

@[simp] theorem Run.geoOk_lenOk (r : Run s₀) (b : Nat) (ok : Bool) (f : Run s₀ → Run s₀) (hf : ∀ r, (f r).GeoOk ↔ r.GeoOk) :
    (r.lenOk b ok f).GeoOk ↔ r.GeoOk := by
  simp [Run.lenOk, hf]

@[simp] theorem Run.geoOk_writeRestart (r : Run s₀) (b : Nat) : (r.writeRestart b).GeoOk ↔ r.GeoOk := by simp [Run.writeRestart]

/-! ## Lanes and their owners -/

@[simp] theorem Run.geoOk_fedSync (r : Run s₀) (g : Nat) : (r.fedSync g).GeoOk ↔ r.GeoOk := by simp [Run.fedSync]
@[simp] theorem Run.geoOk_lossBreach (r : Run s₀) (n action : Nat) : (r.lossBreach n action).GeoOk ↔ r.GeoOk := by simp [Run.lossBreach]

@[simp] theorem Run.geoOk_laneChanged (r : Run s₀) (n : Nat) (lost : Bool) : (r.laneChanged n lost).GeoOk ↔ r.GeoOk := by
  unfold Run.laneChanged
  dsimp only
  (repeat' split) <;> simp

@[simp] theorem Run.geoOk_farLost (r : Run s₀) (n : Nat) : (r.farLost n).GeoOk ↔ r.GeoOk := by
  unfold Run.farLost
  split <;> simp

@[simp] theorem Run.geoOk_lockLost (r : Run s₀) (n : Nat) : (r.lockLost n).GeoOk ↔ r.GeoOk := by simp [Run.lockLost, Run.laneLose]

@[simp] theorem Run.geoOk_trainFailed (r : Run s₀) (n result : Nat) : (r.trainFailed n result).GeoOk ↔ r.GeoOk := by
  simp [Run.trainFailed, Run.laneFail]

@[simp] theorem Run.geoOk_lockDeclared (r : Run s₀) (n : Nat) : (r.lockDeclared n).GeoOk ↔ r.GeoOk := by
  simp [Run.lockDeclared, Run.commaLocked]

@[simp] theorem Run.geoOk_bndPart (r : Run s₀) (b n type : Nat) : (r.bndPart b n type).GeoOk ↔ r.GeoOk := by simp [Run.bndPart]
@[simp] theorem Run.geoOk_laneWords (r : Run s₀) (n was type : Nat) : (r.laneWords n was type).GeoOk ↔ r.GeoOk := by simp [Run.laneWords]

@[simp] theorem Run.geoOk_lockedReach (r : Run s₀) (n : Nat) (sym : List Nat) (h : Option ReachHeader) :
    (r.lockedReach n sym h).GeoOk ↔ r.GeoOk := by
  unfold Run.lockedReach
  dsimp only
  (repeat' split) <;> simp

@[simp] theorem Run.geoOk_reach (r : Run s₀) (n : Nat) (sym : List Nat) : (r.reach n sym).GeoOk ↔ r.GeoOk := by
  simp [Run.reach, Run.laneAlign, Run.laneSearch]

@[simp] theorem Run.geoOk_writeAccept (r : Run s₀) (n : Nat) : (r.writeAccept n).GeoOk ↔ r.GeoOk := by simp [Run.writeAccept]
@[simp] theorem Run.geoOk_writeRetrain (r : Run s₀) (n : Nat) : (r.writeRetrain n).GeoOk ↔ r.GeoOk := by simp [Run.writeRetrain]
@[simp] theorem Run.geoOk_eyeEnd (r : Run s₀) (n errors : Nat) : (r.eyeEnd n errors).GeoOk ↔ r.GeoOk := by simp [Run.eyeEnd]

@[simp] theorem Run.geoOk_testBits (r : Run s₀) (n : Nat) (line : List Bool) (f : List Bool → Run s₀ → Run s₀)
    (hf : ∀ a r, (f a r).GeoOk ↔ r.GeoOk) : (r.testBits n line f).GeoOk ↔ r.GeoOk := by
  simp [Run.testBits, hf]

@[simp] theorem Run.geoOk_checkEnd (r : Run s₀) (n : Nat) : (r.checkEnd n).GeoOk ↔ r.GeoOk := by
  unfold Run.checkEnd
  dsimp only
  (repeat' split) <;> simp

/-! ## The monitor: lines and locks -/

@[simp] theorem Run.geoOk_monText (r : Run s₀) (t : String) : (r.monText t).GeoOk ↔ r.GeoOk := by simp [Run.monText]
@[simp] theorem Run.geoOk_monEnd (r : Run s₀) (err : Nat) : (r.monEnd err).GeoOk ↔ r.GeoOk := by simp [Run.monEnd]
@[simp] theorem Run.geoOk_monLock (r : Run s₀) : r.monLock.GeoOk ↔ r.GeoOk := by simp [Run.monLock]

@[simp] theorem Run.geoOk_sweepAbort (r : Run s₀) : r.sweepAbort.GeoOk ↔ r.GeoOk := by
  unfold Run.sweepAbort
  split <;> simp

/-! ## Commands of the host -/

@[simp] theorem Run.geoOk_negotiate (r : Run s₀) (feat : Nat) : (r.negotiate feat).GeoOk ↔ r.GeoOk := by
  unfold Run.negotiate
  split <;> simp

@[simp] theorem Run.geoOk_writeOk (r : Run s₀) : r.writeOk.GeoOk ↔ r.GeoOk := by simp [Run.writeOk]
@[simp] theorem Run.geoOk_setRoute (r : Run s₀) (e v : Nat) : (r.setRoute e v).GeoOk ↔ r.GeoOk := by simp [Run.setRoute]

/-! ## DMA channels -/

@[simp] theorem Run.geoOk_dmaMod (r : Run s₀) (n : Nat) (f : DmaCh → DmaCh) : (r.dmaMod n f).GeoOk ↔ r.GeoOk := by simp [Run.dmaMod]
@[simp] theorem Run.geoOk_dmaFault (r : Run s₀) (n cause pc : Nat) : (r.dmaFault n cause pc).GeoOk ↔ r.GeoOk := by simp [Run.dmaFault]
@[simp] theorem Run.geoOk_sramStore (r : Run s₀) (a : Nat) (bs : List Byte) : (r.sramStore a bs).GeoOk ↔ r.GeoOk := by simp [Run.sramStore]

@[simp] theorem Run.geoOk_dmaFetch (r : Run s₀) (n : Nat) (f : DmaOp → Nat → Run s₀ → Run s₀) (hf : ∀ a b r, (f a b r).GeoOk ↔ r.GeoOk) :
    (r.dmaFetch n f).GeoOk ↔ r.GeoOk := by
  unfold Run.dmaFetch
  dsimp only
  (repeat' split) <;> simp [hf]

@[simp] theorem Run.geoOk_dmaNext (r : Run s₀) (n pc : Nat) : (r.dmaNext n pc).GeoOk ↔ r.GeoOk := by simp [Run.dmaNext]

@[simp] theorem Run.geoOk_semServe (r : Run s₀) (s : Nat) (l : List Nat) : (r.semServe s l).GeoOk ↔ r.GeoOk := by
  induction l generalizing r with
  | nil => exact .rfl
  | cons n l ih => simp [Run.semServe, ih]

@[simp] theorem Run.geoOk_semAdd (r : Run s₀) (s v : Nat) : (r.semAdd s v).GeoOk ↔ r.GeoOk := by simp [Run.semAdd]
@[simp] theorem Run.geoOk_dmaStart (r : Run s₀) (n pc : Nat) : (r.dmaStart n pc).GeoOk ↔ r.GeoOk := by simp [Run.dmaStart]
@[simp] theorem Run.geoOk_dmaGo (r : Run s₀) (n : Nat) : (r.dmaGo n).GeoOk ↔ r.GeoOk := by simp [Run.dmaGo]

@[simp] theorem Run.geoOk_dmaLand (r : Run s₀) (n : Nat) (m : DmaMove) (bs : List Byte) : (r.dmaLand n m bs).GeoOk ↔ r.GeoOk := by
  simp [Run.dmaLand]

@[simp] theorem Run.geoOk_dmaMove (r : Run s₀) (n pc sspace dspace len src dst pattern : Nat) :
    (r.dmaMove n pc sspace dspace len src dst pattern).GeoOk ↔ r.GeoOk := by
  simp [Run.dmaMove]

@[simp] theorem Run.geoOk_dmaLoop (r : Run s₀) (n pc l count sstep dstep back : Nat) :
    (r.dmaLoop n pc l count sstep dstep back).GeoOk ↔ r.GeoOk := by
  simp [Run.dmaLoop]

@[simp] theorem Run.geoOk_dmaWait (r : Run s₀) (n pc sem : Nat) : (r.dmaWait n pc sem).GeoOk ↔ r.GeoOk := by simp [Run.dmaWait]

@[simp] theorem Run.geoOk_dmaHalt (r : Run s₀) (n cause : Nat) (moved : List Nat) : (r.dmaHalt n cause moved).GeoOk ↔ r.GeoOk := by
  simp [Run.dmaHalt]

/-! ## DRAM channels -/

@[simp] theorem Run.geoOk_memMod (r : Run s₀) (c : Nat) (f : MemCh → MemCh) : (r.memMod c f).GeoOk ↔ r.GeoOk := by simp [Run.memMod]

@[simp] theorem Run.geoOk_channelRetire (r : Run s₀) (c detector block : Nat) : (r.channelRetire c detector block).GeoOk ↔ r.GeoOk := by
  simp [Run.channelRetire]

@[simp] theorem Run.geoOk_nrrDraw (r : Run s₀) (c : Nat) (f : Nat → Run s₀ → Run s₀) (hf : ∀ a r, (f a r).GeoOk ↔ r.GeoOk) :
    (r.nrrDraw c f).GeoOk ↔ r.GeoOk := by
  unfold Run.nrrDraw
  split <;> simp [hf]

@[simp] theorem Run.geoOk_dramCmd (r : Run s₀) (c kind : Nat) (fields : List Nat) : (r.dramCmd c kind fields).GeoOk ↔ r.GeoOk := by
  simp [Run.dramCmd]

@[simp] theorem Run.geoOk_activate (r : Run s₀) (c bank row : Nat) : (r.activate c bank row).GeoOk ↔ r.GeoOk := by simp [Run.activate]
@[simp] theorem Run.geoOk_badRead (r : Run s₀) (c b : Nat) : (r.badRead c b).GeoOk ↔ r.GeoOk := by simp [Run.badRead]

@[simp] theorem Run.geoOk_blockAccess (r : Run s₀) (c : Nat) (arrived : List MemReq) (busy : List Nat) (waited : Bool) (result : Nat) :
    (r.blockAccess c arrived busy waited result).GeoOk ↔ r.GeoOk := by
  unfold Run.blockAccess
  dsimp only
  (repeat' split) <;> simp

@[simp] theorem Run.geoOk_channelTrained (r : Run s₀) (c : Nat) : (r.channelTrained c).GeoOk ↔ r.GeoOk := by simp [Run.channelTrained]

@[simp] theorem Run.geoOk_retrainNext (r : Run s₀) : r.retrainNext.GeoOk ↔ r.GeoOk := by
  unfold Run.retrainNext
  (repeat' split) <;> simp

@[simp] theorem Run.geoOk_retrainDue (r : Run s₀) (c : Nat) : (r.retrainDue c).GeoOk ↔ r.GeoOk := by simp [Run.retrainDue]
@[simp] theorem Run.geoOk_writeRetrainReq (r : Run s₀) (v : Nat) : (r.writeRetrainReq v).GeoOk ↔ r.GeoOk := by simp [Run.writeRetrainReq]

@[simp] theorem Run.geoOk_retrainStep (r : Run s₀) (c : Nat) (ok last : Bool) : (r.retrainStep c ok last).GeoOk ↔ r.GeoOk := by
  simp [Run.retrainStep]

/-! ## Loads: checks -/

@[simp] theorem Run.geoOk_imageFailed (r : Run s₀) (code : Nat) : (r.imageFailed code).GeoOk ↔ r.GeoOk := by simp [Run.imageFailed]

/-! ## Faults and temperatures -/

@[simp] theorem Run.geoOk_sensorReading (r : Run s₀) (s : Nat) (x : Option Int) : (r.sensorReading s x).GeoOk ↔ r.GeoOk := by
  simp [Run.sensorReading, Run.sensorRetire]

@[simp] theorem Run.geoOk_hotSync (r : Run s₀) : r.hotSync.GeoOk ↔ r.GeoOk := by
  unfold Run.hotSync
  split <;> simp

@[simp] theorem Run.geoOk_leveeSet (r : Run s₀) (k : Nat) : (r.leveeSet k).GeoOk ↔ r.GeoOk := by simp [Run.leveeSet]
@[simp] theorem Run.geoOk_leveeRise (r : Run s₀) : r.leveeRise.GeoOk ↔ r.GeoOk := by simp [Run.leveeRise]

@[simp] theorem Run.geoOk_thermalReading (r : Run s₀) (readings : List (Option Int)) : (r.thermalReading readings).GeoOk ↔ r.GeoOk := by
  simp only [Run.thermalReading, Run.geoOk_ite, Run.geoOk_retrainNext]
  rw [Run.geoOk_each (List.range 16)]
  · simp
  · intro c r
    split <;> simp

@[simp] theorem Run.geoOk_coreFault (r : Run s₀) (k : Nat) : (r.coreFault k).GeoOk ↔ r.GeoOk := by simp [Run.coreFault]
@[simp] theorem Run.geoOk_wardenFailover (r : Run s₀) (k : Nat) : (r.wardenFailover k).GeoOk ↔ r.GeoOk := by simp [Run.wardenFailover]

@[simp] theorem Run.geoOk_decFault (r : Run s₀) (au : Option (Nat × DecPic)) : (r.decFault au).GeoOk ↔ r.GeoOk := by
  unfold Run.decFault
  (repeat' split) <;> simp

@[simp] theorem Run.geoOk_writeEnable (r : Run s₀) (k v : Nat) : (r.writeEnable k v).GeoOk ↔ r.GeoOk := by simp [Run.writeEnable]
@[simp] theorem Run.geoOk_clearStatus (r : Run s₀) (k v : Nat) : (r.clearStatus k v).GeoOk ↔ r.GeoOk := by simp [Run.clearStatus]

/-! ## Writes that do more -/

@[simp] theorem Run.geoOk_writeBut (r : Run s₀) (h : Hit) (lo n v : Nat) (bad : List Fld) :
    (r.writeBut h lo n v bad).GeoOk ↔ r.GeoOk := by
  simp [Run.writeBut]

@[simp] theorem Run.geoOk_writeBoard (r : Run s₀) (h : Hit) (lo n v : Nat) : (r.writeBoard h lo n v).GeoOk ↔ r.GeoOk := by
  unfold Run.writeBoard
  split <;> simp

@[simp] theorem Run.geoOk_writeEvt (r : Run s₀) (h : Hit) (lo n v : Nat) : (r.writeEvt h lo n v).GeoOk ↔ r.GeoOk := by
  unfold Run.writeEvt
  split <;> simp

@[simp] theorem Run.geoOk_writeTime (r : Run s₀) (h : Hit) (lo n v : Nat) : (r.writeTime h lo n v).GeoOk ↔ r.GeoOk := by
  unfold Run.writeTime
  split <;> simp

@[simp] theorem Run.geoOk_writeLink (r : Run s₀) (h : Hit) (lo n v : Nat) : (r.writeLink h lo n v).GeoOk ↔ r.GeoOk := by
  unfold Run.writeLink
  split <;> simp

@[simp] theorem Run.geoOk_writeCodec (r : Run s₀) (h : Hit) (lo n v : Nat) : (r.writeCodec h lo n v).GeoOk ↔ r.GeoOk := by
  unfold Run.writeCodec
  (repeat' split) <;> simp

@[simp] theorem Run.geoOk_writeCore (r : Run s₀) (h : Hit) (lo n v : Nat) : (r.writeCore h lo n v).GeoOk ↔ r.GeoOk := by
  unfold Run.writeCore
  split <;> simp

@[simp] theorem Run.geoOk_writeUnit (r : Run s₀) (h : Hit) (lo n v : Nat) : (r.writeUnit h lo n v).GeoOk ↔ r.GeoOk := by
  simp [Run.writeUnit]

@[simp] theorem Run.geoOk_readDone (r : Run s₀) (h : Hit) (lo n : Nat) : (r.readDone h lo n).GeoOk ↔ r.GeoOk := by
  unfold Run.readDone
  split <;> simp

/-! ## The weave -/

@[simp] theorem Run.geoOk_modeNone (r : Run s₀) : r.modeNone.GeoOk ↔ r.GeoOk := by simp [Run.modeNone]
@[simp] theorem Run.geoOk_routesLoad (r : Run s₀) : r.routesLoad.GeoOk ↔ r.GeoOk := by simp [Run.routesLoad]

@[simp] theorem Run.geoOk_preset (r : Run s₀) (c : CfgRec) : (r.preset c).GeoOk ↔ r.GeoOk := by
  unfold Run.preset
  split <;> simp

@[simp] theorem Run.geoOk_audioWeave (r : Run s₀) : r.audioWeave.GeoOk ↔ r.GeoOk := by simp [Run.audioWeave]
@[simp] theorem Run.geoOk_loopMeasure (r : Run s₀) : r.loopMeasure.GeoOk ↔ r.GeoOk := by simp [Run.loopMeasure]

/-- No magazine is left from before a weave, and the new ones have their records' rings (R247, R267). -/
@[simp] theorem Run.geoOk_magWeave (r : Run s₀) : r.magWeave.GeoOk := by
  refine Run.geoOk_each_of _ _ (fun m r hr => ?_) _ (Run.geoOk_of_mag_nil _ rfl)
  simp only [Run.geoOk_magSync, Run.geoOk_each, Run.geoOk_ringRegs, implies_true]
  refine Run.geoOk_magzMod_of _ _ _ hr ?_
  dsimp only
  split
  · exact fun _ hg => absurd hg List.not_mem_nil
  · exact r.inByte_cfgGeo m

@[simp] theorem Run.geoOk_ctxWeave (r : Run s₀) : r.ctxWeave.GeoOk ↔ r.GeoOk := by simp [Run.ctxWeave, Run.pixWeave]
@[simp] theorem Run.geoOk_outletsWeave (r : Run s₀) : r.outletsWeave.GeoOk ↔ r.GeoOk := by simp [Run.outletsWeave]
@[simp] theorem Run.geoOk_composersWeave (r : Run s₀) : r.composersWeave.GeoOk ↔ r.GeoOk := by simp [Run.composersWeave, Run.cmpWeave]
@[simp] theorem Run.geoOk_codecsWeave (r : Run s₀) (old : List CfgRec) : (r.codecsWeave old).GeoOk ↔ r.GeoOk := by simp [Run.codecsWeave]
@[simp] theorem Run.geoOk_weave (r : Run s₀) (old : List CfgRec) : (r.weave old).GeoOk := by simp [Run.weave]

@[simp] theorem Run.geoOk_weaveNew (r : Run s₀) (b : List Byte) (cfg : List CfgRec) : (r.weaveNew b cfg).GeoOk :=
  Run.geoOk_weave _ _

@[simp] theorem Run.geoOk_weaveEnd (r : Run s₀) : r.weaveEnd.GeoOk ↔ r.GeoOk := by simp [Run.weaveEnd, Run.lanesStart, Run.linksUp]

/-! ## Resets -/

@[simp] theorem Run.geoOk_featOffer (r : Run s₀) : r.featOffer.GeoOk ↔ r.GeoOk := by simp [Run.featOffer]

/-- A power-on reset leaves no magazine (Table 02-3). -/
@[simp] theorem Run.geoOk_powerOn (r : Run s₀) : r.powerOn.GeoOk := by
  simpa [Run.powerOn] using Run.geoOk_of_mag_nil _ rfl

/-- A cold reset leaves no magazine (Table 02-3). -/
@[simp] theorem Run.geoOk_coldReset (r : Run s₀) (cause : Fld) : (r.coldReset cause).GeoOk := by
  simpa [Run.coldReset] using Run.geoOk_of_mag_nil _ rfl

@[simp] theorem Run.geoOk_bootStart (r : Run s₀) (straps : Nat) : (r.bootStart straps).GeoOk ↔ r.GeoOk := by simp [Run.bootStart]

@[simp] theorem Run.geoOk_openDrop (r : Run s₀) : r.openDrop.GeoOk ↔ r.GeoOk := by
  unfold Run.openDrop
  rw [Run.geoOk_each]
  intro v r
  split <;> simp

@[simp] theorem Run.geoOk_warmTrigger (r : Run s₀) (cause : Fld) : (r.warmTrigger cause).GeoOk ↔ r.GeoOk := by
  simp [Run.warmTrigger, Run.warmBegin, Run.clipFreeze]

@[simp] theorem Run.geoOk_writeResetCtl (r : Run s₀) (key : Nat) (cold warm : Bool) (hr : r.GeoOk) :
    (r.writeResetCtl key cold warm).GeoOk := by
  simp [Run.writeResetCtl, hr]

@[simp] theorem Run.geoOk_dramInit (r : Run s₀) (failed : Nat) : (r.dramInit failed).GeoOk ↔ r.GeoOk := by simp [Run.dramInit]

/-! ## Boot -/

@[simp] theorem Run.geoOk_bootTo (r : Run s₀) (p : Phase) (stage : Nat) : (r.bootTo p stage).GeoOk ↔ r.GeoOk := by simp [Run.bootTo]

@[simp] theorem Run.geoOk_fwStart (r : Run s₀) (image : List Byte) (slot : Nat) : (r.fwStart image slot).GeoOk ↔ r.GeoOk := by
  simp [Run.fwStart]

@[simp] theorem Run.geoOk_writeRecovery (r : Run s₀) (n : Nat) : (r.writeRecovery n).GeoOk ↔ r.GeoOk := by simp [Run.writeRecovery]

/-! ## Reference clocks -/

@[simp] theorem Run.geoOk_refEval (r : Run s₀) : r.refEval.GeoOk ↔ r.GeoOk := by simp [Run.refEval]
@[simp] theorem Run.geoOk_writeClk (r : Run s₀) (v : Nat) : (r.writeClk v).GeoOk ↔ r.GeoOk := by simp [Run.writeClk]

/-! ## Loads and weaves -/

@[simp] theorem Run.geoOk_dirWrite (r : Run s₀) (fw bs : Nat) : (r.dirWrite fw bs).GeoOk ↔ r.GeoOk := by simp [Run.dirWrite]
@[simp] theorem Run.geoOk_loadRefused (r : Run s₀) (no code : Nat) : (r.loadRefused no code).GeoOk ↔ r.GeoOk := by simp [Run.loadRefused]

@[simp] theorem Run.geoOk_storeFirmware (r : Run s₀) (no : Nat) (b : List Byte) : (r.storeFirmware no b).GeoOk ↔ r.GeoOk := by
  simp [Run.storeFirmware]

@[simp] theorem Run.geoOk_storeNarric (r : Run s₀) (no : Nat) (b : List Byte) : (r.storeNarric no b).GeoOk ↔ r.GeoOk := by
  simp [Run.storeNarric]

@[simp] theorem Run.geoOk_loadWeave (r : Run s₀) (no : Nat) (b : List Byte) : (r.loadWeave no b).GeoOk ↔ r.GeoOk := by
  simp [Run.loadWeave, Run.deltaBegin, Run.keysProgram]

@[simp] theorem Run.geoOk_changeEnd (r : Run s₀) (status result : Nat) : (r.changeEnd status result).GeoOk ↔ r.GeoOk := by
  unfold Run.changeEnd
  dsimp only
  split <;> simp

@[simp] theorem Run.geoOk_fwActivated (r : Run s₀) (image : List Byte) : (r.fwActivated image).GeoOk ↔ r.GeoOk := by simp [Run.fwActivated]

@[simp] theorem Run.geoOk_fwRolledBack (r : Run s₀) (image : List Byte) : (r.fwRolledBack image).GeoOk ↔ r.GeoOk := by
  simp [Run.fwRolledBack]

/-! ## Accesses of the host -/

@[simp] theorem Run.geoOk_writeDisable (r : Run s₀) (v : Nat) : (r.writeDisable v).GeoOk ↔ r.GeoOk := by simp [Run.writeDisable]
@[simp] theorem Run.geoOk_writeQifCtl (r : Run s₀) (v : Nat) : (r.writeQifCtl v).GeoOk ↔ r.GeoOk := by simp [Run.writeQifCtl]

@[simp] theorem Run.geoOk_writeMsix (r : Run s₀) (h : Hit) (lo n v : Nat) : (r.writeMsix h lo n v).GeoOk ↔ r.GeoOk := by
  simp [Run.writeMsix]

@[simp] theorem Run.geoOk_writeHit (r : Run s₀) (h : Hit) (lo n v : Nat) (hr : r.GeoOk) : (r.writeHit h lo n v).GeoOk := by
  unfold Run.writeHit
  split <;> simp [hr]

@[simp] theorem Run.geoOk_lowGone (r : Run s₀) (o : Nat) : (r.lowGone o).GeoOk ↔ r.GeoOk := by simp [Run.lowGone]

@[simp] theorem Run.geoOk_write32 (r : Run s₀) (o v : Nat) (hr : r.GeoOk) : (r.write32 o v).GeoOk := by
  unfold Run.write32
  dsimp only
  (repeat' split) <;> simp [hr]

@[simp] theorem Run.geoOk_hostWrite (r : Run s₀) (o : Nat) (wide : Bool) (v : Nat) (hr : r.GeoOk) : (r.hostWrite o wide v).GeoOk := by
  unfold Run.hostWrite
  (repeat' split) <;> simp [hr]

@[simp] theorem Run.geoOk_readAt (r : Run s₀) (h : Hit) (base n : Nat) : (r.readAt h base n).GeoOk ↔ r.GeoOk := by simp [Run.readAt]

@[simp] theorem Run.geoOk_read32 (r : Run s₀) (o : Nat) : (r.read32 o).2.GeoOk ↔ r.GeoOk := by
  unfold Run.read32
  split <;> simp

@[simp] theorem Run.geoOk_hostRead (r : Run s₀) (o : Nat) (wide : Bool) : (r.hostRead o wide).2.GeoOk ↔ r.GeoOk := by
  unfold Run.hostRead
  (repeat' split) <;> simp

@[simp] theorem Run.geoOk_bar2Violation (r : Run s₀) (off len : Nat) (read : Bool) : (r.bar2Violation off len read).GeoOk ↔ r.GeoOk := by
  simp [Run.bar2Violation]

/-! ## The monitor: commands -/

@[simp] theorem Run.geoOk_monUnlock (r : Run s₀) (slot : Nat) : (r.monUnlock slot).GeoOk ↔ r.GeoOk := by simp [Run.monUnlock]

@[simp] theorem Run.geoOk_monResponse (r : Run s₀) (sig : List Byte) : (r.monResponse sig).GeoOk ↔ r.GeoOk := by
  unfold Run.monResponse
  dsimp only
  (repeat' split) <;> simp

@[simp] theorem Run.geoOk_monPeek (r : Run s₀) (off n : Nat) : (r.monPeek off n).GeoOk ↔ r.GeoOk := by simp [Run.monPeek]
@[simp] theorem Run.geoOk_monPoke (r : Run s₀) (off v : Nat) (hr : r.GeoOk) : (r.monPoke off v).GeoOk := by simp [Run.monPoke, hr]
@[simp] theorem Run.geoOk_memLine (r : Run s₀) (addr n : Nat) : (r.memLine addr n).GeoOk ↔ r.GeoOk := by simp [Run.memLine]

@[simp] theorem Run.geoOk_monMemrd (r : Run s₀) (addr n : Nat) (abort : Option Nat) : (r.monMemrd addr n abort).GeoOk ↔ r.GeoOk := by
  unfold Run.monMemrd
  dsimp only
  (repeat' split) <;> simp

@[simp] theorem Run.geoOk_monTraceOn (r : Run s₀) (lo hi : Nat) (post : Option Nat) : (r.monTraceOn lo hi post).GeoOk ↔ r.GeoOk := by
  simp [Run.monTraceOn]

@[simp] theorem Run.geoOk_monDump (r : Run s₀) : r.monDump.GeoOk ↔ r.GeoOk := by simp [Run.monDump]

@[simp] theorem Run.geoOk_monBreach (r : Run s₀) (n : Nat) (abort : Option Nat) : (r.monBreach n abort).GeoOk ↔ r.GeoOk := by
  simp [Run.monBreach]

@[simp] theorem Run.geoOk_monInject (r : Run s₀) (e : Nat) : (r.monInject e).GeoOk ↔ r.GeoOk := by simp [Run.monInject]
@[simp] theorem Run.geoOk_sweepPoint (r : Run s₀) (w : Sweep) : (r.sweepPoint w).GeoOk ↔ r.GeoOk := by simp [Run.sweepPoint]
@[simp] theorem Run.geoOk_monEye (r : Run s₀) (lane sel dwell : Nat) : (r.monEye lane sel dwell).GeoOk ↔ r.GeoOk := by simp [Run.monEye]

@[simp] theorem Run.geoOk_sweepNext (r : Run s₀) (w : Sweep) (errors : Nat) : (r.sweepNext w errors).GeoOk ↔ r.GeoOk := by
  simp [Run.sweepNext, Run.sweepEnd]

@[simp] theorem Run.geoOk_monRun (r : Run s₀) (c : MonCmd) (abort : Option Nat) (hr : r.GeoOk) : (r.monRun c abort).GeoOk := by
  unfold Run.monRun
  (repeat' split) <;> simp [hr]

@[simp] theorem Run.geoOk_monLine (r : Run s₀) (line : List Byte) (abort : Option Nat) (hr : r.GeoOk) : (r.monLine line abort).GeoOk := by
  unfold Run.monLine
  (repeat' split) <;> simp [hr]

@[simp] theorem Run.geoOk_monHeld (r : Run s₀) (l : List (List Byte)) (hr : r.GeoOk) : (r.monHeld l).GeoOk := by
  induction l generalizing r with
  | nil => exact hr
  | cons x l ih =>
    have hx := Run.geoOk_monLine r x none hr
    unfold Run.monHeld
    dsimp only
    split
    · exact hx
    · exact ih _ hx

@[simp] theorem Run.geoOk_monResume (r : Run s₀) (hr : r.GeoOk) : r.monResume.GeoOk := by
  unfold Run.monResume
  split <;> simp [hr]

@[simp] theorem Run.geoOk_monCommand (r : Run s₀) (c : MonCmd) (abort : Option Nat) (hr : r.GeoOk) : (r.monCommand c abort).GeoOk := by
  simp [Run.monCommand, hr]

/-! ## What lanes send -/

@[simp] theorem Run.geoOk_txSymbols (r : Run s₀) (n : Nat) (l : List Nat) : (r.txSymbols n l).GeoOk ↔ r.GeoOk := by simp [Run.txSymbols]

@[simp] theorem Run.geoOk_txReach (r : Run s₀) (n type phase : Nat) (data : List Bool) :
    (r.txReach n type phase data).GeoOk ↔ r.GeoOk := by
  simp [Run.txReach]

@[simp] theorem Run.geoOk_txTest (r : Run s₀) (n : Nat) : (r.txTest n).GeoOk ↔ r.GeoOk := by simp [Run.txTest]

@[simp] theorem Run.geoOk_txLane (r : Run s₀) (n : Nat) : (r.txLane n).GeoOk ↔ r.GeoOk := by
  unfold Run.txLane
  dsimp only
  (repeat' split) <;> simp only [Run.geoOk_txTest, Run.geoOk_txReach]

@[simp] theorem Run.geoOk_idleCycle (r : Run s₀) : r.idleCycle.GeoOk ↔ r.GeoOk := by
  simp [Run.idleCycle, Run.clipCycle, Run.cycle, Run.txReaches, Run.txStream, Run.txData]

/-! ## Commands -/

/-- When what a command answers is a next state, its geometries are in order if they were in `s`. -/
def KeepsGeo (s : State) (o : Host.Outcome State Fault Refusal) : Prop := s.geoOk → ∀ t, o = .next t → t.geoOk

theorem keepsGeo_done {s : State} {f : Run s → Run s} (h : ∀ r : Run s, r.GeoOk → (f r).GeoOk) : KeepsGeo s (done s f) := by
  rintro hs t ⟨⟩
  exact h _ hs

theorem keepsGeo_execRegisterWrite (off : Nat) (wide : Bool) (v : Nat) (s : State) : KeepsGeo s (execRegisterWrite off wide v s) := by
  unfold execRegisterWrite
  split
  · exact keepsGeo_done fun r hr => by simp [hr]
  · rintro - t ⟨⟩

theorem keepsGeo_execUartCharacterSent (u : Fin 4) (s : State) : KeepsGeo s (execUartCharacterSent u s) := by
  unfold execUartCharacterSent
  refine keepsGeo_done fun r hr => ?_
  dsimp only
  (repeat' split) <;> simp [hr]

theorem keepsGeo_execEyeDone (n : Fin 48) (errors : Nat) (s : State) : KeepsGeo s (execEyeDone n errors s) := by
  unfold execEyeDone
  refine keepsGeo_done fun r hr => ?_
  dsimp only
  (repeat' split) <;> simp [hr]

theorem keepsGeo_execLp (b : Fin 8) (seq : Nat) (vs : Fin 16) (y x : Nat) (samples : List Nat) (s : State) :
    KeepsGeo s (execLp b seq vs y x samples s) := by
  unfold execLp
  exact keepsGeo_done fun r hr => (Run.geoOk_lenOk r _ _ _ fun r => by simp).2 hr

theorem keepsGeo_execEmb (b : Fin 8) (seq : Nat) (vs : Fin 16) (fn off : Nat) (data : List Byte) (s : State) :
    KeepsGeo s (execEmb b seq vs fn off data s) := by
  unfold execEmb
  exact keepsGeo_done fun r hr => (Run.geoOk_lenOk r _ _ _ fun r => by simp).2 hr

theorem keepsGeo_execPacketError (l : Link) (crc : Bool) (lp : Option (Nat × Nat × Nat × List Nat)) (s : State) :
    KeepsGeo s (execPacketError l crc lp s) := by
  unfold execPacketError
  refine keepsGeo_done fun r hr => ?_
  dsimp only
  (repeat' split) <;> simp [hr]

theorem keepsGeo_execAck (l : Link) (seq : Nat) (s : State) : KeepsGeo s (execAck l seq s) := by
  unfold execAck
  refine keepsGeo_done fun r hr => ?_
  split <;> simp [hr]

theorem keepsGeo_execNak (l : Link) (seq : Nat) (s : State) : KeepsGeo s (execNak l seq s) := by
  unfold execNak
  refine keepsGeo_done fun r hr => ?_
  split <;> simp [hr]

theorem keepsGeo_execResyncPoint (l : Link) (s : State) : KeepsGeo s (execResyncPoint l s) := by
  unfold execResyncPoint
  refine keepsGeo_done fun r hr => ?_
  split <;> simp [hr]

theorem keepsGeo_execCpl (l : Fin 16) (seq : Nat) (p : Fin 4) (tag status blocks info : Nat) (s : State) :
    KeepsGeo s (execCpl l seq p tag status blocks info s) := by
  unfold execCpl
  refine keepsGeo_done fun r hr => (Run.geoOk_hopTake r _ _ _ fun r => ?_).2 hr
  dsimp only
  split <;> simp

theorem keepsGeo_execCommandTimeout (d : Fin 64) (tag : Fin 64) (s : State) : KeepsGeo s (execCommandTimeout d tag s) := by
  unfold execCommandTimeout
  refine keepsGeo_done fun r hr => ?_
  dsimp only
  (repeat' split) <;> simp [hr]

theorem keepsGeo_execPackSlice (s : State) : KeepsGeo s (execPackSlice s) := by
  unfold execPackSlice
  refine keepsGeo_done fun r hr => ?_
  split <;> simp [hr]

theorem keepsGeo_execFetchRead (s : State) : KeepsGeo s (execFetchRead s) := by
  unfold execFetchRead
  refine keepsGeo_done fun r hr => ?_
  dsimp only
  (repeat' split) <;> simp [hr]

theorem keepsGeo_execEntriesFetched (data : Option (List Byte)) (s : State) : KeepsGeo s (execEntriesFetched data s) := by
  unfold execEntriesFetched
  refine keepsGeo_done fun r hr => ?_
  dsimp only
  (repeat' split) <;> simp [hr]

theorem keepsGeo_execCommandDispatch (s : State) : KeepsGeo s (execCommandDispatch s) := by
  unfold execCommandDispatch
  refine keepsGeo_done fun r hr => ?_
  dsimp only
  (repeat' split) <;> simp [hr]

theorem keepsGeo_execMoveDone (n : Fin 32) (k : Fin 4) (data : Option (List Byte)) (s : State) : KeepsGeo s (execMoveDone n k data s) := by
  unfold execMoveDone
  refine keepsGeo_done fun r hr => ?_
  dsimp only
  (repeat' split) <;> simp [hr]

theorem keepsGeo_execPtpMessage (m : PtpMsg) (s : State) : KeepsGeo s (execPtpMessage m s) := by
  unfold execPtpMessage
  refine keepsGeo_done fun r hr => ?_
  dsimp only
  (repeat' split) <;> simp [hr]

theorem keepsGeo_execRegisterRead (off : Nat) (wide : Bool) (s : State) : KeepsGeo s (execRegisterRead off wide s) := by
  unfold execRegisterRead
  split
  · exact keepsGeo_done fun r hr => by simpa using hr
  · rintro - t ⟨⟩

theorem keepsGeo_execBar2Access (off len : Nat) (data : Option (List Byte)) (s : State) : KeepsGeo s (execBar2Access off len data s) := by
  unfold execBar2Access
  refine keepsGeo_done fun r hr => ?_
  dsimp only
  (repeat' split) <;> simp [hr]

theorem keepsGeo_execInternalFault (f : CoreFault) (s : State) : KeepsGeo s (execInternalFault f s) := by
  unfold execInternalFault
  refine keepsGeo_done fun r hr => ?_
  split <;> simp [hr]

theorem keepsGeo_execTimeBaseFault (n : Fin 4) (s : State) : KeepsGeo s (execTimeBaseFault n s) := by
  unfold execTimeBaseFault
  refine keepsGeo_done fun r hr => ?_
  dsimp only
  (repeat' split) <;> simp [hr]

/-! ## Commands of the host -/

theorem keepsGeo_execLoadBitstream (h : HostData) (s : State) : KeepsGeo s (execLoadBitstream h s) := by
  unfold execLoadBitstream
  refine keepsGeo_done fun r hr => (Run.geoOk_onCmd r _ _ fun c r => ?_).2 hr
  dsimp only
  (repeat' split) <;> simp

theorem keepsGeo_execArmRecord (s : State) : KeepsGeo s (execArmRecord s) := by
  unfold execArmRecord
  refine keepsGeo_done fun r hr => ?_
  split
  · exact hr
  · refine (Run.geoOk_onCmd r _ _ fun c r => ?_).2 hr
    dsimp only
    (repeat' split) <;> simp

theorem keepsGeo_execOffload (h : HostData) (s : State) : KeepsGeo s (execOffload h s) := by
  unfold execOffload
  refine keepsGeo_done fun r hr => (Run.geoOk_onCmd r _ _ fun c r => ?_).2 hr
  dsimp only
  (repeat' split) <;> simp

theorem keepsGeo_execClipOpen (s : State) : KeepsGeo s (execClipOpen s) := by
  unfold execClipOpen
  refine keepsGeo_done fun r hr => (Run.geoOk_onCmd r _ _ fun c r => ?_).2 hr
  dsimp only
  (repeat' split) <;> simp

theorem keepsGeo_execReadExtent (h : HostData) (s : State) : KeepsGeo s (execReadExtent h s) := by
  unfold execReadExtent
  refine keepsGeo_done fun r hr => (Run.geoOk_onCmd r _ _ fun c r => ?_).2 hr
  dsimp only
  (repeat' split) <;> simp

theorem keepsGeo_execWriteExtent (h : HostData) (s : State) : KeepsGeo s (execWriteExtent h s) := by
  unfold execWriteExtent
  refine keepsGeo_done fun r hr => (Run.geoOk_onCmd r _ _ fun c r => ?_).2 hr
  dsimp only
  (repeat' split) <;> simp

theorem keepsGeo_execProxyFetch (h : HostData) (s : State) : KeepsGeo s (execProxyFetch h s) := by
  unfold execProxyFetch
  refine keepsGeo_done fun r hr => (Run.geoOk_onCmd r _ _ fun c r => ?_).2 hr
  dsimp only
  (repeat' split) <;> simp

/-! ## Instructions of DMA programs -/

theorem keepsGeo_execMove (n : Fin 32) (s : State) : KeepsGeo s (execMove n s) := by
  unfold execMove
  refine keepsGeo_done fun r hr => (Run.geoOk_dmaFetch r _ _ fun op pc r => ?_).2 hr
  split <;> simp

theorem keepsGeo_execLoopInstr (n : Fin 32) (s : State) : KeepsGeo s (execLoopInstr n s) := by
  unfold execLoopInstr
  refine keepsGeo_done fun r hr => (Run.geoOk_dmaFetch r _ _ fun op pc r => ?_).2 hr
  split <;> simp

theorem keepsGeo_execWait (n : Fin 32) (s : State) : KeepsGeo s (execWait n s) := by
  unfold execWait
  refine keepsGeo_done fun r hr => (Run.geoOk_dmaFetch r _ _ fun op pc r => ?_).2 hr
  split <;> simp

theorem keepsGeo_execSignal (n : Fin 32) (s : State) : KeepsGeo s (execSignal n s) := by
  unfold execSignal
  refine keepsGeo_done fun r hr => (Run.geoOk_dmaFetch r _ _ fun op pc r => ?_).2 hr
  split <;> simp

theorem keepsGeo_execEndInstr (n : Fin 32) (s : State) : KeepsGeo s (execEndInstr n s) := by
  unfold execEndInstr
  refine keepsGeo_done fun r hr => (Run.geoOk_dmaFetch r _ _ fun op pc r => ?_).2 hr
  split <;> simp

/-! ## Commands that give a magazine a geometry or leave no magazine -/

theorem Run.geoOk_onCmd_of (r : Run s₀) (opc : Nat) (f : Cmd → Run s₀ → Run s₀) (h : ∀ c r, r.GeoOk → (f c r).GeoOk) (hr : r.GeoOk) :
    (r.onCmd opc f).GeoOk := by
  unfold Run.onCmd
  split
  · exact h _ r hr
  · exact hr

theorem keepsGeo_execResetNAssert (ns : Nat) (s : State) : KeepsGeo s (execResetNAssert ns s) := by
  unfold execResetNAssert
  refine keepsGeo_done fun r hr => ?_
  dsimp only
  split
  · exact hr
  · split
    · simp
    · exact Run.geoOk_free_of r _ _ (fun v r hr => by split <;> simp [hr]) hr

theorem keepsGeo_execWarmDriveDrainEnd (s : State) : KeepsGeo s (execWarmDriveDrainEnd s) := by
  unfold execWarmDriveDrainEnd
  refine keepsGeo_done fun r hr => ?_
  dsimp only
  split
  · exact hr
  · exact (Run.geoOk_eventPins _ _).2 (Run.geoOk_of_mag_nil _ rfl)

theorem keepsGeo_execMagazineIdentified (m : Fin 2) (s : State) : KeepsGeo s (execMagazineIdentified m s) := by
  unfold execMagazineIdentified
  refine keepsGeo_done fun r hr => ?_
  dsimp only
  split
  · simpa using hr
  · simp only [Run.geoOk_rescueTry, Run.geoOk_magCheck, Run.geoOk_when, Run.geoOk_magReplace, Run.geoOk_magSync, ite_self,
      Run.geoOk_magzMod, Run.geoOk_each, Run.geoOk_ringState, Run.geoOk_removedByLabel, Run.geoOk_ringRegs, Run.geoOk_wr, implies_true]
    refine Run.geoOk_magzMod_of _ _ _ (by simpa using hr) (Run.inByte_identified _ m _ fun d hd => ?_)
    exact r.drive_lt_of_mem_magLanes m (List.mem_filter.mp hd).1

theorem keepsGeo_execRebuild (m : Fin 2) (ring : Fin 4) (slot : Fin 32) (d : Fin 64) (s : State) :
    KeepsGeo s (execRebuild m ring slot d s) := by
  unfold execRebuild
  refine keepsGeo_done fun r hr => ?_
  have placed := inByte_set (hr.inByte m) ring slot (d := d) (by omega)
  have hmag := Run.geoOk_magzMod_of r m (fun z => { z with geo := _ }) hr placed
  dsimp only
  split
  · exact hr
  · split
    · exact hr
    · simpa using hmag

theorem keepsGeo_execSanitise (s : State) : KeepsGeo s (execSanitise s) := by
  unfold execSanitise
  exact keepsGeo_done fun r hr => Run.geoOk_onCmd_of r _ _ (fun c r => Run.geoOk_magOp r c 6) hr

theorem keepsGeo_execFormat (s : State) : KeepsGeo s (execFormat s) := by
  unfold execFormat
  exact keepsGeo_done fun r hr => Run.geoOk_onCmd_of r _ _ (fun c r => Run.geoOk_magOp r c 7) hr

/-! ## Steps -/

/-- The commands that need a case split of their own are settled above; the others are read by simp. -/
theorem keepsGeo_exec (c : Instr) (s : State) : KeepsGeo s (exec c s) := by
  cases c with
  | registerWrite off wide v => exact keepsGeo_execRegisterWrite off wide v s
  | resetNAssert ns => exact keepsGeo_execResetNAssert ns s
  | warmDriveDrainEnd => exact keepsGeo_execWarmDriveDrainEnd s
  | loadBitstream h => exact keepsGeo_execLoadBitstream h s
  | uartCharacterSent u => exact keepsGeo_execUartCharacterSent u s
  | eyeDone n errors => exact keepsGeo_execEyeDone n errors s
  | lp b seq vs y x samples => exact keepsGeo_execLp b seq vs y x samples s
  | emb b seq vs fn off data => exact keepsGeo_execEmb b seq vs fn off data s
  | packetError l crc lp => exact keepsGeo_execPacketError l crc lp s
  | ack l seq => exact keepsGeo_execAck l seq s
  | nak l seq => exact keepsGeo_execNak l seq s
  | resyncPoint l => exact keepsGeo_execResyncPoint l s
  | cpl l seq p tag status blocks info => exact keepsGeo_execCpl l seq p tag status blocks info s
  | commandTimeout d tag => exact keepsGeo_execCommandTimeout d tag s
  | magazineIdentified m => exact keepsGeo_execMagazineIdentified m s
  | armRecord => exact keepsGeo_execArmRecord s
  | packSlice => exact keepsGeo_execPackSlice s
  | offload h => exact keepsGeo_execOffload h s
  | rebuild m ring slot d => exact keepsGeo_execRebuild m ring slot d s
  | fetchRead => exact keepsGeo_execFetchRead s
  | entriesFetched data => exact keepsGeo_execEntriesFetched data s
  | commandDispatch => exact keepsGeo_execCommandDispatch s
  | sanitise => exact keepsGeo_execSanitise s
  | format => exact keepsGeo_execFormat s
  | clipOpen => exact keepsGeo_execClipOpen s
  | readExtent h => exact keepsGeo_execReadExtent h s
  | writeExtent h => exact keepsGeo_execWriteExtent h s
  | proxyFetch h => exact keepsGeo_execProxyFetch h s
  | move n => exact keepsGeo_execMove n s
  | moveDone n k data => exact keepsGeo_execMoveDone n k data s
  | loopInstr n => exact keepsGeo_execLoopInstr n s
  | wait n => exact keepsGeo_execWait n s
  | signal n => exact keepsGeo_execSignal n s
  | endInstr n => exact keepsGeo_execEndInstr n s
  | ptpMessage m => exact keepsGeo_execPtpMessage m s
  | registerRead off wide => exact keepsGeo_execRegisterRead off wide s
  | bar2Access off len data => exact keepsGeo_execBar2Access off len data s
  | internalFault f => exact keepsGeo_execInternalFault f s
  | timeBaseFault n => exact keepsGeo_execTimeBaseFault n s
  | _ =>
    simp only [
      exec, execLowWordDiscard, execLatchRelease, execReferenceLost, execReferenceSwitch, execReferenceGood, execPref,
      execPowerOnReset, execPorRelease, execResetNRise, execCold, execWarm, execPciePerstNAssert, execPcieHotReset,
      execFunctionLevelReset, execFirmwareWatchdog, execWarmFirmwareRestart, execSelfRefreshExit, execRootPllLock,
      execFirmwareLoadDone, execDramTrainingDone, execBitstreamReadDone, execReady, execPcieLinkUp, execLen,
      execRecoveryCheckDone, execClipRescue, execRescueWaitTimeout, execReweaveCheckDone, execReweaveQuiescenceTimeout,
      execReweaveQuiescent, execReweaveDone, execDeltaWoven, execOk, execNegotiateFeatures, execActivateFirmware,
      execFwActivated, execFwRolledBack, execGpioEdge, execSmclkCtl, execPrivateWrite, execPrivateRead, execBroadcastCcc,
      execDirectCccWrite, execDirectCccRead, execEntdaa, execI2cWrite, execI2cRead, execI3cTransferEnd, execI2cStretchTimeout,
      execIbiRequest, execHotJoin, execIbiDataRead, execTxdata, execUartCharacterReceived, execRxdataRead, execRxIdle,
      execSmbStatus, execTemp, execHot, execSmbMode, execIdent, execSerial, execSmbWarm, execAlertMask, execAlertMaskRead,
      execAlertResponse, execSmbNak, execCdrLock, execReachReceived, execCommaLock, execLossOfLock, execAlignTimeout,
      execTrainingMessage, execEchoTimeout, execTrainTimeout, execBitslip, execSlipDone, execAccept, execRetrain, execLoop,
      execPrbsCtl, execStart, execFs, execFe, execSt, execReservedType, execAckSend, execNakResend, execNakRestart,
      execDeskewDone, execMapResend, execRelockWaitTimeout, execRestart, execFsTimeout, execGo, execSyncSend, execTurnEnd,
      execStatsRecordWrite, execEngineFault, execInternalFaultResetDone, execGlbTideCommit, execTideIdleApply, execPixTblGo,
      execTableLoadDone, execFeedBoundary, execRxs, execTeEdge, execFeedCompositionStart, execCompositionDone,
      execReadbackCheck, execTeTimeout, execInternalTe, execWakeDone, execForceFull, execVfdCmdGo, execPanelResponse,
      execPanelResponseTimeout, execEncOpen, execClose, execPictureStart, execCtuCoded, execPictureDone, execOutRd,
      execDecStart, execDecStop, execDecInWr, execDecStarved, execDecodedPicture, execMagData, execDrvStatus, execHopAckSend,
      execHopNakResend, execReplayExhausted, execRelockWindow, execHeartbeatLost, execFailedLaneRetry, execStripeIssue,
      execChangeNow, execRecordStart, execRecordStop, execMark, execSqTail, execCqHead, execEn, execQifDisable, execAdminReset,
      execCoalesceTimeout, execMsixUnmask, execIdentify, execCreateQueue, execDeleteQueue, execResetQueue, execGetLog,
      execSetEventRoute, execFlush, execVisionFetch, execBlockAccess, execRefresh, execDriftCheck, execMemRetrain,
      execRetrainStepDone, execDmaGo, execDmaStop, execDmaSem, execWaitTimeout, execIncr, execStep, execCompUpdate,
      execServoMeasurement, execSourceLost, execEthLink, execGenlockEdge, execPpsEdge, execSyncOutPulse, execPpsOutPulse,
      execSrc, execTselRevert, execSlewDone, execResync, execForceEst, execTimSnap, execAudStart, execAudStop, execTdmFrame,
      execFrameSyncLost, execRatioUpdate, execMediaFrame, execAudWr, execThermalReading, execLeveeFall, execThermalTrip,
      execTripRelease, execWardenWatchdog, execWardenFault, execWardenFailover, execEvtEnable, execEvtStatusClear,
      execEvtInject, execEventCrossingAck, execMonitorLine, execHelp, execVer, execBaud, execBaudTimeout, execUnlock,
      execUnlockResp, execUnlockBarEnd, execLock, execIdleLock, execDisable, execPeek, execPoke, execMemrd, execTraceOn,
      execTraceOff, execTraceDump, execEye, execBreachDump, execInject, execAbortCharacter, execPciePerstNRelease,
      execConfigurationRequest, execLaneSelfCheckEnd, execFeedLaneRetry, execPrbsCheck, execPtpMessageTransmit]
    exact keepsGeo_done fun r hr => by simp [hr]

/-- Settles O5: a step is a command or an idle cycle, and each of them keeps the geometries in order. -/
theorem stepKeepsGeometry : Obligations.StepKeepsGeometry := by
  intro s t hs h
  unfold step at h
  split at h
  · exact keepsGeo_done (fun r hr => (Run.geoOk_idleCycle r).2 hr) hs t h
  · next c rest _ => exact keepsGeo_exec c { s with pending := rest } hs t h

end Machine
end Sys2Proof
end

section
/-!
The packing of media: unpacking gives the rows back, and the Rice parameter is the cheapest (R284 to R288).
-/
namespace Sys2Proof.Machine

/-! ## Bit strings -/

theorem length_lsbBits (w v : Nat) : (lsbBits w v).length = w := by
  induction w generalizing v with
  | zero => rfl
  | succ w ih => simp [lsbBits, ih]

theorem ofLsb_lsbBits (w v : Nat) : ofLsb (lsbBits w v) = v % 2 ^ w := by
  induction w generalizing v with
  | zero => simp [lsbBits, ofLsb, Nat.mod_one]
  | succ w ih =>
    have hbit : b2n (bit v 0) = v % 2 := by
      rcases Nat.mod_two_eq_zero_or_one v with h | h <;> simp [bit, b2n, h]
    rw [lsbBits, ofLsb, ih, hbit, pow_succ', Nat.mod_mul]

theorem takeBits_lsbBits (n v : Nat) (l : List Bool) : takeBits n (lsbBits n v ++ l) = some (v % 2 ^ n, l) := by
  have hlen := length_lsbBits n v
  have htake : (lsbBits n v ++ l).take n = lsbBits n v := List.take_left' hlen
  have hdrop : (lsbBits n v ++ l).drop n = l := List.drop_left' hlen
  simp [takeBits, hlen, htake, hdrop, ofLsb_lsbBits]

theorem takeOnes_unary {q n : Nat} (hq : q < n) (l : List Bool) :
    takeOnes n (List.replicate q true ++ false :: l) = some (q, l) := by
  induction q generalizing n with
  | zero => obtain ⟨n, rfl⟩ := Nat.exists_eq_succ_of_ne_zero hq.ne'; rfl
  | succ q ih =>
    obtain ⟨n, rfl⟩ := Nat.exists_eq_succ_of_ne_zero (Nat.ne_zero_of_lt hq)
    simp [List.replicate_succ, takeOnes, ih (Nat.lt_of_succ_lt_succ hq)]

theorem takeOnes_replicate (n : Nat) (l : List Bool) : takeOnes n (List.replicate n true ++ l) = some (n, l) := by
  induction n with
  | zero => rfl
  | succ n ih => simp [List.replicate_succ, takeOnes, ih]

/-! ## One sample (R284, R285) -/

theorem packMap_lt (s p : Nat) : packMap s p < 2 ^ 18 := by
  unfold packMap
  extract_lets e
  split <;> omega

theorem packUnmap_packMap {s : Nat} (hs : s < 2 ^ 18) (p : Nat) : packUnmap (packMap s p) p = s := by
  unfold packMap
  extract_lets e
  split
  · have heven : (2 * e).toNat % 2 = 0 := by omega
    simp only [packUnmap, heven, if_true]
    omega
  · have hodd : (-2 * e - 1).toNat % 2 ≠ 0 := by omega
    simp only [packUnmap, hodd, if_false]
    omega

theorem decodeSample_rawBits {s : Nat} (hs : s < 2 ^ 18) (p : Nat) (l : List Bool) :
    decodeSample 31 p (lsbBits 18 s ++ l) = some (s, l) := by
  rw [decodeSample, if_pos rfl, takeBits_lsbBits, Nat.mod_eq_of_lt hs]

theorem decodeSample_riceBits {k : Nat} (hk : k ≤ 17) {m : Nat} (hm : m < 2 ^ 18) (p : Nat) (l : List Bool) :
    decodeSample k p (riceBits k m ++ l) = some (packUnmap m p, l) := by
  rw [decodeSample, if_neg (by omega), if_neg (by omega), riceBits]
  split_ifs with hq
  · simp only [List.append_assoc, List.cons_append, takeOnes_unary hq, if_neg hq.ne, takeBits_lsbBits, Option.map_some,
      Nat.div_add_mod']
  · simp only [List.append_assoc, takeOnes_replicate, if_true, takeBits_lsbBits, Option.map_some, Nat.mod_eq_of_lt hm]

theorem length_riceBits (k m : Nat) : (riceBits k m).length = riceCost k m := by
  by_cases hq : m / 2 ^ k < 24
  · simp [riceBits, riceCost, hq, length_lsbBits]; omega
  · simp [riceBits, riceCost, hq, length_lsbBits]

/-! ## The Rice parameter (R286) -/

theorem blockCost_eq_sum (k : Nat) (ms : List Nat) : blockCost k ms = (ms.map (riceCost k)).sum := by
  rw [blockCost, List.sum_eq_foldl, List.foldl_map]

/-- Going through 1 to n and keeping what is strictly cheaper finds the cheapest of 0 to n, the smallest on a tie. -/
theorem foldl_keepCheaper_spec (cost : Nat → Nat) (n : Nat) :
    let b := (List.range n).foldl (fun b k => if cost (k + 1) < cost b then k + 1 else b) 0
    b ≤ n ∧ ∀ j ≤ n, cost b ≤ cost j ∧ (cost j = cost b → b ≤ j) := by
  induction n with
  | zero => simp
  | succ n ih =>
    simp only [List.range_succ, List.foldl_append, List.foldl_cons, List.foldl_nil]
    generalize (List.range n).foldl _ 0 = b at ih ⊢
    obtain ⟨hb, hmin⟩ := ih
    split_ifs with hlt
    · refine ⟨le_rfl, fun j hj => ?_⟩
      rcases Nat.le_add_one_iff.1 hj with hj | rfl
      · have := (hmin j hj).1
        omega
      · simp
    · refine ⟨by omega, fun j hj => ?_⟩
      rcases Nat.le_add_one_iff.1 hj with hj | rfl
      · exact hmin j hj
      · omega

theorem bestRice_spec (ms : List Nat) :
    bestRice ms ≤ 17 ∧ ∀ j ≤ 17, blockCost (bestRice ms) ms ≤ blockCost j ms ∧ (blockCost j ms = blockCost (bestRice ms) ms → bestRice ms ≤ j) :=
  foldl_keepCheaper_spec (blockCost · ms) 17

/-- Settles O49: the parameter is `bestRice`, and a code has the bits that its cost counts. -/
theorem packParameter : Obligations.PackParameter := by
  intro ms ss cost hcost _
  have hblock (k : Nat) : blockCost k ms = cost k := (blockCost_eq_sum k ms).trans (hcost k).symm
  obtain ⟨hle, hbest⟩ := bestRice_spec ms
  simp only [hblock] at hbest
  refine ⟨bestRice ms, hle, hbest, ?_, ?_⟩
  · rw [List.length_flatMap, ← hblock, blockCost_eq_sum]
    simp only [length_riceBits]
  · simp only [blockBits, hblock]

/-! ## Blocks, rows and slices (R284, R288) -/

section
variable {pw : Nat} (hpw : 1 ≤ pw) (above : Option (List Nat)) (row : List Nat)
include hpw

/-- The prediction of a sample reads only the samples before it in its row. -/
theorem packPredict_take (x : Nat) : packPredict pw (row.take x) above x = packPredict pw row above x := by
  by_cases hx : pw ≤ x
  · have : (row.take x).getD (x - pw) 0 = row.getD (x - pw) 0 := by
      rw [List.getD_eq_getElem?_getD, List.getElem?_take_of_lt (by omega), List.getD_eq_getElem?_getD]
    simp only [packPredict, this]
  · simp [packPredict, hx]

variable {row}

/-- A block decodes when each of its codes decodes to its sample. -/
theorem decodeBlock_flatMap {h : Nat} {xs : List Nat} {code : Nat → List Bool} (hlen : xs.length = row.length)
    (hcode : ∀ (x : Nat) (hx : x < row.length) (l : List Bool),
      decodeSample h (packPredict pw row above x) (code xs[x] ++ l) = some (row[x], l)) (n x : Nat) (l : List Bool)
    (hn : x + n ≤ row.length) :
    decodeBlock pw h above n (row.take x) (((xs.drop x).take n).flatMap code ++ l) = (row.take (x + n), some l) := by
  induction n generalizing x with
  | zero => simp [decodeBlock]
  | succ n ih =>
    have hx : x < row.length := by omega
    have hxs : x < xs.length := by omega
    have hpos : (row.take x).length = x := List.length_take_of_le hx.le
    rw [List.drop_eq_getElem_cons hxs, List.take_succ_cons, List.flatMap_cons, List.append_assoc, decodeBlock, hpos,
      packPredict_take hpw, hcode x hx]
    simp only [List.take_append_getElem hx]
    rw [ih (x + 1) (by omega)]
    congr 2
    omega

end

theorem blockSizes_sum (w : Nat) : (blockSizes w).sum = w := by
  by_cases h : w % 64 = 0
  · simp [blockSizes, h]; omega
  · simp [blockSizes, h]; omega

/-- The m values of a row (R284). -/
def rowMaps (pw : Nat) (above : Option (List Nat)) (row : List Nat) : List Nat :=
  (List.range row.length).map fun x => packMap (row.getD x 0) (packPredict pw row above x)

theorem rowBlocks_eq (pw : Nat) (row : List Nat) (above : Option (List Nat)) :
    rowBlocks pw row above = rowBlocks.go (blockSizes row.length) (rowMaps pw above row) row := rfl

section
variable {pw : Nat} (hpw : 1 ≤ pw) (above : Option (List Nat)) {row : List Nat} (hrow : ∀ v ∈ row, v < 2 ^ 18)
include hpw hrow

/-- The bits of a block are its header and codes that decode to its samples, raw or under the Rice parameter. -/
theorem decodeBlock_blockBits (n x : Nat) (hn : x + n ≤ row.length) :
    ∃ (h : Nat) (body : List Bool), h < 2 ^ 5
      ∧ blockBits (((rowMaps pw above row).drop x).take n) ((row.drop x).take n) = lsbBits 5 h ++ body
      ∧ ∀ l, decodeBlock pw h above n (row.take x) (body ++ l) = (row.take (x + n), some l) := by
  unfold blockBits
  extract_lets k
  have hk : k ≤ 17 := (bestRice_spec _).1
  split
  · exact ⟨31, _, by decide, rfl, fun l => decodeBlock_flatMap hpw above rfl
      (fun y hy => decodeSample_rawBits (hrow _ (List.getElem_mem hy)) _) n x l hn⟩
  · refine ⟨k, _, by omega, rfl, fun l => decodeBlock_flatMap hpw above (by simp [rowMaps]) (fun y hy l => ?_) n x l hn⟩
    rw [decodeSample_riceBits hk (by simpa [rowMaps] using packMap_lt _ _)]
    simp [rowMaps, hy, packUnmap_packMap (hrow _ (List.getElem_mem hy))]

theorem decodeRow_blocks (sizes : List Nat) (x : Nat) (l : List Bool) (hsum : x + sizes.sum = row.length) :
    decodeRow pw above sizes (row.take x)
        ((rowBlocks.go sizes ((rowMaps pw above row).drop x) (row.drop x)).flatMap (fun b => blockBits b.1 b.2) ++ l)
      = (row, some l) := by
  induction sizes generalizing x with
  | nil => 
    obtain rfl : x = row.length := hsum
    simp [decodeRow, rowBlocks.go]
  | cons n sizes ih =>
    rw [List.sum_cons] at hsum
    obtain ⟨h, body, hh, hbits, hdecode⟩ := decodeBlock_blockBits hpw above hrow n x (by omega)
    simp only [rowBlocks.go, List.flatMap_cons, hbits, List.append_assoc, decodeRow, takeBits_lsbBits, Nat.mod_eq_of_lt hh, hdecode, List.drop_drop]
    exact ih (x + n) (by omega)

theorem decodeRow_rowBlocks (l : List Bool) :
    decodeRow pw above (blockSizes row.length) [] ((rowBlocks pw row above).flatMap (fun b => blockBits b.1 b.2) ++ l) = (row, some l) := by
  simpa [rowBlocks_eq] using decodeRow_blocks hpw above hrow (blockSizes row.length) 0 l (by simp [blockSizes_sum])

end

theorem decodeRows_rowBlocks {pw ph w : Nat} (hpw : 1 ≤ pw) (hph : 1 ≤ ph) {rows : List (List Nat)}
    (hwidth : ∀ row ∈ rows, row.length = w) (hrows : ∀ row ∈ rows, ∀ v ∈ row, v < 2 ^ 18) (rest : List Bool) (n j : Nat)
    (hn : j + n = rows.length) :
    decodeRows pw ph w n (rows.take j)
        ((List.range' j n).flatMap (fun j => (rowBlocks pw (rows.getD j []) (if ph ≤ j then rows[j - ph]? else none)).flatMap
          fun b => blockBits b.1 b.2) ++ rest)
      = (rows, true) := by
  induction n generalizing j with
  | zero =>
    obtain rfl : j = rows.length := hn
    simp [decodeRows]
  | succ n ih =>
    have hj : j < rows.length := by omega
    have hmem : rows[j] ∈ rows := List.getElem_mem hj
    have hpos : (rows.take j).length = j := List.length_take_of_le hj.le
    have habove : (if ph ≤ j then (rows.take j)[j - ph]? else none) = if ph ≤ j then rows[j - ph]? else none := by
      split_ifs with h
      · exact List.getElem?_take_of_lt (by omega)
      · rfl
    have hget : rows.getD j [] = rows[j] := List.getD_eq_getElem _ _ hj
    simp only [List.range'_succ, List.flatMap_cons, List.append_assoc, decodeRows, hpos, habove, hget]
    rw [← hwidth _ hmem, decodeRow_rowBlocks hpw _ (hrows _ hmem)]
    simp only [List.take_append_getElem hj, hwidth _ hmem]
    exact ih (j + 1) (by omega)

/-- Settles O50: row by row, each block decodes to its samples, because the predictions read only samples decoded before. -/
theorem packingIsLossless : Obligations.PackingIsLossless := by
  intro pw ph w rows rest hpw hph hok
  simp only [List.all_eq_true, Bool.and_eq_true, beq_iff_eq, decide_eq_true_eq] at hok
  have h := decodeRows_rowBlocks hpw hph (fun row hr => (hok row hr).1) (fun row hr => (hok row hr).2) rest rows.length 0 (Nat.zero_add _)
  rwa [List.take_zero, ← List.range_eq_range', ← List.flatMap_assoc] at h

end Sys2Proof.Machine
end

section
/-!
The step on an empty queue: one CCLK cycle, and what it leaves as it was (R364, R274, R74).
-/
namespace Sys2Proof.Machine
variable {s₀ : State}

/-! ## What moves the time bases

Only `Run.tclk` moves a time base, and only `Run.cycle` lets a CCLK cycle pass. For each other function `f` that an idle cycle runs,
`Run.clock_f` says that `f` does neither. -/

/-- The CCLK cycle, and what the time bases hold beside their registers. -/
def Run.clock (r : Run s₀) : Nat × Tab Tb := (r.now, r.u.tim.tb)

theorem Run.now_of_clock {r q : Run s₀} (h : r.clock = q.clock) : r.st.now = q.st.now := congrArg Prod.fst h

theorem Run.base_of_clock {r q : Run s₀} (h : r.clock = q.clock) (n : Nat) : r.st.base n = q.st.base n :=
  congrArg (fun c : Nat × Tab Tb => c.2.look n {}) h

@[simp] theorem Run.clock_wr (r : Run s₀) (f : Fld) (v : Nat) : (r.wr f v).clock = r.clock := rfl
@[simp] theorem Run.clock_emit (r : Run s₀) (o : Out) : (r.emit o).clock = r.clock := rfl
@[simp] theorem Run.clock_glb (r : Run s₀) (f : Glb → Glb) : (r.glb f).clock = r.clock := rfl
@[simp] theorem Run.clock_evt (r : Run s₀) (f : Evt → Evt) : (r.evt f).clock = r.clock := rfl
@[simp] theorem Run.clock_memu (r : Run s₀) (f : MemU → MemU) : (r.memu f).clock = r.clock := rfl
@[simp] theorem Run.clock_mag (r : Run s₀) (f : MagU → MagU) : (r.mag f).clock = r.clock := rfl
@[simp] theorem Run.clock_magzMod (r : Run s₀) (m : Nat) (f : MagzU → MagzU) : (r.magzMod m f).clock = r.clock := rfl
@[simp] theorem Run.clock_frameMod (r : Run s₀) (sn : Nat) (f : IFrame → IFrame) : (r.frameMod sn f).clock = r.clock := rfl
@[simp] theorem Run.clock_laneMod (r : Run s₀) (n : Nat) (f : LaneU → LaneU) : (r.laneMod n f).clock = r.clock := rfl
@[simp] theorem Run.clock_txMod (r : Run s₀) (dest : Nat) (f : TxU → TxU) : (r.txMod dest f).clock = r.clock := rfl

@[simp] theorem Run.clock_ite (c : Prop) [Decidable c] (a b : Run s₀) : (if c then a else b).clock = if c then a.clock else b.clock :=
  apply_ite Run.clock c a b

@[simp] theorem Run.clock_when (r : Run s₀) (c : Bool) (f : Run s₀ → Run s₀) :
    (r.when c f).clock = if c = true then (f r).clock else r.clock :=
  Run.clock_ite _ _ _

@[simp] theorem Run.clock_each {α : Type} (l : List α) (f : α → Run s₀ → Run s₀) (h : ∀ a r, (f a r).clock = r.clock) (r : Run s₀) :
    (r.each l f).clock = r.clock := by
  induction l generalizing r with
  | nil => rfl
  | cons a l ih => exact (ih (f a r)).trans (h a r)

/-! ### Events and accesses -/

@[simp] theorem Run.clock_set (r : Run s₀) (f : Fld) (m : Nat) : (r.set f m).clock = r.clock := rfl
@[simp] theorem Run.clock_sat (r : Run s₀) (f : Fld) (n : Nat) : (r.sat f n).clock = r.clock := rfl
@[simp] theorem Run.clock_hwSet (r : Run s₀) (f : Fld) (m : Nat) : (r.hwSet f m).clock = r.clock := rfl
@[simp] theorem Run.clock_sendMsix (r : Run s₀) (v : Nat) : (r.sendMsix v).clock = r.clock := by simp [Run.sendMsix]
@[simp] theorem Run.clock_eventMsix (r : Run s₀) (v : Nat) : (r.eventMsix v).clock = r.clock := by simp [Run.eventMsix]
@[simp] theorem Run.clock_eventOut (r : Run s₀) (k : Nat) (level : Bool) : (r.eventOut k level).clock = r.clock := by simp [Run.eventOut]
@[simp] theorem Run.clock_deliver (r : Run s₀) (e : Nat) : (r.deliver e).clock = r.clock := by simp [Run.deliver]
@[simp] theorem Run.clock_occur (r : Run s₀) (e : Nat) : (r.occur e).clock = r.clock := by simp [Run.occur, Run.traceEvent]
@[simp] theorem Run.clock_smbLine (r : Run s₀) : r.smbLine.clock = r.clock := by simp [Run.smbLine]
@[simp] theorem Run.clock_ev (r : Run s₀) (e : Nat) : (r.ev e).clock = r.clock := by simp [Run.ev, Run.smbCond]

@[simp] theorem Run.clock_breach (r : Run s₀) (b : Breach) : (r.breach b).clock = r.clock := by
  unfold Run.breach
  dsimp only
  split <;> simp

@[simp] theorem Run.clock_poisonRead (r : Run s₀) (a n : Nat) : (r.poisonRead a n).clock = r.clock := by
  unfold Run.poisonRead
  split <;> simp [Run.uncorrectable]

@[simp] theorem Run.clock_load? (r : Run s₀) (u a n : Nat) (f : Got → Run s₀ → Run s₀) (hf : ∀ g r, (f g r).clock = r.clock) :
    (r.load? u a n f).clock = r.clock := by
  simp [Run.load?, Run.refused, hf]

@[simp] theorem Run.clock_slotRead (r : Run s₀) (f : IFrame) (a n : Nat) : (r.slotRead f a n).clock = r.clock := by
  simp [Run.slotRead, Run.recRead]

/-! ### Drives and magazines -/

@[simp] theorem Run.clock_drvMod (r : Run s₀) (d : Nat) (f : DrvU → DrvU) : (r.drvMod d f).clock = r.clock := rfl
@[simp] theorem Run.clock_hopMod (r : Run s₀) (l : Nat) (f : HopU → HopU) : (r.hopMod l f).clock = r.clock := rfl
@[simp] theorem Run.clock_hopEmit (r : Run s₀) (l seq : Nat) (p : HopPkt) : (r.hopEmit l seq p).clock = r.clock := rfl
@[simp] theorem Run.clock_magBusy (r : Run s₀) (m : Nat) : (r.magBusy m).clock = r.clock := rfl

@[simp] theorem Run.clock_hopPump_go (l : Nat) (ps : List HopPkt) (r : Run s₀) : (Run.hopPump.go l ps r).clock = r.clock := by
  induction ps generalizing r with
  | nil => rfl
  | cons p ps ih => simp [Run.hopPump.go, ih]

@[simp] theorem Run.clock_hopSend (r : Run s₀) (l : Nat) (ps : List HopPkt) : (r.hopSend l ps).clock = r.clock := by
  simp [Run.hopSend, Run.hopPump]

@[simp] theorem Run.clock_drvPump_go (d : Nat) (cs held : List DCmd) (r : Run s₀) : (Run.drvPump.go d cs held r).clock = r.clock := by
  induction cs generalizing held r with
  | nil => rfl
  | cons c cs ih =>
    unfold Run.drvPump.go
    dsimp only
    split <;> simp [ih]

@[simp] theorem Run.clock_drvCmd (r : Run s₀) (d : Nat) (c : DCmd) : (r.drvCmd d c).clock = r.clock := by simp [Run.drvCmd, Run.drvPump]
@[simp] theorem Run.clock_writeLabel (r : Run s₀) (m : Nat) (f : Label → Label) : (r.writeLabel m f).clock = r.clock := by simp [Run.writeLabel]
@[simp] theorem Run.clock_magSync (r : Run s₀) (m : Nat) : (r.magSync m).clock = r.clock := by simp [Run.magSync]

/-! ### Segments -/

@[simp] theorem Run.clock_segMod (r : Run s₀) (n : Nat) (f : Seg → Seg) : (r.segMod n f).clock = r.clock := rfl
@[simp] theorem Run.clock_segEntry (r : Run s₀) (n : Nat) (e : List Byte) : (r.segEntry n e).clock = r.clock := rfl
@[simp] theorem Run.clock_segBytes (r : Run s₀) (n : Nat) (b : List Byte) : (r.segBytes n b).clock = r.clock := rfl
@[simp] theorem Run.clock_segGap (r : Run s₀) (n ctx cause fn : Nat) : (r.segGap n ctx cause fn).clock = r.clock := rfl
@[simp] theorem Run.clock_recState (r : Run s₀) (st : Nat) : (r.recState st).clock = r.clock := by simp [Run.recState]
@[simp] theorem Run.clock_appendFrame (r : Run s₀) (n : Nat) (s : Seg) (f : IFrame) : (r.appendFrame n s f).clock = r.clock := by
  simp [Run.appendFrame]

@[simp] theorem Run.clock_audioLost (r : Run s₀) (n p a b : Nat) : (r.audioLost n p a b).clock = r.clock := by simp [Run.audioLost]

@[simp] theorem Run.clock_audioExtent (r : Run s₀) (n p a b : Nat) : (r.audioExtent n p a b).clock = r.clock := by
  unfold Run.audioExtent
  dsimp only
  split <;> simp

@[simp] theorem Run.clock_audioPump (r : Run s₀) (n p lim : Nat) (last : Bool) (fuel : Nat) :
    (r.audioPump n p lim last fuel).clock = r.clock := by
  induction fuel generalizing r with
  | zero => rfl
  | succ fuel ih =>
    unfold Run.audioPump
    dsimp only
    split
    · rfl
    · split
      · simp [ih]
      · split <;> simp [ih]

@[simp] theorem Run.clock_segAudio (r : Run s₀) (n : Nat) (last : Bool) : (r.segAudio n last).clock = r.clock := by
  unfold Run.segAudio
  split <;> simp

@[simp] theorem Run.clock_segPump_go (n : Nat) (l : List Nat) (r : Run s₀) : (Run.segPump.go n l r).clock = r.clock := by
  induction l generalizing r with
  | nil => rfl
  | cons sn l ih =>
    unfold Run.segPump.go
    dsimp only
    split <;> simp [ih]

@[simp] theorem Run.clock_segPump (r : Run s₀) (n : Nat) : (r.segPump n).clock = r.clock := by
  unfold Run.segPump
  split <;> simp

@[simp] theorem Run.clock_segAbandon (r : Run s₀) (s : Seg) : (r.segAbandon s).clock = r.clock := by simp [Run.segAbandon]

@[simp] theorem Run.clock_openSeg (r : Run s₀) (m clip seg prev : Nat) (continued : Bool) (todo : List Nat) (aud : Tab Nat) :
    (r.openSeg m clip seg prev continued todo aud).clock = r.clock := by
  simp [Run.openSeg]

@[simp] theorem Run.clock_changeover (r : Run s₀) (failed : Bool) : (r.changeover failed).clock = r.clock := by
  unfold Run.changeover
  split <;> simp

@[simp] theorem Run.clock_recStop (r : Run s₀) (cause : Nat) : (r.recStop cause).clock = r.clock := by
  unfold Run.recStop
  split <;> simp

@[simp] theorem Run.clock_clipCycle (r : Run s₀) : r.clipCycle.clock = r.clock := by
  simp [Run.clipCycle, Run.clipPump, Run.fullCheck]

/-! ### The transmit halves -/

@[simp] theorem Run.clock_txReach (r : Run s₀) (n type phase : Nat) (data : List Bool) : (r.txReach n type phase data).clock = r.clock := rfl
@[simp] theorem Run.clock_txData (r : Run s₀) (n cap : Nat) (words : List Nat) : (r.txData n cap words).clock = r.clock := rfl
@[simp] theorem Run.clock_txStream (r : Run s₀) (dest : Nat) : (r.txStream dest).clock = r.clock := by
  unfold Run.txStream
  dsimp only
  split
  · simp
  · exact Run.clock_each _ _ (fun (p : Nat × Nat) r => r.clock_txData p.1 _ _) _

@[simp] theorem Run.clock_txTest (r : Run s₀) (n : Nat) : (r.txTest n).clock = r.clock := by
  simp [Run.txTest, Run.prbsTake, Run.txSymbols]

@[simp] theorem Run.clock_txLane (r : Run s₀) (n : Nat) : (r.txLane n).clock = r.clock := by
  unfold Run.txLane
  dsimp only
  (repeat' split) <;> simp only [Run.clock_txTest, Run.clock_txReach]

@[simp] theorem Run.clock_txReaches (r : Run s₀) (slow : Bool) : (r.txReaches slow).clock = r.clock := by simp [Run.txReaches]
@[simp] theorem Run.clock_idleCycle (r : Run s₀) : r.idleCycle.clock = r.cycle.clock := by simp [Run.idleCycle]

/-! ## One cycle (R364, R375) -/

/-- The bases in a list after `n` TCLK cycles: the first thing that `Run.tclk` does, for all four. -/
def Run.basesAdvance (r : Run s₀) (n : Nat) (l : List Nat) : Run s₀ :=
  r.each l fun k r => r.tbMod k fun b => { b with t := b.t + n * (r.rd (TIM_TB_EFF_INCR k) * 256) }

theorem Run.base_tbMod_same (r : Run s₀) (n : Nat) (f : Tb → Tb) : (r.tbMod n f).st.base n = f (r.st.base n) := Tab.look_put_same _ _ _ _

theorem Run.base_tbMod_ne (r : Run s₀) {n k : Nat} (f : Tb → Tb) (hk : k ≠ n) : (r.tbMod n f).st.base k = r.st.base k :=
  Tab.look_put_ne _ _ _ hk

theorem Run.rd_tbMod (r : Run s₀) (n : Nat) (f : Tb → Tb) (g : Fld) : (r.tbMod n f).rd g = r.rd g := rfl

theorem Run.base_basesAdvance (r : Run s₀) (n k : Nat) {l : List Nat} (hl : l.Nodup) :
    ((r.basesAdvance n l).st.base k).t = (r.st.base k).t + if k ∈ l then n * (r.rd (TIM_TB_EFF_INCR k) * 256) else 0 := by
  induction l generalizing r with
  | nil => rfl
  | cons j l ih =>
    obtain ⟨hj, hl⟩ := List.nodup_cons.1 hl
    refine (ih _ hl).trans ?_
    by_cases hk : k = j
    · subst hk
      simp [hj, Run.base_tbMod_same]
    · rw [Run.base_tbMod_ne _ _ hk, Run.rd_tbMod]
      simp only [List.mem_cons, hk, false_or]

theorem Run.clock_tclk (r : Run s₀) (n : Nat) : (r.tclk n).clock = (r.basesAdvance n (List.range 4)).clock := by
  unfold Run.tclk
  dsimp only
  split
  · rfl
  · rw [Run.clock_when, Run.clock_ev, ite_self]
    rfl

theorem Run.now_cycle (r : Run s₀) : r.cycle.st.now = r.st.now + 1 := by
  unfold Run.cycle
  dsimp only
  split
  · exact Run.now_of_clock (Run.clock_tclk _ _)
  · rfl

/-- TCLK runs at half of CCLK: in every second cycle a base adds its effective increment, in units of 2^-24 ns. -/
theorem Run.base_cycle (r : Run s₀) {n : Nat} (hn : n < 4) :
    (r.cycle.st.base n).t = (r.st.base n).t + if (r.st.now + 1) % 2 = 0 then r.st.rd (TIM_TB_EFF_INCR n) * 256 else 0 := by
  have htick : (r.tick 1).now = r.st.now + 1 := rfl
  unfold Run.cycle
  dsimp only
  rw [htick]
  split
  · rw [Run.base_of_clock (Run.clock_tclk _ _), Run.base_basesAdvance _ _ _ List.nodup_range, if_pos (List.mem_range.2 hn), Nat.one_mul]
    rfl
  · rfl

/-! ## What a cycle with no open segment leaves as it was -/

/-- The registers that a cycle may change beside those of its events. -/
def idleKeys : Nat → Bool := own [TIM_TSEL_DELTA, TIM_TSEL_STATUS_SLEWING]

/-- The units without the time bases, Δ, and what the lanes and the streams they send hold. -/
def Units.still (u : Units) : Units := { u with tim := { u.tim with tb := [], delta := 0 }, lane := [], tx := [] }

/-- A state kept in all that a cycle with no open segment may not move. -/
abbrev State.Rests (s t : State) : Prop := s.Keeps t idleKeys Units.still

theorem Run.clipCycle_of_no_segs (r : Run s₀) (hs : r.u.magu.segs = []) : r.clipCycle = r := by
  simp [Run.clipCycle, hs]

namespace State.Rests
variable {s : State} {r : Run s₀}

theorem tbMod (H : s.Rests r.st) (n : Nat) (f : Tb → Tb) : s.Rests (r.tbMod n f).st := KeepsBut.tim H _ fun _ => rfl

theorem setDelta (H : s.Rests r.st) (d : Int) : s.Rests (r.setDelta d).st :=
  KeepsBut.wr (KeepsBut.wrS (KeepsBut.tim H _ fun _ => rfl) _ _ (.inl (by decide))) _ _ (.inl (by decide))

theorem tclk (H : s.Rests r.st) (n : Nat) : s.Rests (r.tclk n).st := by
  have hb := KeepsBut.each (List.range 4) H fun k _ r (hr : s.Rests r.st) =>
    hr.tbMod k fun b => { b with t := b.t + n * (r.rd (TIM_TB_EFF_INCR k) * 256) }
  unfold Run.tclk
  dsimp only
  split
  · exact hb
  · have hd (d : Int) := State.Rests.setDelta hb d
    exact KeepsBut.when (hd _) _ fun _ => KeepsBut.ev (hd _) (by decide)

theorem cycle (s : State) : { s with now := s.now + 1 }.Rests (Run.start s).cycle.st := by
  have hnow : { s with now := s.now + 1 }.Rests ((Run.start s).tick 1).st := KeepsBut.refl _
  unfold Run.cycle
  dsimp only
  split
  · exact hnow.tclk 1
  · exact hnow

theorem segs (H : s.Rests r.st) : r.u.magu.segs = s.u.magu.segs := by
  obtain ⟨-, -, -, -, hunits⟩ := H
  exact congrArg (fun u => u.magu.segs) hunits

theorem laneMod (H : s.Rests r.st) (n : Nat) (f : LaneU → LaneU) : s.Rests (r.laneMod n f).st := KeepsBut.mod H _ fun _ => rfl

theorem txMod (H : s.Rests r.st) (dest : Nat) (f : TxU → TxU) : s.Rests (r.txMod dest f).st := KeepsBut.mod H _ fun _ => rfl

theorem txReach (H : s.Rests r.st) (n type phase : Nat) (data : List Bool) : s.Rests (r.txReach n type phase data).st := KeepsBut.emit H _

theorem txData (H : s.Rests r.st) (n cap : Nat) (words : List Nat) : s.Rests (r.txData n cap words).st := (H.txReach n _ _ _).laneMod n _

theorem txStream (H : s.Rests r.st) (dest : Nat) : s.Rests (r.txStream dest).st := by
  unfold Run.txStream
  dsimp only
  split
  · exact KeepsBut.each _ (H.txMod dest _) fun n _ r hr => KeepsBut.when hr _ fun _ => (laneMod hr n _).txReach n _ _ _
  · exact KeepsBut.each _ (H.txMod dest _) fun x _ r hr => txData hr x.1 _ _

theorem txTest (H : s.Rests r.st) (n : Nat) : s.Rests (r.txTest n).st := by
  unfold Run.txTest
  split_ifs
  · exact H
  · exact KeepsBut.emit (H.laneMod n _) _
  · exact H.txReach n _ _ _

theorem txLane (H : s.Rests r.st) (n : Nat) : s.Rests (r.txLane n).st := by
  unfold Run.txLane
  dsimp only
  split_ifs
  · exact H
  · exact H.txTest n
  · exact H.txReach n _ _ _
  · exact H
  · exact H.txReach n _ _ _

theorem txReaches (H : s.Rests r.st) (slow : Bool) : s.Rests (r.txReaches slow).st := by
  unfold Run.txReaches
  split
  · exact KeepsBut.each _ (KeepsBut.each _ H fun n _ r hr => txLane hr n) fun d _ r hr => txStream hr d
  · exact H

/-- With no segment open to take a frame, an idle cycle leaves all but the time bases, Δ and the transmit halves as it was. -/
theorem idleCycle (hs : s.u.magu.segs = []) : { s with now := s.now + 1 }.Rests (Run.start s).idleCycle.st := by
  have hcycle := cycle s
  unfold Run.idleCycle
  rw [Run.clipCycle_of_no_segs _ (hcycle.segs.trans hs)]
  exact (hcycle.txReaches true).txReaches false

end State.Rests

/-- Settles O2: an idle cycle is `Run.cycle`, in which the bases move, and then work that moves no base. -/
theorem idleStepIsOneCycle : Obligations.IdleStepIsOneCycle := by
  intro s hs
  have hstep : step s = .next (Run.start s).idleCycle.st := by
    simp only [step, hs, done]
  have hclock := (Run.start s).clock_idleCycle
  refine ⟨(Run.start s).idleCycle.st, hstep, ?_, fun n hn => ?_, State.Rests.idleCycle⟩
  · exact (Run.now_of_clock hclock).trans (Run.now_cycle (Run.start s))
  · rw [Run.base_of_clock hclock]
    exact Run.base_cycle (Run.start s) hn

end Sys2Proof.Machine
end

section
/-!
PROOFS. O18: the registers of the queue interface, its doorbells, the admin queue, the resets of queues without commands, and the
messages of completions (R293 to R300, R327).
-/
namespace Sys2Proof.Machine
variable {s₀ s : State} {p m : Nat → Bool} {h : Units → Units}

/-! ## Keys of the interface's registers -/

@[simp] theorem QIF_CTL_EN_key : QIF_CTL_EN.key = 0x1500000 * 8 := rfl
@[simp] theorem QIF_STATUS_RDY_key : QIF_STATUS_RDY.key = 0x1500004 * 8 := rfl
@[simp] theorem QIF_STATUS_ADMIN_ERR_key : QIF_STATUS_ADMIN_ERR.key = 0x1500004 * 8 + 3 := rfl
@[simp] theorem QIF_Q_STATUS_STATE_key (q : Nat) : (QIF_Q_STATUS_STATE q).key = (0x1501000 + 0x10 * q) * 8 := rfl
@[simp] theorem QIF_Q_STATUS_CLASS_key (q : Nat) : (QIF_Q_STATUS_CLASS q).key = (0x1501000 + 0x10 * q) * 8 + 4 := rfl
@[simp] theorem QIF_Q_STATUS_VECTOR_key (q : Nat) : (QIF_Q_STATUS_VECTOR q).key = (0x1501000 + 0x10 * q) * 8 + 8 := rfl
@[simp] theorem QIF_Q_STATUS_INFLIGHT_key (q : Nat) : (QIF_Q_STATUS_INFLIGHT q).key = (0x1501000 + 0x10 * q) * 8 + 16 := rfl
@[simp] theorem QIF_Q_INDEX_SQ_HEAD_key (q : Nat) : (QIF_Q_INDEX_SQ_HEAD q).key = (0x1501004 + 0x10 * q) * 8 := rfl
@[simp] theorem QIF_Q_INDEX_CQ_TAIL_key (q : Nat) : (QIF_Q_INDEX_CQ_TAIL q).key = (0x1501004 + 0x10 * q) * 8 + 16 := rfl
@[simp] theorem QIF_Q_INDEX_PHASE_key (q : Nat) : (QIF_Q_INDEX_PHASE q).key = (0x1501004 + 0x10 * q) * 8 + 31 := rfl
@[simp] theorem QIF_MSIX_MASK_key (v : Nat) : (QIF_MSIX_MASK v).key = (0x1520000 + 0x10 * v) * 8 + 96 := rfl
@[simp] theorem QIF_PBA_key : QIF_PBA.key = 0x1521000 * 8 := rfl

theorem queueKeys_eq_true {q k : Nat} : queueKeys q k = true ↔ k = (0x1501004 + 0x10 * q) * 8 ∨ k = (0x1501004 + 0x10 * q) * 8 + 16
    ∨ k = (0x1501004 + 0x10 * q) * 8 + 31 ∨ k = (0x1501000 + 0x10 * q) * 8 + 16 := by
  simp only [queueKeys, own, List.any_cons, List.any_nil, Bool.or_false, Bool.or_eq_true, beq_iff_eq, QIF_Q_INDEX_SQ_HEAD_key,
    QIF_Q_INDEX_CQ_TAIL_key, QIF_Q_INDEX_PHASE_key, QIF_Q_STATUS_INFLIGHT_key, @eq_comm Nat k]

/-! ## A queue and the registers that show it -/

@[simp] theorem Run.rd_qif (r : Run s₀) (f : QifU → QifU) (g : Fld) : (r.qif f).rd g = r.rd g := rfl
@[simp] theorem Run.u_qif (r : Run s₀) (f : QifU → QifU) : (r.qif f).u = { r.u with qif := f r.u.qif } := rfl
@[simp] theorem Run.queue_wr (r : Run s₀) (f : Fld) (v q : Nat) : (r.wr f v).queue q = r.queue q := rfl

/-- What changing a queue leaves of the units: only the table of queues is another one. -/
theorem Run.u_queueMod (r : Run s₀) (q : Nat) (f : QueueU → QueueU) :
    (r.queueMod q f).u = { r.u with qif := { r.u.qif with q := r.u.qif.q.put q (f (r.queue q)) } } := rfl

@[simp] theorem Run.queue_queueMod_same (r : Run s₀) (q : Nat) (f : QueueU → QueueU) : (r.queueMod q f).queue q = f (r.queue q) :=
  Tab.look_put_same _ _ _ _

theorem Run.queue_queueMod_ne (r : Run s₀) {q k : Nat} (f : QueueU → QueueU) (hk : k ≠ q) : (r.queueMod q f).queue k = r.queue k :=
  Tab.look_put_ne _ _ _ hk

theorem Run.queue_qif (r : Run s₀) {f : QifU → QifU} (q : Nat) (hf : (f r.u.qif).q = r.u.qif.q) : (r.qif f).queue q = r.queue q :=
  congrArg (fun t : Tab QueueU => t.look q {}) hf

theorem Run.rd_queueMod (r : Run s₀) (q : Nat) (f : QueueU → QueueU) {g : Fld} (hg : ¬ queueKeys q g.key = true) :
    (r.queueMod q f).rd g = r.rd g := by
  obtain ⟨hhead, htail, hphase, hinflight⟩ : g.key ≠ (QIF_Q_INDEX_SQ_HEAD q).key ∧ g.key ≠ (QIF_Q_INDEX_CQ_TAIL q).key
      ∧ g.key ≠ (QIF_Q_INDEX_PHASE q).key ∧ g.key ≠ (QIF_Q_STATUS_INFLIGHT q).key := by
    simpa [queueKeys_eq_true] using hg
  exact (Run.rd_wr_ne _ _ hinflight).trans ((Run.rd_wr_ne _ _ hphase).trans ((Run.rd_wr_ne _ _ htail).trans (Run.rd_wr_ne _ _ hhead)))

/-- What forgets the table of queues. -/
def forgetsQueues (h : Units → Units) : Prop := ∀ (u : Units) (x : Tab QueueU), h { u with qif := { u.qif with q := x } }.quiet = h u.quiet

/-- What forgets the queue interface. -/
def forgetsQif (h : Units → Units) : Prop := ∀ (u : Units) (x : QifU), h { u with qif := x }.quiet = h u.quiet

theorem forgetsQif.queues (hh : forgetsQif h) : forgetsQueues h := fun u _ => hh u _

theorem State.KeepsBut.qif {r : Run s₀} (H : s.KeepsBut r.st p m h) (f : QifU → QifU) (hh : forgetsQif h) : s.KeepsBut (r.qif f).st p m h :=
  H.mod _ fun u => hh u _

theorem State.KeepsBut.queueMod {r : Run s₀} (H : s.KeepsBut r.st p m h) (q : Nat) (f : QueueU → QueueU)
    (hp : ∀ k, queueKeys q k = true → p k = true) (hh : forgetsQueues h) : s.KeepsBut (r.queueMod q f).st p m h := by
  have hfld : ∀ {g : Fld}, g ∈ [QIF_Q_INDEX_SQ_HEAD q, QIF_Q_INDEX_CQ_TAIL q, QIF_Q_INDEX_PHASE q, QIF_Q_STATUS_INFLIGHT q] →
      p g.key = true ∨ eventKey g.key = true := fun hg => .inl (hp _ (own_mem hg))
  unfold Run.queueMod Run.queueSync
  exact ((((H.mod _ fun u => hh u _).wr _ _ (hfld (by simp))).wr _ _ (hfld (by simp))).wr _ _ (hfld (by simp))).wr _ _ (hfld (by simp))

/-! ## Doorbells that are ignored (R298) -/

/-- The registers that record an ignored doorbell. -/
def doorbellFields : List Fld := [QIF_DB_ERR_QID, QIF_DB_ERR_KIND, QIF_DB_ERR_VALID, QIF_COUNT_DB_ERR]

theorem State.KeepsBut.doorbellNoted (s : State) (q kind : Nat) : s.Keeps ((Run.start s).doorbellNoted q kind).st (own doorbellFields) id := by
  have hfld : ∀ {g : Fld}, g ∈ doorbellFields → own doorbellFields g.key = true ∨ eventKey g.key = true := fun hg => .inl (own_mem hg)
  unfold Run.doorbellNoted
  exact ((((State.KeepsBut.start s).wr _ _ (hfld (by simp [doorbellFields]))).wr _ _ (hfld (by simp [doorbellFields]))).evSet _ _
    (hfld (by simp [doorbellFields]))).sat _ _ (hfld (by simp [doorbellFields]))

theorem State.KeepsBut.doorbellErr (s : State) (q kind : Nat) : s.Keeps ((Run.start s).doorbellErr q kind).st (own doorbellFields) id :=
  State.KeepsBut.ev (State.KeepsBut.doorbellNoted s q kind) (by omega)

theorem Run.out_doorbellNoted (r : Run s₀) (q kind : Nat) : (r.doorbellNoted q kind).st.out = r.st.out := rfl

theorem Run.qid_doorbellNoted (r : Run s₀) {q : Nat} (kind : Nat) (hq : q < 64) : (r.doorbellNoted q kind).rd QIF_DB_ERR_QID = q := by
  rw [Run.doorbellNoted, Run.rd_sat_ne _ _ (by decide), Run.rd_hwSet, Run.set, Run.rd_wr_ne _ _ (by decide), Run.rd_wr_ne _ _ (by decide),
    Run.rd_wr_same]
  exact Nat.mod_eq_of_lt hq

theorem Run.kind_doorbellNoted (r : Run s₀) (q : Nat) {kind : Nat} (hk : kind < 4) : (r.doorbellNoted q kind).rd QIF_DB_ERR_KIND = kind := by
  rw [Run.doorbellNoted, Run.rd_sat_ne _ _ (by decide), Run.rd_hwSet, Run.set, Run.rd_wr_ne _ _ (by decide), Run.rd_wr_same]
  exact Nat.mod_eq_of_lt hk

theorem Run.valid_doorbellNoted (r : Run s₀) (q kind : Nat) : (r.doorbellNoted q kind).rd QIF_DB_ERR_VALID = 1 := by
  rw [Run.doorbellNoted, Run.rd_sat_ne _ _ (by decide), Run.rd_hwSet, Run.set, Run.rd_wr_same]
  exact Nat.or_mod_two_eq_one.mpr (.inr rfl)

theorem Run.count_doorbellNoted (r : Run s₀) (q kind : Nat) :
    (r.doorbellNoted q kind).rd QIF_COUNT_DB_ERR = min (r.rd QIF_COUNT_DB_ERR + 1) (2 ^ QIF_COUNT_DB_ERR.w - 1) := by
  rw [Run.doorbellNoted, Run.rd_sat_same, Run.rd_hwSet, Run.set, Run.rd_wr_ne _ _ (by decide), Run.rd_wr_ne _ _ (by decide),
    Run.rd_wr_ne _ _ (by decide)]

/-- The event of an ignored doorbell leaves its record. -/
theorem Run.rd_doorbellErr (r : Run s₀) (q kind : Nat) {f : Fld} (hf : eventKey f.key = false) :
    (r.doorbellErr q kind).rd f = (r.doorbellNoted q kind).rd f := Run.rd_ev _ (by omega) hf

theorem Run.status_doorbellErr (r : Run s₀) (q kind : Nat) : (r.doorbellErr q kind).st.status 401 = true :=
  Run.status_ev _ (by omega) (by decide)

/-! ## What a doorbell does (R297, R298, R299) -/

theorem Run.writeSqTail_inside (r : Run s₀) {q v : Nat} (hs : r.queueState q = 1 ∨ r.queueState q = 2) (hv : v < (r.queue q).depth) :
    r.writeSqTail q v = r.queueMod q fun x => { x with tail := v } := by
  rw [Run.writeSqTail, if_neg (by omega), if_neg (by omega), if_neg (by omega)]

theorem Run.writeSqTail_outside (r : Run s₀) {q v : Nat} (hs : r.queueState q = 0 ∨ (r.queueState q ≠ 3 ∧ (r.queue q).depth ≤ v)) :
    r.writeSqTail q v = r.doorbellErr q (if r.queueState q = 0 then 3 else 1) := by
  rw [Run.writeSqTail]
  split_ifs
  · rfl
  · omega
  · rfl
  · omega

theorem Run.writeSqTail_resetting (r : Run s₀) {q : Nat} (v : Nat) (hs : r.queueState q = 3) : r.writeSqTail q v = r.doorbellNoted q 3 := by
  rw [Run.writeSqTail, if_neg (by omega), if_pos hs]

theorem Run.writeCqHead_inside (r : Run s₀) {q v : Nat} (hs : r.queueState q = 1 ∨ r.queueState q = 2) (hv : v < (r.queue q).depth)
    (hheld : (v + (r.queue q).depth - (r.queue q).cqHead) % (r.queue q).depth
      ≤ ((r.queue q).cqTail + (r.queue q).depth - (r.queue q).cqHead) % (r.queue q).depth) :
    r.writeCqHead q v = r.queueMod q fun x => { x with cqHead := v } := by
  have hin : ¬ ((r.queue q).depth ≤ v ∨ (r.queue q).held < (v + (r.queue q).depth - (r.queue q).cqHead) % (r.queue q).depth) := by
    rw [QueueU.held, if_neg (by omega)]
    omega
  simp only [Run.writeCqHead]
  rw [if_neg (by omega), if_neg (by omega), if_neg hin]

theorem Run.writeCqHead_outside (r : Run s₀) {q v : Nat} (hs : r.queueState q = 0 ∨ (r.queueState q ≠ 3 ∧ (r.queue q).depth ≤ v)) :
    r.writeCqHead q v = r.doorbellErr q (if r.queueState q = 0 then 3 else 2) := by
  simp only [Run.writeCqHead]
  split_ifs
  · rfl
  · omega
  · rfl
  · omega

theorem Run.writeCqHead_resetting (r : Run s₀) {q : Nat} (v : Nat) (hs : r.queueState q = 3) : r.writeCqHead q v = r.doorbellNoted q 3 := by
  simp only [Run.writeCqHead]
  rw [if_neg (by omega), if_pos hs]

/-! ## A new queue and the admin queue's creation (R296) -/

/-- The registers of a queue beside its indices. -/
def queueFields (q : Nat) : List Fld := [QIF_Q_STATUS_STATE q, QIF_Q_STATUS_CLASS q, QIF_Q_STATUS_VECTOR q]

theorem Run.state_queueNew (r : Run s₀) (q depth sq cq cls vector coalN coalT : Nat) :
    (r.queueNew q depth sq cq cls vector coalN coalT).rd (QIF_Q_STATUS_STATE q) = 1 :=
  (Run.rd_wr_ne _ _ (by simp)).trans ((Run.rd_wr_ne _ _ (by simp)).trans (Run.rd_wr_same _ _ _))

theorem Run.queue_queueNew (r : Run s₀) (q depth sq cq cls vector coalN coalT : Nat) :
    (r.queueNew q depth sq cq cls vector coalN coalT).queue q = { depth := depth, sq := sq, cq := cq, coalN := coalN, coalT := coalT } := by
  simp only [Run.queueNew, Run.queue_wr, Run.queue_queueMod_same]

theorem State.KeepsBut.queueNew {r : Run s₀} (H : s.KeepsBut r.st p m h) (q depth sq cq cls vector coalN coalT : Nat)
    (hp : ∀ k, (queueKeys q k || own (queueFields q) k) = true → p k = true) (hh : forgetsQueues h) :
    s.KeepsBut (r.queueNew q depth sq cq cls vector coalN coalT).st p m h := by
  have hfld : ∀ {g : Fld}, g ∈ queueFields q → p g.key = true ∨ eventKey g.key = true :=
    fun hg => .inl (hp _ (by rw [own_mem hg, Bool.or_true]))
  unfold Run.queueNew
  exact (((H.queueMod q _ (fun k hk => hp k (by rw [hk, Bool.true_or])) hh).wr _ _ (hfld (by simp [queueFields]))).wr _ _
    (hfld (by simp [queueFields]))).wr _ _ (hfld (by simp [queueFields]))

theorem Run.qifEnable_ready (r : Run s₀) (hen : r.rd QIF_CTL_EN = 0) (hs : r.queueState 0 ≠ 3) (hready : r.rd GLB_BOOT_STATUS_READY ≠ 0)
    (hbus : r.u.glb.busMaster = true) :
    r.qifEnable = ((r.queueNew 0 (r.rd QIF_ADMIN_DEPTH_DEPTH_M1 + 1) (r.rd QIF_ADMIN_SQ_BASE_ADDR / 4096 * 4096)
      (r.rd QIF_ADMIN_CQ_BASE_ADDR / 4096 * 4096) 0 0 0 0).wr QIF_CTL_EN 1).wr QIF_STATUS_RDY 1 := by
  change r.st.rd QIF_CTL_EN = 0 at hen
  change r.st.rd GLB_BOOT_STATUS_READY ≠ 0 at hready
  simp [Run.qifEnable, Run.on, hen, hs, hready, hbus]

theorem Run.qifEnable_early (r : Run s₀) (hen : r.rd QIF_CTL_EN = 0) (hs : r.queueState 0 ≠ 3)
    (hearly : r.rd GLB_BOOT_STATUS_READY = 0 ∨ r.u.glb.busMaster = false) : r.qifEnable = r.ignored := by
  change r.st.rd QIF_CTL_EN = 0 at hen
  change r.st.rd GLB_BOOT_STATUS_READY = 0 ∨ _ at hearly
  rw [Run.qifEnable, if_neg (by simp [Run.on, hen, hs]), if_pos (by simpa [Run.on] using hearly)]

/-! ## The reset of a queue when no command is fetched (R327) -/

/-- No command is fetched and no queue is being reset. -/
def Run.noCommands (r : Run s₀) : Prop := r.u.qif.cmds = [] ∧ r.u.qif.resets = []

/-- Steps 1 to 4 of a queue's reset or deletion that no admin command asked for, when the queue has no command. -/
def Run.resetBegun (r : Run s₀) (q : Nat) (delete : Bool) : Run s₀ :=
  (((r.qif fun u =>
      { u with reading := u.reading.map fun x => if x.1 = q then (x.1, x.2.1, x.2.2.1, false) else x,
               resets := u.resets ++ [(q, delete, none, 0, 0)],
               cmds := u.cmds.map fun c => if c.q = q ∧ some c.no ≠ none then { c with aborted := true } else c }).wr
    (QIF_Q_STATUS_STATE q) 3).queueMod q fun x => { x with head := x.tail }).qif
    fun u => { u with resets := u.resets.map fun y => if y.1 = q then (y.1, y.2.1, y.2.2.1, 0, y.2.2.2.2) else y }

/-- The end of a queue's reset, which returns its indices to 0. -/
def Run.resetEnds (r : Run s₀) (q : Nat) : Run s₀ :=
  ((r.qif fun u => { u with resets := u.resets.filter fun y => y.1 != q }).queueMod q fun y =>
    { y with tail := 0, head := 0, cqTail := 0, cqHead := 0, phase := true, fetched := 0, unsent := 0 }).wr (QIF_Q_STATUS_STATE q) 1

/-- The end of a queue's deletion. -/
def Run.deletionEnds (r : Run s₀) (q : Nat) : Run s₀ :=
  (r.qif fun u => { u with resets := u.resets.filter fun y => y.1 != q }).queueGone q

theorem Run.noCommands_resetBegun (r : Run s₀) (hr : r.noCommands) (q : Nat) (delete : Bool) :
    (r.resetBegun q delete).u.qif.cmds = [] ∧ (r.resetBegun q delete).u.qif.resets = [(q, delete, none, 0, 0)] := by
  obtain ⟨hcmds, hresets⟩ := hr
  simp [Run.resetBegun, Run.u_queueMod, hcmds, hresets]

theorem Run.queueReset_of_noCommands (r : Run s₀) (hr : r.noCommands) {q : Nat} {delete : Bool} {r' : Run s₀}
    (hdone : (r.resetBegun q delete).resetDone q = (none, r')) : r.queueReset q delete none = r' := by
  obtain ⟨hcmds, -⟩ := hr
  rw [Run.resetBegun] at hdone
  simp only [Run.queueReset, hcmds, List.filter_nil, List.isEmpty_nil, if_true, Run.each_nil, List.length_nil, hdone]

theorem Run.queueReset_deletes (r : Run s₀) (hr : r.noCommands) (q : Nat) :
    r.queueReset q true none = (r.resetBegun q true).deletionEnds q := by
  obtain ⟨hcmds, hresets⟩ := r.noCommands_resetBegun hr q true
  have hdone : (r.resetBegun q true).resetDone q = (none, (r.resetBegun q true).deletionEnds q) := by
    simp [Run.resetDone, hcmds, hresets, Run.deletionEnds]
  exact r.queueReset_of_noCommands hr hdone

theorem Run.queueReset_admin (r : Run s₀) (hr : r.noCommands) :
    r.queueReset 0 false none = ((r.resetBegun 0 false).resetEnds 0).wr QIF_STATUS_ADMIN_ERR 0 := by
  obtain ⟨hcmds, hresets⟩ := r.noCommands_resetBegun hr 0 false
  have hdone : (r.resetBegun 0 false).resetDone 0 = (none, ((r.resetBegun 0 false).resetEnds 0).wr QIF_STATUS_ADMIN_ERR 0) := by
    simp [Run.resetDone, hcmds, hresets, Run.resetEnds]
  exact r.queueReset_of_noCommands hr hdone

theorem State.KeepsBut.resetBegun {r : Run s₀} (H : s.KeepsBut r.st p m h) (q : Nat) (delete : Bool)
    (hp : ∀ k, queueKeys q k = true → p k = true) (hs : p (QIF_Q_STATUS_STATE q).key = true) (hh : forgetsQif h) :
    s.KeepsBut (r.resetBegun q delete).st p m h :=
  State.KeepsBut.qif ((State.KeepsBut.wr (H.qif _ hh) _ _ (.inl hs)).queueMod q _ hp hh.queues) _ hh

theorem State.KeepsBut.resetEnds {r : Run s₀} (H : s.KeepsBut r.st p m h) (q : Nat) (hp : ∀ k, queueKeys q k = true → p k = true)
    (hs : p (QIF_Q_STATUS_STATE q).key = true) (hh : forgetsQif h) : s.KeepsBut (r.resetEnds q).st p m h :=
  ((H.qif _ hh).queueMod q _ hp hh.queues).wr _ _ (.inl hs)

theorem State.KeepsBut.deletionEnds {r : Run s₀} (H : s.KeepsBut r.st p m h) (q : Nat)
    (hp : ∀ k, (queueKeys q k || own (queueFields q) k) = true → p k = true) (hh : forgetsQif h) : s.KeepsBut (r.deletionEnds q).st p m h := by
  have hidx : ∀ k, queueKeys q k = true → p k = true := fun k hk => hp k (by rw [hk, Bool.true_or])
  have hfld : ∀ {g : Fld}, g ∈ queueFields q → p g.key = true ∨ eventKey g.key = true :=
    fun hg => .inl (hp _ (by rw [own_mem hg, Bool.or_true]))
  unfold Run.deletionEnds Run.queueGone
  exact (((((H.qif _ hh).queueMod q _ hidx hh.queues).wr _ _ (hfld (by simp [queueFields]))).wr _ _ (hfld (by simp [queueFields]))).wr _ _
    (hfld (by simp [queueFields]))).wr _ _ (.inl (hidx _ (own_mem (by simp))))

/-- The admin queue after its reset: both indices of both rings 0, PHASE 1, the depth as before. -/
theorem Run.queue_resetEnds_resetBegun (r : Run s₀) (q : Nat) (delete : Bool) : ((r.resetBegun q delete).resetEnds q).queue q
    = { r.queue q with tail := 0, head := 0, cqTail := 0, cqHead := 0, phase := true, fetched := 0, unsent := 0 } := by
  have hbegun : (r.resetBegun q delete).queue q = { r.queue q with head := (r.queue q).tail } := by
    rw [Run.resetBegun, Run.queue_qif, Run.queue_queueMod_same, Run.queue_wr, Run.queue_qif] <;> rfl
  rw [Run.resetEnds, Run.queue_wr, Run.queue_queueMod_same, Run.queue_qif, hbegun]
  rfl

/-! ## The deletion of every queue (R327) -/

theorem Run.noCommands_deleted (r : Run s₀) (hr : r.noCommands) (q : Nat) : (r.queueReset q true none).noCommands := by
  obtain ⟨hcmds, hresets⟩ := r.noCommands_resetBegun hr q true
  rw [r.queueReset_deletes hr]
  refine ⟨hcmds, ?_⟩
  change (r.resetBegun q true).u.qif.resets.filter _ = []
  simp [hresets]

theorem Run.state_deleted_same (r : Run s₀) (hr : r.noCommands) (q : Nat) : (r.queueReset q true none).rd (QIF_Q_STATUS_STATE q) = 0 := by
  rw [r.queueReset_deletes hr, Run.deletionEnds, Run.queueGone, Run.rd_wr_ne _ _ (by simp; omega), Run.rd_wr_ne _ _ (by simp),
    Run.rd_wr_ne _ _ (by simp), Run.rd_wr_same, Nat.zero_mod]

theorem Run.state_deleted_ne (r : Run s₀) (hr : r.noCommands) {q k : Nat} (hk : k ≠ q) :
    (r.queueReset q true none).rd (QIF_Q_STATUS_STATE k) = r.rd (QIF_Q_STATUS_STATE k) := by
  have hidx : ¬ queueKeys q (QIF_Q_STATUS_STATE k).key = true := by rw [queueKeys_eq_true]; simp; omega
  have hbegun : (r.resetBegun q true).rd (QIF_Q_STATUS_STATE k) = r.rd (QIF_Q_STATUS_STATE k) := by
    rw [Run.resetBegun, Run.rd_qif, Run.rd_queueMod _ _ _ hidx, Run.rd_wr_ne _ _ (by simp; omega), Run.rd_qif]
  rw [r.queueReset_deletes hr, Run.deletionEnds, Run.queueGone, Run.rd_wr_ne _ _ (by simp; omega), Run.rd_wr_ne _ _ (by simp; omega),
    Run.rd_wr_ne _ _ (by simp; omega), Run.rd_wr_ne _ _ (by simp; omega), Run.rd_queueMod _ _ _ hidx, Run.rd_qif, hbegun]

/-- After the deletion of some queues in turn a queue is absent when it is one of them, or was absent before. -/
theorem Run.state_deletedEach (l : List Nat) (r : Run s₀) (hr : r.noCommands) {k : Nat} (hk : k ∈ l ∨ r.rd (QIF_Q_STATUS_STATE k) = 0) :
    (r.each l fun q r => r.queueReset q true none).rd (QIF_Q_STATUS_STATE k) = 0 := by
  induction l generalizing r with
  | nil => exact hk.resolve_left List.not_mem_nil
  | cons q l ih =>
    refine ih _ (r.noCommands_deleted hr q) ?_
    by_cases hq : k = q
    · subst hq; exact .inr (r.state_deleted_same hr k)
    · rw [r.state_deleted_ne hr hq]
      exact hk.imp_left fun hmem => (List.mem_cons.mp hmem).resolve_left hq

theorem State.KeepsBut.deletedEach (l : List Nat) {r : Run s₀} (H : s.KeepsBut r.st p m h) (hr : r.noCommands)
    (hp : ∀ q ∈ l, ∀ k, (queueKeys q k || own (queueFields q) k) = true → p k = true) (hh : forgetsQif h) :
    s.KeepsBut (r.each l fun q r => r.queueReset q true none).st p m h := by
  induction l generalizing r with
  | nil => exact H
  | cons q l ih =>
    refine ih ?_ (r.noCommands_deleted hr q) fun q' hq' => hp q' (List.mem_cons_of_mem _ hq')
    have hq := hp q List.mem_cons_self
    change s.KeepsBut (r.queueReset q true none).st p m h
    rw [r.queueReset_deletes hr]
    have hidx : ∀ k, queueKeys q k = true → p k = true := fun k hk => hq k (by rw [hk, Bool.true_or])
    have hstate : p (QIF_Q_STATUS_STATE q).key = true := hq _ (by rw [own_mem (by simp [queueFields]), Bool.or_true])
    exact (H.resetBegun q true hidx hstate hh).deletionEnds q hq hh

/-- The registers of a queue lie in its own 16 bytes. -/
theorem queue_key_bounds {q k : Nat} (hk : (queueKeys q k || own (queueFields q) k) = true) :
    (0x1501000 + 0x10 * q) * 8 ≤ k ∧ k < (0x1501010 + 0x10 * q) * 8 := by
  rw [Bool.or_eq_true, queueKeys_eq_true] at hk
  simp only [own, queueFields, List.any_cons, List.any_nil, Bool.or_false, Bool.or_eq_true, beq_iff_eq, QIF_Q_STATUS_STATE_key,
    QIF_Q_STATUS_CLASS_key, QIF_Q_STATUS_VECTOR_key] at hk
  omega

theorem span_qif_of_queue {q k : Nat} (hq : q < 64) (hk : (queueKeys q k || own (queueFields q) k) = true) :
    span 0x1500000 0x1520000 k = true := by
  obtain ⟨hlo, hhi⟩ := queue_key_bounds hk
  simp only [span, Bool.and_eq_true, decide_eq_true_eq]
  omega

/-- The queues that a QIF_DISABLE deletes: those ACTIVE or in error. -/
def Run.liveQueues (r : Run s₀) : List Nat := (List.range 64).filter fun q => r.queueState q == 1 || r.queueState q == 2

/-- The interface with EN and RDY at 0, before its queues are deleted. -/
def Run.disabled (r : Run s₀) : Run s₀ :=
  ((r.wr QIF_CTL_EN 0).wr QIF_STATUS_RDY 0).qif fun u => { u with resets := u.resets.map fun y => (y.1, true, none, y.2.2.2) }

theorem Run.qifDisable_of_enabled (r : Run s₀) (hen : r.rd QIF_CTL_EN ≠ 0) :
    r.qifDisable = (r.disabled.each r.disabled.liveQueues fun q r => r.queueReset q true none).wr QIF_STATUS_ADMIN_ERR 0 :=
  if_neg (by simpa [Run.on, Run.rd] using hen)

theorem Run.noCommands_disabled (r : Run s₀) (hr : r.noCommands) : r.disabled.noCommands := by
  obtain ⟨hcmds, hresets⟩ := hr
  exact ⟨hcmds, by simp [Run.disabled, hresets]⟩

theorem Run.state_disabled (r : Run s₀) (q : Nat) : r.disabled.rd (QIF_Q_STATUS_STATE q) = r.rd (QIF_Q_STATUS_STATE q) :=
  (Run.rd_wr_ne _ _ (by simp; omega)).trans (Run.rd_wr_ne _ _ (by simp; omega))

/-- The deletion of queues leaves every field of the interface that is no queue's. -/
theorem Run.rd_deletedEach (l : List Nat) (r : Run s₀) (hr : r.noCommands) {f : Fld} (hf : f.key < 0x1501000 * 8)
    (he : eventKey f.key = false) : (r.each l fun q r => r.queueReset q true none).rd f = r.rd f := by
  have hkeep : r.st.KeepsBut (r.each l fun q r => r.queueReset q true none).st (fun k => decide (0x1501000 * 8 ≤ k)) (fun _ => false)
      fun u => { u with qif := {} } := by
    refine State.KeepsBut.deletedEach l (State.KeepsBut.refl r.st) hr (fun q _ k hk => ?_) fun _ _ => rfl
    obtain ⟨hlo, -⟩ := queue_key_bounds hk
    rw [decide_eq_true_eq]
    omega
  obtain ⟨hregs, -⟩ := hkeep
  exact (hregs f (by simpa using hf) he).1

/-! ## The messages of vectors (R293, R300) -/

/-- A message leaves when its vector is not masked and requests may go out. -/
theorem Run.sendMsix_goes (r : Run s₀) {v : Nat} (hmask : r.rd (QIF_MSIX_MASK v) = 0) (hbus : r.u.glb.busMaster = true)
    (hd3 : r.u.glb.d3hot = false) : r.sendMsix v = r.emit (.msix v) := by
  change r.st.rd (QIF_MSIX_MASK v) = 0 at hmask
  simp [Run.sendMsix, Run.on, Run.mayRequest, hmask, hbus, hd3]

/-- A message of a masked vector, or while no request may go out, waits in the PBA. -/
theorem Run.sendMsix_waits (r : Run s₀) {v : Nat}
    (hwait : ¬ (r.rd (QIF_MSIX_MASK v) = 0 ∧ r.u.glb.busMaster = true ∧ r.u.glb.d3hot = false)) :
    r.sendMsix v = r.set QIF_PBA (2 ^ v) := by
  have hcond : (r.on (QIF_MSIX_MASK v) || !r.mayRequest) = true := by
    by_contra hnot
    simp only [Run.on, Run.mayRequest, Bool.or_eq_true, bne_iff_ne, Bool.not_eq_true', Bool.and_eq_false_iff, Bool.not_eq_false', not_or,
      not_not, Bool.not_eq_true, Bool.not_eq_false] at hnot
    exact hwait ⟨hnot.1, hnot.2⟩
  exact if_pos hcond

theorem Run.rd_sendMsix (r : Run s₀) (v : Nat) {f : Fld} (hf : f.key ≠ QIF_PBA.key) : (r.sendMsix v).rd f = r.rd f := by
  unfold Run.sendMsix
  split
  · exact Run.rd_wr_ne _ _ hf
  · rfl

theorem Run.u_sendMsix (r : Run s₀) (v : Nat) : (r.sendMsix v).u = r.u := by
  unfold Run.sendMsix
  split <;> rfl

/-- A bit that was cleared in a field reads 0. -/
theorem Run.bit_clear (r : Run s₀) (f : Fld) (v : Nat) : bit ((r.clear f (2 ^ v)).rd f) v = false := by
  rw [Run.clear, Run.rd_wr_same, bit_eq_testBit, Nat.testBit_mod_two_pow, ← bit_eq_testBit, Machine.bit_clear, Bool.and_false]

/-- An unmasking of a vector without a message that waits. -/
theorem Run.unmask_of_idle (r : Run s₀) {v : Nat} (hv : v < 64) (hpba : bit (r.rd QIF_PBA) v = false) :
    r.unmask v = r.wr (QIF_MSIX_MASK v) 0 := by
  have hsame : (r.wr (QIF_MSIX_MASK v) 0).rd QIF_PBA = r.rd QIF_PBA := Run.rd_wr_ne _ _ (by simp; omega)
  simp [Run.unmask, hsame, hpba]

/-- An unmasking of a vector whose message waits. -/
theorem Run.unmask_of_waiting (r : Run s₀) {v : Nat} (hv : v < 64) (hpba : bit (r.rd QIF_PBA) v = true) :
    r.unmask v = ((r.wr (QIF_MSIX_MASK v) 0).clear QIF_PBA (2 ^ v)).sendMsix v := by
  have hsame : (r.wr (QIF_MSIX_MASK v) 0).rd QIF_PBA = r.rd QIF_PBA := Run.rd_wr_ne _ _ (by simp; omega)
  simp [Run.unmask, hsame, hpba]

/-- Settles O18: a doorbell, an unmasking and a signal are each one change of a queue or of a message, and a reset without commands begins
and ends in one step; QIF_DISABLE is an induction over the queues it deletes. -/
theorem queueRegisters : Obligations.QueueRegisters := by
  refine ⟨?tailTaken, ?headTaken, ?ignored, ?whileResetting, ?enabled, ?enabledEarly, ?disabled, ?adminReset, ?timeout, ?unmasked⟩
  case tailTaken =>
    intro s q v hs hv
    have hrun : exec (.sqTail q v) s = .next ((Run.start s).writeSqTail q v).st := rfl
    rw [(Run.start s).writeSqTail_inside hs hv] at hrun
    exact ⟨_, hrun, Run.queue_queueMod_same _ _ _, fun k hk => Run.queue_queueMod_ne _ _ hk,
      (State.KeepsBut.start s).queueMod _ _ (fun _ hk => hk) fun _ _ => rfl⟩
  case headTaken =>
    intro s q v hs hv hheld
    have hrun : exec (.cqHead q v) s = .next ((Run.start s).writeCqHead q v).st := rfl
    rw [(Run.start s).writeCqHead_inside hs hv hheld] at hrun
    exact ⟨_, hrun, Run.queue_queueMod_same _ _ _, (State.KeepsBut.start s).queueMod _ _ (fun _ hk => hk) fun _ _ => rfl⟩
  case ignored =>
    intro s q v hs
    have htail : exec (.sqTail q v) s = .next ((Run.start s).writeSqTail q v).st := rfl
    rw [(Run.start s).writeSqTail_outside hs] at htail
    have hhead : exec (.cqHead q v) s = .next ((Run.start s).writeCqHead q v).st := rfl
    rw [(Run.start s).writeCqHead_outside hs] at hhead
    have hrd : ∀ (kind : Nat) (f : Fld), eventKey f.key = false →
        ((Run.start s).doorbellErr q kind).st.rd f = ((Run.start s).doorbellNoted q kind).rd f := fun kind f hf => Run.rd_doorbellErr _ _ _ hf
    refine ⟨⟨_, htail, ?_, ?_, Run.status_doorbellErr _ _ _, ?_, ?_, State.KeepsBut.doorbellErr _ _ _⟩,
      _, hhead, ?_, Run.status_doorbellErr _ _ _, State.KeepsBut.doorbellErr _ _ _⟩
    · rw [hrd _ _ (by decide), Run.qid_doorbellNoted _ _ q.isLt]
    · rw [hrd _ _ (by decide), Run.valid_doorbellNoted]
    · rw [hrd _ _ (by decide), Run.kind_doorbellNoted _ _ (by split <;> omega)]; rfl
    · rw [hrd _ _ (by decide), Run.count_doorbellNoted]; rfl
    · rw [hrd _ _ (by decide), Run.kind_doorbellNoted _ _ (by split <;> omega)]; rfl
  case whileResetting =>
    intro s q v hs
    have htail : exec (.sqTail q v) s = .next ((Run.start s).writeSqTail q v).st := rfl
    rw [(Run.start s).writeSqTail_resetting v hs] at htail
    have hhead : exec (.cqHead q v) s = .next ((Run.start s).writeCqHead q v).st := rfl
    rw [(Run.start s).writeCqHead_resetting v hs] at hhead
    exact ⟨_, htail, hhead, Run.qid_doorbellNoted _ _ q.isLt, Run.kind_doorbellNoted _ _ (by omega), Run.valid_doorbellNoted _ _ _,
      Run.count_doorbellNoted _ _ _, Run.out_doorbellNoted _ _ _, State.KeepsBut.doorbellNoted _ _ _⟩
  case enabled =>
    intro s hen hs hready hbus
    have hrun : exec .en s = .next (Run.start s).qifEnable.st := rfl
    rw [(Run.start s).qifEnable_ready hen hs hready hbus] at hrun
    have hqueue := (Run.start s).queue_queueNew 0 (s.rd QIF_ADMIN_DEPTH_DEPTH_M1 + 1) (s.rd QIF_ADMIN_SQ_BASE_ADDR / 4096 * 4096)
      (s.rd QIF_ADMIN_CQ_BASE_ADDR / 4096 * 4096) 0 0 0 0
    refine ⟨_, hrun, (Run.rd_wr_ne _ _ (by decide)).trans (Run.rd_wr_same _ _ _), Run.rd_wr_same _ _ _,
      (Run.rd_wr_ne _ _ (by decide)).trans ((Run.rd_wr_ne _ _ (by decide)).trans (Run.state_queueNew ..)),
      congrArg QueueU.depth hqueue, congrArg QueueU.tail hqueue, congrArg QueueU.phase hqueue, ?_⟩
    refine State.KeepsBut.wr (State.KeepsBut.wr (State.KeepsBut.queueNew (State.KeepsBut.start s) _ _ _ _ _ _ _ _ (fun k hk => ?_) fun _ _ => rfl) _ _
      (.inl (by decide))) _ _ (.inl (by decide))
    simp only [Bool.or_eq_true] at hk ⊢
    refine hk.imp_right fun hown => ?_
    simp only [own, queueFields, List.any_cons, Bool.or_eq_true] at hown ⊢
    exact .inr (.inr hown)
  case enabledEarly =>
    intro s hen hs hearly
    have hrun : exec .en s = .next (Run.start s).ignored.st :=
      congrArg (fun r : Run s => Host.Outcome.next r.st) ((Run.start s).qifEnable_early hen hs hearly)
    exact ⟨_, hrun, Run.status_ev _ (by omega) (by decide), (State.KeepsBut.start s).ignored⟩
  case disabled =>
    intro s hen hcmds hresets
    have hrun : exec .qifDisable s = .next (Run.start s).qifDisable.st := rfl
    rw [(Run.start s).qifDisable_of_enabled hen] at hrun
    have hnone := Run.noCommands_disabled (Run.start s) ⟨hcmds, hresets⟩
    refine ⟨_, hrun, ?_, ?_, Run.rd_wr_same _ _ _, fun q hq hlive => ?_, ?_⟩
    · refine (Run.rd_wr_ne _ _ (by decide)).trans ((Run.rd_deletedEach _ _ hnone (by decide) (by decide)).trans ?_)
      exact (Run.rd_wr_ne _ _ (by decide)).trans (Run.rd_wr_same _ _ _)
    · refine (Run.rd_wr_ne _ _ (by decide)).trans ((Run.rd_deletedEach _ _ hnone (by decide) (by decide)).trans ?_)
      exact Run.rd_wr_same _ _ _
    · have hmem : q ∈ (Run.start s).disabled.liveQueues := by
        simp only [Run.liveQueues, Run.queueState, Run.state_disabled, List.mem_filter, List.mem_range, Bool.or_eq_true, beq_iff_eq]
        exact ⟨hq, hlive⟩
      exact (Run.rd_wr_ne _ _ (by simp; omega)).trans (Run.state_deletedEach _ _ hnone (.inl hmem))
    · refine State.KeepsBut.wr (State.KeepsBut.deletedEach _ (State.KeepsBut.qif (State.KeepsBut.wr ((State.KeepsBut.start s).wr _ _
        (.inl (by decide))) _ _ (.inl (by decide))) _ fun _ _ => rfl) hnone (fun q hq k hk => ?_) fun _ _ => rfl) _ _ (.inl (by decide))
      exact span_qif_of_queue (List.mem_range.mp (List.mem_filter.mp hq).1) hk
  case adminReset =>
    intro s hen hs hcmds hresets
    have hreset : (Run.start s).adminReset = (Run.start s).queueReset 0 false none := by
      rw [Run.adminReset, if_neg]
      simp only [Run.on, Run.queueState, Run.st_start, Run.rd_start, Bool.or_eq_true, Bool.not_eq_true', bne_eq_false_iff_eq, beq_iff_eq]
      exact not_or.mpr ⟨hen, hs⟩
    have hrun : exec .adminReset s = .next (Run.start s).adminReset.st := rfl
    rw [hreset, (Run.start s).queueReset_admin ⟨hcmds, hresets⟩] at hrun
    have hqueue := (Run.start s).queue_resetEnds_resetBegun 0 false
    refine ⟨_, hrun, (Run.rd_wr_ne _ _ (by decide)).trans (Run.rd_wr_same _ _ _), Run.rd_wr_same _ _ _,
      ⟨congrArg QueueU.tail hqueue, congrArg QueueU.head hqueue, congrArg QueueU.cqTail hqueue, congrArg QueueU.cqHead hqueue,
        congrArg QueueU.phase hqueue, (congrArg QueueU.depth hqueue :)⟩, ?_⟩
    have hidx : ∀ k, queueKeys 0 k = true → (queueKeys 0 k || own [QIF_Q_STATUS_STATE 0, QIF_STATUS_ADMIN_ERR] k) = true :=
      fun k hk => by rw [hk, Bool.true_or]
    exact State.KeepsBut.wr (((State.KeepsBut.start s).resetBegun 0 false hidx (by decide) fun _ _ => rfl).resetEnds 0 hidx (by decide)
      fun _ _ => rfl) _ _ (.inl (by decide))
  case timeout =>
    intro s q v hunsent hv
    have hrun : exec (.coalesceTimeout q) s = .next (((Run.start s).queueMod q fun x => { x with unsent := 0 }).sendMsix v).st := by
      rw [← hv]
      exact congrArg (fun r : Run s => Host.Outcome.next r.st) (if_neg hunsent)
    have hmask : ((Run.start s).queueMod q fun x => { x with unsent := 0 }).rd (QIF_MSIX_MASK v) = s.rd (QIF_MSIX_MASK v) :=
      Run.rd_queueMod _ _ _ (by rw [queueKeys_eq_true]; simp; omega)
    have hpba : ((Run.start s).queueMod q fun x => { x with unsent := 0 }).rd QIF_PBA = s.rd QIF_PBA :=
      Run.rd_queueMod _ _ _ (by rw [queueKeys_eq_true]; simp; omega)
    refine ⟨_, hrun, ?_, ?_, ((State.KeepsBut.start s).queueMod _ _ (fun _ hk => hk) fun _ _ => rfl).sendMsix v⟩
    · have hqueue := (Run.start s).queue_queueMod_same q fun x => { x with unsent := 0 }
      rw [Run.queue, ← Run.u_sendMsix _ v] at hqueue
      exact congrArg QueueU.unsent hqueue
    · split_ifs with hgo
      · obtain ⟨hunmasked, hbus, hd3⟩ := hgo
        rw [Run.sendMsix_goes _ (hmask.trans hunmasked) hbus hd3]
        rfl
      · rw [Run.sendMsix_waits _ (by rwa [hmask]), Run.rd_st, Run.set, Run.rd_wr_same, hpba]
        rfl
  case unmasked =>
    intro s v
    have hrun : exec (.msixUnmask v) s = .next ((Run.start s).unmask v).st := rfl
    have hmask : ((Run.start s).wr (QIF_MSIX_MASK v) 0).rd (QIF_MSIX_MASK v) = 0 := Run.rd_wr_same _ _ _
    have hkeep : s.Keeps ((Run.start s).wr (QIF_MSIX_MASK v) 0).st (own [QIF_MSIX_MASK v]) id :=
      (State.KeepsBut.start s).wr _ _ (.inl (own_mem (by simp)))
    cases hwaits : bit (s.rd QIF_PBA) v with
    | false =>
      rw [(Run.start s).unmask_of_idle v.isLt hwaits] at hrun
      exact ⟨_, hrun, hmask, fun hset => absurd hset (by simp), fun _ => rfl, hkeep⟩
    | true =>
      rw [(Run.start s).unmask_of_waiting v.isLt hwaits] at hrun
      have hcleared : (((Run.start s).wr (QIF_MSIX_MASK v) 0).clear QIF_PBA (2 ^ v.val)).rd (QIF_MSIX_MASK v) = 0 :=
        (Run.rd_clear_ne _ _ (by simp; omega)).trans hmask
      refine ⟨_, hrun, (Run.rd_sendMsix _ _ (by simp; omega)).trans hcleared, fun _ hbus hd3 => ?_, fun hset => absurd hset (by simp),
        (hkeep.clear _ _ (.inr (by decide))).sendMsix _⟩
      rw [Run.sendMsix_goes _ hcleared hbus hd3]
      exact ⟨rfl, Run.bit_clear _ _ _⟩

end Sys2Proof.Machine
end

section
/-!
A statement of the fetching of commands that a concrete state refutes.
-/
namespace Sys2Proof.Machine

/-! ## A read of entries for a queue beyond the queues (R304) -/

/-- A device that awaits entries of queue 8192, while event 402 is enabled and routed to vector 0, which is masked as after reset. No
command leads there: the fetcher chooses among queues 0 to 63 (`Run.nextQueue`). -/
def fetchingBeyondQueues : State :=
  ((State.reset.wr (EVT_ENABLE (402 / 32)) (2 ^ (402 % 32))).wr (EVT_ROUTE_MSIX 402) 1).modify fun u =>
    { u with qif := { u.qif with reading := some (8192, 0, 1, true) } }

theorem fetchingBeyondQueues_fails : ∃ r : Run fetchingBeyondQueues,
    exec (.entriesFetched none) fetchingBeyondQueues = .next r.st ∧ r.rd (QIF_Q_STATUS_STATE 8192) = 3 :=
  ⟨_, rfl, by decide +kernel⟩

/-- Refutes O19: its fifth clause holds for every queue number, but the word where QIF_Q_STATUS of queue 8192 would stand is the low one
of QIF_PBA, where the masked message of event 402 waits (R300). In `fetchingBeyondQueues` STATE of queue 8192 therefore reads 3 after the
failed read, where the clause says 2. The clause lacks the premise that the queue number is at most 63. -/
theorem not_commandFetch : ¬ Obligations.CommandFetch := by
  rintro ⟨-, -, -, -, readFails, -⟩
  obtain ⟨t, ht, -, hstate, -⟩ := readFails fetchingBeyondQueues 8192 0 1 rfl
  obtain ⟨r, hex, hpba⟩ := fetchingBeyondQueues_fails
  rw [eq_st_of_exec hex ht] at hstate
  exact absurd (hpba.symm.trans hstate) (by decide)

end Sys2Proof.Machine
end

section
/-!
PROOFS. O1, O3, O4, O7 and O9: a step runs the front command, the state after reset, and what every command keeps.
-/
namespace Sys2Proof.Machine

/-- A next state that a command answers is the state of a run from the one it was given: the two accesses of BAR0 test their alignment,
and every other arm of `exec` is a `done`. -/
theorem exec_run {c : Instr} {s t : State} (h : exec c s = .next t) : ∃ r : Run s, exec c s = .next r.st := by
  cases c with
  | registerWrite off wide v =>
    by_cases ha : off % (if wide then 8 else 4) = 0
    · exact ⟨_, exec_registerWrite_aligned v s ha⟩
    · exact absurd ((exec_misaligned v s ha).1.symm.trans h) nofun
  | registerRead off wide =>
    by_cases ha : off % (if wide then 8 else 4) = 0
    · exact ⟨Run.emit _ _, exec_registerRead_aligned s ha⟩
    · exact absurd ((exec_misaligned 0 s ha).2.symm.trans h) nofun
  | _ => exact ⟨_, rfl⟩

/-- What a command answers comes from the state it was given by primitives alone. -/
theorem exec_reach {c : Instr} {s t : State} (h : exec c s = .next t) : Reach s t := by
  obtain ⟨r, hr⟩ := exec_run h
  exact eq_st_of_exec hr h ▸ r.ok

/-- Settles O1: it is how `step` treats a queue that is not empty. -/
theorem stepRunsFrontCommand : Obligations.StepRunsFrontCommand := fun _ _ _ => rfl

/-- Settles O3: right after reset every table is empty. -/
theorem resetKeepsForm : Obligations.ResetKeepsForm := ⟨rfl, rfl, rfl⟩

/-- Settles O9: right after reset every table is empty, so every field reads its descriptor's reset value. -/
theorem resetValues : Obligations.ResetValues := ⟨fun _ => ⟨rfl, rfl⟩, rfl, rfl, rfl, rfl, rfl, rfl, rfl⟩

/-- Settles O4: an idle cycle and every command go by primitives, and each primitive keeps the form (`Reach.inv`). -/
theorem stepKeepsForm : Obligations.StepKeepsForm := by
  intro s t hs h
  unfold step at h
  split at h
  · exact (done_reach h).inv hs
  · next c rest _ => exact (exec_reach (s := { s with pending := rest }) h).inv hs

/-- Settles O7: no primitive touches the queue, and each only adds to the cycle, to the free values drawn or to what has left. -/
theorem commandsOnlyAppend : Obligations.CommandsOnlyAppend := fun _ _ _ h =>
  ⟨(exec_reach h).pending, (exec_reach h).now_le, (exec_reach h).fresh_le, (exec_reach h).out_suffix⟩

end Sys2Proof.Machine
end

section
/-!
Three statements about DMA, time and audio that a concrete state refutes: each compares a unit's table once one key is dropped, for every
state.
-/
namespace Sys2Proof.Machine

/-! ## Time bases that are out of order -/

/-- A device whose table of the time bases lists base 3 before base 2. No command leads there: the keys of a table rise. -/
def unsortedBases : State := State.reset.modify fun u => { u with tim := { u.tim with tb := [(3, {}), (2, {})] } }

/-- Refutes O42: its clause on GENLOCK_EDGE holds for every state, and compares the tables of the bases once base 2 is dropped. In
`unsortedBases` the edge enters base 2 anew, before base 3, and a drop removes the first entry only: the old entry of base 2, which the
clause drops from the table before, is still in the table after. The clause lacks the premise that the keys of the bases rise. -/
theorem not_timeSelection : ¬ Obligations.TimeSelection := by
  rintro ⟨-, -, -, -, -, -, -, -, -, -, edge, -⟩
  obtain ⟨t, ht, -, -, -, -, -, -, -, -, -, hunits⟩ := edge unsortedBases _ _ rfl rfl
  obtain ⟨r, hr, hbases⟩ : ∃ r : Run unsortedBases,
      exec .genlockEdge unsortedBases = .next r.st ∧ r.u.tim.tb.drop 2 ≠ unsortedBases.u.tim.tb.drop 2 :=
    ⟨_, rfl, by decide +kernel⟩
  rw [eq_st_of_exec hr ht] at hunits
  exact hbases (congrArg (fun u : Units => u.tim.tb) hunits)

/-! ## Audio ports that are out of order -/

/-- A device whose audio port 0 is in CLOCKING, while the table of the ports lists port 1 before port 0. No command leads there: the keys
of a table rise. -/
def unsortedPorts : State :=
  (State.reset.wr (AUD_STATUS_STATE 0) 1).modify fun u => { u with tim := { u.tim with au := [(1, {}), (0, {})] } }

/-- Refutes O43: its clause on AUD_STOP of a clocking port holds for every state, and compares the tables of the ports once the port is
dropped. In `unsortedPorts` the stop enters port 0 anew, before port 1, and a drop removes the first entry only: the old entry of port 0,
which the clause drops from the table before, is still in the table after. The clause lacks the premise that the keys of the ports
rise. -/
theorem not_audioPorts : ¬ Obligations.AudioPorts := by
  rintro ⟨-, -, -, stop, -⟩
  obtain ⟨t, ht, -, -, -, -, -, -, -, -, hunits⟩ := stop unsortedPorts 0 (.inl rfl)
  obtain ⟨r, hr, hports⟩ : ∃ r : Run unsortedPorts,
      exec (.audStop 0) unsortedPorts = .next r.st ∧ r.u.tim.au.drop 0 ≠ unsortedPorts.u.tim.au.drop 0 :=
    ⟨_, rfl, by decide +kernel⟩
  rw [eq_st_of_exec hr ht] at hunits
  exact hports (congrArg (fun u : Units => u.tim.au) hunits)

/-! ## DMA channels that are out of order -/

/-- A MOVE in flight of one byte from SRAM address 0 to 64. -/
def oneByteMove : DmaMove := ⟨0, 1, 1, 0, 64, 1, [1#8]⟩

/-- A device whose DMA channel 0 has a MOVE in flight, while the table of the channels lists channel 1 before channel 0. No command leads
there: the keys of a table rise. -/
def unsortedChannels : State :=
  State.reset.modify fun u => { u with dma := { u.dma with ch := [(1, {}), (0, { flight := [oneByteMove] })] } }

/-- Refutes O41: its clause on MOVE_DONE holds for every state, and compares the tables of the channels once the channel is dropped. In
`unsortedChannels` the MOVE's end enters channel 0 anew, before channel 1, and a drop removes the first entry only: the old entry of
channel 0, which the clause drops from the table before, is still in the table after. The clause lacks the premise that the keys of the
channels rise. -/
theorem not_dmaPrograms : ¬ Obligations.DmaPrograms := by
  rintro ⟨-, -, -, -, -, -, -, -, moved, -⟩
  obtain ⟨t, ht, -, -, -, -, -, -, -, -, -, -, hunits⟩ :=
    moved unsortedChannels 0 0 none oneByteMove [1#8] _ rfl rfl (by decide) rfl (by decide) (fun _ => rfl)
  obtain ⟨r, hr, hchannels⟩ : ∃ r : Run unsortedChannels,
      exec (.moveDone 0 0 none) unsortedChannels = .next r.st ∧ r.u.dma.ch.drop 0 ≠ unsortedChannels.u.dma.ch.drop 0 :=
    ⟨_, rfl, by decide +kernel⟩
  rw [eq_st_of_exec hr ht] at hunits
  exact hchannels (congrArg (fun u : Units => u.dma.ch) hunits)

end Sys2Proof.Machine
end

section
/-!
PROOFS. O39: the time bases' increments, steps, compensation and servo, the loss of a source and the retirement of a base (R364 to R368,
R374, R394).
-/
namespace Sys2Proof.Machine
variable {s₀ s t : State} {p m : Nat → Bool} {h : Units → Units}

/-! ## Keys of the bases' registers -/

@[simp] theorem TIM_TB_CTL_STATE_key (n : Nat) : (TIM_TB_CTL_STATE n).key = (0x400000 + 0x40 * n) * 8 + 4 := rfl
@[simp] theorem TIM_TB_CTL_COMP_EN_key (n : Nat) : (TIM_TB_CTL_COMP_EN n).key = (0x400000 + 0x40 * n) * 8 + 1 := rfl
@[simp] theorem TIM_TB_CTL_SERVO_EN_key (n : Nat) : (TIM_TB_CTL_SERVO_EN n).key = (0x400000 + 0x40 * n) * 8 := rfl
@[simp] theorem TIM_TB_INCR_INCR_key (n : Nat) : (TIM_TB_INCR_INCR n).key = (0x400004 + 0x40 * n) * 8 := rfl
@[simp] theorem TIM_TB_OFFSET_key (n : Nat) : (TIM_TB_OFFSET n).key = (0x400020 + 0x40 * n) * 8 := rfl
@[simp] theorem TIM_TB_EFF_INCR_key (n : Nat) : (TIM_TB_EFF_INCR n).key = (0x400024 + 0x40 * n) * 8 := rfl
@[simp] theorem TIM_COMP_STATUS_COMP_HELD_key : TIM_COMP_STATUS_COMP_HELD.key = 0x400204 * 8 + 16 := rfl

/-- The registers of the time bases and of TSEL are none of those that an event or a retirement changes. -/
theorem eventKey_time {k : Nat} (hlo : 0x400000 * 8 ≤ k) (hhi : k < 0x500000 * 8) : eventKey k = false ∧ retireKey k = false := by
  have hp : QIF_PBA.key = 0x1521000 * 8 := rfl
  have ht : MON_STATUS_TRACE.key = 0x1B00004 * 8 + 7 := rfl
  have hg : GLB_SMB_STATUS_PENDING.key = 0x1C00 * 8 := rfl
  have hr : THM_RETIRED.key = 0x300200 * 8 := rfl
  simp only [eventKey, retireKey, span, hp, ht, hg, hr, Bool.or_eq_false_iff, Bool.and_eq_false_iff, decide_eq_false_iff_not, beq_eq_false_iff_ne]
  omega

/-- The registers that show which base TSEL follows, and Δ. -/
def tselFields : List Fld := [TIM_TSEL_STATUS_SRC_USED, TIM_TSEL_STATUS_ESTABLISHED, TIM_TSEL_STATUS_SLEWING, TIM_TSEL_DELTA]

/-- The registers of base n show nothing of TSEL. -/
theorem own_tselFields_base {k : Nat} (hk : k < 0x400100 * 8) : own tselFields k = false := by
  have h1 : TIM_TSEL_STATUS_SRC_USED.key = 0x400104 * 8 := rfl
  have h2 : TIM_TSEL_STATUS_ESTABLISHED.key = 0x400104 * 8 + 5 := rfl
  have h3 : TIM_TSEL_STATUS_SLEWING.key = 0x400104 * 8 + 4 := rfl
  have h4 : TIM_TSEL_DELTA.key = 0x400108 * 8 := rfl
  simp only [own, tselFields, List.any_cons, List.any_nil, h1, h2, h3, h4, Bool.or_eq_false_iff, beq_eq_false_iff_ne, and_true]
  omega

/-- A field that a state keeps reads as before. -/
theorem State.KeepsBut.rd_eq (H : s.KeepsBut t p m h) {f : Fld} (hp : p f.key = false) (he : eventKey f.key = false) : t.rd f = s.rd f :=
  (H.1 f hp he).1

/-- A command that is a run answers what an equal run answers. -/
theorem next_congr {r q : Run s} (hrq : r = q) : (.next r.st : Host.Outcome State Fault Refusal) = .next q.st := hrq ▸ rfl

/-! ## What the operations on bases and TSEL keep -/

/-- What forgets the counts of the bases and Δ. -/
def forgetsTime (h : Units → Units) : Prop :=
  ∀ (u : Units) (x : Tab Tb) (d : Int), h { u with tim := { u.tim with tb := x, delta := d } }.quiet = h u.quiet

/-- The units without the counts of the bases and Δ. -/
def Units.noTime (u : Units) : Units := { u with tim := { u.tim with tb := [], delta := 0 } }

theorem forgetsTime_noTime : forgetsTime Units.noTime := fun _ _ _ => rfl

theorem State.KeepsBut.tbMod {r : Run s₀} (H : s.KeepsBut r.st p m h) (n : Nat) (f : Tb → Tb) (hh : forgetsTime h) :
    s.KeepsBut (r.tbMod n f).st p m h := H.tim _ fun u => hh u _ u.tim.delta

theorem State.KeepsBut.setDelta {r : Run s₀} (H : s.KeepsBut r.st p m h) (d : Int) (hh : forgetsTime h) (hd : p TIM_TSEL_DELTA.key = true)
    (hs : p TIM_TSEL_STATUS_SLEWING.key = true) : s.KeepsBut (r.setDelta d).st p m h :=
  (((H.tim _ fun u => hh u u.tim.tb d).wrS _ _ (.inl hd)).wr _ _ (.inl hs))

theorem State.KeepsBut.stepBase {r : Run s₀} (H : s.KeepsBut r.st p m h) (n : Nat) (v : Int) (hh : forgetsTime h)
    (hd : p TIM_TSEL_DELTA.key = true) (hs : p TIM_TSEL_STATUS_SLEWING.key = true) : s.KeepsBut (r.stepBase n v).st p m h := by
  have hbase := H.tbMod n (fun b => { b with t := ((b.t : Int) + v).toNat }) hh
  unfold Run.stepBase
  dsimp only
  split
  · exact hbase.setDelta _ hh hd hs
  · exact hbase

theorem State.KeepsBut.switchTsel {r : Run s₀} (H : s.KeepsBut r.st p m h) (b : Nat) (hh : forgetsTime h)
    (hp : ∀ f ∈ tselFields, p f.key = true) : s.KeepsBut (r.switchTsel b).st p m h := by
  have hsrc := H.wr TIM_TSEL_STATUS_SRC_USED b (.inl (hp _ (by decide)))
  have hdelta (d : Int) := hsrc.setDelta d hh (hp _ (by decide)) (hp _ (by decide))
  unfold Run.switchTsel
  dsimp only
  split
  · exact H
  · refine State.KeepsBut.ev (State.KeepsBut.when ?_ _ fun _ => State.KeepsBut.wr ?_ _ _ (.inl (hp _ (by decide)))) (by omega)
    all_goals
      split
      · exact hdelta _
      · exact hdelta _

/-- The first half of a base's change of state: its register, its counters and its event. -/
def Run.baseEnters (r : Run s₀) (n st : Nat) : Run s₀ :=
  ((r.wr (TIM_TB_CTL_STATE n) st).tbMod n fun b => { b with good := 0, far := 0 }).ev (464 + n)

/-- The second half of a base's change of state: TSEL is established, or leaves the base (R374, R376). -/
def Run.tselFollows (r : Run s₀) (n old st : Nat) : Run s₀ :=
  let mine := r.rd TIM_TSEL_STATUS_SRC_USED == n
  let r := r.when (mine && st == 2) Run.establish
  let alt := r.rd TIM_TSEL_CTL_ALT
  r.when (mine && old == 2 && r.on TIM_TSEL_CTL_AUTO && alt != n && r.rd (TIM_TB_CTL_STATE alt) == 2) fun r => r.switchTsel alt

theorem Run.setBaseState_ne (r : Run s₀) {n st : Nat} (hst : r.rd (TIM_TB_CTL_STATE n) ≠ st) :
    r.setBaseState n st = (r.baseEnters n st).tselFollows n (r.rd (TIM_TB_CTL_STATE n)) st := if_neg hst

theorem Run.setBaseState_same (r : Run s₀) {n st : Nat} (hst : r.rd (TIM_TB_CTL_STATE n) = st) : r.setBaseState n st = r := if_pos hst

theorem State.KeepsBut.tselFollows {r : Run s₀} (H : s.KeepsBut r.st p m h) (n old st : Nat) (hh : forgetsTime h)
    (hp : ∀ f ∈ tselFields, p f.key = true) : s.KeepsBut (r.tselFollows n old st).st p m h := by
  have hest := H.when (r.rd TIM_TSEL_STATUS_SRC_USED == n && st == 2) (f := Run.establish) fun _ => H.wr _ _ (.inl (hp _ (by decide)))
  exact hest.when _ fun _ => hest.switchTsel _ hh hp

theorem State.KeepsBut.setBaseState {r : Run s₀} (H : s.KeepsBut r.st p m h) {n : Nat} (hn : n < 4) (st : Nat) (hh : forgetsTime h)
    (hst : p (TIM_TB_CTL_STATE n).key = true) (hp : ∀ f ∈ tselFields, p f.key = true) : s.KeepsBut (r.setBaseState n st).st p m h := by
  by_cases hold : r.rd (TIM_TB_CTL_STATE n) = st
  · rwa [r.setBaseState_same hold]
  · rw [r.setBaseState_ne hold]
    exact (((H.wr _ _ (.inl hst)).tbMod n _ hh).ev (by omega)).tselFollows n _ st hh hp

theorem State.KeepsBut.updateEff {r : Run s₀} (H : s.KeepsBut r.st p m h) (n : Nat) (hp : p (TIM_TB_EFF_INCR n).key = true) :
    s.KeepsBut (r.updateEff n).st p m h := H.wr _ _ (.inl hp)

/-! ## Reads after the operations on bases and TSEL -/

theorem Run.src_setDelta (r : Run s₀) (d : Int) : (r.setDelta d).rd TIM_TSEL_STATUS_SRC_USED = r.rd TIM_TSEL_STATUS_SRC_USED :=
  (Run.rd_wr_ne _ _ (by decide)).trans (Run.rd_wr_ne _ _ (by decide))

theorem Run.src_switchTsel (r : Run s₀) {b : Nat} (hb : b < 4) : (r.switchTsel b).rd TIM_TSEL_STATUS_SRC_USED = b := by
  have hsrc : (r.wr TIM_TSEL_STATUS_SRC_USED b).rd TIM_TSEL_STATUS_SRC_USED = b := (Run.rd_wr_same _ _ _).trans (Nat.mod_eq_of_lt hb)
  unfold Run.switchTsel
  dsimp only
  split
  · assumption
  · refine (Run.rd_ev _ (by omega) (by decide)).trans ((Run.rd_when _ _ (Run.rd_wr_ne _ _ (by decide))).trans ?_)
    split
    · exact (Run.src_setDelta _ _).trans hsrc
    · exact (Run.src_setDelta _ _).trans hsrc

theorem Run.u_when_establish (r : Run s₀) (c : Bool) : (r.when c Run.establish).u = r.u := by cases c <;> rfl

theorem Run.tb_switchTsel (r : Run s₀) (b : Nat) : (r.switchTsel b).u.tim.tb = r.u.tim.tb := by
  have hev (q : Run s₀) : (q.ev 468).u.tim = q.u.tim := congrArg (fun u => u.tim) (q.quiet_ev (by omega))
  unfold Run.switchTsel
  dsimp only
  split
  · rfl
  · rw [hev, Run.u_when_establish]
    split <;> rfl

theorem Run.seen_setDelta (r : Run s₀) (d : Int) {x : Nat} (hx : x < 512) : (r.setDelta d).st.seen x = r.st.seen x :=
  (Run.seen_wr _ _ _ (by decide) hx).trans (Run.seen_wr _ _ _ (by decide) hx)

theorem Run.seen_when (r : Run s₀) (c : Bool) {f : Run s₀ → Run s₀} {x : Nat} (hr : r.st.seen x = true) (hf : (f r).st.seen x = true) :
    (r.when c f).st.seen x = true := by
  cases c
  · exact hr
  · exact hf

theorem Run.seen_when_establish (r : Run s₀) (c : Bool) {x : Nat} (hx : x < 512) (h : r.st.seen x = true) :
    (r.when c Run.establish).st.seen x = true := r.seen_when c h ((Run.seen_wr _ _ _ (by decide) hx).trans h)

/-- An event that was seen stays so over a switch of TSEL. -/
theorem Run.seen_switchTsel (r : Run s₀) (b : Nat) {x : Nat} (hx : x < 512) (h : r.st.seen x = true) : (r.switchTsel b).st.seen x = true := by
  have hsrc : (r.wr TIM_TSEL_STATUS_SRC_USED b).st.seen x = true := (Run.seen_wr _ _ _ (by decide) hx).trans h
  unfold Run.switchTsel
  dsimp only
  split
  · exact h
  · refine Run.seen_ev _ (by omega) hx (.inr (Run.seen_when_establish _ _ hx ?_))
    split
    · exact (Run.seen_setDelta _ _ hx).trans hsrc
    · exact (Run.seen_setDelta _ _ hx).trans hsrc

theorem Run.keeps_tselFollows (r : Run s₀) (n old st : Nat) :
    r.st.KeepsBut (r.tselFollows n old st).st (own tselFields) (fun _ => false) Units.noTime :=
  (State.KeepsBut.refl r.st).tselFollows n old st forgetsTime_noTime fun _ hf => own_mem hf

theorem Run.state_setBaseState (r : Run s₀) {n st : Nat} (hn : n < 4) (hst : st < 4) : (r.setBaseState n st).rd (TIM_TB_CTL_STATE n) = st := by
  by_cases hold : r.rd (TIM_TB_CTL_STATE n) = st
  · rwa [r.setBaseState_same hold]
  · have hkey : (TIM_TB_CTL_STATE n).key < 0x400100 * 8 := by simp; omega
    rw [r.setBaseState_ne hold]
    have hfollows : ((r.baseEnters n st).tselFollows n (r.rd (TIM_TB_CTL_STATE n)) st).rd (TIM_TB_CTL_STATE n)
        = (r.baseEnters n st).rd (TIM_TB_CTL_STATE n) :=
      (Run.keeps_tselFollows _ _ _ _).rd_eq (own_tselFields_base hkey) (eventKey_time (by simp; omega) (by omega)).1
    exact hfollows.trans ((Run.rd_ev _ (by omega) (eventKey_time (by simp; omega) (by omega)).1).trans
      ((Run.rd_wr_same r _ _).trans (Nat.mod_eq_of_lt hst)))

theorem Run.seen_tselFollows (r : Run s₀) (n old st : Nat) {x : Nat} (hx : x < 512) (h : r.st.seen x = true) :
    (r.tselFollows n old st).st.seen x = true := by
  have hest := r.seen_when_establish (r.rd TIM_TSEL_STATUS_SRC_USED == n && st == 2) hx h
  exact Run.seen_when _ _ hest (Run.seen_switchTsel _ _ hx hest)

/-- A change of a base's state raises its event. -/
theorem Run.seen_setBaseState (r : Run s₀) {n st : Nat} (hn : n < 4) (hold : r.rd (TIM_TB_CTL_STATE n) ≠ st) :
    (r.setBaseState n st).st.seen (464 + n) = true := by
  rw [r.setBaseState_ne hold]
  exact Run.seen_tselFollows _ _ _ _ (by omega) (Run.seen_ev _ (by omega) (by omega) (.inl rfl))

theorem Run.tb_tselFollows (r : Run s₀) (n old st : Nat) : (r.tselFollows n old st).u.tim.tb = r.u.tim.tb := by
  have hest (c : Bool) := congrArg (fun u : Units => u.tim.tb) (r.u_when_establish c)
  unfold Run.tselFollows
  dsimp only
  generalize (_ && _ && _ && _ && _) = c
  cases c
  · exact hest _
  · exact (Run.tb_switchTsel _ _).trans (hest _)

/-- A change of a base's state leaves whether its source is present. -/
theorem Run.present_setBaseState (r : Run s₀) {n : Nat} (hn : n < 4) (st : Nat) :
    ((r.setBaseState n st).st.base n).present = (r.st.base n).present := by
  by_cases hold : r.rd (TIM_TB_CTL_STATE n) = st
  · rw [r.setBaseState_same hold]
  · rw [r.setBaseState_ne hold]
    have htb : ((r.baseEnters n st).tselFollows n (r.rd (TIM_TB_CTL_STATE n)) st).u.tim.tb
        = ((r.wr (TIM_TB_CTL_STATE n) st).tbMod n fun b => { b with good := 0, far := 0 }).u.tim.tb :=
      (Run.tb_tselFollows _ _ _ _).trans (congrArg (fun u => u.tim.tb) (Run.quiet_ev _ (by omega)))
    have hentered := congrArg Tb.present (Run.base_tbMod_same (r.wr (TIM_TB_CTL_STATE n) st) n fun b => { b with good := 0, far := 0 })
    exact (congrArg (fun l : Tab Tb => (l.look n {}).present) htb).trans hentered

/-- TSEL stays with the base it follows when another base changes its state. -/
theorem Run.src_setBaseState_of_ne (r : Run s₀) {n : Nat} (hn : n < 4) (st : Nat) (hsrc : r.rd TIM_TSEL_STATUS_SRC_USED ≠ n) :
    (r.setBaseState n st).rd TIM_TSEL_STATUS_SRC_USED = r.rd TIM_TSEL_STATUS_SRC_USED := by
  by_cases hold : r.rd (TIM_TB_CTL_STATE n) = st
  · rw [r.setBaseState_same hold]
  · have hkey : TIM_TSEL_STATUS_SRC_USED.key = 0x400104 * 8 := rfl
    have henters : (r.baseEnters n st).rd TIM_TSEL_STATUS_SRC_USED = r.rd TIM_TSEL_STATUS_SRC_USED :=
      (Run.rd_ev _ (by omega) (by decide)).trans (Run.rd_wr_ne r _ (by simp [hkey]; omega))
    rw [r.setBaseState_ne hold]
    simp only [Run.tselFollows, henters, beq_eq_false_iff_ne.mpr hsrc, Bool.false_and, Run.when_false]

/-! ## INCR and STEP (R365) -/

theorem Run.writeIncr_of_valid (r : Run s₀) {n v : Nat} (hlo : 0x03800000 ≤ v) (hhi : v ≤ 0x04800000) (hen : r.rd (TIM_TB_CTL_SERVO_EN n) = 0) :
    r.writeIncr n v = (r.wr (TIM_TB_INCR_INCR n) v).updateEff n :=
  if_neg (by simp only [Run.on, Run.rd_st, hen]; simp; omega)

theorem Run.writeIncr_of_invalid (r : Run s₀) {n v : Nat} (hv : v < 0x03800000 ∨ 0x04800000 < v ∨ r.rd (TIM_TB_CTL_SERVO_EN n) ≠ 0) :
    r.writeIncr n v = r.ignored := if_pos (by simpa [Run.on, Run.rd_st] using hv)

theorem Run.effIncr_of_plain (r : Run s₀) {n : Nat} (hc : r.rd (TIM_TB_CTL_COMP_EN n) = 0) : r.effIncr n = r.rd (TIM_TB_INCR_INCR n) := by
  simp [Run.effIncr, Run.on, Run.rd_st, hc]

theorem Run.writeStep_of_valid (r : Run s₀) {n v : Nat} (hen : r.rd (TIM_TB_CTL_SERVO_EN n) = 0)
    (hv : 0 ≤ ((r.tb n).t : Int) + signed 64 v * 2 ^ 32) : r.writeStep n v = r.stepBase n (signed 64 v * 2 ^ 32) :=
  if_neg (by simp only [Run.on, Run.rd_st, hen]; simpa using hv)

theorem Run.writeStep_of_invalid (r : Run s₀) {n v : Nat}
    (hv : r.rd (TIM_TB_CTL_SERVO_EN n) ≠ 0 ∨ ((r.tb n).t : Int) + signed 64 v * 2 ^ 32 < 0) : r.writeStep n v = r.ignored :=
  if_pos (by simpa [Run.on, Run.rd_st] using hv)

theorem Run.tb_stepBase (r : Run s₀) (n : Nat) (v : Int) :
    (r.stepBase n v).u.tim.tb = r.u.tim.tb.put n { r.tb n with t := (((r.tb n).t : Int) + v).toNat } := by
  unfold Run.stepBase
  dsimp only
  split <;> rfl

theorem Run.base_stepBase (r : Run s₀) (n : Nat) (v : Int) : ((r.stepBase n v).st.base n).t = (((r.tb n).t : Int) + v).toNat := by
  have hlook := congrArg (fun l : Tab Tb => (l.look n {}).t) (r.tb_stepBase n v)
  exact hlook.trans (congrArg Tb.t (Tab.look_put_same _ _ _ _))

/-- TSEL does not step once it is ESTABLISHED: Δ takes the step back (R374). -/
theorem Run.tsel_stepBase (r : Run s₀) {n : Nat} {v : Int} (hv : 0 ≤ ((r.tb n).t : Int) + v) (hest : r.rd TIM_TSEL_STATUS_ESTABLISHED ≠ 0)
    (hsrc : r.rd TIM_TSEL_STATUS_SRC_USED = n) : (r.stepBase n v).tselQ = r.tselQ := by
  have hcase : r.stepBase n v = (r.tbMod n fun b => { b with t := ((b.t : Int) + v).toNat }).setDelta (r.u.tim.delta - v) := by
    have hon : (r.tbMod n fun b => { b with t := ((b.t : Int) + v).toNat }).on TIM_TSEL_STATUS_ESTABLISHED = true := bne_iff_ne.mpr hest
    have hmine : (r.tbMod n fun b => { b with t := ((b.t : Int) + v).toNat }).rd TIM_TSEL_STATUS_SRC_USED = n := hsrc
    simp only [Run.stepBase, hon, hmine, beq_self_eq_true, Bool.and_self, if_true]
    rfl
  have hsame : (r.stepBase n v).rd TIM_TSEL_STATUS_SRC_USED = n := by rw [hcase, Run.src_setDelta]; exact hsrc
  have hbase := r.base_stepBase n v
  have hdelta : (r.stepBase n v).u.tim.delta = r.u.tim.delta - v := by rw [hcase]; rfl
  have hcount : ((r.stepBase n v).tb n).t = (((r.tb n).t : Int) + v).toNat := hbase
  simp only [Run.tselQ, hsame, hsrc, hdelta, hcount]
  congr 1
  omega

theorem Run.keeps_stepBase (r : Run s₀) (n : Nat) (v : Int) :
    r.st.KeepsBut (r.stepBase n v).st (own [TIM_TSEL_DELTA, TIM_TSEL_STATUS_SLEWING]) (fun _ => false) Units.noTime :=
  (State.KeepsBut.refl r.st).stepBase n v forgetsTime_noTime (by decide) (by decide)

/-! ## The compensation (R366) -/

/-- The compensation follows the sensor: c, the reading, and every base's effective increment. -/
def Run.compensated (r : Run s₀) : Run s₀ :=
  let tq := r.rdS (THM_TS_TEMP (r.rd TIM_COMP_CTL_SENSOR))
  (((r.tim fun t => { t with c := compC (fun k => r.rdS (TIM_COMP k)) tq }).wrS TIM_COMP_STATUS_TEMP tq).wr TIM_COMP_STATUS_COMP_HELD 0).each
    (List.range 4) fun k r => r.updateEff k

theorem exec_compUpdate_valid (hv : s.rd (THM_TS_VALID (s.rd TIM_COMP_CTL_SENSOR)) ≠ 0)
    (hr : bit (s.rd THM_RETIRED) (s.rd TIM_COMP_CTL_SENSOR) = false) : exec .compUpdate s = .next (Run.start s).compensated.st := by
  have hon : (Run.start s).on (THM_TS_VALID (s.rd TIM_COMP_CTL_SENSOR)) = true := bne_iff_ne.mpr hv
  simp only [exec, execCompUpdate, done, Run.rd_start, hon, hr, Bool.not_true, Bool.or_self, Bool.false_eq_true, if_false]
  rfl

theorem exec_compUpdate_held
    (hv : s.rd (THM_TS_VALID (s.rd TIM_COMP_CTL_SENSOR)) = 0 ∨ bit (s.rd THM_RETIRED) (s.rd TIM_COMP_CTL_SENSOR) = true) :
    exec .compUpdate s = .next (((Run.start s).wr TIM_COMP_STATUS_COMP_HELD 1).ev 475).st := by
  have hcond : (!(Run.start s).on (THM_TS_VALID (s.rd TIM_COMP_CTL_SENSOR)) || bit (s.rd THM_RETIRED) (s.rd TIM_COMP_CTL_SENSOR)) = true := by
    rcases hv with hv | hv
    · simp [Run.on, hv]
    · simp [hv]
  simp only [exec, execCompUpdate, done, Run.rd_start, hcond, if_true]

theorem Run.held_compensated (r : Run s₀) : r.compensated.rd TIM_COMP_STATUS_COMP_HELD = 0 :=
  (Run.rd_each _ (fun k _ => Run.rd_wr_ne _ _ (by simp; omega)) _).trans (Run.rd_wr_same _ _ _)

theorem State.KeepsBut.compensated {r : Run s₀} (H : s.KeepsBut r.st p m h) (htemp : p TIM_COMP_STATUS_TEMP.key = true)
    (hheld : p TIM_COMP_STATUS_COMP_HELD.key = true) (heff : ∀ k < 4, p (TIM_TB_EFF_INCR k).key = true)
    (hh : ∀ (u : Units) (c : Int), h { u with tim := { u.tim with c := c } }.quiet = h u.quiet) : s.KeepsBut r.compensated.st p m h :=
  (((H.tim _ fun u => hh u _).wrS _ _ (.inl htemp)).wr _ _ (.inl hheld)).each _ fun k hk _ hr => hr.updateEff k (heff k (List.mem_range.mp hk))

/-! ## The servo and the loss of a source (R367, R368) -/

/-- A measurement finds the base's source present and stores the offset. -/
def Run.measured (r : Run s₀) (n : Nat) (off : Int) : Run s₀ :=
  (r.tbMod n fun b => { b with present := true }).wrSat (TIM_TB_OFFSET n) (roundShift off 31)

/-- The step of a base in ACQUIRE by its offset. -/
def Run.acquireStep (r : Run s₀) (n : Nat) (off : Int) : Run s₀ :=
  ((r.measured n off).stepBase n (-off)).tbMod n fun b => { b with good := 0 }

theorem Run.base_acquireStep (r : Run s₀) (n : Nat) (off : Int) : (((r.acquireStep n off).st.base n).t : Int) = max 0 ((r.st.base n).t - off) := by
  have hpresent := congrArg Tb.t (r.base_tbMod_same n fun b => { b with present := true })
  have hstep := (r.measured n off).base_stepBase n (-off)
  have hcleared := congrArg Tb.t (((r.measured n off).stepBase n (-off)).base_tbMod_same n fun b => { b with good := 0 })
  have hcount : ((r.acquireStep n off).st.base n).t = (((r.st.base n).t : Int) + -off).toNat :=
    hcleared.trans (hstep.trans (congrArg (fun x : Nat => ((x : Int) + -off).toNat) hpresent))
  omega

theorem Run.state_acquireStep (r : Run s₀) (n : Fin 4) (off : Int) : (r.acquireStep n off).rd (TIM_TB_CTL_STATE n) = r.rd (TIM_TB_CTL_STATE n) := by
  have hkeys : ∀ n : Fin 4, own [TIM_TSEL_DELTA, TIM_TSEL_STATUS_SLEWING] (TIM_TB_CTL_STATE n).key = false
      ∧ eventKey (TIM_TB_CTL_STATE n).key = false := by decide
  obtain ⟨hown, hevent⟩ := hkeys n
  exact ((Run.keeps_stepBase _ _ _).rd_eq hown hevent).trans (Run.rd_wr_ne _ _ (by simp; omega))

theorem State.KeepsBut.acquireStep {r : Run s₀} (H : s.KeepsBut r.st p m h) (n : Nat) (off : Int) (hh : forgetsTime h)
    (ho : p (TIM_TB_OFFSET n).key = true) (hd : p TIM_TSEL_DELTA.key = true) (hs : p TIM_TSEL_STATUS_SLEWING.key = true) :
    s.KeepsBut (r.acquireStep n off).st p m h :=
  ((State.KeepsBut.wrS (H.tbMod n _ hh) (TIM_TB_OFFSET n) _ (.inl ho)).stepBase n _ hh hd hs).tbMod n _ hh

theorem exec_servoMeasurement_acquire {n : Fin 4} {o : Int} (hn : n.val < 2) (hst : s.rd (TIM_TB_CTL_STATE n) = 1) (ho : 2000 < o.natAbs)
    (hd : (Run.start s).duty 3 = true) : exec (.servoMeasurement n o) s = .next ((Run.start s).acquireStep n (o * 2 ^ 31)).st := by
  have hrd : ((Run.start s).tbMod n fun b => { b with present := true }).rd (TIM_TB_CTL_STATE n) = 1 := hst
  have hstay : (Run.start s).sourcePresent n = (Run.start s).tbMod n fun b => { b with present := true } := by
    simp [Run.sourcePresent, hrd]
  have hoff (r : Run s) : r.baseOffset n o = o * 2 ^ 31 := by
    simp only [Run.baseOffset]
    rw [if_neg (by omega), if_neg (by omega)]
  have hfar : (o * 2 ^ 31).natAbs > 1000 * 2 ^ 32 := by omega
  simp only [exec, execServoMeasurement, done, Run.rd_start, hst, hd, hstay, hrd, hoff, hfar]
  rfl

theorem exec_servoMeasurement_idle {n : Fin 4} (o : Int) (hst : s.rd (TIM_TB_CTL_STATE n) = 0 ∨ (Run.start s).duty 3 = false) :
    exec (.servoMeasurement n o) s = .next s := by
  have hcond : (s.rd (TIM_TB_CTL_STATE n) = 0 || !(Run.start s).duty 3) = true := by
    rcases hst with hst | hst <;> simp [hst]
  exact next_congr (if_pos hcond)

/-- A base's source is gone, and a pin's event says so. -/
def Run.sourceGone (r : Run s₀) (n : Nat) : Run s₀ :=
  ((r.tbMod n fun b => { b with present := false }).when (n == 2) fun r => r.ev 469).when (n == 3) fun r => r.ev 470

/-- A base in holdover runs at the mean of its last increments. -/
def Run.holdsMean (r : Run s₀) (n : Nat) : Run s₀ :=
  r.when (!(r.tb n).incrs.isEmpty) fun r => (r.wr (TIM_TB_INCR_INCR n) (meanOf (r.tb n).incrs)).updateEff n

theorem Run.loseSource_absent (r : Run s₀) {n : Nat} (hp : (r.tb n).present = false) : r.loseSource n = r := by
  simp [Run.loseSource, hp]

theorem Run.rd_sourceGone (r : Run s₀) (n : Nat) {f : Fld} (hf : eventKey f.key = false) : (r.sourceGone n).rd f = r.rd f :=
  (Run.rd_when _ _ (Run.rd_ev _ (by omega) hf)).trans (Run.rd_when _ _ (Run.rd_ev _ (by omega) hf))

theorem Run.loseSource_servoed (r : Run s₀) {n : Nat} (hn : n < 4) (hp : (r.tb n).present = true)
    (hst : r.rd (TIM_TB_CTL_STATE n) = 1 ∨ r.rd (TIM_TB_CTL_STATE n) = 2) : r.loseSource n = ((r.sourceGone n).holdsMean n).setBaseState n 3 := by
  have hrd := r.rd_sourceGone n (f := TIM_TB_CTL_STATE n) (eventKey_time (by simp; omega) (by simp; omega)).1
  unfold Run.loseSource
  rw [if_neg (by simp [hp])]
  exact if_pos (hrd ▸ hst)

theorem State.KeepsBut.sourceGone {r : Run s₀} (H : s.KeepsBut r.st p m h) (n : Nat) (hh : forgetsTime h) :
    s.KeepsBut (r.sourceGone n).st p m h := by
  have hgone := H.tbMod n (fun b => { b with present := false }) hh
  have hgenlock := hgone.when (n == 2) (f := fun r => r.ev 469) fun _ => hgone.ev (by omega)
  exact hgenlock.when _ fun _ => hgenlock.ev (by omega)

theorem State.KeepsBut.holdsMean {r : Run s₀} (H : s.KeepsBut r.st p m h) (n : Nat) (hi : p (TIM_TB_INCR_INCR n).key = true)
    (he : p (TIM_TB_EFF_INCR n).key = true) : s.KeepsBut (r.holdsMean n).st p m h :=
  H.when _ fun _ => (H.wr _ _ (.inl hi)).updateEff n he

theorem Run.u_holdsMean (r : Run s₀) (n : Nat) : (r.holdsMean n).u = r.u := by
  unfold Run.holdsMean Run.when
  split <;> rfl

theorem Run.state_holdsMean (r : Run s₀) (n : Nat) : (r.holdsMean n).rd (TIM_TB_CTL_STATE n) = r.rd (TIM_TB_CTL_STATE n) :=
  Run.rd_when _ _ ((Run.rd_wr_ne _ _ (by simp; omega)).trans (Run.rd_wr_ne _ _ (by simp; omega)))

theorem Run.tim_when_ev (r : Run s₀) (c : Bool) {e : Nat} (he : e < 512) : (r.when c fun r => r.ev e).u.tim = r.u.tim := by
  cases c
  · rfl
  · exact congrArg (fun u => u.tim) (r.quiet_ev he)

theorem Run.present_sourceGone (r : Run s₀) (n : Nat) : ((r.sourceGone n).st.base n).present = false := by
  have htim : (r.sourceGone n).u.tim = (r.tbMod n fun b => { b with present := false }).u.tim :=
    (Run.tim_when_ev _ _ (by omega)).trans (Run.tim_when_ev _ _ (by omega))
  have hgone := congrArg Tb.present (r.base_tbMod_same n fun b => { b with present := false })
  exact (congrArg (fun x : Tim => (x.tb.look n {}).present) htim).trans hgone

/-! ## The retirement of a base (R394) -/

/-- Base n is retired: its breach record, its cofferdam, and SERVO_EN cleared. -/
def Run.retireBase (r : Run s₀) (n : Nat) : Run s₀ :=
  ((r.breach { type := 11, index := n, cls := 2, action := 4, event := 464 + n }).cofferdam 11 n).wr (TIM_TB_CTL_SERVO_EN n) 0

/-- TSEL leaves a retired base while another is left. -/
def Run.leaveBase (r : Run s₀) (n : Nat) : Run s₀ :=
  if r.rd TIM_TSEL_STATUS_SRC_USED == n then
    match r.fallbackBase n with
    | some b => r.switchTsel b
    | none => r
  else r

theorem exec_timeBaseFault {n : Fin 4} (hb : bit (s.rd EVT_COFFERDAM_UNITS_TB) n = false) :
    exec (.timeBaseFault n) s = .next ((((Run.start s).retireBase n).leaveBase n).setBaseState n 0).st := by
  have hcond : ¬ bit ((Run.start s).rd EVT_COFFERDAM_UNITS_TB) n = true := by simp [hb]
  exact next_congr (if_neg hcond)

theorem State.KeepsBut.requestService {r : Run s₀} (H : s.KeepsBut r.st p m h) (hp : p EVT_SERVICE_REQ.key = true) :
    s.KeepsBut r.requestService.st p m h := by
  unfold Run.requestService
  split
  · exact H
  · exact ((H.wr _ _ (.inl hp)).ev (by omega)).smbCond 1

theorem Run.Spans.requestService {r q : Run s₀} (H : r.Spans q) : r.Spans q.requestService := by
  unfold Run.requestService
  split
  · exact H
  · exact ((H.wr _ _ (by decide)).ev 21).smbCond 1

/-- The cofferdam of base n, operation by operation. -/
theorem Run.cofferdam_base (r : Run s₀) (n : Nat) :
    r.cofferdam 11 n = (((r.set EVT_COFFERDAM_UNITS_TB (2 ^ n)).ev 19).evt fun e => { e with service := (11, n) :: e.service }).requestService := rfl

theorem State.KeepsBut.retireBase {r : Run s₀} (H : s.KeepsBut r.st p m h) (n : Nat) (hp : ∀ k, retireKey k = true → p k = true)
    (hs : p (TIM_TB_CTL_SERVO_EN n).key = true) (hh : ∀ (u : Units) (e : Evt), h { u with evt := e }.quiet = h u.quiet) :
    s.KeepsBut (r.retireBase n).st p m h :=
  ((H.breach _ (hp _ (by decide)) hh).cofferdam 11 n hp hh).wr _ _ (.inl hs)

/-- A register of the bases or of TSEL other than SERVO_EN reads after the retirement as before. -/
theorem Run.rd_retireBase (r : Run s₀) (n : Nat) {f : Fld} (hlo : 0x400000 * 8 ≤ f.key) (hhi : f.key < 0x500000 * 8)
    (hf : f.key ≠ (TIM_TB_CTL_SERVO_EN n).key) : (r.retireBase n).rd f = r.rd f := by
  have hkeeps := ((State.KeepsBut.refl (p := retireKey) (m := fun _ => false) (h := fun u => { u with evt := {} }) r.st).breach
    { type := 11, index := n, cls := 2, action := 4, event := 464 + n } (by decide) fun _ _ => rfl).cofferdam 11 n (fun _ hk => hk) fun _ _ => rfl
  exact (Run.rd_wr_ne _ _ hf).trans (hkeeps.rd_eq (eventKey_time hlo hhi).2 (eventKey_time hlo hhi).1)

/-- The cofferdam register after the retirement of base n: its bit joins the others. -/
theorem Run.retired_retireBase (r : Run s₀) (n : Nat) :
    (r.retireBase n).rd EVT_COFFERDAM_UNITS_TB = (r.rd EVT_COFFERDAM_UNITS_TB ||| 2 ^ n) % 2 ^ 4 := by
  have hservo : EVT_COFFERDAM_UNITS_TB.key ≠ (TIM_TB_CTL_SERVO_EN n).key := by
    have hkey : EVT_COFFERDAM_UNITS_TB.key = 0x100120 * 8 + 24 := rfl
    simp [hkey]; omega
  have hbreach : ∀ b : Breach, (r.breach b).rd EVT_COFFERDAM_UNITS_TB = r.rd EVT_COFFERDAM_UNITS_TB := fun b =>
    ((State.KeepsBut.refl (p := own [EVT_BREACH_SEQ_SEQ]) (m := fun _ => false) (h := fun u => { u with evt := {} }) r.st).breach b (by decide)
      fun _ _ => rfl).rd_eq (by decide) (by decide)
  have hservice (q : Run s₀) : q.requestService.rd EVT_COFFERDAM_UNITS_TB = q.rd EVT_COFFERDAM_UNITS_TB :=
    ((State.KeepsBut.refl (p := own [EVT_SERVICE_REQ]) (m := fun _ => false) (h := id) q.st).requestService (by decide)).rd_eq (by decide) (by decide)
  refine (Run.rd_wr_ne _ _ hservo).trans ?_
  rw [Run.cofferdam_base, hservice]
  refine (Run.rd_ev _ (by omega) (by decide)).trans ((Run.rd_wr_same _ _ _).trans ?_)
  rw [hbreach]
  rfl

theorem Run.status_retireBase (r : Run s₀) {n : Nat} (hn : n < 4) : (r.retireBase n).st.status 19 = true := by
  refine (Run.status_wr _ _ _ (eventKey_time (by simp; omega) (by simp; omega)).1 (by omega)).trans ?_
  rw [Run.cofferdam_base]
  exact ((Run.Spans.refl _).requestService).status 19 (by omega) (Run.status_ev _ (by omega) rfl)

theorem Run.fallbackBase_lt (r : Run s₀) {n b : Nat} (halt : r.rd TIM_TSEL_CTL_ALT < 4) (hb : r.fallbackBase n = some b) : b < 4 ∧ b ≠ n := by
  have hfound {q : Nat → Bool} (hq : ∀ k, q k = true → k ≠ n) (hl : lowest q 4 = some b) : b < 4 ∧ b ≠ n :=
    ⟨List.mem_range.mp (List.mem_of_find?_eq_some hl), hq b (List.find?_some hl)⟩
  unfold Run.fallbackBase at hb
  dsimp only at hb
  split_ifs at hb with hc
  · obtain rfl := Option.some.inj hb
    simp only [Bool.and_eq_true, bne_iff_ne] at hc
    obtain ⟨⟨hne, -⟩, -⟩ := hc
    exact ⟨halt, hne⟩
  · rcases (Option.orElse_eq_some _ _ _).mp hb with hb | ⟨-, hb⟩
    · refine hfound (fun k hk => ?_) hb
      simp only [Bool.and_eq_true, bne_iff_ne] at hk
      obtain ⟨⟨hne, -⟩, -⟩ := hk
      exact hne
    · refine hfound (fun k hk => ?_) hb
      simp only [Bool.and_eq_true, bne_iff_ne] at hk
      obtain ⟨hne, -⟩ := hk
      exact hne

/-- A base that is not retired gives TSEL somewhere to go. -/
theorem Run.fallbackBase_isSome (r : Run s₀) {n k : Nat} (hk : k < 4) (hne : k ≠ n) (hb : bit (r.rd EVT_COFFERDAM_UNITS_TB) k = false) :
    (r.fallbackBase n).isSome = true := by
  have hlow : (lowest (fun j => j != n && !bit (r.rd EVT_COFFERDAM_UNITS_TB) j) 4).isSome = true :=
    List.find?_isSome.mpr ⟨k, List.mem_range.mpr hk, by simp [hne, hb]⟩
  unfold Run.fallbackBase
  dsimp only
  split
  · rfl
  · cases lowest _ 4 with
    | some b => rfl
    | none => exact hlow

theorem Run.leaveBase_cases (r : Run s₀) {n : Nat} (halt : r.rd TIM_TSEL_CTL_ALT < 4) :
    r.leaveBase n = r ∧ (r.rd TIM_TSEL_STATUS_SRC_USED = n → r.fallbackBase n = none)
      ∨ ∃ b < 4, b ≠ n ∧ r.leaveBase n = r.switchTsel b := by
  unfold Run.leaveBase
  split
  next hsrc =>
    cases hb : r.fallbackBase n with
    | some b => exact .inr ⟨b, (r.fallbackBase_lt halt hb).1, (r.fallbackBase_lt halt hb).2, rfl⟩
    | none => exact .inl ⟨rfl, fun _ => rfl⟩
  next hsrc => exact .inl ⟨rfl, fun h => absurd (beq_iff_eq.mpr h) hsrc⟩

theorem State.KeepsBut.leaveBase {r : Run s₀} (H : s.KeepsBut r.st p m h) (n : Nat) (hh : forgetsTime h)
    (hp : ∀ f ∈ tselFields, p f.key = true) : s.KeepsBut (r.leaveBase n).st p m h := by
  unfold Run.leaveBase
  split
  · split
    · exact H.switchTsel _ hh hp
    · exact H
  · exact H

theorem Run.spans_leaveBase (r : Run s₀) (n : Nat) : r.Spans (r.leaveBase n) := by
  unfold Run.leaveBase
  split
  · split
    · exact (Run.Spans.refl r).switchTsel _
    · exact .refl r
  · exact .refl r

/-- A bit joins a register of four. -/
theorem bit_or_two_pow (v : Nat) {n k : Nat} (hk : k < 4) : bit ((v ||| 2 ^ n) % 2 ^ 4) k = (bit v k || decide (n = k)) := by
  simp only [bit_eq_testBit, Nat.testBit_mod_two_pow, Nat.testBit_or, Nat.testBit_two_pow, hk, decide_true, Bool.true_and]

/-- TSEL has left a retired base while another was left, and stays away from it when the base goes to FREE. -/
theorem Run.src_timeBaseFault (r : Run s₀) {n : Nat} (hn : n < 4) (halt : r.rd TIM_TSEL_CTL_ALT < 4)
    (hleft : ∃ k < 4, k ≠ n ∧ bit (r.rd EVT_COFFERDAM_UNITS_TB) k = false) :
    (((r.retireBase n).leaveBase n).setBaseState n 0).rd TIM_TSEL_STATUS_SRC_USED ≠ n := by
  have halt' : (r.retireBase n).rd TIM_TSEL_CTL_ALT = r.rd TIM_TSEL_CTL_ALT := r.rd_retireBase n (by decide) (by decide) (by
    have hkey : TIM_TSEL_CTL_ALT.key = 0x400100 * 8 + 10 := rfl
    simp [hkey]; omega)
  have hsrc : ((r.retireBase n).leaveBase n).rd TIM_TSEL_STATUS_SRC_USED ≠ n := by
    obtain ⟨hsame, hnone⟩ | ⟨b, hb, hne, hgoes⟩ := (r.retireBase n).leaveBase_cases (n := n) (halt' ▸ halt)
    · rw [hsame]
      intro hmine
      obtain ⟨k, hk, hkn, hbit⟩ := hleft
      have hbit' : bit ((r.retireBase n).rd EVT_COFFERDAM_UNITS_TB) k = false := by
        rw [r.retired_retireBase, bit_or_two_pow _ hk, hbit]
        simp [hkn.symm]
      have hsome := (r.retireBase n).fallbackBase_isSome hk hkn hbit'
      rw [hnone hmine] at hsome
      exact absurd hsome (by decide)
    · rw [hgoes, Run.src_switchTsel _ hb]
      exact hne
  rwa [Run.src_setBaseState_of_ne _ hn 0 hsrc]

/-- What the rest of a retirement changes: the base's state, and TSEL. -/
theorem Run.rd_tselLeft (r : Run s₀) {n : Nat} (hn : n < 4) {f : Fld} (hf : own (TIM_TB_CTL_STATE n :: tselFields) f.key = false)
    (he : eventKey f.key = false) : ((r.leaveBase n).setBaseState n 0).rd f = r.rd f :=
  (((State.KeepsBut.refl (m := fun _ => false) (h := Units.noTime) r.st).leaveBase n forgetsTime_noTime fun _ hg =>
    own_mem (List.mem_cons_of_mem _ hg)).setBaseState hn 0 forgetsTime_noTime (own_mem List.mem_cons_self) fun _ hg =>
      own_mem (List.mem_cons_of_mem _ hg)).rd_eq hf he

/-! ## The statement -/

theorem eventKey_base {n : Fin 4} {f : Fld} (hlo : (0x400000 + 0x40 * n.val) * 8 ≤ f.key) (hhi : f.key < (0x400040 + 0x40 * n.val) * 8) :
    eventKey f.key = false := (eventKey_time (by omega) (by omega)).1

/-- Settles O39: each command is a few writes, one change of a base or of TSEL and its events, read off the lemmas above. -/
theorem timeBaseCommands : Obligations.TimeBaseCommands := by
  refine ⟨?incr, ?incrIgnored, ?step, ?stepIgnored, ?comp, ?compHeld, ?servo, ?servoIdle, ?lostAbsent, ?lost, ?fault⟩
  case incr =>
    intro s n v hlo hhi hen
    have hrun : exec (.incr n v) s = .next (((Run.start s).wr (TIM_TB_INCR_INCR n) v).updateEff n).st :=
      next_congr ((Run.start s).writeIncr_of_valid hlo hhi hen)
    have hincr : ((Run.start s).wr (TIM_TB_INCR_INCR n) v).rd (TIM_TB_INCR_INCR n) = v :=
      (Run.rd_wr_same _ _ _).trans (Nat.mod_eq_of_lt (show v < 2 ^ 32 by omega))
    refine ⟨_, hrun, (Run.rd_wr_ne _ _ (by simp)).trans hincr, fun hc => ?_, ?_⟩
    · have hplain : ((Run.start s).wr (TIM_TB_INCR_INCR n) v).rd (TIM_TB_CTL_COMP_EN n) = 0 := (Run.rd_wr_ne _ _ (by simp; omega)).trans hc
      refine (Run.rd_wr_same _ _ _).trans ?_
      rw [Run.effIncr_of_plain _ hplain, hincr]
      exact Nat.mod_eq_of_lt (show v < 2 ^ 32 by omega)
    · exact ((State.KeepsBut.start s).wr _ _ (.inl (own_mem (by simp)))).updateEff n (own_mem (by simp))
  case incrIgnored =>
    intro s n v hv
    have hrun : exec (.incr n v) s = .next (Run.start s).ignored.st :=
      next_congr ((Run.start s).writeIncr_of_invalid hv)
    exact ⟨_, hrun, Run.status_ignored _, (State.KeepsBut.start s).ignored⟩
  case step =>
    intro s n v hen hv
    have hrun : exec (.step n v) s = .next ((Run.start s).stepBase n (signed 64 v * 2 ^ 32)).st :=
      next_congr ((Run.start s).writeStep_of_valid hen hv)
    refine ⟨_, hrun, ?_, fun k hk => ?_, fun hest hsrc => (Run.start s).tsel_stepBase hv hest hsrc, ?_⟩
    · rw [Run.base_stepBase]
      exact Int.toNat_of_nonneg hv
    · exact (congrArg (fun l : Tab Tb => l.look k {}) ((Run.start s).tb_stepBase n _)).trans (Tab.look_put_ne _ _ _ hk)
    · exact (State.KeepsBut.start s).stepBase n _ forgetsTime_noTime (by decide) (by decide)
  case stepIgnored =>
    intro s n v hv
    have hrun : exec (.step n v) s = .next (Run.start s).ignored.st :=
      next_congr ((Run.start s).writeStep_of_invalid hv)
    exact ⟨_, hrun, Run.status_ignored _, (State.KeepsBut.start s).ignored⟩
  case comp =>
    intro s hv hr
    exact ⟨_, exec_compUpdate_valid hv hr, Run.held_compensated _, rfl,
      (State.KeepsBut.start s).compensated (by decide) (by decide) (by decide) fun _ _ => rfl⟩
  case compHeld =>
    intro s hv
    exact ⟨_, exec_compUpdate_held hv, (Run.rd_ev _ (by omega) (by decide)).trans (Run.rd_wr_same _ _ _),
      Run.seen_ev _ (by omega) (by omega) (.inl rfl),
      ((State.KeepsBut.start s).wr _ _ (.inl (by decide))).ev (by omega)⟩
  case servo =>
    intro s n o hn hst ho hd
    exact ⟨_, exec_servoMeasurement_acquire hn hst ho hd, Run.base_acquireStep _ _ _, (Run.state_acquireStep _ n _).trans hst,
      (State.KeepsBut.start s).acquireStep n _ forgetsTime_noTime (own_mem (by simp)) (own_mem (by simp)) (own_mem (by simp))⟩
  case servoIdle => exact fun s n o hst => exec_servoMeasurement_idle o hst
  case lostAbsent =>
    intro s n hp
    exact next_congr ((Run.start s).loseSource_absent hp)
  case lost =>
    intro s n hp hst
    have hrun : exec (.sourceLost n) s = .next ((((Run.start s).sourceGone n).holdsMean n).setBaseState n 3).st :=
      next_congr ((Run.start s).loseSource_servoed n.isLt hp hst)
    have hold : (((Run.start s).sourceGone n).holdsMean n).rd (TIM_TB_CTL_STATE n) ≠ 3 := by
      rw [Run.state_holdsMean, Run.rd_sourceGone _ _ (eventKey_base (n := n) (by simp) (by simp; omega))]
      exact fun h3 => by rcases hst with hst | hst <;> exact absurd (hst.symm.trans h3) (by decide)
    refine ⟨_, hrun, Run.state_setBaseState _ n.isLt (by decide), Run.seen_setBaseState _ n.isLt hold, ?_, ?_⟩
    · rw [Run.present_setBaseState _ n.isLt]
      exact (congrArg (fun u : Units => (u.tim.tb.look n {}).present) (Run.u_holdsMean _ _)).trans (Run.present_sourceGone _ _)
    · have hmean := ((State.KeepsBut.start s).sourceGone n forgetsTime_noTime).holdsMean (p := own (TIM_TB_CTL_STATE n :: TIM_TB_INCR_INCR n
        :: TIM_TB_EFF_INCR n :: tselFields)) (m := fun _ => false) n (own_mem (by simp)) (own_mem (by simp))
      exact hmean.setBaseState n.isLt 3 forgetsTime_noTime (own_mem (by simp)) fun f hf => own_mem (List.mem_append_right [_, _, _] hf)
  case fault =>
    intro s n hb halt
    have hkeys : ∀ n : Fin 4, ∀ f ∈ [EVT_COFFERDAM_UNITS_TB, TIM_TB_CTL_SERVO_EN n],
        own (TIM_TB_CTL_STATE n :: tselFields) f.key = false ∧ eventKey f.key = false := by decide
    refine ⟨_, exec_timeBaseFault hb, ?_, ?_, Run.state_setBaseState _ n.isLt (by decide), ?_,
      fun hleft => (Run.start s).src_timeBaseFault n.isLt halt hleft, ?_⟩
    · obtain ⟨hown, hevent⟩ := hkeys n EVT_COFFERDAM_UNITS_TB (by simp)
      rw [Run.rd_st, Run.rd_tselLeft _ n.isLt hown hevent, Run.retired_retireBase, bit_or_two_pow _ n.isLt]
      simp
    · obtain ⟨hown, hevent⟩ := hkeys n (TIM_TB_CTL_SERVO_EN n) (by simp)
      exact (Run.rd_tselLeft _ n.isLt hown hevent).trans ((Run.rd_wr_same _ _ _).trans (Nat.zero_mod _))
    · exact ((Run.spans_leaveBase _ n).setBaseState n 0).status 19 (by omega) (Run.status_retireBase _ n.isLt)
    · have hretire : ∀ f ∈ TIM_TB_CTL_SERVO_EN n :: TIM_TB_CTL_STATE n :: tselFields,
          (retireKey f.key || own (TIM_TB_CTL_SERVO_EN n :: TIM_TB_CTL_STATE n :: tselFields) f.key) = true := fun f hf => by
        rw [own_mem hf, Bool.or_true]
      have htsel : ∀ f ∈ tselFields, (retireKey f.key || own (TIM_TB_CTL_SERVO_EN n :: TIM_TB_CTL_STATE n :: tselFields) f.key) = true :=
        fun f hf => hretire f (List.mem_append_right [_, _] hf)
      exact (((State.KeepsBut.start s).retireBase n (fun k hk => by simp [hk]) (hretire _ (by simp)) fun _ _ => rfl).leaveBase n (fun _ _ _ => rfl)
        htsel).setBaseState n.isLt 0 (fun _ _ _ => rfl) (hretire _ (by simp)) htsel

end Sys2Proof.Machine
end
